-- ==== Sys2Proof/Word.lean ====
section
/-!
DEFINITION. Sys2Proof/Word.lean: the 36-bit word of R5 and the 22-bit word address of R7.
-/
namespace Sys2Proof

/-- The native unit of storage: 36 bits, two's complement (R5). -/
abbrev Word := BitVec 36

/-- A word address in the 22-bit space of R7. -/
abbrev Addr := BitVec 22

end Sys2Proof
end

