-- ==== Sys2Proof/Config.lean ====
section
/-!
DEFINITION. Sys2Proof/Config.lean: what one part fixes and the spec does not give, each a constant without a body.
-/
namespace Sys2Proof

/-- Values the spec leaves open, one for each use (State.dev.free counts the uses). -/
opaque Config.freeValue : Nat → Word

/-- Contents of the boot ROM, words 0x01_0000-0x01_BFFF (R18); the spec does not give them. -/
opaque Config.bootRom : Nat → Word

/-- The device private key in OTP (R409). -/
opaque Config.devKey : Nat

/-- The bytes of the device certificate in OTP (R410). -/
opaque Config.certByte : Nat → Nat

/-- REF of an island in 0.1 M steps per second at code 36 and 25 °C, held in OTP (R570). -/
opaque Config.refSpeed : Nat → Nat

/-- SHA-256 of the key of image key slot i in OTP; 0 for an empty slot (R576). -/
opaque Config.keyHash : Nat → Nat

/-- OTP bit KEYREV[i] (R576). -/
opaque Config.keyRevoked : Nat → Bool

/-- The debug key hash in OTP: SHA-256 of the uncompressed debug key (R554). -/
opaque Config.dbgKeyHash : Nat

end Sys2Proof
end

