-- ==== Sys2Proof/Machine/Tab.lean ====
section
/-!
DEFINITION. Sys2Proof/Machine/Tab.lean: sparse tables by numeric key, the descriptors of register fields, and the
bit-field arithmetic on naturals that every family uses.
-/
namespace Sys2Proof.Machine

/-- A sparse table: (key, value) pairs, keys strictly rising, no entry equal to the key's default. -/
abbrev Tab (α : Type) := List (Nat × α)

/-- What a key holds; an unlisted key holds the default. -/
def tget {α : Type} (dflt : α) : Tab α → Nat → α
  | [], _ => dflt
  | e :: t, k => if e.1 = k then e.2 else tget dflt t k

/-- Insertion in key order, replacing the entry of the same key. -/
def tins {α : Type} : Tab α → Nat → α → Tab α
  | [], k, v => [(k, v)]
  | e :: t, k, v =>
    if k < e.1 then (k, v) :: e :: t
    else if e.1 = k then (k, v) :: t
    else e :: tins t k v

/-- Removal of a key. -/
def tdel {α : Type} (t : Tab α) (k : Nat) : Tab α := t.filter (fun e => e.1 != k)

/-- A write: writing the default removes the entry, so that equal tables are equal data. -/
def tput {α : Type} [DecidableEq α] (dflt : α) (t : Tab α) (k : Nat) (v : α) : Tab α :=
  if v = dflt then tdel t k else tins t k v

/-- Keys strictly rising. -/
def sortedKeys {α : Type} : Tab α → Bool
  | [] => true
  | [_] => true
  | e :: f :: t => decide (e.1 < f.1) && sortedKeys (f :: t)

/-- The canonical form of a table whose every key has the same default. -/
def Tab.wf {α : Type} [DecidableEq α] (dflt : α) (t : Tab α) : Bool :=
  sortedKeys t && t.all (fun e => decide (e.2 ≠ dflt))

/-- Access codes of R10. -/
inductive Acc where
  | ro | rw | rw1c | wo | rwh | rwl
  deriving DecidableEq, Repr

/-- A field of state: its key, its width in bits, and the value it takes at an L3 reset (the value of an unlisted
key). The two low bits of the key are the restore level of R11 (0 kept, 1 L1, 2 L2, 3 L3). -/
structure Fld where
  key : Nat
  w   : Nat
  rst : Nat
  deriving DecidableEq, Repr

/-- The key of a register field: word address, low bit, the copy of an agent's latch (0 where shared), level. -/
abbrev fkey (addr lo copy lvl : Nat) : Nat := ((addr * 64 + lo) * 16 + copy) * 4 + lvl

/-- The key of a variable that has no register address: variable number, instance, level. -/
abbrev hkey (n i lvl : Nat) : Nat := ((4194304 + n) * 4096 + i) * 4 + lvl

/-- One field of a register as the register table lists it. -/
structure RegFld where
  lo  : Nat
  w   : Nat
  acc : Acc
  rst : Nat
  lvl : Nat
  deriving DecidableEq, Repr

/-- A register, or a run of `count` registers `stride` apart; `latched` where each agent has its own copy. -/
structure RegRow where
  base    : Nat
  stride  : Nat
  count   : Nat
  latched : Bool
  flds    : List RegFld
  deriving DecidableEq, Repr

/-- Bits [lo + w − 1 : lo] of x. -/
def bits (x lo w : Nat) : Nat := x >>> lo % 2 ^ w

/-- x with bit b made 1 or 0. -/
def withBit (x b : Nat) (on : Bool) : Nat :=
  if x.testBit b = on then x else if on then x + 2 ^ b else x - 2 ^ b

/-- The two's-complement value of the low w bits of x (R5). -/
def sgn (w x : Nat) : Int :=
  if (x % 2 ^ w).testBit (w - 1) then (x % 2 ^ w : Nat) - (2 ^ w : Nat) else (x % 2 ^ w : Nat)

/-- The w-bit two's-complement code of an integer. -/
def unsgn (w : Nat) (x : Int) : Nat := (x % (2 ^ w : Nat)).toNat

/-- A Boolean as a bit. -/
def b2n (b : Bool) : Nat := if b then 1 else 0

/-- ⌈a / b⌉. -/
def cdiv (a b : Nat) : Nat := (a + b - 1) / b

/-- The smaller of x and the largest w-bit value. -/
def sat (w x : Nat) : Nat := min x (2 ^ w - 1)

end Sys2Proof.Machine
end

