-- ==== Sys2Proof/Machine/Crypto.lean ====
section
/-!
DEFINITION. Sys2Proof/Machine/Crypto.lean: CRC-32 (R398), SHA-256 (FIPS 180-4), HMAC-SHA-256, ECDSA over P-256
(FIPS 186-5) with the nonce of RFC 6979 (R2, R408), all over lists of bytes and naturals.
-/
namespace Sys2Proof.Machine

/-! ### Bytes -/

/-- n as `len` bytes, most significant first (R6). -/
def beBytes (len n : Nat) : List Nat := (List.range len).map (fun i => n / 256 ^ (len - 1 - i) % 256)

/-- The number that bytes spell, most significant first. -/
def beNat (l : List Nat) : Nat := l.foldl (fun a b => a * 256 + b % 256) 0

/-! ### CRC-32 (R398): polynomial 0x04C1_1DB7 reflected, initial value and final XOR 0xFFFF_FFFF -/

def crcBit (c : Nat) : Nat := if c % 2 = 1 then (c / 2) ^^^ 0xEDB88320 else c / 2

def crcByte (c b : Nat) : Nat := crcBit (crcBit (crcBit (crcBit (crcBit (crcBit (crcBit (crcBit (c ^^^ (b % 256)))))))))

def crc32 (l : List Nat) : Nat := (l.foldl crcByte 0xFFFFFFFF) ^^^ 0xFFFFFFFF

/-! ### SHA-256 -/

def shaK : List Nat :=
  [0x428A2F98, 0x71374491, 0xB5C0FBCF, 0xE9B5DBA5, 0x3956C25B, 0x59F111F1, 0x923F82A4, 0xAB1C5ED5] ++
  [0xD807AA98, 0x12835B01, 0x243185BE, 0x550C7DC3, 0x72BE5D74, 0x80DEB1FE, 0x9BDC06A7, 0xC19BF174] ++
  [0xE49B69C1, 0xEFBE4786, 0x0FC19DC6, 0x240CA1CC, 0x2DE92C6F, 0x4A7484AA, 0x5CB0A9DC, 0x76F988DA] ++
  [0x983E5152, 0xA831C66D, 0xB00327C8, 0xBF597FC7, 0xC6E00BF3, 0xD5A79147, 0x06CA6351, 0x14292967] ++
  [0x27B70A85, 0x2E1B2138, 0x4D2C6DFC, 0x53380D13, 0x650A7354, 0x766A0ABB, 0x81C2C92E, 0x92722C85] ++
  [0xA2BFE8A1, 0xA81A664B, 0xC24B8B70, 0xC76C51A3, 0xD192E819, 0xD6990624, 0xF40E3585, 0x106AA070] ++
  [0x19A4C116, 0x1E376C08, 0x2748774C, 0x34B0BCB5, 0x391C0CB3, 0x4ED8AA4A, 0x5B9CCA4F, 0x682E6FF3] ++
  [0x748F82EE, 0x78A5636F, 0x84C87814, 0x8CC70208, 0x90BEFFFA, 0xA4506CEB, 0xBEF9A3F7, 0xC67178F2]

def shaH0 : List Nat := [0x6A09E667, 0xBB67AE85, 0x3C6EF372, 0xA54FF53A, 0x510E527F, 0x9B05688C, 0x1F83D9AB, 0x5BE0CD19]

def rotr32 (n x : Nat) : Nat := (x >>> n) ||| (x <<< (32 - n) % 2 ^ 32)
def not32 (x : Nat) : Nat := 0xFFFFFFFF - x
def shaBig0 (x : Nat) : Nat := rotr32 2 x ^^^ rotr32 13 x ^^^ rotr32 22 x
def shaBig1 (x : Nat) : Nat := rotr32 6 x ^^^ rotr32 11 x ^^^ rotr32 25 x
def shaSm0 (x : Nat) : Nat := rotr32 7 x ^^^ rotr32 18 x ^^^ (x >>> 3)
def shaSm1 (x : Nat) : Nat := rotr32 17 x ^^^ rotr32 19 x ^^^ (x >>> 10)
def shaCh (x y z : Nat) : Nat := (x &&& y) ^^^ (not32 x &&& z)
def shaMaj (x y z : Nat) : Nat := (x &&& y) ^^^ (x &&& z) ^^^ (y &&& z)

/-- The message schedule, newest word first: n further words after the first 16. -/
def shaSched : Nat → List Nat → List Nat
  | 0, w => w
  | n + 1, w =>
    let w := shaSched n w
    ((shaSm1 (w.getD 1 0) + w.getD 6 0 + shaSm0 (w.getD 14 0) + w.getD 15 0) % 2 ^ 32) :: w

/-- One round on the eight working variables. -/
def shaRound (v : List Nat) (kw : Nat × Nat) : List Nat :=
  match v with
  | [a, b, c, d, e, f, g, h] =>
    let t1 := h + shaBig1 e + shaCh e f g + kw.1 + kw.2
    let t2 := shaBig0 a + shaMaj a b c
    [(t1 + t2) % 2 ^ 32, a, b, c, (d + t1) % 2 ^ 32, e, f, g]
  | _ => v

/-- The words of a block of bytes. -/
def beWords : Nat → List Nat → List Nat
  | 0, _ => []
  | n + 1, l => beNat (l.take 4) :: beWords n (l.drop 4)

def shaBlock (h : List Nat) (blk : List Nat) : List Nat :=
  let w := (shaSched 48 (beWords 16 blk).reverse).reverse
  List.zipWith (fun a b => (a + b) % 2 ^ 32) h ((shaK.zip w).foldl shaRound h)

def shaBlocks : Nat → List Nat → List Nat → List Nat
  | 0, h, _ => h
  | n + 1, h, l => shaBlocks n (shaBlock h (l.take 64)) (l.drop 64)

/-- The padded message. -/
def shaPad (l : List Nat) : List Nat :=
  l ++ [128] ++ List.replicate ((119 - l.length % 64) % 64) 0 ++ beBytes 8 (8 * l.length)

/-- SHA-256, 32 bytes. -/
def sha256 (l : List Nat) : List Nat :=
  let m := shaPad l
  (shaBlocks (m.length / 64) shaH0 m).flatMap (beBytes 4)

/-- HMAC-SHA-256 with a key of at most 64 bytes. -/
def hmac256 (key m : List Nat) : List Nat :=
  let k := (key ++ List.replicate 64 0).take 64
  sha256 (k.map (fun b => b ^^^ 0x5C) ++ sha256 (k.map (fun b => b ^^^ 0x36) ++ m))

/-! ### P-256 -/

def p256p : Nat := 0xFFFFFFFF00000001000000000000000000000000FFFFFFFFFFFFFFFFFFFFFFFF
def p256n : Nat := 0xFFFFFFFF00000000FFFFFFFFFFFFFFFFBCE6FAADA7179E84F3B9CAC2FC632551
def p256b : Nat := 0x5AC635D8AA3A93E7B3EBBD55769886BC651D06B0CC53B0F63BCE3C3E27D2604B
def p256gx : Nat := 0x6B17D1F2E12C4247F8BCE6E563A440F277037D812DEB33A0F4A13945D898C296
def p256gy : Nat := 0x4FE342E2FE1A7F9B8EE7EB4A7C0F9E162BCE33576B315ECECBB6406837BF51F5

/-- x^e modulo m, e below 2^k. -/
def powMod (m x : Nat) : Nat → Nat → Nat
  | 0, _ => 1
  | k + 1, e =>
    let h := powMod m x k (e / 2)
    if e % 2 = 1 then h * h % m * x % m else h * h % m

def invMod (m x : Nat) : Nat := powMod m (x % m) 256 (m - 2)

/-- Addition of points; none is the point at infinity. -/
def ecAdd : Option (Nat × Nat) → Option (Nat × Nat) → Option (Nat × Nat)
  | none, q => q
  | q, none => q
  | some (x1, y1), some (x2, y2) =>
    if x1 = x2 ∧ (y1 + y2) % p256p = 0 then none
    else
      let l := if x1 = x2 then 3 * (x1 * x1 + p256p - 1) * invMod p256p (2 * y1) % p256p
        else (y2 + p256p - y1) * invMod p256p (x2 + p256p - x1) % p256p
      let x3 := (l * l + 2 * p256p - x1 - x2) % p256p
      some (x3, (l * (x1 + p256p - x3) + p256p - y1) % p256p)

/-- k times a point, k below 2^n. -/
def ecMul : Nat → Nat → Option (Nat × Nat) → Option (Nat × Nat)
  | 0, _, _ => none
  | n + 1, k, q =>
    let h := ecMul n (k / 2) q
    let d := ecAdd h h
    if k % 2 = 1 then ecAdd d q else d

def p256g : Option (Nat × Nat) := some (p256gx, p256gy)

/-- The point lies on the curve. -/
def onCurve (x y : Nat) : Bool :=
  decide (x < p256p) && decide (y < p256p) && y * y % p256p == (x * x * x + (p256p - 3) * x + p256b) % p256p

/-- Candidates for the nonce of RFC 6979, with K and V as they stand. -/
def nonceLoop : Nat → List Nat → List Nat → Nat
  | 0, _, _ => 1
  | f + 1, k, v =>
    let v := hmac256 k v
    let t := beNat v
    if 1 ≤ t ∧ t < p256n then t
    else
      let k := hmac256 k (v ++ [0])
      nonceLoop f k (hmac256 k v)

/-- The nonce of RFC 6979 for private key x and message hash h (32 bytes). -/
def nonce6979 (x : Nat) (h : List Nat) : Nat :=
  let hb := beBytes 32 (beNat h % p256n)
  let xb := beBytes 32 x
  let k := hmac256 (List.replicate 32 0) (List.replicate 32 1 ++ [0] ++ xb ++ hb)
  let v := hmac256 k (List.replicate 32 1)
  let k := hmac256 k (v ++ [1] ++ xb ++ hb)
  nonceLoop 8 k (hmac256 k v)

/-- The signature (r, s) of a message under private key x. -/
def ecdsaSign (x : Nat) (m : List Nat) : Nat × Nat :=
  let h := sha256 m
  let k := nonce6979 x h
  match ecMul 256 k p256g with
  | none => (0, 0)
  | some q =>
    let r := q.1 % p256n
    (r, invMod p256n k * (beNat h + r * x) % p256n)

/-- (r, s) verifies over a message hash with the public key (qx, qy). -/
def ecdsaVerifyHash (qx qy : Nat) (h : List Nat) (r s : Nat) : Bool :=
  if onCurve qx qy && decide (1 ≤ r) && decide (r < p256n) && decide (1 ≤ s) && decide (s < p256n) then
    let w := invMod p256n s
    match ecAdd (ecMul 256 (beNat h * w % p256n) p256g) (ecMul 256 (r * w % p256n) (some (qx, qy))) with
    | none => false
    | some q => q.1 % p256n == r
  else false

def ecdsaVerify (qx qy : Nat) (m : List Nat) (r s : Nat) : Bool := ecdsaVerifyHash qx qy (sha256 m) r s

/-! ### The device key (R409) -/

/-- The public key point of the device. -/
def devPub : Nat × Nat := (ecMul 256 Config.devKey p256g).getD (0, 0)

/-- X then Y, 64 bytes. -/
def pubBytes (q : Nat × Nat) : List Nat := beBytes 32 q.1 ++ beBytes 32 q.2

/-- DEVID: bytes 0-7 of the SHA-256 of the uncompressed point. -/
def devId : List Nat := (sha256 (4 :: pubBytes devPub)).take 8

end Sys2Proof.Machine
end

