-- ==== Sys2Proof/Machine/Hidden.lean ====
section
/-!
DEFINITION. Sys2Proof/Machine/Hidden.lean: the state the spec gives the engines beside the registers: core registers,
per-channel and per-source configuration (the windows FAB_CHCFG, FAB_CHSTAT and EVT_RTE look onto), engine states,
running timers. Each is a field of the same form as a register field, under a key above every register's.
-/
namespace Sys2Proof.Machine

/-! fabric: channels (R465-R471, R487, R490) -/
/-- EN of channel i (R467). -/
abbrev H.chEn (i : Nat) : Fld := .mk (hkey 1 i 2) 1 (if i = 63 then 1 else 0)
/-- DEPTH of channel i (R467). -/
abbrev H.chDepth (i : Nat) : Fld := .mk (hkey 2 i 2) 6 (if i = 63 then 32 else 1)
/-- DST of channel i (R466). -/
abbrev H.chDst (i : Nat) : Fld := .mk (hkey 3 i 2) 4 (if i = 63 then 9 else 15)
/-- SRC of channel i (R466). -/
abbrev H.chSrc (i : Nat) : Fld := .mk (hkey 4 i 2) 4 (if i = 63 then 8 else 15)
/-- TAKEDL of channel i in µs (R487). -/
abbrev H.chTakedl (i : Nat) : Fld := .mk (hkey 5 i 2) 18 (0)
/-- SENT of channel i. -/
abbrev H.chSent (i : Nat) : Fld := .mk (hkey 6 i 2) 12 (0)
/-- LATE of channel i (R471). -/
abbrev H.chLate (i : Nat) : Fld := .mk (hkey 7 i 2) 1 (0)
/-- REFUSED of channel i (R468). -/
abbrev H.chRefused (i : Nat) : Fld := .mk (hkey 8 i 2) 1 (0)
/-- DISC of channel i (R467, R490). -/
abbrev H.chDisc (i : Nat) : Fld := .mk (hkey 9 i 2) 1 (0)
/-! event router (R478-R483) -/
/-- Count of raises of source i since PEND set (R479). -/
abbrev H.evCount (i : Nat) : Fld := .mk (hkey 10 i 2) 12 (0)
/-- TB at the raise of source i that set PEND (R481). -/
abbrev H.evStamp (i : Nat) : Fld := .mk (hkey 11 i 2) 36 (0)
/-- The event message of source i waits for credit (R479). -/
abbrev H.evHeld (i : Nat) : Fld := .mk (hkey 12 i 2) 1 (0)
/-- Route of source i: drives IRQ1n. -/
abbrev H.rteIrq1 (i : Nat) : Fld := .mk (hkey 13 i 2) 1 (0)
/-- Route of source i: drives IRQ0n. -/
abbrev H.rteIrq0 (i : Nat) : Fld := .mk (hkey 14 i 2) 1 (0)
/-- Route of source i: posts event messages. -/
abbrev H.rteChen (i : Nat) : Fld := .mk (hkey 15 i 2) 1 (0)
/-- Route of source i: channel of its messages. -/
abbrev H.rteCh (i : Nat) : Fld := .mk (hkey 16 i 2) 6 (0)
/-- A route has been written since the router started (R541). -/
abbrev H.rteWritten : Fld := .mk (hkey 17 0 2) 1 (0)
/-- Tick of the last deadline miss, plus 1 (R489: the lowest KIND of one tick stands). -/
abbrev H.dlmTick : Fld := .mk (hkey 18 0 2) 64 (0)
/-! reset controller -/
/-- Level of the reset that is asserted now, 0 none (R99). -/
abbrev H.rstHeld : Fld := .mk (hkey 19 0 0) 2 (0)
/-! cores (R427) -/
/-- Accumulator A of core i. -/
abbrev H.coreA (i : Nat) : Fld := .mk (hkey 20 i 1) 36 (0)
/-- Index register X of core i. -/
abbrev H.coreX (i : Nat) : Fld := .mk (hkey 21 i 1) 22 (0)
/-- Index register Y of core i. -/
abbrev H.coreY (i : Nat) : Fld := .mk (hkey 22 i 1) 22 (0)
/-- Entry address of core i set by the loader (R117). -/
abbrev H.coreEntry (i : Nat) : Fld := .mk (hkey 23 i 1) 22 (0)
/-- Wait set of core i: CH00-CH31 (R450). -/
abbrev H.waitLo (i : Nat) : Fld := .mk (hkey 24 i 1) 32 (0)
/-- Wait set of core i: CH32-CH63 (R450). -/
abbrev H.waitHi (i : Nat) : Fld := .mk (hkey 25 i 1) 32 (0)
/-! Meridian (R131-R163) -/
/-- The lap ends at the next tick, under a reload change (R147). -/
abbrev H.lapEnd : Fld := .mk (hkey 26 0 2) 1 (0)
/-- Tick at which an action last reached CMPO ball i, plus 1 (R155). -/
abbrev H.cmpoTick (i : Nat) : Fld := .mk (hkey 27 i 2) 64 (0)
/-- Tick of the last accepted edge of capture input i, plus 1 (R162). -/
abbrev H.capLvlTick (i : Nat) : Fld := .mk (hkey 28 i 2) 64 (0)
/-- STUCK has set in the present stretch of input i (R162). -/
abbrev H.capStuckDone (i : Nat) : Fld := .mk (hkey 29 i 2) 1 (0)
/-- Rejected candidates of input i since the last accepted edge or clear of ACT (R161). -/
abbrev H.capRej (i : Nat) : Fld := .mk (hkey 30 i 2) 4 (0)
/-- Selected edges counted by the prescaler of input i (R158). -/
abbrev H.capPresc (i : Nat) : Fld := .mk (hkey 31 i 2) 9 (0)
/-- TBEPOCH held with the capture of input i (R158). -/
abbrev H.capEpoch (i : Nat) : Fld := .mk (hkey 32 i 2) 36 (0)
/-! admission and Surveyor (R488, R558-R574) -/
/-- A further evaluation waits for the running one (R561). -/
abbrev H.admAgain : Fld := .mk (hkey 33 0 2) 1 (0)
/-! host interfaces -/
/-- The word the last read of agent i returned (R141 numbering of agents). -/
abbrev H.rdata (i : Nat) : Fld := .mk (hkey 34 i 2) 36 (0)
/-! meters (R372-R393) -/
/-- The meter of port i runs (R390, R391, R392). -/
abbrev H.mtrRun (i : Nat) : Fld := .mk (hkey 35 i 2) 1 (0)
/-- Import accumulator of port i in mJ (R378). -/
abbrev H.mtrImp (i : Nat) : Fld := .mk (hkey 36 i 2) 72 (0)
/-- Export accumulator of port i in mJ (R378). -/
abbrev H.mtrExp (i : Nat) : Fld := .mk (hkey 37 i 2) 72 (0)
/-- Import residue of port i (R378). -/
abbrev H.mtrImpR (i : Nat) : Fld := .mk (hkey 38 i 2) 44 (0)
/-- Export residue of port i (R378). -/
abbrev H.mtrExpR (i : Nat) : Fld := .mk (hkey 39 i 2) 44 (0)
/-- Import mJ the last sample of port i counted (R379). -/
abbrev H.mtrLastImp (i : Nat) : Fld := .mk (hkey 40 i 2) 44 (0)
/-- Export mJ the last sample of port i counted (R379). -/
abbrev H.mtrLastExp (i : Nat) : Fld := .mk (hkey 41 i 2) 44 (0)
/-- Strobe tick of the last sample of port i, plus 1 (R379). -/
abbrev H.mtrLastTick (i : Nat) : Fld := .mk (hkey 42 i 2) 64 (0)
/-- Flags the last sample of port i set (R386). -/
abbrev H.mtrLastFl (i : Nat) : Fld := .mk (hkey 43 i 2) 8 (0)
/-- Flags of the open segment of port i before its last sample (R386). -/
abbrev H.mtrFlBefore (i : Nat) : Fld := .mk (hkey 44 i 2) 8 (0)
/-- Import accumulator at the start of the open segment (R387). -/
abbrev H.mtrImp0 (i : Nat) : Fld := .mk (hkey 45 i 2) 72 (0)
/-- Export accumulator at the start of the open segment (R387). -/
abbrev H.mtrExp0 (i : Nat) : Fld := .mk (hkey 46 i 2) 72 (0)
/-- Carry taken into the import energy of the open segment (R388). -/
abbrev H.mtrSegCI (i : Nat) : Fld := .mk (hkey 47 i 2) 36 (0)
/-- Carry taken into the export energy of the open segment (R388). -/
abbrev H.mtrSegCE (i : Nat) : Fld := .mk (hkey 48 i 2) 36 (0)
/-- Import carry of port i (R388). -/
abbrev H.mtrCarryI (i : Nat) : Fld := .mk (hkey 49 i 2) 72 (0)
/-- Export carry of port i (R388). -/
abbrev H.mtrCarryE (i : Nat) : Fld := .mk (hkey 50 i 2) 72 (0)
/-- Start epoch of the open segment of port i. -/
abbrev H.mtrSegE0 (i : Nat) : Fld := .mk (hkey 51 i 2) 36 (0)
/-- Start TB of the open segment of port i. -/
abbrev H.mtrSegT0 (i : Nat) : Fld := .mk (hkey 52 i 2) 36 (0)
/-- Tick the open segment opened, plus 1. -/
abbrev H.mtrSegTick (i : Nat) : Fld := .mk (hkey 53 i 2) 64 (0)
/-- Contract summary of the open segment of port i (R382). -/
abbrev H.mtrSum (i : Nat) : Fld := .mk (hkey 54 i 2) 36 (0)
/-- Module identity hash in force at the start of the open segment (R402). -/
abbrev H.mtrSegId (i : Nat) : Fld := .mk (hkey 55 i 2) 128 (0)
/-- A module identity was in force at the start of the open segment (R402). -/
abbrev H.mtrSegIdV (i : Nat) : Fld := .mk (hkey 56 i 2) 1 (0)
/-- Import energy of the last closed segment of port i. -/
abbrev H.mtrLI (i : Nat) : Fld := .mk (hkey 57 i 2) 36 (0)
/-- Export energy of the last closed segment of port i. -/
abbrev H.mtrLE (i : Nat) : Fld := .mk (hkey 58 i 2) 36 (0)
/-- The settle of port i was shorter than 1000 ms (R390). -/
abbrev H.mtrShort (i : Nat) : Fld := .mk (hkey 59 i 2) 1 (0)
/-- Board serial the image calibration entry of port i names (R376). -/
abbrev H.mtrCalSer (i : Nat) : Fld := .mk (hkey 60 i 3) 64 (0)
/-- Tick RAW last changed, plus 1 (R381). -/
abbrev H.mtrRawTick (i : Nat) : Fld := .mk (hkey 61 i 2) 64 (0)
/-- Tick the settle of port i began (R390). -/
abbrev H.mtrSettle0 (i : Nat) : Fld := .mk (hkey 62 i 2) 64 (0)
/-- A start into Kindling is in progress (R27). -/
abbrev H.kindleStart : Fld := .mk (hkey 63 0 2) 1 (0)
/-- The boot ROM has transferred control: RWL fields are locked (R10). -/
abbrev H.rwlLock : Fld := .mk (hkey 64 0 3) 1 (0)
/-! modes and wake (R41-R46, R91) -/
/-- A Banked request is being carried out (R42, R43). -/
abbrev H.bankReq : Fld := .mk (hkey 65 0 2) 1 (0)
/-- Wake sources that have come and not yet been served (R91). -/
abbrev H.wakeBits : Fld := .mk (hkey 66 0 2) 16 (0)
/-! Meridian, compare -/
/-- Tick compare channel i was armed or last fired, plus 1 (R150). -/
abbrev H.cmpArm (i : Nat) : Fld := .mk (hkey 67 i 2) 64 (0)
/-- Lowest channel that acted on ball i on its last action tick (R155). -/
abbrev H.cmpoCh (i : Nat) : Fld := .mk (hkey 68 i 2) 6 (0)
/-! snapshots (R544-R548) -/
/-- Tick of the last snapshot, plus 1 (R545). -/
abbrev H.snapTick : Fld := .mk (hkey 69 0 3) 64 (0)
/-- Tick from which SNAPOUT is high in its present pulse (R548). -/
abbrev H.snapOutFrom : Fld := .mk (hkey 70 0 3) 64 (0)
/-! ports, seen by snapshots -/
/-- A power transition of port i is in progress (R185). -/
abbrev H.xferOn (i : Nat) : Fld := .mk (hkey 71 i 2) 1 (0)
/-- The command at the head of the queue of port i has started and been withdrawn; it waits again (R202, R203). -/
abbrev H.cmdHeld (i : Nat) : Fld := .mk (hkey 72 i 2) 1 (0)
/-- A started command of port i has not completed (R238). -/
abbrev H.cmdRun (i : Nat) : Fld := .mk (hkey 73 i 2) 1 (0)
/-! Ledger engine and Store (R397-R425) -/
/-- Module identity hash in force at port i (R402). -/
abbrev H.idHash (i : Nat) : Fld := .mk (hkey 74 i 2) 128 (0)
/-- A module identity is in force at port i (R402). -/
abbrev H.idValid (i : Nat) : Fld := .mk (hkey 75 i 2) 1 (0)
/-- Chain value h (R406). -/
abbrev H.lgrChain : Fld := .mk (hkey 76 0 2) 256 (0)
/-- Epoch of OPEN of the open block. -/
abbrev H.lgrOpenE : Fld := .mk (hkey 77 0 2) 36 (0)
/-- TB of OPEN of the open block. -/
abbrev H.lgrOpenT : Fld := .mk (hkey 78 0 2) 36 (0)
/-- The next block is the first after a start of the Ledger engine (R405). -/
abbrev H.lgrFirst : Fld := .mk (hkey 79 0 2) 1 (1)
/-- The Ledger engine is idle in Banked or Blaze (R422, R425). -/
abbrev H.lgrIdle : Fld := .mk (hkey 80 0 2) 1 (0)
/-- Staged slots to be committed without waiting for a full page (R422). -/
abbrev H.cmtWant : Fld := .mk (hkey 81 0 2) 16 (0)
/-- Staged log entries are to be committed without waiting for a full page. -/
abbrev H.logWant : Fld := .mk (hkey 82 0 2) 1 (0)
/-- Partition of the page program in progress, 0 none (R417). -/
abbrev H.progOn : Fld := .mk (hkey 83 0 2) 3 (0)
/-- Page index of the page program in progress. -/
abbrev H.progPage : Fld := .mk (hkey 84 0 2) 32 (0)
/-- Page index in LOG of the next program. -/
abbrev H.logHead : Fld := .mk (hkey 85 0 2) 32 (0)
/-- B of the release being carried out (R420). -/
abbrev H.relB : Fld := .mk (hkey 86 0 2) 32 (0)
/-- Partition of the page read in progress (R424). -/
abbrev H.rdPart : Fld := .mk (hkey 87 0 2) 4 (0)
/-- Page of the page read in progress (R424). -/
abbrev H.rdPage : Fld := .mk (hkey 88 0 2) 32 (0)
/-- The partition table in the Store is valid (R414). -/
abbrev H.nandFmt : Fld := .mk (hkey 89 0 0) 1 (0)
/-- Spares of partition i in use (R415). -/
abbrev H.spUsed (i : Nat) : Fld := .mk (hkey 90 i 0) 16 (0)
/-! Gazetteer values in force (R529) -/
/-- SHUNT of port i in µΩ. -/
abbrev H.gzShunt (i : Nat) : Fld := .mk (hkey 91 i 3) 16 (0)
/-- NTCR of port i in 10 Ω units. -/
abbrev H.gzNtcr (i : Nat) : Fld := .mk (hkey 92 i 3) 16 (0)
/-- NTCB of port i in K. -/
abbrev H.gzNtcb (i : Nat) : Fld := .mk (hkey 93 i 3) 16 (0)
/-- VSCALE of port i in µV/V. -/
abbrev H.gzVscale (i : Nat) : Fld := .mk (hkey 94 i 3) 16 (0)
/-- ISCALE of port i in µV/A. -/
abbrev H.gzIscale (i : Nat) : Fld := .mk (hkey 95 i 3) 16 (0)
/-- IRATE of quad i in 50 mA units. -/
abbrev H.gzIrate (i : Nat) : Fld := .mk (hkey 96 i 3) 16 (0)
/-- VRATE of quad i in 10 mV units. -/
abbrev H.gzVrate (i : Nat) : Fld := .mk (hkey 97 i 3) 16 (0)
/-- A record of quad i has been valid since L3 (R327). -/
abbrev H.gzEver (i : Nat) : Fld := .mk (hkey 98 i 3) 1 (0)
/-- The record of quad i is read and in force (R328). -/
abbrev H.gzValid (i : Nat) : Fld := .mk (hkey 99 i 2) 1 (0)
/-! guard (R310-R349) -/
/-- Role the guard of port i holds: 1 sink (R312, R344). -/
abbrev H.grdSink (i : Nat) : Fld := .mk (hkey 100 i 3) 1 (0)
/-- Vexp of port i in 10 mV units (R332, R344). -/
abbrev H.vexp (i : Nat) : Fld := .mk (hkey 101 i 3) 13 (500)
/-- I2t accumulator of port i in mA² × 1/64 ms (R331). -/
abbrev H.grdQ (i : Nat) : Fld := .mk (hkey 102 i 2) 64 (0)
/-- Sum of the current samples of the running 1 ms of port i, 32-bit two's complement, mA. -/
abbrev H.avgI (i : Nat) : Fld := .mk (hkey 103 i 2) 32 (0)
/-- Sum of the VBS samples of the running 1 ms of port i, mV. -/
abbrev H.avgV (i : Nat) : Fld := .mk (hkey 104 i 2) 32 (0)
/-- Samples in the running 1 ms of port i. -/
abbrev H.avgN (i : Nat) : Fld := .mk (hkey 105 i 2) 7 (0)
/-- Sum of the RA samples of the running 100 ms window of port i, µΩ. -/
abbrev H.pathA (i : Nat) : Fld := .mk (hkey 106 i 2) 64 (0)
/-- Sum of the RB samples of the running 100 ms window of port i, µΩ. -/
abbrev H.pathB (i : Nat) : Fld := .mk (hkey 107 i 2) 64 (0)
/-- Samples taken in the running 100 ms window of port i. -/
abbrev H.pathN (i : Nat) : Fld := .mk (hkey 108 i 2) 13 (0)
/-- Monitor samples since the running 100 ms window of port i began. -/
abbrev H.pathW (i : Nat) : Fld := .mk (hkey 109 i 2) 13 (0)
/-- Consecutive windows of port i above EFF RPATH (R335). -/
abbrev H.pathOver (i : Nat) : Fld := .mk (hkey 110 i 2) 2 (0)
/-- Mean RA of the last window of port i, µΩ. -/
abbrev H.pathRA (i : Nat) : Fld := .mk (hkey 111 i 2) 32 (0)
/-- Mean RB of the last window of port i, µΩ. -/
abbrev H.pathRB (i : Nat) : Fld := .mk (hkey 112 i 2) 32 (0)
/-- The last window of port i measured RA and RB. -/
abbrev H.pathMeas (i : Nat) : Fld := .mk (hkey 113 i 2) 1 (0)
/-- Tick at which the stop of port i began, plus 1 (R337). -/
abbrev H.stopTick (i : Nat) : Fld := .mk (hkey 114 i 2) 64 (0)
/-- The last NTC reading of port i was out of range (R330). -/
abbrev H.ntcBad (i : Nat) : Fld := .mk (hkey 115 i 2) 1 (0)
/-- The last sample of port i showed current with both gates off (R330). -/
abbrev H.offCur (i : Nat) : Fld := .mk (hkey 116 i 2) 1 (0)
/-- Port i has had its first inrush of a start into Kindling (R37). -/
abbrev H.inrushDone (i : Nat) : Fld := .mk (hkey 117 i 2) 1 (0)
/-- Inrush rate of port i in 0.1 V/ms (R320). -/
abbrev H.inrushRate (i : Nat) : Fld := .mk (hkey 118 i 2) 10 (0)
/-- Gate pads of port i as held through an L2: the GATES code (R58). -/
abbrev H.padGates (i : Nat) : Fld := .mk (hkey 119 i 3) 2 (0)
/-- DIS pad of port i: discharge on (R58). -/
abbrev H.padDis (i : Nat) : Fld := .mk (hkey 120 i 3) 1 (1)
/-- VCONN switch of port i as held through an L2 (R58). -/
abbrev H.padVcon (i : Nat) : Fld := .mk (hkey 121 i 3) 1 (0)
/-- Cause of a stop made during hold of port i (R344). -/
abbrev H.holdWhy (i : Nat) : Fld := .mk (hkey 122 i 3) 5 (0)
/-- Kind of a stop made during hold of port i (R344). -/
abbrev H.holdKind (i : Nat) : Fld := .mk (hkey 123 i 3) 2 (0)
/-- A Hard_Reset was latched during hold of port i (R126). -/
abbrev H.holdHr (i : Nat) : Fld := .mk (hkey 124 i 3) 1 (0)
/-- Orientation of port i as held through an L2. -/
abbrev H.holdOri (i : Nat) : Fld := .mk (hkey 125 i 3) 2 (0)
/-! converter interface (R216) -/
/-- Voltage setpoint of port i as source, 10 mV units, held through L2. -/
abbrev H.vset (i : Nat) : Fld := .mk (hkey 126 i 3) 13 (0)
/-- Voltage setpoint at which the ramp of port i began. -/
abbrev H.vfrom (i : Nat) : Fld := .mk (hkey 127 i 2) 13 (0)
/-- Voltage setpoint of port i after the lowering of R208 and R297, held through L2 (R58). -/
abbrev H.vnow (i : Nat) : Fld := .mk (hkey 128 i 3) 13 (0)
/-- Input-current setpoint of port i as sink, 10 mA units, held through L2. -/
abbrev H.iset (i : Nat) : Fld := .mk (hkey 129 i 3) 16 (0)
/-- The converter of port i is in input-current mode. -/
abbrev H.imode (i : Nat) : Fld := .mk (hkey 130 i 3) 1 (0)
/-- PnnPG of port i as last reported (R217). -/
abbrev H.pg (i : Nat) : Fld := .mk (hkey 131 i 2) 1 (1)
/-- The ramp of port i has ended and the transition is settling (R216). -/
abbrev H.settleOn (i : Nat) : Fld := .mk (hkey 132 i 2) 1 (0)
/-- What the transition of port i serves: 1 PD contract, 2 HPM contract, 3 swap, 4 vSafe5V. -/
abbrev H.xferKind (i : Nat) : Fld := .mk (hkey 133 i 2) 4 (0)
/-! attach (R164-R187) -/
/-- Port i is in the source phase of its toggle. -/
abbrev H.toggleSrc (i : Nat) : Fld := .mk (hkey 134 i 2) 1 (0)
/-- Full toggle periods port i has run Unattached since its record was read, to 2 (R40). -/
abbrev H.togglePer (i : Nat) : Fld := .mk (hkey 135 i 2) 2 (0)
/-- Port i has left Disabled and not yet attached: Try.SRC is excepted (R173). -/
abbrev H.deadBat (i : Nat) : Fld := .mk (hkey 136 i 2) 1 (0)
/-- DISWHY bit 1 of port i stays until the release, for a failed quad or an OTP error (R49, R116). -/
abbrev H.dis1Held (i : Nat) : Fld := .mk (hkey 137 i 2) 1 (0)
/-- Port i leaves Attached.SRC and waits for VBS below 0.8 V (R171). -/
abbrev H.detaching (i : Nat) : Fld := .mk (hkey 138 i 2) 1 (0)
/-- ROLE in force at port i (R189). -/
abbrev H.rolePend (i : Nat) : Fld := .mk (hkey 139 i 2) 2 (0)
/-- TRYSRC in force at port i (R189). -/
abbrev H.tryPend (i : Nat) : Fld := .mk (hkey 140 i 2) 1 (1)
/-- PDEN in force at port i (R192). -/
abbrev H.pdOn (i : Nat) : Fld := .mk (hkey 141 i 2) 1 (1)
/-- AUTOVCS in force at port i (R192). -/
abbrev H.autoVcs (i : Nat) : Fld := .mk (hkey 142 i 2) 1 (1)
/-- CC overvoltage stands at port i (R180). -/
abbrev H.ccov (i : Nat) : Fld := .mk (hkey 143 i 2) 1 (0)
/-- The connection of port i was entered as sink: the partner supplies VCONN (R178). -/
abbrev H.snkEntry (i : Nat) : Fld := .mk (hkey 144 i 3) 1 (0)
/-- VCONN overcurrent holds at port i until it is Unattached (R179). -/
abbrev H.vconnOc (i : Nat) : Fld := .mk (hkey 145 i 2) 1 (0)
/-- Mask of the sink-disconnect check of port i: 1 in a transition or swap, 2 in a Hard_Reset (R213). -/
abbrev H.snkMask (i : Nat) : Fld := .mk (hkey 146 i 2) 2 (0)
/-- Tick at which a transition mask of port i ends, plus 1; 0 none yet (R213). -/
abbrev H.maskEnd (i : Nat) : Fld := .mk (hkey 147 i 2) 64 (0)
/-- Rp code of the partner that port i last recognised (R183). -/
abbrev H.rpLevel (i : Nat) : Fld := .mk (hkey 148 i 2) 3 (0)
/-- Rejected CC candidates of port i (R168). -/
abbrev H.ccRej (i : Nat) : Fld := .mk (hkey 149 i 2) 4 (0)
/-- The active line of port i counts as busy (R181). -/
abbrev H.lineBusy (i : Nat) : Fld := .mk (hkey 150 i 2) 1 (0)
/-- Length in ticks of the source phase of the toggle period in progress at port i (R175). -/
abbrev H.togSrcLen (i : Nat) : Fld := .mk (hkey 151 i 2) 24 (0)
/-- Tick of the last emergency detach of port i, plus 1 (R187). -/
abbrev H.emTick (i : Nat) : Fld := .mk (hkey 152 i 2) 64 (0)
/-- tCCDebounce of port i has ended and the port waits for VBS (R171). -/
abbrev H.ccSettle (i : Nat) : Fld := .mk (hkey 153 i 2) 1 (0)
/-! protocol engine (R191-R240) -/
/-- GoodCRC messages port i has sent (R194). -/
abbrev H.gcSent (i : Nat) : Fld := .mk (hkey 154 i 2) 16 (0)
/-- What port i awaits: 1 Request, 2 Accept of a Request, 3 Accept of Soft_Reset, 4 reply to PR_Swap, 5 reply to VCONN_Swap, 6 reply to a query, 7 HPM_Request, 8 HPM_Accept, 9 PS_RDY after VCONN_Swap. -/
abbrev H.await (i : Nat) : Fld := .mk (hkey 155 i 2) 4 (0)
/-- STATE of port i before the exchange in progress. -/
abbrev H.prevState (i : Nat) : Fld := .mk (hkey 156 i 2) 5 (0)
/-- An exchange is in progress at port i. -/
abbrev H.exOn (i : Nat) : Fld := .mk (hkey 157 i 2) 1 (0)
/-- The exchange in progress is the engine's own. -/
abbrev H.exOwn (i : Nat) : Fld := .mk (hkey 158 i 2) 1 (0)
/-- Tick at which the exchange of port i began (R236). -/
abbrev H.exStart (i : Nat) : Fld := .mk (hkey 159 i 2) 64 (0)
/-- Service time of its kind, ms (R235). -/
abbrev H.exS (i : Nat) : Fld := .mk (hkey 160 i 2) 11 (0)
/-- Own exchanges port i waits to start, one bit for each kind. -/
abbrev H.want (i : Nat) : Fld := .mk (hkey 161 i 2) 16 (0)
/-- Own exchange of port i in its tSinkTx or SinkTxOK wait, plus 1. -/
abbrev H.ownWait (i : Nat) : Fld := .mk (hkey 162 i 2) 5 (0)
/-- RDO of the contract in force at port i. -/
abbrev H.rdo (i : Nat) : Fld := .mk (hkey 163 i 2) 32 (0)
/-- RDO being negotiated at port i. -/
abbrev H.rdoNew (i : Nat) : Fld := .mk (hkey 164 i 2) 32 (0)
/-- Contract being negotiated at port i, in the layout of PRTnn_CONTRACT. -/
abbrev H.newCon (i : Nat) : Fld := .mk (hkey 165 i 2) 36 (0)
/-- Object j of the last offer of port i (R200). -/
abbrev H.offer (i j : Nat) : Fld := .mk (hkey 166 (i * 16 + j) 2) 32 (0)
/-- The last offer of port i was clipped by the cable current (R194). -/
abbrev H.offerCbl (i : Nat) : Fld := .mk (hkey 167 i 2) 1 (0)
/-- The last offer of port i was clipped by the Contour cap (R194). -/
abbrev H.offerBud (i : Nat) : Fld := .mk (hkey 168 i 2) 1 (0)
/-- Slots that the SRC_OFFER decision of port i keeps (R230). -/
abbrev H.offerMask (i : Nat) : Fld := .mk (hkey 169 i 2) 11 (2047)
/-- Capabilities of port i are due, once the conditions of R204 hold. -/
abbrev H.offerDue (i : Nat) : Fld := .mk (hkey 170 i 2) 1 (0)
/-- SRC_OFFER of port i has been decided. -/
abbrev H.offerOk (i : Nat) : Fld := .mk (hkey 171 i 2) 1 (0)
/-- The offer due belongs to an own renegotiation that waits for its turn (R201, R223). -/
abbrev H.offerOwn (i : Nat) : Fld := .mk (hkey 172 i 2) 1 (0)
/-- The offer due or last made is EPR_Source_Capabilities. -/
abbrev H.offerEpr (i : Nat) : Fld := .mk (hkey 173 i 2) 1 (0)
/-- VBS of port i has reached vSafe5V (R204). -/
abbrev H.vsafe5 (i : Nat) : Fld := .mk (hkey 174 i 2) 1 (0)
/-- Cable discovery of port i has ended or been skipped (R204). -/
abbrev H.discDone (i : Nat) : Fld := .mk (hkey 175 i 2) 1 (0)
/-- Capabilities sent without GoodCRC (R204). -/
abbrev H.capsCnt (i : Nat) : Fld := .mk (hkey 176 i 2) 6 (0)
/-- Hard_Resets without a PD response (R220). -/
abbrev H.hrTry (i : Nat) : Fld := .mk (hkey 177 i 2) 2 (0)
/-- Waits received in the present exchange (R211). -/
abbrev H.waits (i : Nat) : Fld := .mk (hkey 178 i 2) 2 (0)
/-- The Request outstanding is that for vSafe5V (R211). -/
abbrev H.vs5req (i : Nat) : Fld := .mk (hkey 179 i 2) 1 (0)
/-- Hard_Reset recovery of port i: 1 signalling, 2 tPSHardReset, 3 to vSafe0V, 4 tSrcRecover, 5 VBUS away, 6 VBUS back. -/
abbrev H.hrPhase (i : Nat) : Fld := .mk (hkey 180 i 2) 3 (0)
/-- Port i resumes a held contract (R221). -/
abbrev H.resume (i : Nat) : Fld := .mk (hkey 181 i 2) 1 (0)
/-- The conditions of EPR_OUT hold and its ask has been made (R214). -/
abbrev H.eprArmed (i : Nat) : Fld := .mk (hkey 182 i 2) 1 (0)
/-- A Contour renegotiation of port i is due (R223). -/
abbrev H.reneg (i : Nat) : Fld := .mk (hkey 183 i 2) 1 (0)
/-- It follows a raised cap (R361). -/
abbrev H.renegUp (i : Nat) : Fld := .mk (hkey 184 i 2) 1 (0)
/-- Its input-change tick (R362). -/
abbrev H.renegTin (i : Nat) : Fld := .mk (hkey 185 i 2) 64 (0)
/-- Next chunk of the extended message in transmission (R195). -/
abbrev H.chunkNo (i : Nat) : Fld := .mk (hkey 186 i 2) 4 (0)
/-- A BIST carrier runs at port i. -/
abbrev H.bist (i : Nat) : Fld := .mk (hkey 187 i 2) 1 (0)
/-- Waits received by VCONN_Swap (R222). -/
abbrev H.vcsTry (i : Nat) : Fld := .mk (hkey 188 i 2) 2 (0)
/-- VCONN_Swap is not tried again until the next attach (R222). -/
abbrev H.vcsOff (i : Nat) : Fld := .mk (hkey 189 i 2) 1 (0)
/-- An explicit contract has taken effect since the last attach or Hard_Reset (R276). -/
abbrev H.firstCon (i : Nat) : Fld := .mk (hkey 190 i 2) 1 (0)
/-! asks (R224-R230) -/
/-- Asks counted at port i (R229). -/
abbrev H.askNext (i : Nat) : Fld := .mk (hkey 191 i 2) 12 (0)
/-- Trigger tick of the ask outstanding. -/
abbrev H.askTrig (i : Nat) : Fld := .mk (hkey 192 i 2) 64 (0)
/-- Word 2 of the ask outstanding. -/
abbrev H.askW2 (i : Nat) : Fld := .mk (hkey 193 i 2) 36 (0)
/-- Word 3 of the ask outstanding. -/
abbrev H.askW3 (i : Nat) : Fld := .mk (hkey 194 i 2) 36 (0)
/-- Commands accepted at port i (R240). -/
abbrev H.ticketNext (i : Nat) : Fld := .mk (hkey 195 i 2) 12 (0)
/-! swap (R241-R263) -/
/-- Retries made after Wait (R247). -/
abbrev H.swWaits (i : Nat) : Fld := .mk (hkey 196 i 2) 2 (0)
/-- Back-offs after a lost or cancelled transmission (R254). -/
abbrev H.swBack (i : Nat) : Fld := .mk (hkey 197 i 2) 3 (0)
/-- WAITRETRY in force for the exchange (R269). -/
abbrev H.swRetryMax (i : Nat) : Fld := .mk (hkey 198 i 2) 2 (2)
/-- An accepted swap is in progress (t_c to t_e). -/
abbrev H.swAcc (i : Nat) : Fld := .mk (hkey 199 i 2) 1 (0)
/-- Source_Capabilities wait for tSwapSourceStart (R256). -/
abbrev H.swCapWait (i : Nat) : Fld := .mk (hkey 200 i 2) 1 (0)
/-! VDM and HPM (R270-R308) -/
/-- VDM request outstanding: 1 Discover Identity, 2 SVIDs, 3 Modes, 4 Enter Mode, 5 Exit Mode, 6 Record, 7 Telemetry, 9 Enter Mode command, 10 Exit Mode command. -/
abbrev H.vdmWhat (i : Nat) : Fld := .mk (hkey 201 i 2) 4 (0)
/-- Its target: 0 SOP, 1 SOP', 2 SOP''. -/
abbrev H.vdmTgt (i : Nat) : Fld := .mk (hkey 202 i 2) 2 (0)
/-- BUSY answers received (R273). -/
abbrev H.vdmBusyN (i : Nat) : Fld := .mk (hkey 203 i 2) 2 (0)
/-- Repeats of Discover Identity (R275), or Discover SVIDs requests made. -/
abbrev H.vdmCnt (i : Nat) : Fld := .mk (hkey 204 i 2) 5 (0)
/-- SVID 0x3C5A has been listed in the discovery of port i. -/
abbrev H.vdmFound (i : Nat) : Fld := .mk (hkey 205 i 2) 1 (0)
/-- Discover Identity only (R278). -/
abbrev H.vdmIdOnly (i : Nat) : Fld := .mk (hkey 206 i 2) 1 (0)
/-- The VDM sequence is a started DISCOVER command, one more than its target; 0 none. -/
abbrev H.vdmCmd (i : Nat) : Fld := .mk (hkey 207 i 2) 2 (0)
/-- SVID and object position of an ENTER_MODE or EXIT_MODE command. -/
abbrev H.vdmSvid (i : Nat) : Fld := .mk (hkey 208 i 2) 32 (0)
/-- Partner discovery has run since the last attach or Hard_Reset. -/
abbrev H.ptnDone (i : Nat) : Fld := .mk (hkey 209 i 2) 1 (0)
/-- Cable discovery has run since the last attach. -/
abbrev H.cblDone (i : Nat) : Fld := .mk (hkey 210 i 2) 1 (0)
/-- HPM is entered (R284). -/
abbrev H.hpmOn (i : Nat) : Fld := .mk (hkey 211 i 2) 1 (0)
/-- HPM_TRY is not posted again (R283). -/
abbrev H.hpmNo (i : Nat) : Fld := .mk (hkey 212 i 2) 1 (0)
/-- HPM_TRY waits for an ask outstanding (R228). -/
abbrev H.hpmPend (i : Nat) : Fld := .mk (hkey 213 i 2) 1 (0)
/-- Pilot check: 1 running, 2 passed, 3 failed (R282). -/
abbrev H.pilot (i : Nat) : Fld := .mk (hkey 214 i 2) 2 (0)
/-- HPM entry or exit is a started command. -/
abbrev H.hpmCmd (i : Nat) : Fld := .mk (hkey 215 i 2) 1 (0)
/-- Profile named for the entry, plus 1. -/
abbrev H.hpmProf (i : Nat) : Fld := .mk (hkey 216 i 2) 5 (0)
/-- L of the identity record (R285). -/
abbrev H.recLen (i : Nat) : Fld := .mk (hkey 217 i 2) 16 (0)
/-- Next chunk of the identity record. -/
abbrev H.recNext (i : Nat) : Fld := .mk (hkey 218 i 2) 8 (0)
/-- The record chunk outstanding is a command's. -/
abbrev H.recCmd (i : Nat) : Fld := .mk (hkey 219 i 2) 1 (0)
/-- Offer VDO 1 sent or received. -/
abbrev H.hpmV1 (i : Nat) : Fld := .mk (hkey 220 i 2) 32 (0)
/-- Offer VDO 2 sent or received. -/
abbrev H.hpmV2 (i : Nat) : Fld := .mk (hkey 221 i 2) 32 (0)
/-- Request VDO sent or received. -/
abbrev H.hpmReq (i : Nat) : Fld := .mk (hkey 222 i 2) 32 (0)
/-- Waits in the HPM sequence. -/
abbrev H.hpmWaits (i : Nat) : Fld := .mk (hkey 223 i 2) 2 (0)
/-- The HPM sequence resumes a held contract (R633). -/
abbrev H.hpmHeld (i : Nat) : Fld := .mk (hkey 224 i 2) 1 (0)
/-- The sequence repeats the contract in force, with TRAMP 0. -/
abbrev H.hpmRepeat (i : Nat) : Fld := .mk (hkey 225 i 2) 1 (0)
/-- HPM_Accept verdict 0 has been sent or received in the sequence. -/
abbrev H.hpmVerd (i : Nat) : Fld := .mk (hkey 226 i 2) 1 (0)
/-- Last HPM_CEILING command value (R301). -/
abbrev H.ceilCmd (i : Nat) : Fld := .mk (hkey 227 i 2) 12 (4095)
/-- Own ceiling (R301). -/
abbrev H.ownCeil (i : Nat) : Fld := .mk (hkey 228 i 2) 12 (0)
/-- Own ceiling last sent. -/
abbrev H.ceilSent (i : Nat) : Fld := .mk (hkey 229 i 2) 12 (0)
/-- A changed own ceiling of port i waits for the line to become free (R301). -/
abbrev H.ceilWait (i : Nat) : Fld := .mk (hkey 230 i 2) 1 (0)
/-- Tick at which the own ceiling changed (R302). -/
abbrev H.ceilTick (i : Nat) : Fld := .mk (hkey 231 i 2) 64 (0)
/-- HPM_CEILING waits for its message (R305). -/
abbrev H.ceilCmdRun (i : Nat) : Fld := .mk (hkey 232 i 2) 1 (0)
/-! Contour (R351-R370) -/
/-- Charge budget in force (R353). -/
abbrev H.budChg : Fld := .mk (hkey 233 0 2) 24 (0)
/-- Discharge budget in force (R353). -/
abbrev H.budDis : Fld := .mk (hkey 234 0 2) 24 (0)
/-- BUDnn_LIM in force (R353). -/
abbrev H.budLim (i : Nat) : Fld := .mk (hkey 235 i 2) 36 (0)
/-- BUDnn_CTRL in force (R353). -/
abbrev H.budCtl (i : Nat) : Fld := .mk (hkey 236 i 2) 16 (305)
/-- BUDnn_LIM of port i has taken effect since release (R355). -/
abbrev H.budLimW (i : Nat) : Fld := .mk (hkey 237 i 2) 1 (0)
/-- A BUDnn_LIM write of port i is stored under HOLD. -/
abbrev H.budLimS (i : Nat) : Fld := .mk (hkey 238 i 2) 1 (0)
/-- A BUD_CHG write is stored under HOLD. -/
abbrev H.budChgS : Fld := .mk (hkey 239 0 2) 1 (0)
/-- A BUD_DIS write is stored under HOLD. -/
abbrev H.budDisS : Fld := .mk (hkey 240 0 2) 1 (0)
/-- Port i was taken over from hold with a contract (R355). -/
abbrev H.budNoCap (i : Nat) : Fld := .mk (hkey 241 i 2) 1 (0)
/-- Tick of the latest input change (R362). -/
abbrev H.budTin : Fld := .mk (hkey 242 0 2) 64 (0)
/-- Reason of the latest input change (R365). -/
abbrev H.budWhy : Fld := .mk (hkey 243 0 2) 3 (0)
/-- Reason of a gathered change that concerns port i itself, 7 none (R365). -/
abbrev H.budWhyP (i : Nat) : Fld := .mk (hkey 244 i 2) 3 (7)
/-- Confirmation deadline of port i (R366). -/
abbrev H.budDl (i : Nat) : Fld := .mk (hkey 245 i 2) 64 (0)
/-! two-wire blocks (R492-R522) -/
/-- Controller activity of block i: 0 none, 1 record read, 2 TWn_MCMD transfer, 3 host call (R504). -/
abbrev H.twOp (i : Nat) : Fld := .mk (hkey 246 i 2) 2 (0)
/-- A TWn_MCMD transfer of block i waits or is in progress (R505). -/
abbrev H.twMcmd (i : Nat) : Fld := .mk (hkey 247 i 2) 1 (0)
/-- Copy number of the agent whose TWn_MCMD transfer that is (R505). -/
abbrev H.twWho (i : Nat) : Fld := .mk (hkey 248 i 2) 4 (0)
/-- Its RXLEN in [7:4] and TXLEN in [3:0] (R505). -/
abbrev H.twLen (i : Nat) : Fld := .mk (hkey 249 i 2) 8 (0)
/-- Arbitration losses of the present controller transfer of block i (R509). -/
abbrev H.twArb (i : Nat) : Fld := .mk (hkey 250 i 2) 5 (0)
/-- BRSTn pulses made in the present recovery of block i (R515). -/
abbrev H.twPulse (i : Nat) : Fld := .mk (hkey 251 i 2) 2 (0)
/-- A BRSTn pulse of block i, with its 5 ms wait, is in progress (R515). -/
abbrev H.twBrst (i : Nat) : Fld := .mk (hkey 252 i 2) 1 (0)
/-- A nine-pulse recovery of block i is in progress (R514). -/
abbrev H.twNine (i : Nat) : Fld := .mk (hkey 253 i 2) 1 (0)
/-- OWNEN [14], OWNADDR [13:7], FILTN [6:2] and MODE [1:0] of block i as they are in force (R522). -/
abbrev H.twCfg (i : Nat) : Fld := .mk (hkey 254 i 2) 15 (if i = 0 then 29717 else 21)
/-! Gazetteer scans (R523-R533) -/
/-- Scan of quad i: 1 a record read waits for its bus or its retry, 2 the read is on the bus (R525). -/
abbrev H.gzScan (i : Nat) : Fld := .mk (hkey 255 i 2) 2 (0)
/-- Failed reads of the running scan of quad i (R525). -/
abbrev H.gzTry (i : Nat) : Fld := .mk (hkey 256 i 2) 2 (0)
/-- A further scan of quad i has been requested during the running one (R526). -/
abbrev H.gzAgain (i : Nat) : Fld := .mk (hkey 257 i 2) 1 (0)
/-- The 1 s probe of quad i fell due during Banked (R526). -/
abbrev H.gzDue (i : Nat) : Fld := .mk (hkey 258 i 2) 1 (0)
/-! Surveyor (R557-R574) -/
/-- A sweep gate is open (R558). -/
abbrev H.svyGate : Fld := .mk (hkey 259 0 2) 1 (0)
/-- The next sweep waits until SET equals PLAN after Banked (R566). -/
abbrev H.svyDue : Fld := .mk (hkey 260 0 2) 1 (0)
/-- A re-measure is wanted (R563). -/
abbrev H.svyRe : Fld := .mk (hkey 261 0 2) 1 (0)
/-- Tick from which its gate has run, plus 1; 0 while SET has not reached the code (R563). -/
abbrev H.svyReAt : Fld := .mk (hkey 262 0 2) 64 (0)
/-- PLAN is to move by one code: 1 up, 2 down (R563, R564). -/
abbrev H.svyMove : Fld := .mk (hkey 263 0 2) 2 (0)
/-- Lowering trial: 1 awaits the re-measure, 2 the evaluation (R564). -/
abbrev H.svyTrial : Fld := .mk (hkey 264 0 2) 2 (0)
/-- Consecutive sweeps with a candidate above the floor by 2 % (R561). -/
abbrev H.svyUp : Fld := .mk (hkey 265 0 2) 6 (0)
/-- Lowest candidate of those sweeps. -/
abbrev H.svyUpMin : Fld := .mk (hkey 266 0 2) 24 (0)
/-- Island of that candidate. -/
abbrev H.svyUpIsl : Fld := .mk (hkey 267 0 2) 4 (0)
/-- Consecutive sweeps with a candidate above TARGET by 4 % (R564). -/
abbrev H.svyDn : Fld := .mk (hkey 268 0 2) 10 (0)
/-- TARGET in force since the last sweep began (R575). -/
abbrev H.svyTgt : Fld := .mk (hkey 269 0 2) 13 (0)
/-- Floor at which the Surveyor last shed (R569). -/
abbrev H.svyShed : Fld := .mk (hkey 270 0 2) 24 (0)
/-- Consecutive sweeps with the floor above that by 4 % (R569). -/
abbrev H.svyShN : Fld := .mk (hkey 271 0 2) 10 (0)
/-- A rank has been restored and its evaluation is awaited (R569). -/
abbrev H.svyShTry : Fld := .mk (hkey 272 0 2) 1 (0)
/-- A shedding step awaits its evaluation (R568). -/
abbrev H.svyShWait : Fld := .mk (hkey 273 0 2) 1 (0)
/-- Counted sweeps of the day (R571). -/
abbrev H.dayCnt : Fld := .mk (hkey 274 0 2) 17 (0)
/-- Sum of NOW over them. -/
abbrev H.daySum : Fld := .mk (hkey 275 0 2) 34 (0)
/-- A day has ended since L3 (R573). -/
abbrev H.dayDone : Fld := .mk (hkey 276 0 3) 1 (0)
/-- Sum of the day's measured RA windows of port i, 10 µΩ (R574). -/
abbrev H.pdA (i : Nat) : Fld := .mk (hkey 277 i 2) 32 (0)
/-- Sum of the day's measured RB windows of port i. -/
abbrev H.pdB (i : Nat) : Fld := .mk (hkey 278 i 2) 32 (0)
/-- Measured windows of port i in the day. -/
abbrev H.pdN (i : Nat) : Fld := .mk (hkey 279 i 2) 20 (0)
/-- Sum of the RA means recorded toward the baseline of port i. -/
abbrev H.pbA (i : Nat) : Fld := .mk (hkey 280 i 3) 16 (0)
/-- Sum of the RB means recorded toward the baseline of port i. -/
abbrev H.pbB (i : Nat) : Fld := .mk (hkey 281 i 3) 16 (0)
/-! modes and boot (R26-R52, R586-R597) -/
/-- CAUSE of the Banked entry requested (R42). -/
abbrev H.bankCause : Fld := .mk (hkey 282 0 2) 4 (0)
/-- Tick of the last mode request handled, plus 1 (R30). -/
abbrev H.reqTick : Fld := .mk (hkey 283 0 2) 64 (0)
/-- Tick of the last hardware cause of a mode change, plus 1 (R31). -/
abbrev H.hwTick : Fld := .mk (hkey 284 0 2) 64 (0)
/-- The cores resume once SET equals PLAN after a wake (R92). -/
abbrev H.coreResume : Fld := .mk (hkey 285 0 2) 1 (0)
/-- Tick from which the Kindling timeout counts (R40). -/
abbrev H.kindleFrom : Fld := .mk (hkey 286 0 2) 64 (0)
/-- Tick of the last L2 or L3 release (R40). -/
abbrev H.relTick : Fld := .mk (hkey 287 0 2) 64 (0)
/-- What the boot ROM is loading: 1 a boot from reset or Blaze, 2 an activation, 3 the running image after an L1. -/
abbrev H.booting : Fld := .mk (hkey 288 0 2) 2 (0)
/-- An AUTOFALL return waits for the end of Kindling (R595). -/
abbrev H.fallPend : Fld := .mk (hkey 289 0 2) 1 (0)
/-- STATE of core i before its halt in Banked. -/
abbrev H.coreWas (i : Nat) : Fld := .mk (hkey 290 i 1) 3 (0)
/-- The WAIT timeout of core i passed while it was halted. -/
abbrev H.waitDue (i : Nat) : Fld := .mk (hkey 291 i 1) 1 (0)
/-! reset controller (R95-R128) -/
/-- Source inputs of level i that have joined the reset in progress (R105). -/
abbrev H.rstSrc (i : Nat) : Fld := .mk (hkey 292 i 0) 8 (0)
/-- The supply reset in progress is a power-on (R100). -/
abbrev H.por : Fld := .mk (hkey 293 0 0) 1 (0)
/-- Level of the software reset that a flush precedes, 0 none (R108). -/
abbrev H.flushLvl : Fld := .mk (hkey 294 0 2) 2 (0)
/-- VIN stands below its threshold. -/
abbrev H.vinLow : Fld := .mk (hkey 295 0 0) 1 (0)
/-- VIO stands below its threshold. -/
abbrev H.vioLow : Fld := .mk (hkey 296 0 0) 1 (0)
/-- VCONN stands below its threshold. -/
abbrev H.vconnLow : Fld := .mk (hkey 297 0 0) 1 (0)
/-- HSYSOK is high (R65). -/
abbrev H.sysok : Fld := .mk (hkey 298 0 2) 1 (0)
/-! firmware (R576-R607) -/
/-- Rollback counter RBCNT in OTP (R577). -/
abbrev H.rbcnt : Fld := .mk (hkey 299 0 0) 6 (0)
/-- FW_DLCMD operation in progress: 1 ERASE, 2 PROGRAM, 3 STAGE, 0 none. -/
abbrev H.dlOp : Fld := .mk (hkey 300 0 2) 2 (0)
/-- Its slot. -/
abbrev H.dlSlot : Fld := .mk (hkey 301 0 2) 2 (0)
/-- Its page. -/
abbrev H.dlPage : Fld := .mk (hkey 302 0 2) 15 (0)
/-- Its buffer. -/
abbrev H.dlBuf : Fld := .mk (hkey 303 0 2) 22 (0)
/-- Tick at which the trial began (R591). -/
abbrev H.trialStart : Fld := .mk (hkey 304 0 2) 64 (0)
/-- Slot being activated, 0 none (R587). -/
abbrev H.actSlot : Fld := .mk (hkey 305 0 2) 2 (0)
/-- The activation is a return to the previous slot (R595). -/
abbrev H.actFall : Fld := .mk (hkey 306 0 2) 1 (0)
/-- The boot waits for the Surveyor to clear a failed evaluation (R597). -/
abbrev H.bootWait : Fld := .mk (hkey 307 0 2) 1 (0)
/-! Debug access (R550-R556) -/
/-- TAP instruction in force (R550). -/
abbrev H.tapIr : Fld := .mk (hkey 308 0 3) 5 (2)
/-- Data that the last Capture-DR gave the TAP. -/
abbrev H.tapOut : Fld := .mk (hkey 309 0 3) 256 (0)
/-- Update latches of the boundary-scan cells, one for each covered signal (R552). -/
abbrev H.bscan : Fld := .mk (hkey 310 0 3) 65 (0)
/-- EXTEST drives the pads from the boundary-scan cells (R550). -/
abbrev H.bsDrive : Fld := .mk (hkey 311 0 3) 1 (0)
/-- DBGCTRL.CORESEL: the core the TAP acts on, 6 and 7 none (R555). -/
abbrev H.dbgSel : Fld := .mk (hkey 312 0 3) 3 (0)
/-- DBGCTRL.AUTOINC (R555). -/
abbrev H.dbgAuto : Fld := .mk (hkey 313 0 3) 1 (0)
/-- DBGADDR (R556). -/
abbrev H.dbgAddr : Fld := .mk (hkey 314 0 3) 22 (0)
/-- Responses refused since L3 (R554). -/
abbrev H.dbgTries : Fld := .mk (hkey 315 0 3) 2 (0)
/-- Response being verified (R554). -/
abbrev H.dbgResp : Fld := .mk (hkey 316 0 3) 1024 (0)
/-- An unlock under R88 has taken place since L3 (R553). -/
abbrev H.dbgWork : Fld := .mk (hkey 317 0 3) 1 (0)
/-- The nonce of DBGCHAL is six open values, the first at this count of uses (R554). -/
abbrev H.nonceAt : Fld := .mk (hkey 318 0 3) 64 (0)
/-! OTP contents: fixed at manufacture or by the integrator, loaded at release step 3; the listed values are those of unprogrammed OTP -/
/-- SCANPAR in OTP (R34). -/
abbrev H.otpScanpar : Fld := .mk (hkey 319 0 0) 1 (1)
/-- SETTLE in OTP (R34). -/
abbrev H.otpSettle : Fld := .mk (hkey 320 0 0) 2 (0)
/-- INRUSH in OTP (R34). -/
abbrev H.otpInrush : Fld := .mk (hkey 321 0 0) 2 (0)
/-- VBOOST in OTP (R34). -/
abbrev H.otpVboost : Fld := .mk (hkey 322 0 0) 2 (0)
/-- Kindling TIMEOUT in OTP (R34). -/
abbrev H.otpTimeout : Fld := .mk (hkey 323 0 0) 8 (30)
/-- STRETCH in OTP (R34). -/
abbrev H.otpStretch : Fld := .mk (hkey 324 0 0) 2 (1)
/-- RSTNL3 in OTP (R101). -/
abbrev H.otpRstnl3 : Fld := .mk (hkey 325 0 0) 1 (0)
/-- HOLDTO in OTP (R122). -/
abbrev H.otpHoldto : Fld := .mk (hkey 326 0 0) 4 (6)
/-- OTP layer of the guard limits in layout L0 (R325). -/
abbrev H.otpB0 : Fld := .mk (hkey 327 0 0) 36 (68719476728)
/-- OTP layer of the guard limits in layout L1 (R325). -/
abbrev H.otpB1 : Fld := .mk (hkey 328 0 0) 36 (68719476735)
/-- UNARMCAP in OTP (R355). -/
abbrev H.otpUnarmcap : Fld := .mk (hkey 329 0 0) 18 (150)
/-- Length of the device certificate in OTP (R410). -/
abbrev H.otpCertlen : Fld := .mk (hkey 330 0 0) 10 (0)
/-- STO_CFG.FREQ in OTP (R415). -/
abbrev H.otpFreq : Fld := .mk (hkey 331 0 0) 2 (1)
/-- DBGLVL in OTP (R553). -/
abbrev H.otpDbglvl : Fld := .mk (hkey 332 0 0) 2 (0)
/-- Surveyor TARGET in OTP (R575). -/
abbrev H.otpTarget : Fld := .mk (hkey 333 0 0) 13 (0)
/-- Surveyor GUARD in OTP (R560). -/
abbrev H.otpGuard : Fld := .mk (hkey 334 0 0) 6 (0)
/-- Surveyor VLO in OTP (R564). -/
abbrev H.otpVlo : Fld := .mk (hkey 335 0 0) 6 (0)
/-- Surveyor KV in OTP (R570). -/
abbrev H.otpKv : Fld := .mk (hkey 336 0 0) 8 (0)
/-- Surveyor KT in OTP (R570). -/
abbrev H.otpKt : Fld := .mk (hkey 337 0 0) 8 (0)
/-- AUTOFALL in OTP (R595). -/
abbrev H.otpAutofall : Fld := .mk (hkey 338 0 0) 1 (0)
/-! same-tick order, held pads and the steps of Banked entry -/
/-- Tick of the last wake served, plus 1 (R91: sources of that tick set their bits too). -/
abbrev H.wakeTick : Fld := .mk (hkey 339 0 2) 64 (0)
/-- Steps of Banked entry done: 1 segments closed and records committed, 2 cores halted, 3 meters stopped (R43). -/
abbrev H.bankStage : Fld := .mk (hkey 340 0 2) 2 (0)
/-- The contract of port i is kept banked: explicit and marked when Banked entry began (R89). -/
abbrev H.banked (i : Nat) : Fld := .mk (hkey 341 i 2) 1 (0)
/-- Tick, plus 1, on which a mode request was refused before one that R30 puts first. -/
abbrev H.reqLow : Fld := .mk (hkey 342 0 2) 64 (0)
/-- Tick at which the reset in progress was first asserted, plus 1 (R105). -/
abbrev H.rstTick : Fld := .mk (hkey 343 0 0) 64 (0)
/-- Cores that were running at that assertion (R105). -/
abbrev H.rstRun : Fld := .mk (hkey 344 0 0) 6 (0)
/-- Monitored cores whose watchdog period ran out on that tick (R105). -/
abbrev H.rstWdt : Fld := .mk (hkey 345 0 0) 6 (0)
/-- Reset level requested in a TW0 transfer that has not ended, 0 none (R104). -/
abbrev H.twReq : Fld := .mk (hkey 346 0 2) 2 (0)
/-- A word of a host transfer is being written: a reset it requests waits for the end of the transfer (R104). -/
abbrev H.hostXfer : Fld := .mk (hkey 347 0 2) 1 (0)
/-- Reset level requested in the SPI transfer that is being carried out, 0 none (R104). -/
abbrev H.spiReq : Fld := .mk (hkey 348 0 2) 2 (0)
/-- An OTP row has failed correction since the last L3: every port stays Disabled (R116). -/
abbrev H.otpFail : Fld := .mk (hkey 349 0 3) 1 (0)
/-- Tick, plus 1, at which a soft stop made during hold of port i has its gates off (R124). -/
abbrev H.padOff (i : Nat) : Fld := .mk (hkey 350 i 3) 64 (0)
/-- Slew in force at port i as held through an L2 (R123). -/
abbrev H.padSlew (i : Nat) : Fld := .mk (hkey 351 i 3) 7 (1)
/-- Lines that IRQ0n (bit 0) and IRQ1n (bit 1) drive low, as held through an L2 (R63). -/
abbrev H.padIrq : Fld := .mk (hkey 352 0 3) 2 (0)
/-- BRSTn lines driven low, bit n for BRSTn, as held through an L2 (R63). -/
abbrev H.padBrst : Fld := .mk (hkey 353 0 3) 4 (0)
/-- The Store pads stand as a transfer cut off by an L2 left them; otherwise at their idle levels (R63, R64). -/
abbrev H.padSto : Fld := .mk (hkey 354 0 3) 1 (0)
/-- Termination on CC1 of port i as held through an L2, in the code of ccTerm (R58). -/
abbrev H.padCc1 (i : Nat) : Fld := .mk (hkey 355 i 3) 3 (0)
/-- Termination on CC2 of port i as held through an L2, in the code of ccTerm (R58). -/
abbrev H.padCc2 (i : Nat) : Fld := .mk (hkey 356 i 3) 3 (0)
/-- Address of the next word of the SPI READ in progress (R537). -/
abbrev H.spiAddr : Fld := .mk (hkey 357 0 2) 22 (0)
/-- Words that the READ latches after that one. -/
abbrev H.spiMore : Fld := .mk (hkey 358 0 2) 32 (0)
/-- The READ ends inside a word. -/
abbrev H.spiPart : Fld := .mk (hkey 359 0 2) 1 (0)
/-- Tick, plus 1, of the latch of that word; 0 while no READ goes on (R142, R537). -/
abbrev H.spiAt : Fld := .mk (hkey 360 0 2) 64 (0)
/-! chapter 5: commits, the balls' levels, capture filters -/
/-- First tick whose samples may belong to the next candidate of capture input i (R157). -/
abbrev H.capSince (i : Nat) : Fld := .mk (hkey 361 i 2) 64 (0)
/-- Tick of the sample that makes the candidate of input i the accepted level, plus 1; 0 without one (R157). -/
abbrev H.capDue (i : Nat) : Fld := .mk (hkey 362 i 2) 64 (0)
/-- CAPnn_TB before the latest capture (R159). -/
abbrev H.capOldTb (i : Nat) : Fld := .mk (hkey 363 i 2) 36 (0)
/-- Held epoch before the latest capture (R159). -/
abbrev H.capOldEp (i : Nat) : Fld := .mk (hkey 364 i 2) 36 (0)
/-- Tick of the latest capture of input i, plus 1 (R159). -/
abbrev H.capNewAt (i : Nat) : Fld := .mk (hkey 365 i 2) 64 (0)
/-- Value of compare channel i before its latest firing (R153). -/
abbrev H.cmpPrev (i : Nat) : Fld := .mk (hkey 366 i 2) 36 (0)
/-- Tick of the latest firing of compare channel i, plus 1 (R153). -/
abbrev H.cmpFireAt (i : Nat) : Fld := .mk (hkey 367 i 2) 64 (0)
/-! chapters 6 and 7: CC filters, the line, ramps -/
/-- First tick whose samples may belong to the next candidate of CC line j + 1 of port i (R167). -/
abbrev H.ccSince (i j : Nat) : Fld := .mk (hkey 368 (i * 2 + j) 2) 64 (0)
/-- Tick of the sample that accepts the candidate of that line, plus 1; 0 without a candidate. -/
abbrev H.ccDue (i j : Nat) : Fld := .mk (hkey 369 (i * 2 + j) 2) 64 (0)
/-- Code of that candidate. -/
abbrev H.ccCand (i j : Nat) : Fld := .mk (hkey 370 (i * 2 + j) 2) 3 (0)
/-- Tick to which the comparators of port i are blanked (R166). -/
abbrev H.blankTo (i : Nat) : Fld := .mk (hkey 371 i 2) 64 (0)
/-- Tick, plus 1, at which the accepted Rp code of port i becomes the recognised level; 0 none (R183). -/
abbrev H.rpDue (i : Nat) : Fld := .mk (hkey 372 i 2) 64 (0)
/-- BSLEEP in force for the toggle period of port i (R175). -/
abbrev H.restLen (i : Nat) : Fld := .mk (hkey 373 i 2) 7 (20)
/-- Tick, plus 1, at which the frame at the head of port i's queue starts. -/
abbrev H.txFrom (i : Nat) : Fld := .mk (hkey 374 i 2) 64 (0)
/-- 1 + kind of the own exchange whose first frame has had no GoodCRC yet (R203); 0 none. -/
abbrev H.firstKind (i : Nat) : Fld := .mk (hkey 375 i 2) 5 (0)
/-- Tick at which the GoodCRC to the last message received at port i has gone out (R202). -/
abbrev H.gcTo (i : Nat) : Fld := .mk (hkey 376 i 2) 64 (0)
/-- MessageID counter of port i for SOP, SOP', SOP'' (R2). -/
abbrev H.txMid (i j : Nat) : Fld := .mk (hkey 377 (i * 3 + j) 2) 3 (0)
/-- Header of the last message received on that packet type, plus 1 (R2). -/
abbrev H.rxHdr (i j : Nat) : Fld := .mk (hkey 378 (i * 3 + j) 2) 17 (0)
/-- Tick of its stamp. -/
abbrev H.rxAt (i j : Nat) : Fld := .mk (hkey 379 (i * 3 + j) 2) 64 (0)
/-- Tick at which the voltage ramp of port i began. -/
abbrev H.vStart (i : Nat) : Fld := .mk (hkey 380 i 2) 64 (0)
/-- Its length in ticks; 0 when the setpoint stands (R216). -/
abbrev H.vDur (i : Nat) : Fld := .mk (hkey 381 i 2) 64 (0)
/-- PGTO in force for the transition of port i (R217). -/
abbrev H.pgtoLat (i : Nat) : Fld := .mk (hkey 382 i 2) 8 (100)
/-- Input-current setpoint at which its ramp began, 10 mA units (R212). -/
abbrev H.ifrom (i : Nat) : Fld := .mk (hkey 383 i 2) 14 (0)
/-- Tick at which that ramp began. -/
abbrev H.iStart (i : Nat) : Fld := .mk (hkey 384 i 2) 64 (0)
/-- Its length in ticks; 0 when the setpoint stands. -/
abbrev H.iDur (i : Nat) : Fld := .mk (hkey 385 i 2) 64 (0)
/-- A Request waits for the end of the ramp down (R212). -/
abbrev H.rampReq (i : Nat) : Fld := .mk (hkey 386 i 2) 1 (0)
/-- PS_RDY has been received: the contract takes effect when its GoodCRC has gone out (R207). -/
abbrev H.psDone (i : Nat) : Fld := .mk (hkey 387 i 2) 1 (0)
/-- The exchange in progress is a partner's query that one reply ends. -/
abbrev H.exAns (i : Nat) : Fld := .mk (hkey 388 i 2) 1 (0)
/-- Tick at which the collision avoidance of the own exchange began (R236). -/
abbrev H.ownAt (i : Nat) : Fld := .mk (hkey 389 i 2) 64 (0)
/-- A repeat after a Wait is held until SinkTxOK is recognised (R203). -/
abbrev H.reqHeld (i : Nat) : Fld := .mk (hkey 390 i 2) 1 (0)
/-- Port i is in BIST Test Data mode (R194). -/
abbrev H.bistData (i : Nat) : Fld := .mk (hkey 391 i 2) 1 (0)
/-- As sink at port i, the turn-on inrush of R319 has not ended: the setpoint stays 0 (R211). -/
abbrev H.snkInrush (i : Nat) : Fld := .mk (hkey 392 i 2) 1 (0)
/-! chapters 7 and 8, second part -/
/-- Contract word whose limits the guard of port i holds on from t_c until its gates turn off; 0 none (R261). -/
abbrev H.keepLim (i : Nat) : Fld := .mk (hkey 393 i 2) 36 (0)
/-- PRTnn_SWAP_CTRL.IE as the swap exchange in progress at port i started with it (R269). -/
abbrev H.swIe (i : Nat) : Fld := .mk (hkey 394 i 2) 4 (15)
/-- A partner's PR_Swap at port i is being answered by rows 3 to 5 of R249 (R241). -/
abbrev H.swAns (i : Nat) : Fld := .mk (hkey 395 i 2) 1 (0)
/-- An L2 found port i in an accepted swap (R265). -/
abbrev H.inSwap (i : Nat) : Fld := .mk (hkey 396 i 3) 1 (0)
/-- Chunk Requests that port i has sent (R195). -/
abbrev H.crSent (i : Nat) : Fld := .mk (hkey 397 i 2) 32 (0)
/-- The exchange of port i that is open is one that partner discovery has left open for HPM (R274). -/
abbrev H.lookEx (i : Nat) : Fld := .mk (hkey 398 i 2) 1 (0)
/-- Enter Mode has been acknowledged; HPM is entered when the GoodCRC has gone out (R284). -/
abbrev H.enterAck (i : Nat) : Fld := .mk (hkey 399 i 2) 1 (0)
/-- The effective limits of port i have been latched since the last L3 (R328, R344). -/
abbrev H.effEver (i : Nat) : Fld := .mk (hkey 400 i 3) 1 (0)
/-- Tick at which the stop in hold of port i began, plus 1 (R337). -/
abbrev H.holdAt (i : Nat) : Fld := .mk (hkey 401 i 3) 64 (0)
/-- Sum of the temperature samples of the running 1 ms of port i, 32-bit two's complement, °C (R311). -/
abbrev H.avgT (i : Nat) : Fld := .mk (hkey 402 i 2) 32 (0)
/-- TB at t_in of the latest input change of Contour (R365). -/
abbrev H.budTb : Fld := .mk (hkey 403 0 2) 36 (0)
/-- A write of BUD_CHG has taken effect since the release (R355). -/
abbrev H.budChgE : Fld := .mk (hkey 404 0 2) 1 (0)
/-- A write of BUD_DIS has taken effect since the release (R355). -/
abbrev H.budDisE : Fld := .mk (hkey 405 0 2) 1 (0)
/-- CREEP of port i before the write that commits at mtrCreepAt (R381). -/
abbrev H.mtrCreepOld (i : Nat) : Fld := .mk (hkey 406 i 2) 8 (0)
/-- Tick CREEP of port i was last written, plus 1 (R381). -/
abbrev H.mtrCreepAt (i : Nat) : Fld := .mk (hkey 407 i 2) 64 (0)
/-- Tick of the latest raise of source i, plus 1, × 4096, and its raises on that tick (R480). -/
abbrev H.evRaise (i : Nat) : Fld := .mk (hkey 408 i 2) 88 (0)
/-- Tick PEND of source i was last set, plus 1 (R480). -/
abbrev H.evSetAt (i : Nat) : Fld := .mk (hkey 409 i 2) 64 (0)
/-- Bytes that the TWn_MCMD transfer of block i sends, byte 0 in [63:56] (R505). -/
abbrev H.twTx (i : Nat) : Fld := .mk (hkey 410 i 2) 64 (0)
/-- Address of the TWn_MCMD transfer of block i (R505). -/
abbrev H.twAddr (i : Nat) : Fld := .mk (hkey 411 i 2) 7 (0)
/-- Tick at which the present BRSTn pulse of block i began (R515). -/
abbrev H.twBrstAt (i : Nat) : Fld := .mk (hkey 412 i 2) 64 (0)
/-- BRSTW of that pulse in ms (R522). -/
abbrev H.twBrstW (i : Nat) : Fld := .mk (hkey 413 i 2) 8 (0)
/-- Tick at which the present nine-pulse recovery of block i began (R514). -/
abbrev H.twNineAt (i : Nat) : Fld := .mk (hkey 414 i 2) 64 (0)
/-- ARBMAX of the present controller transfer of block i (R522). -/
abbrev H.twArbMax (i : Nat) : Fld := .mk (hkey 415 i 2) 4 (0)
/-- Bus i has begun its scans in the present start into Kindling (R39, R524). -/
abbrev H.gzBegan (i : Nat) : Fld := .mk (hkey 416 i 2) 1 (0)
/-! chapter 18, second part -/
/-- Tick at which a core last cleared INFULL, plus 1 (R543). -/
abbrev H.inClrAt : Fld := .mk (hkey 417 0 2) 64 (0)
/-- INFULL as a host write of that tick finds it (R543). -/
abbrev H.inClrWas : Fld := .mk (hkey 418 0 2) 1 (0)
/-- Ports whose guard trips are to trigger a snapshot at the next tick (R544). -/
abbrev H.snapGrd : Fld := .mk (hkey 419 0 2) 24 (0)
/-- Tick of the latest refused triggers, plus 1 (R545). -/
abbrev H.snapLostAt : Fld := .mk (hkey 420 0 3) 64 (0)
/-- SNAP_STAT.LOST before them. -/
abbrev H.snapLostWas : Fld := .mk (hkey 421 0 3) 12 (0)
/-- Their CAUSE bits. -/
abbrev H.snapLostCause : Fld := .mk (hkey 422 0 3) 5 (0)
/-- The lowest compare channel among them. -/
abbrev H.snapLostCh : Fld := .mk (hkey 423 0 3) 6 (0)
/-- The lowest port among them. -/
abbrev H.snapLostPort : Fld := .mk (hkey 424 0 3) 5 (0)
/-- Accepted level of SNAPIN (R157, R544). -/
abbrev H.snapLvl : Fld := .mk (hkey 425 0 2) 1 (0)
/-- SNAPIN has an accepted level. -/
abbrev H.snapValid : Fld := .mk (hkey 426 0 2) 1 (0)
/-- Level of the candidate of SNAPIN. -/
abbrev H.snapRaw : Fld := .mk (hkey 427 0 2) 1 (0)
/-- First tick whose samples may belong to the next candidate of SNAPIN. -/
abbrev H.snapSince : Fld := .mk (hkey 428 0 2) 64 (0)
/-- Tick of the sample that makes the candidate of SNAPIN the accepted level, plus 1; 0 without one. -/
abbrev H.snapDue : Fld := .mk (hkey 429 0 2) 64 (0)
/-! chapter 19, second part -/
/-- Tick at which the open sweep gate began (R558). -/
abbrev H.svyGateAt : Fld := .mk (hkey 430 0 2) 64 (0)
/-- That gate began under R566. -/
abbrev H.svyGateP : Fld := .mk (hkey 431 0 2) 1 (0)
/-- The day's end waits for a restore write of its tick (R573). -/
abbrev H.dayHeld : Fld := .mk (hkey 432 0 2) 1 (0)
/-! chapter 20, second part -/
/-- The activation point has passed; the L1 follows 10 µs later (R587). -/
abbrev H.actStage : Fld := .mk (hkey 433 0 2) 1 (0)
/-- The trial has expired (R593-R595). -/
abbrev H.trialOver : Fld := .mk (hkey 434 0 2) 1 (0)
/-- Tick of that expiry, plus 1. -/
abbrev H.trialEndAt : Fld := .mk (hkey 435 0 2) 64 (0)
/-! staging buffers -/
/-- A slot has been staged in ledger staging since the last L2 or L3 (R95, R421). -/
abbrev H.stgLed : Fld := .mk (hkey 436 0 2) 1 (0)
/-- A page has been programmed since then (R95, R421). -/
abbrev H.stgPage : Fld := .mk (hkey 437 0 2) 1 (0)
/-! Timers: 0 when stopped, otherwise one more than the tick at which the timer is due. -/
/-- WAIT timeout of core i (R450). -/
abbrev T.waitOut (i : Nat) : Fld := .mk (hkey 2000 i 1) 64 0
/-- End of the pulse on CMPO ball i (R154). -/
abbrev T.cmpoPulse (i : Nat) : Fld := .mk (hkey 2001 i 2) 64 0
/-- STUCKTO of capture input i (R162). -/
abbrev T.capStuck (i : Nat) : Fld := .mk (hkey 2002 i 2) 64 0
/-- End of an admission evaluation (R488). -/
abbrev T.admEval : Fld := .mk (hkey 2003 0 2) 64 0
/-- End of the meter settle of port i (R390). -/
abbrev T.mtrSettle (i : Nat) : Fld := .mk (hkey 2004 i 2) 64 0
/-- The open segment of port i closes full (R385). -/
abbrev T.mtrFull (i : Nat) : Fld := .mk (hkey 2005 i 2) 64 0
/-- A wake source has come (R45). -/
abbrev T.bankedWake : Fld := .mk (hkey 2006 0 2) 64 0
/-- End of the SNAPOUT pulse (R548). -/
abbrev T.snapOut : Fld := .mk (hkey 2007 0 3) 64 0
/-- Age limit of the open block (R407). -/
abbrev T.blkAge : Fld := .mk (hkey 2008 0 2) 64 0
/-- Signing of the oldest closed block (R408). -/
abbrev T.sign : Fld := .mk (hkey 2009 0 2) 64 0
/-- Commit limit of the oldest staged slot (R422). -/
abbrev T.commit : Fld := .mk (hkey 2010 0 2) 64 0
/-- End of the identity hash of port i (R402). -/
abbrev T.identity (i : Nat) : Fld := .mk (hkey 2011 i 2) 64 0
/-- End of the release erase (R420). -/
abbrev T.relErase : Fld := .mk (hkey 2012 0 2) 64 0
/-- End of formatting (R414). -/
abbrev T.fmt : Fld := .mk (hkey 2013 0 2) 64 0
/-- Turn-on request to be looked at (R317). -/
abbrev T.turnOn (i : Nat) : Fld := .mk (hkey 2014 i 2) 64 0
/-- TSOA of an inrush (R330). -/
abbrev T.tsoa (i : Nat) : Fld := .mk (hkey 2015 i 2) 64 0
/-- Both gates below PnnSNS + 1 V (R342). -/
abbrev T.gateOff (i : Nat) : Fld := .mk (hkey 2016 i 2) 64 0
/-- VBS below 0.8 V for 1 ms (R342). -/
abbrev T.disLow (i : Nat) : Fld := .mk (hkey 2017 i 2) 64 0
/-- DIS on for 1 s (R342). -/
abbrev T.disMax (i : Nat) : Fld := .mk (hkey 2018 i 2) 64 0
/-- DIS turns on again after a DISTO (R342). -/
abbrev T.disAgain (i : Nat) : Fld := .mk (hkey 2019 i 2) 64 0
/-- The accumulator has passed the budget (R331). -/
abbrev T.tripI2t (i : Nat) : Fld := .mk (hkey 2020 i 2) 64 0
/-- Two windows above RPATH (R335). -/
abbrev T.tripPath (i : Nat) : Fld := .mk (hkey 2021 i 2) 64 0
/-- A recompute is due (R357). -/
abbrev T.contour : Fld := .mk (hkey 2022 0 2) 64 0
/-- Confirmation deadline (R367). -/
abbrev T.revoke (i : Nat) : Fld := .mk (hkey 2023 i 2) 64 0
/-- A renegotiation is due (R223). -/
abbrev T.reneg (i : Nat) : Fld := .mk (hkey 2024 i 2) 64 0
/-- A ceiling is to be sent (R301). -/
abbrev T.ownCeil (i : Nat) : Fld := .mk (hkey 2025 i 2) 64 0
/-- End of a toggle phase (R171). -/
abbrev T.toggle (i : Nat) : Fld := .mk (hkey 2026 i 2) 64 0
/-- End of the Banked rest (R176). -/
abbrev T.rest (i : Nat) : Fld := .mk (hkey 2027 i 2) 64 0
/-- tCCDebounce (R174). -/
abbrev T.ccDb (i : Nat) : Fld := .mk (hkey 2028 i 2) 64 0
/-- tPDDebounce (R174). -/
abbrev T.pdDb (i : Nat) : Fld := .mk (hkey 2029 i 2) 64 0
/-- tDRPTry (R174). -/
abbrev T.drpTry (i : Nat) : Fld := .mk (hkey 2030 i 2) 64 0
/-- tTryCCDebounce (R174). -/
abbrev T.tryDb (i : Nat) : Fld := .mk (hkey 2031 i 2) 64 0
/-- tErrorRecovery (R174). -/
abbrev T.errRec (i : Nat) : Fld := .mk (hkey 2032 i 2) 64 0
/-- Chatter hold (R169). -/
abbrev T.chatter (i : Nat) : Fld := .mk (hkey 2033 i 2) 64 0
/-- The line becomes free (R181). -/
abbrev T.lineFree (i : Nat) : Fld := .mk (hkey 2034 i 2) 64 0
/-- tReceive (R197). -/
abbrev T.rx (i : Nat) : Fld := .mk (hkey 2035 i 2) 64 0
/-- tSenderResponse (R197). -/
abbrev T.senderResp (i : Nat) : Fld := .mk (hkey 2036 i 2) 64 0
/-- tSinkTx (R201). -/
abbrev T.sinkTx (i : Nat) : Fld := .mk (hkey 2037 i 2) 64 0
/-- Capabilities can be sent (R204). -/
abbrev T.capsReady (i : Nat) : Fld := .mk (hkey 2038 i 2) 64 0
/-- tTypeCSendSourceCap (R204). -/
abbrev T.sendCaps (i : Nat) : Fld := .mk (hkey 2039 i 2) 64 0
/-- tTypeCSinkWaitCap (R211). -/
abbrev T.waitCap (i : Nat) : Fld := .mk (hkey 2040 i 2) 64 0
/-- tSrcTransition (R206). -/
abbrev T.srcTrans (i : Nat) : Fld := .mk (hkey 2041 i 2) 64 0
/-- End of a VSET ramp (R216). -/
abbrev T.ramp (i : Nat) : Fld := .mk (hkey 2042 i 2) 64 0
/-- PGTO (R217). -/
abbrev T.pgto (i : Nat) : Fld := .mk (hkey 2043 i 2) 64 0
/-- tPSTransition (R211). -/
abbrev T.psTrans (i : Nat) : Fld := .mk (hkey 2044 i 2) 64 0
/-- tSinkRequest (R211). -/
abbrev T.sinkReq (i : Nat) : Fld := .mk (hkey 2045 i 2) 64 0
/-- tPPSRequest (R215). -/
abbrev T.ppsReq (i : Nat) : Fld := .mk (hkey 2046 i 2) 64 0
/-- tPPSTimeout (R208). -/
abbrev T.ppsTo (i : Nat) : Fld := .mk (hkey 2047 i 2) 64 0
/-- tEnterEPR (R214). -/
abbrev T.enterEpr (i : Nat) : Fld := .mk (hkey 2048 i 2) 64 0
/-- tSinkEPRKeepAlive (R215). -/
abbrev T.snkKeep (i : Nat) : Fld := .mk (hkey 2049 i 2) 64 0
/-- tSourceEPRKeepAlive (R210). -/
abbrev T.srcKeep (i : Nat) : Fld := .mk (hkey 2050 i 2) 64 0
/-- tChunkSenderRequest (R197). -/
abbrev T.chunk (i : Nat) : Fld := .mk (hkey 2051 i 2) 64 0
/-- tPSHardReset (R219). -/
abbrev T.psHr (i : Nat) : Fld := .mk (hkey 2052 i 2) 64 0
/-- tSafe0V (R219). -/
abbrev T.safe0v (i : Nat) : Fld := .mk (hkey 2053 i 2) 64 0
/-- tSrcRecover (R219). -/
abbrev T.srcRec (i : Nat) : Fld := .mk (hkey 2054 i 2) 64 0
/-- tNoResponse (R220). -/
abbrev T.noResp (i : Nat) : Fld := .mk (hkey 2055 i 2) 64 0
/-- tBISTContMode (R197). -/
abbrev T.bist (i : Nat) : Fld := .mk (hkey 2056 i 2) 64 0
/-- ASK_DL (R225). -/
abbrev T.ask (i : Nat) : Fld := .mk (hkey 2057 i 2) 64 0
/-- The next own exchange or command may start (R238). -/
abbrev T.cmdStart (i : Nat) : Fld := .mk (hkey 2058 i 2) 64 0
/-- Ticket deadline of the started command (R240). -/
abbrev T.cmdMiss (i : Nat) : Fld := .mk (hkey 2059 i 2) 64 0
/-- tPRSwapWait (R247). -/
abbrev T.prWait (i : Nat) : Fld := .mk (hkey 2060 i 2) 64 0
/-- Back-off (R254). -/
abbrev T.backOff (i : Nat) : Fld := .mk (hkey 2061 i 2) 64 0
/-- Gates off 1 ms after t_c (R256). -/
abbrev T.swGates (i : Nat) : Fld := .mk (hkey 2062 i 2) 64 0
/-- tPSSourceOff (R258). -/
abbrev T.psOff (i : Nat) : Fld := .mk (hkey 2063 i 2) 64 0
/-- tPSSourceOn (R258). -/
abbrev T.psOn (i : Nat) : Fld := .mk (hkey 2064 i 2) 64 0
/-- Bound of VBS below 0.8 V in a swap (R258). -/
abbrev T.swVbs (i : Nat) : Fld := .mk (hkey 2065 i 2) 64 0
/-- tSwapSourceStart (R256). -/
abbrev T.swStart (i : Nat) : Fld := .mk (hkey 2066 i 2) 64 0
/-- tVDMBusy (R273). -/
abbrev T.vdmBusy (i : Nat) : Fld := .mk (hkey 2067 i 2) 64 0
/-- tVDMSenderResponse (R273). -/
abbrev T.vdmResp (i : Nat) : Fld := .mk (hkey 2068 i 2) 64 0
/-- tDiscoverIdentity (R275). -/
abbrev T.discId (i : Nat) : Fld := .mk (hkey 2069 i 2) 64 0
/-- tVDMWaitModeEntry or Exit (R284, R306). -/
abbrev T.vdmMode (i : Nat) : Fld := .mk (hkey 2070 i 2) 64 0
/-- The HPM entry conditions are to be looked at (R283). -/
abbrev T.hpmCond (i : Nat) : Fld := .mk (hkey 2071 i 2) 64 0
/-- The 128-tick pilot test (R282). -/
abbrev T.pilot (i : Nat) : Fld := .mk (hkey 2072 i 2) 64 0
/-- tHPMOffer (R299). -/
abbrev T.hpmOffer (i : Nat) : Fld := .mk (hkey 2073 i 2) 64 0
/-- tHPMTrans (R299). -/
abbrev T.hpmTrans (i : Nat) : Fld := .mk (hkey 2074 i 2) 64 0
/-- tHPMReady (R299). -/
abbrev T.hpmReady (i : Nat) : Fld := .mk (hkey 2075 i 2) 64 0
/-- Repeated Request after verdict 2 (R292). -/
abbrev T.hpmRpt (i : Nat) : Fld := .mk (hkey 2076 i 2) 64 0
/-- Telemetry poll (R305). -/
abbrev T.tpoll (i : Nat) : Fld := .mk (hkey 2077 i 2) 64 0
/-- tVDMSenderResponse of an HPM_Ceiling (R302). -/
abbrev T.ceilResp (i : Nat) : Fld := .mk (hkey 2078 i 2) 64 0
/-- The next controller request of block i may start (R504). -/
abbrev T.twStart (i : Nat) : Fld := .mk (hkey 2079 i 2) 64 0
/-- A further BRSTn pulse of block i is due (R515). -/
abbrev T.twRetry (i : Nat) : Fld := .mk (hkey 2080 i 2) 64 0
/-- The next attempt of the scan of quad i (R525). -/
abbrev T.gzRetry (i : Nat) : Fld := .mk (hkey 2081 i 2) 64 0
/-- The 1 s probe of quad i (R526). -/
abbrev T.gzProbe (i : Nat) : Fld := .mk (hkey 2082 i 2) 64 0
/-- The next sweep (R558). -/
abbrev T.svySweep : Fld := .mk (hkey 2083 0 2) 64 0
/-- The day ends (R571). -/
abbrev T.dayEnd : Fld := .mk (hkey 2084 0 2) 64 0
/-- The next step of the VCORE regulator or of PLAN (R83). -/
abbrev T.vcore : Fld := .mk (hkey 2085 0 3) 64 0
/-- Watchdog of core i (R102). -/
abbrev T.wdt (i : Nat) : Fld := .mk (hkey 2086 i 1) 64 0
/-- 50 ms of a Banked request (R42). -/
abbrev T.bank50 : Fld := .mk (hkey 2087 0 2) 64 0
/-- Kindling timeout (R40). -/
abbrev T.kindle : Fld := .mk (hkey 2088 0 2) 64 0
/-- 100 ms of a flush (R108). -/
abbrev T.flush : Fld := .mk (hkey 2089 0 2) 64 0
/-- Hold timer (R122). -/
abbrev T.hold : Fld := .mk (hkey 2090 0 3) 64 0
/-- Bound of an ERASE (R583). -/
abbrev T.fwErase : Fld := .mk (hkey 2091 0 2) 64 0
/-- Bound of a PROGRAM (R583). -/
abbrev T.fwProg : Fld := .mk (hkey 2092 0 2) 64 0
/-- Bound of a STAGE (R583). -/
abbrev T.fwStage : Fld := .mk (hkey 2093 0 2) 64 0
/-- Bound of the activation point (R587). -/
abbrev T.act : Fld := .mk (hkey 2094 0 2) 64 0
/-- End of the trial (R591). -/
abbrev T.trial : Fld := .mk (hkey 2095 0 2) 64 0
/-- End of the wait for an evaluation (R597). -/
abbrev T.boot : Fld := .mk (hkey 2096 0 2) 64 0
/-- Bound of the verification of a debug response (R554). -/
abbrev T.dbgVer : Fld := .mk (hkey 2097 0 3) 64 0
/-- tHardResetComplete of port i (R197). -/
abbrev T.hrDone (i : Nat) : Fld := .mk (hkey 2098 i 2) 64 0
/-- End of the first transmission of an HPM_Ceiling of port i (R305). -/
abbrev T.ceilEop (i : Nat) : Fld := .mk (hkey 2099 i 2) 64 0

end Sys2Proof.Machine
end

