-- ==== Sys2Proof/Machine/Regs.lean ====
section
/-!
DEFINITION. Sys2Proof/Machine/Regs.lean: the descriptor of EVERY field of every register of the spec, from the field
tables of spec/01 to spec/20 (addresses, bits, reset values and restore levels of the Reset column, R10, R11, R632),
and the register table that the plain reads and writes of R10 go through. A generic index i is the port, core,
channel, input, quad, bus or word number of the spec's name; c is the agent whose own latch is meant (R141, R142).
-/
namespace Sys2Proof.Machine

/-! SYS_MODE (01) -/
abbrev F.SYS_MODE_REQERR : Fld := .mk (fkey (0x200010) 16 0 2) 4 0
abbrev F.SYS_MODE_CAUSE : Fld := .mk (fkey (0x200010) 12 0 2) 4 0
abbrev F.SYS_MODE_PREV : Fld := .mk (fkey (0x200010) 8 0 2) 4 1
abbrev F.SYS_MODE_TRANS : Fld := .mk (fkey (0x200010) 4 0 2) 1 0
abbrev F.SYS_MODE_MODE : Fld := .mk (fkey (0x200010) 0 0 2) 4 1
/-! SYS_MODE_REQ (01) -/
abbrev F.SYS_MODE_REQ_TARGET : Fld := .mk (fkey (0x200011) 0 0 1) 4 0
/-! SYS_MODE_KNOBS (01) -/
abbrev F.SYS_MODE_KNOBS_SCANPAR : Fld := .mk (fkey (0x200012) 8 0 3) 1 1
abbrev F.SYS_MODE_KNOBS_SETTLE : Fld := .mk (fkey (0x200012) 6 0 3) 2 0
abbrev F.SYS_MODE_KNOBS_INRUSH : Fld := .mk (fkey (0x200012) 4 0 3) 2 0
abbrev F.SYS_MODE_KNOBS_VBOOST : Fld := .mk (fkey (0x200012) 2 0 3) 2 0
/-! SYS_KINDLE_CTRL (01) -/
abbrev F.SYS_KINDLE_CTRL_TIMEOUT : Fld := .mk (fkey (0x200013) 8 0 3) 8 30
abbrev F.SYS_KINDLE_CTRL_STRETCH : Fld := .mk (fkey (0x200013) 0 0 3) 2 1
/-! SYS_BLAZE_RESULT (01) -/
abbrev F.SYS_BLAZE_RESULT_GUARDQ : Fld := .mk (fkey (0x200014) 30 0 2) 6 0
abbrev F.SYS_BLAZE_RESULT_METERQ : Fld := .mk (fkey (0x200014) 24 0 2) 6 0
abbrev F.SYS_BLAZE_RESULT_CCQ : Fld := .mk (fkey (0x200014) 18 0 2) 6 0
abbrev F.SYS_BLAZE_RESULT_CRYPTO : Fld := .mk (fkey (0x200014) 17 0 2) 1 0
abbrev F.SYS_BLAZE_RESULT_STORE : Fld := .mk (fkey (0x200014) 16 0 2) 1 0
abbrev F.SYS_BLAZE_RESULT_TWOWIRE : Fld := .mk (fkey (0x200014) 15 0 2) 1 0
abbrev F.SYS_BLAZE_RESULT_SRAM : Fld := .mk (fkey (0x200014) 14 0 2) 1 0
abbrev F.SYS_BLAZE_RESULT_CORES : Fld := .mk (fkey (0x200014) 13 0 2) 1 0
abbrev F.SYS_BLAZE_RESULT_FABRIC : Fld := .mk (fkey (0x200014) 12 0 2) 1 0
abbrev F.SYS_BLAZE_RESULT_MERIDIAN : Fld := .mk (fkey (0x200014) 11 0 2) 1 0
abbrev F.SYS_BLAZE_RESULT_DONE : Fld := .mk (fkey (0x200014) 0 0 2) 1 0
/-! PIN_GPIO (02) -/
abbrev F.PIN_GPIO_IN : Fld := .mk (fkey (0x200060) 16 0 3) 8 0
abbrev F.PIN_GPIO_OE : Fld := .mk (fkey (0x200060) 8 0 3) 8 0
abbrev F.PIN_GPIO_OUT : Fld := .mk (fkey (0x200060) 0 0 3) 8 0
/-! SYS_SUPPLY (03) -/
abbrev F.SYS_SUPPLY_VCONNLOW_S : Fld := .mk (fkey (0x200020) 11 0 2) 1 0
abbrev F.SYS_SUPPLY_VIOLOW_S : Fld := .mk (fkey (0x200020) 10 0 2) 1 0
abbrev F.SYS_SUPPLY_VINLOW_S : Fld := .mk (fkey (0x200020) 9 0 2) 1 0
abbrev F.SYS_SUPPLY_VCONNLOW : Fld := .mk (fkey (0x200020) 3 0 2) 1 0
abbrev F.SYS_SUPPLY_VIOLOW : Fld := .mk (fkey (0x200020) 2 0 2) 1 0
abbrev F.SYS_SUPPLY_VINLOW : Fld := .mk (fkey (0x200020) 1 0 2) 1 0
abbrev F.SYS_SUPPLY_BAKSRC : Fld := .mk (fkey (0x200020) 0 0 2) 1 0
/-! SYS_VCORE (03) -/
abbrev F.SYS_VCORE_PLAN : Fld := .mk (fkey (0x200021) 8 0 3) 6 36
abbrev F.SYS_VCORE_SET : Fld := .mk (fkey (0x200021) 0 0 3) 6 36
/-! SYS_BAK_STAT (03) -/
abbrev F.SYS_BAK_STAT_BAKLOST : Fld := .mk (fkey (0x200024) 1 0 0) 1 1
abbrev F.SYS_BAK_STAT_TAMPER : Fld := .mk (fkey (0x200024) 0 0 0) 1 1
/-! SYS_BAK_RET00–SYS_BAK_RET15 (03) -/
abbrev F.SYS_BAK_RET_DATA (i : Nat) : Fld := .mk (fkey (0x200030 + i * 1) 0 0 0) 36 0
/-! PRTnn_BANK (03) -/
abbrev F.PRT_BANK_KEEP (i : Nat) : Fld := .mk (fkey (0x20105B + i * 128) 16 0 2) 1 0
abbrev F.PRT_BANK_WAKEI (i : Nat) : Fld := .mk (fkey (0x20105B + i * 128) 0 0 2) 12 0
/-! SYS_WAKE_EN (03) -/
abbrev F.SYS_WAKE_EN_EN : Fld := .mk (fkey (0x200022) 0 0 2) 8 31
/-! SYS_WAKE_STAT (03) -/
abbrev F.SYS_WAKE_STAT_FIXED : Fld := .mk (fkey (0x200023) 12 0 2) 4 0
abbrev F.SYS_WAKE_STAT_ENABLED : Fld := .mk (fkey (0x200023) 0 0 2) 8 0
/-! RST_REQ (04) -/
abbrev F.RST_REQ_KEY : Fld := .mk (fkey (0x200046) 8 0 1) 8 0
abbrev F.RST_REQ_FLUSH : Fld := .mk (fkey (0x200046) 4 0 1) 1 0
abbrev F.RST_REQ_LEVEL : Fld := .mk (fkey (0x200046) 0 0 1) 2 0
/-! RST_CFG (04) -/
abbrev F.RST_CFG_RSTNL3 : Fld := .mk (fkey (0x200047) 0 0 2) 1 0
/-! RST_WDT_CTRL (04) -/
abbrev F.RST_WDT_CTRL_LOCK : Fld := .mk (fkey (0x20004A) 35 0 2) 1 0
abbrev F.RST_WDT_CTRL_MASK : Fld := .mk (fkey (0x20004A) 16 0 2) 6 0
abbrev F.RST_WDT_CTRL_PERIOD : Fld := .mk (fkey (0x20004A) 0 0 2) 12 1000
/-! RST_WDT_KICK (04) -/
abbrev F.RST_WDT_KICK_KEY : Fld := .mk (fkey (0x20004B) 0 0 1) 8 0
/-! RST_LOCK_CTRL (04) -/
abbrev F.RST_LOCK_CTRL_LOCKTO : Fld := .mk (fkey (0x20004D) 0 0 2) 7 10
/-! RST_FAULT (04) -/
abbrev F.RST_FAULT_LOCKUP : Fld := .mk (fkey (0x20004C) 8 0 3) 6 0
abbrev F.RST_FAULT_WDOG : Fld := .mk (fkey (0x20004C) 0 0 3) 6 0
/-! RST_CNT (04) -/
abbrev F.RST_CNT_COUNT : Fld := .mk (fkey (0x200041) 0 0 0) 24 0
/-! RST_CAUSE0–RST_CAUSE3 (04) -/
abbrev F.RST_CAUSE_CNT (i : Nat) : Fld := .mk (fkey (0x200042 + i * 1) 14 0 0) 12 0
abbrev F.RST_CAUSE_ALSO (i : Nat) : Fld := .mk (fkey (0x200042 + i * 1) 6 0 0) 8 0
abbrev F.RST_CAUSE_LEVEL (i : Nat) : Fld := .mk (fkey (0x200042 + i * 1) 4 0 0) 2 0
abbrev F.RST_CAUSE_SOURCE (i : Nat) : Fld := .mk (fkey (0x200042 + i * 1) 0 0 0) 4 0
/-! RST_STAT (04) -/
abbrev F.RST_STAT_OTPERR : Fld := .mk (fkey (0x200040) 7 0 3) 1 0
abbrev F.RST_STAT_CLKFB : Fld := .mk (fkey (0x200040) 6 0 3) 1 0
abbrev F.RST_STAT_REQBAD : Fld := .mk (fkey (0x200040) 5 0 3) 1 0
abbrev F.RST_STAT_WDHIST : Fld := .mk (fkey (0x200040) 0 0 3) 2 0
/-! RST_CORE_EN (04) -/
abbrev F.RST_CORE_EN_EN : Fld := .mk (fkey (0x200049) 1 0 1) 5 0
abbrev F.RST_CORE_EN_C0 : Fld := .mk (fkey (0x200049) 0 0 1) 1 1
/-! RST_STRAP (04) -/
abbrev F.RST_STRAP_MEAS : Fld := .mk (fkey (0x200048) 6 0 2) 6 0
abbrev F.RST_STRAP_NOISY : Fld := .mk (fkey (0x200048) 5 0 2) 1 0
abbrev F.RST_STRAP_CODE : Fld := .mk (fkey (0x200048) 0 0 2) 4 0
/-! RST_HOLDCFG (04) -/
abbrev F.RST_HOLDCFG_HOLDTO : Fld := .mk (fkey (0x20004E) 0 0 3) 4 6
/-! RST_HOLD (04) -/
abbrev F.RST_HOLD_HELD : Fld := .mk (fkey (0x20004F) 0 0 3) 24 0
/-! RST_HOLDSTOP (04) -/
abbrev F.RST_HOLDSTOP_STOPPED : Fld := .mk (fkey (0x200050) 0 0 3) 24 0
/-! TB_COUNT (05) -/
abbrev F.TB_COUNT_COUNT : Fld := .mk (fkey (0x200080) 0 0 2) 36 0
/-! TB_EPOCH (05) -/
abbrev F.TB_EPOCH_EPOCH : Fld := .mk (fkey (0x200081) 0 0 2) 36 0
/-! TB_EPL (05) -/
abbrev F.TB_EPL_EPL (c : Nat) : Fld := .mk (fkey (0x200082) 0 c 2) 36 0
/-! TB_RLD (05) -/
abbrev F.TB_RLD_RLD : Fld := .mk (fkey (0x200083) 0 0 2) 36 63999999
/-! TB_EPSET (05) -/
abbrev F.TB_EPSET_VALUE : Fld := .mk (fkey (0x200084) 0 0 2) 36 0
/-! TB_STAT (05) -/
abbrev F.TB_STAT_XOK : Fld := .mk (fkey (0x200085) 8 0 2) 1 0
abbrev F.TB_STAT_SRC : Fld := .mk (fkey (0x200085) 7 0 2) 1 0
abbrev F.TB_STAT_EPPEND : Fld := .mk (fkey (0x200085) 6 0 2) 1 0
abbrev F.TB_STAT_EPDONE : Fld := .mk (fkey (0x200085) 5 0 2) 1 0
abbrev F.TB_STAT_EPWRAP : Fld := .mk (fkey (0x200085) 3 0 2) 1 0
abbrev F.TB_STAT_EPBAD : Fld := .mk (fkey (0x200085) 2 0 2) 1 0
abbrev F.TB_STAT_RLDBAD : Fld := .mk (fkey (0x200085) 1 0 2) 1 0
abbrev F.TB_STAT_WRBAD : Fld := .mk (fkey (0x200085) 0 0 2) 1 0
/-! TB_CTRL (05) -/
abbrev F.TB_CTRL_SETIE : Fld := .mk (fkey (0x200086) 2 0 2) 1 0
abbrev F.TB_CTRL_RLDIE : Fld := .mk (fkey (0x200086) 1 0 2) 1 0
abbrev F.TB_CTRL_WRAPIE : Fld := .mk (fkey (0x200086) 0 0 2) 1 0
/-! CMPnn_VAL (05) -/
abbrev F.CMP_VAL_VALUE (i : Nat) : Fld := .mk (fkey (0x200100 + i * 1) 0 0 2) 36 0
/-! CMPnn_CTRL (05) -/
abbrev F.CMP_CTRL_STEP (i : Nat) : Fld := .mk (fkey (0x200140 + i * 1) 12 0 2) 24 0
abbrev F.CMP_CTRL_SNAP (i : Nat) : Fld := .mk (fkey (0x200140 + i * 1) 11 0 2) 1 0
abbrev F.CMP_CTRL_IE (i : Nat) : Fld := .mk (fkey (0x200140 + i * 1) 10 0 2) 1 0
abbrev F.CMP_CTRL_ACTION (i : Nat) : Fld := .mk (fkey (0x200140 + i * 1) 7 0 2) 3 0
abbrev F.CMP_CTRL_OUTSEL (i : Nat) : Fld := .mk (fkey (0x200140 + i * 1) 4 0 2) 3 0
abbrev F.CMP_CTRL_MODE (i : Nat) : Fld := .mk (fkey (0x200140 + i * 1) 0 0 2) 2 0
/-! CMPnn_STAT (05) -/
abbrev F.CMP_STAT_FCNT (i : Nat) : Fld := .mk (fkey (0x200180 + i * 1) 16 0 2) 8 0
abbrev F.CMP_STAT_COLL (i : Nat) : Fld := .mk (fkey (0x200180 + i * 1) 4 0 2) 1 0
abbrev F.CMP_STAT_OVR (i : Nat) : Fld := .mk (fkey (0x200180 + i * 1) 3 0 2) 1 0
abbrev F.CMP_STAT_RANGE (i : Nat) : Fld := .mk (fkey (0x200180 + i * 1) 2 0 2) 1 0
abbrev F.CMP_STAT_ARMED (i : Nat) : Fld := .mk (fkey (0x200180 + i * 1) 1 0 2) 1 0
abbrev F.CMP_STAT_FIRED (i : Nat) : Fld := .mk (fkey (0x200180 + i * 1) 0 0 2) 1 0
/-! CMP_SUM0 (05) -/
abbrev F.CMP_SUM0_FIRED : Fld := .mk (fkey (0x2001C0) 0 0 2) 32 0
/-! CMP_SUM1 (05) -/
abbrev F.CMP_SUM1_FIRED : Fld := .mk (fkey (0x2001C1) 0 0 2) 32 0
/-! CMP_OUT (05) -/
abbrev F.CMP_OUT_LEVEL : Fld := .mk (fkey (0x2001C2) 0 0 3) 8 0
/-! CAPnn_CTRL (05) -/
abbrev F.CAP_CTRL_STUCKTO (i : Nat) : Fld := .mk (fkey (0x200200 + i * 1) 24 0 2) 12 0
abbrev F.CAP_CTRL_PRESC (i : Nat) : Fld := .mk (fkey (0x200200 + i * 1) 16 0 2) 8 0
abbrev F.CAP_CTRL_FILTN (i : Nat) : Fld := .mk (fkey (0x200200 + i * 1) 8 0 2) 8 1
abbrev F.CAP_CTRL_SI (i : Nat) : Fld := .mk (fkey (0x200200 + i * 1) 5 0 2) 3 0
abbrev F.CAP_CTRL_EDGE (i : Nat) : Fld := .mk (fkey (0x200200 + i * 1) 3 0 2) 2 0
abbrev F.CAP_CTRL_STATIE (i : Nat) : Fld := .mk (fkey (0x200200 + i * 1) 2 0 2) 1 0
abbrev F.CAP_CTRL_IE (i : Nat) : Fld := .mk (fkey (0x200200 + i * 1) 1 0 2) 1 0
/-! CAPnn_STAT (05) -/
abbrev F.CAP_STAT_ECNT (i : Nat) : Fld := .mk (fkey (0x200210 + i * 1) 16 0 2) 8 0
abbrev F.CAP_STAT_VALID (i : Nat) : Fld := .mk (fkey (0x200210 + i * 1) 9 0 2) 1 0
abbrev F.CAP_STAT_LEVEL (i : Nat) : Fld := .mk (fkey (0x200210 + i * 1) 8 0 2) 1 0
abbrev F.CAP_STAT_RAW (i : Nat) : Fld := .mk (fkey (0x200210 + i * 1) 7 0 2) 1 0
abbrev F.CAP_STAT_STUCK (i : Nat) : Fld := .mk (fkey (0x200210 + i * 1) 3 0 2) 1 0
abbrev F.CAP_STAT_ACT (i : Nat) : Fld := .mk (fkey (0x200210 + i * 1) 2 0 2) 1 0
abbrev F.CAP_STAT_OVR (i : Nat) : Fld := .mk (fkey (0x200210 + i * 1) 1 0 2) 1 0
abbrev F.CAP_STAT_FULL (i : Nat) : Fld := .mk (fkey (0x200210 + i * 1) 0 0 2) 1 0
/-! CAPnn_TB (05) -/
abbrev F.CAP_TB_TB (i : Nat) : Fld := .mk (fkey (0x200220 + i * 1) 0 0 2) 36 0
/-! CAPnn_EP (05) -/
abbrev F.CAP_EP_EPOCH (i : Nat) (c : Nat) : Fld := .mk (fkey (0x200230 + i * 1) 0 c 2) 36 0
/-! PRTnn_CTRL (06) -/
abbrev F.PRT_CTRL_VCONNEN (i : Nat) : Fld := .mk (fkey (0x201000 + i * 128) 7 0 2) 1 1
abbrev F.PRT_CTRL_ROLE (i : Nat) : Fld := .mk (fkey (0x201000 + i * 128) 4 0 2) 2 0
abbrev F.PRT_CTRL_TRYSRC (i : Nat) : Fld := .mk (fkey (0x201000 + i * 128) 3 0 2) 1 1
abbrev F.PRT_CTRL_ERREC (i : Nat) : Fld := .mk (fkey (0x201000 + i * 128) 2 0 1) 1 0
abbrev F.PRT_CTRL_ENABLE (i : Nat) : Fld := .mk (fkey (0x201000 + i * 128) 0 0 2) 1 1
/-! PRTnn_TOGGLE (06) -/
abbrev F.PRT_TOGGLE_BSLEEP (i : Nat) : Fld := .mk (fkey (0x201001 + i * 128) 16 0 2) 8 20
abbrev F.PRT_TOGGLE_DUTY (i : Nat) : Fld := .mk (fkey (0x201001 + i * 128) 8 0 2) 8 50
abbrev F.PRT_TOGGLE_PERIOD (i : Nat) : Fld := .mk (fkey (0x201001 + i * 128) 0 0 2) 8 75
/-! PRTnn_DEBOUNCE (06) -/
abbrev F.PRT_DEBOUNCE_TCCDB (i : Nat) : Fld := .mk (fkey (0x201002 + i * 128) 8 0 2) 8 150
abbrev F.PRT_DEBOUNCE_TPDDB (i : Nat) : Fld := .mk (fkey (0x201002 + i * 128) 0 0 2) 8 15
/-! PRTnn_CCFILT (06) -/
abbrev F.PRT_CCFILT_FILTN (i : Nat) : Fld := .mk (fkey (0x201003 + i * 128) 8 0 2) 8 4
abbrev F.PRT_CCFILT_SI (i : Nat) : Fld := .mk (fkey (0x201003 + i * 128) 5 0 2) 3 3
/-! PRTnn_ATT_STAT (06) -/
abbrev F.PRT_ATT_STAT_CC2LVL (i : Nat) : Fld := .mk (fkey (0x201004 + i * 128) 20 0 2) 3 0
abbrev F.PRT_ATT_STAT_CC1LVL (i : Nat) : Fld := .mk (fkey (0x201004 + i * 128) 16 0 2) 3 0
abbrev F.PRT_ATT_STAT_VCONNON (i : Nat) : Fld := .mk (fkey (0x201004 + i * 128) 15 0 2) 1 0
abbrev F.PRT_ATT_STAT_VBSOK (i : Nat) : Fld := .mk (fkey (0x201004 + i * 128) 14 0 2) 1 0
abbrev F.PRT_ATT_STAT_VBS0 (i : Nat) : Fld := .mk (fkey (0x201004 + i * 128) 13 0 2) 1 0
abbrev F.PRT_ATT_STAT_RAPRES (i : Nat) : Fld := .mk (fkey (0x201004 + i * 128) 12 0 2) 1 0
abbrev F.PRT_ATT_STAT_RPOWN (i : Nat) : Fld := .mk (fkey (0x201004 + i * 128) 10 0 2) 2 0
abbrev F.PRT_ATT_STAT_ORIENT (i : Nat) : Fld := .mk (fkey (0x201004 + i * 128) 8 0 2) 2 0
abbrev F.PRT_ATT_STAT_STATE (i : Nat) : Fld := .mk (fkey (0x201004 + i * 128) 4 0 2) 4 0
abbrev F.PRT_ATT_STAT_DISWHY (i : Nat) : Fld := .mk (fkey (0x201004 + i * 128) 0 0 2) 4 0
/-! PRTnn_ATT_EVT (06) -/
abbrev F.PRT_ATT_EVT_CCOV (i : Nat) : Fld := .mk (fkey (0x201005 + i * 128) 8 0 2) 1 0
abbrev F.PRT_ATT_EVT_VCONNOC (i : Nat) : Fld := .mk (fkey (0x201005 + i * 128) 7 0 2) 1 0
abbrev F.PRT_ATT_EVT_TRYFAIL (i : Nat) : Fld := .mk (fkey (0x201005 + i * 128) 6 0 2) 1 0
abbrev F.PRT_ATT_EVT_ACT (i : Nat) : Fld := .mk (fkey (0x201005 + i * 128) 5 0 2) 1 0
abbrev F.PRT_ATT_EVT_CHATTER (i : Nat) : Fld := .mk (fkey (0x201005 + i * 128) 4 0 2) 1 0
abbrev F.PRT_ATT_EVT_EMERG (i : Nat) : Fld := .mk (fkey (0x201005 + i * 128) 3 0 2) 1 0
abbrev F.PRT_ATT_EVT_DETACH (i : Nat) : Fld := .mk (fkey (0x201005 + i * 128) 2 0 2) 1 0
abbrev F.PRT_ATT_EVT_ATTACH (i : Nat) : Fld := .mk (fkey (0x201005 + i * 128) 1 0 2) 1 0
abbrev F.PRT_ATT_EVT_RECOG (i : Nat) : Fld := .mk (fkey (0x201005 + i * 128) 0 0 2) 1 0
/-! PRTnn_ATT_IE (06) -/
abbrev F.PRT_ATT_IE_IE (i : Nat) : Fld := .mk (fkey (0x201006 + i * 128) 0 0 2) 9 414
/-! PRTnn_ATT_CNT (06) -/
abbrev F.PRT_ATT_CNT_ATTCNT (i : Nat) : Fld := .mk (fkey (0x201007 + i * 128) 20 0 2) 16 0
abbrev F.PRT_ATT_CNT_EMCNT (i : Nat) : Fld := .mk (fkey (0x201007 + i * 128) 12 0 2) 8 0
abbrev F.PRT_ATT_CNT_WINCNT (i : Nat) : Fld := .mk (fkey (0x201007 + i * 128) 0 0 2) 5 0
/-! PRTnn_PE_STAT (07) -/
abbrev F.PRT_PE_STAT_ASKSER (i : Nat) : Fld := .mk (fkey (0x201009 + i * 128) 24 0 2) 12 0
abbrev F.PRT_PE_STAT_ASKCODE (i : Nat) : Fld := .mk (fkey (0x201009 + i * 128) 20 0 2) 4 0
abbrev F.PRT_PE_STAT_ASKPEND (i : Nat) : Fld := .mk (fkey (0x201009 + i * 128) 19 0 2) 1 0
abbrev F.PRT_PE_STAT_QDEPTH (i : Nat) : Fld := .mk (fkey (0x201009 + i * 128) 15 0 2) 4 0
abbrev F.PRT_PE_STAT_TXNG (i : Nat) : Fld := .mk (fkey (0x201009 + i * 128) 14 0 2) 1 0
abbrev F.PRT_PE_STAT_VCSRC (i : Nat) : Fld := .mk (fkey (0x201009 + i * 128) 13 0 2) 1 0
abbrev F.PRT_PE_STAT_EPR (i : Nat) : Fld := .mk (fkey (0x201009 + i * 128) 12 0 2) 1 0
abbrev F.PRT_PE_STAT_REV (i : Nat) : Fld := .mk (fkey (0x201009 + i * 128) 10 0 2) 2 0
abbrev F.PRT_PE_STAT_HRCNT (i : Nat) : Fld := .mk (fkey (0x201009 + i * 128) 8 0 2) 2 0
abbrev F.PRT_PE_STAT_STATE (i : Nat) : Fld := .mk (fkey (0x201009 + i * 128) 0 0 2) 5 0
/-! PRTnn_PE_CTRL (07) -/
abbrev F.PRT_PE_CTRL_AUTOVCS (i : Nat) : Fld := .mk (fkey (0x201008 + i * 128) 5 0 2) 1 1
abbrev F.PRT_PE_CTRL_EPREN (i : Nat) : Fld := .mk (fkey (0x201008 + i * 128) 4 0 2) 1 1
abbrev F.PRT_PE_CTRL_HPMEN (i : Nat) : Fld := .mk (fkey (0x201008 + i * 128) 3 0 2) 1 1
abbrev F.PRT_PE_CTRL_PDEN (i : Nat) : Fld := .mk (fkey (0x201008 + i * 128) 0 0 2) 1 1
/-! PRTnn_SRC_LOAD (07) -/
abbrev F.PRT_SRC_LOAD_INDEX (i : Nat) : Fld := .mk (fkey (0x201018 + i * 128) 32 0 1) 4 0
abbrev F.PRT_SRC_LOAD_PDO (i : Nat) : Fld := .mk (fkey (0x201018 + i * 128) 0 0 1) 32 0
/-! PRTnn_SNK_LOAD (07) -/
abbrev F.PRT_SNK_LOAD_INDEX (i : Nat) : Fld := .mk (fkey (0x201019 + i * 128) 32 0 1) 4 0
abbrev F.PRT_SNK_LOAD_PDO (i : Nat) : Fld := .mk (fkey (0x201019 + i * 128) 0 0 1) 32 0
/-! PRTnn_XFER (07) -/
abbrev F.PRT_XFER_SLEW (i : Nat) : Fld := .mk (fkey (0x20100E + i * 128) 16 0 2) 5 10
abbrev F.PRT_XFER_PGTO (i : Nat) : Fld := .mk (fkey (0x20100E + i * 128) 8 0 2) 8 100
/-! PRTnn_CONTRACT (07) -/
abbrev F.PRT_CONTRACT_VALID (i : Nat) : Fld := .mk (fkey (0x20100C + i * 128) 35 0 2) 1 0
abbrev F.PRT_CONTRACT_ROLE (i : Nat) : Fld := .mk (fkey (0x20100C + i * 128) 34 0 2) 1 0
abbrev F.PRT_CONTRACT_KIND (i : Nat) : Fld := .mk (fkey (0x20100C + i * 128) 31 0 2) 3 0
abbrev F.PRT_CONTRACT_POS (i : Nat) : Fld := .mk (fkey (0x20100C + i * 128) 27 0 2) 4 0
abbrev F.PRT_CONTRACT_VOLT (i : Nat) : Fld := .mk (fkey (0x20100C + i * 128) 14 0 2) 13 0
abbrev F.PRT_CONTRACT_CURR (i : Nat) : Fld := .mk (fkey (0x20100C + i * 128) 0 0 2) 14 0
/-! PRTnn_HOLDSUM (07) -/
abbrev F.PRT_HOLDSUM_SUM (i : Nat) : Fld := .mk (fkey (0x20100D + i * 128) 0 0 3) 36 0
/-! PRTnn_ASK_CFG (07) -/
abbrev F.PRT_ASK_CFG_EN (i : Nat) : Fld := .mk (fkey (0x20100F + i * 128) 16 0 2) 9 511
abbrev F.PRT_ASK_CFG_CHAN (i : Nat) : Fld := .mk (fkey (0x20100F + i * 128) 8 0 2) 6 0
abbrev F.PRT_ASK_CFG_CHEN (i : Nat) : Fld := .mk (fkey (0x20100F + i * 128) 7 0 2) 1 0
abbrev F.PRT_ASK_CFG_DL (i : Nat) : Fld := .mk (fkey (0x20100F + i * 128) 0 0 2) 4 8
/-! PRTnn_ASK_ANS (07) -/
abbrev F.PRT_ASK_ANS_SERIAL (i : Nat) : Fld := .mk (fkey (0x201010 + i * 128) 24 0 1) 12 0
abbrev F.PRT_ASK_ANS_CODE (i : Nat) : Fld := .mk (fkey (0x201010 + i * 128) 20 0 1) 4 0
abbrev F.PRT_ASK_ANS_ACT (i : Nat) : Fld := .mk (fkey (0x201010 + i * 128) 16 0 1) 3 0
/-! PRTnn_ASK_ARG (07) -/
abbrev F.PRT_ASK_ARG_ARG (i : Nat) (c : Nat) : Fld := .mk (fkey (0x201011 + i * 128) 0 c 1) 32 0
/-! PRTnn_DDT_LOAD (07) -/
abbrev F.PRT_DDT_LOAD_INDEX (i : Nat) : Fld := .mk (fkey (0x20101A + i * 128) 32 0 1) 4 0
abbrev F.PRT_DDT_LOAD_ENTRY (i : Nat) : Fld := .mk (fkey (0x20101A + i * 128) 0 0 1) 32 0
/-! PRTnn_PE_EVT (07) -/
abbrev F.PRT_PE_EVT_ASKDROP (i : Nat) : Fld := .mk (fkey (0x20100A + i * 128) 20 0 2) 1 0
abbrev F.PRT_PE_EVT_ANSBAD (i : Nat) : Fld := .mk (fkey (0x20100A + i * 128) 19 0 2) 1 0
abbrev F.PRT_PE_EVT_ANSLATE (i : Nat) : Fld := .mk (fkey (0x20100A + i * 128) 18 0 2) 1 0
abbrev F.PRT_PE_EVT_ASKDEF (i : Nat) : Fld := .mk (fkey (0x20100A + i * 128) 17 0 2) 1 0
abbrev F.PRT_PE_EVT_DDTWR (i : Nat) : Fld := .mk (fkey (0x20100A + i * 128) 16 0 2) 1 0
abbrev F.PRT_PE_EVT_SLOTBAD (i : Nat) : Fld := .mk (fkey (0x20100A + i * 128) 15 0 2) 1 0
abbrev F.PRT_PE_EVT_PROTERR (i : Nat) : Fld := .mk (fkey (0x20100A + i * 128) 14 0 2) 1 0
abbrev F.PRT_PE_EVT_RXUNSUP (i : Nat) : Fld := .mk (fkey (0x20100A + i * 128) 13 0 2) 1 0
abbrev F.PRT_PE_EVT_RXUVDM (i : Nat) : Fld := .mk (fkey (0x20100A + i * 128) 12 0 2) 1 0
abbrev F.PRT_PE_EVT_RXALERT (i : Nat) : Fld := .mk (fkey (0x20100A + i * 128) 11 0 2) 1 0
abbrev F.PRT_PE_EVT_PREEMPT (i : Nat) : Fld := .mk (fkey (0x20100A + i * 128) 10 0 2) 1 0
abbrev F.PRT_PE_EVT_CMDREF (i : Nat) : Fld := .mk (fkey (0x20100A + i * 128) 9 0 2) 1 0
abbrev F.PRT_PE_EVT_CMDDONE (i : Nat) : Fld := .mk (fkey (0x20100A + i * 128) 8 0 2) 1 0
abbrev F.PRT_PE_EVT_PGLOST (i : Nat) : Fld := .mk (fkey (0x20100A + i * 128) 7 0 2) 1 0
abbrev F.PRT_PE_EVT_CAPCLIP (i : Nat) : Fld := .mk (fkey (0x20100A + i * 128) 6 0 2) 1 0
abbrev F.PRT_PE_EVT_EPRCHG (i : Nat) : Fld := .mk (fkey (0x20100A + i * 128) 5 0 2) 1 0
abbrev F.PRT_PE_EVT_NOPD (i : Nat) : Fld := .mk (fkey (0x20100A + i * 128) 4 0 2) 1 0
abbrev F.PRT_PE_EVT_XFERFAIL (i : Nat) : Fld := .mk (fkey (0x20100A + i * 128) 3 0 2) 1 0
abbrev F.PRT_PE_EVT_SOFTRST (i : Nat) : Fld := .mk (fkey (0x20100A + i * 128) 2 0 2) 1 0
abbrev F.PRT_PE_EVT_HARDRST (i : Nat) : Fld := .mk (fkey (0x20100A + i * 128) 1 0 2) 1 0
abbrev F.PRT_PE_EVT_CONTRACT (i : Nat) : Fld := .mk (fkey (0x20100A + i * 128) 0 0 2) 1 0
/-! PRTnn_PE_IE (07) -/
abbrev F.PRT_PE_IE_IE (i : Nat) : Fld := .mk (fkey (0x20100B + i * 128) 0 0 2) 21 2097151
/-! PRTnn_CMD (07) -/
abbrev F.PRT_CMD_CODE (i : Nat) : Fld := .mk (fkey (0x201013 + i * 128) 24 0 1) 6 0
abbrev F.PRT_CMD_PARAM (i : Nat) : Fld := .mk (fkey (0x201013 + i * 128) 0 0 1) 16 0
/-! PRTnn_CMD_ARG (07) -/
abbrev F.PRT_CMD_ARG_ARG (i : Nat) (c : Nat) : Fld := .mk (fkey (0x201014 + i * 128) 0 c 1) 32 0
/-! PRTnn_CMD_LAST (07) -/
abbrev F.PRT_CMD_LAST_TICKET (i : Nat) (c : Nat) : Fld := .mk (fkey (0x201015 + i * 128) 24 c 2) 12 0
abbrev F.PRT_CMD_LAST_RESULT (i : Nat) (c : Nat) : Fld := .mk (fkey (0x201015 + i * 128) 20 c 2) 4 0
abbrev F.PRT_CMD_LAST_DL (i : Nat) (c : Nat) : Fld := .mk (fkey (0x201015 + i * 128) 0 c 2) 20 0
/-! PRTnn_CMD_DONE (07) -/
abbrev F.PRT_CMD_DONE_TICKET (i : Nat) : Fld := .mk (fkey (0x201016 + i * 128) 24 0 2) 12 0
abbrev F.PRT_CMD_DONE_OUTCOME (i : Nat) : Fld := .mk (fkey (0x201016 + i * 128) 20 0 2) 4 0
abbrev F.PRT_CMD_DONE_CODE (i : Nat) : Fld := .mk (fkey (0x201016 + i * 128) 14 0 2) 6 0
/-! PRTnn_SWAP_CTRL (08) -/
abbrev F.PRT_SWAP_CTRL_IE (i : Nat) : Fld := .mk (fkey (0x20101C + i * 128) 8 0 2) 4 15
abbrev F.PRT_SWAP_CTRL_WAITRETRY (i : Nat) : Fld := .mk (fkey (0x20101C + i * 128) 4 0 2) 2 2
abbrev F.PRT_SWAP_CTRL_RXEN (i : Nat) : Fld := .mk (fkey (0x20101C + i * 128) 0 0 2) 1 1
/-! PRTnn_SWAP_STAT (08) -/
abbrev F.PRT_SWAP_STAT_SWCNT (i : Nat) : Fld := .mk (fkey (0x20101D + i * 128) 20 0 2) 16 0
abbrev F.PRT_SWAP_STAT_STEP (i : Nat) : Fld := .mk (fkey (0x20101D + i * 128) 16 0 2) 4 0
abbrev F.PRT_SWAP_STAT_LASTEND (i : Nat) : Fld := .mk (fkey (0x20101D + i * 128) 12 0 2) 4 0
abbrev F.PRT_SWAP_STAT_INIT (i : Nat) : Fld := .mk (fkey (0x20101D + i * 128) 9 0 2) 1 0
abbrev F.PRT_SWAP_STAT_FAIL (i : Nat) : Fld := .mk (fkey (0x20101D + i * 128) 3 0 2) 1 0
abbrev F.PRT_SWAP_STAT_COLL (i : Nat) : Fld := .mk (fkey (0x20101D + i * 128) 2 0 2) 1 0
abbrev F.PRT_SWAP_STAT_DONE (i : Nat) : Fld := .mk (fkey (0x20101D + i * 128) 1 0 2) 1 0
abbrev F.PRT_SWAP_STAT_START (i : Nat) : Fld := .mk (fkey (0x20101D + i * 128) 0 0 2) 1 0
/-! PRTnn_VDM_STAT (09) -/
abbrev F.PRT_VDM_STAT_NSVID (i : Nat) : Fld := .mk (fkey (0x201020 + i * 128) 20 0 2) 4 0
abbrev F.PRT_VDM_STAT_PTNHPM (i : Nat) : Fld := .mk (fkey (0x201020 + i * 128) 19 0 2) 1 0
abbrev F.PRT_VDM_STAT_PTNMODAL (i : Nat) : Fld := .mk (fkey (0x201020 + i * 128) 18 0 2) 1 0
abbrev F.PRT_VDM_STAT_PTNID (i : Nat) : Fld := .mk (fkey (0x201020 + i * 128) 17 0 2) 1 0
abbrev F.PRT_VDM_STAT_CBLHPM (i : Nat) : Fld := .mk (fkey (0x201020 + i * 128) 15 0 2) 1 0
abbrev F.PRT_VDM_STAT_CBL5A (i : Nat) : Fld := .mk (fkey (0x201020 + i * 128) 14 0 2) 1 0
abbrev F.PRT_VDM_STAT_CBLEPR (i : Nat) : Fld := .mk (fkey (0x201020 + i * 128) 13 0 2) 1 0
abbrev F.PRT_VDM_STAT_CBLACT (i : Nat) : Fld := .mk (fkey (0x201020 + i * 128) 12 0 2) 1 0
abbrev F.PRT_VDM_STAT_CBLSOP2 (i : Nat) : Fld := .mk (fkey (0x201020 + i * 128) 11 0 2) 1 0
abbrev F.PRT_VDM_STAT_CBLID (i : Nat) : Fld := .mk (fkey (0x201020 + i * 128) 10 0 2) 1 0
abbrev F.PRT_VDM_STAT_CBLRES (i : Nat) : Fld := .mk (fkey (0x201020 + i * 128) 8 0 2) 2 0
abbrev F.PRT_VDM_STAT_PTNRES (i : Nat) : Fld := .mk (fkey (0x201020 + i * 128) 6 0 2) 2 0
/-! PRTnn_HPM_CTRL (09) -/
abbrev F.PRT_HPM_CTRL_TPOLL (i : Nat) : Fld := .mk (fkey (0x201021 + i * 128) 8 0 2) 8 0
abbrev F.PRT_HPM_CTRL_AUTOREC (i : Nat) : Fld := .mk (fkey (0x201021 + i * 128) 1 0 2) 1 1
abbrev F.PRT_HPM_CTRL_RXCEIL (i : Nat) : Fld := .mk (fkey (0x201021 + i * 128) 0 0 2) 1 1
/-! PRTnn_HPM_STAT (09) -/
abbrev F.PRT_HPM_STAT_FAILWHY (i : Nat) : Fld := .mk (fkey (0x201022 + i * 128) 20 0 2) 4 0
abbrev F.PRT_HPM_STAT_PROFILE (i : Nat) : Fld := .mk (fkey (0x201022 + i * 128) 16 0 3) 4 0
abbrev F.PRT_HPM_STAT_SEQ (i : Nat) : Fld := .mk (fkey (0x201022 + i * 128) 8 0 2) 8 0
abbrev F.PRT_HPM_STAT_STATE (i : Nat) : Fld := .mk (fkey (0x201022 + i * 128) 0 0 2) 4 0
/-! PRTnn_HPM_CEIL (09) -/
abbrev F.PRT_HPM_CEIL_PCEIL (i : Nat) : Fld := .mk (fkey (0x201023 + i * 128) 12 0 2) 12 4095
abbrev F.PRT_HPM_CEIL_CEIL (i : Nat) : Fld := .mk (fkey (0x201023 + i * 128) 0 0 2) 12 0
/-! PRTnn_HPM_EVT (09) -/
abbrev F.PRT_HPM_EVT_PLWR (i : Nat) : Fld := .mk (fkey (0x201024 + i * 128) 13 0 2) 1 0
abbrev F.PRT_HPM_EVT_ATTN (i : Nat) : Fld := .mk (fkey (0x201024 + i * 128) 12 0 2) 1 0
abbrev F.PRT_HPM_EVT_IDFAIL (i : Nat) : Fld := .mk (fkey (0x201024 + i * 128) 11 0 2) 1 0
abbrev F.PRT_HPM_EVT_RECORD (i : Nat) : Fld := .mk (fkey (0x201024 + i * 128) 10 0 2) 1 0
abbrev F.PRT_HPM_EVT_TELEM (i : Nat) : Fld := .mk (fkey (0x201024 + i * 128) 9 0 2) 1 0
abbrev F.PRT_HPM_EVT_CEILNOACK (i : Nat) : Fld := .mk (fkey (0x201024 + i * 128) 8 0 2) 1 0
abbrev F.PRT_HPM_EVT_CEILRX (i : Nat) : Fld := .mk (fkey (0x201024 + i * 128) 7 0 2) 1 0
abbrev F.PRT_HPM_EVT_CEIL (i : Nat) : Fld := .mk (fkey (0x201024 + i * 128) 6 0 2) 1 0
abbrev F.PRT_HPM_EVT_FAIL (i : Nat) : Fld := .mk (fkey (0x201024 + i * 128) 5 0 2) 1 0
abbrev F.PRT_HPM_EVT_CONTRACT (i : Nat) : Fld := .mk (fkey (0x201024 + i * 128) 4 0 2) 1 0
abbrev F.PRT_HPM_EVT_EXIT (i : Nat) : Fld := .mk (fkey (0x201024 + i * 128) 3 0 2) 1 0
abbrev F.PRT_HPM_EVT_ENTER (i : Nat) : Fld := .mk (fkey (0x201024 + i * 128) 2 0 2) 1 0
abbrev F.PRT_HPM_EVT_TRYNO (i : Nat) : Fld := .mk (fkey (0x201024 + i * 128) 1 0 2) 1 0
abbrev F.PRT_HPM_EVT_DISC (i : Nat) : Fld := .mk (fkey (0x201024 + i * 128) 0 0 2) 1 0
/-! PRTnn_HPM_IE (09) -/
abbrev F.PRT_HPM_IE_IE (i : Nat) : Fld := .mk (fkey (0x201025 + i * 128) 0 0 2) 14 16383
/-! PRTnn_HPM_PLOADA (09) -/
abbrev F.PRT_HPM_PLOADA_INDEX (i : Nat) : Fld := .mk (fkey (0x201026 + i * 128) 32 0 1) 4 0
abbrev F.PRT_HPM_PLOADA_WORDA (i : Nat) : Fld := .mk (fkey (0x201026 + i * 128) 0 0 1) 32 0
/-! PRTnn_HPM_PLOADB (09) -/
abbrev F.PRT_HPM_PLOADB_INDEX (i : Nat) : Fld := .mk (fkey (0x201027 + i * 128) 32 0 1) 4 0
abbrev F.PRT_HPM_PLOADB_WORDB (i : Nat) : Fld := .mk (fkey (0x201027 + i * 128) 0 0 1) 32 0
/-! GRD_OTPB0 (10) -/
abbrev F.GRD_OTPB0_LIMITS : Fld := .mk (fkey (0x200300) 0 0 2) 36 68719476728
/-! GRD_OTPB1 (10) -/
abbrev F.GRD_OTPB1_LIMITS : Fld := .mk (fkey (0x200301) 0 0 2) 36 68719476735
/-! GRD_SUM0 (10) -/
abbrev F.GRD_SUM0_TRIPPED : Fld := .mk (fkey (0x200302) 0 0 3) 24 0
/-! GRD_SUM1 (10) -/
abbrev F.GRD_SUM1_LOCKED : Fld := .mk (fkey (0x200303) 0 0 3) 24 0
/-! GRDnn_CTRL (10) -/
abbrev F.GRD_CTRL_RETRY (i : Nat) : Fld := .mk (fkey (0x201030 + i * 128) 13 0 3) 3 3
abbrev F.GRD_CTRL_PATHEN (i : Nat) : Fld := .mk (fkey (0x201030 + i * 128) 11 0 3) 1 1
abbrev F.GRD_CTRL_UVEN (i : Nat) : Fld := .mk (fkey (0x201030 + i * 128) 10 0 3) 1 1
abbrev F.GRD_CTRL_SLEW (i : Nat) : Fld := .mk (fkey (0x201030 + i * 128) 0 0 3) 7 4
/-! GRDnn_STAT (10) -/
abbrev F.GRD_STAT_Q (i : Nat) : Fld := .mk (fkey (0x201031 + i * 128) 24 0 2) 12 0
abbrev F.GRD_STAT_STOPWHY (i : Nat) : Fld := .mk (fkey (0x201031 + i * 128) 19 0 2) 5 0
abbrev F.GRD_STAT_STOPKIND (i : Nat) : Fld := .mk (fkey (0x201031 + i * 128) 17 0 2) 2 0
abbrev F.GRD_STAT_TRIPCNT (i : Nat) : Fld := .mk (fkey (0x201031 + i * 128) 14 0 3) 3 0
abbrev F.GRD_STAT_OTBLK (i : Nat) : Fld := .mk (fkey (0x201031 + i * 128) 12 0 3) 1 0
abbrev F.GRD_STAT_PEND (i : Nat) : Fld := .mk (fkey (0x201031 + i * 128) 11 0 2) 1 0
abbrev F.GRD_STAT_WARNNOW (i : Nat) : Fld := .mk (fkey (0x201031 + i * 128) 10 0 2) 1 0
abbrev F.GRD_STAT_DISON (i : Nat) : Fld := .mk (fkey (0x201031 + i * 128) 9 0 2) 1 0
abbrev F.GRD_STAT_VALID (i : Nat) : Fld := .mk (fkey (0x201031 + i * 128) 8 0 2) 1 0
abbrev F.GRD_STAT_GATES (i : Nat) : Fld := .mk (fkey (0x201031 + i * 128) 0 0 2) 2 0
/-! GRDnn_TRIP (10) -/
abbrev F.GRD_TRIP_STOP (i : Nat) : Fld := .mk (fkey (0x201032 + i * 128) 17 0 3) 1 0
abbrev F.GRD_TRIP_LIMWR (i : Nat) : Fld := .mk (fkey (0x201032 + i * 128) 16 0 3) 1 0
abbrev F.GRD_TRIP_LIMHI (i : Nat) : Fld := .mk (fkey (0x201032 + i * 128) 15 0 3) 1 0
abbrev F.GRD_TRIP_DISTO (i : Nat) : Fld := .mk (fkey (0x201032 + i * 128) 14 0 3) 1 0
abbrev F.GRD_TRIP_WARN (i : Nat) : Fld := .mk (fkey (0x201032 + i * 128) 13 0 3) 1 0
abbrev F.GRD_TRIP_LOCKOUT (i : Nat) : Fld := .mk (fkey (0x201032 + i * 128) 12 0 3) 1 0
abbrev F.GRD_TRIP_LATCH (i : Nat) : Fld := .mk (fkey (0x201032 + i * 128) 1 0 3) 11 0
/-! GRDnn_IE (10) -/
abbrev F.GRD_IE_IE (i : Nat) : Fld := .mk (fkey (0x201033 + i * 128) 0 0 2) 18 262142
/-! GRDnn_GZB0 (10) -/
abbrev F.GRD_GZB0_IFAST (i : Nat) : Fld := .mk (fkey (0x201034 + i * 128) 27 0 3) 9 0
abbrev F.GRD_GZB0_ILIM (i : Nat) : Fld := .mk (fkey (0x201034 + i * 128) 15 0 3) 12 0
abbrev F.GRD_GZB0_I2T (i : Nat) : Fld := .mk (fkey (0x201034 + i * 128) 3 0 3) 12 0
/-! GRDnn_GZB1 (10) -/
abbrev F.GRD_GZB1_OVABS (i : Nat) : Fld := .mk (fkey (0x201035 + i * 128) 26 0 3) 10 0
abbrev F.GRD_GZB1_IREV (i : Nat) : Fld := .mk (fkey (0x201035 + i * 128) 16 0 3) 10 0
abbrev F.GRD_GZB1_TTRIP (i : Nat) : Fld := .mk (fkey (0x201035 + i * 128) 8 0 3) 8 0
abbrev F.GRD_GZB1_RPATH (i : Nat) : Fld := .mk (fkey (0x201035 + i * 128) 0 0 3) 8 0
/-! GRDnn_GZI (10) -/
abbrev F.GRD_GZI_IINR (i : Nat) : Fld := .mk (fkey (0x201036 + i * 128) 26 0 3) 10 0
abbrev F.GRD_GZI_RBASE (i : Nat) : Fld := .mk (fkey (0x201036 + i * 128) 19 0 3) 7 0
abbrev F.GRD_GZI_RMAX (i : Nat) : Fld := .mk (fkey (0x201036 + i * 128) 12 0 3) 7 0
abbrev F.GRD_GZI_PSOA (i : Nat) : Fld := .mk (fkey (0x201036 + i * 128) 6 0 3) 6 0
abbrev F.GRD_GZI_TSOA (i : Nat) : Fld := .mk (fkey (0x201036 + i * 128) 0 0 3) 6 0
/-! GRDnn_CAP0 (10) -/
abbrev F.GRD_CAP0_LIMITS (i : Nat) : Fld := .mk (fkey (0x201037 + i * 128) 0 0 3) 36 68719476728
/-! GRDnn_CAP1 (10) -/
abbrev F.GRD_CAP1_LIMITS (i : Nat) : Fld := .mk (fkey (0x201038 + i * 128) 0 0 3) 36 68719476735
/-! GRDnn_SET0 (10) -/
abbrev F.GRD_SET0_LIMITS (i : Nat) : Fld := .mk (fkey (0x201039 + i * 128) 0 0 3) 36 68719476728
/-! GRDnn_SET1 (10) -/
abbrev F.GRD_SET1_LIMITS (i : Nat) : Fld := .mk (fkey (0x20103A + i * 128) 0 0 3) 36 68719476735
/-! GRDnn_EFF0 (10) -/
abbrev F.GRD_EFF0_LIMITS (i : Nat) : Fld := .mk (fkey (0x20103B + i * 128) 0 0 3) 36 0
/-! GRDnn_EFF1 (10) -/
abbrev F.GRD_EFF1_LIMITS (i : Nat) : Fld := .mk (fkey (0x20103C + i * 128) 0 0 3) 36 0
/-! GRDnn_CLAMP (10) -/
abbrev F.GRD_CLAMP_CLAMP (i : Nat) : Fld := .mk (fkey (0x20103D + i * 128) 0 0 3) 12 4095
/-! GRDnn_MEAS (10) -/
abbrev F.GRD_MEAS_I (i : Nat) : Fld := .mk (fkey (0x20103E + i * 128) 20 0 2) 16 0
abbrev F.GRD_MEAS_VBS (i : Nat) : Fld := .mk (fkey (0x20103E + i * 128) 7 0 2) 13 0
/-! GRDnn_PATH (10) -/
abbrev F.GRD_PATH_RA (i : Nat) : Fld := .mk (fkey (0x20103F + i * 128) 24 0 2) 12 4095
abbrev F.GRD_PATH_RB (i : Nat) : Fld := .mk (fkey (0x20103F + i * 128) 12 0 2) 12 4095
abbrev F.GRD_PATH_TNTC (i : Nat) : Fld := .mk (fkey (0x20103F + i * 128) 3 0 2) 9 0
/-! BUD_CHG (11) -/
abbrev F.BUD_CHG_BUDGET : Fld := .mk (fkey (0x200400) 0 0 2) 24 0
/-! BUD_DIS (11) -/
abbrev F.BUD_DIS_BUDGET : Fld := .mk (fkey (0x200401) 0 0 2) 24 0
/-! BUD_CTRL (11) -/
abbrev F.BUD_CTRL_ACKDL : Fld := .mk (fkey (0x200402) 8 0 2) 8 8
abbrev F.BUD_CTRL_HOLD : Fld := .mk (fkey (0x200402) 0 0 2) 1 0
/-! BUD_CFG (11) -/
abbrev F.BUD_CFG_UNARMCAP : Fld := .mk (fkey (0x200403) 0 0 2) 18 150
/-! BUD_STAT (11) -/
abbrev F.BUD_STAT_BUSY : Fld := .mk (fkey (0x200404) 5 0 2) 1 0
abbrev F.BUD_STAT_STAGED : Fld := .mk (fkey (0x200404) 4 0 2) 1 0
abbrev F.BUD_STAT_DSHORT : Fld := .mk (fkey (0x200404) 3 0 2) 1 0
abbrev F.BUD_STAT_CSHORT : Fld := .mk (fkey (0x200404) 2 0 2) 1 0
abbrev F.BUD_STAT_DISW : Fld := .mk (fkey (0x200404) 1 0 2) 1 0
abbrev F.BUD_STAT_CHGW : Fld := .mk (fkey (0x200404) 0 0 2) 1 0
/-! BUD_ALLOCC (11) -/
abbrev F.BUD_ALLOCC_ALLOC : Fld := .mk (fkey (0x200405) 0 0 2) 24 0
/-! BUD_ALLOCD (11) -/
abbrev F.BUD_ALLOCD_ALLOC : Fld := .mk (fkey (0x200406) 0 0 2) 24 0
/-! BUD_ACK (11) -/
abbrev F.BUD_ACK_SERIAL : Fld := .mk (fkey (0x200407) 24 0 1) 12 0
abbrev F.BUD_ACK_PORT : Fld := .mk (fkey (0x200407) 16 0 1) 5 0
/-! BUD_EVT (11) -/
abbrev F.BUD_EVT_LATE : Fld := .mk (fkey (0x200408) 6 0 2) 1 0
abbrev F.BUD_EVT_NOTEDROP : Fld := .mk (fkey (0x200408) 5 0 2) 1 0
abbrev F.BUD_EVT_INBAD : Fld := .mk (fkey (0x200408) 4 0 2) 1 0
abbrev F.BUD_EVT_ACKLATE : Fld := .mk (fkey (0x200408) 3 0 2) 1 0
abbrev F.BUD_EVT_SHORT : Fld := .mk (fkey (0x200408) 2 0 2) 1 0
abbrev F.BUD_EVT_REVOKE : Fld := .mk (fkey (0x200408) 1 0 2) 1 0
abbrev F.BUD_EVT_RECOMP : Fld := .mk (fkey (0x200408) 0 0 2) 1 0
/-! BUD_IE (11) -/
abbrev F.BUD_IE_IE : Fld := .mk (fkey (0x200409) 0 0 2) 7 126
/-! BUD_REVOKED (11) -/
abbrev F.BUD_REVOKED_REVOKED : Fld := .mk (fkey (0x20040A) 0 0 2) 24 0
/-! BUDnn_LIM (11) -/
abbrev F.BUDP_LIM_CEIL (i : Nat) : Fld := .mk (fkey (0x201044 + i * 128) 18 0 2) 18 0
abbrev F.BUDP_LIM_FLOOR (i : Nat) : Fld := .mk (fkey (0x201044 + i * 128) 0 0 2) 18 0
/-! BUDnn_CTRL (11) -/
abbrev F.BUDP_CTRL_WEIGHT (i : Nat) : Fld := .mk (fkey (0x201045 + i * 128) 8 0 2) 8 1
abbrev F.BUDP_CTRL_CLASS (i : Nat) : Fld := .mk (fkey (0x201045 + i * 128) 4 0 2) 2 3
abbrev F.BUDP_CTRL_RENEGUP (i : Nat) : Fld := .mk (fkey (0x201045 + i * 128) 1 0 2) 1 0
abbrev F.BUDP_CTRL_ACKEN (i : Nat) : Fld := .mk (fkey (0x201045 + i * 128) 0 0 2) 1 1
/-! BUDnn_STAT (11) -/
abbrev F.BUDP_STAT_SERIAL (i : Nat) : Fld := .mk (fkey (0x201046 + i * 128) 24 0 2) 12 0
abbrev F.BUDP_STAT_ARMED (i : Nat) : Fld := .mk (fkey (0x201046 + i * 128) 23 0 2) 1 0
abbrev F.BUDP_STAT_REVOKED (i : Nat) : Fld := .mk (fkey (0x201046 + i * 128) 22 0 2) 1 0
abbrev F.BUDP_STAT_NOTEPEND (i : Nat) : Fld := .mk (fkey (0x201046 + i * 128) 21 0 2) 1 0
abbrev F.BUDP_STAT_PART (i : Nat) : Fld := .mk (fkey (0x201046 + i * 128) 19 0 2) 2 0
abbrev F.BUDP_STAT_NOCAP (i : Nat) : Fld := .mk (fkey (0x201046 + i * 128) 18 0 2) 1 0
abbrev F.BUDP_STAT_CAP (i : Nat) : Fld := .mk (fkey (0x201046 + i * 128) 0 0 2) 18 0
/-! MTR_IVAL (12) -/
abbrev F.MTR_IVAL_IVAL : Fld := .mk (fkey (0x200500) 0 0 2) 6 15
/-! MTR_CFG (12) -/
abbrev F.MTR_CFG_SEGCH : Fld := .mk (fkey (0x200501) 0 0 3) 6 63
/-! MTR_SETTLED (12) -/
abbrev F.MTR_SETTLED_SETTLED : Fld := .mk (fkey (0x200502) 0 0 2) 24 0
/-! MTRnn_CTRL (12) -/
abbrev F.MTR_CTRL_CREEP (i : Nat) : Fld := .mk (fkey (0x202000 + i * 32) 8 0 2) 8 5
abbrev F.MTR_CTRL_RAW (i : Nat) : Fld := .mk (fkey (0x202000 + i * 32) 2 0 2) 1 0
abbrev F.MTR_CTRL_CLOSE (i : Nat) : Fld := .mk (fkey (0x202000 + i * 32) 1 0 2) 1 0
/-! MTRnn_STAT (12) -/
abbrev F.MTR_STAT_SER (i : Nat) : Fld := .mk (fkey (0x202001 + i * 32) 24 0 2) 12 0
abbrev F.MTR_STAT_QDEPTH (i : Nat) : Fld := .mk (fkey (0x202001 + i * 32) 20 0 2) 4 0
abbrev F.MTR_STAT_POSTED (i : Nat) : Fld := .mk (fkey (0x202001 + i * 32) 17 0 2) 3 0
abbrev F.MTR_STAT_SETTLED (i : Nat) : Fld := .mk (fkey (0x202001 + i * 32) 16 0 2) 1 0
abbrev F.MTR_STAT_OPEN (i : Nat) : Fld := .mk (fkey (0x202001 + i * 32) 15 0 2) 1 0
abbrev F.MTR_STAT_CALOK (i : Nat) : Fld := .mk (fkey (0x202001 + i * 32) 14 0 2) 1 0
abbrev F.MTR_STAT_CALSRC (i : Nat) : Fld := .mk (fkey (0x202001 + i * 32) 13 0 3) 1 0
abbrev F.MTR_STAT_FLAGS (i : Nat) : Fld := .mk (fkey (0x202001 + i * 32) 0 0 2) 8 0
/-! MTRnn_EVT (12) -/
abbrev F.MTR_EVT_SETTLED (i : Nat) : Fld := .mk (fkey (0x202002 + i * 32) 6 0 2) 1 0
abbrev F.MTR_EVT_CALBAD (i : Nat) : Fld := .mk (fkey (0x202002 + i * 32) 5 0 2) 1 0
abbrev F.MTR_EVT_CALCHG (i : Nat) : Fld := .mk (fkey (0x202002 + i * 32) 4 0 2) 1 0
abbrev F.MTR_EVT_MERGE (i : Nat) : Fld := .mk (fkey (0x202002 + i * 32) 3 0 2) 1 0
abbrev F.MTR_EVT_OVRANGE (i : Nat) : Fld := .mk (fkey (0x202002 + i * 32) 2 0 2) 1 0
abbrev F.MTR_EVT_DIT (i : Nat) : Fld := .mk (fkey (0x202002 + i * 32) 1 0 2) 1 0
abbrev F.MTR_EVT_CLOSED (i : Nat) : Fld := .mk (fkey (0x202002 + i * 32) 0 0 2) 1 0
/-! MTRnn_IE (12) -/
abbrev F.MTR_IE_IE (i : Nat) : Fld := .mk (fkey (0x202003 + i * 32) 0 0 2) 7 127
/-! MTRnn_IMPL (12) -/
abbrev F.MTR_IMPL_LOW (i : Nat) : Fld := .mk (fkey (0x202004 + i * 32) 0 0 2) 36 0
/-! MTRnn_EXPL (12) -/
abbrev F.MTR_EXPL_LOW (i : Nat) : Fld := .mk (fkey (0x202006 + i * 32) 0 0 2) 36 0
/-! MTRnn_IMPH (12) -/
abbrev F.MTR_IMPH_HIGH (i : Nat) (c : Nat) : Fld := .mk (fkey (0x202005 + i * 32) 0 c 2) 36 0
/-! MTRnn_EXPH (12) -/
abbrev F.MTR_EXPH_HIGH (i : Nat) (c : Nat) : Fld := .mk (fkey (0x202007 + i * 32) 0 c 2) 36 0
/-! MTRnn_V (12) -/
abbrev F.MTR_V_VALUE (i : Nat) : Fld := .mk (fkey (0x202008 + i * 32) 0 0 2) 32 0
/-! MTRnn_I (12) -/
abbrev F.MTR_I_VALUE (i : Nat) : Fld := .mk (fkey (0x202009 + i * 32) 0 0 2) 32 0
/-! MTRnn_P (12) -/
abbrev F.MTR_P_POWER (i : Nat) : Fld := .mk (fkey (0x20200A + i * 32) 0 0 2) 32 0
/-! MTRnn_SEGSTE (12) -/
abbrev F.MTR_SEGSTE_START (i : Nat) (c : Nat) : Fld := .mk (fkey (0x20200B + i * 32) 0 c 2) 36 0
/-! MTRnn_SEGSTT (12) -/
abbrev F.MTR_SEGSTT_START (i : Nat) : Fld := .mk (fkey (0x20200C + i * 32) 0 0 2) 36 0
/-! MTRnn_LSEGI (12) -/
abbrev F.MTR_LSEGI_ENERGY (i : Nat) (c : Nat) : Fld := .mk (fkey (0x20200D + i * 32) 0 c 2) 36 0
/-! MTRnn_LSEGE (12) -/
abbrev F.MTR_LSEGE_ENERGY (i : Nat) (c : Nat) : Fld := .mk (fkey (0x20200E + i * 32) 0 c 2) 36 0
/-! MTRnn_LSEGW0 (12) -/
abbrev F.MTR_LSEGW0_WORD0 (i : Nat) : Fld := .mk (fkey (0x20200F + i * 32) 0 0 2) 36 0
/-! MTRnn_CALVG (12) -/
abbrev F.MTR_CALVG_VG (i : Nat) : Fld := .mk (fkey (0x202010 + i * 32) 0 0 3) 28 0
/-! MTRnn_CALVO (12) -/
abbrev F.MTR_CALVO_VO (i : Nat) : Fld := .mk (fkey (0x202011 + i * 32) 0 0 3) 24 0
/-! MTRnn_CALIG (12) -/
abbrev F.MTR_CALIG_IG (i : Nat) : Fld := .mk (fkey (0x202012 + i * 32) 0 0 3) 32 0
/-! MTRnn_CALIO (12) -/
abbrev F.MTR_CALIO_IO (i : Nat) : Fld := .mk (fkey (0x202013 + i * 32) 0 0 3) 24 0
/-! LGR_CTRL (13) -/
abbrev F.LGR_CTRL_LOWWAT : Fld := .mk (fkey (0x200600) 24 0 2) 4 2
abbrev F.LGR_CTRL_BLKTO : Fld := .mk (fkey (0x200600) 16 0 2) 8 60
abbrev F.LGR_CTRL_CMTDL : Fld := .mk (fkey (0x200600) 8 0 2) 8 5
abbrev F.LGR_CTRL_BLKMAX : Fld := .mk (fkey (0x200600) 0 0 2) 4 15
/-! LGR_STAT (13) -/
abbrev F.LGR_STAT_STAGED : Fld := .mk (fkey (0x200601) 18 0 2) 10 0
abbrev F.LGR_STAT_NREC : Fld := .mk (fkey (0x200601) 9 0 2) 9 0
abbrev F.LGR_STAT_SIGNING : Fld := .mk (fkey (0x200601) 4 0 2) 1 0
abbrev F.LGR_STAT_FULL : Fld := .mk (fkey (0x200601) 3 0 2) 1 0
abbrev F.LGR_STAT_LOWSPACE : Fld := .mk (fkey (0x200601) 2 0 2) 1 0
abbrev F.LGR_STAT_SCANNED : Fld := .mk (fkey (0x200601) 1 0 2) 1 0
abbrev F.LGR_STAT_OPEN : Fld := .mk (fkey (0x200601) 0 0 2) 1 0
/-! LGR_EVT (13) -/
abbrev F.LGR_EVT_DUP : Fld := .mk (fkey (0x200602) 7 0 2) 1 0
abbrev F.LGR_EVT_STAGEFULL : Fld := .mk (fkey (0x200602) 6 0 2) 1 0
abbrev F.LGR_EVT_RELBAD : Fld := .mk (fkey (0x200602) 5 0 2) 1 0
abbrev F.LGR_EVT_RELDONE : Fld := .mk (fkey (0x200602) 4 0 2) 1 0
abbrev F.LGR_EVT_RECOV : Fld := .mk (fkey (0x200602) 3 0 2) 1 0
abbrev F.LGR_EVT_FULL : Fld := .mk (fkey (0x200602) 2 0 2) 1 0
abbrev F.LGR_EVT_LOWSPACE : Fld := .mk (fkey (0x200602) 1 0 2) 1 0
abbrev F.LGR_EVT_BLOCK : Fld := .mk (fkey (0x200602) 0 0 2) 1 0
/-! LGR_IE (13) -/
abbrev F.LGR_IE_IE : Fld := .mk (fkey (0x200603) 0 0 2) 8 254
/-! LGR_BSEQ (13) -/
abbrev F.LGR_BSEQ_BSEQ : Fld := .mk (fkey (0x200604) 0 0 2) 32 0
/-! LGR_TAILSEQ (13) -/
abbrev F.LGR_TAILSEQ_BSEQ : Fld := .mk (fkey (0x200605) 0 0 2) 32 0
/-! LGR_RELEASE (13) -/
abbrev F.LGR_RELEASE_BSEQ : Fld := .mk (fkey (0x200606) 0 0 1) 32 0
/-! LGR_HEAD (13) -/
abbrev F.LGR_HEAD_PAGES : Fld := .mk (fkey (0x200607) 0 0 2) 32 0
/-! LGR_FREE (13) -/
abbrev F.LGR_FREE_PAGES : Fld := .mk (fkey (0x200608) 0 0 2) 32 0
/-! LGR_CERTPTR (13) -/
abbrev F.LGR_CERTPTR_PTR (c : Nat) : Fld := .mk (fkey (0x200609) 0 c 2) 8 0
/-! LGR_CERTDAT (13) -/
abbrev F.LGR_CERTDAT_DATA : Fld := .mk (fkey (0x20060A) 0 0 2) 32 0
/-! LGR_CERTLEN (13) -/
abbrev F.LGR_CERTLEN_LEN : Fld := .mk (fkey (0x20060B) 0 0 2) 10 0
/-! LGR_PUB00–LGR_PUB15 (13) -/
abbrev F.LGR_PUB_KEY (i : Nat) : Fld := .mk (fkey (0x200610 + i * 1) 0 0 2) 32 0
/-! STO_CFG (13) -/
abbrev F.STO_CFG_FREQ : Fld := .mk (fkey (0x200700) 0 0 2) 2 1
/-! STO_STAT (13) -/
abbrev F.STO_STAT_CHIPS : Fld := .mk (fkey (0x200701) 20 0 2) 2 0
abbrev F.STO_STAT_CAP : Fld := .mk (fkey (0x200701) 12 0 2) 8 0
abbrev F.STO_STAT_BLANK : Fld := .mk (fkey (0x200701) 6 0 2) 1 0
abbrev F.STO_STAT_FMTBAD : Fld := .mk (fkey (0x200701) 5 0 2) 1 0
abbrev F.STO_STAT_SCANNED : Fld := .mk (fkey (0x200701) 4 0 2) 1 0
abbrev F.STO_STAT_RDBUSY : Fld := .mk (fkey (0x200701) 3 0 2) 1 0
abbrev F.STO_STAT_RDERR : Fld := .mk (fkey (0x200701) 2 0 2) 1 0
abbrev F.STO_STAT_READY : Fld := .mk (fkey (0x200701) 1 0 2) 1 0
abbrev F.STO_STAT_BUSY : Fld := .mk (fkey (0x200701) 0 0 2) 1 0
/-! STO_EVT (13) -/
abbrev F.STO_EVT_RDDONE : Fld := .mk (fkey (0x200702) 6 0 2) 1 0
abbrev F.STO_EVT_LOGDROP : Fld := .mk (fkey (0x200702) 5 0 2) 1 0
abbrev F.STO_EVT_SPARELOW : Fld := .mk (fkey (0x200702) 4 0 2) 1 0
abbrev F.STO_EVT_ECCHI : Fld := .mk (fkey (0x200702) 3 0 2) 1 0
abbrev F.STO_EVT_ECCFAIL : Fld := .mk (fkey (0x200702) 2 0 2) 1 0
abbrev F.STO_EVT_ERSFAIL : Fld := .mk (fkey (0x200702) 1 0 2) 1 0
abbrev F.STO_EVT_PGMFAIL : Fld := .mk (fkey (0x200702) 0 0 2) 1 0
/-! STO_IE (13) -/
abbrev F.STO_IE_IE : Fld := .mk (fkey (0x200703) 0 0 2) 7 63
/-! STO_GEOM (13) -/
abbrev F.STO_GEOM_PPB : Fld := .mk (fkey (0x200704) 16 0 2) 8 0
abbrev F.STO_GEOM_PAGE : Fld := .mk (fkey (0x200704) 0 0 2) 16 0
/-! STO_BADCNT (13) -/
abbrev F.STO_BADCNT_BAD : Fld := .mk (fkey (0x200705) 0 0 2) 16 0
/-! STO_RD (13) -/
abbrev F.STO_RD_PART : Fld := .mk (fkey (0x200706) 32 0 1) 4 0
abbrev F.STO_RD_PAGE : Fld := .mk (fkey (0x200706) 0 0 1) 32 0
/-! STO_FMT (13) -/
abbrev F.STO_FMT_KEY : Fld := .mk (fkey (0x200707) 0 0 1) 8 0
/-! STO_LOGW0–STO_LOGW3 (13) -/
abbrev F.STO_LOGW_DATA (i : Nat) (c : Nat) : Fld := .mk (fkey (0x200708 + i * 1) 0 c 1) 32 0
/-! STO_LOGT (13) -/
abbrev F.STO_LOGT_TYPE : Fld := .mk (fkey (0x20070C) 0 0 1) 8 0
/-! COREn_STAT (14) -/
abbrev F.CORE_STAT_RSDEPTH (i : Nat) : Fld := .mk (fkey (0x200800 + i * 8) 6 0 1) 5 0
abbrev F.CORE_STAT_STATE (i : Nat) : Fld := .mk (fkey (0x200800 + i * 8) 0 0 1) 3 0
/-! COREn_VEC (14) -/
abbrev F.CORE_VEC_VEC (i : Nat) : Fld := .mk (fkey (0x200801 + i * 8) 0 0 1) 22 65552
/-! COREn_EXC (14) -/
abbrev F.CORE_EXC_COUNT (i : Nat) : Fld := .mk (fkey (0x200802 + i * 8) 30 0 2) 6 0
abbrev F.CORE_EXC_INFO (i : Nat) : Fld := .mk (fkey (0x200802 + i * 8) 8 0 2) 22 0
abbrev F.CORE_EXC_CAUSE (i : Nat) : Fld := .mk (fkey (0x200802 + i * 8) 4 0 2) 4 0
abbrev F.CORE_EXC_DOUBLE (i : Nat) : Fld := .mk (fkey (0x200802 + i * 8) 2 0 1) 1 0
abbrev F.CORE_EXC_ACTIVE (i : Nat) : Fld := .mk (fkey (0x200802 + i * 8) 0 0 1) 1 0
/-! COREn_EPC (14) -/
abbrev F.CORE_EPC_EPC (i : Nat) : Fld := .mk (fkey (0x200803 + i * 8) 0 0 2) 22 0
/-! COREn_P (14) -/
abbrev F.CORE_P_P (i : Nat) : Fld := .mk (fkey (0x200804 + i * 8) 0 0 1) 22 0
/-! FAB_CHSEL (15) -/
abbrev F.FAB_CHSEL_CH (c : Nat) : Fld := .mk (fkey (0x200900) 0 c 2) 6 0
/-! FAB_CHCFG (15) -/
abbrev F.FAB_CHCFG_TAKEDL : Fld := .mk (fkey (0x200901) 18 0 2) 18 0
abbrev F.FAB_CHCFG_EN : Fld := .mk (fkey (0x200901) 14 0 2) 1 0
abbrev F.FAB_CHCFG_DEPTH : Fld := .mk (fkey (0x200901) 8 0 2) 6 0
abbrev F.FAB_CHCFG_DST : Fld := .mk (fkey (0x200901) 4 0 2) 4 0
abbrev F.FAB_CHCFG_SRC : Fld := .mk (fkey (0x200901) 0 0 2) 4 0
/-! FAB_CHSTAT (15) -/
abbrev F.FAB_CHSTAT_SENT : Fld := .mk (fkey (0x200902) 24 0 2) 12 0
abbrev F.FAB_CHSTAT_QLEN : Fld := .mk (fkey (0x200902) 12 0 1) 6 0
abbrev F.FAB_CHSTAT_LATE : Fld := .mk (fkey (0x200902) 2 0 2) 1 0
abbrev F.FAB_CHSTAT_REFUSED : Fld := .mk (fkey (0x200902) 1 0 2) 1 0
abbrev F.FAB_CHSTAT_DISC : Fld := .mk (fkey (0x200902) 0 0 2) 1 0
/-! FAB_EVT (15) -/
abbrev F.FAB_EVT_ADMWR : Fld := .mk (fkey (0x200903) 4 0 2) 1 0
abbrev F.FAB_EVT_CFGBAD : Fld := .mk (fkey (0x200903) 3 0 2) 1 0
abbrev F.FAB_EVT_ADMCHG : Fld := .mk (fkey (0x200903) 2 0 2) 1 0
abbrev F.FAB_EVT_RECLAIM : Fld := .mk (fkey (0x200903) 1 0 2) 1 0
abbrev F.FAB_EVT_LATE : Fld := .mk (fkey (0x200903) 0 0 2) 1 0
/-! FAB_IE (15) -/
abbrev F.FAB_IE_IE : Fld := .mk (fkey (0x200904) 0 0 2) 5 31
/-! FAB_DLM (15) -/
abbrev F.FAB_DLM_COUNT : Fld := .mk (fkey (0x200905) 24 0 2) 12 0
abbrev F.FAB_DLM_KIND : Fld := .mk (fkey (0x200905) 20 0 2) 4 0
abbrev F.FAB_DLM_INDEX : Fld := .mk (fkey (0x200905) 8 0 2) 6 0
/-! FAB_ADMF (15) -/
abbrev F.FAB_ADMF_BUSY : Fld := .mk (fkey (0x200906) 24 0 2) 1 0
abbrev F.FAB_ADMF_FLOOR : Fld := .mk (fkey (0x200906) 0 0 2) 24 0
/-! FAB_ADMPTR (15) -/
abbrev F.FAB_ADMPTR_RUN : Fld := .mk (fkey (0x200907) 35 0 2) 1 0
abbrev F.FAB_ADMPTR_PTR : Fld := .mk (fkey (0x200907) 0 0 2) 10 0
/-! FAB_ADM0–FAB_ADM5 (15) -/
abbrev F.FAB_ADM_NH (i : Nat) : Fld := .mk (fkey (0x200908 + i * 1) 20 0 2) 8 0
abbrev F.FAB_ADM_BAD (i : Nat) : Fld := .mk (fkey (0x200908 + i * 1) 14 0 2) 1 0
abbrev F.FAB_ADM_DFAIL (i : Nat) : Fld := .mk (fkey (0x200908 + i * 1) 13 0 2) 1 0
abbrev F.FAB_ADM_UFAIL (i : Nat) : Fld := .mk (fkey (0x200908 + i * 1) 12 0 2) 1 0
abbrev F.FAB_ADM_U (i : Nat) : Fld := .mk (fkey (0x200908 + i * 1) 0 0 2) 12 0
/-! FAB_ADMLOAD (15) -/
abbrev F.FAB_ADMLOAD_WORD : Fld := .mk (fkey (0x20090E) 0 0 1) 36 0
/-! EVT_SEL (15) -/
abbrev F.EVT_SEL_SRC (c : Nat) : Fld := .mk (fkey (0x200A00) 0 c 2) 8 0
/-! EVT_RTE (15) -/
abbrev F.EVT_RTE_IRQ1 : Fld := .mk (fkey (0x200A01) 8 0 2) 1 0
abbrev F.EVT_RTE_IRQ0 : Fld := .mk (fkey (0x200A01) 7 0 2) 1 0
abbrev F.EVT_RTE_CHEN : Fld := .mk (fkey (0x200A01) 6 0 2) 1 0
abbrev F.EVT_RTE_CH : Fld := .mk (fkey (0x200A01) 0 0 2) 6 0
/-! EVT_PEND0–EVT_PEND7 (15) -/
abbrev F.EVT_PEND_PEND (i : Nat) : Fld := .mk (fkey (0x200A08 + i * 1) 0 0 2) 32 0
/-! EVT_SWSET (15) -/
abbrev F.EVT_SWSET_RAISE : Fld := .mk (fkey (0x200A10) 0 0 1) 16 0
/-! EVT_IRQ (15) -/
abbrev F.EVT_IRQ_SRC1 : Fld := .mk (fkey (0x200A11) 16 0 2) 8 0
abbrev F.EVT_IRQ_SRC0 : Fld := .mk (fkey (0x200A11) 8 0 2) 8 0
abbrev F.EVT_IRQ_ACT1 : Fld := .mk (fkey (0x200A11) 1 0 2) 1 0
abbrev F.EVT_IRQ_ACT0 : Fld := .mk (fkey (0x200A11) 0 0 2) 1 0
/-! TWn_CTRL (16) -/
abbrev F.TW_CTRL_RECOVER (i : Nat) : Fld := .mk (fkey (0x200B00 + i * 16) 24 0 2) 1 0
abbrev F.TW_CTRL_ARBMAX (i : Nat) : Fld := .mk (fkey (0x200B00 + i * 16) 20 0 2) 4 8
abbrev F.TW_CTRL_OWNADDR (i : Nat) : Fld := .mk (fkey (0x200B00 + i * 16) 12 0 2) 7 (if i = 0 then 0x68 else 0)
abbrev F.TW_CTRL_OWNEN (i : Nat) : Fld := .mk (fkey (0x200B00 + i * 16) 11 0 2) 1 (if i = 0 then 1 else 0)
abbrev F.TW_CTRL_FILTN (i : Nat) : Fld := .mk (fkey (0x200B00 + i * 16) 6 0 2) 5 5
abbrev F.TW_CTRL_MODE (i : Nat) : Fld := .mk (fkey (0x200B00 + i * 16) 2 0 2) 2 1
/-! TWn_TOUT (16) -/
abbrev F.TW_TOUT_BRSTW (i : Nat) : Fld := .mk (fkey (0x200B01 + i * 16) 16 0 2) 8 10
abbrev F.TW_TOUT_SDATO (i : Nat) : Fld := .mk (fkey (0x200B01 + i * 16) 8 0 2) 8 25
abbrev F.TW_TOUT_SCLTO (i : Nat) : Fld := .mk (fkey (0x200B01 + i * 16) 0 0 2) 8 25
/-! TWn_STAT (16) -/
abbrev F.TW_STAT_SRXN (i : Nat) : Fld := .mk (fkey (0x200B02 + i * 16) 16 0 2) 4 0
abbrev F.TW_STAT_PTR (i : Nat) : Fld := .mk (fkey (0x200B02 + i * 16) 8 0 2) 8 0
abbrev F.TW_STAT_RECOV (i : Nat) : Fld := .mk (fkey (0x200B02 + i * 16) 7 0 2) 1 0
abbrev F.TW_STAT_STUCK (i : Nat) : Fld := .mk (fkey (0x200B02 + i * 16) 6 0 2) 1 0
abbrev F.TW_STAT_SDA (i : Nat) : Fld := .mk (fkey (0x200B02 + i * 16) 5 0 2) 1 0
abbrev F.TW_STAT_SCL (i : Nat) : Fld := .mk (fkey (0x200B02 + i * 16) 4 0 2) 1 0
abbrev F.TW_STAT_ROLE (i : Nat) : Fld := .mk (fkey (0x200B02 + i * 16) 2 0 2) 2 0
abbrev F.TW_STAT_FREE (i : Nat) : Fld := .mk (fkey (0x200B02 + i * 16) 1 0 2) 1 0
abbrev F.TW_STAT_BUSY (i : Nat) : Fld := .mk (fkey (0x200B02 + i * 16) 0 0 2) 1 0
/-! TWn_EVT (16) -/
abbrev F.TW_EVT_SRXOVR (i : Nat) : Fld := .mk (fkey (0x200B03 + i * 16) 12 0 2) 1 0
abbrev F.TW_EVT_SRX (i : Nat) : Fld := .mk (fkey (0x200B03 + i * 16) 11 0 2) 1 0
abbrev F.TW_EVT_CALLDONE (i : Nat) : Fld := .mk (fkey (0x200B03 + i * 16) 10 0 2) 1 0
abbrev F.TW_EVT_PARTIAL (i : Nat) : Fld := .mk (fkey (0x200B03 + i * 16) 9 0 2) 1 0
abbrev F.TW_EVT_ROLESW (i : Nat) : Fld := .mk (fkey (0x200B03 + i * 16) 8 0 2) 1 0
abbrev F.TW_EVT_BRST (i : Nat) : Fld := .mk (fkey (0x200B03 + i * 16) 7 0 2) 1 0
abbrev F.TW_EVT_RECOVER (i : Nat) : Fld := .mk (fkey (0x200B03 + i * 16) 6 0 2) 1 0
abbrev F.TW_EVT_SDATO (i : Nat) : Fld := .mk (fkey (0x200B03 + i * 16) 5 0 2) 1 0
abbrev F.TW_EVT_SCLTO (i : Nat) : Fld := .mk (fkey (0x200B03 + i * 16) 4 0 2) 1 0
abbrev F.TW_EVT_BUSERR (i : Nat) : Fld := .mk (fkey (0x200B03 + i * 16) 3 0 2) 1 0
abbrev F.TW_EVT_ARBLOST (i : Nat) : Fld := .mk (fkey (0x200B03 + i * 16) 2 0 2) 1 0
abbrev F.TW_EVT_NACK (i : Nat) : Fld := .mk (fkey (0x200B03 + i * 16) 1 0 2) 1 0
abbrev F.TW_EVT_MDONE (i : Nat) : Fld := .mk (fkey (0x200B03 + i * 16) 0 0 2) 1 0
/-! TWn_IE (16) -/
abbrev F.TW_IE_IE (i : Nat) : Fld := .mk (fkey (0x200B04 + i * 16) 0 0 2) 13 8184
/-! TWn_ERR (16) -/
abbrev F.TW_ERR_KIND (i : Nat) : Fld := .mk (fkey (0x200B05 + i * 16) 20 0 2) 4 0
abbrev F.TW_ERR_ROLE (i : Nat) : Fld := .mk (fkey (0x200B05 + i * 16) 18 0 2) 2 0
abbrev F.TW_ERR_BIT (i : Nat) : Fld := .mk (fkey (0x200B05 + i * 16) 14 0 2) 4 0
abbrev F.TW_ERR_BYTE (i : Nat) : Fld := .mk (fkey (0x200B05 + i * 16) 7 0 2) 7 0
abbrev F.TW_ERR_ADDR (i : Nat) : Fld := .mk (fkey (0x200B05 + i * 16) 0 0 2) 7 0
/-! TWn_ERRTB (16) -/
abbrev F.TW_ERRTB_TB (i : Nat) : Fld := .mk (fkey (0x200B06 + i * 16) 0 0 2) 36 0
/-! TWn_CNT (16) -/
abbrev F.TW_CNT_ARBCNT (i : Nat) : Fld := .mk (fkey (0x200B07 + i * 16) 24 0 2) 12 0
abbrev F.TW_CNT_ERRCNT (i : Nat) : Fld := .mk (fkey (0x200B07 + i * 16) 12 0 2) 12 0
abbrev F.TW_CNT_RECCNT (i : Nat) : Fld := .mk (fkey (0x200B07 + i * 16) 0 0 2) 12 0
/-! TWn_MCMD (16) -/
abbrev F.TW_MCMD_RXLEN (i : Nat) : Fld := .mk (fkey (0x200B08 + i * 16) 20 0 1) 4 0
abbrev F.TW_MCMD_TXLEN (i : Nat) : Fld := .mk (fkey (0x200B08 + i * 16) 16 0 1) 4 0
abbrev F.TW_MCMD_ADDR (i : Nat) : Fld := .mk (fkey (0x200B08 + i * 16) 0 0 1) 7 0
/-! TWn_MDAT0 (16) -/
abbrev F.TW_MDAT0_DATA (i : Nat) (c : Nat) : Fld := .mk (fkey (0x200B09 + i * 16) 0 c 1) 32 0
/-! TWn_MDAT1 (16) -/
abbrev F.TW_MDAT1_DATA (i : Nat) (c : Nat) : Fld := .mk (fkey (0x200B0A + i * 16) 0 c 1) 32 0
/-! TWn_SRX0 (16) -/
abbrev F.TW_SRX0_DATA (i : Nat) : Fld := .mk (fkey (0x200B0B + i * 16) 0 0 2) 32 0
/-! TWn_SRX1 (16) -/
abbrev F.TW_SRX1_DATA (i : Nat) : Fld := .mk (fkey (0x200B0C + i * 16) 0 0 2) 32 0
/-! TWn_MRES (16) -/
abbrev F.TW_MRES_RESULT (i : Nat) (c : Nat) : Fld := .mk (fkey (0x200B0D + i * 16) 24 c 2) 4 0
abbrev F.TW_MRES_NBYTE (i : Nat) (c : Nat) : Fld := .mk (fkey (0x200B0D + i * 16) 20 c 2) 4 0
/-! HOST_WBASE (16) -/
abbrev F.HOST_WBASE_BASE : Fld := .mk (fkey (0x200C00) 0 0 2) 22 0
/-! HOST_CALL (16) -/
abbrev F.HOST_CALL_CODE : Fld := .mk (fkey (0x200C07) 12 0 2) 8 0
abbrev F.HOST_CALL_STATE : Fld := .mk (fkey (0x200C07) 8 0 2) 3 0
abbrev F.HOST_CALL_GO : Fld := .mk (fkey (0x200C07) 7 0 2) 1 0
abbrev F.HOST_CALL_HADDR : Fld := .mk (fkey (0x200C07) 0 0 2) 7 0
/-! SYS_GZ_CTRL (17) -/
abbrev F.SYS_GZ_CTRL_RESCAN : Fld := .mk (fkey (0x200D00) 8 0 1) 6 0
abbrev F.SYS_GZ_CTRL_ACCEPT : Fld := .mk (fkey (0x200D00) 0 0 1) 6 0
/-! SYS_GZ_EVT (17) -/
abbrev F.SYS_GZ_EVT_MISMATCH : Fld := .mk (fkey (0x200D01) 18 0 2) 6 0
abbrev F.SYS_GZ_EVT_FAIL : Fld := .mk (fkey (0x200D01) 12 0 2) 6 0
abbrev F.SYS_GZ_EVT_APPLIED : Fld := .mk (fkey (0x200D01) 6 0 2) 6 0
abbrev F.SYS_GZ_EVT_BOUND : Fld := .mk (fkey (0x200D01) 0 0 2) 6 0
/-! SYS_GZq_STAT (17) -/
abbrev F.SYS_GZQ_STAT_BTYPE (i : Nat) : Fld := .mk (fkey (0x200D08 + i * 1) 20 0 3) 16 0
abbrev F.SYS_GZQ_STAT_FITTED (i : Nat) : Fld := .mk (fkey (0x200D08 + i * 1) 16 0 3) 4 0
abbrev F.SYS_GZQ_STAT_HC (i : Nat) : Fld := .mk (fkey (0x200D08 + i * 1) 15 0 3) 1 0
abbrev F.SYS_GZQ_STAT_BOUND (i : Nat) : Fld := .mk (fkey (0x200D08 + i * 1) 14 0 3) 1 0
abbrev F.SYS_GZQ_STAT_LAST (i : Nat) : Fld := .mk (fkey (0x200D08 + i * 1) 8 0 2) 4 0
abbrev F.SYS_GZQ_STAT_PEND (i : Nat) : Fld := .mk (fkey (0x200D08 + i * 1) 3 0 3) 1 0
abbrev F.SYS_GZQ_STAT_STALE (i : Nat) : Fld := .mk (fkey (0x200D08 + i * 1) 2 0 2) 1 0
abbrev F.SYS_GZQ_STAT_SCAN (i : Nat) : Fld := .mk (fkey (0x200D08 + i * 1) 1 0 2) 1 0
abbrev F.SYS_GZQ_STAT_DONE (i : Nat) : Fld := .mk (fkey (0x200D08 + i * 1) 0 0 2) 1 0
/-! SYS_GZq_SERH (17) -/
abbrev F.SYS_GZQ_SERH_SERIAL (i : Nat) : Fld := .mk (fkey (0x200D10 + i * 2) 0 0 3) 32 0
/-! SYS_GZq_SERL (17) -/
abbrev F.SYS_GZQ_SERL_SERIAL (i : Nat) : Fld := .mk (fkey (0x200D11 + i * 2) 0 0 3) 32 0
/-! HOST_STAT (18) -/
abbrev F.HOST_STAT_MODE : Fld := .mk (fkey (0x200C01) 20 0 2) 4 0
abbrev F.HOST_STAT_TRANS : Fld := .mk (fkey (0x200C01) 19 0 2) 1 0
abbrev F.HOST_STAT_DBGUNL : Fld := .mk (fkey (0x200C01) 18 0 2) 1 0
abbrev F.HOST_STAT_SNAPFULL : Fld := .mk (fkey (0x200C01) 17 0 2) 1 0
abbrev F.HOST_STAT_IF : Fld := .mk (fkey (0x200C01) 16 0 2) 1 0
abbrev F.HOST_STAT_ACT1 : Fld := .mk (fkey (0x200C01) 9 0 2) 1 0
abbrev F.HOST_STAT_ACT0 : Fld := .mk (fkey (0x200C01) 8 0 2) 1 0
abbrev F.HOST_STAT_OUTFULL : Fld := .mk (fkey (0x200C01) 1 0 2) 1 0
abbrev F.HOST_STAT_INFULL : Fld := .mk (fkey (0x200C01) 0 0 2) 1 0
/-! HOST_MBX0–HOST_MBX3 (18) -/
abbrev F.HOST_MBX_DATA (i : Nat) : Fld := .mk (fkey (0x200C02 + i * 1) 0 0 2) 36 0
/-! HOST_EVT (18) -/
abbrev F.HOST_EVT_SPIPART : Fld := .mk (fkey (0x200C06) 6 0 2) 1 0
abbrev F.HOST_EVT_SPIADDR : Fld := .mk (fkey (0x200C06) 5 0 2) 1 0
abbrev F.HOST_EVT_SPICMD : Fld := .mk (fkey (0x200C06) 4 0 2) 1 0
abbrev F.HOST_EVT_OUTOVR : Fld := .mk (fkey (0x200C06) 3 0 2) 1 0
abbrev F.HOST_EVT_INOVR : Fld := .mk (fkey (0x200C06) 2 0 2) 1 0
abbrev F.HOST_EVT_OUTFULL : Fld := .mk (fkey (0x200C06) 1 0 2) 1 0
abbrev F.HOST_EVT_INFULL : Fld := .mk (fkey (0x200C06) 0 0 2) 1 0
/-! SNAP_CTRL (18) -/
abbrev F.SNAP_CTRL_FILTN : Fld := .mk (fkey (0x200E00) 16 0 3) 8 4
abbrev F.SNAP_CTRL_SI : Fld := .mk (fkey (0x200E00) 13 0 3) 3 0
abbrev F.SNAP_CTRL_EDGE : Fld := .mk (fkey (0x200E00) 11 0 3) 2 0
abbrev F.SNAP_CTRL_RSTEN : Fld := .mk (fkey (0x200E00) 10 0 3) 1 0
abbrev F.SNAP_CTRL_GRDEN : Fld := .mk (fkey (0x200E00) 9 0 3) 1 0
abbrev F.SNAP_CTRL_OUTEN : Fld := .mk (fkey (0x200E00) 8 0 3) 1 1
abbrev F.SNAP_CTRL_TRIG : Fld := .mk (fkey (0x200E00) 0 0 3) 1 0
/-! SNAP_GMASK (18) -/
abbrev F.SNAP_GMASK_PORTS : Fld := .mk (fkey (0x200E01) 0 0 3) 24 0
/-! SNAP_STAT (18) -/
abbrev F.SNAP_STAT_CMPCH : Fld := .mk (fkey (0x200E02) 30 0 3) 6 0
abbrev F.SNAP_STAT_PORT : Fld := .mk (fkey (0x200E02) 25 0 3) 5 0
abbrev F.SNAP_STAT_LOST : Fld := .mk (fkey (0x200E02) 13 0 3) 12 0
abbrev F.SNAP_STAT_CAUSE : Fld := .mk (fkey (0x200E02) 8 0 3) 5 0
abbrev F.SNAP_STAT_INFLIGHT : Fld := .mk (fkey (0x200E02) 1 0 3) 1 0
abbrev F.SNAP_STAT_FULL : Fld := .mk (fkey (0x200E02) 0 0 3) 1 0
/-! SNAP_TB (18) -/
abbrev F.SNAP_TB_VALUE : Fld := .mk (fkey (0x200E03) 0 0 3) 36 0
/-! SNAP_EP (18) -/
abbrev F.SNAP_EP_VALUE : Fld := .mk (fkey (0x200E04) 0 0 3) 36 0
/-! SNAP_SYS (18) -/
abbrev F.SNAP_SYS_MODE : Fld := .mk (fkey (0x200E05) 0 0 3) 36 0
/-! SNAP_CORE0–SNAP_CORE5 (18) -/
abbrev F.SNAP_CORE_STATE (i : Nat) : Fld := .mk (fkey (0x200E08 + i * 1) 33 0 3) 3 0
abbrev F.SNAP_CORE_INFLIGHT (i : Nat) : Fld := .mk (fkey (0x200E08 + i * 1) 32 0 3) 1 0
abbrev F.SNAP_CORE_P (i : Nat) : Fld := .mk (fkey (0x200E08 + i * 1) 0 0 3) 22 0
/-! PRTnn_SNAP0 (18) -/
abbrev F.PRT_SNAP0_PESTATE (i : Nat) : Fld := .mk (fkey (0x201054 + i * 128) 31 0 3) 5 0
abbrev F.PRT_SNAP0_ATTSTATE (i : Nat) : Fld := .mk (fkey (0x201054 + i * 128) 27 0 3) 4 0
abbrev F.PRT_SNAP0_GATES (i : Nat) : Fld := .mk (fkey (0x201054 + i * 128) 25 0 3) 2 0
abbrev F.PRT_SNAP0_HPMSTATE (i : Nat) : Fld := .mk (fkey (0x201054 + i * 128) 21 0 3) 4 0
abbrev F.PRT_SNAP0_SWSTEP (i : Nat) : Fld := .mk (fkey (0x201054 + i * 128) 17 0 3) 4 0
abbrev F.PRT_SNAP0_ASKPEND (i : Nat) : Fld := .mk (fkey (0x201054 + i * 128) 11 0 3) 1 0
abbrev F.PRT_SNAP0_INFLIGHT (i : Nat) : Fld := .mk (fkey (0x201054 + i * 128) 10 0 3) 1 0
abbrev F.PRT_SNAP0_TX (i : Nat) : Fld := .mk (fkey (0x201054 + i * 128) 9 0 3) 1 0
abbrev F.PRT_SNAP0_RX (i : Nat) : Fld := .mk (fkey (0x201054 + i * 128) 8 0 3) 1 0
abbrev F.PRT_SNAP0_XFER (i : Nat) : Fld := .mk (fkey (0x201054 + i * 128) 7 0 3) 1 0
abbrev F.PRT_SNAP0_CMD (i : Nat) : Fld := .mk (fkey (0x201054 + i * 128) 6 0 3) 1 0
/-! PRTnn_SNAP1 (18) -/
abbrev F.PRT_SNAP1_MEAS (i : Nat) : Fld := .mk (fkey (0x201055 + i * 128) 0 0 3) 36 0
/-! PRTnn_SNAP2 (18) -/
abbrev F.PRT_SNAP2_ACC (i : Nat) : Fld := .mk (fkey (0x201056 + i * 128) 0 0 3) 36 0
/-! PRTnn_SNAP3 (18) -/
abbrev F.PRT_SNAP3_ACC (i : Nat) : Fld := .mk (fkey (0x201057 + i * 128) 0 0 3) 36 0
/-! DBG_STAT (18) -/
abbrev F.DBG_STAT_HALTED : Fld := .mk (fkey (0x200E20) 6 0 3) 6 0
abbrev F.DBG_STAT_BKEN : Fld := .mk (fkey (0x200E20) 5 0 3) 1 0
abbrev F.DBG_STAT_UNLOCKED : Fld := .mk (fkey (0x200E20) 4 0 3) 1 0
abbrev F.DBG_STAT_LEVEL : Fld := .mk (fkey (0x200E20) 2 0 3) 2 0
abbrev F.DBG_STAT_RESPBAD : Fld := .mk (fkey (0x200E20) 1 0 3) 1 0
abbrev F.DBG_STAT_TAPACT : Fld := .mk (fkey (0x200E20) 0 0 3) 1 0
/-! SVY_CTRL (19) -/
abbrev F.SVY_CTRL_TARGET : Fld := .mk (fkey (0x200F00) 16 0 2) 13 0
abbrev F.SVY_CTRL_PRLIM : Fld := .mk (fkey (0x200F00) 8 0 2) 8 30
abbrev F.SVY_CTRL_YWARN : Fld := .mk (fkey (0x200F00) 0 0 2) 8 5
/-! SVY_CFG (19) -/
abbrev F.SVY_CFG_GUARD : Fld := .mk (fkey (0x200F01) 24 0 2) 6 0
abbrev F.SVY_CFG_VLO : Fld := .mk (fkey (0x200F01) 16 0 2) 6 0
abbrev F.SVY_CFG_KV : Fld := .mk (fkey (0x200F01) 8 0 2) 8 0
abbrev F.SVY_CFG_KT : Fld := .mk (fkey (0x200F01) 0 0 2) 8 0
/-! SVY_STAT (19) -/
abbrev F.SVY_STAT_OVER : Fld := .mk (fkey (0x200F02) 6 0 2) 1 0
abbrev F.SVY_STAT_VMAX : Fld := .mk (fkey (0x200F02) 5 0 2) 1 0
abbrev F.SVY_STAT_CERT : Fld := .mk (fkey (0x200F02) 4 0 3) 1 0
abbrev F.SVY_STAT_STATE : Fld := .mk (fkey (0x200F02) 0 0 2) 3 0
/-! SVY_FLOOR (19) -/
abbrev F.SVY_FLOOR_ISLAND : Fld := .mk (fkey (0x200F03) 24 0 3) 4 0
abbrev F.SVY_FLOOR_FLOOR : Fld := .mk (fkey (0x200F03) 0 0 3) 24 0
/-! SVY_BENCH0–SVY_BENCH7 (19) -/
abbrev F.SVY_BENCH_TEMP (i : Nat) : Fld := .mk (fkey (0x200F08 + i * 1) 24 0 2) 8 0
abbrev F.SVY_BENCH_LAPS (i : Nat) : Fld := .mk (fkey (0x200F08 + i * 1) 0 0 2) 16 0
/-! SVY_AGE (19) -/
abbrev F.SVY_AGE_DAYMEAN : Fld := .mk (fkey (0x200F10) 16 0 3) 16 0
abbrev F.SVY_AGE_NOW : Fld := .mk (fkey (0x200F10) 0 0 3) 16 0
/-! SVY_TRN0 (19) -/
abbrev F.SVY_TRN0_N : Fld := .mk (fkey (0x200F11) 20 0 3) 16 0
abbrev F.SVY_TRN0_STYH : Fld := .mk (fkey (0x200F11) 0 0 3) 12 0
/-! SVY_TRN1 (19) -/
abbrev F.SVY_TRN1_SUM : Fld := .mk (fkey (0x200F12) 0 0 3) 36 0
/-! SVY_TRN2 (19) -/
abbrev F.SVY_TRN2_SUM : Fld := .mk (fkey (0x200F13) 0 0 3) 36 0
/-! SVY_MARGIN (19) -/
abbrev F.SVY_MARGIN_SLOPE : Fld := .mk (fkey (0x200F14) 20 0 3) 16 0
abbrev F.SVY_MARGIN_VALID : Fld := .mk (fkey (0x200F14) 10 0 3) 1 0
abbrev F.SVY_MARGIN_YEARS : Fld := .mk (fkey (0x200F14) 0 0 3) 10 1023
/-! SVY_SHED (19) -/
abbrev F.SVY_SHED_LEVEL : Fld := .mk (fkey (0x200F15) 0 0 2) 8 255
/-! SVY_SHEDC0 (19) -/
abbrev F.SVY_SHEDC0_CLOSED : Fld := .mk (fkey (0x200F16) 0 0 2) 32 0
/-! SVY_SHEDC1 (19) -/
abbrev F.SVY_SHEDC1_CLOSED : Fld := .mk (fkey (0x200F17) 0 0 2) 32 0
/-! SVY_EVT (19) -/
abbrev F.SVY_EVT_TRNWR : Fld := .mk (fkey (0x200F18) 9 0 2) 1 0
abbrev F.SVY_EVT_PATH : Fld := .mk (fkey (0x200F18) 8 0 2) 1 0
abbrev F.SVY_EVT_MARGIN : Fld := .mk (fkey (0x200F18) 7 0 2) 1 0
abbrev F.SVY_EVT_DAY : Fld := .mk (fkey (0x200F18) 6 0 2) 1 0
abbrev F.SVY_EVT_OVER : Fld := .mk (fkey (0x200F18) 5 0 2) 1 0
abbrev F.SVY_EVT_SHED : Fld := .mk (fkey (0x200F18) 4 0 2) 1 0
abbrev F.SVY_EVT_VMAX : Fld := .mk (fkey (0x200F18) 3 0 2) 1 0
abbrev F.SVY_EVT_VDOWN : Fld := .mk (fkey (0x200F18) 2 0 2) 1 0
abbrev F.SVY_EVT_VUP : Fld := .mk (fkey (0x200F18) 1 0 2) 1 0
abbrev F.SVY_EVT_CERT : Fld := .mk (fkey (0x200F18) 0 0 2) 1 0
/-! SVY_IE (19) -/
abbrev F.SVY_IE_IE : Fld := .mk (fkey (0x200F19) 0 0 2) 10 958
/-! SVY_PHIGH (19) -/
abbrev F.SVY_PHIGH_HIGH : Fld := .mk (fkey (0x200F1A) 0 0 3) 24 0
/-! SVYnn_PDAY (19) -/
abbrev F.SVYP_PDAY_RA (i : Nat) : Fld := .mk (fkey (0x201048 + i * 128) 24 0 3) 12 4095
abbrev F.SVYP_PDAY_RB (i : Nat) : Fld := .mk (fkey (0x201048 + i * 128) 12 0 3) 12 4095
abbrev F.SVYP_PDAY_RISE (i : Nat) : Fld := .mk (fkey (0x201048 + i * 128) 0 0 3) 12 0
/-! SVYnn_PBASE (19) -/
abbrev F.SVYP_PBASE_RA (i : Nat) : Fld := .mk (fkey (0x201049 + i * 128) 24 0 3) 12 0
abbrev F.SVYP_PBASE_RB (i : Nat) : Fld := .mk (fkey (0x201049 + i * 128) 12 0 3) 12 0
abbrev F.SVYP_PBASE_VALID (i : Nat) : Fld := .mk (fkey (0x201049 + i * 128) 11 0 3) 1 0
abbrev F.SVYP_PBASE_BDAYS (i : Nat) : Fld := .mk (fkey (0x201049 + i * 128) 8 0 3) 3 0
/-! FW_STAT (20) -/
abbrev F.FW_STAT_ERR : Fld := .mk (fkey (0x200F40) 32 0 2) 4 0
abbrev F.FW_STAT_STATE : Fld := .mk (fkey (0x200F40) 29 0 2) 3 0
abbrev F.FW_STAT_ACTIVE : Fld := .mk (fkey (0x200F40) 27 0 2) 2 0
abbrev F.FW_STAT_PREV : Fld := .mk (fkey (0x200F40) 25 0 2) 2 0
abbrev F.FW_STAT_TBOOT : Fld := .mk (fkey (0x200F40) 23 0 2) 2 0
abbrev F.FW_STAT_DLBUSY : Fld := .mk (fkey (0x200F40) 22 0 2) 1 0
abbrev F.FW_STAT_FELLBACK : Fld := .mk (fkey (0x200F40) 21 0 2) 1 0
abbrev F.FW_STAT_MIGRATED : Fld := .mk (fkey (0x200F40) 20 0 2) 1 0
abbrev F.FW_STAT_RBCNT : Fld := .mk (fkey (0x200F40) 14 0 2) 6 0
abbrev F.FW_STAT_SECVER : Fld := .mk (fkey (0x200F40) 8 0 2) 6 0
abbrev F.FW_STAT_SETFMT : Fld := .mk (fkey (0x200F40) 0 0 2) 8 0
/-! FW_SLOTA (20) -/
abbrev F.FW_SLOTA_RES : Fld := .mk (fkey (0x200F41) 32 0 2) 4 0
abbrev F.FW_SLOTA_ADMOK : Fld := .mk (fkey (0x200F41) 31 0 2) 1 0
abbrev F.FW_SLOTA_INVALID : Fld := .mk (fkey (0x200F41) 30 0 2) 1 0
abbrev F.FW_SLOTA_SECVER : Fld := .mk (fkey (0x200F41) 24 0 2) 6 0
abbrev F.FW_SLOTA_VERSION : Fld := .mk (fkey (0x200F41) 0 0 2) 24 0
/-! FW_SLOTB (20) -/
abbrev F.FW_SLOTB_RES : Fld := .mk (fkey (0x200F42) 32 0 2) 4 0
abbrev F.FW_SLOTB_ADMOK : Fld := .mk (fkey (0x200F42) 31 0 2) 1 0
abbrev F.FW_SLOTB_INVALID : Fld := .mk (fkey (0x200F42) 30 0 2) 1 0
abbrev F.FW_SLOTB_SECVER : Fld := .mk (fkey (0x200F42) 24 0 2) 6 0
abbrev F.FW_SLOTB_VERSION : Fld := .mk (fkey (0x200F42) 0 0 2) 24 0
/-! FW_DLCMD (20) -/
abbrev F.FW_DLCMD_OP : Fld := .mk (fkey (0x200F43) 32 0 1) 4 0
abbrev F.FW_DLCMD_SLOT : Fld := .mk (fkey (0x200F43) 30 0 1) 2 0
abbrev F.FW_DLCMD_PAGE : Fld := .mk (fkey (0x200F43) 0 0 1) 15 0
/-! FW_DLARG (20) -/
abbrev F.FW_DLARG_BUF (c : Nat) : Fld := .mk (fkey (0x200F44) 0 c 1) 22 0
/-! FW_ACT (20) -/
abbrev F.FW_ACT_KEY : Fld := .mk (fkey (0x200F45) 8 0 1) 8 0
abbrev F.FW_ACT_SLOT : Fld := .mk (fkey (0x200F45) 0 0 1) 2 0
/-! FW_CONFIRM (20) -/
abbrev F.FW_CONFIRM_KEY : Fld := .mk (fkey (0x200F46) 0 0 1) 8 0
/-! FW_TRIAL (20) -/
abbrev F.FW_TRIAL_LEFT : Fld := .mk (fkey (0x200F47) 16 0 2) 12 0
abbrev F.FW_TRIAL_MIN : Fld := .mk (fkey (0x200F47) 0 0 2) 6 10
/-! FW_COMPAT (20) -/
abbrev F.FW_COMPAT_AUTOFALL : Fld := .mk (fkey (0x200F48) 0 0 3) 1 0
/-! FW_SETPUT (20) -/
abbrev F.FW_SETPUT_ADDR : Fld := .mk (fkey (0x200F49) 0 0 1) 22 0
/-! FW_EVT (20) -/
abbrev F.FW_EVT_TAMPERCLR : Fld := .mk (fkey (0x200F4A) 10 0 2) 1 0
abbrev F.FW_EVT_SETBAD : Fld := .mk (fkey (0x200F4A) 9 0 2) 1 0
abbrev F.FW_EVT_SETDONE : Fld := .mk (fkey (0x200F4A) 8 0 2) 1 0
abbrev F.FW_EVT_REFUSED : Fld := .mk (fkey (0x200F4A) 7 0 2) 1 0
abbrev F.FW_EVT_MIGRATE : Fld := .mk (fkey (0x200F4A) 6 0 2) 1 0
abbrev F.FW_EVT_FALLBACK : Fld := .mk (fkey (0x200F4A) 5 0 2) 1 0
abbrev F.FW_EVT_TRIALEXP : Fld := .mk (fkey (0x200F4A) 4 0 2) 1 0
abbrev F.FW_EVT_CONFIRMED : Fld := .mk (fkey (0x200F4A) 3 0 2) 1 0
abbrev F.FW_EVT_ACT : Fld := .mk (fkey (0x200F4A) 2 0 2) 1 0
abbrev F.FW_EVT_DLDONE : Fld := .mk (fkey (0x200F4A) 1 0 2) 1 0
abbrev F.FW_EVT_STAGED : Fld := .mk (fkey (0x200F4A) 0 0 2) 1 0
/-! FW_IE (20) -/
abbrev F.FW_IE_IE : Fld := .mk (fkey (0x200F4B) 0 0 2) 11 2047
/-! OTP_FWKEY (20) -/
abbrev F.OTP_FWKEY_REVOKED : Fld := .mk (fkey (0x200F4C) 4 0 2) 4 0
abbrev F.OTP_FWKEY_PROGRAMMED : Fld := .mk (fkey (0x200F4C) 0 0 2) 4 0

/-! The register table: one row per register (or run of registers), one entry per field. -/
def regRows01_0 : List RegRow :=
  [
   -- SYS_MODE
   ⟨0x200010, 0, 1, false, [⟨16, 4, .ro, 0, 2⟩, ⟨12, 4, .ro, 0, 2⟩, ⟨8, 4, .ro, 1, 2⟩, ⟨4, 1, .ro, 0, 2⟩, ⟨0, 4, .ro, 1, 2⟩]⟩,
   -- SYS_MODE_REQ
   ⟨0x200011, 0, 1, false, [⟨0, 4, .wo, 0, 1⟩]⟩,
   -- SYS_MODE_KNOBS
   ⟨0x200012, 0, 1, false, [⟨8, 1, .rw, 1, 3⟩, ⟨6, 2, .rw, 0, 3⟩, ⟨4, 2, .rw, 0, 3⟩, ⟨2, 2, .rw, 0, 3⟩]⟩,
   -- SYS_KINDLE_CTRL
   ⟨0x200013, 0, 1, false, [⟨8, 8, .rw, 30, 3⟩, ⟨0, 2, .rw, 1, 3⟩]⟩,
   -- SYS_BLAZE_RESULT
   ⟨0x200014, 0, 1, false, [⟨30, 6, .ro, 0, 2⟩, ⟨24, 6, .ro, 0, 2⟩, ⟨18, 6, .ro, 0, 2⟩, ⟨17, 1, .ro, 0, 2⟩, ⟨16, 1, .ro, 0, 2⟩, ⟨15, 1, .ro, 0, 2⟩, ⟨14, 1, .ro, 0, 2⟩, ⟨13, 1, .ro, 0, 2⟩, ⟨12, 1, .ro, 0, 2⟩, ⟨11, 1, .ro, 0, 2⟩, ⟨0, 1, .ro, 0, 2⟩]⟩]
def regRows02_0 : List RegRow :=
  [
   -- PIN_GPIO
   ⟨0x200060, 0, 1, false, [⟨16, 8, .ro, 0, 3⟩, ⟨8, 8, .rw, 0, 3⟩, ⟨0, 8, .rw, 0, 3⟩]⟩]
def regRows03_0 : List RegRow :=
  [
   -- SYS_SUPPLY
   ⟨0x200020, 0, 1, false, [⟨11, 1, .rw1c, 0, 2⟩, ⟨10, 1, .rw1c, 0, 2⟩, ⟨9, 1, .rw1c, 0, 2⟩, ⟨3, 1, .ro, 0, 2⟩, ⟨2, 1, .ro, 0, 2⟩, ⟨1, 1, .ro, 0, 2⟩, ⟨0, 1, .ro, 0, 2⟩]⟩,
   -- SYS_VCORE
   ⟨0x200021, 0, 1, false, [⟨8, 6, .ro, 36, 3⟩, ⟨0, 6, .ro, 36, 3⟩]⟩,
   -- SYS_BAK_STAT
   ⟨0x200024, 0, 1, false, [⟨1, 1, .rw1c, 1, 0⟩, ⟨0, 1, .ro, 1, 0⟩]⟩,
   -- SYS_BAK_RET
   ⟨0x200030, 1, 16, false, [⟨0, 36, .rw, 0, 0⟩]⟩,
   -- PRT_BANK
   ⟨0x20105B, 128, 24, false, [⟨16, 1, .rw, 0, 2⟩, ⟨0, 12, .rw, 0, 2⟩]⟩,
   -- SYS_WAKE_EN
   ⟨0x200022, 0, 1, false, [⟨0, 8, .rw, 31, 2⟩]⟩,
   -- SYS_WAKE_STAT
   ⟨0x200023, 0, 1, false, [⟨12, 4, .rw1c, 0, 2⟩, ⟨0, 8, .rw1c, 0, 2⟩]⟩]
def regRows04_0 : List RegRow :=
  [
   -- RST_REQ
   ⟨0x200046, 0, 1, false, [⟨8, 8, .wo, 0, 1⟩, ⟨4, 1, .wo, 0, 1⟩, ⟨0, 2, .wo, 0, 1⟩]⟩,
   -- RST_CFG
   ⟨0x200047, 0, 1, false, [⟨0, 1, .ro, 0, 2⟩]⟩,
   -- RST_WDT_CTRL
   ⟨0x20004A, 0, 1, false, [⟨35, 1, .rw, 0, 2⟩, ⟨16, 6, .rw, 0, 2⟩, ⟨0, 12, .rw, 1000, 2⟩]⟩,
   -- RST_WDT_KICK
   ⟨0x20004B, 0, 1, false, [⟨0, 8, .wo, 0, 1⟩]⟩,
   -- RST_LOCK_CTRL
   ⟨0x20004D, 0, 1, false, [⟨0, 7, .rw, 10, 2⟩]⟩,
   -- RST_FAULT
   ⟨0x20004C, 0, 1, false, [⟨8, 6, .rw1c, 0, 3⟩, ⟨0, 6, .rw1c, 0, 3⟩]⟩,
   -- RST_CNT
   ⟨0x200041, 0, 1, false, [⟨0, 24, .ro, 0, 0⟩]⟩,
   -- RST_CAUSE
   ⟨0x200042, 1, 4, false, [⟨14, 12, .ro, 0, 0⟩, ⟨6, 8, .ro, 0, 0⟩, ⟨4, 2, .ro, 0, 0⟩, ⟨0, 4, .ro, 0, 0⟩]⟩,
   -- RST_STAT
   ⟨0x200040, 0, 1, false, [⟨7, 1, .ro, 0, 3⟩, ⟨6, 1, .ro, 0, 3⟩, ⟨5, 1, .rw1c, 0, 3⟩, ⟨0, 2, .ro, 0, 3⟩]⟩,
   -- RST_CORE_EN
   ⟨0x200049, 0, 1, false, [⟨1, 5, .rw, 0, 1⟩, ⟨0, 1, .ro, 1, 1⟩]⟩,
   -- RST_STRAP
   ⟨0x200048, 0, 1, false, [⟨6, 6, .ro, 0, 2⟩, ⟨5, 1, .ro, 0, 2⟩, ⟨0, 4, .ro, 0, 2⟩]⟩,
   -- RST_HOLDCFG
   ⟨0x20004E, 0, 1, false, [⟨0, 4, .rw, 6, 3⟩]⟩]
def regRows04_1 : List RegRow :=
  [
   -- RST_HOLD
   ⟨0x20004F, 0, 1, false, [⟨0, 24, .ro, 0, 3⟩]⟩,
   -- RST_HOLDSTOP
   ⟨0x200050, 0, 1, false, [⟨0, 24, .rw1c, 0, 3⟩]⟩]
def regRows05_0 : List RegRow :=
  [
   -- TB_COUNT
   ⟨0x200080, 0, 1, false, [⟨0, 36, .ro, 0, 2⟩]⟩,
   -- TB_EPOCH
   ⟨0x200081, 0, 1, false, [⟨0, 36, .ro, 0, 2⟩]⟩,
   -- TB_EPL
   ⟨0x200082, 0, 1, true, [⟨0, 36, .ro, 0, 2⟩]⟩,
   -- TB_RLD
   ⟨0x200083, 0, 1, false, [⟨0, 36, .rw, 63999999, 2⟩]⟩,
   -- TB_EPSET
   ⟨0x200084, 0, 1, false, [⟨0, 36, .wo, 0, 2⟩]⟩,
   -- TB_STAT
   ⟨0x200085, 0, 1, false, [⟨8, 1, .ro, 0, 2⟩, ⟨7, 1, .ro, 0, 2⟩, ⟨6, 1, .ro, 0, 2⟩, ⟨5, 1, .ro, 0, 2⟩, ⟨3, 1, .rw1c, 0, 2⟩, ⟨2, 1, .rw1c, 0, 2⟩, ⟨1, 1, .rw1c, 0, 2⟩, ⟨0, 1, .rw1c, 0, 2⟩]⟩,
   -- TB_CTRL
   ⟨0x200086, 0, 1, false, [⟨2, 1, .rw, 0, 2⟩, ⟨1, 1, .rw, 0, 2⟩, ⟨0, 1, .rw, 0, 2⟩]⟩,
   -- CMP_VAL
   ⟨0x200100, 1, 64, false, [⟨0, 36, .rwh, 0, 2⟩]⟩,
   -- CMP_CTRL
   ⟨0x200140, 1, 64, false, [⟨12, 24, .rw, 0, 2⟩, ⟨11, 1, .rw, 0, 2⟩, ⟨10, 1, .rw, 0, 2⟩, ⟨7, 3, .rw, 0, 2⟩, ⟨4, 3, .rw, 0, 2⟩, ⟨0, 2, .rw, 0, 2⟩]⟩,
   -- CMP_STAT
   ⟨0x200180, 1, 64, false, [⟨16, 8, .ro, 0, 2⟩, ⟨4, 1, .rw1c, 0, 2⟩, ⟨3, 1, .rw1c, 0, 2⟩, ⟨2, 1, .ro, 0, 2⟩, ⟨1, 1, .ro, 0, 2⟩, ⟨0, 1, .rw1c, 0, 2⟩]⟩,
   -- CMP_SUM0
   ⟨0x2001C0, 0, 1, false, [⟨0, 32, .ro, 0, 2⟩]⟩,
   -- CMP_SUM1
   ⟨0x2001C1, 0, 1, false, [⟨0, 32, .ro, 0, 2⟩]⟩]
def regRows05_1 : List RegRow :=
  [
   -- CMP_OUT
   ⟨0x2001C2, 0, 1, false, [⟨0, 8, .rwh, 0, 3⟩]⟩,
   -- CAP_CTRL
   ⟨0x200200, 1, 12, false, [⟨24, 12, .rw, 0, 2⟩, ⟨16, 8, .rw, 0, 2⟩, ⟨8, 8, .rw, 1, 2⟩, ⟨5, 3, .rw, 0, 2⟩, ⟨3, 2, .rw, 0, 2⟩, ⟨2, 1, .rw, 0, 2⟩, ⟨1, 1, .rw, 0, 2⟩]⟩,
   -- CAP_STAT
   ⟨0x200210, 1, 12, false, [⟨16, 8, .ro, 0, 2⟩, ⟨9, 1, .ro, 0, 2⟩, ⟨8, 1, .ro, 0, 2⟩, ⟨7, 1, .ro, 0, 2⟩, ⟨3, 1, .rw1c, 0, 2⟩, ⟨2, 1, .rw1c, 0, 2⟩, ⟨1, 1, .rw1c, 0, 2⟩, ⟨0, 1, .ro, 0, 2⟩]⟩,
   -- CAP_TB
   ⟨0x200220, 1, 12, false, [⟨0, 36, .ro, 0, 2⟩]⟩,
   -- CAP_EP
   ⟨0x200230, 1, 12, true, [⟨0, 36, .ro, 0, 2⟩]⟩]
def regRows06_0 : List RegRow :=
  [
   -- PRT_CTRL
   ⟨0x201000, 128, 24, false, [⟨7, 1, .rw, 1, 2⟩, ⟨4, 2, .rw, 0, 2⟩, ⟨3, 1, .rw, 1, 2⟩, ⟨2, 1, .wo, 0, 1⟩, ⟨0, 1, .rw, 1, 2⟩]⟩,
   -- PRT_TOGGLE
   ⟨0x201001, 128, 24, false, [⟨16, 8, .rw, 20, 2⟩, ⟨8, 8, .rw, 50, 2⟩, ⟨0, 8, .rw, 75, 2⟩]⟩,
   -- PRT_DEBOUNCE
   ⟨0x201002, 128, 24, false, [⟨8, 8, .rw, 150, 2⟩, ⟨0, 8, .rw, 15, 2⟩]⟩,
   -- PRT_CCFILT
   ⟨0x201003, 128, 24, false, [⟨8, 8, .rw, 4, 2⟩, ⟨5, 3, .rw, 3, 2⟩]⟩,
   -- PRT_ATT_STAT
   ⟨0x201004, 128, 24, false, [⟨20, 3, .ro, 0, 2⟩, ⟨16, 3, .ro, 0, 2⟩, ⟨15, 1, .ro, 0, 2⟩, ⟨14, 1, .ro, 0, 2⟩, ⟨13, 1, .ro, 0, 2⟩, ⟨12, 1, .ro, 0, 2⟩, ⟨10, 2, .ro, 0, 2⟩, ⟨8, 2, .ro, 0, 2⟩, ⟨4, 4, .ro, 0, 2⟩, ⟨0, 4, .ro, 0, 2⟩]⟩,
   -- PRT_ATT_EVT
   ⟨0x201005, 128, 24, false, [⟨8, 1, .rw1c, 0, 2⟩, ⟨7, 1, .rw1c, 0, 2⟩, ⟨6, 1, .rw1c, 0, 2⟩, ⟨5, 1, .rw1c, 0, 2⟩, ⟨4, 1, .rw1c, 0, 2⟩, ⟨3, 1, .rw1c, 0, 2⟩, ⟨2, 1, .rw1c, 0, 2⟩, ⟨1, 1, .rw1c, 0, 2⟩, ⟨0, 1, .rw1c, 0, 2⟩]⟩,
   -- PRT_ATT_IE
   ⟨0x201006, 128, 24, false, [⟨0, 9, .rw, 414, 2⟩]⟩,
   -- PRT_ATT_CNT
   ⟨0x201007, 128, 24, false, [⟨20, 16, .ro, 0, 2⟩, ⟨12, 8, .ro, 0, 2⟩, ⟨0, 5, .ro, 0, 2⟩]⟩]
def regRows07_0 : List RegRow :=
  [
   -- PRT_PE_STAT
   ⟨0x201009, 128, 24, false, [⟨24, 12, .ro, 0, 2⟩, ⟨20, 4, .ro, 0, 2⟩, ⟨19, 1, .ro, 0, 2⟩, ⟨15, 4, .ro, 0, 2⟩, ⟨14, 1, .ro, 0, 2⟩, ⟨13, 1, .ro, 0, 2⟩, ⟨12, 1, .ro, 0, 2⟩, ⟨10, 2, .ro, 0, 2⟩, ⟨8, 2, .ro, 0, 2⟩, ⟨0, 5, .ro, 0, 2⟩]⟩,
   -- PRT_PE_CTRL
   ⟨0x201008, 128, 24, false, [⟨5, 1, .rw, 1, 2⟩, ⟨4, 1, .rw, 1, 2⟩, ⟨3, 1, .rw, 1, 2⟩, ⟨0, 1, .rw, 1, 2⟩]⟩,
   -- PRT_SRC_LOAD
   ⟨0x201018, 128, 24, false, [⟨32, 4, .wo, 0, 1⟩, ⟨0, 32, .wo, 0, 1⟩]⟩,
   -- PRT_SNK_LOAD
   ⟨0x201019, 128, 24, false, [⟨32, 4, .wo, 0, 1⟩, ⟨0, 32, .wo, 0, 1⟩]⟩,
   -- PRT_XFER
   ⟨0x20100E, 128, 24, false, [⟨16, 5, .rw, 10, 2⟩, ⟨8, 8, .rw, 100, 2⟩]⟩,
   -- PRT_CONTRACT
   ⟨0x20100C, 128, 24, false, [⟨35, 1, .ro, 0, 2⟩, ⟨34, 1, .ro, 0, 2⟩, ⟨31, 3, .ro, 0, 2⟩, ⟨27, 4, .ro, 0, 2⟩, ⟨14, 13, .ro, 0, 2⟩, ⟨0, 14, .ro, 0, 2⟩]⟩,
   -- PRT_HOLDSUM
   ⟨0x20100D, 128, 24, false, [⟨0, 36, .ro, 0, 3⟩]⟩,
   -- PRT_ASK_CFG
   ⟨0x20100F, 128, 24, false, [⟨16, 9, .rw, 511, 2⟩, ⟨8, 6, .rw, 0, 2⟩, ⟨7, 1, .rw, 0, 2⟩, ⟨0, 4, .rw, 8, 2⟩]⟩,
   -- PRT_ASK_ANS
   ⟨0x201010, 128, 24, false, [⟨24, 12, .wo, 0, 1⟩, ⟨20, 4, .wo, 0, 1⟩, ⟨16, 3, .wo, 0, 1⟩]⟩,
   -- PRT_ASK_ARG
   ⟨0x201011, 128, 24, true, [⟨0, 32, .rw, 0, 1⟩]⟩,
   -- PRT_DDT_LOAD
   ⟨0x20101A, 128, 24, false, [⟨32, 4, .wo, 0, 1⟩, ⟨0, 32, .wo, 0, 1⟩]⟩,
   -- PRT_PE_EVT
   ⟨0x20100A, 128, 24, false, [⟨20, 1, .rw1c, 0, 2⟩, ⟨19, 1, .rw1c, 0, 2⟩, ⟨18, 1, .rw1c, 0, 2⟩, ⟨17, 1, .rw1c, 0, 2⟩, ⟨16, 1, .rw1c, 0, 2⟩, ⟨15, 1, .rw1c, 0, 2⟩, ⟨14, 1, .rw1c, 0, 2⟩, ⟨13, 1, .rw1c, 0, 2⟩, ⟨12, 1, .rw1c, 0, 2⟩, ⟨11, 1, .rw1c, 0, 2⟩, ⟨10, 1, .rw1c, 0, 2⟩, ⟨9, 1, .rw1c, 0, 2⟩, ⟨8, 1, .rw1c, 0, 2⟩, ⟨7, 1, .rw1c, 0, 2⟩, ⟨6, 1, .rw1c, 0, 2⟩, ⟨5, 1, .rw1c, 0, 2⟩, ⟨4, 1, .rw1c, 0, 2⟩, ⟨3, 1, .rw1c, 0, 2⟩, ⟨2, 1, .rw1c, 0, 2⟩, ⟨1, 1, .rw1c, 0, 2⟩, ⟨0, 1, .rw1c, 0, 2⟩]⟩]
def regRows07_1 : List RegRow :=
  [
   -- PRT_PE_IE
   ⟨0x20100B, 128, 24, false, [⟨0, 21, .rw, 2097151, 2⟩]⟩,
   -- PRT_CMD
   ⟨0x201013, 128, 24, false, [⟨24, 6, .wo, 0, 1⟩, ⟨0, 16, .wo, 0, 1⟩]⟩,
   -- PRT_CMD_ARG
   ⟨0x201014, 128, 24, true, [⟨0, 32, .rw, 0, 1⟩]⟩,
   -- PRT_CMD_LAST
   ⟨0x201015, 128, 24, true, [⟨24, 12, .ro, 0, 2⟩, ⟨20, 4, .ro, 0, 2⟩, ⟨0, 20, .ro, 0, 2⟩]⟩,
   -- PRT_CMD_DONE
   ⟨0x201016, 128, 24, false, [⟨24, 12, .ro, 0, 2⟩, ⟨20, 4, .ro, 0, 2⟩, ⟨14, 6, .ro, 0, 2⟩]⟩]
def regRows08_0 : List RegRow :=
  [
   -- PRT_SWAP_CTRL
   ⟨0x20101C, 128, 24, false, [⟨8, 4, .rw, 15, 2⟩, ⟨4, 2, .rw, 2, 2⟩, ⟨0, 1, .rw, 1, 2⟩]⟩,
   -- PRT_SWAP_STAT
   ⟨0x20101D, 128, 24, false, [⟨20, 16, .ro, 0, 2⟩, ⟨16, 4, .ro, 0, 2⟩, ⟨12, 4, .ro, 0, 2⟩, ⟨9, 1, .ro, 0, 2⟩, ⟨3, 1, .rw1c, 0, 2⟩, ⟨2, 1, .rw1c, 0, 2⟩, ⟨1, 1, .rw1c, 0, 2⟩, ⟨0, 1, .rw1c, 0, 2⟩]⟩]
def regRows09_0 : List RegRow :=
  [
   -- PRT_VDM_STAT
   ⟨0x201020, 128, 24, false, [⟨20, 4, .ro, 0, 2⟩, ⟨19, 1, .ro, 0, 2⟩, ⟨18, 1, .ro, 0, 2⟩, ⟨17, 1, .ro, 0, 2⟩, ⟨15, 1, .ro, 0, 2⟩, ⟨14, 1, .ro, 0, 2⟩, ⟨13, 1, .ro, 0, 2⟩, ⟨12, 1, .ro, 0, 2⟩, ⟨11, 1, .ro, 0, 2⟩, ⟨10, 1, .ro, 0, 2⟩, ⟨8, 2, .ro, 0, 2⟩, ⟨6, 2, .ro, 0, 2⟩]⟩,
   -- PRT_HPM_CTRL
   ⟨0x201021, 128, 24, false, [⟨8, 8, .rw, 0, 2⟩, ⟨1, 1, .rw, 1, 2⟩, ⟨0, 1, .rw, 1, 2⟩]⟩,
   -- PRT_HPM_STAT
   ⟨0x201022, 128, 24, false, [⟨20, 4, .ro, 0, 2⟩, ⟨16, 4, .ro, 0, 3⟩, ⟨8, 8, .ro, 0, 2⟩, ⟨0, 4, .ro, 0, 2⟩]⟩,
   -- PRT_HPM_CEIL
   ⟨0x201023, 128, 24, false, [⟨12, 12, .ro, 4095, 2⟩, ⟨0, 12, .ro, 0, 2⟩]⟩,
   -- PRT_HPM_EVT
   ⟨0x201024, 128, 24, false, [⟨13, 1, .rw1c, 0, 2⟩, ⟨12, 1, .rw1c, 0, 2⟩, ⟨11, 1, .rw1c, 0, 2⟩, ⟨10, 1, .rw1c, 0, 2⟩, ⟨9, 1, .rw1c, 0, 2⟩, ⟨8, 1, .rw1c, 0, 2⟩, ⟨7, 1, .rw1c, 0, 2⟩, ⟨6, 1, .rw1c, 0, 2⟩, ⟨5, 1, .rw1c, 0, 2⟩, ⟨4, 1, .rw1c, 0, 2⟩, ⟨3, 1, .rw1c, 0, 2⟩, ⟨2, 1, .rw1c, 0, 2⟩, ⟨1, 1, .rw1c, 0, 2⟩, ⟨0, 1, .rw1c, 0, 2⟩]⟩,
   -- PRT_HPM_IE
   ⟨0x201025, 128, 24, false, [⟨0, 14, .rw, 16383, 2⟩]⟩,
   -- PRT_HPM_PLOADA
   ⟨0x201026, 128, 24, false, [⟨32, 4, .wo, 0, 1⟩, ⟨0, 32, .wo, 0, 1⟩]⟩,
   -- PRT_HPM_PLOADB
   ⟨0x201027, 128, 24, false, [⟨32, 4, .wo, 0, 1⟩, ⟨0, 32, .wo, 0, 1⟩]⟩]
def regRows10_0 : List RegRow :=
  [
   -- GRD_OTPB0
   ⟨0x200300, 0, 1, false, [⟨0, 36, .ro, 68719476728, 2⟩]⟩,
   -- GRD_OTPB1
   ⟨0x200301, 0, 1, false, [⟨0, 36, .ro, 68719476735, 2⟩]⟩,
   -- GRD_SUM0
   ⟨0x200302, 0, 1, false, [⟨0, 24, .ro, 0, 3⟩]⟩,
   -- GRD_SUM1
   ⟨0x200303, 0, 1, false, [⟨0, 24, .ro, 0, 3⟩]⟩,
   -- GRD_CTRL
   ⟨0x201030, 128, 24, false, [⟨13, 3, .rw, 3, 3⟩, ⟨11, 1, .rw, 1, 3⟩, ⟨10, 1, .rw, 1, 3⟩, ⟨0, 7, .rw, 4, 3⟩]⟩,
   -- GRD_STAT
   ⟨0x201031, 128, 24, false, [⟨24, 12, .ro, 0, 2⟩, ⟨19, 5, .ro, 0, 2⟩, ⟨17, 2, .ro, 0, 2⟩, ⟨14, 3, .ro, 0, 3⟩, ⟨12, 1, .ro, 0, 3⟩, ⟨11, 1, .ro, 0, 2⟩, ⟨10, 1, .ro, 0, 2⟩, ⟨9, 1, .ro, 0, 2⟩, ⟨8, 1, .ro, 0, 2⟩, ⟨0, 2, .ro, 0, 2⟩]⟩,
   -- GRD_TRIP
   ⟨0x201032, 128, 24, false, [⟨17, 1, .rw1c, 0, 3⟩, ⟨16, 1, .rw1c, 0, 3⟩, ⟨15, 1, .rw1c, 0, 3⟩, ⟨14, 1, .rw1c, 0, 3⟩, ⟨13, 1, .rw1c, 0, 3⟩, ⟨12, 1, .rw1c, 0, 3⟩, ⟨1, 11, .rw1c, 0, 3⟩]⟩,
   -- GRD_IE
   ⟨0x201033, 128, 24, false, [⟨0, 18, .rw, 262142, 2⟩]⟩,
   -- GRD_GZB0
   ⟨0x201034, 128, 24, false, [⟨27, 9, .ro, 0, 3⟩, ⟨15, 12, .ro, 0, 3⟩, ⟨3, 12, .ro, 0, 3⟩]⟩,
   -- GRD_GZB1
   ⟨0x201035, 128, 24, false, [⟨26, 10, .ro, 0, 3⟩, ⟨16, 10, .ro, 0, 3⟩, ⟨8, 8, .ro, 0, 3⟩, ⟨0, 8, .ro, 0, 3⟩]⟩,
   -- GRD_GZI
   ⟨0x201036, 128, 24, false, [⟨26, 10, .ro, 0, 3⟩, ⟨19, 7, .ro, 0, 3⟩, ⟨12, 7, .ro, 0, 3⟩, ⟨6, 6, .ro, 0, 3⟩, ⟨0, 6, .ro, 0, 3⟩]⟩,
   -- GRD_CAP0
   ⟨0x201037, 128, 24, false, [⟨0, 36, .rwl, 68719476728, 3⟩]⟩]
def regRows10_1 : List RegRow :=
  [
   -- GRD_CAP1
   ⟨0x201038, 128, 24, false, [⟨0, 36, .rwl, 68719476735, 3⟩]⟩,
   -- GRD_SET0
   ⟨0x201039, 128, 24, false, [⟨0, 36, .rw, 68719476728, 3⟩]⟩,
   -- GRD_SET1
   ⟨0x20103A, 128, 24, false, [⟨0, 36, .rw, 68719476735, 3⟩]⟩,
   -- GRD_EFF0
   ⟨0x20103B, 128, 24, false, [⟨0, 36, .ro, 0, 3⟩]⟩,
   -- GRD_EFF1
   ⟨0x20103C, 128, 24, false, [⟨0, 36, .ro, 0, 3⟩]⟩,
   -- GRD_CLAMP
   ⟨0x20103D, 128, 24, false, [⟨0, 12, .ro, 4095, 3⟩]⟩,
   -- GRD_MEAS
   ⟨0x20103E, 128, 24, false, [⟨20, 16, .ro, 0, 2⟩, ⟨7, 13, .ro, 0, 2⟩]⟩,
   -- GRD_PATH
   ⟨0x20103F, 128, 24, false, [⟨24, 12, .ro, 4095, 2⟩, ⟨12, 12, .ro, 4095, 2⟩, ⟨3, 9, .ro, 0, 2⟩]⟩]
def regRows11_0 : List RegRow :=
  [
   -- BUD_CHG
   ⟨0x200400, 0, 1, false, [⟨0, 24, .rw, 0, 2⟩]⟩,
   -- BUD_DIS
   ⟨0x200401, 0, 1, false, [⟨0, 24, .rw, 0, 2⟩]⟩,
   -- BUD_CTRL
   ⟨0x200402, 0, 1, false, [⟨8, 8, .rw, 8, 2⟩, ⟨0, 1, .rw, 0, 2⟩]⟩,
   -- BUD_CFG
   ⟨0x200403, 0, 1, false, [⟨0, 18, .ro, 150, 2⟩]⟩,
   -- BUD_STAT
   ⟨0x200404, 0, 1, false, [⟨5, 1, .ro, 0, 2⟩, ⟨4, 1, .ro, 0, 2⟩, ⟨3, 1, .ro, 0, 2⟩, ⟨2, 1, .ro, 0, 2⟩, ⟨1, 1, .ro, 0, 2⟩, ⟨0, 1, .ro, 0, 2⟩]⟩,
   -- BUD_ALLOCC
   ⟨0x200405, 0, 1, false, [⟨0, 24, .ro, 0, 2⟩]⟩,
   -- BUD_ALLOCD
   ⟨0x200406, 0, 1, false, [⟨0, 24, .ro, 0, 2⟩]⟩,
   -- BUD_ACK
   ⟨0x200407, 0, 1, false, [⟨24, 12, .wo, 0, 1⟩, ⟨16, 5, .wo, 0, 1⟩]⟩,
   -- BUD_EVT
   ⟨0x200408, 0, 1, false, [⟨6, 1, .rw1c, 0, 2⟩, ⟨5, 1, .rw1c, 0, 2⟩, ⟨4, 1, .rw1c, 0, 2⟩, ⟨3, 1, .rw1c, 0, 2⟩, ⟨2, 1, .rw1c, 0, 2⟩, ⟨1, 1, .rw1c, 0, 2⟩, ⟨0, 1, .rw1c, 0, 2⟩]⟩,
   -- BUD_IE
   ⟨0x200409, 0, 1, false, [⟨0, 7, .rw, 126, 2⟩]⟩,
   -- BUD_REVOKED
   ⟨0x20040A, 0, 1, false, [⟨0, 24, .ro, 0, 2⟩]⟩,
   -- BUDP_LIM
   ⟨0x201044, 128, 24, false, [⟨18, 18, .rw, 0, 2⟩, ⟨0, 18, .rw, 0, 2⟩]⟩]
def regRows11_1 : List RegRow :=
  [
   -- BUDP_CTRL
   ⟨0x201045, 128, 24, false, [⟨8, 8, .rw, 1, 2⟩, ⟨4, 2, .rw, 3, 2⟩, ⟨1, 1, .rw, 0, 2⟩, ⟨0, 1, .rw, 1, 2⟩]⟩,
   -- BUDP_STAT
   ⟨0x201046, 128, 24, false, [⟨24, 12, .ro, 0, 2⟩, ⟨23, 1, .ro, 0, 2⟩, ⟨22, 1, .ro, 0, 2⟩, ⟨21, 1, .ro, 0, 2⟩, ⟨19, 2, .ro, 0, 2⟩, ⟨18, 1, .ro, 0, 2⟩, ⟨0, 18, .ro, 0, 2⟩]⟩]
def regRows12_0 : List RegRow :=
  [
   -- MTR_IVAL
   ⟨0x200500, 0, 1, false, [⟨0, 6, .rw, 15, 2⟩]⟩,
   -- MTR_CFG
   ⟨0x200501, 0, 1, false, [⟨0, 6, .rwl, 63, 3⟩]⟩,
   -- MTR_SETTLED
   ⟨0x200502, 0, 1, false, [⟨0, 24, .ro, 0, 2⟩]⟩,
   -- MTR_CTRL
   ⟨0x202000, 32, 24, false, [⟨8, 8, .rw, 5, 2⟩, ⟨2, 1, .rw, 0, 2⟩, ⟨1, 1, .wo, 0, 2⟩]⟩,
   -- MTR_STAT
   ⟨0x202001, 32, 24, false, [⟨24, 12, .ro, 0, 2⟩, ⟨20, 4, .ro, 0, 2⟩, ⟨17, 3, .ro, 0, 2⟩, ⟨16, 1, .ro, 0, 2⟩, ⟨15, 1, .ro, 0, 2⟩, ⟨14, 1, .ro, 0, 2⟩, ⟨13, 1, .ro, 0, 3⟩, ⟨0, 8, .ro, 0, 2⟩]⟩,
   -- MTR_EVT
   ⟨0x202002, 32, 24, false, [⟨6, 1, .rw1c, 0, 2⟩, ⟨5, 1, .rw1c, 0, 2⟩, ⟨4, 1, .rw1c, 0, 2⟩, ⟨3, 1, .rw1c, 0, 2⟩, ⟨2, 1, .rw1c, 0, 2⟩, ⟨1, 1, .rw1c, 0, 2⟩, ⟨0, 1, .rw1c, 0, 2⟩]⟩,
   -- MTR_IE
   ⟨0x202003, 32, 24, false, [⟨0, 7, .rw, 127, 2⟩]⟩,
   -- MTR_IMPL
   ⟨0x202004, 32, 24, false, [⟨0, 36, .ro, 0, 2⟩]⟩,
   -- MTR_EXPL
   ⟨0x202006, 32, 24, false, [⟨0, 36, .ro, 0, 2⟩]⟩,
   -- MTR_IMPH
   ⟨0x202005, 32, 24, true, [⟨0, 36, .ro, 0, 2⟩]⟩,
   -- MTR_EXPH
   ⟨0x202007, 32, 24, true, [⟨0, 36, .ro, 0, 2⟩]⟩,
   -- MTR_V
   ⟨0x202008, 32, 24, false, [⟨0, 32, .ro, 0, 2⟩]⟩]
def regRows12_1 : List RegRow :=
  [
   -- MTR_I
   ⟨0x202009, 32, 24, false, [⟨0, 32, .ro, 0, 2⟩]⟩,
   -- MTR_P
   ⟨0x20200A, 32, 24, false, [⟨0, 32, .ro, 0, 2⟩]⟩,
   -- MTR_SEGSTE
   ⟨0x20200B, 32, 24, true, [⟨0, 36, .ro, 0, 2⟩]⟩,
   -- MTR_SEGSTT
   ⟨0x20200C, 32, 24, false, [⟨0, 36, .ro, 0, 2⟩]⟩,
   -- MTR_LSEGI
   ⟨0x20200D, 32, 24, true, [⟨0, 36, .ro, 0, 2⟩]⟩,
   -- MTR_LSEGE
   ⟨0x20200E, 32, 24, true, [⟨0, 36, .ro, 0, 2⟩]⟩,
   -- MTR_LSEGW0
   ⟨0x20200F, 32, 24, false, [⟨0, 36, .ro, 0, 2⟩]⟩,
   -- MTR_CALVG
   ⟨0x202010, 32, 24, false, [⟨0, 28, .rwl, 0, 3⟩]⟩,
   -- MTR_CALVO
   ⟨0x202011, 32, 24, false, [⟨0, 24, .rwl, 0, 3⟩]⟩,
   -- MTR_CALIG
   ⟨0x202012, 32, 24, false, [⟨0, 32, .rwl, 0, 3⟩]⟩,
   -- MTR_CALIO
   ⟨0x202013, 32, 24, false, [⟨0, 24, .rwl, 0, 3⟩]⟩]
def regRows13_0 : List RegRow :=
  [
   -- LGR_CTRL
   ⟨0x200600, 0, 1, false, [⟨24, 4, .rw, 2, 2⟩, ⟨16, 8, .rw, 60, 2⟩, ⟨8, 8, .rw, 5, 2⟩, ⟨0, 4, .rw, 15, 2⟩]⟩,
   -- LGR_STAT
   ⟨0x200601, 0, 1, false, [⟨18, 10, .ro, 0, 2⟩, ⟨9, 9, .ro, 0, 2⟩, ⟨4, 1, .ro, 0, 2⟩, ⟨3, 1, .ro, 0, 2⟩, ⟨2, 1, .ro, 0, 2⟩, ⟨1, 1, .ro, 0, 2⟩, ⟨0, 1, .ro, 0, 2⟩]⟩,
   -- LGR_EVT
   ⟨0x200602, 0, 1, false, [⟨7, 1, .rw1c, 0, 2⟩, ⟨6, 1, .rw1c, 0, 2⟩, ⟨5, 1, .rw1c, 0, 2⟩, ⟨4, 1, .rw1c, 0, 2⟩, ⟨3, 1, .rw1c, 0, 2⟩, ⟨2, 1, .rw1c, 0, 2⟩, ⟨1, 1, .rw1c, 0, 2⟩, ⟨0, 1, .rw1c, 0, 2⟩]⟩,
   -- LGR_IE
   ⟨0x200603, 0, 1, false, [⟨0, 8, .rw, 254, 2⟩]⟩,
   -- LGR_BSEQ
   ⟨0x200604, 0, 1, false, [⟨0, 32, .ro, 0, 2⟩]⟩,
   -- LGR_TAILSEQ
   ⟨0x200605, 0, 1, false, [⟨0, 32, .ro, 0, 2⟩]⟩,
   -- LGR_RELEASE
   ⟨0x200606, 0, 1, false, [⟨0, 32, .wo, 0, 1⟩]⟩,
   -- LGR_HEAD
   ⟨0x200607, 0, 1, false, [⟨0, 32, .ro, 0, 2⟩]⟩,
   -- LGR_FREE
   ⟨0x200608, 0, 1, false, [⟨0, 32, .ro, 0, 2⟩]⟩,
   -- LGR_CERTPTR
   ⟨0x200609, 0, 1, true, [⟨0, 8, .rwh, 0, 2⟩]⟩,
   -- LGR_CERTDAT
   ⟨0x20060A, 0, 1, false, [⟨0, 32, .ro, 0, 2⟩]⟩,
   -- LGR_CERTLEN
   ⟨0x20060B, 0, 1, false, [⟨0, 10, .ro, 0, 2⟩]⟩]
def regRows13_1 : List RegRow :=
  [
   -- LGR_PUB
   ⟨0x200610, 1, 16, false, [⟨0, 32, .ro, 0, 2⟩]⟩,
   -- STO_CFG
   ⟨0x200700, 0, 1, false, [⟨0, 2, .rw, 1, 2⟩]⟩,
   -- STO_STAT
   ⟨0x200701, 0, 1, false, [⟨20, 2, .ro, 0, 2⟩, ⟨12, 8, .ro, 0, 2⟩, ⟨6, 1, .ro, 0, 2⟩, ⟨5, 1, .ro, 0, 2⟩, ⟨4, 1, .ro, 0, 2⟩, ⟨3, 1, .ro, 0, 2⟩, ⟨2, 1, .ro, 0, 2⟩, ⟨1, 1, .ro, 0, 2⟩, ⟨0, 1, .ro, 0, 2⟩]⟩,
   -- STO_EVT
   ⟨0x200702, 0, 1, false, [⟨6, 1, .rw1c, 0, 2⟩, ⟨5, 1, .rw1c, 0, 2⟩, ⟨4, 1, .rw1c, 0, 2⟩, ⟨3, 1, .rw1c, 0, 2⟩, ⟨2, 1, .rw1c, 0, 2⟩, ⟨1, 1, .rw1c, 0, 2⟩, ⟨0, 1, .rw1c, 0, 2⟩]⟩,
   -- STO_IE
   ⟨0x200703, 0, 1, false, [⟨0, 7, .rw, 63, 2⟩]⟩,
   -- STO_GEOM
   ⟨0x200704, 0, 1, false, [⟨16, 8, .ro, 0, 2⟩, ⟨0, 16, .ro, 0, 2⟩]⟩,
   -- STO_BADCNT
   ⟨0x200705, 0, 1, false, [⟨0, 16, .ro, 0, 2⟩]⟩,
   -- STO_RD
   ⟨0x200706, 0, 1, false, [⟨32, 4, .wo, 0, 1⟩, ⟨0, 32, .wo, 0, 1⟩]⟩,
   -- STO_FMT
   ⟨0x200707, 0, 1, false, [⟨0, 8, .wo, 0, 1⟩]⟩,
   -- STO_LOGW
   ⟨0x200708, 1, 4, true, [⟨0, 32, .rw, 0, 1⟩]⟩,
   -- STO_LOGT
   ⟨0x20070C, 0, 1, false, [⟨0, 8, .wo, 0, 1⟩]⟩]
def regRows14_0 : List RegRow :=
  [
   -- CORE_STAT
   ⟨0x200800, 8, 6, false, [⟨6, 5, .ro, 0, 1⟩, ⟨0, 3, .ro, 0, 1⟩]⟩,
   -- CORE_VEC
   ⟨0x200801, 8, 6, false, [⟨0, 22, .rw, 65552, 1⟩]⟩,
   -- CORE_EXC
   ⟨0x200802, 8, 6, false, [⟨30, 6, .ro, 0, 2⟩, ⟨8, 22, .ro, 0, 2⟩, ⟨4, 4, .ro, 0, 2⟩, ⟨2, 1, .ro, 0, 1⟩, ⟨0, 1, .rw1c, 0, 1⟩]⟩,
   -- CORE_EPC
   ⟨0x200803, 8, 6, false, [⟨0, 22, .ro, 0, 2⟩]⟩,
   -- CORE_P
   ⟨0x200804, 8, 6, false, [⟨0, 22, .ro, 0, 1⟩]⟩]
def regRows15_0 : List RegRow :=
  [
   -- FAB_CHSEL
   ⟨0x200900, 0, 1, true, [⟨0, 6, .rw, 0, 2⟩]⟩,
   -- FAB_CHCFG
   ⟨0x200901, 0, 1, false, [⟨18, 18, .ro, 0, 2⟩, ⟨14, 1, .rw, 0, 2⟩, ⟨8, 6, .rw, 0, 2⟩, ⟨4, 4, .rw, 0, 2⟩, ⟨0, 4, .rw, 0, 2⟩]⟩,
   -- FAB_CHSTAT
   ⟨0x200902, 0, 1, false, [⟨24, 12, .ro, 0, 2⟩, ⟨12, 6, .ro, 0, 1⟩, ⟨2, 1, .rw1c, 0, 2⟩, ⟨1, 1, .rw1c, 0, 2⟩, ⟨0, 1, .rw1c, 0, 2⟩]⟩,
   -- FAB_EVT
   ⟨0x200903, 0, 1, false, [⟨4, 1, .rw1c, 0, 2⟩, ⟨3, 1, .rw1c, 0, 2⟩, ⟨2, 1, .rw1c, 0, 2⟩, ⟨1, 1, .rw1c, 0, 2⟩, ⟨0, 1, .rw1c, 0, 2⟩]⟩,
   -- FAB_IE
   ⟨0x200904, 0, 1, false, [⟨0, 5, .rw, 31, 2⟩]⟩,
   -- FAB_DLM
   ⟨0x200905, 0, 1, false, [⟨24, 12, .ro, 0, 2⟩, ⟨20, 4, .ro, 0, 2⟩, ⟨8, 6, .ro, 0, 2⟩]⟩,
   -- FAB_ADMF
   ⟨0x200906, 0, 1, false, [⟨24, 1, .ro, 0, 2⟩, ⟨0, 24, .ro, 0, 2⟩]⟩,
   -- FAB_ADMPTR
   ⟨0x200907, 0, 1, false, [⟨35, 1, .wo, 0, 2⟩, ⟨0, 10, .rwh, 0, 2⟩]⟩,
   -- FAB_ADM
   ⟨0x200908, 1, 6, false, [⟨20, 8, .ro, 0, 2⟩, ⟨14, 1, .ro, 0, 2⟩, ⟨13, 1, .ro, 0, 2⟩, ⟨12, 1, .ro, 0, 2⟩, ⟨0, 12, .ro, 0, 2⟩]⟩,
   -- FAB_ADMLOAD
   ⟨0x20090E, 0, 1, false, [⟨0, 36, .wo, 0, 1⟩]⟩,
   -- EVT_SEL
   ⟨0x200A00, 0, 1, true, [⟨0, 8, .rw, 0, 2⟩]⟩,
   -- EVT_RTE
   ⟨0x200A01, 0, 1, false, [⟨8, 1, .rw, 0, 2⟩, ⟨7, 1, .rw, 0, 2⟩, ⟨6, 1, .rw, 0, 2⟩, ⟨0, 6, .rw, 0, 2⟩]⟩]
def regRows15_1 : List RegRow :=
  [
   -- EVT_PEND
   ⟨0x200A08, 1, 8, false, [⟨0, 32, .rw1c, 0, 2⟩]⟩,
   -- EVT_SWSET
   ⟨0x200A10, 0, 1, false, [⟨0, 16, .wo, 0, 1⟩]⟩,
   -- EVT_IRQ
   ⟨0x200A11, 0, 1, false, [⟨16, 8, .ro, 0, 2⟩, ⟨8, 8, .ro, 0, 2⟩, ⟨1, 1, .ro, 0, 2⟩, ⟨0, 1, .ro, 0, 2⟩]⟩]
def regRows16_0 : List RegRow :=
  [
   -- TW_CTRL of TW0
   ⟨0x200B00, 16, 1, false, [⟨24, 1, .wo, 0, 2⟩, ⟨20, 4, .rw, 8, 2⟩, ⟨12, 7, .ro, 0x68, 2⟩, ⟨11, 1, .ro, 1, 2⟩, ⟨6, 5, .rw, 5, 2⟩, ⟨2, 2, .rw, 1, 2⟩]⟩,
   -- TW_CTRL of TW1-TW3
   ⟨0x200B10, 16, 3, false, [⟨24, 1, .wo, 0, 2⟩, ⟨20, 4, .rw, 8, 2⟩, ⟨12, 7, .rw, 0, 2⟩, ⟨11, 1, .rw, 0, 2⟩, ⟨6, 5, .rw, 5, 2⟩, ⟨2, 2, .rw, 1, 2⟩]⟩,
   -- TW_TOUT
   ⟨0x200B01, 16, 4, false, [⟨16, 8, .rw, 10, 2⟩, ⟨8, 8, .rw, 25, 2⟩, ⟨0, 8, .rw, 25, 2⟩]⟩,
   -- TW_STAT
   ⟨0x200B02, 16, 4, false, [⟨16, 4, .ro, 0, 2⟩, ⟨8, 8, .ro, 0, 2⟩, ⟨7, 1, .ro, 0, 2⟩, ⟨6, 1, .ro, 0, 2⟩, ⟨5, 1, .ro, 0, 2⟩, ⟨4, 1, .ro, 0, 2⟩, ⟨2, 2, .ro, 0, 2⟩, ⟨1, 1, .ro, 0, 2⟩, ⟨0, 1, .ro, 0, 2⟩]⟩,
   -- TW_EVT
   ⟨0x200B03, 16, 4, false, [⟨12, 1, .rw1c, 0, 2⟩, ⟨11, 1, .rw1c, 0, 2⟩, ⟨10, 1, .rw1c, 0, 2⟩, ⟨9, 1, .rw1c, 0, 2⟩, ⟨8, 1, .rw1c, 0, 2⟩, ⟨7, 1, .rw1c, 0, 2⟩, ⟨6, 1, .rw1c, 0, 2⟩, ⟨5, 1, .rw1c, 0, 2⟩, ⟨4, 1, .rw1c, 0, 2⟩, ⟨3, 1, .rw1c, 0, 2⟩, ⟨2, 1, .rw1c, 0, 2⟩, ⟨1, 1, .rw1c, 0, 2⟩, ⟨0, 1, .rw1c, 0, 2⟩]⟩,
   -- TW_IE
   ⟨0x200B04, 16, 4, false, [⟨0, 13, .rw, 8184, 2⟩]⟩,
   -- TW_ERR
   ⟨0x200B05, 16, 4, false, [⟨20, 4, .ro, 0, 2⟩, ⟨18, 2, .ro, 0, 2⟩, ⟨14, 4, .ro, 0, 2⟩, ⟨7, 7, .ro, 0, 2⟩, ⟨0, 7, .ro, 0, 2⟩]⟩,
   -- TW_ERRTB
   ⟨0x200B06, 16, 4, false, [⟨0, 36, .ro, 0, 2⟩]⟩,
   -- TW_CNT
   ⟨0x200B07, 16, 4, false, [⟨24, 12, .ro, 0, 2⟩, ⟨12, 12, .ro, 0, 2⟩, ⟨0, 12, .ro, 0, 2⟩]⟩,
   -- TW_MCMD
   ⟨0x200B08, 16, 4, false, [⟨20, 4, .wo, 0, 1⟩, ⟨16, 4, .wo, 0, 1⟩, ⟨0, 7, .wo, 0, 1⟩]⟩,
   -- TW_MDAT0
   ⟨0x200B09, 16, 4, true, [⟨0, 32, .rwh, 0, 1⟩]⟩,
   -- TW_MDAT1
   ⟨0x200B0A, 16, 4, true, [⟨0, 32, .rwh, 0, 1⟩]⟩]
def regRows16_1 : List RegRow :=
  [
   -- TW_SRX0
   ⟨0x200B1B, 16, 3, false, [⟨0, 32, .ro, 0, 2⟩]⟩,
   -- TW_SRX1
   ⟨0x200B1C, 16, 3, false, [⟨0, 32, .ro, 0, 2⟩]⟩,
   -- TW_MRES
   ⟨0x200B0D, 16, 4, true, [⟨24, 4, .ro, 0, 2⟩, ⟨20, 4, .ro, 0, 2⟩]⟩,
   -- HOST_WBASE
   ⟨0x200C00, 0, 1, false, [⟨0, 22, .rw, 0, 2⟩]⟩,
   -- HOST_CALL
   ⟨0x200C07, 0, 1, false, [⟨12, 8, .rw, 0, 2⟩, ⟨8, 3, .ro, 0, 2⟩, ⟨7, 1, .wo, 0, 2⟩, ⟨0, 7, .rw, 0, 2⟩]⟩]
def regRows17_0 : List RegRow :=
  [
   -- SYS_GZ_CTRL
   ⟨0x200D00, 0, 1, false, [⟨8, 6, .wo, 0, 1⟩, ⟨0, 6, .wo, 0, 1⟩]⟩,
   -- SYS_GZ_EVT
   ⟨0x200D01, 0, 1, false, [⟨18, 6, .rw1c, 0, 2⟩, ⟨12, 6, .rw1c, 0, 2⟩, ⟨6, 6, .rw1c, 0, 2⟩, ⟨0, 6, .rw1c, 0, 2⟩]⟩,
   -- SYS_GZQ_STAT
   ⟨0x200D08, 1, 6, false, [⟨20, 16, .ro, 0, 3⟩, ⟨16, 4, .ro, 0, 3⟩, ⟨15, 1, .ro, 0, 3⟩, ⟨14, 1, .ro, 0, 3⟩, ⟨8, 4, .ro, 0, 2⟩, ⟨3, 1, .ro, 0, 3⟩, ⟨2, 1, .ro, 0, 2⟩, ⟨1, 1, .ro, 0, 2⟩, ⟨0, 1, .ro, 0, 2⟩]⟩,
   -- SYS_GZQ_SERH
   ⟨0x200D10, 2, 6, false, [⟨0, 32, .ro, 0, 3⟩]⟩,
   -- SYS_GZQ_SERL
   ⟨0x200D11, 2, 6, false, [⟨0, 32, .ro, 0, 3⟩]⟩]
def regRows18_0 : List RegRow :=
  [
   -- HOST_STAT
   ⟨0x200C01, 0, 1, false, [⟨20, 4, .ro, 0, 2⟩, ⟨19, 1, .ro, 0, 2⟩, ⟨18, 1, .ro, 0, 2⟩, ⟨17, 1, .ro, 0, 2⟩, ⟨16, 1, .ro, 0, 2⟩, ⟨9, 1, .ro, 0, 2⟩, ⟨8, 1, .ro, 0, 2⟩, ⟨1, 1, .ro, 0, 2⟩, ⟨0, 1, .ro, 0, 2⟩]⟩,
   -- HOST_MBX
   ⟨0x200C02, 1, 4, false, [⟨0, 36, .rw, 0, 2⟩]⟩,
   -- HOST_EVT
   ⟨0x200C06, 0, 1, false, [⟨6, 1, .rw1c, 0, 2⟩, ⟨5, 1, .rw1c, 0, 2⟩, ⟨4, 1, .rw1c, 0, 2⟩, ⟨3, 1, .rw1c, 0, 2⟩, ⟨2, 1, .rw1c, 0, 2⟩, ⟨1, 1, .rw1c, 0, 2⟩, ⟨0, 1, .rw1c, 0, 2⟩]⟩,
   -- SNAP_CTRL
   ⟨0x200E00, 0, 1, false, [⟨16, 8, .rw, 4, 3⟩, ⟨13, 3, .rw, 0, 3⟩, ⟨11, 2, .rw, 0, 3⟩, ⟨10, 1, .rw, 0, 3⟩, ⟨9, 1, .rw, 0, 3⟩, ⟨8, 1, .rw, 1, 3⟩, ⟨0, 1, .wo, 0, 3⟩]⟩,
   -- SNAP_GMASK
   ⟨0x200E01, 0, 1, false, [⟨0, 24, .rw, 0, 3⟩]⟩,
   -- SNAP_STAT
   ⟨0x200E02, 0, 1, false, [⟨30, 6, .ro, 0, 3⟩, ⟨25, 5, .ro, 0, 3⟩, ⟨13, 12, .ro, 0, 3⟩, ⟨8, 5, .ro, 0, 3⟩, ⟨1, 1, .ro, 0, 3⟩, ⟨0, 1, .rw1c, 0, 3⟩]⟩,
   -- SNAP_TB
   ⟨0x200E03, 0, 1, false, [⟨0, 36, .ro, 0, 3⟩]⟩,
   -- SNAP_EP
   ⟨0x200E04, 0, 1, false, [⟨0, 36, .ro, 0, 3⟩]⟩,
   -- SNAP_SYS
   ⟨0x200E05, 0, 1, false, [⟨0, 36, .ro, 0, 3⟩]⟩,
   -- SNAP_CORE
   ⟨0x200E08, 1, 6, false, [⟨33, 3, .ro, 0, 3⟩, ⟨32, 1, .ro, 0, 3⟩, ⟨0, 22, .ro, 0, 3⟩]⟩,
   -- PRT_SNAP0
   ⟨0x201054, 128, 24, false, [⟨31, 5, .ro, 0, 3⟩, ⟨27, 4, .ro, 0, 3⟩, ⟨25, 2, .ro, 0, 3⟩, ⟨21, 4, .ro, 0, 3⟩, ⟨17, 4, .ro, 0, 3⟩, ⟨11, 1, .ro, 0, 3⟩, ⟨10, 1, .ro, 0, 3⟩, ⟨9, 1, .ro, 0, 3⟩, ⟨8, 1, .ro, 0, 3⟩, ⟨7, 1, .ro, 0, 3⟩, ⟨6, 1, .ro, 0, 3⟩]⟩,
   -- PRT_SNAP1
   ⟨0x201055, 128, 24, false, [⟨0, 36, .ro, 0, 3⟩]⟩]
def regRows18_1 : List RegRow :=
  [
   -- PRT_SNAP2
   ⟨0x201056, 128, 24, false, [⟨0, 36, .ro, 0, 3⟩]⟩,
   -- PRT_SNAP3
   ⟨0x201057, 128, 24, false, [⟨0, 36, .ro, 0, 3⟩]⟩,
   -- DBG_STAT
   ⟨0x200E20, 0, 1, false, [⟨6, 6, .ro, 0, 3⟩, ⟨5, 1, .ro, 0, 3⟩, ⟨4, 1, .ro, 0, 3⟩, ⟨2, 2, .ro, 0, 3⟩, ⟨1, 1, .ro, 0, 3⟩, ⟨0, 1, .ro, 0, 3⟩]⟩]
def regRows19_0 : List RegRow :=
  [
   -- SVY_CTRL
   ⟨0x200F00, 0, 1, false, [⟨16, 13, .rw, 0, 2⟩, ⟨8, 8, .rw, 30, 2⟩, ⟨0, 8, .rw, 5, 2⟩]⟩,
   -- SVY_CFG
   ⟨0x200F01, 0, 1, false, [⟨24, 6, .ro, 0, 2⟩, ⟨16, 6, .ro, 0, 2⟩, ⟨8, 8, .ro, 0, 2⟩, ⟨0, 8, .ro, 0, 2⟩]⟩,
   -- SVY_STAT
   ⟨0x200F02, 0, 1, false, [⟨6, 1, .ro, 0, 2⟩, ⟨5, 1, .ro, 0, 2⟩, ⟨4, 1, .ro, 0, 3⟩, ⟨0, 3, .ro, 0, 2⟩]⟩,
   -- SVY_FLOOR
   ⟨0x200F03, 0, 1, false, [⟨24, 4, .ro, 0, 3⟩, ⟨0, 24, .ro, 0, 3⟩]⟩,
   -- SVY_BENCH
   ⟨0x200F08, 1, 8, false, [⟨24, 8, .ro, 0, 2⟩, ⟨0, 16, .ro, 0, 2⟩]⟩,
   -- SVY_AGE
   ⟨0x200F10, 0, 1, false, [⟨16, 16, .ro, 0, 3⟩, ⟨0, 16, .ro, 0, 3⟩]⟩,
   -- SVY_TRN0
   ⟨0x200F11, 0, 1, false, [⟨20, 16, .rwh, 0, 3⟩, ⟨0, 12, .rwh, 0, 3⟩]⟩,
   -- SVY_TRN1
   ⟨0x200F12, 0, 1, false, [⟨0, 36, .rwh, 0, 3⟩]⟩,
   -- SVY_TRN2
   ⟨0x200F13, 0, 1, false, [⟨0, 36, .rwh, 0, 3⟩]⟩,
   -- SVY_MARGIN
   ⟨0x200F14, 0, 1, false, [⟨20, 16, .ro, 0, 3⟩, ⟨10, 1, .ro, 0, 3⟩, ⟨0, 10, .ro, 1023, 3⟩]⟩,
   -- SVY_SHED
   ⟨0x200F15, 0, 1, false, [⟨0, 8, .ro, 255, 2⟩]⟩,
   -- SVY_SHEDC0
   ⟨0x200F16, 0, 1, false, [⟨0, 32, .ro, 0, 2⟩]⟩]
def regRows19_1 : List RegRow :=
  [
   -- SVY_SHEDC1
   ⟨0x200F17, 0, 1, false, [⟨0, 32, .ro, 0, 2⟩]⟩,
   -- SVY_EVT
   ⟨0x200F18, 0, 1, false, [⟨9, 1, .rw1c, 0, 2⟩, ⟨8, 1, .rw1c, 0, 2⟩, ⟨7, 1, .rw1c, 0, 2⟩, ⟨6, 1, .rw1c, 0, 2⟩, ⟨5, 1, .rw1c, 0, 2⟩, ⟨4, 1, .rw1c, 0, 2⟩, ⟨3, 1, .rw1c, 0, 2⟩, ⟨2, 1, .rw1c, 0, 2⟩, ⟨1, 1, .rw1c, 0, 2⟩, ⟨0, 1, .rw1c, 0, 2⟩]⟩,
   -- SVY_IE
   ⟨0x200F19, 0, 1, false, [⟨0, 10, .rw, 958, 2⟩]⟩,
   -- SVY_PHIGH
   ⟨0x200F1A, 0, 1, false, [⟨0, 24, .ro, 0, 3⟩]⟩,
   -- SVYP_PDAY
   ⟨0x201048, 128, 24, false, [⟨24, 12, .ro, 4095, 3⟩, ⟨12, 12, .ro, 4095, 3⟩, ⟨0, 12, .ro, 0, 3⟩]⟩,
   -- SVYP_PBASE
   ⟨0x201049, 128, 24, false, [⟨24, 12, .rwh, 0, 3⟩, ⟨12, 12, .rwh, 0, 3⟩, ⟨11, 1, .rwh, 0, 3⟩, ⟨8, 3, .rwh, 0, 3⟩]⟩]
def regRows20_0 : List RegRow :=
  [
   -- FW_STAT
   ⟨0x200F40, 0, 1, false, [⟨32, 4, .ro, 0, 2⟩, ⟨29, 3, .ro, 0, 2⟩, ⟨27, 2, .ro, 0, 2⟩, ⟨25, 2, .ro, 0, 2⟩, ⟨23, 2, .ro, 0, 2⟩, ⟨22, 1, .ro, 0, 2⟩, ⟨21, 1, .ro, 0, 2⟩, ⟨20, 1, .ro, 0, 2⟩, ⟨14, 6, .ro, 0, 2⟩, ⟨8, 6, .ro, 0, 2⟩, ⟨0, 8, .ro, 0, 2⟩]⟩,
   -- FW_SLOTA
   ⟨0x200F41, 0, 1, false, [⟨32, 4, .ro, 0, 2⟩, ⟨31, 1, .ro, 0, 2⟩, ⟨30, 1, .ro, 0, 2⟩, ⟨24, 6, .ro, 0, 2⟩, ⟨0, 24, .ro, 0, 2⟩]⟩,
   -- FW_SLOTB
   ⟨0x200F42, 0, 1, false, [⟨32, 4, .ro, 0, 2⟩, ⟨31, 1, .ro, 0, 2⟩, ⟨30, 1, .ro, 0, 2⟩, ⟨24, 6, .ro, 0, 2⟩, ⟨0, 24, .ro, 0, 2⟩]⟩,
   -- FW_DLCMD
   ⟨0x200F43, 0, 1, false, [⟨32, 4, .wo, 0, 1⟩, ⟨30, 2, .wo, 0, 1⟩, ⟨0, 15, .wo, 0, 1⟩]⟩,
   -- FW_DLARG
   ⟨0x200F44, 0, 1, true, [⟨0, 22, .rw, 0, 1⟩]⟩,
   -- FW_ACT
   ⟨0x200F45, 0, 1, false, [⟨8, 8, .wo, 0, 1⟩, ⟨0, 2, .wo, 0, 1⟩]⟩,
   -- FW_CONFIRM
   ⟨0x200F46, 0, 1, false, [⟨0, 8, .wo, 0, 1⟩]⟩,
   -- FW_TRIAL
   ⟨0x200F47, 0, 1, false, [⟨16, 12, .ro, 0, 2⟩, ⟨0, 6, .rw, 10, 2⟩]⟩,
   -- FW_COMPAT
   ⟨0x200F48, 0, 1, false, [⟨0, 1, .rw, 0, 3⟩]⟩,
   -- FW_SETPUT
   ⟨0x200F49, 0, 1, false, [⟨0, 22, .wo, 0, 1⟩]⟩,
   -- FW_EVT
   ⟨0x200F4A, 0, 1, false, [⟨10, 1, .rw1c, 0, 2⟩, ⟨9, 1, .rw1c, 0, 2⟩, ⟨8, 1, .rw1c, 0, 2⟩, ⟨7, 1, .rw1c, 0, 2⟩, ⟨6, 1, .rw1c, 0, 2⟩, ⟨5, 1, .rw1c, 0, 2⟩, ⟨4, 1, .rw1c, 0, 2⟩, ⟨3, 1, .rw1c, 0, 2⟩, ⟨2, 1, .rw1c, 0, 2⟩, ⟨1, 1, .rw1c, 0, 2⟩, ⟨0, 1, .rw1c, 0, 2⟩]⟩,
   -- FW_IE
   ⟨0x200F4B, 0, 1, false, [⟨0, 11, .rw, 2047, 2⟩]⟩]
def regRows20_1 : List RegRow :=
  [
   -- OTP_FWKEY
   ⟨0x200F4C, 0, 1, false, [⟨4, 4, .ro, 0, 2⟩, ⟨0, 4, .ro, 0, 2⟩]⟩]
def regTable : List RegRow :=
  regRows01_0 ++ regRows02_0 ++ regRows03_0 ++ regRows04_0 ++ regRows04_1 ++ regRows05_0 ++ regRows05_1 ++ regRows06_0 ++ regRows07_0 ++ regRows07_1 ++ regRows08_0 ++ regRows09_0 ++ regRows10_0 ++ regRows10_1 ++ regRows11_0 ++ regRows11_1 ++ regRows12_0 ++ regRows12_1 ++ regRows13_0 ++ regRows13_1 ++ regRows14_0 ++ regRows15_0 ++ regRows15_1 ++ regRows16_0 ++ regRows16_1 ++ regRows17_0 ++ regRows18_0 ++ regRows18_1 ++ regRows19_0 ++ regRows19_1 ++ regRows20_0 ++ regRows20_1

end Sys2Proof.Machine
end

