-- ==== Sys2Proof/Syntax.lean ====
section
/-!
DEFINITION. Sys2Proof/Syntax.lean: the agents that reach the block, and its commands: one constructor for each row of
spec/opcode_table.json, first the rows that a Meridian tick can bring, then the others, each part in the table's order, with the
operands that what stands outside the block gives. Measured quantities come in the units named at the meaning (mV, mA, mK or raw
codes); `a` is the agent of a register access, `p` a port, `n` a core or a two-wire block, `hdr` a received message header.
-/
namespace Sys2Proof

/-- The agents of R30 and R454 that read and write registers: the cores, the SPI target, TW0 and the TAP. -/
inductive Agent where
  | core (n : Fin 6) | spi | tw0 | tap
  deriving DecidableEq, Repr

/-- The commands of the block. -/
inductive Instr where
  /-- A write to a register that has no row of its own stores or acts under its access code, after the field and range checks of its chapter. (R10) -/
  | registerWrite (a : Agent) (addr : BitVec 22) (v : Word)
  /-- Once every port has settled, Banked entry closes the segments, commits the Ledger, halts the cores, stops the meters and starts duty-cycled toggling. (R43) -/
  | bankedEntry
  /-- When 50 ms pass after a Banked request with a port still in a contract or swap sequence, the request is refused with UNSETTLED. (R42) -/
  | bankedUnsettledTimeout
  /-- A wake source sets its SYS_WAKE_STAT bit, restarts the meters with new segments, resumes the cores and enters Steady with CAUSE 5, or abandons a Banked entry in progress. (R45) -/
  | bankedWake (src : Option (Fin 16))
  /-- Once every port is settled, every meter has settled and every scan has ended, the device enters Steady with CAUSE 3. (R40) -/
  | kindlingCompletion
  /-- When TIMEOUT seconds pass from reset release without completion, the device enters Steady with CAUSE 4. (R40) -/
  | kindlingTimeout
  /-- The VCORE regulator moves SET one code toward its target every 10 µs. (R83) -/
  | vcoreStep
  /-- A monitored core that has not kicked within PERIOD asserts an L1 reset, or an L2 reset after two earlier watchdog resets within 10 s. (R102) -/
  | watchdogExpiry (idx : Fin 6)
  /-- When a flush has not completed within 100 ms, the requested reset asserts anyway. (R108) -/
  | flushTimeout
  /-- The hold timer expiring before take-over soft-stops the held port and sets STOPPED. (R123) -/
  | holdTimerExpiry
  /-- TB reaching TBRLD wraps to 0 and increments or loads TBEPOCH. (R131) -/
  | lapWrap
  /-- A new TBRLD commits, can end the lap at once, re-checks armed compare channels and closes meter segments. (R147) -/
  | tbRldWrite (a : Agent) (v : Word)
  /-- A write to TB_EPSET, accepted once per release, sets EPPEND for a load at the next wrap. (R148) -/
  | tbEpsetWrite (a : Agent) (v : Word)
  /-- A CMPnn_VAL write commits and arms the channel when MODE is not 0, or refuses an out-of-range value. (R150) -/
  | cmpValWrite (idx : Fin 64) (v : Word)
  /-- A CMPnn_CTRL write arms, disarms or reconfigures a compare channel. (R150) -/
  | cmpCtrlWrite (idx : Fin 64) (v : Word)
  /-- An armed channel whose value TB reaches fires: it sets FIRED, acts on its ball, raises its event, snapshots, and re-arms or disarms. (R153) -/
  | cmpFire (idx : Fin 64)
  /-- At t + 16 after a pulse action, the CMPO ball returns low unless another action has reached it. (R154) -/
  | cmpPulseEnd (o : Fin 8)
  /-- A CMP_OUT write drives the CMPO levels 2 ticks after commit. (R156) -/
  | cmpOutWrite (v : Word)
  /-- A capture input's filtered level change is accepted; selected edges are prescaled and captured with their stamp. (R158) -/
  | capEdgeAccepted (idx : Fin 12) (level : Bool)
  /-- An accepted level unchanged for STUCKTO × 10 ms sets STUCK. (R162) -/
  | capStuckTimeout (idx : Fin 12)
  /-- A CAPnn_CTRL write restarts the candidate count or the prescaler, and is ignored with FILTN 0. (R163) -/
  | capCtrlWrite (idx : Fin 12) (v : Word)
  /-- A new CC level code is accepted through the filter and drives the Type-C transitions on Rp or Rd seen. (R167) -/
  | ccLevelAccepted (p : Fin 24) (cc : Fin 2) (code : Fin 6)
  /-- After the 1 s chatter hold, the port leaves Disabled and WINCNT clears. (R169) -/
  | chatterHoldExpiry (p : Fin 24)
  /-- The end of a toggle phase moves a dual-role port between Unattached.SNK and Unattached.SRC. (R171) -/
  | togglePhaseEnd (p : Fin 24)
  /-- The Banked rest of BSLEEP × 10 ms ends, and the next toggle period starts. (R176) -/
  | bankedToggleRestEnd (p : Fin 24)
  /-- tCCDebounce ending in AttachWait or TryWait.SNK moves the port to Attached or Try.SRC. (R171) -/
  | ccDebounceExpiry (p : Fin 24)
  /-- tPDDebounce ending without the partner's termination returns the port to Unattached, or detaches an Attached.SRC port. (R171) -/
  | pdDebounceExpiry (p : Fin 24)
  /-- tDRPTry ending without Rd moves Try.SRC to TryWait.SNK and sets TRYFAIL. (R171) -/
  | drpTryExpiry (p : Fin 24)
  /-- Rd seen throughout tTryCCDebounce moves Try.SRC to Attached.SRC. (R171) -/
  | tryCcDebounceExpiry (p : Fin 24)
  /-- tErrorRecovery ending without CC overvoltage moves the port to Unattached. (R171) -/
  | errorRecoveryExpiry (p : Fin 24)
  /-- As sink, a new partner Rp code held for 1 ms becomes the recognised SinkTxOK or SinkTxNG level. (R183) -/
  | rpLevelRecognised (p : Fin 24) (code : Fin 3)
  /-- With no GoodCRC within tReceive, the message is retried, and after nRetryCount retries it is a protocol error or has its own outcome. (R195) -/
  | treceiveExpiry (p : Fin 24)
  /-- tSenderResponse ending without the expected reply leads to Hard_Reset, NORESP or an HPM failure. (R204) -/
  | tsenderResponseExpiry (p : Fin 24)
  /-- The tSinkTx wait after SinkTxNG ends, and the engine sends the first message of its own exchange. (R201) -/
  | tsinktxExpiry (p : Fin 24)
  /-- Once vSafe5V is reached, discovery has ended and SRC_OFFER is decided, Source_Capabilities is sent. (R204) -/
  | sourceCapsReady (p : Fin 24)
  /-- Unacknowledged capabilities are repeated every tTypeCSendSourceCap until nCapsCount, and the port then enters NO_PD. (R204) -/
  | ttypecSendSourceCapExpiry (p : Fin 24)
  /-- With no capabilities after tTypeCSinkWaitCap, the sink sends Hard_Reset, up to nHardResetCount, and then enters NO_PD. (R211) -/
  | ttypecSinkWaitCapExpiry (p : Fin 24)
  /-- tSrcTransition ending after an Accept or swap commit starts the VSET ramp. (R206) -/
  | tsrcTransitionExpiry (p : Fin 24)
  /-- A VSET ramp reaches its target, and settling begins or the swap gates turn off. (R216) -/
  | rampEnd (p : Fin 24)
  /-- A transition not settled within PGTO sets XFERFAIL and sends Hard_Reset, or fails the swap. (R217) -/
  | pgtoExpiry (p : Fin 24)
  /-- As sink, no PS_RDY within tPSTransition sends Hard_Reset. (R211) -/
  | tpsTransitionExpiry (p : Fin 24)
  /-- After a Wait, tSinkRequest ends and the same Request, VCONN_Swap or HPM_Request is sent again. (R211) -/
  | tsinkRequestExpiry (p : Fin 24)
  /-- As sink in a PPS or AVS contract, the Request that repeats the contract is sent every tPPSRequest. (R215) -/
  | tppsRequestExpiry (p : Fin 24)
  /-- As source in PPS, no Request within tPPSTimeout ends the contract with Hard_Reset. (R208) -/
  | tppsTimeoutExpiry (p : Fin 24)
  /-- As sink, no Enter Succeeded within tEnterEPR ends the EPR entry attempt. (R214) -/
  | tenterEprExpiry (p : Fin 24)
  /-- As sink in EPR mode, EPR_KeepAlive is sent every tSinkEPRKeepAlive. (R215) -/
  | tsinkEprKeepaliveExpiry (p : Fin 24)
  /-- As EPR source, no keep-alive within tSourceEPRKeepAlive sends Hard_Reset. (R210) -/
  | tsourceEprKeepaliveExpiry (p : Fin 24)
  /-- tChunkSenderResponse or tChunkSenderRequest ends without the next chunk exchange. (R197) -/
  | tchunkExpiry (p : Fin 24)
  /-- As source, tPSHardReset ends and VSET ramps to 0 V with DIS on. (R219) -/
  | tpsHardResetExpiry (p : Fin 24)
  /-- VBS not below 0.8 V within tSafe0V after a Hard_Reset or swap step ends that sequence under its own rules. (R219) -/
  | tsafe0vExpiry (p : Fin 24)
  /-- After tSrcRecover, the source restores vSafe5V and posts SRC_OFFER with reason RESET. (R219) -/
  | tsrcRecoverExpiry (p : Fin 24)
  /-- tNoResponse ends after the last attempt, and a later PD message no longer restarts negotiation. (R220) -/
  | tnoResponseExpiry (p : Fin 24)
  /-- The BIST carrier ends after tBISTContMode. (R197) -/
  | tbistContModeExpiry (p : Fin 24)
  /-- An ask not answered by its trigger tick plus ASK_DL takes its default decision and sets ASKDEF. (R225) -/
  | askDeadline (p : Fin 24)
  /-- A Contour renegotiation request starts a clipped offer or a reduced Request, or applies the cap to the exchange in progress. (R223) -/
  | contourRenegotiation (p : Fin 24)
  /-- The next queued command starts when no exchange is in progress, or completes PREEMPTED or ABORTED at its turn. (R238) -/
  | cmdStart (p : Fin 24)
  /-- A started command that has not completed at its ticket deadline raises E_DLMISS, and later completes MISSED. (R240) -/
  | cmdDeadlineMiss (p : Fin 24)
  /-- After a Wait from a PD 3.x partner, tPRSwapWait ends and PR_Swap is sent again if the deadline allows. (R247) -/
  | tprSwapWaitExpiry (p : Fin 24)
  /-- The random back-off toward a PD 2.0 partner ends, and PR_Swap is retried. (R254) -/
  | backOffExpiry (p : Fin 24)
  /-- As old sink, at t_c + 1 ms both gates turn off at the soft-stop slew. (R256) -/
  | swapGatesOffDelay (p : Fin 24)
  /-- As old sink, no partner PS_RDY within tPSSourceOff of t_c ends the swap with LASTEND 8. (R258) -/
  | tpsSourceOffExpiry (p : Fin 24)
  /-- No PS_RDY or settle within tPSSourceOn ends the swap with LASTEND 9 or 11. (R258) -/
  | tpsSourceOnExpiry (p : Fin 24)
  /-- VBS not below 0.8 V within the bound of a swap step ends the swap with LASTEND 10. (R258) -/
  | swapVbsTimeout (p : Fin 24)
  /-- tSwapSourceStart after t_e ends, and Source_Capabilities is sent. (R256) -/
  | tswapSourceStartExpiry (p : Fin 24)
  /-- tVDMBusy ends, and the request is repeated. (R273) -/
  | tvdmBusyExpiry (p : Fin 24)
  /-- No answer within tVDMSenderResponse ends the sequence with no response, or sets CEILNOACK. (R273) -/
  | tvdmSenderResponseExpiry (p : Fin 24)
  /-- tDiscoverIdentity after a failed Discover Identity ends, and the request repeats, up to nDiscoverIdentityCount times. (R275) -/
  | tdiscoverIdentityExpiry (p : Fin 24)
  /-- No Enter Mode ACK within tVDMWaitModeEntry sets FAILWHY 4; tVDMWaitModeExit without an answer leaves the mode. (R284) -/
  | tvdmWaitModeExpiry (p : Fin 24)
  /-- The HPM entry conditions coming to hold runs the pilot check and posts HPM_TRY. (R283) -/
  | hpmEntryConditions (p : Fin 24)
  /-- The 128-tick test at 0.10 V ends, and the pilot check passes or sets FAILWHY 1. (R282) -/
  | pilotCheckEnd (p : Fin 24) (opened clean : Bool)
  /-- No HPM_Offer within tHPMOffer sets FAILWHY 5. (R299) -/
  | thpmOfferExpiry (p : Fin 24)
  /-- No HPM_Transition within tHPMTrans voids the contract with FAILWHY 10. (R299) -/
  | thpmTransExpiry (p : Fin 24)
  /-- No HPM_Ready within tHPMReady voids the contract with FAILWHY 10. (R299) -/
  | thpmReadyExpiry (p : Fin 24)
  /-- No repeated Request within 150 ms after verdict 2 ends the sequence with FAILWHY 6. (R292) -/
  | hpmRepeatRequestExpiry (p : Fin 24)
  /-- A change of the own ceiling is put into regulation and sent as HPM_Ceiling as soon as the line is free. (R301) -/
  | ownCeilingSend (p : Fin 24)
  /-- Every TPOLL seconds in an HPM contract, HPM_Telemetry is sent. (R305) -/
  | telemetryPoll (p : Fin 24)
  /-- A pending turn-on request is granted once the limits are valid and no lockout or temperature block holds, and DIS turns off before the inrush. (R317) -/
  | turnOnGrant (p : Fin 24)
  /-- Both gates below PnnSNS + 1 V end a stop and turn DIS on. (R342) -/
  | stopComplete (p : Fin 24)
  /-- An inrush over TSOA, or above PSOA for 100 µs, makes a hard stop. (R330) -/
  | tripSoa (p : Fin 24) (time : Bool) (vpair idx : Nat)
  /-- The I²t accumulator passing the effective budget makes a soft stop. (R331) -/
  | tripI2t (p : Fin 24)
  /-- RA + RB above RPATH in two consecutive 100 ms windows makes a soft stop with lockout. (R335) -/
  | tripPath (p : Fin 24)
  /-- VBS below 0.8 V for 1 ms turns DIS off. (R342) -/
  | disRelease (p : Fin 24)
  /-- DIS on for 1 s turns off and sets DISTO. (R342) -/
  | disTimeout (p : Fin 24)
  /-- 9 s after a DISTO, with VBS still high, DIS turns on again for at most 1 s. (R342) -/
  | disRetry (p : Fin 24)
  /-- The allocation runs for both budgets, and the caps, clamps, cap changes and notices follow. (R357) -/
  | contourRecompute
  /-- An unconfirmed notice at its deadline revokes the port's share as an input change. (R367) -/
  | revocation (p : Fin 24)
  /-- A segment whose energy reaches 2^35 mJ closes 4000 ticks after that sample. (R385) -/
  | segmentFull (p : Fin 24)
  /-- A queued segment is posted to the Ledger channel once its turn and a credit come, or is merged while the queue is full. (R388) -/
  | segmentPost (p : Fin 24)
  /-- The settle ends, SETTLED sets and the first segment opens, carrying SETTLING after a short settle. (R390) -/
  | meterSettleEnd (p : Fin 24)
  /-- The Ledger engine takes a segment, builds a SEGMENT record in its block, and acknowledges it or discards a duplicate. (R399) -/
  | ledgerTakeSegment
  /-- BLKTO minutes after OPEN, the open block closes with cause 2. (R407) -/
  | blockAgeExpiry
  /-- The ECDSA signature is done, and trailers B and C are committed. (R408) -/
  | blockSigned
  /-- CMTDL seconds after a slot is staged, it is committed to the Store. (R422) -/
  | commitDeadline
  /-- The module identity hash completes within 1 ms of the last record byte, and closes the segment. (R402) -/
  | identityEstablished (p : Fin 24)
  /-- The release erase completes, LGR_TAILSEQ becomes B and RELDONE sets. (R420) -/
  | releaseEraseDone
  /-- Formatting completes, with the tables written and every good block erased. (R414) -/
  | formatDone
  /-- A message waiting on a channel of the wait set ends WAIT with that channel number. (R450) -/
  | waitMessageWake (n : Fin 6)
  /-- The WAIT timeout elapses, and A is set to −1. (R450) -/
  | waitTimeout (n : Fin 6)
  /-- A message still queued TAKEDL µs after enqueue sets LATE and raises E_DLMISS kind 4. (R471) -/
  | takeDeadline (c : Fin 64)
  /-- An event message held for credit is posted on the current route when credit returns. (R479) -/
  | eventPost (src : Fin 256)
  /-- An evaluation ends, rewriting TAKEDL and FAB_ADM0–5 and setting ADMCHG on a change. (R488) -/
  | admEvalDone
  /-- When the bus is free, the block starts the next controller request in priority order, or a retry. (R504) -/
  | twControllerStart (n : Fin 4)
  /-- 10 ms after a failed read, the next attempt of the scan starts. (R525) -/
  | gzRetryExpiry (q : Fin 6)
  /-- Every 1 s while a quad has no bound record, a new scan starts. (R526) -/
  | gzProbeExpiry (q : Fin 6)
  /-- SPI command 0x0B latches and returns words from the given address, word by word while continue bytes allow. (R537) -/
  | spiRead (addr : BitVec 24) (more : Nat) (part : Bool)
  /-- An accepted SNAPIN edge of the selected kind takes a snapshot. (R544) -/
  | snapinEdge (rising : Bool)
  /-- 16 ticks after a SNAPOUT pulse starts, SNAPOUT goes low. (R548) -/
  | snapoutPulseEnd
  /-- The verification ends: the device unlocks, sets TAMPER and raises source 235, or sets RESPBAD. (R553) -/
  | dbgResponseVerified
  /-- Every 64,000,000 ticks, all eight benchmark paths run for a gate. (R558) -/
  | sweepStart
  /-- After 86,400 counted sweeps, the daily mean is added to the trend and the margin is computed. (R571) -/
  | dayEnd
  /-- An ERASE completes, and DLDONE sets. (R583) -/
  | fwEraseDone (bad : Option (BitVec 16))
  /-- A PROGRAM completes, and DLDONE sets. (R583) -/
  | fwProgramDone (ok : Bool)
  /-- A STAGE ends with its RES and ADMOK, and marks the slot invalid on a failure. (R584) -/
  | fwStageDone (readOk : Bool)
  /-- The boot record's commit word is programmed, and an L1 software reset asserts 10 µs later. (R587) -/
  | activationPoint
  /-- The boot ROM has loaded the image and written RST_CORE_EN, and the device enters Steady with CAUSE 9 as the trial begins. (R589) -/
  | activationComplete (readOk : Bool)
  /-- FW_TRIAL expiry marks the slot invalid and enters Tinder, or returns to the previous slot with AUTOFALL. (R594) -/
  | trialExpiry
  /-- The Hard_Reset signalling finishes at the pad, the HARD_RESET command completes DONE, and the power recovery of R219 proceeds. (R239) -/
  | hardResetSignallingSent (p : Fin 24)
  /-- One second after a BRSTn pulse that left the bus not free, the block makes a further BRSTn pulse, up to three in all. (R515) -/
  | brstRetryExpiry (n : Fin 4)
  /-- The active CC line goes from busy to free, so a deferred transmit such as HPM_Ceiling or a pilot check may start, and termination blanking begins its 100 us run-out. (R181) -/
  | lineFree (p : Fin 24)
  /-- A SYS_MODE_REQ write with TARGET Steady is checked in the order BUSY, NOTALLOWED, PATH, condition, and ends Kindling when it is accepted. (R33) -/
  | modeReqSteady (a : Agent)
  /-- A SYS_MODE_REQ write with TARGET Kindling is refused, because no request path leads into Kindling. (R33) -/
  | modeReqKindling (a : Agent)
  /-- A SYS_MODE_REQ write with TARGET Blaze enters Blaze from Steady or Kindling on a host request; a core request is refused with PATH, and any contract refuses it with CONTRACT. (R47) -/
  | modeReqBlaze (a : Agent)
  /-- A SYS_MODE_REQ write with TARGET Banked from Steady sets TRANS, stops new port commands, and refuses with CONTRACT a port that R41 does not allow. (R42) -/
  | modeReqBanked (a : Agent)
  /-- A SYS_MODE_REQ write with TARGET Tinder enters Tinder from Steady on a host request. (R33) -/
  | modeReqTinder (a : Agent)
  /-- A SYS_MODE_REQ write with a TARGET code of 5 to 15 is ignored. (R29) -/
  | modeReqIgnoredCode (a : Agent) (code : BitVec 4)
  /-- The self-test ends, writes SYS_BLAZE_RESULT, and leaves under R33, holds failed quads Disabled, or stays in Blaze. (R49) -/
  | blazeCompletion (res : Word)
  /-- Supply power-up holds L3 until VSYS, VAFE and VCORE are in regulation, and then releases it as a power-on reset. (R76) -/
  | powerUp
  /-- VSYS below 4.30 V for 2 µs asserts an L3 reset, held until VSYS crosses 4.50 V rising. (R75) -/
  | vsysBrownout (below25 : Bool)
  /-- VCORE below its set point less 50 mV asserts an L2 reset. (R75) -/
  | vcoreBrownout
  /-- VIN crossing its threshold changes VINLOW and raises the supply event. (R80) -/
  | vinlowChange (low : Bool)
  /-- VIO crossing its threshold changes VIOLOW and raises the supply event. (R78) -/
  | violowChange (low : Bool)
  /-- VCONN crossing its threshold changes VCONNLOW; while it is low, the VCONN switches open and every SOP' and SOP'' message fails at once. (R79) -/
  | vconnlowChange (low : Bool)
  /-- Both backup feeds below 1.6 V lose the backup content, and the domain restarts with BAKLOST and TAMPER set. (R87) -/
  | backupPowerLoss
  /-- A short glitch of the backup feed below 1.6 V sets TAMPER. (R88) -/
  | backupGlitch
  /-- RSTn accepted low for 10 µs asserts an L2 reset, or an L3 reset with RSTNL3 = 1. (R101) -/
  | rstnAssert
  /-- A core write of 0xA5 to RST_WDT_KICK reloads that core's watchdog counter. (R110) -/
  | wdtKick (a : Agent) (key : BitVec 8)
  /-- A write to RST_WDT_CTRL sets the mask, PERIOD and LOCK, and a change of PERIOD reloads the counters. (R109) -/
  | wdtCtrlWrite (v : Word)
  /-- A core handshake left unacknowledged for LOCKTO asserts an L1 lock-up reset. (R111) -/
  | lockupTimeout (idx : Fin 6)
  /-- A keyed RST_REQ write with LEVEL 1 asserts an L1 software reset, after a flush when FLUSH = 1. (R107) -/
  | rstReqL1 (a : Agent) (flush : Bool)
  /-- A keyed RST_REQ write with LEVEL 2 asserts an L2 software reset, after a flush when FLUSH = 1. (R107) -/
  | rstReqL2 (a : Agent) (flush : Bool)
  /-- An RST_REQ write with a wrong key or LEVEL 0 or 3 only sets REQBAD. (R107) -/
  | rstReqBad (a : Agent) (v : Word)
  /-- When the meters and the Ledger have closed and committed under FLUSH, the requested reset asserts. (R108) -/
  | flushDone
  /-- The clock monitor detects loss of the reference, holds TB and asserts an L2 clock-failure reset. (R135) -/
  | clockFailure
  /-- When every asserted source has ended, release runs steps 1 to 9 for the level, entering the mode that the boot policy selects. (R114) -/
  | resetRelease (m0 m1 m2 m3 : BitVec 6) (otpOk xtal : Bool)
  /-- A raw CC open for 10 µs above 1 A during hold makes the guard soft-stop the port. (R125) -/
  | holdEmergencyDetach (p : Fin 24) (idx : Nat)
  /-- A Hard_Reset that the partner signals during hold is latched for handling at take-over. (R126) -/
  | holdHardResetLatch (p : Fin 24)
  /-- A C0 write of 1 to an RST_CORE_EN bit starts that core at its loader entry address. (R117) -/
  | coreStart (a : Agent) (v : Word)
  /-- A read of TB_COUNT returns TB and copies TBEPOCH into the reader's TB_EPL latch. (R141) -/
  | tbCountRead (a : Agent)
  /-- A candidate ended by an equal sample counts toward ACT. (R161) -/
  | capCandidateRejected (idx : Fin 36)
  /-- A read of CAPnn_TB returns the capture, clears FULL and latches the epoch for the reader. (R159) -/
  | capTbRead (a : Agent) (idx : Fin 12)
  /-- VBS falling below 0.8 V completes a detach, an EmergencyStop, or a swap or Hard_Reset step that waits for it. (R171) -/
  | vbsDischarged (p : Fin 24)
  /-- VBS reaching 4.0 V lets a swap or a Hard_Reset restart continue as sink. (R255) -/
  | vbsPresent (p : Fin 24)
  /-- VBS below the sink disconnect level for 10 µs while unmasked detaches the sink. (R184) -/
  | sinkDisconnect (p : Fin 24) (vbs : Nat)
  /-- A raw CC open for 640 ticks under load or in transition soft-stops the port, voids the contract, closes the segment with DIT and enters EmergencyStop. (R186) -/
  | emergencyDetach (p : Fin 24) (idx vbs : Nat)
  /-- A CC line above 6.0 V for 2 µs opens VCONN and the terminations, soft-stops the port and enters ErrorRecovery. (R180) -/
  | ccOvervoltage (p : Fin 24) (cc : Fin 2)
  /-- The VCONN switch in current limit for 1 ms is opened, and VCONNOC is set. (R179) -/
  | vconnOvercurrent (p : Fin 24)
  /-- A write of 1 to PRTnn_CTRL.ERREC sends a port that is not Disabled into ErrorRecovery. (R171) -/
  | prtErrec (p : Fin 24) (v : Word)
  /-- A write of PRTnn_CTRL.ENABLE disables the port with a soft stop, or clears that cause of Disabled. (R172) -/
  | prtEnable (p : Fin 24) (v : Word)
  /-- An accepted write to PRTnn_CCFILT restarts the CC candidate count and keeps the accepted codes. (R190) -/
  | ccfiltWrite (p : Fin 24) (v : Word)
  /-- A received GoodCRC ends the sender's retry, and can complete a contract, a swap commit or a sequence step. (R194) -/
  | rxGoodcrc (p : Fin 24)
  /-- A received Accept answers the exchange in progress, or is a protocol error. (R194) -/
  | rxAccept (p : Fin 24) (hdr : BitVec 16)
  /-- A received Reject answers the exchange in progress; as sink with no contract it leads to a vSafe5V request. (R211) -/
  | rxReject (p : Fin 24) (hdr : BitVec 16)
  /-- A received Wait schedules a re-request or a retry of the exchange in progress. (R211) -/
  | rxWait (p : Fin 24) (hdr : BitVec 16)
  /-- A received PS_RDY ends the transition or swap step in progress, and as sink takes the contract into effect. (R207) -/
  | rxPsRdy (p : Fin 24) (hdr : BitVec 16)
  /-- A received Ping is ignored after GoodCRC. (R194) -/
  | rxPing (p : Fin 24) (hdr : BitVec 16)
  /-- A received GotoMin is answered Not_Supported. (R194) -/
  | rxGotomin (p : Fin 24) (hdr : BitVec 16)
  /-- A received Get_Source_Cap posts SRC_OFFER for a new offer as source, or sends informational Source_Capabilities as sink. (R194) -/
  | rxGetSourceCap (p : Fin 24) (hdr : BitVec 16) (epr : Bool)
  /-- A received Get_Sink_Cap or EPR_Get_Sink_Cap is answered from the sink slots. (R194) -/
  | rxGetSinkCap (p : Fin 24) (hdr : BitVec 16) (epr : Bool)
  /-- A received DR_Swap, VCONN_Swap, FR_Swap, Data_Reset, Enter_USB, battery, security or similar request is answered Not_Supported or Reject. (R194) -/
  | rxUnsupportedMessage (p : Fin 24) (hdr : BitVec 16)
  /-- A received Soft_Reset is accepted, abandons the exchange, cancels the ask and starts a fresh negotiation. (R218) -/
  | rxSoftReset (p : Fin 24) (hdr : BitVec 16)
  /-- Received Hard_Reset signalling voids the contract and starts the role's Hard_Reset recovery. (R219) -/
  | rxHardReset (p : Fin 24)
  /-- A received Not_Supported completes the command concerned with NOTSUP. (R194) -/
  | rxNotSupported (p : Fin 24) (hdr : BitVec 16)
  /-- Received Source_Capabilities or EPR_Source_Capabilities are stored in RXCAP, and SNK_SELECT is posted as sink. (R211) -/
  | rxSourceCapabilities (p : Fin 24) (hdr : BitVec 16) (epr : Bool) (objs : List (BitVec 32))
  /-- A received Request or EPR_Request is checked, then rejected, accepted as a repeat, or posted as SRC_REQUEST. (R205) -/
  | rxRequest (p : Fin 24) (hdr : BitVec 16) (epr : Bool) (rdo copy : BitVec 32)
  /-- A received EPR_Mode Enter is checked and answered or asked; an Exit ends EPR mode. (R209) -/
  | rxEprMode (p : Fin 24) (hdr : BitVec 16) (action data : BitVec 8)
  /-- A received EPR_KeepAlive restarts tSourceEPRKeepAlive and is answered with EPR_KeepAlive_Ack. (R210) -/
  | rxEprKeepalive (p : Fin 24) (hdr : BitVec 16)
  /-- A received EPR_KeepAlive_Ack restarts the sink's keep-alive. (R194) -/
  | rxEprKeepaliveAck (p : Fin 24) (hdr : BitVec 16)
  /-- A received Get_Source_Cap_Extended, Get_Source_Info or Get_PPS_Status is answered as source, or Not_Supported otherwise. (R194) -/
  | rxGetSourceInfo (p : Fin 24) (hdr : BitVec 16) (kind : Fin 3)
  /-- A received Get_Sink_Cap_Extended, Get_Status or Get_Revision is answered with the matching reply. (R194) -/
  | rxGetStatus (p : Fin 24) (hdr : BitVec 16) (kind : Fin 3)
  /-- A received Alert is stored in the receive area, and RXALERT is set. (R194) -/
  | rxAlert (p : Fin 24) (hdr : BitVec 16) (ado : BitVec 32)
  /-- A received Status, capabilities, Revision or similar reply is stored and completes the command that asked for it. (R196) -/
  | rxReplyStored (p : Fin 24) (hdr ext : BitVec 16) (ws : List (BitVec 32))
  /-- A received BIST Carrier Mode or Test Data is served in a 5 V explicit contract. (R194) -/
  | rxBist (p : Fin 24) (hdr : BitVec 16) (mode : BitVec 4)
  /-- A received unstructured or extended VDM is ignored after GoodCRC, and RXUVDM is set. (R194) -/
  | rxUnstructuredVdm (p : Fin 24) (hdr : BitVec 16)
  /-- A received chunk request makes the engine send the next chunk of an extended message. (R195) -/
  | rxChunkRequest (p : Fin 24) (hdr : BitVec 16)
  /-- PG high and VBS within ±5 % for 0.5 ms after the ramp settles the transition, and PS_RDY or HPM_Ready is sent. (R216) -/
  | transitionSettled (p : Fin 24)
  /-- PnnPG low for 1 ms in a contract sets PGLOST, and sends Hard_Reset as source or zeroes the setpoint as sink. (R217) -/
  | pgLost (p : Fin 24)
  /-- As sink, PnnPG high for 10 ms returns the current setpoint over 1 ms. (R217) -/
  | pgRestored (p : Fin 24)
  /-- Every 62.5 µs in a PPS contract, the source lowers or raises its setpoint by 20 mV to hold the current limit. (R208) -/
  | ppsCurrentStep (p : Fin 24) (idx : Nat)
  /-- A PRTnn_ASK_ANS write that matches the outstanding ask applies its decision, or sets ANSLATE or ANSBAD. (R227) -/
  | askAnswer (a : Agent) (p : Fin 24) (v : Word)
  /-- A PRTnn_SRC_LOAD write stores or empties a source slot, or refuses the PDO with SLOTBAD. (R199) -/
  | srcLoad (p : Fin 24) (v : Word)
  /-- A PRTnn_SNK_LOAD write stores or empties a sink slot, or refuses the PDO with SLOTBAD. (R199) -/
  | snkLoad (p : Fin 24) (v : Word)
  /-- A boot ROM write of PRTnn_DDT_LOAD stores a default decision table entry; any other write sets DDTWR. (R231) -/
  | ddtLoad (a : Agent) (p : Fin 24) (v : Word)
  /-- Command 0x01 sends Get_Source_Cap under a class Q ticket. (R234) -/
  | getSrcCap (a : Agent) (p : Fin 24) (param : BitVec 16)
  /-- Command 0x02 sends Get_Sink_Cap. (R234) -/
  | getSnkCap (a : Agent) (p : Fin 24) (param : BitVec 16)
  /-- Command 0x03 sends Get_Source_Cap_Extended. (R234) -/
  | getSrcCapExt (a : Agent) (p : Fin 24) (param : BitVec 16)
  /-- Command 0x04 sends Get_Sink_Cap_Extended. (R234) -/
  | getSnkCapExt (a : Agent) (p : Fin 24) (param : BitVec 16)
  /-- Command 0x05 sends Get_Status. (R234) -/
  | getStatus (a : Agent) (p : Fin 24) (param : BitVec 16)
  /-- Command 0x06 sends Get_Battery_Cap for the referenced battery to a PD 3.x partner. (R234) -/
  | getBattCap (a : Agent) (p : Fin 24) (param : BitVec 16)
  /-- Command 0x07 sends Get_Battery_Status to a PD 3.x partner. (R234) -/
  | getBattStatus (a : Agent) (p : Fin 24) (param : BitVec 16)
  /-- Command 0x08 sends Get_Revision to a PD 3.x partner. (R234) -/
  | getRevision (a : Agent) (p : Fin 24) (param : BitVec 16)
  /-- Command 0x09 sends an Alert with the ADO in ARG. (R234) -/
  | sendAlert (a : Agent) (p : Fin 24) (param : BitVec 16)
  /-- Command 0x10 starts a new offer as source, or a Request as sink, in an explicit or HPM contract. (R234) -/
  | renegotiate (a : Agent) (p : Fin 24) (param : BitVec 16)
  /-- Command 0x11 sends EPR_Mode Enter as sink under the conditions of R214. (R214) -/
  | eprEnter (a : Agent) (p : Fin 24) (param : BitVec 16)
  /-- Command 0x12 sends EPR_Mode Exit and ends EPR mode. (R209) -/
  | eprExit (a : Agent) (p : Fin 24) (param : BitVec 16)
  /-- Command 0x18 runs collision avoidance, sends PR_Swap toward its target role and handles the reply. (R246) -/
  | prSwap (a : Agent) (p : Fin 24) (param : BitVec 16)
  /-- Command 0x19 sends VCONN_Swap as sink with VCSRC = 0. (R234) -/
  | vconnSwap (a : Agent) (p : Fin 24) (param : BitVec 16)
  /-- Command 0x1C sends Soft_Reset. (R218) -/
  | softReset (a : Agent) (p : Fin 24) (param : BitVec 16)
  /-- Command 0x1D sends Hard_Reset and completes DONE once the signalling has been sent. (R239) -/
  | hardReset (a : Agent) (p : Fin 24) (param : BitVec 16)
  /-- Command 0x20 runs discovery on SOP, SOP' or SOP''. (R278) -/
  | discover (a : Agent) (p : Fin 24) (param : BitVec 16)
  /-- Command 0x21 sends Enter Mode for a non-Chistona SVID. (R278) -/
  | enterMode (a : Agent) (p : Fin 24) (param : BitVec 16)
  /-- Command 0x22 sends Exit Mode for a non-Chistona SVID. (R278) -/
  | exitMode (a : Agent) (p : Fin 24) (param : BitVec 16)
  /-- Command 0x28 starts HPM entry with a profile and no ask, after the pilot check. (R283) -/
  | hpmEnter (a : Agent) (p : Fin 24) (param : BitVec 16)
  /-- Command 0x29 sends Exit Mode and leaves HPM. (R306) -/
  | hpmExit (a : Agent) (p : Fin 24) (param : BitVec 16)
  /-- Command 0x2A sets the command ceiling value, which can change the own ceiling. (R305) -/
  | hpmCeiling (a : Agent) (p : Fin 24) (param : BitVec 16)
  /-- Command 0x2B reads one identity record chunk. (R305) -/
  | hpmRecord (a : Agent) (p : Fin 24) (param : BitVec 16)
  /-- Command 0x2C requests HPM telemetry. (R305) -/
  | hpmTelemetry (a : Agent) (p : Fin 24) (param : BitVec 16)
  /-- A PRTnn_CMD write with a code not in the table is refused with ARG. (R234) -/
  | cmdUnknownCode (a : Agent) (p : Fin 24) (code : BitVec 6) (param : BitVec 16)
  /-- A received PR_Swap is answered by the first matching row: none, Wait, Reject, Accept, or a PRS_IN ask. (R249) -/
  | rxPrSwap (p : Fin 24) (hdr : BitVec 16)
  /-- A received Discover Identity REQ is answered with ACK and the four identity VDOs. (R272) -/
  | rxDiscoverIdentity (p : Fin 24) (hdr : BitVec 16)
  /-- A received Discover SVIDs, Discover Modes, Enter Mode, Exit Mode or other SVID-specific REQ is answered NAK. (R271) -/
  | rxModeVdmReq (p : Fin 24) (hdr : BitVec 16) (h : BitVec 32)
  /-- A received Attention for 0x3C5A while HPM is entered is stored, and ATTN is set. (R271) -/
  | rxAttention (p : Fin 24) (hdr : BitVec 16) (h vdo : BitVec 32)
  /-- A received ACK stores the objects and continues the initiator's sequence. (R273) -/
  | rxVdmAck (p : Fin 24) (sop : Fin 3) (hdr : BitVec 16) (h : BitVec 32) (v : List (BitVec 32))
  /-- A received NAK ends the sequence with a NAK result. (R273) -/
  | rxVdmNak (p : Fin 24) (sop : Fin 3) (hdr : BitVec 16) (h : BitVec 32)
  /-- A received BUSY schedules a repeat after tVDMBusy, up to 3 times. (R273) -/
  | rxVdmBusy (p : Fin 24) (sop : Fin 3) (hdr : BitVec 16) (h : BitVec 32)
  /-- As sink, a received HPM_Offer posts HPM_SELECT, or resumes the held contract under R633. (R293) -/
  | rxHpmOffer (p : Fin 24) (hdr : BitVec 16) (v1 v2 : BitVec 32)
  /-- As source, a received HPM_Request is checked, and verdict 1 or 3 is given, a repeat is accepted, or HPM_REQUEST is posted. (R294) -/
  | rxHpmRequest (p : Fin 24) (hdr : BitVec 16) (r : BitVec 32)
  /-- As sink, a received HPM_Accept masks the disconnect check on verdict 0, or repeats or ends the Request. (R293) -/
  | rxHpmAccept (p : Fin 24) (hdr : BitVec 16) (v : BitVec 32)
  /-- As sink, a received HPM_Transition starts the tHPMReady wait. (R291) -/
  | rxHpmTransition (p : Fin 24) (hdr : BitVec 16) (v : BitVec 32)
  /-- As sink, a received HPM_Ready is acknowledged, and its GoodCRC takes the HPM contract into effect. (R292) -/
  | rxHpmReady (p : Fin 24) (hdr : BitVec 16) (v : BitVec 32)
  /-- A received HPM_Ceiling is echoed by ACK and becomes the partner's ceiling, or is NAKed with RXCEIL = 0. (R303) -/
  | rxHpmCeiling (p : Fin 24) (hdr : BitVec 16) (v : BitVec 32)
  /-- A boot ROM write of PRTnn_HPM_PLOADA stores profile word A; any other write sets PLWR. (R308) -/
  | hpmPloada (a : Agent) (p : Fin 24) (v : Word)
  /-- A boot ROM write of PRTnn_HPM_PLOADB stores profile word B and checks the profile. (R308) -/
  | hpmPloadb (a : Agent) (p : Fin 24) (v : Word)
  /-- The inrush ends once |Vpair| has stayed at or below 0.2 V for 100 µs, and the regulated gate is driven fully on. (R319) -/
  | inrushEnd (p : Fin 24) (vbs : Nat)
  /-- Current above the effective IFAST with the gates on makes a hard stop. (R330) -/
  | tripFast (p : Fin 24) (idx : Nat)
  /-- A gate below PnnSNS + 8 V for 2 µs while on makes a hard stop with lockout. (R316) -/
  | tripGate (p : Fin 24)
  /-- Current above 0.50 A for 1 ms with both gates off sets lockout, and VSET is set to 0 V. (R336) -/
  | tripOffcur (p : Fin 24) (idx : Nat)
  /-- VBS above the OV threshold for 10 µs makes a soft stop. (R332) -/
  | tripOv (p : Fin 24) (vbs : Nat)
  /-- Reverse current above IREV for 20 µs outside an inrush makes a soft stop. (R330) -/
  | tripRev (p : Fin 24) (idx : Int)
  /-- FET temperature at or above TTRIP for 10 ms makes a soft stop and sets OTBLK. (R334) -/
  | tripOt (p : Fin 24) (t : Int)
  /-- An NTC reading out of range for 10 ms makes a soft stop with lockout. (R330) -/
  | tripNtc (p : Fin 24) (t : Int)
  /-- As source, VBS below 80 % of the setpoint for 1 ms makes a soft stop. (R333) -/
  | tripUv (p : Fin 24) (vbs : Nat)
  /-- FET temperature reaching TTRIP − 10 °C sets WARN. (R334) -/
  | tempWarn (p : Fin 24) (t : Int)
  /-- A write of 1 to GRDnn_TRIP.LOCKOUT clears it and TRIPCNT, unless a lockout condition still holds. (R339) -/
  | lockoutClear (p : Fin 24) (v : Word)
  /-- A GRDnn_SET write is checked field by field against the bound, and is stored or refused with LIMHI. (R327) -/
  | grdSetWrite (p : Fin 24) (k : Fin 2) (v : Word)
  /-- A boot ROM write of GRDnn_CAP stores the image cap before the lock; any other write sets LIMWR. (R326) -/
  | grdCapWrite (a : Agent) (p : Fin 24) (k : Fin 2) (v : Word)
  /-- A write to BUD_CHG sets the charge budget as an input change, or stores it under HOLD. (R351) -/
  | budChgWrite (v : Word)
  /-- A write to BUD_DIS sets the discharge budget as an input change, or stores it under HOLD. (R351) -/
  | budDisWrite (v : Word)
  /-- A write to BUDnn_LIM is checked, arms the port and ends a revocation, or sets INBAD. (R352) -/
  | budLimWrite (p : Fin 24) (v : Word)
  /-- A write to BUDnn_CTRL sets class, weight, RENEGUP and ACKEN as an input change. (R351) -/
  | budnnCtrlWrite (p : Fin 24) (v : Word)
  /-- A write of 0 to BUD_CTRL.HOLD applies every stored input on one tick as one input change. (R353) -/
  | holdClear (v : Word)
  /-- A BUD_ACK write that matches the pending notice confirms it, or sets ACKLATE. (R366) -/
  | budAck (v : Word)
  /-- A write of 1 to MTRnn_CTRL.CLOSE closes the open segment with reason 11. (R383) -/
  | mtrClose (p : Fin 24)
  /-- Writing changed calibration constants is a calibration change that closes the segment. (R377) -/
  | mtrCalWrite (a : Agent) (p : Fin 24) (k : Fin 4) (v : Word)
  /-- A read of MTRnn_IMPL or EXPL returns the low accumulator word and latches the high word for the reader. (R380) -/
  | mtrAccRead (a : Agent) (p : Fin 24) (exp : Bool)
  /-- A read of MTRnn_SEGSTT returns the start TB and latches the start epoch for the reader. (R380) -/
  | mtrSegsttRead (a : Agent) (p : Fin 24)
  /-- A read of MTRnn_LSEGW0 returns word 0 of the last segment and latches its energies for the reader. (R380) -/
  | mtrLsegw0Read (a : Agent) (p : Fin 24)
  /-- A page program ends, and a failure retires the block and repeats the program in a spare. (R417) -/
  | pageProgramDone (ok : Bool)
  /-- The recovery scan finds the ledger and log ends, and closes or re-signs an incomplete block. (R418) -/
  | recoveryScanEnd (chips gib : Fin 3) (page4k good : Bool)
  /-- An accepted LGR_RELEASE write appends a RELEASE record and starts erasing the released blocks, or sets RELBAD. (R420) -/
  | lgrRelease (a : Agent) (v : Word)
  /-- A keyed STO_FMT write on a blank Store starts formatting. (R414) -/
  | stoFmt (a : Agent) (v : Word)
  /-- A STO_RD write starts a page read into the read buffer, or sets RDERR. (R424) -/
  | stoRd (a : Agent) (v : Word)
  /-- The page read completes and RDDONE sets; an uncorrectable read sets ECCFAIL. (R424) -/
  | pageReadDone (ecc : Fin 3)
  /-- A STO_LOGT write appends a firmware LOG entry from the writer's STO_LOGW latches, or drops it with LOGDROP. (R419) -/
  | stoLogt (a : Agent) (v : Word)
  /-- A read of LGR_CERTDAT returns four certificate bytes and advances the reader's LGR_CERTPTR. (R410) -/
  | certdatRead (a : Agent)
  /-- Opcode 0x01 does nothing. (R435) -/
  | nop (n : Fin 6) (mode : BitVec 2) (aux : BitVec 6) (field : BitVec 22)
  /-- Opcode 0x02 loads A from its operand. (R435) -/
  | lda (n : Fin 6) (mode : BitVec 2) (aux : BitVec 6) (field : BitVec 22)
  /-- Opcode 0x03 loads the upper half-word of A and clears the lower half-word. (R437) -/
  | ldau (n : Fin 6) (mode : BitVec 2) (aux : BitVec 6) (field : BitVec 22)
  /-- Opcode 0x04 stores A to memory or a register, posted where R452 allows. (R435) -/
  | sta (n : Fin 6) (mode : BitVec 2) (aux : BitVec 6) (field : BitVec 22)
  /-- Opcode 0x05 loads X. (R435) -/
  | ldx (n : Fin 6) (mode : BitVec 2) (aux : BitVec 6) (field : BitVec 22)
  /-- Opcode 0x06 loads Y. (R435) -/
  | ldy (n : Fin 6) (mode : BitVec 2) (aux : BitVec 6) (field : BitVec 22)
  /-- Opcode 0x07 stores X, zero-extended. (R435) -/
  | stx (n : Fin 6) (mode : BitVec 2) (aux : BitVec 6) (field : BitVec 22)
  /-- Opcode 0x08 stores Y, zero-extended. (R435) -/
  | sty (n : Fin 6) (mode : BitVec 2) (aux : BitVec 6) (field : BitVec 22)
  /-- Opcode 0x09 loads X with the effective address. (R435) -/
  | leax (n : Fin 6) (mode : BitVec 2) (aux : BitVec 6) (field : BitVec 22)
  /-- Opcode 0x0A loads Y with the effective address. (R435) -/
  | leay (n : Fin 6) (mode : BitVec 2) (aux : BitVec 6) (field : BitVec 22)
  /-- Opcode 0x0B performs the register transfer that aux selects. (R438) -/
  | movr (n : Fin 6) (mode : BitVec 2) (aux : BitVec 6) (field : BitVec 22)
  /-- Opcode 0x0C adds the operand to A modulo 2^36. (R436) -/
  | add (n : Fin 6) (mode : BitVec 2) (aux : BitVec 6) (field : BitVec 22)
  /-- Opcode 0x0D subtracts the operand from A. (R436) -/
  | sub (n : Fin 6) (mode : BitVec 2) (aux : BitVec 6) (field : BitVec 22)
  /-- Opcode 0x0E subtracts A from the operand. (R436) -/
  | rsb (n : Fin 6) (mode : BitVec 2) (aux : BitVec 6) (field : BitVec 22)
  /-- Opcode 0x0F forms the bitwise AND of A and the operand. (R435) -/
  | and (n : Fin 6) (mode : BitVec 2) (aux : BitVec 6) (field : BitVec 22)
  /-- Opcode 0x10 forms the bitwise OR of A and the operand. (R435) -/
  | or (n : Fin 6) (mode : BitVec 2) (aux : BitVec 6) (field : BitVec 22)
  /-- Opcode 0x11 forms the bitwise XOR of A and the operand. (R435) -/
  | xor (n : Fin 6) (mode : BitVec 2) (aux : BitVec 6) (field : BitVec 22)
  /-- Opcode 0x12 shifts or rotates A as aux selects. (R439) -/
  | sh (n : Fin 6) (mode : BitVec 2) (aux : BitVec 6) (field : BitVec 22)
  /-- Opcode 0x13 forms a product and keeps the part of it that aux selects. (R440) -/
  | mul (n : Fin 6) (mode : BitVec 2) (aux : BitVec 6) (field : BitVec 22)
  /-- Opcode 0x14 forms a quotient or remainder as aux selects, with no exception. (R441) -/
  | div (n : Fin 6) (mode : BitVec 2) (aux : BitVec 6) (field : BitVec 22)
  /-- Opcode 0x15 forms A AND NOT operand. (R435) -/
  | bic (n : Fin 6) (mode : BitVec 2) (aux : BitVec 6) (field : BitVec 22)
  /-- Opcode 0x16 transfers control, directly or indirectly. (R442) -/
  | jmp (n : Fin 6) (mode : BitVec 2) (aux : BitVec 6) (field : BitVec 22)
  /-- Opcode 0x17 pushes the return address and transfers control, or raises STACK. (R443) -/
  | call (n : Fin 6) (mode : BitVec 2) (aux : BitVec 6) (field : BitVec 22)
  /-- Opcode 0x18 pops P from the return stack, or raises STACK. (R443) -/
  | ret (n : Fin 6) (mode : BitVec 2) (aux : BitVec 6) (field : BitVec 22)
  /-- Opcode 0x19 sends a message on a channel if it has credit. (R447) -/
  | send (n : Fin 6) (mode : BitVec 2) (aux : BitVec 6) (field : BitVec 22)
  /-- Opcode 0x1A takes the oldest message from a channel. (R448) -/
  | recv (n : Fin 6) (mode : BitVec 2) (aux : BitVec 6) (field : BitVec 22)
  /-- Opcode 0x1B reads a channel's credit and waiting count into A. (R449) -/
  | poll (n : Fin 6) (mode : BitVec 2) (aux : BitVec 6) (field : BitVec 22)
  /-- Opcode 0x1C suspends the core on its wait set with a timeout. (R450) -/
  | wait (n : Fin 6) (mode : BitVec 2) (aux : BitVec 6) (field : BitVec 22)
  /-- Opcode 0x1D waits until the earlier accesses of the selected scopes are performed. (R452) -/
  | fence (n : Fin 6) (mode : BitVec 2) (aux : BitVec 6) (field : BitVec 22)
  /-- Opcode 0x1E atomically reads a shared SRAM word and sets its bit 35. (R453) -/
  | tas (n : Fin 6) (mode : BitVec 2) (aux : BitVec 6) (field : BitVec 22)
  /-- Opcode 0x1F halts for the TAP when enabled, and raises BRK otherwise. (R459) -/
  | brk (n : Fin 6) (mode : BitVec 2) (aux : BitVec 6) (field : BitVec 22)
  /-- Opcode 0x20 compares A with its operand and branches when the condition holds. (R444) -/
  | cb (n : Fin 6) (cond : BitVec 4) (bmode : BitVec 2) (operand offset : BitVec 12)
  /-- An undefined opcode or an invalid encoding raises ILLEGAL. (R434) -/
  | illegal (n : Fin 6)
  /-- A core's own write of 1 to COREn_EXC.ACTIVE ends exception state. (R461) -/
  | excClear (a : Agent) (n : Fin 6)
  /-- A C0 or host write to FAB_CHCFG configures the selected channel, discards its queue when EN falls, or sets CFGBAD. (R467) -/
  | fabChcfgWrite (a : Agent) (v : Word)
  /-- A write of 1 to an EVT_PEND bit clears that source's pending bit. (R480) -/
  | evtPendClear (k : Fin 8) (v : Word)
  /-- A write of 1 to an EVT_SWSET bit raises software event 240 + i. (R482) -/
  | evtSwset (a : Agent) (v : Word)
  /-- A write to EVT_RTE changes the route of the selected source from its commit tick. (R483) -/
  | evtRteWrite (a : Agent) (v : Word)
  /-- A boot ROM write of FAB_ADMLOAD stores an admission table word at PTR and advances it; other writes set ADMWR. (R484) -/
  | admLoad (a : Agent) (v : Word)
  /-- A write of FAB_ADMPTR.RUN = 1 resets the shed level and starts an admission evaluation. (R488) -/
  | admRun (a : Agent) (v : Word)
  /-- The first data byte of a TW0 write transfer sets the window pointer. (R498) -/
  | tw0PointerWrite (v : BitVec 8)
  /-- A complete 5-byte word written over TW0 is performed before byte 5 is acknowledged. (R500) -/
  | tw0WordWrite (v : Word)
  /-- TW0 takes a read word into its transfer latch, with every effect of the read at tick T. (R501) -/
  | tw0WordRead
  /-- A TW0 transfer that ends inside a word discards or keeps its effects, and sets PARTIAL. (R502) -/
  | tw0PartialEnd (read : Bool)
  /-- A TWn_MCMD write requests a controller transfer, or is refused at once with a RESULT code. (R505) -/
  | twMcmd (n : Fin 4) (a : Agent) (v : Word)
  /-- A controller transfer ends with DONE, NACKA or NACKD, and its result is written to the writer's latch. (R506) -/
  | twTransferEnd (n : Fin 4) (outcome : Fin 3) (nbyte : BitVec 4) (rx : BitVec 64)
  /-- Losing arbitration stops the controller drive and may switch the block to target. (R507) -/
  | arbLost (n : Fin 4) (own : Bool)
  /-- A misplaced START or STOP as controller ends the transfer with BUSERR. (R510) -/
  | twBusError (n : Fin 4) (ack : Bool) (bit : Fin 9) (byte addr : BitVec 7)
  /-- A START or STOP inside a target transfer ends it and writes TWn_ERR. (R511) -/
  | twTargetMisplaced (n : Fin 4) (inWord read : Bool) (bit : Fin 9) (byte addr : BitVec 7) (count : Fin 9) (data : BitVec 64)
  /-- The end of a TW1–TW3 target write moves the bytes into SRX and sets SRX. (R518) -/
  | twTargetTransferEnd (n : Fin 4) (count : Fin 9) (data : BitVec 64)
  /-- tBUF after a STOP, or 100 µs of both lines high after start or recovery, makes the bus free. (R496) -/
  | busFree (n : Fin 4)
  /-- SCL low for SCLTO ms ends the transfers and starts a BRSTn pulse, or sets STUCK on TW0. (R513) -/
  | sclTimeout (n : Fin 4) (self inWord read : Bool) (bit : Fin 9) (byte addr : BitVec 7)
  /-- SDA low for SDATO ms with SCL high starts the nine-pulse recovery. (R514) -/
  | sdaTimeout (n : Fin 4) (inWord read : Bool) (bit : Fin 9) (byte addr : BitVec 7)
  /-- The nine-pulse recovery ends, with SDA freed and a STOP, or with a BRSTn pulse or STUCK. (R514) -/
  | ninePulseRecoveryEnd (n : Fin 4) (freed : Bool)
  /-- After the BRSTn pulse and 5 ms, the bus is checked, and then rescanned, pulsed again or marked STUCK. (R515) -/
  | brstPulseEnd (n : Fin 4) (free : Bool)
  /-- A write of 1 to TWn_CTRL.RECOVER clears STUCK and starts a recovery. (R516) -/
  | twRecover (n : Fin 4) (v : Word)
  /-- A core write of HOST_CALL.GO makes TW0 send a call to the host as controller. (R519) -/
  | hostCall (a : Agent) (v : Word)
  /-- A Gazetteer record read ends valid, missing or corrupt, binding, applying, matching or flagging a mismatch. (R528) -/
  | gzReadEnd (q : Fin 6) (missing : Bool) (r : List (BitVec 8))
  /-- A write of 1 to a SYS_GZ_CTRL.RESCAN bit starts a scan of that quad. (R526) -/
  | gzRescan (v : Word)
  /-- A write of 1 to a SYS_GZ_CTRL.ACCEPT bit with PEND binds the last valid record and applies it. (R532) -/
  | gzAccept (v : Word)
  /-- SPI command 0x02 writes words from the given address. (R539) -/
  | spiWrite (addr : BitVec 24) (ws : List Word) (part : Bool)
  /-- SPI command 0x05 returns the HOST_STAT word. (R535) -/
  | spiStatus
  /-- SPI command 0x9F returns the IDCODE. (R535) -/
  | spiIdent
  /-- An unknown SPI command byte is ignored until HCSn rises, and SPICMD is set. (R535) -/
  | spiUnknownCmd (code : BitVec 8)
  /-- A host write of HOST_MBX1 sets INFULL and raises source 234, or is ignored with INOVR. (R542) -/
  | mbxInWrite (a : Agent) (v : Word)
  /-- A core write of HOST_MBX3 sets OUTFULL, or is ignored with OUTOVR. (R542) -/
  | mbxOutWrite (a : Agent) (v : Word)
  /-- A core write of 1 clears INFULL. (R542) -/
  | infullClear (a : Agent)
  /-- A host write of 1 clears OUTFULL and raises source 234. (R542) -/
  | outfullClear (a : Agent)
  /-- A write of SNAP_CTRL.TRIG takes a snapshot as of its commit tick. (R544) -/
  | snapTrig (a : Agent) (v : Word)
  /-- A write of 1 to SNAP_STAT.FULL rearms the snapshot mechanism. (R545) -/
  | snapRearm (v : Word)
  /-- TRSTn low, or five TCK cycles with TMS high, selects Test-Logic-Reset and IDCODE. (R550) -/
  | tapReset
  /-- TAP instruction EXTEST drives boundary scan while unlocked, and acts as BYPASS while locked. (R552) -/
  | extest
  /-- TAP instruction SAMPLE/PRELOAD samples or preloads the boundary scan chain. (R552) -/
  | samplePreload (v : BitVec 65)
  /-- TAP instruction IDCODE returns 0x1246_056B. (R551) -/
  | idcode
  /-- TAP instruction BYPASS, or any unlisted code, selects the 1-bit register. (R550) -/
  | bypass
  /-- TAP instruction DBGCHAL returns DEVID and the current nonce. (R554) -/
  | dbgchal
  /-- An Update-DR of DBGRESP starts verifying a debug unlock response. (R554) -/
  | dbgresp (v : BitVec 1024)
  /-- DBGCTRL.HALT halts the selected core at its next instruction boundary. (R555) -/
  | dbgHalt (v : BitVec 16)
  /-- DBGCTRL.RESUME lets the halted core continue. (R555) -/
  | dbgResume (v : BitVec 16)
  /-- DBGCTRL.STEP executes one instruction on the halted core. (R555) -/
  | dbgStep (v : BitVec 16)
  /-- DBGCTRL.BKEN enables or disables breakpoints. (R555) -/
  | dbgBken (v : BitVec 16)
  /-- DBGCTRL.RSTREQ = 1 asserts an L1 debug reset. (R555) -/
  | dbgResetL1 (v : BitVec 16)
  /-- DBGCTRL.RSTREQ = 2 asserts an L2 debug reset. (R555) -/
  | dbgResetL2 (v : BitVec 16)
  /-- An Update-DR of DBGADDR sets the debug address. (R556) -/
  | dbgaddrUpdate (v : BitVec 22)
  /-- A Capture-DR of DBGDATA reads the word at DBGADDR. (R556) -/
  | dbgdataCapture
  /-- An Update-DR of DBGDATA with bit 36 set writes the word at DBGADDR, and advances DBGADDR under AUTOINC. (R556) -/
  | dbgdataUpdate (v : BitVec 37)
  /-- The gate closes, SVY_BENCH is written, and the candidate floor is certified or counted. (R561) -/
  | sweepEnd (laps : List (BitVec 16)) (temps : List (BitVec 8))
  /-- 1 ms after SET reaches a new code, a re-measure gate runs and certifies. (R563) -/
  | remeasure (laps : List (BitVec 16)) (temps : List (BitVec 8))
  /-- FW_DLCMD OP 1 erases a writable slot. (R583) -/
  | fwErase (a : Agent) (slot : BitVec 2)
  /-- FW_DLCMD OP 2 programs a page of a writable slot from the shared SRAM buffer. (R583) -/
  | fwProgram (a : Agent) (slot : BitVec 2) (page : BitVec 15)
  /-- FW_DLCMD OP 3 verifies a slot and previews its admission. (R583) -/
  | fwStage (a : Agent) (slot : BitVec 2)
  /-- An FW_DLCMD write with any other OP is refused with RANGE. (R583) -/
  | fwDlcmdBadOp (a : Agent) (op : BitVec 4) (slot : BitVec 2) (page : BitVec 15)
  /-- A keyed FW_ACT write is checked, sets TRANS and appends a trial boot record, or is refused. (R586) -/
  | fwAct (a : Agent) (key : BitVec 8) (slot : BitVec 2)
  /-- A keyed FW_CONFIRM write during a trial appends a confirmed boot record and raises RBCNT. (R592) -/
  | fwConfirm (a : Agent) (key : BitVec 8)
  /-- A write of FW_TRIAL.MIN changes the trial period, and can end the trial at once. (R591) -/
  | fwTrialWrite (v : Word)
  /-- An FW_SETPUT write appends a setting record, or refuses it with SETBAD. (R600) -/
  | fwSetput (a : Agent) (addr : BitVec 22)
  /-- On each meter strobe, every 4000 ticks, both channels are sampled, converted with the calibration constants and added to the import or export accumulator and residue, with over-range flagging and the running means updated. (R378) -/
  | meterSample (p : Fin 24) (vraw iraw : Int)
  /-- At each 64 kS/s monitor sample the guard updates its I2t accumulator Q and its 1 ms and 100 ms averages for GRDnn_MEAS and GRDnn_PATH. (R331) -/
  | guardMonitorSample (p : Fin 24) (idx : Int) (vbs va vb : Nat) (t : Int)
  /-- The crystal reference becomes present and within tolerance, or ceases to be, and TB_STAT.XOK follows, which decides whether a later release returns Meridian to the crystal. (R136) -/
  | xokChange (ok : Bool)
  /-- The FET temperature falls below EFF TTRIP minus 15 degrees C, which clears WARNNOW and OTBLK and lifts the temperature block on turn-on. (R334) -/
  | tempBlockClear (p : Fin 24) (t : Int)
  deriving DecidableEq, Repr

end Sys2Proof
end

