-- ==== Sys2Proof/Machine/State.lean ====
section
/-!
DEFINITION. Sys2Proof/Machine/State.lean: the state of the block as plain data, the outcomes a command may end in beside a
next state, and the state after reset. Every register field of the spec and every engine variable and timer is a field of the
one table `Dev.regs`, under its descriptor of Regs.lean or Hidden.lean.
-/
namespace Sys2Proof.Machine

/-- A channel message: its words, its enqueue tick, whether its take deadline has passed (R465, R471), and whether a word of it
stands in its slot with a double-bit error (R21). -/
structure Msg where
  words : List Word
  enq   : Nat
  late  : Bool
  bad   : Bool
  deriving DecidableEq, Repr

/-- A LOG entry of R419: TYPE, SOURCE, stamp, and the 16 bytes of DATA. -/
structure LogEntry where
  typ    : Nat
  source : Nat
  epoch  : Nat
  tb     : Nat
  data   : List Nat
  deriving DecidableEq, Repr

/-- A closed meter segment in its meter's queue (R387, R388): serial, reason, flags, start and end stamps, the tick it
closed, its energies, its contract summary, whether it stands posted, and the identity and calibration source that its record
will carry (R401, R402). -/
structure Seg where
  serial : Nat
  reason : Nat
  flags  : Nat
  e0     : Nat
  t0     : Nat
  e1     : Nat
  t1     : Nat
  tick   : Nat
  imp    : Nat
  exp    : Nat
  sum    : Nat
  posted : Bool
  idz    : Bool
  idh    : Nat
  calsrc : Nat
  deriving DecidableEq, Repr

/-- A meter sample as the means of R381 use it: strobe tick, raw codes, converted values before clamp and creep, and
the power after them in picowatts, signed. -/
structure MSample where
  tick : Nat
  vraw : Int
  iraw : Int
  vuv  : Int
  iua  : Int
  pw   : Int
  deriving DecidableEq, Repr

/-- An outgoing frame of a port, waiting for its GoodCRC (R194, R195): the packet type (0 SOP, 1 SOP′, 2 SOP″), the
message header and extended header words, the data objects, what follows its outcome, and the retries made. -/
structure TxFrame where
  sop   : Nat
  msg   : Nat
  ext   : Bool
  objs  : List Nat
  kind  : Nat
  tries : Nat
  deriving DecidableEq, Repr

/-- A staged ledger slot: the tick it was built and its 64 bytes; a signature slot is empty until its block is signed
(R404, R408, R422). -/
structure Slot where
  tick  : Nat
  bytes : List Nat
  deriving DecidableEq, Repr

/-- A queued port command (R233-R240): code, parameter, argument, ticket, deadline tick, whether its deadline has passed
after its start, and whether a served swap has taken it out of the queue (R252). -/
structure Cmd where
  code   : Nat
  param  : Nat
  arg    : Nat
  ticket : Nat
  due    : Nat
  late   : Bool
  joined : Bool
  deriving DecidableEq, Repr

/-- A write of a Meridian register that has arrived and not committed: the tick it commits at, its writer, address and value
(R138). -/
structure Commit where
  due   : Nat
  agent : Agent
  addr  : Nat
  val   : Nat
  deriving DecidableEq, Repr

/-- Everything but the word memories and the waiting commands. `now` counts Meridian ticks since power-on and `free` the open
values used so far: both are the model's own. Tables are canonical: keys rising, defaults not listed. -/
structure Dev where
  now  : Nat
  free : Nat
  /-- Tick, plus 1, of the latest hardware settings of write-one-to-clear bits and of RWH fields, and the bits set on it. -/
  setAt   : Nat
  setKeys : List Nat
  /-- Register fields, engine variables and timers; an unlisted field holds its descriptor's `rst`. -/
  regs : Tab Nat
  /-- Queue of each channel, oldest message first (R465). -/
  chq  : Tab (List Msg)
  /-- Return stack of each core, last entry first (R427). -/
  rstk : Tab (List Nat)
  /-- Frames each port has still to send (R194). -/
  txq  : Tab (List TxFrame)
  /-- Closed segments of each meter that the Ledger has not acknowledged (R387, R388). -/
  segq : Tab (List Seg)
  /-- Latest samples of each meter, newest first (R381). -/
  mwin : Tab (List MSample)
  /-- Staging words, by address: admission table, read buffer, port staging (R198, R424, R484). -/
  stg  : Tab Word
  /-- Staged LOG entries, oldest first (R419). -/
  logs : List LogEntry
  /-- Staged ledger slots, oldest first (R404, R422). -/
  staged : List Slot
  /-- Slots of the page being programmed (R422). -/
  prog   : List (List Nat)
  /-- Digests of closed blocks that wait for their signature (R408). -/
  sigq   : List (List Nat)
  /-- Serials of the last 8 segments taken from each port (R399). -/
  seen   : Tab (List Nat)
  /-- Identity record of each port's module, as far as received (R284, R402). -/
  idrec  : Tab (List Nat)
  /-- Programmed pages of the Store, by partition and page (R412-R421). -/
  nand   : Tab (List Nat)
  /-- Physical block of each logical block, where it is not the block of its own number (R415). -/
  bmap   : Tab Nat
  /-- Retired physical blocks (R415). -/
  retired : List Nat
  /-- Erase counts of physical blocks (R416). -/
  erases : Tab Nat
  /-- Ticks of recent guard trips (by port), attaches (64 + port) and watchdog expiries (200), the words of the last SPI
  READ (210), and what the pads of GPIO (211) and CMPO (212) have shown. -/
  hist   : Tab (List Nat)
  /-- Last valid Gazetteer record of each quad (R528, R532). -/
  gzrec  : Tab (List Nat)
  /-- Writes of Meridian registers that have not committed, oldest first (R138). -/
  commits : List Commit
  /-- Command queue of each port, the executing or next command first (R233). -/
  cmdq   : Tab (List Cmd)
  deriving DecidableEq, Repr

/-- The machine: the device part; shared SRAM (by address) and core-local memory (core n from 2^22 + n × 2^15), unlisted words
0; the memory words that stand with a double-bit error (R21); and the commands that wait, first in first out. -/
structure State where
  dev     : Dev
  mem     : Tab Word
  bad     : List Nat
  pending : List Instr
  deriving DecidableEq, Repr

/-- The canonical form of a memory: keys strictly rising, no entry equal to what an unlisted word reads as. -/
abbrev Memory.wf (m : Tab Word) : Bool := Tab.wf (0 : Word) m

/-- Why the model stops. -/
inductive Fault where
  /-- Raised by no command: every command runs on every operand, and takes open values where the spec states no result (log entry 3).
  Safe. -/
  | illFormedCommand
  deriving DecidableEq, Repr

/-- What the model refuses. -/
inductive Refusal where
  /-- A command that has no meaning yet. Safe. No arm of `exec` answers with it. -/
  | notModelled (mnemonic : String)
  deriving DecidableEq, Repr

/-! ### Reset -/

/-- The fields that do not stand at the reset value of their descriptor when the release of a power-on L3 has completed with
step 8: STRAP code 0, OTP unprogrammed, crystal stable (R87, R112, R114, R115, R120). -/
def State.resetFields : List (Fld × Nat) :=
    [(F.RST_CNT_COUNT, 1), (F.RST_CAUSE_SOURCE 0, 1), (F.RST_CAUSE_LEVEL 0, 3), (F.RST_CAUSE_ALSO 0, 1),
    (F.RST_CAUSE_CNT 0, 1), (F.TB_STAT_XOK, 1), (F.CORE_STAT_STATE 0, 1), (F.CORE_P_P 0, 65536), (F.EVT_PEND_PEND 6,
    12582912), (F.TW_STAT_BUSY 1, 1), (F.TW_STAT_BUSY 2, 1), (F.TW_STAT_BUSY 3, 1)] ++
    (List.range 6).map (fun i => (F.SYS_GZQ_STAT_SCAN i, 1)) ++
    [(F.DBG_STAT_UNLOCKED, 1)] ++
    (List.range 24).map (fun i => (F.PRT_ATT_STAT_DISWHY i, 2)) ++
    [(H.evCount 214, 1), (H.evCount 215, 1), (H.evRaise 214, 4097), (H.evRaise 215, 4097), (H.evSetAt 214, 1),
    (H.evSetAt 215, 1)] ++
    (List.range 24).map (fun i => (H.mtrRun i, 1)) ++
    [(H.kindleStart, 1)] ++
    (List.range 24).map (fun i => (H.padDis i, 0)) ++
    (List.range 6).map (fun i => (H.gzScan i, 1)) ++
    [(H.hwTick, 1), (H.booting, 1), (H.sysok, 1)] ++
    (List.range 24).map (fun i => (T.mtrSettle i, 64000001)) ++
    [(T.twStart 1, 1), (T.twStart 2, 1), (T.twStart 3, 1), (T.svySweep, 1), (T.kindle, 1920000001)]

/-- The machine right after reset: a power-on L3 has been released, Kindling has begun, and C0 stands at the first word of the
boot ROM. -/
def State.reset : State where
  dev :=
    { now := 0, free := 6, setAt := 0, setKeys := [], regs := State.resetFields.map (fun e => (e.1.key, e.2)), chq := [], rstk := [], txq := [],
      segq := [], mwin := [], stg := [],
      logs := [⟨5, 240, 0, 0, [0, 0, 0, 1, 1, 0, 0, 0, 0, 0, 0, 0, 0, 0, 0, 0]⟩,
        ⟨1, 240, 0, 0, [0, 0, 0, 64, 113, 0, 0, 1, 0, 0, 0, 0, 0, 0, 0, 0]⟩], staged := [], prog := [], sigq := [],
      seen := [], idrec := [], nand := [], bmap := [], retired := [], erases := [], hist := [], gzrec := [], commits := [], cmdq := [] }
  mem := []
  bad := []
  pending := []

end Sys2Proof.Machine
end

