-- ==== Sys2Proof/Machine/Ops.lean ====
section
/-!
DEFINITION. Sys2Proof/Machine/Ops.lean: the named operations over the fields, timers, tables and memory of the state.
-/
namespace Sys2Proof

/-! ### Agents (R141) -/

/-- The copy number of an agent's own latches (R141). -/
def Agent.copy : Agent → Nat
  | .core n => n.val
  | .spi => 6
  | .tw0 => 7
  | .tap => 8

/-- The place of an agent in the order of R30: SPI, TW0, then C0 to C5; Debug after them. -/
def Agent.rank : Agent → Nat
  | .spi => 0
  | .tw0 => 1
  | .core n => 2 + n.val
  | .tap => 8

/-- SPI and TW0 are the host. -/
def Agent.isHost : Agent → Bool
  | .spi => true
  | .tw0 => true
  | _ => false

def Agent.isC0 : Agent → Bool
  | .core n => n.val == 0
  | _ => false

def Agent.isCore : Agent → Bool
  | .core _ => true
  | _ => false

/-- Only C0 and the host may write. -/
def Agent.isC0orHost (a : Agent) : Bool := a.isC0 || a.isHost

end Sys2Proof

namespace Sys2Proof.Machine

/-! ### Fields -/

/-- The value of a field, never wider than the field. -/
def Dev.get (d : Dev) (f : Fld) : Nat := tget f.rst d.regs f.key % 2 ^ f.w

/-- A field written, cut to its width. -/
def Dev.put (d : Dev) (f : Fld) (v : Nat) : Dev := { d with regs := tput f.rst d.regs f.key (v % 2 ^ f.w) }

/-- A one-bit field as a Boolean. -/
def Dev.bit (d : Dev) (f : Fld) : Bool := d.get f != 0

/-- A field set to 1. -/
def Dev.set1 (d : Dev) (f : Fld) : Dev := d.put f 1

/-- A field set to 0. -/
def Dev.clr (d : Dev) (f : Fld) : Dev := d.put f 0

/-- A counter field incremented modulo its width. -/
def Dev.inc (d : Dev) (f : Fld) : Dev := d.put f (d.get f + 1)

/-- Bit b of a field. -/
def Dev.getBit (d : Dev) (f : Fld) (b : Nat) : Bool := (d.get f).testBit b

/-- Bit b of a field written. -/
def Dev.putBit (d : Dev) (f : Fld) (b : Nat) (on : Bool) : Dev := d.put f (withBit (d.get f) b on)

/-- Several fields written in order. -/
def Dev.puts (d : Dev) : List (Fld × Nat) → Dev
  | [] => d
  | e :: l => Dev.puts (d.put e.1 e.2) l

/-- Several fields set to 0. -/
def Dev.clrs (d : Dev) : List Fld → Dev
  | [] => d
  | f :: l => Dev.clrs (d.clr f) l

/-! ### Hardware settings and software writes on one tick (R10, R81, R140, R188, R232) -/

/-- The bits noted as set by hardware on this tick. -/
def Dev.setNow (d : Dev) : List Nat := if d.setAt = d.now + 1 then d.setKeys else []

/-- Bit b of a field is noted as set by hardware on this tick. -/
def Dev.mark (d : Dev) (f : Fld) (b : Nat) : Dev := { d with setAt := d.now + 1, setKeys := (f.key * 64 + b) :: d.setNow }

/-- Hardware has set bit b of a field on this tick. -/
def Dev.marked (d : Dev) (f : Fld) (b : Nat) : Bool := d.setNow.contains (f.key * 64 + b)

/-- Hardware sets bit b of a write-one-to-clear field. -/
def Dev.hwBit (d : Dev) (f : Fld) (b : Nat) : Dev := (d.putBit f b true).mark f b

/-- Hardware sets a write-one-to-clear bit. -/
def Dev.hwSet (d : Dev) (f : Fld) : Dev := (d.set1 f).mark f 0

/-- Hardware updates an RWH field. -/
def Dev.hwPut (d : Dev) (f : Fld) (v : Nat) : Dev := (d.put f v).mark f 0

/-- The bits of v that hardware has not set in the field on this tick. -/
def Dev.unmarked (d : Dev) (f : Fld) (v : Nat) : Nat :=
  (List.range f.w).foldl (fun x b => if d.marked f b then withBit x b false else x) v

/-- A software write of ones to a write-one-to-clear field: it clears what hardware has not set on this tick. -/
def Dev.clearOnes (d : Dev) (f : Fld) (v : Nat) : Dev := d.put f (d.get f - (d.get f &&& d.unmarked f v))

/-- d, or f d where the condition holds. -/
def Dev.when (d : Dev) (c : Bool) (f : Dev → Dev) : Dev := if c then f d else d

/-- f for each index 0 to n − 1, in rising order. -/
def Dev.forN (n : Nat) (f : Nat → Dev → Dev) (d : Dev) : Dev := (List.range n).foldl (fun e i => f i e) d

/-! ### Time -/

/-- Ticks in n microseconds. -/
def usTicks (n : Nat) : Nat := n * 64

/-- Ticks in n milliseconds. -/
def msTicks (n : Nat) : Nat := n * 64000

/-- A timer started: due the given number of ticks from now. -/
def Dev.arm (d : Dev) (t : Fld) (ticks : Nat) : Dev := d.put t (d.now + ticks + 1)

/-- A timer runs. -/
def Dev.armed (d : Dev) (t : Fld) : Bool := d.get t != 0

/-- A timer stopped. -/
def Dev.stop (d : Dev) (t : Fld) : Dev := d.put t 0

/-- Ticks a running timer has left. -/
def Dev.left (d : Dev) (t : Fld) : Nat := d.get t - 1 - d.now

/-- TB and TBEPOCH now (R15). -/
def Dev.tb (d : Dev) : Nat := d.get F.TB_COUNT_COUNT
def Dev.epoch (d : Dev) : Nat := d.get F.TB_EPOCH_EPOCH

/-! ### Pads that follow after two ticks (R67, R154) -/

/-- The entries that still count: those of the last two ticks and the one before. -/
def padRecent (now : Nat) : List Nat → List Nat
  | [] => []
  | e :: l => if e / 65536 + 2 ≤ now then [e] else e :: padRecent now l

/-- A value of 16 bits that takes the place of another now, noted in history k. -/
def Dev.padNote (d : Dev) (k old new : Nat) : Dev :=
  let l := tget [] d.hist k
  let l := if l.isEmpty then [old] else l
  { d with hist := tput [] d.hist k ((d.now * 65536 + new) :: padRecent d.now l) }

/-- The value of history k as it stood two ticks ago; `cur` where none is noted. -/
def Dev.padSeen (d : Dev) (k cur : Nat) : Nat :=
  let l := tget [] d.hist k
  match l.find? (fun e => decide (e / 65536 + 2 ≤ d.now)) with
  | some e => e % 65536
  | none => (l.getLast?.map (· % 65536)).getD cur

/-! ### Open values -/

/-- The next open value, cut to w bits, and the state with the count of uses advanced. -/
def Dev.fresh (d : Dev) (w : Nat) : Nat × Dev :=
  ((Config.freeValue d.free).toNat % 2 ^ w, { d with free := d.free + 1 })

/-- A field given an open value. -/
def Dev.putFree (d : Dev) (f : Fld) : Dev :=
  let r := d.fresh f.w
  r.2.put f r.1

/-! ### Lifting to the whole state -/

/-- The whole state with a new device part. -/
def State.onDev (s : State) (f : Dev → Dev) : State := { s with dev := f s.dev }

/-- The outcome of a command that changes only the device part. -/
def State.ok (s : State) (f : Dev → Dev) : Host.Outcome State Fault Refusal := .next { s with dev := f s.dev }

/-! ### Memory -/

/-- The word at an address of a memory; unlisted words read 0 (R95). -/
def Memory.read (m : Tab Word) (a : Nat) : Word := tget 0 m a

/-- A word written. -/
def Memory.write (m : Tab Word) (a : Nat) (w : Word) : Tab Word := tput 0 m a w

/-- Key of word a of core n's local memory. -/
def localKey (n a : Nat) : Nat := 4194304 + n * 32768 + a % 32768

def State.memRead (s : State) (k : Nat) : Word := Memory.read s.mem k

/-- A word written, its check bits formed anew (R21). -/
def State.memWrite (s : State) (k : Nat) (w : Word) : State :=
  { s with mem := Memory.write s.mem k w, bad := s.bad.filter (fun x => x != k) }

/-- Words written in order from a key on. -/
def State.memWrites (s : State) (k : Nat) : List Word → State
  | [] => s
  | w :: l => State.memWrites (s.memWrite k w) (k + 1) l

end Sys2Proof.Machine
end

