-- ==== Sys2Proof/Machine/Flags.lean ====
section
/-!
DEFINITION. Sys2Proof/Machine/Flags.lean: channels as hardware senders see them (R465-R471), the event router
(R478-R483), and the setting of event bits with their interrupt enables. Every family raises its events here.
-/
namespace Sys2Proof.Machine

/-! ### Channels -/

/-- The messages queued on channel c, oldest first. -/
def Dev.chan (d : Dev) (c : Nat) : List Msg := tget [] d.chq c

def Dev.setChan (d : Dev) (c : Nat) (q : List Msg) : Dev := { d with chq := tput [] d.chq c q }

/-- Channel c is closed, because its handler is shed (R567). -/
def Dev.shedClosed (d : Dev) (c : Nat) : Bool :=
  if c < 32 then d.getBit F.SVY_SHEDC0_CLOSED c else d.getBit F.SVY_SHEDC1_CLOSED (c - 32)

/-- Channel c is enabled, and closed neither by shedding (R567) nor by an asserted reset (R490). -/
def Dev.chOpen (d : Dev) (c : Nat) : Bool := d.bit (H.chEn c) && !d.shedClosed c && d.get H.rstHeld == 0

/-- Credit of channel c (R468): none while it is not open. -/
def Dev.chCredit (d : Dev) (c : Nat) : Nat := if d.chOpen c then d.get (H.chDepth c) - (d.chan c).length else 0

/-- Credit of channel c as a hardware sender counts it (R468). -/
def Dev.hwCredit (d : Dev) (c : Nat) : Nat :=
  if d.get (H.chSrc c) = 8 then d.chCredit c else 0

/-- A message enters channel c whole (R472); the enqueue tick is now (R471). -/
def Dev.enqueue (d : Dev) (c : Nat) (ws : List Word) : Dev :=
  (d.setChan c (d.chan c ++ [⟨ws, d.now, false, false⟩])).inc (H.chSent c)

/-- The place of a hardware message among those of its tick, by the tag and the port of word 0: port engines by port, Contour,
meters by port, the event router (R469, R470). -/
def hwPlace (m : Msg) : Nat :=
  let w := (m.words.headD 0).toNat
  if w / 2 ^ 32 ≤ 6 then bits w 24 8 else if w / 2 ^ 32 = 7 then 256 else if w / 2 ^ 32 = 8 then 257 + bits w 24 8 else 1024

/-- A hardware message takes its place among those of its tick, newest first. -/
def hwInsert (m : Msg) : List Msg → List Msg
  | [] => [m]
  | x :: l => if x.enq = m.enq ∧ hwPlace m < hwPlace x then x :: hwInsert m l else m :: x :: l

/-- A message of a hardware sender enters channel c (R469). -/
def Dev.hwEnqueue (d : Dev) (c : Nat) (ws : List Word) : Dev :=
  (d.setChan c (hwInsert ⟨ws, d.now, false, false⟩ (d.chan c).reverse).reverse).inc (H.chSent c)

/-- Every message of channel c is discarded, and DISC sets (R467). -/
def Dev.discardChan (d : Dev) (c : Nat) : Dev := (d.setChan c []).hwSet (H.chDisc c)

/-! ### Frames -/

/-- The frames that port p has still to send, the one on its way first. -/
def Dev.txs (d : Dev) (p : Nat) : List TxFrame := tget [] d.txq p

/-- Ticks that a message of n objects occupies the line: (6 + 4n) × 10 + 89 bit cells of 640/3 ticks. -/
def frameTicks (n : Nat) : Nat := ((6 + 4 * n) * 10 + 89) * 640 / 3

/-! ### The event router -/

/-- PEND of source s, a bit of EVT_PENDk (R479). -/
def Dev.pend (d : Dev) (s : Nat) : Bool := d.getBit (F.EVT_PEND_PEND (s / 32)) (s % 32)

def Dev.setPend (d : Dev) (s : Nat) (on : Bool) : Dev := d.putBit (F.EVT_PEND_PEND (s / 32)) (s % 32) on

/-- The two words of the event message of source s (R481), with the count as it stands. -/
def Dev.eventWords (d : Dev) (s : Nat) : List Word :=
  [BitVec.ofNat 36 (9 * 2 ^ 32 + d.get (H.evCount s) * 2 ^ 20 + s % 256), BitVec.ofNat 36 (d.get (H.evStamp s))]

/-- The event message of source s posted where its route has credit, or held (R479). -/
def Dev.postEvent (d : Dev) (s : Nat) : Dev :=
  if d.bit (H.rteChen s) then
    if d.hwCredit (d.get (H.rteCh s)) > 0 then
      (d.hwEnqueue (d.get (H.rteCh s)) (d.eventWords s)).clr (H.evHeld s)
    else d.set1 (H.evHeld s)
  else d.clr (H.evHeld s)

/-- A raise of source s that finds PEND = 0: its count starts, stamped now, and its message is posted (R479). -/
def Dev.raiseNew (d : Dev) (s : Nat) : Dev :=
  ((d.setPend s true).puts [(H.evStamp s, d.tb), (H.evCount s, 1), (H.evSetAt s, d.now + 1)]).postEvent s

/-- The raises of source s on this tick. -/
def Dev.raisesNow (d : Dev) (s : Nat) : Nat :=
  if d.get (H.evRaise s) / 4096 = d.now + 1 then d.get (H.evRaise s) % 4096 else 0

/-- A raise of source s (R479). While an L2 or L3 reset is asserted the router is in reset and takes none. -/
def Dev.raise (d : Dev) (s : Nat) : Dev :=
  if d.get H.rstHeld ≥ 2 then d
  else
    let d := d.put (H.evRaise s) ((d.now + 1) * 4096 + min 4095 (d.raisesNow s + 1))
    if d.pend s then d.put (H.evCount s) (min 4095 (d.get (H.evCount s) + 1)) else d.raiseNew s

/-- The event of kind k of port p (R478). -/
def Dev.raisePort (d : Dev) (p k : Nat) : Dev := d.raise (p * 8 + k)

/-- The lowest bit of a register field within its register. -/
def Fld.lo (f : Fld) : Nat := f.key / 64 % 64

/-- An event bit sets; where the bit of the same number in its enable register is 1, its source is raised. A setting
of a bit that reads 1 already is a setting too. -/
def Dev.event (d : Dev) (evt ie : Fld) (src : Nat) : Dev :=
  let e := d.hwSet evt
  if e.getBit ie evt.lo then e.raise src else e

/-! ### Wake sources -/

/-- The bit of SYS_WAKE_STAT of wake source b sets. -/
def Dev.wakeNote (d : Dev) (b : Nat) : Dev :=
  if b < 8 then d.hwBit F.SYS_WAKE_STAT_ENABLED b
  else if 12 ≤ b then d.hwBit F.SYS_WAKE_STAT_FIXED (b - 12) else d

/-- Wake source b comes (R91): in Banked, or inside the steps of R43, where its enable allows, a wake follows. On the tick of a
wake already served it only sets its bit. -/
def Dev.wake (d : Dev) (b : Nat) : Dev :=
  if !(decide (12 ≤ b) || d.getBit F.SYS_WAKE_EN_EN b) then d
  else if d.get H.wakeTick = d.now + 1 then d.wakeNote b
  else if d.get F.SYS_MODE_MODE == 3 || d.bit H.bankStage then (d.putBit H.wakeBits b true).arm T.bankedWake 0
  else d

/-- A register access by an agent: one of the host wakes the device (R45). -/
def Dev.touch (d : Dev) (a : Agent) : Dev := if a.isHost then d.wake 12 else d

/-- The outcome of a command of an agent that changes only the device part. -/
def State.okBy (s : State) (a : Agent) (f : Dev → Dev) : Host.Outcome State Fault Refusal := s.ok (fun d => f (d.touch a))

/-! ### The event bits of each family -/

/-- FAB_EVT (R491). -/
def Dev.fabEvt (d : Dev) (evt : Fld) : Dev := d.event evt F.FAB_IE_IE 233

/-- PRTnn_ATT_EVT (R188). -/
def Dev.attEvt (d : Dev) (p : Nat) (evt : Fld) : Dev := d.event evt (F.PRT_ATT_IE_IE p) (p * 8)

/-- The port event that a bit of PRTnn_PE_EVT raises, from the last column of its table (R232). -/
def peKind (b : Nat) : Nat :=
  if b ≤ 7 then 1 else if b ≤ 16 then 3 else 2

/-- PRTnn_PE_EVT (R232). -/
def Dev.peEvt (d : Dev) (p : Nat) (evt : Fld) : Dev := d.event evt (F.PRT_PE_IE_IE p) (p * 8 + peKind evt.lo)

/-- PRTnn_HPM_EVT (R309). -/
def Dev.hpmEvt (d : Dev) (p : Nat) (evt : Fld) : Dev := d.event evt (F.PRT_HPM_IE_IE p) (p * 8 + 7)

/-- PRTnn_SWAP_STAT [3:0], with the IE that the exchange started with (R268, R269). -/
def Dev.swapEvt (d : Dev) (p : Nat) (evt : Fld) : Dev := d.event evt (H.swIe p) (p * 8 + 4)

/-- A swap exchange starts: what it keeps of PRTnn_SWAP_CTRL (R269). -/
def Dev.swapLatch (d : Dev) (p : Nat) : Dev :=
  if d.bit (F.PRT_SWAP_STAT_STEP p) then d
  else d.puts [(H.swIe p, d.get (F.PRT_SWAP_CTRL_IE p)), (H.swRetryMax p, d.get (F.PRT_SWAP_CTRL_WAITRETRY p))]

/-- GRDnn_TRIP (R349), by field. -/
def Dev.grdEvt (d : Dev) (p : Nat) (evt : Fld) : Dev := d.event evt (F.GRD_IE_IE p) (p * 8 + 5)

/-- MTRnn_EVT (R395). -/
def Dev.mtrEvt (d : Dev) (p : Nat) (evt : Fld) : Dev := d.event evt (F.MTR_IE_IE p) (p * 8 + 6)

/-- BUD_EVT (R371). -/
def Dev.budEvt (d : Dev) (evt : Fld) : Dev := d.event evt F.BUD_IE_IE 221

/-- LGR_EVT and STO_EVT (R426). -/
def Dev.lgrEvt (d : Dev) (evt : Fld) : Dev := d.event evt F.LGR_IE_IE 220
def Dev.stoEvt (d : Dev) (evt : Fld) : Dev := d.event evt F.STO_IE_IE 220

/-- TWn_EVT. -/
def Dev.twEvt (d : Dev) (n : Nat) (evt : Fld) : Dev := d.event evt (F.TW_IE_IE n) (216 + n)

/-- SVY_EVT and FW_EVT. -/
def Dev.svyEvt (d : Dev) (evt : Fld) : Dev := d.event evt F.SVY_IE_IE 222
def Dev.fwEvt (d : Dev) (evt : Fld) : Dev := d.event evt F.FW_IE_IE 223

/-! ### LOG entries and deadline misses -/

/-- DATA of a LOG entry: 16 bytes, zeros after the given ones. -/
def logData (l : List Nat) : List Nat := (l ++ List.replicate 16 0).take 16

/-- A LOG entry is staged with the stamp of now; with 256 staged it is dropped and LOGDROP sets (R419). -/
def Dev.logAppend (d : Dev) (typ source : Nat) (data : List Nat) : Dev :=
  if d.logs.length ≥ 256 then d.stoEvt F.STO_EVT_LOGDROP
  else { d with logs := d.logs ++ [⟨typ, source, d.epoch, d.tb, logData data⟩] }

/-- A deadline miss of the given kind and index (R489): FAB_DLM, a LOG entry of type 3, source 225. Of the misses of
one tick FAB_DLM keeps the one of lowest KIND. -/
def Dev.dlMiss (d : Dev) (kind index : Nat) : Dev :=
  let d := d.inc F.FAB_DLM_COUNT
  let d := if d.get H.dlmTick = d.now + 1 ∧ d.get F.FAB_DLM_KIND < kind then d
    else (d.put F.FAB_DLM_KIND kind).put F.FAB_DLM_INDEX index
  (((d.put H.dlmTick (d.now + 1)).logAppend 3 0xF0 [225]).raise 225).wake 15

end Sys2Proof.Machine
end

