-- ==== Sys2Proof/Machine/Fabric.lean ====
section
/-!
DEFINITION. Sys2Proof/Machine/Fabric.lean: the commands of the fabric: channel configuration, take deadlines, held
events, routes, and the admission table with its evaluation (R465-R491).
-/
namespace Sys2Proof.Machine

/-! ### The boot ROM -/

/-- The boot ROM lies at 0x01_0000-0x01_BFFF (R18). -/
def inBootRom (a : Nat) : Bool := decide (0x10000 ≤ a) && decide (a ≤ 0x1BFFF)

/-- C0 runs boot ROM code: its P lies in the boot ROM. -/
def Dev.romRuns (d : Dev) : Bool := inBootRom (d.get (F.CORE_P_P 0))

/-- The access comes from C0 running boot ROM code. -/
def Dev.isRom (d : Dev) (a : Agent) : Bool := a.isC0 && d.romRuns

/-! ### FAB_CHCFG, FAB_CHSTAT, EVT_RTE as the accessing agent's windows (R491) -/

def Dev.selChan (d : Dev) (a : Agent) : Nat := d.get (F.FAB_CHSEL_CH a.copy)
def Dev.selSrc (d : Dev) (a : Agent) : Nat := d.get (F.EVT_SEL_SRC a.copy)

def Dev.readChcfg (d : Dev) (a : Agent) : Nat :=
  let c := d.selChan a
  (if d.shedClosed c then 0 else d.get (H.chTakedl c)) * 2 ^ 18 + d.get (H.chEn c) * 2 ^ 14 +
    d.get (H.chDepth c) * 2 ^ 8 + d.get (H.chDst c) * 16 + d.get (H.chSrc c)

def Dev.readChstat (d : Dev) (a : Agent) : Nat :=
  let c := d.selChan a
  d.get (H.chSent c) * 2 ^ 24 + (d.chan c).length * 2 ^ 12 + d.get (H.chLate c) * 4 + d.get (H.chRefused c) * 2 +
    d.get (H.chDisc c)

/-- RW1C bits of FAB_CHSTAT. -/
def Dev.writeChstat (d : Dev) (a : Agent) (v : Nat) : Dev :=
  let c := d.selChan a
  ((d.clearOnes (H.chLate c) (bits v 2 1)).clearOnes (H.chRefused c) (bits v 1 1)).clearOnes (H.chDisc c) (bits v 0 1)

def Dev.readRte (d : Dev) (a : Agent) : Nat :=
  let s := d.selSrc a
  d.get (H.rteIrq1 s) * 256 + d.get (H.rteIrq0 s) * 128 + d.get (H.rteChen s) * 64 + d.get (H.rteCh s)

/-- Codes that R466 lets send. -/
def mayBeSrc (c : Nat) : Bool := decide (c ≤ 5) || c == 8 || c == 15
/-- Codes that R466 lets receive. -/
def mayBeDst (c : Nat) : Bool := decide (c ≤ 5) || c == 9 || c == 15

/-- A write of FAB_CHCFG (R467). -/
def Dev.chcfgWrite (d : Dev) (a : Agent) (v : Nat) : Dev :=
  let c := d.selChan a
  let src := bits v 0 4
  let dst := bits v 4 4
  let dep := bits v 8 6
  let en := bits v 14 1
  let was := d.bit (H.chEn c)
  if !a.isC0orHost then d.fabEvt F.FAB_EVT_CFGBAD
  else if !(mayBeSrc src && mayBeDst dst && decide (1 ≤ dep) && decide (dep ≤ 32)) then d.fabEvt F.FAB_EVT_CFGBAD
  else if was && !(src == d.get (H.chSrc c) && dst == d.get (H.chDst c) && dep == d.get (H.chDepth c)) then
    d.fabEvt F.FAB_EVT_CFGBAD
  else
    let d := d.puts [(H.chSrc c, src), (H.chDst c, dst), (H.chDepth c, dep), (H.chEn c, en)]
    if was && en == 0 then d.discardChan c else d

def execFabChcfgWrite (a : Agent) (v : Word) (s : State) : Host.Outcome State Fault Refusal :=
  s.okBy a (·.chcfgWrite a v.toNat)

/-! ### Take deadlines (R471) -/

/-- The first message not yet late is marked late. -/
def markLate : List Msg → List Msg
  | [] => []
  | m :: l => if m.late then m :: markLate l else { m with late := true } :: l

/-- A message of channel c stands in the queue at its enqueue tick plus TAKEDL µs, and has raised no miss. -/
def Dev.lateDue (d : Dev) (c : Nat) : Bool :=
  let t := d.get (H.chTakedl c)
  t != 0 && !d.shedClosed c && (d.chan c).any (fun m => !m.late && decide (m.enq + usTicks t ≤ d.now))

/-- A message of channel c passes its take deadline: LATE, FAB_EVT.LATE and a miss of kind 4, once per message. -/
def Dev.takeDeadline (d : Dev) (c : Nat) : Dev :=
  if d.lateDue c then
    (((d.setChan c (markLate (d.chan c))).hwSet (H.chLate c)).fabEvt F.FAB_EVT_LATE).dlMiss 4 c
  else d

def execTakeDeadline (c : Fin 64) (s : State) : Host.Outcome State Fault Refusal := s.ok (·.takeDeadline c.val)

/-! ### Held events, pending bits, software events, routes -/

/-- Some source below s holds a message for the same channel (R479: increasing source order). -/
def Dev.heldBefore (d : Dev) (s : Nat) : Bool :=
  (List.range s).any (fun r => d.bit (H.evHeld r) && d.bit (H.rteChen r) && d.get (H.rteCh r) == d.get (H.rteCh s))

/-- A held event message is posted on the route in force once credit has returned (R479). -/
def Dev.eventPost (d : Dev) (s : Nat) : Dev :=
  if d.bit (H.evHeld s) && !d.heldBefore s then d.postEvent s else d

def execEventPost (src : Fin 256) (s : State) : Host.Outcome State Fault Refusal := s.ok (·.eventPost src.val)

/-- PEND of source s is cleared. A message held for it is withdrawn with it, since R468 holds one only while PEND = 1. The clear
comes before the raises of its tick: those find PEND = 0 (R480). -/
def Dev.pendOff (d : Dev) (s : Nat) : Dev :=
  if d.get (H.evSetAt s) = d.now + 1 then d
  else
    let n := d.raisesNow s
    let d := (d.setPend s false).clr (H.evHeld s)
    if n = 0 then d else (d.raiseNew s).put (H.evCount s) n

/-- Clears the pending bits whose bits are 1 in v, of word k (R480). -/
def Dev.pendClear (d : Dev) (k v : Nat) : Dev :=
  Dev.forN 32 (fun i e => if v.testBit i then e.pendOff (32 * k + i) else e) d

def execEvtPendClear (k : Fin 8) (v : Word) (s : State) : Host.Outcome State Fault Refusal :=
  s.ok (·.pendClear k.val v.toNat)

/-- Any core or the host raises software events (R482). -/
def Dev.swSet (d : Dev) (a : Agent) (v : Nat) : Dev :=
  if a.isCore || a.isHost then Dev.forN 16 (fun i e => if v.testBit i then e.raise (240 + i) else e) d else d

def execEvtSwset (a : Agent) (v : Word) (s : State) : Host.Outcome State Fault Refusal := s.okBy a (·.swSet a v.toNat)

/-- Any core or the host writes the route of its selected source (R483). A message held while CHEN becomes 0 is
withdrawn (R479). -/
def Dev.rteWrite (d : Dev) (a : Agent) (v : Nat) : Dev :=
  if a.isCore || a.isHost then
    let s := d.selSrc a
    let d := d.puts [(H.rteIrq1 s, bits v 8 1), (H.rteIrq0 s, bits v 7 1), (H.rteChen s, bits v 6 1),
      (H.rteCh s, bits v 0 6), (H.rteWritten, 1)]
    d.when (!v.testBit 6) (·.clr (H.evHeld s))
  else d

def execEvtRteWrite (a : Agent) (v : Word) (s : State) : Host.Outcome State Fault Refusal :=
  s.okBy a (·.rteWrite a v.toNat)

/-- The lowest pending source whose route drives a line, 256 if none. -/
def Dev.lowestIrq (d : Dev) (line : Nat → Fld) : Nat :=
  match (List.range 256).find? (fun s => d.pend s && d.bit (line s)) with
  | some s => s
  | none => 256

/-- EVT_IRQ, derived from the pending bits and the routes (R482). -/
def Dev.readIrq (d : Dev) : Nat :=
  let l1 := d.lowestIrq H.rteIrq1
  let l0 := d.lowestIrq H.rteIrq0
  (if l1 < 256 then l1 * 2 ^ 16 + 2 else 0) + (if l0 < 256 then l0 * 2 ^ 8 + 1 else 0)

/-! ### Admission (R484-R488) -/

/-- Base of the admission table (R484). -/
def admBase : Nat := 0x108000

/-- A word of the channel and staging range. -/
def Dev.stgRead (d : Dev) (a : Nat) : Nat := (tget 0 d.stg a).toNat
def Dev.stgWrite (d : Dev) (a v : Nat) : Dev := { d with stg := tput 0 d.stg a (BitVec.ofNat 36 v) }

/-- C0 running boot ROM code stores a table word and advances PTR; any other write sets ADMWR (R484). -/
def Dev.admLoad (d : Dev) (a : Agent) (v : Nat) : Dev :=
  if d.isRom a then (d.stgWrite (admBase + d.get F.FAB_ADMPTR_PTR) v).inc F.FAB_ADMPTR_PTR
  else d.fabEvt F.FAB_EVT_ADMWR

def execAdmLoad (a : Agent) (v : Word) (s : State) : Host.Outcome State Fault Refusal := s.okBy a (·.admLoad a v.toNat)

/-- An evaluation starts with the floor certified now (R488); one that is asked for while another runs follows it. -/
def Dev.admStart (d : Dev) : Dev :=
  if d.bit F.FAB_ADMF_BUSY then d.set1 H.admAgain
  else ((d.set1 F.FAB_ADMF_BUSY).put F.FAB_ADMF_FLOOR (d.get F.SVY_FLOOR_FLOOR)).arm T.admEval (usTicks 100)

/-- RUN: the shed level is reset and an evaluation starts (R488, R569). -/
def Dev.admRunNow (d : Dev) : Dev :=
  let d := if d.get F.SVY_SHED_LEVEL ≠ 255 then (d.put F.SVY_SHED_LEVEL 255).svyEvt F.SVY_EVT_SHED else d
  ((d.clr F.SVY_SHEDC0_CLOSED).clr F.SVY_SHEDC1_CLOSED).admStart

/-- A write of FAB_ADMPTR by C0 running boot ROM code: PTR, and RUN (R484, R488). -/
def Dev.admPtrWrite (d : Dev) (a : Agent) (v : Nat) : Dev :=
  if d.isRom a then
    let d := d.put F.FAB_ADMPTR_PTR (bits v 0 10)
    if v.testBit 35 then d.admRunNow else d
  else d.fabEvt F.FAB_EVT_ADMWR

def execAdmRun (a : Agent) (v : Word) (s : State) : Host.Outcome State Fault Refusal := s.okBy a (·.admPtrWrite a v.toNat)

/-- A handler of the admission table (R484). -/
structure Handler where
  core  : Nat
  trig  : Nat
  shed  : Nat
  steps : Nat
  fixed : Nat
  t     : Nat
  dl    : Nat
  deriving DecidableEq, Repr

/-- An entry of four words; none where its tag is not 0xA. -/
def handlerOf (w0 w1 w2 w3 : Nat) : Option Handler :=
  if bits w0 32 4 = 10 then
    some ⟨bits w0 29 3, bits w0 8 8, bits w0 0 8, w1, w2, bits w3 18 18, bits w3 0 18⟩
  else none

/-- The handlers of the table, up to the first entry whose tag is not 0xA. -/
def Dev.handlers (d : Dev) : Nat → Nat → List Handler
  | 0, _ => []
  | n + 1, i =>
    let w k := d.stgRead (admBase + 4 * i + k)
    match handlerOf (w 0) (w 1) (w 2) (w 3) with
    | none => []
    | some h => h :: Dev.handlers d n (i + 1)

/-- Shed under LEVEL (R567). -/
def Handler.isShed (h : Handler) (level : Nat) : Bool := h.trig != 255 && decide (h.shed > level)

/-- Cost of a handler in ns at floor F, in 0.1 M steps per second (R485). -/
def Handler.cost (h : Handler) (floor : Nat) : Nat := cdiv (h.steps * 10000) floor + h.fixed

/-- The well-formed check of one core (R486): TRIG, T and D valid, no trigger channel twice, the core as its DST. -/
def Dev.admWell (d : Dev) (core : Nat) (hs : List Handler) : Bool :=
  hs.all (fun h => (decide (h.trig < 64) || h.trig == 255) && decide (1 ≤ h.t) && decide (1 ≤ h.dl) &&
    decide (h.dl ≤ 100 * h.t) && (h.trig == 255 || d.get (H.chDst h.trig) == core)) &&
  hs.all (fun h => h.trig == 255 || (hs.filter (fun g => g.trig == h.trig)).length == 1)

/-- Utilisation of a core as a fraction (numerator, denominator), Σ C / (100 µs × T). -/
def utilFrac (floor : Nat) : List Handler → Nat × Nat
  | [] => (0, 1)
  | h :: l =>
    let r := utilFrac floor l
    (h.cost floor * r.2 + r.1 * (100000 * h.t), 100000 * h.t * r.2)

/-- The demand check of one handler (R486). -/
def demandOk (floor : Nat) (hs : List Handler) (h : Handler) : Bool :=
  decide ((hs.map (fun j => (h.dl / (100 * j.t) + 1) * j.cost floor)).sum ≤ 1000 * h.dl)

/-- One core's results over a table and a floor: NH, BAD, UFAIL, DFAIL, U (R486). With no floor certified every handler's
cost is unbounded, and a core with handlers fails both sums (R22). -/
def Dev.admOf (d : Dev) (tbl : List Handler) (floor level core : Nat) : List Nat :=
  let all := tbl.filter (fun h => h.core == core)
  let hs := all.filter (fun h => !h.isShed level)
  let bad := !d.admWell core hs
  if hs.isEmpty then [all.length, b2n bad, 0, 0, 0]
  else if floor = 0 ∨ hs.any (fun h => h.t == 0) then [all.length, b2n bad, 1, 1, 4095]
  else
    let u := utilFrac floor hs
    [all.length, b2n bad, b2n (decide (10 * u.1 > 7 * u.2)), b2n (!hs.all (demandOk floor hs)),
      min 4095 (cdiv (4096 * u.1) u.2)]

/-- One core's results over the admission table. -/
def Dev.admCore (d : Dev) (floor level core : Nat) : List Nat := d.admOf (d.handlers 256 0) floor level core

/-- TAKEDL of the trigger channels, all others 0 (R487). -/
def Dev.admTakedl (d : Dev) (floor level : Nat) : Dev :=
  let hs := (d.handlers 256 0).filter (fun h => !h.isShed level && decide (h.trig < 64))
  let d := Dev.forN 64 (fun c e => e.clr (H.chTakedl c)) d
  hs.foldl (fun e h => e.put (H.chTakedl h.trig)
    (max 1 ((1000 * h.dl - (if floor = 0 then 1000 * h.dl else h.cost floor)) / 1000))) d

/-- One core's results written; true when BAD, UFAIL or DFAIL changed. -/
def Dev.admPut (d : Dev) (core : Nat) (r : List Nat) : Dev :=
  d.puts [(F.FAB_ADM_NH core, r.getD 0 0), (F.FAB_ADM_BAD core, r.getD 1 0), (F.FAB_ADM_UFAIL core, r.getD 2 0),
    (F.FAB_ADM_DFAIL core, r.getD 3 0), (F.FAB_ADM_U core, r.getD 4 0)]

/-- The flags BAD, UFAIL and DFAIL of all cores. -/
def Dev.admFlags (d : Dev) : List Nat :=
  (List.range 6).flatMap (fun n => [d.get (F.FAB_ADM_BAD n), d.get (F.FAB_ADM_UFAIL n), d.get (F.FAB_ADM_DFAIL n)])

/-- Some core shows UFAIL or DFAIL. -/
def Dev.admFails (d : Dev) : Bool :=
  (List.range 6).any (fun n => d.bit (F.FAB_ADM_UFAIL n) || d.bit (F.FAB_ADM_DFAIL n))

/-- The evaluation's results are written: TAKEDL, FAB_ADM0-5, ADMCHG on a change (R488). -/
def Dev.admResults (d : Dev) : Dev :=
  let floor := d.get F.FAB_ADMF_FLOOR
  let level := d.get F.SVY_SHED_LEVEL
  let before := d.admFlags
  let e := Dev.forN 6 (fun n e => e.admPut n (d.admCore floor level n)) (d.admTakedl floor level)
  let e := (e.clr F.FAB_ADMF_BUSY).stop T.admEval
  if e.admFlags = before then e else e.fabEvt F.FAB_EVT_ADMCHG

end Sys2Proof.Machine
end

