-- ==== Sys2Proof/Machine/Meter.lean ====
section
/-!
DEFINITION. Sys2Proof/Machine/Meter.lean: samples, accumulators, segments and their queue (R372-R396).
-/
namespace Sys2Proof.Machine

/-! ### Segments -/

/-- The closed segments queued by the meter of port p, oldest first. -/
def Dev.segs (d : Dev) (p : Nat) : List Seg := tget [] d.segq p
def Dev.setSegs (d : Dev) (p : Nat) (q : List Seg) : Dev := { d with segq := tput [] d.segq p q }

/-- PRTnn_CONTRACT as one word, the contract summary of R382. -/
def Dev.contractWord (d : Dev) (p : Nat) : Nat :=
  d.get (F.PRT_CONTRACT_VALID p) * 2 ^ 35 + d.get (F.PRT_CONTRACT_ROLE p) * 2 ^ 34 +
    d.get (F.PRT_CONTRACT_KIND p) * 2 ^ 31 + d.get (F.PRT_CONTRACT_POS p) * 2 ^ 27 +
    d.get (F.PRT_CONTRACT_VOLT p) * 2 ^ 14 + d.get (F.PRT_CONTRACT_CURR p)

/-- CALOK (R377). -/
def Dev.calOk (d : Dev) (p : Nat) : Bool := d.bit (F.MTR_CALVG_VG p) && d.bit (F.MTR_CALIG_IG p)

/-- The flags with RV formed from bits 1, 2, 4, 6 and 7 (R386). -/
def withRv (fl : Nat) : Nat :=
  withBit fl 0 (!(fl.testBit 1 || fl.testBit 2 || fl.testBit 4 || fl.testBit 6 || fl.testBit 7))

/-- The last sample of port p carries the stamp of now. -/
def Dev.sampleNow (d : Dev) (p : Nat) : Bool := d.get (H.mtrLastTick p) == d.now + 1

/-- The accumulators without a sample stamped now (R383: a sample on a close tick belongs to the next segment). -/
def Dev.impBefore (d : Dev) (p : Nat) : Nat :=
  d.get (H.mtrImp p) - (if d.sampleNow p then d.get (H.mtrLastImp p) else 0)
def Dev.expBefore (d : Dev) (p : Nat) : Nat :=
  d.get (H.mtrExp p) - (if d.sampleNow p then d.get (H.mtrLastExp p) else 0)

/-- The open segment has become full with a sample stamped now: it closes 4000 ticks later (R385). -/
def Dev.segFullCheck (d : Dev) (p : Nat) : Dev :=
  let eI := d.get (H.mtrImp p) - d.get (H.mtrImp0 p) + d.get (H.mtrSegCI p)
  let eE := d.get (H.mtrExp p) - d.get (H.mtrExp0 p) + d.get (H.mtrSegCE p)
  if (eI ≥ 2 ^ 35 ∨ eE ≥ 2 ^ 35) ∧ !d.armed (T.mtrFull p) then d.arm (T.mtrFull p) 4000 else d

/-- A segment opens now with the contract summary in force (R382), taking what the carry allows (R388). -/
def Dev.segOpen (d : Dev) (p : Nat) : Dev :=
  let ci := min (d.get (H.mtrCarryI p)) (2 ^ 35 - 1)
  let ce := min (d.get (H.mtrCarryE p)) (2 ^ 35 - 1)
  let fl := (if d.bit F.TB_STAT_SRC then 2 else 0) ||| (if d.bit (H.mtrShort p) then 4 else 0) |||
    (if ci + ce = 0 then 0 else 128)
  let last := if d.sampleNow p then d.get (H.mtrLastFl p) else 0
  Dev.segFullCheck (d.puts [(F.MTR_STAT_OPEN p, 1), (H.mtrSegE0 p, d.epoch), (H.mtrSegT0 p, d.tb), (H.mtrSegTick p, d.now + 1),
    (H.mtrSum p, d.contractWord p), (H.mtrSegId p, d.get (H.idHash p)), (H.mtrSegIdV p, d.get (H.idValid p)),
    (H.mtrSegCI p, ci), (H.mtrSegCE p, ce), (H.mtrCarryI p, d.get (H.mtrCarryI p) - ci),
    (H.mtrCarryE p, d.get (H.mtrCarryE p) - ce), (H.mtrImp0 p, d.impBefore p), (H.mtrExp0 p, d.expBefore p),
    (H.mtrFlBefore p, fl), (F.MTR_STAT_FLAGS p, fl ||| last), (H.mtrShort p, 0), (T.mtrFull p, 0)]) p

/-- Two segments merged (R388): energies up to 2^36 − 1, the rest into the carry. -/
def mergeSeg (a b : Seg) : Seg :=
  let ovr := decide (a.imp + b.imp > 2 ^ 36 - 1) || decide (a.exp + b.exp > 2 ^ 36 - 1)
  let fl := (a.flags ||| b.flags) ||| 32 ||| (if ovr then 128 else 0)
  { a with
    e1 := b.e1, t1 := b.t1, tick := b.tick
    imp := min (a.imp + b.imp) (2 ^ 36 - 1)
    exp := min (a.exp + b.exp) (2 ^ 36 - 1)
    sum := if a.sum = b.sum then a.sum else 0
    flags := withRv fl
    reason := min a.reason b.reason }

/-- The newest segment replaced. -/
def replaceLast (l : List Seg) (g : Seg) : List Seg := l.dropLast ++ [g]

/-- Word 0 of a segment message (R387). -/
def Seg.word0 (g : Seg) (p : Nat) : Nat :=
  8 * 2 ^ 32 + p * 2 ^ 24 + g.serial % 4096 * 2 ^ 12 + g.reason * 2 ^ 8 + g.flags % 256

/-- A closed segment enters the queue, or is merged into the newest unposted one while 8 are queued (R388). -/
def Dev.segQueue (d : Dev) (p : Nat) (g : Seg) : Dev :=
  let q := d.segs p
  match q.getLast? with
  | some l =>
    if q.length ≥ 8 ∧ !l.posted then
      ((d.setSegs p (replaceLast q (mergeSeg l g))).puts
        [(H.mtrCarryI p, d.get (H.mtrCarryI p) + (l.imp + g.imp - (2 ^ 36 - 1))),
         (H.mtrCarryE p, d.get (H.mtrCarryE p) + (l.exp + g.exp - (2 ^ 36 - 1)))]).mtrEvt p (F.MTR_EVT_MERGE p)
    else (d.setSegs p (q ++ [g])).inc (F.MTR_STAT_SER p)
  | none => (d.setSegs p [g]).inc (F.MTR_STAT_SER p)

/-- No segment stands open at port p. -/
def Dev.segNone (d : Dev) (p : Nat) : Dev :=
  d.puts [(F.MTR_STAT_OPEN p, 0), (F.MTR_STAT_FLAGS p, 0), (H.mtrSegE0 p, 0), (H.mtrSegT0 p, 0), (T.mtrFull p, 0)]

/-- The segment that port p has closed on this tick, while no other has opened and lasted since. -/
def Dev.segJust (d : Dev) (p : Nat) : Option Seg :=
  match (d.segs p).getLast? with
  | some l =>
    if l.tick = d.now ∧ (!d.bit (F.MTR_STAT_OPEN p) ∨ d.get (H.mtrSegTick p) = d.now + 1) then some l else none
  | none => none

/-- A second cause on the tick of a close: the segment just closed takes the lower reason and both flags, and the one that
opened there opens anew, or not at all where this cause opens none (R382, R383). -/
def Dev.segJoin (d : Dev) (p reason dit : Nat) (reopen : Bool) (l : Seg) : Dev :=
  let g := { l with reason := min l.reason reason, flags := withRv (l.flags ||| dit), e1 := d.epoch, t1 := d.tb }
  let d := (d.setSegs p (replaceLast (d.segs p) g)).put (F.MTR_LSEGW0_WORD0 p) (g.word0 p)
  if d.bit (F.MTR_STAT_OPEN p) then
    let d := d.puts [(H.mtrCarryI p, d.get (H.mtrCarryI p) + d.get (H.mtrSegCI p)),
      (H.mtrCarryE p, d.get (H.mtrCarryE p) + d.get (H.mtrSegCE p))]
    if reopen then d.segOpen p else d.segNone p
  else d

/-- The open segment ends now and is queued. -/
def Dev.segEnd (d : Dev) (p reason dit : Nat) : Dev :=
  let fl := (if d.sampleNow p then d.get (H.mtrFlBefore p) else d.get (F.MTR_STAT_FLAGS p)) ||| dit
  let g : Seg := ⟨d.get (F.MTR_STAT_SER p), reason, withRv fl, d.get (H.mtrSegE0 p), d.get (H.mtrSegT0 p), d.epoch,
    d.tb, d.now, d.impBefore p - d.get (H.mtrImp0 p) + d.get (H.mtrSegCI p),
    d.expBefore p - d.get (H.mtrExp0 p) + d.get (H.mtrSegCE p), d.get (H.mtrSum p), false,
    !d.bit (H.mtrSegIdV p), d.get (H.mtrSegId p), d.get (F.MTR_STAT_CALSRC p)⟩
  let d := (d.segQueue p g).puts [(F.MTR_LSEGW0_WORD0 p, g.word0 p), (H.mtrLI p, g.imp), (H.mtrLE p, g.exp)]
  (d.segNone p).mtrEvt p (F.MTR_EVT_CLOSED p)

/-- The open segment of port p ends now for a reason, and a new one opens where `reopen` (R382, R383). Causes that fall on one
tick close it once. -/
def Dev.segClose (d : Dev) (p reason : Nat) (reopen : Bool) : Dev :=
  let dit := if reason = 1 then 8 else 0
  match d.segJust p with
  | some l => (d.segJoin p reason dit reopen l).when (reason == 1) (·.mtrEvt p (F.MTR_EVT_DIT p))
  | none =>
    if !d.bit (F.MTR_STAT_OPEN p) then d
    else
      let d := d.segEnd p reason dit
      (d.when reopen (·.segOpen p)).when (reason == 1) (·.mtrEvt p (F.MTR_EVT_DIT p))

/-- Every meter closes its open segment. -/
def Dev.segCloseAll (d : Dev) (reason : Nat) (reopen : Bool) : Dev :=
  Dev.forN 24 (fun p e => e.segClose p reason reopen) d

/-- A write of 1 to MTRnn_CTRL.CLOSE (R383, R396). -/
def execMtrClose (p : Fin 24) (s : State) : Host.Outcome State Fault Refusal := s.ok (·.segClose p.val 11 true)

/-- The full segment closes 4000 ticks after the sample that filled it (R385). -/
def Dev.segFullEnd (d : Dev) (p : Nat) : Dev :=
  if d.armed (T.mtrFull p) then (d.stop (T.mtrFull p)).segClose p 10 true else d

def execSegmentFull (p : Fin 24) (s : State) : Host.Outcome State Fault Refusal := s.ok (·.segFullEnd p.val)

/-! ### Posting -/

/-- The eight words of a segment message (R387). -/
def Seg.words (g : Seg) (p : Nat) : List Word :=
  [g.word0 p, g.e0, g.t0, g.e1, g.t1, g.imp, g.exp, g.sum].map (BitVec.ofNat 36)

/-- The first segment not posted marked posted. -/
def markPosted : List Seg → List Seg
  | [] => []
  | g :: l => if g.posted then g :: markPosted l else { g with posted := true } :: l

/-- Segments posted and not acknowledged. -/
def postedCount (l : List Seg) : Nat := (l.filter (·.posted)).length

/-- The next segment is posted on SEGCH, 400 ticks after its close at the earliest, once at most 3 others stand posted and the channel has credit; a channel whose
DST is not 9 has none and sets REFUSED (R388, R468). -/
def Dev.segPost (d : Dev) (p : Nat) : Dev :=
  let c := d.get F.MTR_CFG_SEGCH
  match (d.segs p).find? (fun g => !g.posted) with
  | none => d
  | some g =>
    if postedCount (d.segs p) ≥ 4 ∨ d.now < g.tick + 400 then d
    else if d.get (H.chDst c) ≠ 9 then d.hwSet (H.chRefused c)
    else if d.hwCredit c = 0 then d
    else (d.setSegs p (markPosted (d.segs p))).hwEnqueue c (g.words p)

def execSegmentPost (p : Fin 24) (s : State) : Host.Outcome State Fault Refusal := s.ok (·.segPost p.val)

/-- The Ledger engine acknowledges a segment: it leaves the queue (R388). -/
def Dev.segAck (d : Dev) (p serial : Nat) : Dev :=
  d.setSegs p ((d.segs p).filter (fun g => !(g.posted && g.serial == serial)))

/-- After an L1 reset every segment posted and not acknowledged is posted again (R389). -/
def Dev.segRepost (d : Dev) : Dev :=
  Dev.forN 24 (fun p e => e.setSegs p ((e.segs p).map (fun g => { g with posted := false }))) d

/-! ### Samples -/

/-- Quotient rounded toward zero by 2^20. -/
def tdiv20 (x : Int) : Int := Int.tdiv x 1048576
/-- Floor of the quotient by 2^20. -/
def fdiv20 (x : Int) : Int := Int.fdiv x 1048576

/-- The raw code of an input, saturated at 24 bits (R373). -/
def sat24 (x : Int) : Int := max (-8388608) (min 8388607 x)

/-- mJ counted per this many (µV × µA) samples (R378). -/
def mjUnit : Nat := 16000000000000

/-- CREEP as it acts on a sample stamped now: a write applies from the first sample stamped after it (R381). -/
def Dev.creep (d : Dev) (p : Nat) : Nat :=
  if d.get (H.mtrCreepAt p) = d.now + 1 then d.get (H.mtrCreepOld p) else d.get (F.MTR_CTRL_CREEP p)

/-- One sample of the running meter of port p enters its means and, once settled, its accumulators (R374-R381). -/
def Dev.meterSample (d : Dev) (p : Nat) (vraw0 iraw0 : Int) : Dev :=
  if !d.bit (H.mtrRun p) then d
  else
    let vraw := sat24 vraw0
    let iraw := sat24 iraw0
    let vuv := fdiv20 ((vraw - sgn 24 (d.get (F.MTR_CALVO_VO p))) * (d.get (F.MTR_CALVG_VG p) : Nat))
    let iua := tdiv20 ((iraw - sgn 24 (d.get (F.MTR_CALIO_IO p))) * (d.get (F.MTR_CALIG_IG p) : Nat))
    let v := vuv.toNat
    let i := if iua.natAbs < d.creep p * 10000 then 0 else iua
    let win : MSample := ⟨d.now, vraw, iraw, vuv, iua, (v : Int) * i⟩
    let d := { d with mwin := tput [] d.mwin p ((win :: tget [] d.mwin p).take 16001) }
    let ovr := decide (vraw > 7789421) || decide (iraw.natAbs > 7864320)
    let d := if ovr then d.mtrEvt p (F.MTR_EVT_OVRANGE p) else d
    if !d.bit (F.MTR_STAT_OPEN p) then d
    else
      let fl := (if ovr then 16 else 0) ||| (if d.calOk p then 0 else 64)
      let rI := d.get (H.mtrImpR p) + (if i < 0 then v * i.natAbs else 0)
      let rE := d.get (H.mtrExpR p) + (if i > 0 then v * i.natAbs else 0)
      let nI := rI / mjUnit
      let nE := rE / mjUnit
      (d.puts [(H.mtrFlBefore p, d.get (F.MTR_STAT_FLAGS p)), (H.mtrLastFl p, fl),
        (F.MTR_STAT_FLAGS p, d.get (F.MTR_STAT_FLAGS p) ||| fl), (H.mtrImpR p, rI - nI * mjUnit),
        (H.mtrExpR p, rE - nE * mjUnit), (H.mtrImp p, d.get (H.mtrImp p) + nI), (H.mtrExp p, d.get (H.mtrExp p) + nE),
        (H.mtrLastImp p, nI), (H.mtrLastExp p, nE), (H.mtrLastTick p, d.now + 1)]).segFullCheck p

def execMeterSample (p : Fin 24) (vraw iraw : Int) (s : State) : Host.Outcome State Fault Refusal :=
  s.ok (·.meterSample p.val vraw iraw)

/-! ### Reads (R379-R381) -/

/-- The last sample has not yet been added at now (R379). -/
def Dev.samplePending (d : Dev) (p : Nat) : Bool :=
  d.bit (H.mtrLastTick p) && decide (d.now + 1 < d.get (H.mtrLastTick p) + 400)

/-- The accumulators as a read now returns them. -/
def Dev.impNow (d : Dev) (p : Nat) : Nat :=
  d.get (H.mtrImp p) - (if d.samplePending p then d.get (H.mtrLastImp p) else 0)
def Dev.expNow (d : Dev) (p : Nat) : Nat :=
  d.get (H.mtrExp p) - (if d.samplePending p then d.get (H.mtrLastExp p) else 0)

/-- The samples that have entered the means: stamped 400 ticks ago or earlier, and after the last change of RAW. -/
def Dev.window (d : Dev) (p : Nat) : List MSample :=
  ((tget [] d.mwin p).filter (fun m =>
    decide (m.tick + 400 ≤ d.now) && decide (m.tick + 1 > d.get (H.mtrRawTick p)))).take 16000

/-- Mean of integers, 0 of none. The spec gives no rounding: toward zero is the model's choice, DESIGN CHOICE, log 134. -/
def meanInt (l : List Int) : Int := if l.isEmpty then 0 else Int.tdiv l.sum l.length

/-- MTRnn_V, MTRnn_I, MTRnn_P. -/
def Dev.readMtrV (d : Dev) (p : Nat) : Nat :=
  if d.bit (F.MTR_CTRL_RAW p) then unsgn 32 (meanInt ((d.window p).map (fun m => m.vraw * 256)))
  else unsgn 32 (meanInt (((d.window p).take 16).map (·.vuv)))
def Dev.readMtrI (d : Dev) (p : Nat) : Nat :=
  if d.bit (F.MTR_CTRL_RAW p) then unsgn 32 (meanInt ((d.window p).map (fun m => m.iraw * 256)))
  else unsgn 32 (meanInt (((d.window p).take 16).map (·.iua)))
def Dev.readMtrP (d : Dev) (p : Nat) : Nat :=
  if d.bit (F.MTR_CTRL_RAW p) then 0
  else unsgn 32 (Int.tdiv (meanInt ((d.window p).map (·.pw))) 1000000000)

/-- MTRnn_STAT, with the queue's counts, CALOK and RV as they stand. -/
def Dev.readMtrStat (d : Dev) (p : Nat) : Nat :=
  d.get (F.MTR_STAT_SER p) * 2 ^ 24 + (d.segs p).length * 2 ^ 20 + postedCount (d.segs p) * 2 ^ 17 +
    d.get (F.MTR_STAT_SETTLED p) * 2 ^ 16 + d.get (F.MTR_STAT_OPEN p) * 2 ^ 15 + b2n (d.calOk p) * 2 ^ 14 +
    d.get (F.MTR_STAT_CALSRC p) * 2 ^ 13 +
    (if d.bit (F.MTR_STAT_OPEN p) then withRv (d.get (F.MTR_STAT_FLAGS p)) else 0)

/-- MTR_SETTLED mirrors the SETTLED bits. -/
def Dev.readSettled (d : Dev) : Nat :=
  ((List.range 24).map (fun p => d.get (F.MTR_STAT_SETTLED p) * 2 ^ p)).sum

/-- A read of MTRnn_IMPL, or of MTRnn_EXPL, latches the high word for the reader (R380). -/
def Dev.accRead (d : Dev) (a : Agent) (p : Nat) (exp : Bool) : Nat × Dev :=
  if exp then (d.expNow p % 2 ^ 36, d.put (F.MTR_EXPH_HIGH p a.copy) (d.expNow p / 2 ^ 36))
  else (d.impNow p % 2 ^ 36, d.put (F.MTR_IMPH_HIGH p a.copy) (d.impNow p / 2 ^ 36))

/-- A read of MTRnn_SEGSTT latches the start epoch. -/
def Dev.segsttRead (d : Dev) (a : Agent) (p : Nat) : Nat × Dev :=
  (d.get (H.mtrSegT0 p), d.put (F.MTR_SEGSTE_START p a.copy) (d.get (H.mtrSegE0 p)))

/-- A read of MTRnn_LSEGW0 latches the energies. -/
def Dev.lsegRead (d : Dev) (a : Agent) (p : Nat) : Nat × Dev :=
  (d.get (F.MTR_LSEGW0_WORD0 p),
   (d.put (F.MTR_LSEGI_ENERGY p a.copy) (d.get (H.mtrLI p))).put (F.MTR_LSEGE_ENERGY p a.copy) (d.get (H.mtrLE p)))

/-- The word a read returned stands at its agent's interface. -/
def Dev.returned (r : Nat × Dev) (a : Agent) : Dev := r.2.put (H.rdata a.copy) r.1

def execMtrAccRead (a : Agent) (p : Fin 24) (exp : Bool) (s : State) : Host.Outcome State Fault Refusal :=
  s.okBy a (fun d => Dev.returned (d.accRead a p.val exp) a)

def execMtrSegsttRead (a : Agent) (p : Fin 24) (s : State) : Host.Outcome State Fault Refusal :=
  s.okBy a (fun d => Dev.returned (d.segsttRead a p.val) a)

def execMtrLsegw0Read (a : Agent) (p : Fin 24) (s : State) : Host.Outcome State Fault Refusal :=
  s.okBy a (fun d => Dev.returned (d.lsegRead a p.val) a)

/-! ### Calibration (R376, R377) -/

/-- The calibration fields of port p: CALVG, CALVO, CALIG, CALIO. -/
def calFld (p k : Nat) : Fld :=
  if k = 0 then F.MTR_CALVG_VG p else if k = 1 then F.MTR_CALVO_VO p else if k = 2 then F.MTR_CALIG_IG p
  else F.MTR_CALIO_IO p

/-- A calibration change closes the open segment and sets CALCHG (R377). -/
def Dev.calChange (d : Dev) (p : Nat) : Dev := (d.segClose p 5 true).mtrEvt p (F.MTR_EVT_CALCHG p)

/-- A write to a CAL register, stored until the RWL lock; the boot ROM loader's write makes the image entry the source
(R376). -/
def Dev.calWrite (d : Dev) (a : Agent) (p k v : Nat) : Dev :=
  if d.bit H.rwlLock then d
  else
    let f := calFld p k
    let old := d.get f
    let d := (d.put f v).when (d.isRom a) (·.set1 (F.MTR_STAT_CALSRC p))
    if d.get f = old then d else d.calChange p

def execMtrCalWrite (a : Agent) (p : Fin 24) (k : Fin 4) (v : Word) (s : State) : Host.Outcome State Fault Refusal :=
  s.okBy a (·.calWrite a p.val k.val v.toNat)

/-- The meter hardware writes a valid record's constants, unless the image entry holds for the record's board serial
(R376). -/
def Dev.calFromRecord (d : Dev) (p serial vg vo ig io : Nat) : Dev :=
  if d.bit (F.MTR_STAT_CALSRC p) && d.get (H.mtrCalSer p) == serial then d
  else
    let d := if d.bit (F.MTR_STAT_CALSRC p) then (d.clr (F.MTR_STAT_CALSRC p)).mtrEvt p (F.MTR_EVT_CALBAD p) else d
    let old := [0, 1, 2, 3].map (fun k => d.get (calFld p k))
    let d := d.puts [(calFld p 0, vg), (calFld p 1, vo), (calFld p 2, ig), (calFld p 3, io)]
    if [0, 1, 2, 3].map (fun k => d.get (calFld p k)) = old then d else d.calChange p

/-! ### Starting and stopping (R390-R392) -/

/-- The settle time that SETTLE gives, in ms. -/
def settleMs (code : Nat) : Nat := if code = 0 then 1000 else if code = 1 then 500 else if code = 2 then 250 else 100

/-- The settle time in force: SETTLE acts only during a start into Kindling (R27). -/
def Dev.settleNow (d : Dev) : Nat :=
  if d.bit H.kindleStart then settleMs (d.get F.SYS_MODE_KNOBS_SETTLE) else 1000

/-- The meter of port p starts, and settles. -/
def Dev.meterStart (d : Dev) (p : Nat) : Dev :=
  ((d.puts [(H.mtrRun p, 1), (F.MTR_STAT_SETTLED p, 0), (H.mtrSettle0 p, d.now)]).arm (T.mtrSettle p)
    (msTicks d.settleNow))

/-- The settle ends: SETTLED, and the first segment opens, SETTLING in it after a short settle (R390). -/
def Dev.meterSettled (d : Dev) (p : Nat) : Dev :=
  if d.armed (T.mtrSettle p) then
    let short := decide (d.now < d.get (H.mtrSettle0 p) + msTicks 1000)
    let d := (d.stop (T.mtrSettle p)).puts [(F.MTR_STAT_SETTLED p, 1), (H.mtrShort p, b2n short)]
    (d.mtrEvt p (F.MTR_EVT_SETTLED p)).segOpen p
  else d

def execMeterSettleEnd (p : Fin 24) (s : State) : Host.Outcome State Fault Refusal := s.ok (·.meterSettled p.val)

/-- A change of SETTLE during the settle applies to it (R39). -/
def Dev.settleChanged (d : Dev) : Dev :=
  Dev.forN 24 (fun p e =>
    if e.armed (T.mtrSettle p) then
      e.put (T.mtrSettle p) (max (e.now + 1) (e.get (H.mtrSettle0 p) + msTicks e.settleNow + 1))
    else e) d

/-- Every meter stops, its queue and accumulators kept (R391, R392). -/
def Dev.meterStopAll (d : Dev) : Dev := Dev.forN 24 (fun p e => e.clr (H.mtrRun p)) d

/-- On a wake every meter that had settled opens a new segment at once; one still settling goes on (R391). -/
def Dev.meterWakeAll (d : Dev) : Dev :=
  Dev.forN 24 (fun p e =>
    let e := e.set1 (H.mtrRun p)
    if e.bit (F.MTR_STAT_SETTLED p) && !e.bit (F.MTR_STAT_OPEN p) then e.segOpen p else e) d

/-- A write of MTR_IVAL (R396). -/
def Dev.ivalWrite (d : Dev) (v : Nat) : Dev :=
  if 1 ≤ bits v 0 6 ∧ bits v 0 6 ≤ 60 then d.put F.MTR_IVAL_IVAL (bits v 0 6) else d

/-- A write of MTRnn_CTRL: CREEP, RAW and CLOSE (R381, R396). -/
def Dev.mtrCtrlWrite (d : Dev) (p v : Nat) : Dev :=
  let changed := d.get (F.MTR_CTRL_RAW p) ≠ bits v 2 1
  let d := d.puts [(H.mtrCreepOld p, d.creep p), (H.mtrCreepAt p, d.now + 1), (F.MTR_CTRL_CREEP p, bits v 8 8), (F.MTR_CTRL_RAW p, bits v 2 1)]
  let d := if changed then d.put (H.mtrRawTick p) (d.now + 1) else d
  if v.testBit 1 then d.segClose p 11 true else d

end Sys2Proof.Machine
end

