-- ==== Sys2Proof/Machine/Ledger.lean ====
section
/-!
DEFINITION. Sys2Proof/Machine/Ledger.lean: records, blocks and their signatures, the Store controller (R397-R426).
-/
namespace Sys2Proof.Machine

/-! ### Slots -/

/-- A slot from its bytes 0-59: the commit word is their CRC-32 (R398). -/
def slotOf (body : List Nat) : List Nat := body ++ beBytes 4 (crc32 body)

/-- A slot is committed: TYPE not 0xFF and the commit word matches (R398). -/
def slotCommitted (s : List Nat) : Bool :=
  s.length == 64 && s.headD 255 != 255 && beNat (s.drop 60) == crc32 (s.take 60)

/-- A stamp of nine bytes: TBEPOCH then TB (R400). -/
def stampBytes (e t : Nat) : List Nat := beBytes 9 (e * 2 ^ 36 + t)

def Dev.tamper (d : Dev) : Nat := d.get F.SYS_BAK_STAT_TAMPER

/-- A slot is staged (R422): the commit limit runs from the oldest. -/
def Dev.stageSlot (d : Dev) (b : List Nat) : Dev :=
  let d := { d.set1 H.stgLed with staged := d.staged ++ [⟨d.now, b⟩] }
  if d.armed T.commit then d else d.arm T.commit (d.get F.LGR_CTRL_CMTDL * 64000000)

/-- The slots staged and not yet committed (R423). -/
def Dev.stagedCount (d : Dev) : Nat := d.staged.length + (if d.get H.progOn = 5 then d.prog.length else 0)

/-- The header slot of the block that opens now (R405). -/
def Dev.headerBody (d : Dev) : List Nat :=
  [0x80, 1] ++ beBytes 4 (d.get F.LGR_BSEQ_BSEQ) ++ devId ++ stampBytes d.epoch d.tb ++
    [d.tamper + 2 * d.get F.SYS_BAK_STAT_BAKLOST + (if d.get F.LGR_BSEQ_BSEQ = 0 then 4 else 0) +
      8 * d.get H.lgrFirst] ++ beBytes 32 (d.get H.lgrChain) ++ beBytes 3 (d.get F.RST_CNT_COUNT) ++ [0]

/-- A block opens (R404, R406). -/
def Dev.blockOpen (d : Dev) : Dev :=
  if d.bit F.LGR_STAT_OPEN then d
  else
    let body := d.headerBody
    let h := beNat (sha256 (beBytes 32 (d.get H.lgrChain) ++ body))
    (((d.stageSlot (slotOf body)).puts [(H.lgrChain, h), (F.LGR_STAT_OPEN, 1), (F.LGR_STAT_NREC, 0),
      (H.lgrOpenE, d.epoch), (H.lgrOpenT, d.tb), (H.lgrFirst, 0)])).arm T.blkAge
        (d.get F.LGR_CTRL_BLKTO * 60 * 64000000)

/-- Trailer A, bytes 0-59 (R405). -/
def Dev.trailerA (d : Dev) (cause : Nat) (recovered : Bool) : List Nat :=
  [0x81, 1] ++ beBytes 4 (d.get F.LGR_BSEQ_BSEQ) ++ beBytes 2 (d.get F.LGR_STAT_NREC) ++ stampBytes d.epoch d.tb ++
    [d.tamper + (if recovered then 2 else 0) + cause * 16] ++ beBytes 32 (d.get H.lgrChain) ++ devId ++ [0, 0]

/-! ### Store geometry (R412, R413, R415) -/

/-- Size of a partition in MiB. -/
def Dev.partMiB (d : Dev) (part : Nat) : Nat :=
  if part = 0 then 4 else if part = 1 then 64 else if part = 2 then 64 else if part = 3 then 16
  else if part = 4 then 256 else if part = 5 then d.get F.STO_STAT_CAP * 128 - 404 else 0

/-- Physical erase blocks of a partition: 64 pages each. -/
def Dev.physBlocks (d : Dev) (part : Nat) : Nat :=
  if d.get F.STO_GEOM_PAGE = 0 then 0 else d.partMiB part * 1048576 / (64 * d.get F.STO_GEOM_PAGE)

/-- Spares kept: 2 %, and at least 4. -/
def Dev.spareBlocks (d : Dev) (part : Nat) : Nat := max 4 (cdiv (d.physBlocks part * 2) 100)

/-- Pages a partition offers. -/
def Dev.partPages (d : Dev) (part : Nat) : Nat := (d.physBlocks part - d.spareBlocks part) * 64

/-- Key of a page of a partition, and of a physical or logical erase block. -/
def pageKey (part page : Nat) : Nat := part * 67108864 + page
def blkKey (part b : Nat) : Nat := part * 1048576 + b

/-- A page as the Store holds it; erased where nothing has programmed it. -/
def Dev.page (d : Dev) (part i : Nat) : List Nat := tget [] d.nand (pageKey part i)
def Dev.setPage (d : Dev) (part i : Nat) (b : List Nat) : Dev :=
  { d with nand := tput [] d.nand (pageKey part i) b }

/-- The first erase block of a partition within the Store: the partitions follow one another (R413). -/
def Dev.partBase (d : Dev) (part : Nat) : Nat := ((List.range part).map d.physBlocks).sum

/-- The physical block behind a logical one. -/
def Dev.physOf (d : Dev) (part b : Nat) : Nat := tget b d.bmap (blkKey part b)

/-- A physical block is free: not retired, and behind no logical block. -/
def Dev.physFree (d : Dev) (part x : Nat) : Bool :=
  !d.retired.contains (blkKey part x) &&
  !(decide (x < d.physBlocks part - d.spareBlocks part) && tget x d.bmap (blkKey part x) == x) &&
  !d.bmap.any (fun e => e.1 / 1048576 == part && e.2 == x)

/-- The free block with the lowest erase count (R416). -/
def Dev.lowestFree (d : Dev) (part : Nat) : Option Nat :=
  ((List.range (d.physBlocks part)).filter (d.physFree part)).foldl (fun a x =>
    match a with
    | none => some x
    | some y => if tget 0 d.erases (blkKey part x) < tget 0 d.erases (blkKey part y) then some x else some y) none

/-- A logical block is moved onto the free block with the lowest erase count (R415, R416). -/
def Dev.remap (d : Dev) (part b : Nat) : Dev :=
  match d.lowestFree part with
  | none => d
  | some x => { d with bmap := tput b d.bmap (blkKey part b) x }

/-- A block is retired (R415): counted, remapped with its committed pages onto a spare, SPARELOW under a quarter left,
and a LOG entry of type 4 with the STO_EVT bits and the physical block. -/
def Dev.retire (d : Dev) (part b : Nat) (evt : Fld) : Dev :=
  let x := d.physOf part b
  let d := { d with retired := d.retired ++ [blkKey part x] }
  let d := ((d.remap part b).inc F.STO_BADCNT_BAD).inc (H.spUsed part)
  let d := d.stoEvt evt
  let d := if 4 * (d.spareBlocks part - d.get (H.spUsed part)) < d.spareBlocks part then d.stoEvt F.STO_EVT_SPARELOW
    else d
  let bits7 := d.get F.STO_EVT_PGMFAIL + 2 * d.get F.STO_EVT_ERSFAIL + 4 * d.get F.STO_EVT_ECCFAIL +
    8 * d.get F.STO_EVT_ECCHI + 16 * d.get F.STO_EVT_SPARELOW + 32 * d.get F.STO_EVT_LOGDROP + 64 * d.get F.STO_EVT_RDDONE
  d.logAppend 4 0xF0 (bits7 :: beBytes 4 (d.partBase part + x))

/-- Pages of a logical block erased. -/
def Dev.erasePages (d : Dev) (part b : Nat) : Dev :=
  { d with nand := d.nand.filter (fun e => !(decide (pageKey part (64 * b) ≤ e.1) && decide (e.1 < pageKey part (64 * b + 64)))) }

/-- A logical block erased; outside LEDGER onto the free block of lowest erase count (R416). -/
def Dev.eraseBlock (d : Dev) (part b : Nat) : Dev :=
  let d := d.erasePages part b
  let d := if part = 5 then d else
    match d.lowestFree part with
    | none => d
    | some x =>
      if tget 0 d.erases (blkKey part x) < tget 0 d.erases (blkKey part (d.physOf part b)) then
        { d with bmap := tput b d.bmap (blkKey part b) x } else d
  let x := d.physOf part b
  { d with erases := tput 0 d.erases (blkKey part x) (tget 0 d.erases (blkKey part x) + 1) }

/-! ### Free space (R423) -/

/-- LEDGER pages listed as programmed. -/
def Dev.ledgerUsed (d : Dev) : Nat := (d.nand.filter (fun e => e.1 / 67108864 == 5)).length

/-- LGR_FREE, FULL and LOWSPACE follow the programmed pages (R423). -/
def Dev.spaceUpdate (d : Dev) : Dev :=
  let cap := d.partPages 5
  let free := cap - d.ledgerUsed
  let full := !(d.page 5 (d.get F.LGR_HEAD_PAGES)).isEmpty || decide (free = 0)
  let low := decide (100 * free < d.get F.LGR_CTRL_LOWWAT * 5 * cap)
  let wasF := d.bit F.LGR_STAT_FULL
  let wasL := d.bit F.LGR_STAT_LOWSPACE
  let d := d.puts [(F.LGR_FREE_PAGES, free), (F.LGR_STAT_FULL, b2n full), (F.LGR_STAT_LOWSPACE, b2n low)]
  let d := if full && !wasF then d.lgrEvt F.LGR_EVT_FULL else d
  if low && !wasL then d.lgrEvt F.LGR_EVT_LOWSPACE else d

/-! ### Page programs (R417) -/

/-- Slots and log entries in one page. -/
def Dev.slotsPerPage (d : Dev) : Nat := d.get F.STO_GEOM_PAGE / 64
def Dev.logsPerPage (d : Dev) : Nat := d.get F.STO_GEOM_PAGE / 32

/-- The committable slots at the front of staging: those before the first signature slot not yet filled. -/
def readySlots : List Slot → List Slot
  | [] => []
  | s :: l => if s.bytes.isEmpty then [] else s :: readySlots l

/-- The 32 bytes of a LOG entry (R419). -/
def LogEntry.bytes (e : LogEntry) : List Nat :=
  let b := [e.typ, e.source] ++ stampBytes e.epoch e.tb ++ [0] ++ e.data
  b ++ beBytes 4 (crc32 b)

/-- The next page program starts, where a page is full or a commit is due (R417, R422), unless the engine idles (R422, R425). -/
def Dev.pump (d : Dev) : Dev :=
  if d.get H.progOn ≠ 0 ∨ !d.bit F.STO_STAT_READY ∨ d.bit H.lgrIdle then d
  else
    let rs := readySlots d.staged
    let spp := d.slotsPerPage
    if !rs.isEmpty && (decide (spp ≤ rs.length) || d.bit H.cmtWant) && !d.bit F.LGR_STAT_FULL then
      let n := min spp rs.length
      ({ d with prog := (rs.take n).map Slot.bytes, staged := d.staged.drop n }).puts [(H.stgPage, 1), (H.progOn, 5),
        (H.progPage, d.get F.LGR_HEAD_PAGES), (H.cmtWant, d.get H.cmtWant - n), (F.STO_STAT_BUSY, 1)]
    else if !d.logs.isEmpty && (decide (d.logsPerPage ≤ d.logs.length) || d.bit H.logWant) then
      let n := min d.logsPerPage d.logs.length
      let h := d.get H.logHead
      let d := if (d.page 4 h).isEmpty then d else d.eraseBlock 4 (h / 64)
      ({ d with prog := (d.logs.take n).map LogEntry.bytes, logs := d.logs.drop n }).puts [(H.stgPage, 1), (H.progOn, 4), (H.progPage, h),
        (F.STO_STAT_BUSY, 1), (H.logWant, if d.logs.length > n then d.get H.logWant else 0)]
    else d

/-- A page program may start. -/
def Dev.storeDue (d : Dev) : Bool :=
  d.get H.progOn == 0 && d.bit F.STO_STAT_READY && !d.bit H.lgrIdle &&
    ((!d.staged.isEmpty && (decide (d.slotsPerPage ≤ d.staged.length) || d.bit H.cmtWant)) ||
      (!d.logs.isEmpty && (decide (d.logsPerPage ≤ d.logs.length) || d.bit H.logWant)))

/-- Trailers of a closed block are not yet committed. -/
def Dev.signing (d : Dev) : Bool :=
  !d.sigq.isEmpty || d.staged.any (fun s => s.bytes.isEmpty || s.bytes.headD 0 == 0x82 || s.bytes.headD 0 == 0x83)

/-- The commit limit runs from the oldest slot still staged. -/
def Dev.rearmCommit (d : Dev) : Dev :=
  match d.staged with
  | [] => d.stop T.commit
  | s :: _ => d.put T.commit (max (d.now + 1) (s.tick + d.get F.LGR_CTRL_CMTDL * 64000000 + 1))

/-- The page program ends well: the page holds its slots, and the next page follows. The trailers of a block that it commits set
BLOCK. -/
def Dev.progEnd (d : Dev) : Dev :=
  let part := d.get H.progOn
  let i := d.get H.progPage
  let bytes := d.prog.flatMap id
  let blocks := (d.prog.filter (fun s => s.headD 0 == 0x83)).length
  let d := (({ d with prog := [] }).setPage part i bytes).puts [(H.progOn, 0), (F.STO_STAT_BUSY, 0)]
  if part = 5 then
    let d := ((d.put F.LGR_HEAD_PAGES (if i + 1 < d.partPages 5 then i + 1 else 0)).spaceUpdate).rearmCommit
    Dev.forN blocks (fun _ e => e.lgrEvt F.LGR_EVT_BLOCK) (d.put F.LGR_STAT_SIGNING (b2n d.signing))
  else d.put H.logHead (if i + 1 < d.partPages 4 then i + 1 else 0)

/-- A page program ends (R415, R417): a failure retires the block and repeats the program in a spare. -/
def Dev.progDone (d : Dev) (ok : Bool) : Dev :=
  if d.get H.progOn = 0 then d
  else if ok then d.progEnd.pump
  else d.retire (d.get H.progOn) (d.get H.progPage / 64) F.STO_EVT_PGMFAIL

def execPageProgramDone (ok : Bool) (s : State) : Host.Outcome State Fault Refusal := s.ok (·.progDone ok)

/-- The commit limit of the oldest staged slot passes: everything staged is committed (R422). -/
def Dev.commitDue (d : Dev) : Dev :=
  if d.armed T.commit then
    (((d.stop T.commit).put H.cmtWant (readySlots d.staged).length).set1 H.logWant).pump
  else d

def execCommitDeadline (s : State) : Host.Outcome State Fault Refusal := s.ok (·.commitDue)

/-! ### Closing a block (R407, R408) -/

/-- The block closes: trailer A is staged with two slots for the signature, and signing starts. Trailers B and C are committed
within 20 ms (R408): the signature takes 15 ms of it, and the rest is left to the page program (DESIGN CHOICE, log entry 135). -/
def Dev.blockClose (d : Dev) (cause : Nat) (recovered : Bool) : Dev :=
  if !d.bit F.LGR_STAT_OPEN then d
  else
    let a := d.trailerA cause recovered
    let d := ((d.stageSlot (slotOf a)).stageSlot []).stageSlot []
    let d := { d with sigq := d.sigq ++ [a] }
    let d := (d.puts [(F.LGR_STAT_OPEN, 0), (F.LGR_STAT_NREC, 0), (F.LGR_BSEQ_BSEQ, d.get F.LGR_BSEQ_BSEQ + 1),
      (F.LGR_STAT_SIGNING, 1), (H.cmtWant, (readySlots d.staged).length)]).stop T.blkAge
    (if d.armed T.sign then d else d.arm T.sign (msTicks 15)).pump

/-- The two empty signature slots at the front of staging are filled. -/
def fillSig (b c : List Nat) : List Slot → List Slot
  | [] => []
  | s :: l =>
    if s.bytes.isEmpty then
      match l with
      | [] => [{ s with bytes := b }]
      | t :: r => { s with bytes := b } :: { t with bytes := c } :: r
    else s :: fillSig b c l

/-- The signature of the oldest closed block is done: trailers B and C go to a page (R408). -/
def Dev.blockSign (d : Dev) : Dev :=
  match d.sigq with
  | [] => d.stop T.sign
  | a :: rest =>
    let sg := ecdsaSign Config.devKey a
    let seq := (a.drop 2).take 4
    let b := slotOf ([0x82, 0] ++ seq ++ beBytes 32 sg.1 ++ List.replicate 22 0)
    let c := slotOf ([0x83, 0] ++ seq ++ beBytes 32 sg.2 ++ List.replicate 22 0)
    let d := { d with sigq := rest, staged := fillSig b c d.staged }
    let d := d.put H.cmtWant (readySlots d.staged).length
    (if rest.isEmpty then d.stop T.sign else d.arm T.sign 0).pump

def execBlockSigned (s : State) : Host.Outcome State Fault Refusal := s.ok (·.blockSign)

/-- BLKTO minutes have passed since OPEN (R407). -/
def Dev.blockAge (d : Dev) : Dev := if d.armed T.blkAge then (d.stop T.blkAge).blockClose 2 false else d

def execBlockAgeExpiry (s : State) : Host.Outcome State Fault Refusal := s.ok (·.blockAge)

/-! ### Records (R399-R403) -/

/-- A record from its bytes 0-52: LINK, chain, commit word (R406); the block closes when it is full (R407). -/
def Dev.addRecord (d : Dev) (b53 : List Nat) : Dev :=
  let d := d.blockOpen
  let hb := beBytes 32 (d.get H.lgrChain)
  let body := b53 ++ hb.take 7
  let d := (d.stageSlot (slotOf body)).puts [(H.lgrChain, beNat (sha256 (hb ++ body))),
    (F.LGR_STAT_NREC, d.get F.LGR_STAT_NREC + 1)]
  if d.get F.LGR_STAT_NREC ≥ 16 * (d.get F.LGR_CTRL_BLKMAX + 1) then d.blockClose 1 false else d.pump

/-- A device record: type, stamps, DATA (R403). -/
def Dev.devRecord (d : Dev) (typ e0 t0 e1 t1 : Nat) (data : List Nat) : Dev :=
  d.addRecord ([typ, 0xFF, 0, 0, d.tamper * 128] ++ logData data ++ stampBytes e0 t0 ++ stampBytes e1 t1 ++
    List.replicate 9 0 ++ [0] ++ [0, 0, 0, 0])

/-- A SEGMENT record, bytes 0-52 (R400, R401). -/
def Dev.segRecord (d : Dev) (p : Nat) (g : Seg) : List Nat :=
  let fl := (g.flags / 2 % 64) * 2 + (if g.flags.testBit 0 && d.tamper == 0 then 1 else 0) + d.tamper * 128
  [1, p] ++ beBytes 2 (g.serial % 4096 * 16 + g.reason) ++ [fl] ++
    (if g.idz then List.replicate 16 0 else beBytes 16 g.idh) ++ stampBytes g.e0 g.t0 ++ stampBytes g.e1 g.t1 ++
    beBytes 9 (g.imp * 2 ^ 36 + g.exp) ++
    [(if g.idz then 64 else 0) + g.calsrc * 32 + (if g.flags.testBit 7 then 16 else 0) + g.sum / 2 ^ 32] ++
    beBytes 4 (g.sum % 2 ^ 32)

/-- The segment that a channel message carries, with the identity and calibration source its meter noted for it. -/
def Dev.segOfMsg (d : Dev) (ws : List Nat) : Nat × Seg :=
  let w0 := ws.getD 0 0
  let p := bits w0 24 8
  let ser := bits w0 12 12
  let src := (d.segs p).find? (fun g => g.serial == ser)
  (p, ⟨ser, bits w0 8 4, bits w0 0 8, ws.getD 1 0, ws.getD 2 0, ws.getD 3 0, ws.getD 4 0, d.now, ws.getD 5 0, ws.getD 6 0,
    ws.getD 7 0, true, (src.map (·.idz)).getD (!d.bit (H.idValid p)), (src.map (·.idh)).getD (d.get (H.idHash p)),
    (src.map (·.calsrc)).getD (d.get (F.MTR_STAT_CALSRC p))⟩)

/-- One segment is taken: a duplicate of one of the port's last 8 is only acknowledged (R399). -/
def Dev.takeSeg (d : Dev) (p : Nat) (g : Seg) : Dev :=
  let last := tget [] d.seen p
  let d :=
    if last.contains g.serial then d.lgrEvt F.LGR_EVT_DUP
    else ({ d with seen := tput [] d.seen p ((g.serial :: last).take 8) }).addRecord (d.segRecord p g)
  d.segAck p g.serial

/-- The Ledger engine takes the oldest segment from the segment channel (R399); with the staging full it withholds the
acknowledgement and the segment stays (R423). -/
def Dev.ledgerTake (d : Dev) : Dev :=
  let c := d.get F.MTR_CFG_SEGCH
  if d.bit H.lgrIdle || d.get (H.chDst c) != 9 then d
  else
    match d.chan c with
    | [] => d
    | m :: rest =>
      if d.stagedCount + 5 > 512 then d.lgrEvt F.LGR_EVT_STAGEFULL
      else
        let r := d.segOfMsg (m.words.map (·.toNat))
        ((d.setChan c rest).when m.bad (·.raise 232)).takeSeg r.1 r.2

def execLedgerTakeSegment (s : State) : Host.Outcome State Fault Refusal := s.ok (·.ledgerTake)

/-- Every segment that a meter still queues is taken at once, port by port (R422). -/
def Dev.takeAll (d : Dev) : Dev :=
  let c := d.get F.MTR_CFG_SEGCH
  let d := if d.get (H.chDst c) = 9 then d.setChan c [] else d
  Dev.forN 24 (fun p e => (e.segs p).foldl (fun f g => f.takeSeg p g) (e.setSegs p ((e.segs p).map
    (fun g => { g with posted := true })))) d

/-- Pages are programmed one after another until nothing is staged. -/
def Dev.programAll : Nat → Dev → Dev
  | 0, d => d
  | n + 1, d => if d.get H.progOn = 0 then d else Dev.programAll n d.progEnd.pump

/-- The engine takes every segment, closes the open block with a cause, signs, and commits everything staged (R422). -/
def Dev.ledgerDrain (d : Dev) (cause : Nat) : Dev :=
  let d := (d.takeAll).blockClose cause false
  let d := d.sigq.foldl (fun e _ => e.blockSign) d
  let d := ((d.put H.cmtWant d.staged.length).set1 H.logWant).pump
  d.programAll 64

/-! ### Identity (R402) -/

/-- The hash of the module's record is complete: the identity is established, and the segment closes with reason 4. -/
def Dev.identityDone (d : Dev) (p : Nat) : Dev :=
  if d.armed (T.identity p) then
    let h := beNat ((sha256 (tget [] d.idrec p)).take 16)
    ((d.stop (T.identity p)).puts [(H.idHash p, h), (H.idValid p, 1)]).segClose p 4 true
  else d

def execIdentityEstablished (p : Fin 24) (s : State) : Host.Outcome State Fault Refusal := s.ok (·.identityDone p.val)

/-- The identity is cleared, and where one was in force the segment closes with reason 4 (R383, R402). -/
def Dev.identityClear (d : Dev) (p : Nat) : Dev :=
  let d := ({ d with idrec := tput [] d.idrec p [] }).stop (T.identity p)
  if d.bit (H.idValid p) then (d.puts [(H.idHash p, 0), (H.idValid p, 0)]).segClose p 4 true else d

/-! ### The recovery scan (R418) -/

/-- A page cut into slots. -/
def cutSlots : Nat → List Nat → List (List Nat)
  | 0, _ => []
  | n + 1, b => if b.isEmpty then [] else b.take 64 :: cutSlots n (b.drop 64)

/-- What the scan knows of the stream: 0 between blocks, 1 header seen, 2 trailer A seen, 3 trailer B seen; the block's
BSEQ, its records, the chain value, trailer A, the BSEQ of the oldest block, and the chain value that the block starts from. -/
structure Scan where
  st    : Nat
  bseq  : Nat
  nrec  : Nat
  chain : Nat
  tra   : List Nat
  tail  : Option Nat
  prev  : Nat
  deriving DecidableEq, Repr

/-- One slot of the stream. -/
def Scan.slot (x : Scan) (s : List Nat) : Scan :=
  if !slotCommitted s then x
  else
    let t := s.headD 0
    let seq := beNat ((s.drop 2).take 4)
    if t = 0x80 then
      let prev := beNat ((s.drop 24).take 32)
      ⟨1, seq, 0, beNat (sha256 (beBytes 32 prev ++ s.take 60)), [], some (x.tail.getD seq), prev⟩
    else if t = 0x81 then { x with st := 2, tra := s.take 60, chain := beNat ((s.drop 18).take 32) }
    else if t = 0x82 then { x with st := 3 }
    else if t = 0x83 then { x with st := 0, bseq := x.bseq + 1, nrec := 0 }
    else { x with nrec := x.nrec + 1, chain := beNat (sha256 (beBytes 32 x.chain ++ s.take 60)) }

/-- The programmed pages of a partition in stream order: from the page after an erased gap onward. -/
def Dev.partStream (d : Dev) (part : Nat) : List (Nat × List Nat) :=
  let l := (d.nand.filter (fun e => e.1 / 67108864 == part)).map (fun e => (e.1 % 67108864, e.2))
  let high := l.filter (fun e => decide (e.1 ≥ d.partPages part / 2))
  let wrapped := l.any (fun e => e.1 == 0) && l.any (fun e => e.1 + 1 == d.partPages part)
  if wrapped then high ++ l.filter (fun e => decide (e.1 < d.partPages part / 2)) else l

/-- The page after the last programmed one. -/
def Dev.partHead (d : Dev) (part : Nat) : Nat :=
  match (d.partStream part).getLast? with
  | none => 0
  | some e => if e.1 + 1 < d.partPages part then e.1 + 1 else 0

/-- The Store and the Ledger engine have found the ends of their streams: SCANNED; an incomplete block is closed or
signed again; the RESTART record follows (R403, R418). The operands say what chips answered (R412). -/
def Dev.recovery (d : Dev) (chips gib : Nat) (page4k good : Bool) : Dev :=
  if d.bit F.STO_STAT_SCANNED then d
  else
    let good := good && decide (1 ≤ gib)
    let ok := good && decide (1 ≤ chips)
    let d := d.puts [(F.STO_STAT_CHIPS, chips), (F.STO_STAT_CAP, if ok then chips * gib * 8 else 0),
      (F.STO_GEOM_PAGE, if ok then (if page4k then 4096 else 2048) else 0), (F.STO_GEOM_PPB, if ok then 64 else 0),
      (F.STO_STAT_FMTBAD, b2n (decide (1 ≤ chips) && !good)), (F.STO_STAT_BLANK, b2n (ok && !d.bit H.nandFmt)),
      (F.STO_STAT_READY, b2n (ok && d.bit H.nandFmt)), (F.STO_STAT_SCANNED, 1), (F.LGR_STAT_SCANNED, 1),
      (F.STO_BADCNT_BAD, d.retired.length)]
    let d := (d.puts [(F.LGR_HEAD_PAGES, d.partHead 5), (H.logHead, d.partHead 4)]).spaceUpdate
    let x := ((d.partStream 5).flatMap (fun e => cutSlots 64 e.2)).foldl Scan.slot ⟨0, 0, 0, 0, [], none, 0⟩
    let d := d.puts [(F.LGR_BSEQ_BSEQ, x.bseq), (F.LGR_TAILSEQ_BSEQ, x.tail.getD 0), (H.lgrChain, if x.st = 1 ∧ x.nrec = 0 then x.prev else x.chain)]
    let d :=
      if x.st = 1 ∧ 1 ≤ x.nrec then
        ((d.puts [(F.LGR_STAT_OPEN, 1), (F.LGR_STAT_NREC, x.nrec)]).blockClose 6 true).lgrEvt F.LGR_EVT_RECOV
      else if x.st = 2 ∨ x.st = 3 then
        let d := (d.stageSlot []).stageSlot []
        let d := { d with sigq := d.sigq ++ [x.tra] }
        ((d.puts [(F.LGR_BSEQ_BSEQ, x.bseq + 1), (F.LGR_STAT_SIGNING, 1)]).arm T.sign (msTicks 15)).lgrEvt F.LGR_EVT_RECOV
      else d
    let c0 := d.get (F.RST_CAUSE_CNT 0) * 2 ^ 14 + d.get (F.RST_CAUSE_ALSO 0) * 64 + d.get (F.RST_CAUSE_LEVEL 0) * 16 +
      d.get (F.RST_CAUSE_SOURCE 0)
    d.devRecord 2 d.epoch d.tb d.epoch d.tb (beBytes 5 c0 ++ beBytes 3 (d.get F.RST_CNT_COUNT) ++
      [2 * d.get F.SYS_BAK_STAT_BAKLOST + d.tamper])

def execRecoveryScanEnd (chips : Fin 3) (gib : Fin 3) (page4k good : Bool) (s : State) :
    Host.Outcome State Fault Refusal := s.ok (·.recovery chips.val gib.val page4k good)

/-! ### Release (R420) -/

/-- A write of LGR_RELEASE. The RELEASE record is committed before anything is erased. A second release accepted while the erasing
of one has still to come joins it: the higher BSEQ counts (DESIGN CHOICE, log entry 136). -/
def Dev.lgrRelease (d : Dev) (a : Agent) (v : Nat) : Dev :=
  let b := bits v 0 32
  if a.isC0orHost && decide (d.get F.LGR_TAILSEQ_BSEQ < b) && decide (b ≤ d.get F.LGR_BSEQ_BSEQ) then
    let on := d.armed T.relErase
    let d := d.devRecord 5 d.epoch d.tb d.epoch d.tb (beBytes 4 b ++ beBytes 4 (d.get F.LGR_TAILSEQ_BSEQ))
    let d := (d.put H.cmtWant (readySlots d.staged).length).pump
    if on then d.put H.relB (max b (d.get H.relB)) else (d.put H.relB b).arm T.relErase 64000000
  else d.lgrEvt F.LGR_EVT_RELBAD

def execLgrRelease (a : Agent) (v : Word) (s : State) : Host.Outcome State Fault Refusal :=
  s.okBy a (·.lgrRelease a v.toNat)

/-- The highest BSEQ each programmed page belongs to, in stream order. -/
def pageSeqs : Nat → List (Nat × List Nat) → List (Nat × Nat)
  | _, [] => []
  | cur, e :: l =>
    let top := (cutSlots 64 e.2).foldl (fun c s => if s.headD 0 = 0x80 then beNat ((s.drop 2).take 4) else c) cur
    (e.1, top) :: pageSeqs top l

/-- Every LEDGER erase block all of whose slots belong to blocks below B is erased; TAILSEQ becomes B. -/
def Dev.releaseDone (d : Dev) : Dev :=
  if d.armed T.relErase then
    let b := d.get H.relB
    let ps := pageSeqs (d.get F.LGR_TAILSEQ_BSEQ) (d.partStream 5)
    let blks := (ps.map (fun e => e.1 / 64)).eraseDups
    let dead := blks.filter (fun k => ps.all (fun e => e.1 / 64 != k || decide (e.2 < b)))
    let d := dead.foldl (fun e k => e.eraseBlock 5 k) d
    ((((d.stop T.relErase).put F.LGR_TAILSEQ_BSEQ b).spaceUpdate).lgrEvt F.LGR_EVT_RELDONE).pump
  else d

def execReleaseEraseDone (s : State) : Host.Outcome State Fault Refusal := s.ok (·.releaseDone)

/-! ### Format, page reads, log, certificate -/

/-- A write of STO_FMT (R414). -/
def Dev.stoFmt (d : Dev) (a : Agent) (v : Nat) : Dev :=
  if a.isC0orHost && bits v 0 8 == 0xC3 && d.bit F.STO_STAT_BLANK && !d.armed T.fmt then
    (d.set1 F.STO_STAT_BUSY).arm T.fmt (120 * 64000000)
  else d

def execStoFmt (a : Agent) (v : Word) (s : State) : Host.Outcome State Fault Refusal := s.okBy a (·.stoFmt a v.toNat)

/-- Formatting completes: tables written, every good block erased (R414). -/
def Dev.fmtDone (d : Dev) : Dev :=
  if d.armed T.fmt then
    ((({ d with nand := [] }).stop T.fmt).puts [(H.nandFmt, 1), (F.STO_STAT_BLANK, 0), (F.STO_STAT_BUSY, 0),
      (F.STO_STAT_READY, 1), (F.LGR_HEAD_PAGES, 0), (H.logHead, 0)]).spaceUpdate.pump
  else d

def execFormatDone (s : State) : Host.Outcome State Fault Refusal := s.ok (·.fmtDone)

/-- A write of STO_RD from a core or the host (R424). -/
def Dev.stoRd (d : Dev) (a : Agent) (v : Nat) : Dev :=
  if (a.isCore || a.isHost) && !d.bit F.STO_STAT_RDBUSY then
    if bits v 0 32 < d.partPages (bits v 32 4) then
      d.puts [(H.rdPart, bits v 32 4), (H.rdPage, bits v 0 32), (F.STO_STAT_RDBUSY, 1), (F.STO_STAT_RDERR, 0)]
    else d.set1 F.STO_STAT_RDERR
  else d

def execStoRd (a : Agent) (v : Word) (s : State) : Host.Outcome State Fault Refusal := s.okBy a (·.stoRd a v.toNat)

/-- Base of the read buffer (R421). -/
def rdBase : Nat := 0x10E400

/-- Bytes laid into the channel and staging range, four to a word, most significant first (R421). -/
def Dev.stgBytes (d : Dev) (base : Nat) : Nat → List Nat → Dev
  | 0, _ => d
  | n + 1, l => Dev.stgBytes (d.stgWrite base (beNat (l.take 4))) (base + 1) n (l.drop 4)

/-- The page as the chip returns it: erased bytes read 0xFF (R424). -/
def Dev.pageImage (d : Dev) (part i : Nat) : List Nat :=
  let b := d.page part i
  b ++ List.replicate (d.get F.STO_GEOM_PAGE - b.length) 0xFF

/-- What an uncorrectable read returns is open: a free value for every word (R415). -/
def Dev.stgFree (base : Nat) : Nat → Dev → Dev
  | 0, d => d
  | n + 1, d =>
    let r := d.fresh 32
    Dev.stgFree (base + 1) n (r.2.stgWrite base r.1)

/-- The page read completes (R415, R424): ecc 0 clean, 1 corrected bits at the refresh threshold, 2 uncorrectable. -/
def Dev.readDone (d : Dev) (ecc : Nat) : Dev :=
  if d.bit F.STO_STAT_RDBUSY then
    let part := d.get H.rdPart
    let i := d.get H.rdPage
    let n := d.get F.STO_GEOM_PAGE / 4
    let d := d.clr F.STO_STAT_RDBUSY
    let d :=
      if ecc = 2 then (Dev.stgFree rdBase n d).stoEvt F.STO_EVT_ECCFAIL
      else
        let d := d.stgBytes rdBase n (d.pageImage part i)
        if ecc = 1 then (d.remap part (i / 64)).stoEvt F.STO_EVT_ECCHI else d
    d.stoEvt F.STO_EVT_RDDONE
  else d

def execPageReadDone (ecc : Fin 3) (s : State) : Host.Outcome State Fault Refusal := s.ok (·.readDone ecc.val)

/-- A write of STO_LOGT appends a firmware entry with the writer's own latches (R419). -/
def Dev.stoLogt (d : Dev) (a : Agent) (v : Nat) : Dev :=
  let t := bits v 0 8
  if 0x80 ≤ t ∧ t ≤ 0xFE ∧ (a.isCore || a.isHost) then
    (d.logAppend t a.copy ((List.range 4).flatMap (fun i => beBytes 4 (d.get (F.STO_LOGW_DATA i a.copy))))).pump
  else d

def execStoLogt (a : Agent) (v : Word) (s : State) : Host.Outcome State Fault Refusal := s.okBy a (·.stoLogt a v.toNat)

/-- A read of LGR_CERTDAT (R410). -/
def Dev.certRead (d : Dev) (a : Agent) : Nat × Dev :=
  let k := d.get (F.LGR_CERTPTR_PTR a.copy)
  let b i := if 4 * k + i < d.get F.LGR_CERTLEN_LEN then Config.certByte (4 * k + i) % 256 else 0
  (b 0 * 2 ^ 24 + b 1 * 2 ^ 16 + b 2 * 2 ^ 8 + b 3, d.inc (F.LGR_CERTPTR_PTR a.copy))

def execCertdatRead (a : Agent) (s : State) : Host.Outcome State Fault Refusal :=
  s.okBy a (fun d => Dev.returned (d.certRead a) a)

/-- LGR_PUBi: public key bytes 4i to 4i + 3 (R409). -/
def readPub (i : Nat) : Nat := beNat ((pubBytes devPub).drop (4 * i) |>.take 4)

/-- LGR_STAT with the count of staged slots. -/
def Dev.readLgrStat (d : Dev) : Nat :=
  d.stagedCount * 2 ^ 18 + d.get F.LGR_STAT_NREC * 2 ^ 9 + d.get F.LGR_STAT_SIGNING * 16 + d.get F.LGR_STAT_FULL * 8 +
    d.get F.LGR_STAT_LOWSPACE * 4 + d.get F.LGR_STAT_SCANNED * 2 + d.get F.LGR_STAT_OPEN

/-- A write of LGR_CTRL: with any field outside its range ignored as a whole (R426). Age and commit limits count from the same
starts as before. -/
def Dev.lgrCtrlWrite (d : Dev) (v : Nat) : Dev :=
  let low := bits v 24 4
  let tmo := bits v 16 8
  let dl := bits v 8 8
  if 1 ≤ low ∧ 1 ≤ tmo ∧ tmo ≤ 240 ∧ 1 ≤ dl ∧ dl ≤ 60 then
    let age := d.get T.blkAge + tmo * 3840000000 - d.get F.LGR_CTRL_BLKTO * 3840000000
    let d := if d.armed T.blkAge then d.put T.blkAge (max (d.now + 1) age) else d
    let d := d.puts [(F.LGR_CTRL_LOWWAT, low), (F.LGR_CTRL_BLKTO, tmo), (F.LGR_CTRL_CMTDL, dl), (F.LGR_CTRL_BLKMAX, bits v 0 4)]
    let d := d.spaceUpdate
    if d.armed T.commit then d.rearmCommit else d
  else d

end Sys2Proof.Machine
end

