-- ==== Sys2Proof/Machine/Snap.lean ====
section
/-!
DEFINITION. Sys2Proof/Machine/Snap.lean: snapshots (R544-R549).
-/
namespace Sys2Proof.Machine

/-- SYS_MODE as one word. -/
def Dev.modeWord (d : Dev) : Nat :=
  d.get F.SYS_MODE_REQERR * 2 ^ 16 + d.get F.SYS_MODE_CAUSE * 2 ^ 12 + d.get F.SYS_MODE_PREV * 2 ^ 8 +
    d.get F.SYS_MODE_TRANS * 16 + d.get F.SYS_MODE_MODE

/-- GRDnn_MEAS as one word. -/
def Dev.measWord (d : Dev) (p : Nat) : Nat :=
  d.get (F.GRD_MEAS_I p) * 2 ^ 20 + d.get (F.GRD_MEAS_VBS p) * 2 ^ 7

/-- PRTnn_PE_STAT.STATE as it reads: RESUMING until the contract has resumed (R170, R191), SWAP while a partner's
PR_Swap is being answered (R241). -/
def Dev.peShown (d : Dev) (p : Nat) : Nat :=
  if d.get (F.PRT_ATT_STAT_STATE p) = 10 then 18 else if d.bit (H.swAns p) then 12 else d.get (F.PRT_PE_STAT_STATE p)

/-- A frame of n objects that starts at a tick is at the pad now. -/
def Dev.onAir (d : Dev) (start n : Nat) : Bool := decide (start ≤ d.now) && decide (d.now < start + frameTicks n)

/-- A frame of the port is at the pad: the one at the head of its queue, which starts 60 µs after the line is free, or a GoodCRC. -/
def Dev.txOnAir (d : Dev) (p : Nat) : Bool :=
  (match d.txs p with
    | [] => false
    | f :: _ => d.onAir (d.get (H.txFrom p) - 1 + 3840) f.objs.length) ||
    (decide (frameTicks 0 ≤ d.get (H.gcTo p)) && d.onAir (d.get (H.gcTo p) - frameTicks 0) 0)

/-- The port can be receiving: its receiver is on, and it is not transmitting itself. -/
def Dev.rxCan (d : Dev) (p : Nat) : Bool := d.bit (H.pdOn p) && d.get F.SYS_MODE_MODE != 2 && !d.txOnAir p

/-- The INFLIGHT bits of a port: TX, RX, XFER, CMD (R547). A received message reaches the block as one command, at its EOP, so whether
one is on its way is not known before: bit p of `rx`, an open value, says so (DESIGN CHOICE, log entry 139). -/
def Dev.portFlight (d : Dev) (rx p : Nat) : Nat :=
  b2n (d.txOnAir p) * 8 + b2n (d.rxCan p && rx.testBit p) * 4 + d.get (H.xferOn p) * 2 + d.get (H.cmdRun p)

/-- The records of one port (R546). -/
def Dev.snapPort (d : Dev) (rx p : Nat) : Dev :=
  let fl := d.portFlight rx p
  d.puts [(F.PRT_SNAP0_PESTATE p, d.peShown p), (F.PRT_SNAP0_ATTSTATE p, d.get (F.PRT_ATT_STAT_STATE p)),
    (F.PRT_SNAP0_GATES p, d.get (F.GRD_STAT_GATES p)), (F.PRT_SNAP0_HPMSTATE p, d.get (F.PRT_HPM_STAT_STATE p)),
    (F.PRT_SNAP0_SWSTEP p, d.get (F.PRT_SWAP_STAT_STEP p)), (F.PRT_SNAP0_ASKPEND p, d.get (F.PRT_PE_STAT_ASKPEND p)),
    (F.PRT_SNAP0_INFLIGHT p, if fl = 0 then 0 else 1), (F.PRT_SNAP0_TX p, fl / 8), (F.PRT_SNAP0_RX p, fl / 4 % 2),
    (F.PRT_SNAP0_XFER p, fl / 2 % 2), (F.PRT_SNAP0_CMD p, fl % 2), (F.PRT_SNAP1_MEAS p, d.measWord p),
    (F.PRT_SNAP2_ACC p, d.impNow p), (F.PRT_SNAP3_ACC p, d.expNow p)]

/-- An instruction of the core has begun and not completed: a WAIT, also one that the core is halted in (R451, R547). -/
def Dev.coreFlight (d : Dev) (n : Nat) : Bool :=
  d.get (F.CORE_STAT_STATE n) == 2 || (decide (3 ≤ d.get (F.CORE_STAT_STATE n)) && d.get (H.coreWas n) == 2)

/-- The records of one core. -/
def Dev.snapCore (d : Dev) (n : Nat) : Dev :=
  d.puts [(F.SNAP_CORE_STATE n, d.get (F.CORE_STAT_STATE n)), (F.SNAP_CORE_INFLIGHT n, b2n (d.coreFlight n)),
    (F.SNAP_CORE_P n, d.get (F.CORE_P_P n))]

/-- Every record as of now. -/
def Dev.snapRecords (d : Dev) : Dev :=
  let r := d.fresh 24
  let d := r.2
  let any := (List.range 24).any (fun p => d.portFlight r.1 p != 0) || (List.range 6).any d.coreFlight
  Dev.forN 6 (fun n e => e.snapCore n) (Dev.forN 24 (fun p e => e.snapPort r.1 p)
    (d.puts [(F.SNAP_SYS_MODE, d.modeWord), (F.SNAP_TB_VALUE, d.tb), (F.SNAP_EP_VALUE, d.epoch),
      (F.SNAP_STAT_INFLIGHT, b2n any), (F.SNAP_STAT_FULL, 1), (H.snapTick, d.now + 1)]))

/-- SNAPOUT is high now (R548). -/
def Dev.snapOutLevel (d : Dev) : Bool := d.armed T.snapOut && decide (d.get H.snapOutFrom ≤ d.now)

/-- SNAPOUT pulses: high from 2 ticks after T for 16 ticks (R548). -/
def Dev.snapPulse (d : Dev) : Dev :=
  if d.bit F.SNAP_CTRL_OUTEN then
    let from_ := if d.snapOutLevel then d.get H.snapOutFrom else d.now + 2
    (d.put H.snapOutFrom from_).arm T.snapOut 18
  else d

/-- A further trigger joins those in the given fields: its CAUSE bit, and the lowest compare channel and port. -/
def Dev.snapJoin (d : Dev) (causes chs ports : Fld) (cause ch port : Nat) : Dev :=
  d.puts [(chs, if cause = 10 then (if d.getBit causes 2 then min ch (d.get chs) else ch) else d.get chs),
    (ports, if cause = 11 then (if d.getBit causes 3 then min port (d.get ports) else port) else d.get ports),
    (causes, withBit (d.get causes) (cause - 8) true)]

/-- The triggers of this tick so far are in the given fields. -/
def Dev.snapFirst (d : Dev) (causes chs ports : Fld) : Dev := d.puts [(causes, 0), (chs, 0), (ports, 0)]

/-- A snapshot is taken. -/
def Dev.snapTake (d : Dev) : Dev := (d.snapRecords.snapPulse).raise 224

/-- A trigger while FULL is 1 (R545); what is needed to take it after all, where a clear falls on its tick, is kept. -/
def Dev.snapLose (d : Dev) (cause ch port : Nat) : Dev :=
  let d := if d.get H.snapLostAt = d.now + 1 then d
    else (d.puts [(H.snapLostAt, d.now + 1), (H.snapLostWas, d.get F.SNAP_STAT_LOST)]).snapFirst H.snapLostCause H.snapLostCh H.snapLostPort
  (d.snapJoin H.snapLostCause H.snapLostCh H.snapLostPort cause ch port).put F.SNAP_STAT_LOST (min 4095 (d.get F.SNAP_STAT_LOST + 1))

/-- A trigger (R544, R545): of the given CAUSE bit, compare channel and port. Triggers of one tick make one snapshot. -/
def Dev.snapTrig (d : Dev) (cause ch port : Nat) : Dev :=
  let join (e : Dev) := e.snapJoin F.SNAP_STAT_CAUSE F.SNAP_STAT_CMPCH F.SNAP_STAT_PORT cause ch port
  if !d.bit F.SNAP_STAT_FULL then (join (d.snapFirst F.SNAP_STAT_CAUSE F.SNAP_STAT_CMPCH F.SNAP_STAT_PORT)).snapTake
  else if d.get H.snapTick = d.now + 1 then (join d).snapRecords
  else d.snapLose cause ch port

/-- The tick of a snapshot ends: the records stand as every change of that tick has left the blocks (R546). Those of a reset trigger
stand from before the reset. -/
def Dev.snapEnd (d : Dev) : Dev :=
  if d.bit F.SNAP_STAT_FULL && d.get H.snapTick == d.now + 1 && !d.getBit F.SNAP_STAT_CAUSE 4 then d.snapRecords else d

/-- A guard trip of port p is recognised: where GRDEN and SNAP_GMASK allow, it triggers at the next tick (R544). -/
def Dev.snapTrip (d : Dev) (p : Nat) : Dev :=
  if d.bit F.SNAP_CTRL_GRDEN && d.getBit F.SNAP_GMASK_PORTS p then d.putBit H.snapGrd p true else d

/-- The guard trips recognised at the tick before trigger. -/
def Dev.snapGuard (d : Dev) : Dev :=
  if d.bit H.snapGrd then (Dev.forN 24 (fun p e => if e.getBit H.snapGrd p then e.snapTrig 11 0 p else e) d).clr H.snapGrd else d

/-! ### SNAPIN, filtered under R157 -/

/-- Ticks between two samples of SNAPIN. -/
def Dev.snapStep (d : Dev) : Nat := 4 ^ d.get F.SNAP_CTRL_SI

/-- The tick of the k-th sample of SNAPIN at or after a tick, k from 0; samples fall every SI ticks from the start of Meridian on. -/
def Dev.snapSample (d : Dev) (t k : Nat) : Nat :=
  let r := d.get H.relTick
  r + (cdiv (t - r) d.snapStep + k) * d.snapStep

/-- The first edge says what level SNAPIN has stood at since the release: that level is accepted first, at the FILTN-th sample,
without an edge. -/
def Dev.snapBase (d : Dev) (rising : Bool) : Dev :=
  if d.bit H.snapValid then d
  else d.puts [(H.snapValid, 1), (H.snapLvl, b2n !rising),
    (H.snapSince, d.snapSample (d.get H.relTick) (d.get F.SNAP_CTRL_FILTN - 1) + 1)]

/-- The earliest sample at which a candidate of SNAPIN can be accepted. -/
def Dev.snapEarliest (d : Dev) : Nat :=
  max (d.snapSample (d.get H.snapSince) (d.get F.SNAP_CTRL_FILTN - 1)) (d.snapSample d.now 0)

/-- A level of SNAPIN becomes the accepted one; EDGE selects rising, falling or both (R544). -/
def Dev.snapAccept (d : Dev) (rising : Bool) : Dev :=
  let d := d.puts [(H.snapLvl, b2n rising), (H.snapDue, 0), (H.snapSince, d.now + 1)]
  if d.getBit F.SNAP_CTRL_EDGE (if rising then 0 else 1) then d.snapTrig 9 0 0 else d

/-- SNAPIN has changed and stays. Where this tick is a sample at which FILTN of them can have differed, the level is accepted;
otherwise it stands as the candidate, which the block accepts at the FILTN-th sample. A return to the accepted level rejects it. -/
def Dev.snapinEdge (d : Dev) (rising : Bool) : Dev :=
  let d := d.snapBase rising
  if d.bit H.snapLvl = rising then
    if d.bit H.snapDue then d.puts [(H.snapDue, 0), (H.snapSince, d.now + 1)] else d
  else
    let t := d.snapEarliest
    if t = d.now then d.snapAccept rising else d.puts [(H.snapRaw, b2n rising), (H.snapDue, t + 1)]

def execSnapinEdge (rising : Bool) (s : State) : Host.Outcome State Fault Refusal := s.ok (·.snapinEdge rising)

/-- A change of FILTN or SI restarts the candidate count (R163). -/
def Dev.snapRecount (d : Dev) : Dev :=
  let d := d.put H.snapSince (d.now + 1)
  if d.bit H.snapDue then d.put H.snapDue (d.snapSample (d.now + 1) (d.get F.SNAP_CTRL_FILTN - 1) + 1) else d

/-! ### Registers -/

/-- A write of SNAP_CTRL (R544, R549): with FILTN 0 ignored as a whole; TRIG by a core or the host. -/
def Dev.snapCtrlWrite (d : Dev) (a : Agent) (v : Nat) : Dev :=
  if bits v 16 8 = 0 then d
  else
    let filt := decide (bits v 16 8 ≠ d.get F.SNAP_CTRL_FILTN ∨ bits v 13 3 ≠ d.get F.SNAP_CTRL_SI)
    let d := d.puts [(F.SNAP_CTRL_FILTN, bits v 16 8), (F.SNAP_CTRL_SI, bits v 13 3), (F.SNAP_CTRL_EDGE, bits v 11 2),
      (F.SNAP_CTRL_RSTEN, bits v 10 1), (F.SNAP_CTRL_GRDEN, bits v 9 1), (F.SNAP_CTRL_OUTEN, bits v 8 1)]
    let d := d.when filt (·.snapRecount)
    if v.testBit 0 && (a.isCore || a.isHost) then d.snapTrig 8 0 0 else d

def execSnapTrig (a : Agent) (v : Word) (s : State) : Host.Outcome State Fault Refusal :=
  s.okBy a (·.snapCtrlWrite a v.toNat)

/-- A write of SNAP_STAT: 1 to FULL rearms (R545). A clear and a trigger on one tick are ordered with the clear first: a snapshot
taken on this tick stays, and triggers refused on it are taken. -/
def Dev.snapRearm (d : Dev) (v : Nat) : Dev :=
  if !v.testBit 0 || d.get H.snapTick == d.now + 1 then d
  else if d.bit F.SNAP_STAT_FULL && d.get H.snapLostAt == d.now + 1 then
    (d.puts [(F.SNAP_STAT_LOST, d.get H.snapLostWas), (F.SNAP_STAT_CAUSE, d.get H.snapLostCause),
      (F.SNAP_STAT_CMPCH, d.get H.snapLostCh), (F.SNAP_STAT_PORT, d.get H.snapLostPort)]).snapTake
  else d.clr F.SNAP_STAT_FULL

def execSnapRearm (v : Word) (s : State) : Host.Outcome State Fault Refusal := s.ok (·.snapRearm v.toNat)

/-- The pulse ends. -/
def Dev.snapOutEnd (d : Dev) : Dev := if d.armed T.snapOut then (d.stop T.snapOut).clr H.snapOutFrom else d

def execSnapoutPulseEnd (s : State) : Host.Outcome State Fault Refusal := s.ok (·.snapOutEnd)

end Sys2Proof.Machine
end

