-- ==== Sys2Proof/Machine/Meridian.lean ====
section
/-!
DEFINITION. Sys2Proof/Machine/Meridian.lean: the time base, compare channels and capture inputs (R131-R163).
-/
namespace Sys2Proof.Machine

/-! ### Commit ticks (R138, R139) -/

/-- A decision of Meridian at a tick. -/
def meridianDecision : Instr → Bool
  | .lapWrap => true
  | .cmpFire _ => true
  | .cmpPulseEnd _ => true
  | .capEdgeAccepted _ _ => true
  | .capCandidateRejected _ => true
  | .capStuckTimeout _ => true
  | _ => false

/-- A write of a Meridian register that commits at this tick. What Meridian decides at a tick uses the configuration before it, so
while a decision of this tick waits, the write waits for it. -/
def State.commitRow (s : State) (a : Agent) (addr v : Nat) (f : Dev → Dev) : Host.Outcome State Fault Refusal :=
  if s.pending.any meridianDecision then s.ok (fun d => { d with commits := d.commits ++ [⟨d.now, a, addr, v⟩] }) else s.ok f

/-- A write of a Meridian register arrives: it commits one full tick later (R138). DEDUCED (log entry 118): what arrives at a tick
arrives at its boundary. -/
def Dev.commitLater (d : Dev) (a : Agent) (addr v : Nat) : Dev :=
  { d with commits := d.commits ++ [⟨d.now + 1, a, addr, v⟩] }

/-- A register of this chapter that software writes. -/
def isMeridian (addr : Nat) : Bool :=
  decide (0x200080 ≤ addr) && decide (addr ≤ 0x20008F) || decide (0x200100 ≤ addr) && decide (addr ≤ 0x2001C2) ||
    decide (0x200200 ≤ addr) && decide (addr < 0x200240)

/-! ### Counter, lap and epoch -/

/-- Meridian raises its event where the given enable is 1. -/
def Dev.merEvt (d : Dev) (ie : Fld) : Dev := if d.bit ie then d.raise 212 else d

/-- TB becomes 0 (R131, R132, R147, R148, R384): TBEPOCH increments, or takes the pending value. -/
def Dev.lapWrap (d : Dev) : Dev :=
  if d.get F.TB_COUNT_COUNT ≥ d.get F.TB_RLD_RLD ∨ d.bit H.lapEnd then
    let load := d.bit F.TB_STAT_EPPEND
    let ovr := !load && decide (d.epoch = 2 ^ 36 - 1)
    let would := (d.epoch + 1) % 2 ^ 36
    let e := if load then d.get F.TB_EPSET_VALUE else would
    let d := d.puts [(F.TB_COUNT_COUNT, 0), (H.lapEnd, 0), (F.TB_EPOCH_EPOCH, e)]
    let d := if ovr then (d.hwSet F.TB_STAT_EPWRAP).merEvt F.TB_CTRL_SETIE else d
    let d := if load then
        let rld := beBytes 5 (d.get F.TB_RLD_RLD)
        ((((d.puts [(F.TB_STAT_EPPEND, 0), (F.TB_STAT_EPDONE, 1), (F.TB_EPSET_VALUE, 0)]).devRecord 3 would 0 e 0
          (rld ++ rld)).segCloseAll 9 true)).merEvt F.TB_CTRL_SETIE
      else d
    let d := if e % (60 * d.get F.MTR_IVAL_IVAL) = 0 then d.segCloseAll 12 true else d
    d.merEvt F.TB_CTRL_WRAPIE
  else d

def execLapWrap (s : State) : Host.Outcome State Fault Refusal := s.ok (·.lapWrap)

/-- A read of TB_COUNT returns TB and latches TBEPOCH for the reader (R141). -/
def Dev.tbRead (d : Dev) (a : Agent) : Nat × Dev := (d.tb, d.put (F.TB_EPL_EPL a.copy) d.epoch)

def execTbCountRead (a : Agent) (s : State) : Host.Outcome State Fault Refusal :=
  s.okBy a (fun d => Dev.returned (d.tbRead a) a)

/-! ### Compare channels -/

/-- The arming test of R151. -/
def Dev.cmpValid (d : Dev) (i : Nat) : Bool :=
  decide (d.get (F.CMP_VAL_VALUE i) ≤ d.get F.TB_RLD_RLD) &&
    (d.get (F.CMP_CTRL_MODE i) != 3 ||
      (decide (1 ≤ d.get (F.CMP_CTRL_STEP i)) && decide (d.get (F.CMP_CTRL_STEP i) ≤ d.get F.TB_RLD_RLD)))

/-- Channel i is armed, or refused with RANGE (R150, R151). -/
def Dev.cmpArmNow (d : Dev) (i : Nat) : Dev :=
  if d.cmpValid i then d.puts [(F.CMP_STAT_ARMED i, 1), (F.CMP_STAT_RANGE i, 0), (H.cmpArm i, d.now + 1)]
  else d.puts [(F.CMP_STAT_ARMED i, 0), (F.CMP_STAT_RANGE i, 1)]

/-- A write of CMPnn_VAL (R150). -/
def Dev.cmpValWrite (d : Dev) (i v : Nat) : Dev :=
  let d := d.put (F.CMP_VAL_VALUE i) v
  if d.bit (F.CMP_CTRL_MODE i) then d.cmpArmNow i else d

def execCmpValWrite (i : Fin 64) (v : Word) (s : State) : Host.Outcome State Fault Refusal :=
  s.commitRow .tap (0x200100 + i.val) v.toNat (·.cmpValWrite i.val v.toNat)

/-- A CTRL write that commits at the tick of a firing and neither disarms nor arms takes the place of the disarm or the step of
that firing: the channel stands armed at its value, as before it (R153). DEDUCED (log entry 119). -/
def Dev.cmpUnstep (d : Dev) (i : Nat) : Dev :=
  if d.get (H.cmpFireAt i) = d.now + 1 then
    d.puts [(F.CMP_VAL_VALUE i, d.get (H.cmpPrev i)), (F.CMP_STAT_ARMED i, 1), (F.CMP_STAT_RANGE i, 0), (H.cmpArm i, d.now + 1)]
  else d

/-- A write of CMPnn_CTRL (R150): MODE 0 disarms; a change from MODE 0 arms the present VALUE; any other leaves the channel
as it stands. -/
def Dev.cmpCtrlWrite (d : Dev) (i v : Nat) : Dev :=
  let was := d.get (F.CMP_CTRL_MODE i)
  let d := d.puts [(F.CMP_CTRL_STEP i, bits v 12 24), (F.CMP_CTRL_SNAP i, bits v 11 1), (F.CMP_CTRL_IE i, bits v 10 1),
    (F.CMP_CTRL_ACTION i, bits v 7 3), (F.CMP_CTRL_OUTSEL i, bits v 4 3), (F.CMP_CTRL_MODE i, bits v 0 2)]
  if bits v 0 2 = 0 then d.clr (F.CMP_STAT_ARMED i) else if was = 0 then d.cmpArmNow i else d.cmpUnstep i

def execCmpCtrlWrite (i : Fin 64) (v : Word) (s : State) : Host.Outcome State Fault Refusal :=
  s.commitRow .tap (0x200140 + i.val) v.toNat (·.cmpCtrlWrite i.val v.toNat)

/-- A new TBRLD (R146, R147). -/
def Dev.rldWrite (d : Dev) (a : Agent) (v : Nat) : Dev :=
  if !a.isC0orHost then d.hwSet F.TB_STAT_WRBAD
  else if v < 63999 then d.hwSet F.TB_STAT_RLDBAD
  else
    let old := d.get F.TB_RLD_RLD
    let d := (d.put F.TB_RLD_RLD v).devRecord 3 d.epoch d.tb d.epoch d.tb (beBytes 5 v ++ beBytes 5 old)
    let d := if d.tb ≥ v then d.set1 H.lapEnd else d
    let d := Dev.forN 64 (fun i e => if e.bit (F.CMP_STAT_ARMED i) && !e.cmpValid i then
      e.puts [(F.CMP_STAT_ARMED i, 0), (F.CMP_STAT_RANGE i, 1)] else e) d
    (d.segCloseAll 9 true).merEvt F.TB_CTRL_RLDIE

def execTbRldWrite (a : Agent) (v : Word) (s : State) : Host.Outcome State Fault Refusal :=
  (s.onDev (·.touch a)).commitRow a 0x200083 v.toNat (·.rldWrite a v.toNat)

/-- A write of TB_EPSET, accepted once per release (R146, R148). -/
def Dev.epsetWrite (d : Dev) (a : Agent) (v : Nat) : Dev :=
  if !a.isC0orHost then d.hwSet F.TB_STAT_WRBAD
  else if d.bit F.TB_STAT_EPPEND || d.bit F.TB_STAT_EPDONE then d.hwSet F.TB_STAT_EPBAD
  else d.puts [(F.TB_EPSET_VALUE, v), (F.TB_STAT_EPPEND, 1)]

def execTbEpsetWrite (a : Agent) (v : Word) (s : State) : Host.Outcome State Fault Refusal :=
  (s.onDev (·.touch a)).commitRow a 0x200084 v.toNat (·.epsetWrite a v.toNat)

/-- Where the levels commanded of the CMPO balls stand. -/
def cmpoKey : Nat := 212

/-- Ball o is commanded to a level. -/
def Dev.cmpoDrive (d : Dev) (o : Nat) (on : Bool) : Dev :=
  let e := d.putBit F.CMP_OUT_LEVEL o on
  e.padNote cmpoKey (d.get F.CMP_OUT_LEVEL) (e.get F.CMP_OUT_LEVEL)

/-- The levels of the CMPO balls: they follow what is commanded by 2 ticks (R154). -/
def Dev.cmpoBalls (d : Dev) : Nat := d.padSeen cmpoKey (d.get F.CMP_OUT_LEVEL)

/-- The action of channel i on its ball (R154, R155). CMP_OUT.LEVEL holds the level commanded. -/
def Dev.cmpAction (d : Dev) (i : Nat) : Dev :=
  let act := d.get (F.CMP_CTRL_ACTION i)
  let o := d.get (F.CMP_CTRL_OUTSEL i)
  if act = 0 ∨ act ≥ 5 then d
  else if d.get (H.cmpoTick o) = d.now + 1 then d.hwSet (F.CMP_STAT_COLL i)
  else
    let on := if act = 2 then false else if act = 3 then !d.getBit F.CMP_OUT_LEVEL o else true
    let d := (((d.cmpoDrive o on).mark F.CMP_OUT_LEVEL o).puts [(H.cmpoTick o, d.now + 1), (H.cmpoCh o, i)]).stop (T.cmpoPulse o)
    if act = 4 then d.arm (T.cmpoPulse o) 16 else d

/-- The value of mode 3 after a firing (R152). -/
def Dev.cmpStep (d : Dev) (i : Nat) : Nat :=
  let v := d.get (F.CMP_VAL_VALUE i) + d.get (F.CMP_CTRL_STEP i)
  if v ≤ d.get F.TB_RLD_RLD then v else v - (d.get F.TB_RLD_RLD + 1)

/-- Channel i fires (R153), once TB has entered its value after the arming tick (R150). -/
def Dev.cmpFire (d : Dev) (i : Nat) : Dev :=
  if d.bit (F.CMP_STAT_ARMED i) && d.tb == d.get (F.CMP_VAL_VALUE i) && d.get (H.cmpArm i) != d.now + 1 then
    let d := d.puts [(H.cmpPrev i, d.get (F.CMP_VAL_VALUE i)), (H.cmpFireAt i, d.now + 1)]
    let d := if d.bit (F.CMP_STAT_FIRED i) then d.hwSet (F.CMP_STAT_OVR i) else d
    let d := ((d.hwSet (F.CMP_STAT_FIRED i)).inc (F.CMP_STAT_FCNT i)).cmpAction i
    let d := if d.bit (F.CMP_CTRL_IE i) then (d.raise (192 + i / 8)).wake 5 else d
    let d := if d.bit (F.CMP_CTRL_SNAP i) then d.snapTrig 10 i 0 else d
    let m := d.get (F.CMP_CTRL_MODE i)
    if m = 1 then d.clr (F.CMP_STAT_ARMED i)
    else if m = 3 then (d.put (F.CMP_VAL_VALUE i) (d.cmpStep i)).cmpArmNow i
    else d.put (H.cmpArm i) (d.now + 1)
  else d

def execCmpFire (i : Fin 64) (s : State) : Host.Outcome State Fault Refusal := s.ok (·.cmpFire i.val)

/-- A pulse ends: the ball returns low unless another action has reached it since (R154, R155). A new pulse that began on this very
tick runs on. -/
def Dev.cmpPulseEnd (d : Dev) (o : Nat) : Dev :=
  if d.armed (T.cmpoPulse o) && d.get (H.cmpoTick o) != d.now + 1 then
    ((d.stop (T.cmpoPulse o)).cmpoDrive o false).mark F.CMP_OUT_LEVEL o
  else d

def execCmpPulseEnd (o : Fin 8) (s : State) : Host.Outcome State Fault Refusal := s.ok (·.cmpPulseEnd o.val)

/-- A CMP_OUT write; on a ball that a channel acted on this tick, or whose pulse ended, the hardware prevails (R10, R155). -/
def Dev.cmpOutWrite (d : Dev) (v : Nat) : Dev :=
  Dev.forN 8 (fun o e => if e.marked F.CMP_OUT_LEVEL o then e else e.cmpoDrive o (v.testBit o)) d

def execCmpOutWrite (v : Word) (s : State) : Host.Outcome State Fault Refusal :=
  s.commitRow .tap 0x2001C2 v.toNat (·.cmpOutWrite v.toNat)

/-- CMP_SUM0 and CMP_SUM1 mirror FIRED. -/
def Dev.readCmpSum (d : Dev) (k : Nat) : Nat :=
  ((List.range 32).map (fun i => d.get (F.CMP_STAT_FIRED (32 * k + i)) * 2 ^ i)).sum

/-! ### Capture inputs -/

/-- OVR, ACT or STUCK sets; the event of input i where STATIE is 1 (R163). With EDGE 0 the input raises no capture event (R158). -/
def Dev.capStat (d : Dev) (i : Nat) (f : Fld) : Dev :=
  let d := d.hwSet f
  if d.bit (F.CAP_CTRL_STATIE i) && d.bit (F.CAP_CTRL_EDGE i) then d.raise (200 + i) else d

/-- The stuck check runs from the last accepted level (R162). -/
def Dev.capStuckArm (d : Dev) (i : Nat) : Dev :=
  let n := d.get (F.CAP_CTRL_STUCKTO i)
  if n = 0 ∨ d.bit (H.capStuckDone i) ∨ d.get (H.capLvlTick i) = 0 then d.stop (T.capStuck i)
  else d.put (T.capStuck i) (max (d.now + 1) (d.get (H.capLvlTick i) + n * 640000))

/-- A selected edge passes the prescaler and is captured (R158, R160). `read` where a read of CAPnn_TB falls on this tick: it comes
first, and so leaves no capture to overwrite (R159). -/
def Dev.capEdge (d : Dev) (i : Nat) (read : Bool) : Dev :=
  if d.get (H.capPresc i) ≥ d.get (F.CAP_CTRL_PRESC i) then
    let d := d.clr (H.capPresc i)
    let d := if d.bit (F.CAP_STAT_FULL i) && !read then d.capStat i (F.CAP_STAT_OVR i) else d
    let d := d.puts [(H.capOldTb i, d.get (F.CAP_TB_TB i)), (H.capOldEp i, d.get (H.capEpoch i)), (H.capNewAt i, d.now + 1)]
    let d := d.puts [(F.CAP_TB_TB i, d.tb), (H.capEpoch i, d.epoch), (F.CAP_STAT_FULL i, 1)]
    if d.bit (F.CAP_CTRL_IE i) then (d.raise (200 + i)).wake 6 else d
  else d.inc (H.capPresc i)

/-- A level of input i becomes the accepted one (R157, R158). -/
def Dev.capAccept (d : Dev) (i : Nat) (level read : Bool) : Dev :=
  let first := !d.bit (F.CAP_STAT_VALID i)
  let edge := !first && level != d.bit (F.CAP_STAT_LEVEL i)
  let d := d.puts [(F.CAP_STAT_VALID i, 1), (F.CAP_STAT_LEVEL i, b2n level), (F.CAP_STAT_RAW i, b2n level), (H.capDue i, 0),
    (H.capSince i, d.now + 1)]
  if first || edge then
    let d := (d.puts [(H.capLvlTick i, d.now + 1), (H.capStuckDone i, 0)]).capStuckArm i
    if edge then
      let d := (d.inc (F.CAP_STAT_ECNT i)).clr (H.capRej i)
      if d.getBit (F.CAP_CTRL_EDGE i) (if level then 0 else 1) then d.capEdge i read else d
    else d
  else d

/-- Ticks between two samples of input i (R157). -/
def Dev.capStep (d : Dev) (i : Nat) : Nat := 4 ^ d.get (F.CAP_CTRL_SI i)

/-- The first sample of input i at or after a tick: every SI ticks from the start of Meridian on. -/
def Dev.capSample (d : Dev) (i t : Nat) : Nat :=
  let r := d.get H.relTick
  r + cdiv (t - r) (d.capStep i) * d.capStep i

/-- The earliest sample at which a candidate of input i can be accepted: the FILTN-th from where its count may begin, and not
before now. -/
def Dev.capEarliest (d : Dev) (i : Nat) : Nat :=
  max (d.capSample i (d.get (H.capSince i)) + (d.get (F.CAP_CTRL_FILTN i) - 1) * d.capStep i) (d.capSample i d.now)

/-- A candidate is rejected; eight of them set ACT (R161). The next one counts from the sample after. -/
def Dev.capReject (d : Dev) (i : Nat) : Dev :=
  let d := d.puts [(H.capRej i, min 8 (d.get (H.capRej i) + 1)), (F.CAP_STAT_RAW i, d.get (F.CAP_STAT_LEVEL i)), (H.capDue i, 0),
    (H.capSince i, d.now + 1)]
  if d.get (H.capRej i) = 8 ∧ !d.bit (F.CAP_STAT_ACT i) then d.capStat i (F.CAP_STAT_ACT i) else d

/-- The level of input i has changed and stays. Where this tick is a sample at which FILTN of them can have differed, it is accepted;
otherwise it stands as the candidate, which the block accepts at the FILTN-th sample (R157). A return to the accepted level rejects
the candidate; before the first accepted level a change starts the count again. -/
def Dev.capLevel (d : Dev) (i : Nat) (level read : Bool) : Dev :=
  if d.bit (F.CAP_STAT_VALID i) && level == d.bit (F.CAP_STAT_LEVEL i) then
    if d.bit (H.capDue i) then d.capReject i else d
  else
    let d := if d.bit (H.capDue i) && level != d.bit (F.CAP_STAT_RAW i) then d.put (H.capSince i) d.now else d
    let t := d.capEarliest i
    if t = d.now then d.capAccept i level read
    else d.puts [(F.CAP_STAT_RAW i, b2n level), (H.capDue i, t + 1)]

/-- The accepted level has not changed for STUCKTO (R162). -/
def Dev.capStuckEnd (d : Dev) (i : Nat) : Dev :=
  if d.armed (T.capStuck i) then ((d.stop (T.capStuck i)).set1 (H.capStuckDone i)).capStat i (F.CAP_STAT_STUCK i)
  else d

def execCapStuckTimeout (i : Fin 12) (s : State) : Host.Outcome State Fault Refusal := s.ok (·.capStuckEnd i.val)

/-- A read of CAPnn_TB clears FULL and latches the held epoch. One on the tick of a capture comes before it: it returns the old
capture, and FULL stays 1 for the new one (R159). -/
def Dev.capRead (d : Dev) (a : Agent) (i : Nat) : Nat × Dev :=
  if d.get (H.capNewAt i) = d.now + 1 then
    (d.get (H.capOldTb i), d.put (F.CAP_EP_EPOCH i a.copy) (d.get (H.capOldEp i)))
  else (d.get (F.CAP_TB_TB i), (d.clr (F.CAP_STAT_FULL i)).put (F.CAP_EP_EPOCH i a.copy) (d.get (H.capEpoch i)))

def execCapTbRead (a : Agent) (i : Fin 12) (s : State) : Host.Outcome State Fault Refusal :=
  s.okBy a (fun d => Dev.returned (d.capRead a i.val) a)

/-- A change of FILTN or SI restarts the candidate count: its samples count from the next tick on (R163). -/
def Dev.capRecount (d : Dev) (i : Nat) : Dev :=
  let d := d.put (H.capSince i) (d.now + 1)
  if d.bit (H.capDue i) then
    d.put (H.capDue i) (d.capSample i (d.now + 1) + (d.get (F.CAP_CTRL_FILTN i) - 1) * d.capStep i + 1)
  else d

/-- A write of CAPnn_CTRL (R163): with FILTN 0 ignored as a whole; a change of PRESC or EDGE restarts the prescaler, one of FILTN
or SI the candidate count. -/
def Dev.capCtrlWrite (d : Dev) (i v : Nat) : Dev :=
  if bits v 8 8 = 0 then d
  else
    let presc := decide (bits v 16 8 ≠ d.get (F.CAP_CTRL_PRESC i) ∨ bits v 3 2 ≠ d.get (F.CAP_CTRL_EDGE i))
    let filt := decide (bits v 8 8 ≠ d.get (F.CAP_CTRL_FILTN i) ∨ bits v 5 3 ≠ d.get (F.CAP_CTRL_SI i))
    let d := d.puts [(F.CAP_CTRL_STUCKTO i, bits v 24 12), (F.CAP_CTRL_PRESC i, bits v 16 8), (F.CAP_CTRL_FILTN i, bits v 8 8),
      (F.CAP_CTRL_SI i, bits v 5 3), (F.CAP_CTRL_EDGE i, bits v 3 2), (F.CAP_CTRL_STATIE i, bits v 2 1),
      (F.CAP_CTRL_IE i, bits v 1 1)]
    ((d.when presc (·.clr (H.capPresc i))).when filt (·.capRecount i)).capStuckArm i

def execCapCtrlWrite (i : Fin 12) (v : Word) (s : State) : Host.Outcome State Fault Refusal :=
  s.commitRow .tap (0x200200 + i.val) v.toNat (·.capCtrlWrite i.val v.toNat)

/-- RW1C bits of CAPnn_STAT; a clear of ACT restarts its count (R161). What the hardware sets on this tick stays set (R140). -/
def Dev.capStatWrite (d : Dev) (i v : Nat) : Dev :=
  let d := (d.clearOnes (F.CAP_STAT_STUCK i) (bits v 3 1)).clearOnes (F.CAP_STAT_OVR i) (bits v 1 1)
  if v.testBit 2 && !d.marked (F.CAP_STAT_ACT i) 0 then (d.clr (F.CAP_STAT_ACT i)).clr (H.capRej i) else d

end Sys2Proof.Machine
end

