-- ==== Sys2Proof/Machine/Port.lean ====
section
/-!
DEFINITION. Sys2Proof/Machine/Port.lean: what the families of one port share: roles, caps, guard limits and stops,
contracts, commands, asks, transmission, exchanges, and leaving the Attached states (R170-R173, R191-R240, R310-R345).
-/
namespace Sys2Proof.Machine

/-! ### States and roles -/

def Dev.mode (d : Dev) : Nat := d.get F.SYS_MODE_MODE
def Dev.att (d : Dev) (p : Nat) : Nat := d.get (F.PRT_ATT_STAT_STATE p)
def Dev.pe (d : Dev) (p : Nat) : Nat := d.get (F.PRT_PE_STAT_STATE p)
def Dev.setPe (d : Dev) (p s : Nat) : Dev := d.put (F.PRT_PE_STAT_STATE p) s
/-- A Resuming port whose record has matched: its engine runs in the held role (R221). -/
def Dev.resuming (d : Dev) (p : Nat) : Bool := d.att p == 10 && d.bit (H.resume p)
def Dev.isSrc (d : Dev) (p : Nat) : Bool :=
  (d.att p == 8 && !d.bit (H.detaching p)) || (d.resuming p && !d.bit (H.grdSink p))
def Dev.isSnk (d : Dev) (p : Nat) : Bool := d.att p == 3 || (d.resuming p && d.bit (H.grdSink p))
def Dev.attached (d : Dev) (p : Nat) : Bool := d.isSrc p || d.isSnk p
/-- A sink, or a Resuming port that holds a sink's contract whose record is not read yet: the Rp it sees is its partner's (R183). -/
def Dev.seesRp (d : Dev) (p : Nat) : Bool := d.isSnk p || (d.att p == 10 && d.bit (H.grdSink p))
/-- The Type-C role counts a Resuming port by its held contract. -/
def Dev.sinkRole (d : Dev) (p : Nat) : Bool :=
  d.isSnk p || (d.att p == 10 && (d.get (F.PRT_HOLDSUM_SUM p)).testBit 34)
/-- Partner at PD 2.0, and at PD 3.x. -/
def Dev.pd2 (d : Dev) (p : Nat) : Bool := d.get (F.PRT_PE_STAT_REV p) == 1
def Dev.pd3 (d : Dev) (p : Nat) : Bool := d.get (F.PRT_PE_STAT_REV p) == 2
def Dev.conKind (d : Dev) (p : Nat) : Nat := d.get (F.PRT_CONTRACT_KIND p)
def Dev.conVolt (d : Dev) (p : Nat) : Nat := d.get (F.PRT_CONTRACT_VOLT p)
def Dev.conCurr (d : Dev) (p : Nat) : Nat := d.get (F.PRT_CONTRACT_CURR p)
/-- An explicit contract is in force. -/
def Dev.explicit (d : Dev) (p : Nat) : Bool := d.bit (F.PRT_CONTRACT_VALID p) && decide (2 ≤ d.conKind p)
/-- The contract word that PRTnn_HOLDSUM keeps: that of the contract in force, also while the port resumes it after an L2
(R127, R207). -/
def Dev.heldWord (d : Dev) (p : Nat) : Nat := d.get (F.PRT_HOLDSUM_SUM p)
def Dev.heldOn (d : Dev) (p : Nat) : Bool := (d.heldWord p).testBit 35
def Dev.heldV (d : Dev) (p : Nat) : Nat := bits (d.heldWord p) 14 13
def Dev.heldC (d : Dev) (p : Nat) : Nat := bits (d.heldWord p) 0 14
def Dev.heldExplicit (d : Dev) (p : Nat) : Bool := d.heldOn p && decide (2 ≤ bits (d.heldWord p) 31 3)
def Dev.hpmCon (d : Dev) (p : Nat) : Bool := d.bit (F.PRT_CONTRACT_VALID p) && d.conKind p == 6
def Dev.epr (d : Dev) (p : Nat) : Bool := d.bit (F.PRT_PE_STAT_EPR p)
def Dev.hc (d : Dev) (p : Nat) : Bool := d.bit (F.SYS_GZQ_STAT_HC (p / 4))
/-- The port is fitted, by its bound record. -/
def Dev.fitted (d : Dev) (p : Nat) : Bool := d.getBit (F.SYS_GZQ_STAT_FITTED (p / 4)) (p % 4)
/-- A banked port: in Banked with the contract that was kept at its entry (R89). -/
def Dev.bankedPort (d : Dev) (p : Nat) : Bool := d.mode == 3 && d.bit (H.banked p) && d.bit (F.PRT_CONTRACT_VALID p)
/-- The factor of R26 in Kindling. -/
def Dev.stretch (d : Dev) : Nat := if d.mode = 1 then d.get F.SYS_KINDLE_CTRL_STRETCH + 1 else 1

/-! ### Staging words of a port (R198) -/

def portStg (p off : Nat) : Nat := 0x10E800 + p * 256 + off
def Dev.pstg (d : Dev) (p off : Nat) : Nat := d.stgRead (portStg p off)
def Dev.pstgPut (d : Dev) (p off v : Nat) : Dev := d.stgWrite (portStg p off) v
/-- Words written from an offset on. -/
def Dev.pstgPuts (d : Dev) (p : Nat) : Nat → List Nat → Dev
  | _, [] => d
  | off, v :: l => Dev.pstgPuts (d.pstgPut p off v) p (off + 1) l
/-- Words cleared from an offset on. -/
def Dev.pstgZero (d : Dev) (p off n : Nat) : Dev := d.pstgPuts p off (List.replicate n 0)

/-! ### Caps (R351-R360) -/

/-- The cap in force, none while no cap applies (R355). -/
def Dev.cap (d : Dev) (p : Nat) : Option Nat :=
  if d.bit (F.BUDP_STAT_NOCAP p) then none else some (d.get (F.BUDP_STAT_CAP p))

/-- The cap as the figure of 18 bits that asks and notices carry. -/
def Dev.capFig (d : Dev) (p : Nat) : Nat := (d.cap p).getD 0x3FFFF

/-- The current, in units of `unit` mA, that the cap allows at a voltage in 10 mV units; `top` where no cap applies. -/
def Dev.capAt (d : Dev) (p volt unit top : Nat) : Nat :=
  match d.cap p with
  | none => top
  | some c => if volt = 0 then top else c * 10000 / (volt * unit)

/-- A change of Contour's inputs for a reason (R362, R365): the recompute follows. -/
def Dev.contourIn (d : Dev) (why : Nat) : Dev :=
  (d.puts [(H.budTin, d.now), (H.budTb, d.tb), (H.budWhy, why), (F.BUD_STAT_BUSY, 1)]).arm T.contour 0

/-- An input change that concerns port p itself. -/
def Dev.contourPort (d : Dev) (p why : Nat) : Dev :=
  (d.put (H.budWhyP p) (min why (d.get (H.budWhyP p)))).contourIn why

/-! ### Guard limits (R321-R328) -/

/-- The smallest of a field over several words. -/
def minField (lo w : Nat) (ws : List Nat) : Nat := ws.foldl (fun m x => min m (bits x lo w)) (2 ^ w - 1)

def Dev.gzb0 (d : Dev) (p : Nat) : Nat :=
  d.get (F.GRD_GZB0_IFAST p) * 2 ^ 27 + d.get (F.GRD_GZB0_ILIM p) * 2 ^ 15 + d.get (F.GRD_GZB0_I2T p) * 8
def Dev.gzb1 (d : Dev) (p : Nat) : Nat :=
  d.get (F.GRD_GZB1_OVABS p) * 2 ^ 26 + d.get (F.GRD_GZB1_IREV p) * 2 ^ 16 + d.get (F.GRD_GZB1_TTRIP p) * 256 +
    d.get (F.GRD_GZB1_RPATH p)
def Dev.layers0 (d : Dev) (p : Nat) : List Nat :=
  [d.get F.GRD_OTPB0_LIMITS, d.gzb0 p, d.get (F.GRD_CAP0_LIMITS p), d.get (F.GRD_SET0_LIMITS p)]
def Dev.layers1 (d : Dev) (p : Nat) : List Nat :=
  [d.get F.GRD_OTPB1_LIMITS, d.gzb1 p, d.get (F.GRD_CAP1_LIMITS p), d.get (F.GRD_SET1_LIMITS p)]

/-- The contract word whose limits the guard holds: the one in force, or from t_c until the gates turn off the ended one (R261). -/
def Dev.limWord (d : Dev) (p : Nat) : Nat := if d.bit (H.keepLim p) then d.get (H.keepLim p) else d.heldWord p

/-- The contract allowance in 50 mA units (R323). -/
def Dev.allowance (d : Dev) (p : Nat) : Nat :=
  let w := d.limWord p
  if w.testBit 35 && decide (2 ≤ bits w 31 3) then (bits w 0 14 * 5 / 4 + 25) / 5 else 80

/-- EFF ILIM as it would be without a clamp (R360). -/
def Dev.ilimFree (d : Dev) (p : Nat) : Nat := min (minField 15 12 (d.layers0 p)) (d.allowance p)

/-- The 72 mV term of IFAST in 0.5 A units. -/
def Dev.shuntTerm (d : Dev) (p : Nat) : Nat :=
  if d.get (H.gzShunt p) = 0 then 511 else 144000 / d.get (H.gzShunt p)

/-- The clamp code written (R360). It follows the cap, the contract and the layers (DEDUCED). -/
def Dev.clampPut (d : Dev) (p : Nat) : Dev :=
  if d.bit (F.BUDP_STAT_ARMED p) then
    let vc := if d.bit (F.PRT_CONTRACT_VALID p) then d.conVolt p else 500
    let code := 200 * d.get (F.BUDP_STAT_CAP p) / max 1 vc
    d.put (F.GRD_CLAMP_CLAMP p) (if code < d.ilimFree p ∧ code ≤ 4094 then code else 4095)
  else d

/-- The effective limits recomputed (R322, R328): only while the quad's record is valid; VALID latches. -/
def Dev.effUpdate (d : Dev) (p : Nat) : Dev :=
  let d := d.clampPut p
  if d.bit (H.gzValid (p / 4)) && d.fitted p then
    let e0 := min (minField 27 9 (d.layers0 p)) (d.shuntTerm p) * 2 ^ 27 +
      min (d.ilimFree p) (d.get (F.GRD_CLAMP_CLAMP p)) * 2 ^ 15 + minField 3 12 (d.layers0 p) * 8
    let e1 := min (minField 26 10 (d.layers1 p)) 630 * 2 ^ 26 + minField 16 10 (d.layers1 p) * 2 ^ 16 +
      min (minField 8 8 (d.layers1 p)) 150 * 256 + minField 0 8 (d.layers1 p)
    let d := d.puts [(F.GRD_EFF0_LIMITS p, e0), (F.GRD_EFF1_LIMITS p, e1), (F.GRD_STAT_VALID p, 1), (H.effEver p, 1)]
    if d.bit (F.GRD_STAT_PEND p) then d.arm (T.turnOn p) 0 else d
  else d

def Dev.effIfast (d : Dev) (p : Nat) : Nat := bits (d.get (F.GRD_EFF0_LIMITS p)) 27 9
def Dev.effIlim (d : Dev) (p : Nat) : Nat := bits (d.get (F.GRD_EFF0_LIMITS p)) 15 12
def Dev.effI2t (d : Dev) (p : Nat) : Nat := bits (d.get (F.GRD_EFF0_LIMITS p)) 3 12
def Dev.effOv (d : Dev) (p : Nat) : Nat := bits (d.get (F.GRD_EFF1_LIMITS p)) 26 10
def Dev.effIrev (d : Dev) (p : Nat) : Nat := bits (d.get (F.GRD_EFF1_LIMITS p)) 16 10
def Dev.effTtrip (d : Dev) (p : Nat) : Nat := bits (d.get (F.GRD_EFF1_LIMITS p)) 8 8
def Dev.effRpath (d : Dev) (p : Nat) : Nat := bits (d.get (F.GRD_EFF1_LIMITS p)) 0 8

/-! ### Gates and discharge (R313-R319, R341, R342) -/

def Dev.gates (d : Dev) (p : Nat) : Nat := d.get (F.GRD_STAT_GATES p)
/-- At least one gate is commanded on outside a stop (R330). -/
def Dev.gatesOn (d : Dev) (p : Nat) : Bool := d.gates p == 1 || d.gates p == 2

def Dev.disOn (d : Dev) (p : Nat) : Dev :=
  if d.bit (F.GRD_STAT_DISON p) then d
  else
    let d := (d.puts [(F.GRD_STAT_DISON p, 1), (H.padDis p, 1)]).arm (T.disMax p) 64000000
    if d.bit (F.PRT_ATT_STAT_VBS0 p) then d.arm (T.disLow p) 64000 else d

def Dev.disOff (d : Dev) (p : Nat) : Dev :=
  d.puts [(F.GRD_STAT_DISON p, 0), (H.padDis p, 0), (T.disMax p, 0), (T.disLow p, 0)]

/-- Ticks of a soft stop at a slew (R341, R342). -/
def stopTicks (slew : Nat) : Nat := cdiv 704 (max 1 slew)

/-- A stop of the port's gates for a cause, hard or soft (R313, R315, R341). A pending turn-on request is withdrawn;
a stop that begins makes a LOG entry (R419). -/
def Dev.gateStop (d : Dev) (p why : Nat) (hard : Bool) : Dev :=
  let d := d.puts [(F.GRD_STAT_PEND p, 0), (T.turnOn p, 0)]
  if d.gates p = 0 then d
  else if d.gates p = 3 then
    if hard && d.get (F.GRD_STAT_STOPKIND p) == 1 then (d.put (F.GRD_STAT_STOPKIND p) 2).arm (T.gateOff p) 13 else d
  else
    (((d.puts [(F.GRD_STAT_GATES p, 3), (F.GRD_STAT_STOPWHY p, why), (F.GRD_STAT_STOPKIND p, if hard then 2 else 1),
      (T.tsoa p, 0), (H.stopTick p, d.now + 1)]).arm (T.gateOff p) (if hard then 13 else stopTicks (d.get (F.GRD_CTRL_SLEW p)))).grdEvt p
        (F.GRD_TRIP_STOP p)).logAppend 2 0xF0 ([p, why, if hard then 2 else 1] ++ beBytes 5 (d.measWord p))

/-- A turn-on request (R317). -/
def Dev.gateReq (d : Dev) (p : Nat) : Dev :=
  if d.gatesOn p then d else (d.set1 (F.GRD_STAT_PEND p)).arm (T.turnOn p) 0

/-! ### Converter setpoints (R216) -/

/-- A value that moves linearly from `a` to `b` in `dur` ticks, `t` ticks after its start. -/
def linear (a b dur t : Nat) : Nat :=
  if dur ≤ t then b else if a ≤ b then a + (b - a) * t / dur else a - (a - b) * t / dur

/-- The voltage setpoint now, 10 mV units: on its way while a ramp runs (R216). -/
def Dev.vLevel (d : Dev) (p : Nat) : Nat :=
  linear (d.get (H.vfrom p)) (d.get (H.vnow p)) (d.get (H.vDur p)) (d.now - d.get (H.vStart p))

/-- The input-current setpoint now, 10 mA units (R212). -/
def Dev.iLevel (d : Dev) (p : Nat) : Nat :=
  linear (d.get (H.ifrom p)) (d.get (H.iset p)) (d.get (H.iDur p)) (d.now - d.get (H.iStart p))

/-- The voltage setpoint ramps from where it stands to a target at XFER.SLEW; RAMP_END follows. PGTO holds for this transition as
it is now (R217). -/
def Dev.rampTo (d : Dev) (p target : Nat) : Dev :=
  let from_ := d.vLevel p
  let diff := if from_ ≤ target then target - from_ else from_ - target
  let dur := cdiv (diff * 640) (max 1 (d.get (F.PRT_XFER_SLEW p)))
  (d.puts [(H.vfrom p, from_), (H.vset p, target), (H.vnow p, target), (H.vStart p, d.now), (H.vDur p, dur), (H.imode p, 0),
    (H.settleOn p, 0), (H.pgtoLat p, d.get (F.PRT_XFER_PGTO p))]).arm (T.ramp p) dur

/-- The voltage setpoint moves at once, within a contract (R208, R304). -/
def Dev.vStep (d : Dev) (p v : Nat) : Dev := d.puts [(H.vnow p, v), (H.vDur p, 0)]

/-- VSET falls to 0 V over 1 ms, with no transition. -/
def Dev.vsetOff (d : Dev) (p : Nat) : Dev :=
  d.puts [(H.vfrom p, d.vLevel p), (H.vStart p, d.now), (H.vDur p, 64000), (H.ifrom p, d.iLevel p), (H.iStart p, d.now),
    (H.iDur p, 64000), (H.vset p, 0), (H.vnow p, 0), (H.iset p, 0), (T.ramp p, 0), (T.pgto p, 0), (H.settleOn p, 0),
    (H.xferOn p, 0), (H.xferKind p, 0), (H.rampReq p, 0)]

/-- The input-current setpoint as sink at once, 10 mA units. -/
def Dev.setIset (d : Dev) (p i : Nat) : Dev := d.puts [(H.iset p, i), (H.imode p, 1), (H.iDur p, 0)]

/-- The input-current setpoint moves to a target over 1 ms (R212, R217). -/
def Dev.isetRamp (d : Dev) (p i : Nat) : Dev :=
  (d.puts [(H.ifrom p, d.iLevel p), (H.iStart p, d.now), (H.iDur p, 64000), (H.iset p, i), (H.imode p, 1)]).arm (T.ramp p) 64000

/-- The current that NO_PD draws as sink, 10 mA units, by the recognised Rp (R220). -/
def Dev.rpCurrent (d : Dev) (p : Nat) : Nat := if d.get (H.rpLevel p) = 5 then 300 else if d.get (H.rpLevel p) = 4 then 150 else 50

/-- The current setpoint that a sink's contract, ceiling or Type-C current gives, 10 mA units; 0 until its inrush has ended (R211). -/
def Dev.sinkPoint (d : Dev) (p : Nat) : Nat :=
  if d.bit (H.snkInrush p) then 0
  else if d.hpmCon p then d.get (F.PRT_HPM_CEIL_CEIL p) * 5
  else if d.explicit p then d.conCurr p
  else if d.pe p = 19 then d.rpCurrent p
  else 50

/-- A power transition begins under R185; Vexp is the higher of the old and the new target (R332). -/
def Dev.xferBegin (d : Dev) (p kind target : Nat) : Dev :=
  d.puts [(H.xferOn p, 1), (H.xferKind p, kind), (H.vexp p, max (d.get (H.vexp p)) target)]

def Dev.xferEnd (d : Dev) (p vexp : Nat) : Dev :=
  d.puts [(H.xferOn p, 0), (H.xferKind p, 0), (H.settleOn p, 0), (T.pgto p, 0), (T.ramp p, 0), (H.vexp p, vexp)]

/-! ### Contracts (R207, R242) -/

/-- PRTnn_CONTRACT and PRTnn_HOLDSUM written. -/
def Dev.conWrite (d : Dev) (p w : Nat) : Dev :=
  d.puts [(F.PRT_CONTRACT_VALID p, bits w 35 1), (F.PRT_CONTRACT_ROLE p, bits w 34 1), (F.PRT_CONTRACT_KIND p, bits w 31 3),
    (F.PRT_CONTRACT_POS p, bits w 27 4), (F.PRT_CONTRACT_VOLT p, bits w 14 13), (F.PRT_CONTRACT_CURR p, bits w 0 14),
    (F.PRT_HOLDSUM_SUM p, w)]

/-- A contract word in the layout of PRTnn_CONTRACT. -/
def conWord (sink : Bool) (kind pos volt curr : Nat) : Nat :=
  2 ^ 35 + b2n sink * 2 ^ 34 + kind * 2 ^ 31 + pos * 2 ^ 27 + volt * 2 ^ 14 + curr

/-- Timers that run only in a contract. -/
def Dev.conTimersOff (d : Dev) (p : Nat) : Dev :=
  d.puts [(T.ppsReq p, 0), (T.ppsTo p, 0), (T.tpoll p, 0), (T.ceilResp p, 0)]

/-- The contract in force is void: VALID becomes 0, the segment closes, the guard takes the vSafe5V limits unless it
holds those of the ended contract (R242, R261, R338). -/
def Dev.conVoid (d : Dev) (p : Nat) (keepLimits : Bool) : Dev :=
  let d := d.put (H.keepLim p) (if keepLimits then d.heldWord p else 0)
  if d.bit (F.PRT_CONTRACT_VALID p) then
    let hpm := d.conKind p == 6
    let d := (((d.conTimersOff p).put (F.PRT_HPM_CEIL_CEIL p) 0).conWrite p 0).peEvt p (F.PRT_PE_EVT_CONTRACT p)
    let d := if hpm then d.hpmEvt p (F.PRT_HPM_EVT_CONTRACT p) else d
    let d := d.segClose p 2 true
    if keepLimits then d else (d.put (H.vexp p) 500).effUpdate p
  else if d.heldOn p then
    let d := d.put (F.PRT_HOLDSUM_SUM p) 0
    if keepLimits then d else (d.put (H.vexp p) 500).effUpdate p
  else d

/-- EPR mode ends. -/
def Dev.eprEnd (d : Dev) (p : Nat) : Dev :=
  if d.epr p then ((d.puts [(F.PRT_PE_STAT_EPR p, 0), (T.snkKeep p, 0), (T.srcKeep p, 0), (H.eprArmed p, 0)])).peEvt p
    (F.PRT_PE_EVT_EPRCHG p) else d

/-! ### Commands and tickets (R233-R240) -/

def Dev.cmds (d : Dev) (p : Nat) : List Cmd := tget [] d.cmdq p
/-- Commands in the queue, those a served swap has taken out not counted (R252). -/
def queued (q : List Cmd) : Nat := (q.filter (fun c => !c.joined)).length
def Dev.setCmds (d : Dev) (p : Nat) (q : List Cmd) : Dev :=
  ({ d with cmdq := tput [] d.cmdq p q }).put (F.PRT_PE_STAT_QDEPTH p) (queued q)

/-- The completion of a command (R239): PRTnn_CMD_DONE, CMDDONE, and the completion record. -/
def Dev.cmdRecord (d : Dev) (p : Nat) (c : Cmd) (outcome : Nat) : Dev :=
  let o := if c.late then 8 else outcome
  let d := (d.puts [(F.PRT_CMD_DONE_TICKET p, c.ticket), (F.PRT_CMD_DONE_OUTCOME p, o), (F.PRT_CMD_DONE_CODE p, c.code)]).peEvt
    p (F.PRT_PE_EVT_CMDDONE p)
  let d := if o = 5 then d.peEvt p (F.PRT_PE_EVT_PREEMPT p) else d
  let ch := d.get (F.PRT_ASK_CFG_CHAN p)
  if d.bit (F.PRT_ASK_CFG_CHEN p) then
    if d.hwCredit ch > 0 then
      d.hwEnqueue ch [BitVec.ofNat 36 (6 * 2 ^ 32 + p * 2 ^ 24 + c.ticket * 2 ^ 12 + o * 256 + c.code * 4),
        BitVec.ofNat 36 d.tb]
    else d.hwSet (H.chRefused ch)
  else d

/-- The started command, at the head of the queue, completes. -/
def Dev.cmdEnd (d : Dev) (p outcome : Nat) : Dev :=
  if d.bit (H.cmdRun p) then
    match d.cmds p with
    | [] => d.clr (H.cmdRun p)
    | c :: l => ((((d.setCmds p l).clr (H.cmdRun p)).stop (T.cmdMiss p)).cmdRecord p c outcome).arm (T.cmdStart p) 0
  else d

/-- A withdrawn command counts as started again. -/
def Dev.cmdUnheld (d : Dev) (p : Nat) : Dev :=
  if d.bit (H.cmdHeld p) then d.puts [(H.cmdHeld p, 0), (H.cmdRun p, 1)] else d

/-- Every command of the port completes ABORTED (R238). -/
def Dev.cmdAbortAll (d : Dev) (p : Nat) : Dev :=
  let q := d.cmds p
  q.foldl (fun e c => e.cmdRecord p c 6) ((d.setCmds p []).puts [(H.cmdRun p, 0), (H.cmdHeld p, 0), (T.cmdMiss p, 0)])

/-- Every command that joined a served swap completes, or goes back to its place (R252, R253). -/
def Dev.cmdJoined (d : Dev) (p : Nat) (outcome : Option Nat) : Dev :=
  match outcome with
  | some o =>
    let q := d.cmds p
    (q.filter (·.joined)).foldl (fun e c => e.cmdRecord p c o) (d.setCmds p (q.filter (fun c => !c.joined)))
  | none => d.setCmds p ((d.cmds p).map (fun c => { c with joined := false }))

/-! ### Asks: cancellation (R228) -/

def Dev.askCancel (d : Dev) (p : Nat) : Dev := d.puts [(F.PRT_PE_STAT_ASKPEND p, 0), (T.ask p, 0)]
def Dev.askOut (d : Dev) (p : Nat) : Bool := d.bit (F.PRT_PE_STAT_ASKPEND p)

/-! ### The CC lines (R164-R168) -/

def Dev.cc1 (d : Dev) (p : Nat) : Nat := d.get (F.PRT_ATT_STAT_CC1LVL p)
def Dev.cc2 (d : Dev) (p : Nat) : Nat := d.get (F.PRT_ATT_STAT_CC2LVL p)
/-- The accepted code of CC1 (0) or CC2 (1). -/
def Dev.ccCode (d : Dev) (p cc : Nat) : Nat := if cc = 0 then d.cc1 p else d.cc2 p

/-- What a Type-C state presents on CC1 (line 1) or CC2 (line 2) (R170): 0 Open, 1 Rp 1.5 A, 2 Rp 3.0 A, 3 Rd, 4 dead-battery Rd,
5 VCONN. DEDUCED (log entry 120): the inactive line of Attached.SRC carries the same Rp as the active one. -/
def Dev.stateTerm (d : Dev) (p line : Nat) : Nat :=
  let st := d.att p
  if st = 4 ∨ st = 5 ∨ st = 6 then 2
  else if st = 8 then
    if d.bit (F.PRT_ATT_STAT_VCONNON p) && d.get (F.PRT_ATT_STAT_ORIENT p) != line then 5
    else if d.get (F.PRT_ATT_STAT_RPOWN p) = 1 then 1 else 2
  else if st = 3 then (if d.bit (F.PRT_ATT_STAT_VCONNON p) && d.get (F.PRT_ATT_STAT_ORIENT p) != line then 5 else 3)
  else if st = 9 then 0
  else 3

/-- The termination that the pads of CC1 or CC2 hold (R58). -/
def Dev.padTerm (d : Dev) (p line : Nat) : Nat := d.get (if line = 1 then H.padCc1 p else H.padCc2 p)

/-- What the port engine puts on CC1 or CC2 outside a reset (R48, R170): while Resuming and in EmergencyStop what was held; nothing
in Blaze. -/
def Dev.liveTerm (d : Dev) (p line : Nat) : Nat :=
  if d.att p = 10 ∨ d.att p = 11 then d.padTerm p line
  else if d.mode = 2 then 0
  else d.stateTerm p line

/-- What CC1 or CC2 presents to the connector, in the code of `stateTerm` (R48, R58, R170): in an L3 the dead-battery Rd; through an
L2 what was held. -/
def Dev.ccTerm (d : Dev) (p line : Nat) : Nat :=
  if d.get H.rstHeld = 3 then 4 else if d.get H.rstHeld = 2 then d.padTerm p line else d.liveTerm p line

/-- The terminations are held as they are; VCONN is none (R170). -/
def Dev.ccHold (d : Dev) (p : Nat) : Dev :=
  let h t := if t = 5 then 0 else t
  d.puts [(H.padCc1 p, h (d.ccTerm p 1)), (H.padCc2 p, h (d.ccTerm p 2))]

/-- A code that the windows of R165 give under a termination. A line without a row there, Open or VCONN, takes any. -/
def codeFits (term code : Nat) : Bool :=
  if term = 1 ∨ term = 2 then decide (code ≤ 2) else if term = 3 ∨ term = 4 then code == 0 || decide (3 ≤ code) else true

/-- Ticks between two samples of the CC lines: SI (R157), or 1 ms in the rest of a Banked toggle (R176). -/
def Dev.ccStep (d : Dev) (p : Nat) : Nat := if d.armed (T.rest p) then 64000 else 4 ^ d.get (F.PRT_CCFILT_SI p)

/-- The first sample at or after a tick: whole multiples of the interval from the start of Meridian (R167). -/
def Dev.ccSample (d : Dev) (p t : Nat) : Nat :=
  let r := d.get H.relTick
  r + cdiv (t - r) (d.ccStep p) * d.ccStep p

/-- The earliest sample at which a candidate can be accepted: the FILTN-th from where its count may begin, none of them blanked, and
not before now (R166, R167). -/
def Dev.ccEarliest (d : Dev) (p cc : Nat) : Nat :=
  max (d.ccSample p (max (d.get (H.ccSince p cc)) (d.get (H.blankTo p))) + (d.get (F.PRT_CCFILT_FILTN p) - 1) * d.ccStep p)
    (d.ccSample p d.now)

/-- The tick of acceptance of the candidates that stand, found anew. -/
def Dev.ccRecount (d : Dev) (p : Nat) : Dev :=
  Dev.forN 2 (fun cc e => if e.bit (H.ccDue p cc) then e.put (H.ccDue p cc) (e.ccEarliest p cc + 1) else e) d

/-- The count of both lines starts again at the next tick (R190). -/
def Dev.ccRestart (d : Dev) (p : Nat) : Dev :=
  (d.puts [(H.ccSince p 0, d.now + 1), (H.ccSince p 1, d.now + 1)]).ccRecount p

/-! ### Transmission (R181, R194, R195) -/

def Dev.setTxs (d : Dev) (p : Nat) (q : List TxFrame) : Dev := { d with txq := tput [] d.txq p q }

/-- Ticks until the line is free for a transmission, while the GoodCRC of a received message goes out (R181, R182). -/
def Dev.lineWait (d : Dev) (p : Nat) : Nat := if d.armed (T.lineFree p) then d.left (T.lineFree p) else 0

/-- The line of port p counts as busy until a tick (R181), and its comparators are blanked until 100 µs later (R166): candidates
count anew from there, and blanked time does not count for the recognised Rp level (R183). -/
def Dev.lineUse (d : Dev) (p til : Nat) : Dev :=
  let old := d.get (H.blankTo p) - d.now
  let new := til + 6400 - d.now
  let d := d.puts [(H.lineBusy p, 1), (T.lineFree p, til + 1), (H.blankTo p, til + 6400)]
  (if d.bit (H.rpDue p) then d.put (H.rpDue p) (d.get (H.rpDue p) - old + new) else d).ccRecount p

/-- tReceive runs from the end of the frame at the head, whose start is taken at the bound of R26, 60 µs after the line is free; the
line counts as busy until the frame has gone out. With VCONN low a SOP′ or SOP″ message fails at once (R79). -/
def Dev.txArm (d : Dev) (p : Nat) : Dev :=
  match d.txs p with
  | [] => d.stop (T.rx p)
  | f :: _ =>
    if f.sop ≠ 0 ∧ d.bit F.SYS_SUPPLY_VCONNLOW then d.arm (T.rx p) 0
    else
      let from_ := d.now + d.lineWait p
      let til := from_ + 3840 + frameTicks f.objs.length
      let d := ((d.put (H.txFrom p) (from_ + 1)).lineUse p (til + 1024)).put (T.rx p) (til + 64000 + 1)
      if f.kind = 27 ∧ f.tries = 0 then d.put (T.ceilEop p) (til + 1) else d

/-- A message is handed to the transmitter. -/
def Dev.tx (d : Dev) (p : Nat) (f : TxFrame) : Dev :=
  let q := d.txs p
  let d := d.setTxs p (q ++ [f])
  if q.isEmpty then d.txArm p else d

/-- A message on SOP, control or data; `kind` says what follows its GoodCRC. -/
def Dev.txSop (d : Dev) (p msg : Nat) (objs : List Nat) (kind : Nat) : Dev := d.tx p ⟨0, msg, false, objs, kind, 0⟩

/-- The data objects that chunk k of an extended message of n bytes puts on the line: the extended header (Data Size, Chunk Number,
Chunked), then up to 26 bytes of the data block, which is given as words (R195). -/
def extObjs (n k : Nat) (ws : List Nat) : List Nat :=
  let len := min 26 (n - 26 * k)
  let block := (ws.reverse.foldl (fun a w => a * 2 ^ 32 + w % 2 ^ 32) 0) >>> (208 * k) % 2 ^ (8 * len)
  let wire := block * 65536 + 2 ^ 15 + k % 16 * 2 ^ 11 + n % 512
  (List.range (cdiv (len + 2) 4)).map (fun i => bits wire (32 * i) 32)

/-- Chunk k of an extended message of n bytes on SOP. -/
def Dev.txExt (d : Dev) (p typ n k : Nat) (ws : List Nat) (kind : Nat) : Dev :=
  d.tx p ⟨0, 64 + typ, true, extObjs n k ws, kind, 0⟩

def Dev.txClear (d : Dev) (p : Nat) : Dev := ((d.setTxs p []).stop (T.rx p)).clr (H.firstKind p)

/-- The message header of a frame as it is sent: message type, data role and power role (bit 8, 1 as source), Specification Revision
3.0, or 2.0 to a PD 2.0 partner (R193), MessageID, number of objects, Extended. On SOP′ and SOP″ bit 8 is 0, for a port. The data
role is that of the port's entry: DFP where it came as source, for there is no DR_Swap. -/
def Dev.sentHeader (d : Dev) (p : Nat) (f : TxFrame) : Nat :=
  f.msg % 32 + (if f.sop = 0 then b2n (!d.bit (H.snkEntry p)) * 32 + b2n (d.isSrc p) * 256 else 0) +
    (if d.pd2 p then 1 else 2) * 64 + d.get (H.txMid p f.sop) * 512 + f.objs.length % 8 * 4096 + b2n f.ext * 32768

/-- The frame at the head is done with, acknowledged or not: the MessageID counter of its packet type moves on (R2). -/
def Dev.txDone (d : Dev) (p : Nat) (f : TxFrame) (rest : List TxFrame) : Dev :=
  (((d.setTxs p rest).clr (H.firstKind p)).inc (H.txMid p f.sop)).txArm p

/-- A GoodCRC has come in: the line counts as busy for 1,024 ticks more. -/
def Dev.lineAck (d : Dev) (p : Nat) : Dev := d.lineUse p (d.now + 1024)

/-- MessageID counters and what is kept of received headers start anew (R2). -/
def Dev.midReset (d : Dev) (p : Nat) : Dev :=
  d.puts [(H.txMid p 0, 0), (H.txMid p 1, 0), (H.txMid p 2, 0), (H.rxHdr p 0, 0), (H.rxHdr p 1, 0), (H.rxHdr p 2, 0)]

/-- Ticks from the stamp of a received message to the end of its GoodCRC, which starts at the bound of R26. -/
def goodCrcTicks : Nat := 2560 + frameTicks 0

/-- A message of n objects has been received: GoodCRC answers it, at the bound of 40 µs of R26 at the latest, the line is busy until
it has gone out, and a PD response has been seen (R181, R194, R220). The line was busy while the message came in, which blanked the
comparators (R166). -/
def Dev.rxSeen (d : Dev) (p n : Nat) : Dev :=
  let start := max (d.now - frameTicks n) (d.get (H.blankTo p))
  let d := if d.bit (H.rpDue p) then d.put (H.rpDue p) (d.get (H.rpDue p) + (d.now - start)) else d
  let d := ((d.inc (H.gcSent p)).puts [(H.hrTry p, 0), (H.gcTo p, d.now + goodCrcTicks)]).lineUse p (d.now + goodCrcTicks + 1024)
  if d.bankedPort p then d.wake 7 else d

/-- A message with a header is a repeat of the last one of its packet type: the same header, MessageID included, within the time of a
retry, tReceive at its longest and the frame (R2). DESIGN CHOICE (log entry 121). -/
def Dev.rxRepeat (d : Dev) (p sop hdr : Nat) : Bool :=
  d.get (H.rxHdr p sop) == hdr % 65536 + 1 &&
    decide (d.now ≤ d.get (H.rxAt p sop) + 70400 + 3840 + 1024 + frameTicks (bits hdr 12 3))

/-- The header of a message received is kept. -/
def Dev.rxNote (d : Dev) (p sop hdr : Nat) : Dev := d.puts [(H.rxHdr p sop, hdr % 65536 + 1), (H.rxAt p sop, d.now)]

/-! ### Exchanges (R191, R201-R203, R236) -/

/-- The engine presents SinkTxNG or SinkTxOK on the active line (R183, R201). -/
def Dev.setRp (d : Dev) (p : Nat) (ng : Bool) : Dev :=
  if d.isSrc p then d.puts [(F.PRT_ATT_STAT_RPOWN p, if ng then 1 else 2), (F.PRT_PE_STAT_TXNG p, b2n ng)] else d

/-- An exchange is in progress at the port. -/
def Dev.busy (d : Dev) (p : Nat) : Bool :=
  d.bit (H.exOn p) || d.askOut p || !(d.txs p).isEmpty || d.bit (H.await p) || d.bit (H.xferOn p) || d.bit (H.vdmWhat p)

/-- An exchange begins, with the service time of its kind in ms. -/
def Dev.exBegin (d : Dev) (p : Nat) (own : Bool) (s : Nat) : Dev :=
  if d.bit (H.exOn p) then d
  else d.puts [(H.lookEx p, 0), (H.exOn p, 1), (H.exOwn p, b2n own), (H.exStart p, d.now), (H.exS p, s), (H.prevState p, d.pe p)]

/-- The policy engine state between exchanges. -/
def Dev.restState (d : Dev) (p : Nat) : Nat :=
  if d.isSrc p then (if d.explicit p then 5 else 2) else if d.explicit p then 11 else 7

/-- An own exchange or a command waits for its start. -/
def Dev.pendingOwn (d : Dev) (p : Nat) : Bool :=
  d.bit (H.want p) || d.bit (H.cmdHeld p) || (!d.bit (H.cmdRun p) && decide (0 < queued (d.cmds p)))

/-- Collision avoidance ends: SinkTxOK unless another exchange of the engine's own waits, which the scheduler starts (R201). -/
def Dev.sched (d : Dev) (p : Nat) : Dev :=
  (if d.pendingOwn p then d else d.setRp p false).arm (T.cmdStart p) 0

/-- R201 and R203 permit a start now: a PD 3.x sink waits for SinkTxOK. -/
def Dev.permitted (d : Dev) (p : Nat) : Bool := !(d.isSnk p && d.pd3 p) || d.get (H.rpLevel p) == 5

/-- The exchange in progress ends in a state. -/
def Dev.exEndIn (d : Dev) (p st : Nat) : Dev :=
  ((d.puts [(H.exOn p, 0), (H.exOwn p, 0), (H.await p, 0), (T.senderResp p, 0), (H.waits p, 0), (H.vdmWhat p, 0),
    (T.vdmResp p, 0), (T.vdmBusy p, 0), (H.hpmVerd p, 0), (H.exAns p, 0), (H.reqHeld p, 0)]).setPe p st).sched p

/-- An exchange of the engine's own is open that its partner discovery has left so for the HPM entry (R274). -/
def Dev.lookOpen (d : Dev) (p : Nat) : Bool := d.bit (H.exOn p) && d.bit (H.exOwn p) && d.bit (H.lookEx p)

def Dev.exEnd (d : Dev) (p : Nat) : Dev := d.exEndIn p (d.restState p)

/-- The partner's query begins an exchange of its own, which the reply ends, with the service time of its kind in ms (R236). -/
def Dev.queryBegin (d : Dev) (p s : Nat) : Dev := if d.bit (H.exOn p) then d else (d.exBegin p false s).set1 (H.exAns p)

/-- A reply is awaited for tSenderResponse. -/
def Dev.awaitReply (d : Dev) (p what : Nat) : Dev := (d.put (H.await p) what).arm (T.senderResp p) (msTicks 30)

def Dev.awaitEnd (d : Dev) (p : Nat) : Dev := d.puts [(H.await p, 0), (T.senderResp p, 0)]

/-- The own exchange of kind k is wanted; the scheduler starts it (R201, R203). -/
def Dev.wantOwn (d : Dev) (p k : Nat) : Dev := (d.putBit (H.want p) k true).arm (T.cmdStart p) 0

/-! ### Leaving the Attached states -/

/-- HPM is left without messages (R306); the identity is cleared with it (R285). -/
def Dev.hpmLeave (d : Dev) (p : Nat) : Dev :=
  let d := d.puts [(T.hpmOffer p, 0), (T.hpmTrans p, 0), (T.hpmReady p, 0), (T.hpmRpt p, 0), (T.vdmMode p, 0),
    (T.tpoll p, 0), (H.hpmCmd p, 0), (H.hpmProf p, 0), (H.hpmHeld p, 0), (H.hpmRepeat p, 0), (H.hpmVerd p, 0),
    (F.PRT_HPM_STAT_STATE p, 0), (H.hpmWaits p, 0), (H.ceilCmdRun p, 0), (T.ownCeil p, 0), (T.ceilEop p, 0), (H.ceilWait p, 0),
    (H.enterAck p, 0)]
  if d.bit (H.hpmOn p) then
    ((d.puts [(H.hpmOn p, 0), (F.PRT_HPM_CEIL_PCEIL p, 4095), (F.PRT_HPM_CEIL_CEIL p, 0)]).hpmEvt p
      (F.PRT_HPM_EVT_EXIT p)).identityClear p
  else d

/-- Every protocol timer of the port stops and nothing is awaited. -/
def Dev.protoOff (d : Dev) (p : Nat) : Dev :=
  (d.txClear p).puts [(T.senderResp p, 0), (T.sinkTx p, 0), (T.capsReady p, 0), (T.sendCaps p, 0), (T.waitCap p, 0),
    (T.srcTrans p, 0), (T.pgto p, 0), (T.psTrans p, 0), (T.sinkReq p, 0), (T.enterEpr p, 0), (T.chunk p, 0),
    (T.psHr p, 0), (T.safe0v p, 0), (T.srcRec p, 0), (T.bist p, 0), (T.prWait p, 0), (T.backOff p, 0), (T.swGates p, 0),
    (T.psOff p, 0), (T.psOn p, 0), (T.swVbs p, 0), (T.swStart p, 0), (T.vdmBusy p, 0), (T.vdmResp p, 0), (T.discId p, 0),
    (T.vdmMode p, 0), (T.pilot p, 0), (T.hpmOffer p, 0), (T.hpmTrans p, 0), (T.hpmReady p, 0), (T.hpmRpt p, 0),
    (H.await p, 0), (H.exOn p, 0), (H.exOwn p, 0), (H.ownWait p, 0), (H.want p, 0), (H.waits p, 0), (H.vdmWhat p, 0),
    (H.hrPhase p, 0), (H.offerDue p, 0), (H.vs5req p, 0), (H.bist p, 0), (H.hpmVerd p, 0), (H.hpmRepeat p, 0),
    (H.xferOn p, 0), (H.xferKind p, 0), (H.settleOn p, 0), (T.ramp p, 0), (H.exAns p, 0), (H.psDone p, 0), (H.rampReq p, 0),
    (H.reqHeld p, 0), (H.bistData p, 0), (H.swAns p, 0), (T.hrDone p, 0)]

/-- VCONN opens (R178). -/
def Dev.vconnOff (d : Dev) (p : Nat) : Dev :=
  d.puts [(F.PRT_ATT_STAT_VCONNON p, 0), (F.PRT_PE_STAT_VCSRC p, 0), (H.padVcon p, 0)]

/-- The end of a swap exchange: STEP 0 and LASTEND; FAIL for a failure after t_c (R258, R268). -/
def Dev.swapOver (d : Dev) (p last : Nat) : Dev :=
  let d := d.puts [(F.PRT_SWAP_STAT_STEP p, 0), (F.PRT_SWAP_STAT_LASTEND p, last), (H.swAcc p, 0), (H.keepLim p, 0),
    (H.swWaits p, 0), (H.swBack p, 0)]
  if last ≥ 7 then d.swapEvt p (F.PRT_SWAP_STAT_FAIL p) else d

/-- Protocol, contract, modes and commands of the port end: the common part of a detach, Disabled, ErrorRecovery and
EmergencyStop. `swapCode` is the LASTEND of an accepted swap that this ends. -/
def Dev.portEnd (d : Dev) (p swapCode : Nat) : Dev :=
  let d := d.midReset p
  let acc := d.bit (H.swAcc p)
  let inSwap := acc || d.bit (F.PRT_SWAP_STAT_STEP p)
  let d := (((d.askCancel p).conVoid p false).eprEnd p).hpmLeave p
  let d := if inSwap then
      (d.cmdJoined p (some (if swapCode = 11 then 7 else 6))).swapOver p (if acc then swapCode else 6)
    else d
  let d := if acc && swapCode == 11 then d.cmdEnd p 7 else d
  let d := ((d.cmdAbortAll p).protoOff p).vconnOff p
  (d.puts [(H.firstCon p, 0), (H.ptnDone p, 0), (H.cblDone p, 0), (H.hpmNo p, 0), (H.pilot p, 0), (H.reneg p, 0),
    (T.reneg p, 0), (T.noResp p, 0), (H.resume p, 0), (F.PRT_PE_STAT_TXNG p, 0), (F.PRT_ATT_STAT_RPOWN p, 0),
    (H.vexp p, 500), (H.snkMask p, 0), (H.vcsOff p, 0), (H.vcsTry p, 0), (H.eprArmed p, 0),
    (H.hpmPend p, 0), (H.vsafe5 p, 0), (T.hpmCond p, 0)]).setPe p 0

/-- A Type-C state entered; participation in Contour changes with it (R354). -/
def Dev.attSet (d : Dev) (p st : Nat) : Dev :=
  let d := d.put (F.PRT_ATT_STAT_STATE p) st
  if st = 3 ∨ st = 8 ∨ st = 10 then
    if d.get (F.BUDP_STAT_PART p) = 0 then
      (d.put (F.BUDP_STAT_PART p) (if d.sinkRole p then 2 else 1)).contourPort p 1
    else d
  else if d.get (F.BUDP_STAT_PART p) = 0 then d
  else (d.puts [(F.BUDP_STAT_PART p, 0), (H.budNoCap p, 0)]).contourPort p 1

/-- Type-C timers of the port stop. -/
def Dev.attTimersOff (d : Dev) (p : Nat) : Dev :=
  d.puts [(H.ccSettle p, 0), (H.rpDue p, 0), (T.toggle p, 0), (T.rest p, 0), (T.ccDb p, 0), (T.pdDb p, 0), (T.drpTry p, 0), (T.tryDb p, 0), (T.errRec p, 0)]

/-- Length of a toggle phase in ticks (R174, R175). -/
def Dev.phaseTicks (d : Dev) (p : Nat) (src : Bool) : Nat :=
  d.get (F.PRT_TOGGLE_PERIOD p) * 640 *
    (if src then d.get (F.PRT_TOGGLE_DUTY p) else 100 - d.get (F.PRT_TOGGLE_DUTY p))

/-- The line on which exactly one end is seen, with Open or Ra on the other: 0 none, 1 CC1, 2 CC2 (R171). -/
def seenLine (good : Nat → Bool) (a b : Nat) : Nat :=
  if good a && decide (b ≤ 1) then 1 else if good b && decide (a ≤ 1) then 2 else 0

def isRdCode (c : Nat) : Bool := c == 2
def isRpCode (c : Nat) : Bool := c == 3 || c == 4 || c == 5
/-- Rd seen, Rp seen: the line, 0 if none. -/
def Dev.rdSeen (d : Dev) (p : Nat) : Nat := seenLine isRdCode (d.cc1 p) (d.cc2 p)
def Dev.rpSeen (d : Dev) (p : Nat) : Nat := seenLine isRpCode (d.cc1 p) (d.cc2 p)
def Dev.tccdb (d : Dev) (p : Nat) : Nat := msTicks (d.get (F.PRT_DEBOUNCE_TCCDB p))
def Dev.tpddb (d : Dev) (p : Nat) : Nat := msTicks (d.get (F.PRT_DEBOUNCE_TPDDB p))

/-- The code of the inactive line. -/
def Dev.idleLine (d : Dev) (p : Nat) : Nat := if d.get (F.PRT_ATT_STAT_ORIENT p) = 1 then d.cc2 p else d.cc1 p
def Dev.activeLine (d : Dev) (p : Nat) : Nat := if d.get (F.PRT_ATT_STAT_ORIENT p) = 1 then d.cc1 p else d.cc2 p

/-- Ra on the inactive line, as the status reports it. -/
def Dev.raUpdate (d : Dev) (p : Nat) : Dev :=
  d.put (F.PRT_ATT_STAT_RAPRES p) (b2n (d.get (F.PRT_ATT_STAT_ORIENT p) != 0 && d.idleLine p == 1))

/-- Resumption ends: the port is Attached in its role, and an open line of a source is debounced from now. -/
def Dev.resumeEnd (d : Dev) (p : Nat) : Dev :=
  if d.resuming p then
    let d := (d.attSet p (if d.bit (H.grdSink p) then 3 else 8)).clr (H.resume p)
    if d.att p = 8 ∧ d.activeLine p = 0 then
      d.arm (T.pdDb p) (d.tpddb p)
    else d
  else d.clr (H.resume p)

/-- An Unattached port sees an end: AttachWait (R171, R176, R177). -/
def Dev.recognise (d : Dev) (p : Nat) : Dev :=
  let line := if d.att p = 1 then d.rpSeen p else if d.att p = 4 then d.rdSeen p else 0
  if line = 0 then d
  else
    let d := d.puts [(F.PRT_ATT_STAT_STATE p, if d.att p = 1 then 2 else 5), (F.PRT_ATT_STAT_ORIENT p, line),
      (F.PRT_ATT_STAT_RPOWN p, if d.att p = 1 then 0 else 2), (T.toggle p, 0), (T.rest p, 0)]
    let d := d.attEvt p (F.PRT_ATT_EVT_RECOG p)
    ((d.raUpdate p).arm (T.ccDb p) (d.tccdb p)).wake 1

/-- Entry to an Unattached state (R171, R189): ROLE and TRYSRC take effect, the toggle starts with its sink phase. -/
def Dev.unattached (d : Dev) (p : Nat) : Dev :=
  let d := d.attTimersOff p
  let role := d.get (F.PRT_CTRL_ROLE p)
  let d := d.puts [(H.togSrcLen p, d.phaseTicks p true), (H.restLen p, d.get (F.PRT_TOGGLE_BSLEEP p)), (H.rolePend p, role), (H.tryPend p, d.get (F.PRT_CTRL_TRYSRC p)), (F.PRT_ATT_STAT_ORIENT p, 0),
    (H.vconnOc p, 0), (H.toggleSrc p, 0), (H.togglePer p, 0), (H.detaching p, 0), (H.deadBat p, 0), (F.PRT_ATT_STAT_RAPRES p, 0),
    (F.PRT_ATT_STAT_RPOWN p, 0)]
  ((d.attSet p (if role = 1 then 4 else 1)).arm (T.toggle p) (d.phaseTicks p false)).recognise p

/-- ErrorRecovery is entered (R171, R341): the stop is STOPWHY `why` unless one is already under way. -/
def Dev.errRecover (d : Dev) (p why swapCode : Nat) : Dev :=
  if d.att p = 0 then d
  else
    let d := (((d.portEnd p swapCode).gateStop p why false).vsetOff p).attTimersOff p
    let d := d.puts [(F.PRT_ATT_STAT_ORIENT p, 0), (F.PRT_ATT_STAT_RAPRES p, 0), (H.detaching p, 0)]
    (d.attSet p 9).arm (T.errRec p) (msTicks 30)

/-- A cause of Disabled arises (R172): a soft stop first, the contract is void. -/
def Dev.disable (d : Dev) (p cause why : Nat) : Dev :=
  let d := d.putBit (F.PRT_ATT_STAT_DISWHY p) cause true
  if d.att p = 0 then d
  else
    let d := (((d.portEnd p 7).gateStop p why false).vsetOff p).attTimersOff p
    (d.puts [(F.PRT_ATT_STAT_ORIENT p, 0), (F.PRT_ATT_STAT_RAPRES p, 0), (H.detaching p, 0), (H.vconnOc p, 0)]).attSet p 0

/-- A cause of Disabled clears; with the last of them the port enters an Unattached state (R173). -/
def Dev.enableCause (d : Dev) (p cause : Nat) : Dev :=
  let was := d.get (F.PRT_ATT_STAT_DISWHY p)
  let d := d.putBit (F.PRT_ATT_STAT_DISWHY p) cause false
  if was ≠ 0 ∧ d.get (F.PRT_ATT_STAT_DISWHY p) = 0 ∧ d.att p = 0 ∧ d.mode ≠ 2 then
    (d.unattached p).set1 (H.deadBat p)
  else d

/-- A transition in progress is abandoned (R218): no closing message follows, and a source's setpoint goes back to that of its
contract, vSafe5V without one. DEDUCED (log entry 123). -/
def Dev.xferAbandon (d : Dev) (p : Nat) : Dev :=
  let on := d.bit (H.xferOn p)
  let d := d.puts [(T.srcTrans p, 0), (T.psTrans p, 0), (T.pgto p, 0), (H.settleOn p, 0), (H.psDone p, 0), (H.rampReq p, 0),
    (H.xferOn p, 0)]
  if on && d.isSrc p then (d.rampTo p (if d.explicit p then d.conVolt p else 500)).put (H.xferKind p) 4
  else d.put (H.xferKind p) 0

/-- A protocol error is answered by Soft_Reset (R195, R218): the exchange is abandoned, the ask cancelled. -/
def Dev.softReset (d : Dev) (p : Nat) : Dev :=
  let d := (((d.askCancel p).txClear p).xferAbandon p).midReset p
  let d := d.puts [(H.exOn p, 0), (H.exOwn p, 0), (H.exAns p, 0), (H.vdmWhat p, 0), (T.vdmResp p, 0), (T.vdmBusy p, 0), (T.sendCaps p, 0), (T.waitCap p, 0), (T.sinkReq p, 0),
    (T.psTrans p, 0), (T.enterEpr p, 0), (H.offerDue p, 0), (T.sinkTx p, 0), (H.ownWait p, 0), (T.hpmOffer p, 0),
    (T.hpmRpt p, 0), (T.discId p, 0), (T.chunk p, 0)]
  ((((d.exBegin p true 700).setPe p 16).awaitEnd p).txSop p 13 [] 5).peEvt p (F.PRT_PE_EVT_SOFTRST p)

/-- A protocol error sets PROTERR (R232). -/
def Dev.protErr (d : Dev) (p : Nat) : Dev := (d.softReset p).peEvt p (F.PRT_PE_EVT_PROTERR p)

/-- Hard_Reset, sent or received (R219): the contract is void, HRCNT counts, modes and asks end. A HARD_RESET command
that is being sent is not aborted. -/
def Dev.hardResetCommon (d : Dev) (p : Nat) : Dev :=
  let d := d.resumeEnd p
  let own := d.bit (H.cmdRun p) && ((d.cmds p).map (·.code)).headD 0 == 0x1D
  let d := (((d.askCancel p).conVoid p false).eprEnd p).hpmLeave p
  let d := if d.bit (F.PRT_SWAP_STAT_STEP p) then (d.cmdJoined p (some 6)).swapOver p 6 else d
  let d := if own then d else (d.cmdUnheld p).cmdEnd p 6
  let d := ((d.protoOff p).midReset p).puts [(H.firstCon p, 0), (H.ptnDone p, 0), (H.hpmNo p, 0), (H.vsafe5 p, 0),
    (H.snkMask p, 2 * b2n (d.isSnk p)), (H.maskEnd p, 0), (F.PRT_PE_STAT_HRCNT p, min 3 (d.get (F.PRT_PE_STAT_HRCNT p) + 1))]
  (((d.setRp p false).exBegin p true 1800).setPe p 17).peEvt p (F.PRT_PE_EVT_HARDRST p)

/-- The power recovery of R219: as source tPSHardReset; as sink the setpoint falls to 0 and the gates stop. -/
def Dev.hardRecover (d : Dev) (p : Nat) : Dev :=
  if d.isSnk p then ((d.setIset p 0).gateStop p 20 false).put (H.hrPhase p) (if d.bit (F.PRT_ATT_STAT_VBS0 p) then 6 else 5)
  else (d.put (H.hrPhase p) 2).arm (T.psHr p) (msTicks 30)

/-- The engine sends Hard_Reset; HARD_RESET_SIGNALLING_SENT follows, by tHardResetComplete (R197, R239). -/
def Dev.hardReset (d : Dev) (p : Nat) : Dev :=
  if d.attached p then
    ((d.hardResetCommon p).put (H.hrPhase p) 1).arm (T.hrDone p) 288000
  else d

/-- The port enters NO_PD (R220). A sink's Type-C current comes with the end of its inrush (R211). DESIGN CHOICE (log entry 124):
tNoResponse runs from this entry. -/
def Dev.noPd (d : Dev) (p : Nat) : Dev :=
  let d := (((d.cmdEnd p 3).protoOff p).exEndIn p 19).peEvt p (F.PRT_PE_EVT_NOPD p)
  let d := d.arm (T.noResp p) (msTicks 5000)
  if d.isSnk p then d.setIset p (d.sinkPoint p) else d

end Sys2Proof.Machine
end

