-- ==== Sys2Proof/Machine/Guard.lean ====
section
/-!
DEFINITION. Sys2Proof/Machine/Guard.lean: the power path guard: turning on, trips, limits, discharge (R310-R350). A trip
command carries the measured value that stood for the trip's persistence time; currents in mA, voltages in mV.
-/
namespace Sys2Proof.Machine

/-! ### Turning on (R317-R320) -/

/-- All conditions of R317. -/
def Dev.turnOnOk (d : Dev) (p : Nat) : Bool :=
  d.bit (F.GRD_STAT_VALID p) && !d.bit (F.GRD_TRIP_LOCKOUT p) && !d.bit (F.GRD_STAT_OTBLK p) &&
    d.bit (F.GRD_GZI_IINR p) && d.bit (F.GRD_GZI_RBASE p) && d.bit (F.GRD_GZI_RMAX p) && d.bit (F.GRD_GZI_PSOA p) &&
    d.bit (F.GRD_GZI_TSOA p)

/-- The inrush rate R in 0.1 V/ms (R320). -/
def Dev.inrushR (d : Dev) (p : Nat) : Nat :=
  let f := if d.bit H.kindleStart && !d.bit (H.inrushDone p) then 2 ^ d.get F.SYS_MODE_KNOBS_INRUSH else 1
  min (d.get (F.GRD_GZI_RBASE p) * f) (d.get (F.GRD_GZI_RMAX p))

/-- A pending request is granted: DIS off, and 10 µs later the inrush, which TSOA bounds; Q restarts. -/
def Dev.turnOn (d : Dev) (p : Nat) : Dev :=
  let d := d.stop (T.turnOn p)
  if d.bit (F.GRD_STAT_PEND p) && d.gates p == 0 && d.turnOnOk p then
    let r := d.inrushR p
    ((d.disOff p).puts [(F.GRD_STAT_PEND p, 0), (F.GRD_STAT_GATES p, 1), (H.grdQ p, 0), (F.GRD_STAT_Q p, 0),
      (H.inrushRate p, r), (H.inrushDone p, 1), (T.disAgain p, 0)]).arm (T.tsoa p)
        (640 + d.get (F.GRD_GZI_TSOA p) * 320000)
  else d

def execTurnOnGrant (p : Fin 24) (s : State) : Host.Outcome State Fault Refusal := s.ok (·.turnOn p.val)

/-- VBS of a source stands in the vSafe5V range with its inrush ended (R204): capabilities may follow. -/
def Dev.vsafeCheck (d : Dev) (p vbs : Nat) : Dev :=
  if d.isSrc p && d.gates p == 2 && !d.bit (H.vsafe5 p) && decide (4750 ≤ vbs) && decide (vbs ≤ 5500) then
    (d.set1 (H.vsafe5 p)).arm (T.capsReady p) 0
  else d

/-- The inrush ends with both gates fully on (R319). A sink then draws: 0.50 A without a contract (R211). -/
def Dev.inrushEnd (d : Dev) (p vbs : Nat) : Dev :=
  if d.gates p = 1 then
    let d := d.puts [(F.GRD_STAT_GATES p, 2), (T.tsoa p, 0), (H.snkInrush p, 0)]
    if d.isSnk p && !d.bit (H.swAcc p) then d.setIset p (d.sinkPoint p) else d.vsafeCheck p vbs
  else d

def execInrushEnd (p : Fin 24) (vbs : Nat) (s : State) : Host.Outcome State Fault Refusal := s.ok (·.inrushEnd p.val vbs)

/-- A stop ends with both gates off: DIS turns on (R342). EmergencyStop ends once VBS is low (R171). -/
def Dev.stopComplete (d : Dev) (p : Nat) : Dev :=
  if d.gates p = 3 then
    let d := (d.puts [(F.GRD_STAT_GATES p, 0), (T.gateOff p, 0)]).disOn p
    let d := if d.bit (F.GRD_STAT_PEND p) then d.arm (T.turnOn p) 0 else d
    if d.att p = 11 ∧ d.bit (F.PRT_ATT_STAT_VBS0 p) then d.unattached p
    else if d.bit (H.detaching p) && d.bit (F.PRT_ATT_STAT_VBS0 p) then d.unattached p
    else d
  else d

/-! ### Trips (R330-R339) -/

/-- The latch of a trip code; with its bit in GRDnn_IE the guard event (R349). -/
def Dev.tripLatch (d : Dev) (p code : Nat) : Dev :=
  let d := d.hwBit (F.GRD_TRIP_LATCH p) (code - 1)
  if d.getBit (F.GRD_IE_IE p) code then d.raisePort p 5 else d

/-- The trips of the port in the last 60 s, newest first. -/
def Dev.tripTimes (d : Dev) (p : Nat) : List Nat :=
  (tget [] d.hist p).filter (fun t => decide (d.now ≤ t + 60 * 64000000))

/-- The trip is counted, those of one instant once (R337); RETRY trips in 60 s set LOCKOUT (R339). -/
def Dev.tripCount (d : Dev) (p : Nat) : Dev :=
  let l := d.tripTimes p
  if l.head? = some d.now then d
  else
    let l := d.now :: l
    let d := ({ d with hist := tput [] d.hist p l }).put (F.GRD_STAT_TRIPCNT p) (min 7 l.length)
    if d.get (F.GRD_CTRL_RETRY p) ≠ 0 ∧ d.get (F.GRD_CTRL_RETRY p) ≤ l.length then d.grdEvt p (F.GRD_TRIP_LOCKOUT p) else d

/-- The guard is in the hold of an asserted L2 (R344). -/
def Dev.inHold (d : Dev) : Bool := d.get H.rstHeld == 2

/-- The consequences of a trip that makes a stop (R338). -/
def Dev.tripEffects (d : Dev) (p : Nat) : Dev := ((d.segClose p 2 true).errRecover p 18 7).wake 14

/-- A trip during hold: the guard makes the stop on the pads alone and records its cause (R344); a hard one turns a soft stop hard
(R315), and of the trips of one instant the lowest code is the cause (R337). -/
def Dev.tripHold (d : Dev) (p code : Nat) (hard : Bool) : Dev :=
  let off := d.now + 1 + if hard then 13 else stopTicks (d.get (H.padSlew p))
  let g := d.get (H.padGates p)
  if g = 1 ∨ g = 2 then
    d.puts [(H.padGates p, 3), (H.padOff p, off), (H.holdWhy p, code), (H.holdKind p, if hard then 2 else 1), (H.holdAt p, d.now + 1)]
  else if g = 3 ∧ d.now < d.get (H.padOff p) then
    let d := if hard && d.get (H.holdKind p) == 1 then d.puts [(H.holdKind p, 2), (H.padOff p, off)] else d
    if d.get (H.holdAt p) = d.now + 1 then d.put (H.holdWhy p) (min code (d.get (H.holdWhy p))) else d
  else d

/-- A trip (R315, R336-R338). DEDUCED (log entry 133): a trip recognised during a stop latches, counts and locks out as any trip does;
R315 lets it change nothing of the stop. An L3 holds the latches cleared (R344). DESIGN CHOICE (log entry 144): in the hold of a reset
it triggers no snapshot. -/
def Dev.trip (d : Dev) (p code : Nat) (hard lock : Bool) : Dev :=
  if d.get H.rstHeld = 3 then d
  else
  let d := ((d.tripLatch p code).tripCount p).when (!d.inHold) (·.snapTrip p)
  let d := if lock then d.grdEvt p (F.GRD_TRIP_LOCKOUT p) else d
  if d.inHold then d.tripHold p code hard
  else if code = 4 then
    (d.puts [(F.GRD_STAT_STOPKIND p, 3), (F.GRD_STAT_STOPWHY p, 4)]).tripEffects p
  else if d.gates p = 0 then d
  else if d.gates p = 3 then
    let same := d.get (H.stopTick p) == d.now + 1
    let why := d.get (F.GRD_STAT_STOPWHY p)
    let d := if hard then d.gateStop p code true else d
    if same then
      let d := d.put (F.GRD_STAT_STOPWHY p) (min why code)
      if why ≥ 16 then d.tripEffects p else d
    else d
  else (d.gateStop p code hard).tripEffects p

/-- Current above EFF IFAST with the gates on (code 1); FAST stays armed through a stop (R346). -/
def Dev.tripFast (d : Dev) (p i : Nat) : Dev :=
  if (d.gates p != 0 || (d.inHold && d.bit (H.padGates p) && d.bit (H.effEver p))) && decide (i > d.effIfast p * 500) then d.trip p 1 true false else d

def execTripFast (p : Fin 24) (i : Nat) (s : State) : Host.Outcome State Fault Refusal := s.ok (·.tripFast p.val i)

/-- A gate below PnnSNS + 8 V for 2 µs after the gates have turned on fully (code 2, R316). -/
def Dev.tripGate (d : Dev) (p : Nat) : Dev :=
  if d.gates p == 2 || (d.inHold && d.get (H.padGates p) == 2) then d.trip p 2 true true else d

def execTripGate (p : Fin 24) (s : State) : Host.Outcome State Fault Refusal := s.ok (·.tripGate p.val)

/-- An inrush over TSOA, or |Vpair| × |I| above PSOA for 100 µs (code 3). -/
def Dev.tripSoa (d : Dev) (p : Nat) (time : Bool) (vpair i : Nat) : Dev :=
  if time then
    if d.gates p = 1 ∧ d.armed (T.tsoa p) then (d.stop (T.tsoa p)).trip p 3 true false else d.stop (T.tsoa p)
  else if d.gates p = 1 ∧ vpair * i > d.get (F.GRD_GZI_PSOA p) * 5000000 then d.trip p 3 true false else d

def execTripSoa (p : Fin 24) (time : Bool) (vpair i : Nat) (s : State) : Host.Outcome State Fault Refusal :=
  s.ok (·.tripSoa p.val time vpair i)

/-- Current above 0.50 A with both gates off (code 4, R336). -/
def Dev.tripOffcur (d : Dev) (p i : Nat) : Dev :=
  if !d.inHold && d.bit (F.GRD_STAT_VALID p) && d.gates p == 0 && decide (i > 500) then d.trip p 4 false true else d

def execTripOffcur (p : Fin 24) (i : Nat) (s : State) : Host.Outcome State Fault Refusal := s.ok (·.tripOffcur p.val i)

/-- The OV threshold in mV (R328, R332). -/
def Dev.ovLimit (d : Dev) (p : Nat) : Nat :=
  if d.bit (F.GRD_STAT_VALID p) || (d.inHold && d.bit (H.effEver p)) then
    min (d.effOv p * 100) (d.get (H.vexp p) * 10 + max (d.get (H.vexp p)) 1000)
  else 63000

/-- VBS above the OV threshold for 10 µs (code 5). -/
def Dev.tripOv (d : Dev) (p vbs : Nat) : Dev := if vbs > d.ovLimit p then d.trip p 5 false false else d

def execTripOv (p : Fin 24) (vbs : Nat) (s : State) : Host.Outcome State Fault Refusal := s.ok (·.tripOv p.val vbs)

/-- 0.1 A²s in the unit of the accumulator, mA² × 1/64 ms. -/
def i2tUnit : Nat := 6400000000

/-- The accumulator is above the effective budget (code 6, R331). -/
def Dev.tripI2t (d : Dev) (p : Nat) : Dev :=
  let d := d.stop (T.tripI2t p)
  if d.bit (F.GRD_STAT_VALID p) && d.gates p != 0 && decide (d.get (H.grdQ p) > d.effI2t p * i2tUnit) then d.trip p 6 false false
  else d

def execTripI2t (p : Fin 24) (s : State) : Host.Outcome State Fault Refusal := s.ok (·.tripI2t p.val)

/-- Reverse current in mA: against the forward direction of the role (R312). -/
def Dev.reverse (d : Dev) (p : Nat) (i : Int) : Nat := if d.bit (H.grdSink p) then i.toNat else (-i).toNat

/-- Reverse current above EFF IREV for 20 µs outside an inrush (code 7). -/
def Dev.tripRev (d : Dev) (p : Nat) (i : Int) : Dev :=
  if d.gates p == 2 && decide (d.reverse p i > d.effIrev p * 100) then d.trip p 7 false false else d

def execTripRev (p : Fin 24) (i : Int) (s : State) : Host.Outcome State Fault Refusal := s.ok (·.tripRev p.val i)

/-- FET temperature at or above EFF TTRIP for 10 ms (code 8, R334). -/
def Dev.tripOt (d : Dev) (p : Nat) (t : Int) : Dev :=
  if !d.inHold && d.bit (F.GRD_STAT_VALID p) && decide (t ≥ d.effTtrip p) then
    (d.set1 (F.GRD_STAT_OTBLK p)).trip p 8 false false
  else d

def execTripOt (p : Fin 24) (t : Int) (s : State) : Host.Outcome State Fault Refusal := s.ok (·.tripOt p.val t)

/-- An NTC reading out of range for 10 ms (code 9). -/
def Dev.tripNtc (d : Dev) (p : Nat) (t : Int) : Dev :=
  if !d.inHold && d.bit (F.GRD_STAT_VALID p) && (decide (t < -50) || decide (t > 180)) then
    (d.set1 (H.ntcBad p)).trip p 9 false true
  else d

def execTripNtc (p : Fin 24) (t : Int) (s : State) : Host.Outcome State Fault Refusal := s.ok (·.tripNtc p.val t)

/-- VBS below 80 % of the setpoint for 1 ms as source (code 10, R333). -/
def Dev.tripUv (d : Dev) (p vbs : Nat) : Dev :=
  if d.isSrc p && d.bit (F.GRD_CTRL_UVEN p) && d.gates p == 2 && !d.bit (H.xferOn p) &&
    decide (vbs < d.vLevel p * 8) then d.trip p 10 false false else d

def execTripUv (p : Fin 24) (vbs : Nat) (s : State) : Host.Outcome State Fault Refusal := s.ok (·.tripUv p.val vbs)

/-- RA + RB above EFF RPATH in two consecutive windows (code 11, R335). -/
def Dev.tripPath (d : Dev) (p : Nat) : Dev :=
  let d := d.stop (T.tripPath p)
  if d.get (H.pathOver p) ≥ 2 ∧ d.bit (F.GRD_CTRL_PATHEN p) ∧ d.gates p = 2 then d.trip p 11 false true else d

def execTripPath (p : Fin 24) (s : State) : Host.Outcome State Fault Refusal := s.ok (·.tripPath p.val)

/-- FET temperature reaching EFF TTRIP − 10 °C (R334). -/
def Dev.tempWarn (d : Dev) (p : Nat) (t : Int) : Dev :=
  if d.bit (F.GRD_STAT_VALID p) && decide (t ≥ (d.effTtrip p : Int) - 10) && !d.bit (F.GRD_STAT_WARNNOW p) then
    (d.set1 (F.GRD_STAT_WARNNOW p)).grdEvt p (F.GRD_TRIP_WARN p)
  else d

def execTempWarn (p : Fin 24) (t : Int) (s : State) : Host.Outcome State Fault Refusal := s.ok (·.tempWarn p.val t)

/-- FET temperature below EFF TTRIP − 15 °C (R334); the block is held through an L2 (R344). -/
def Dev.tempClear (d : Dev) (p : Nat) (t : Int) : Dev :=
  if !d.inHold && decide (t < (d.effTtrip p : Int) - 15) then
    let d := d.puts [(F.GRD_STAT_WARNNOW p, 0), (F.GRD_STAT_OTBLK p, 0)]
    if d.bit (F.GRD_STAT_PEND p) then d.arm (T.turnOn p) 0 else d
  else d

def execTempBlockClear (p : Fin 24) (t : Int) (s : State) : Host.Outcome State Fault Refusal := s.ok (·.tempClear p.val t)

/-! ### The monitor (R311, R331, R335) -/

/-- The effective limits in mA and the accumulator's next value (R331). -/
def Dev.nextQ (d : Dev) (p i : Nat) : Nat := d.get (H.grdQ p) + i * i - (d.effIlim p * 50) * (d.effIlim p * 50)

/-- The 1 ms averages of GRDnn_MEAS and GRDnn_PATH (R311). DESIGN CHOICE (log entry 134): each average, of 64 samples, is cut toward
zero to the field's unit. -/
def Dev.monAvg (d : Dev) (p : Nat) (i : Int) (vbs : Nat) (t : Int) : Dev :=
  let si := sgn 32 (d.get (H.avgI p)) + i
  let sv := d.get (H.avgV p) + vbs
  let st := sgn 32 (d.get (H.avgT p)) + t
  let n := d.get (H.avgN p) + 1
  if n ≥ 64 then
    d.puts [(H.avgI p, 0), (H.avgV p, 0), (H.avgT p, 0), (H.avgN p, 0), (F.GRD_MEAS_I p, unsgn 16 (Int.tdiv si 640)),
      (F.GRD_MEAS_VBS p, min 8191 (sv / 640)), (F.GRD_PATH_TNTC p, unsgn 9 (Int.tdiv st 64))]
  else d.puts [(H.avgI p, unsgn 32 si), (H.avgV p, sv), (H.avgT p, unsgn 32 st), (H.avgN p, n)]

/-- The 100 ms windows of RA and RB, from the drops across each FET in µV. -/
def Dev.monPath (d : Dev) (p i va vb : Nat) : Dev :=
  let meas := d.gates p == 2 && decide (i ≥ max (d.effIlim p * 5) 1000)
  let d := if meas then d.puts [(H.pathA p, d.get (H.pathA p) + va * 1000 / i), (H.pathB p, d.get (H.pathB p) + vb * 1000 / i),
      (H.pathN p, d.get (H.pathN p) + 1)] else d
  if d.get (H.pathW p) + 1 ≥ 6400 then
    let n := d.get (H.pathN p)
    let ra := d.get (H.pathA p) / max 1 n
    let rb := d.get (H.pathB p) / max 1 n
    let ovr := decide (0 < n) && decide (d.effRpath p ≠ 255) && decide (ra + rb > d.effRpath p * 100)
    let d := d.puts [(H.pathA p, 0), (H.pathB p, 0), (H.pathN p, 0), (H.pathW p, 0), (H.pathMeas p, b2n (decide (0 < n))),
      (H.pathRA p, ra), (H.pathRB p, rb), (F.GRD_PATH_RA p, if n = 0 then 4095 else sat 12 (ra / 10)),
      (F.GRD_PATH_RB p, if n = 0 then 4095 else sat 12 (rb / 10)),
      (H.pathOver p, if ovr then min 2 (d.get (H.pathOver p) + 1) else 0)]
    let d := if d.get (F.GRD_PATH_RA p) = 4095 ∨ d.get (F.GRD_PATH_RB p) = 4095 then d
      else d.puts [(H.pdA p, d.get (H.pdA p) + d.get (F.GRD_PATH_RA p)), (H.pdB p, d.get (H.pdB p) + d.get (F.GRD_PATH_RB p)),
        (H.pdN p, d.get (H.pdN p) + 1)]
    if d.get (H.pathOver p) = 2 ∧ d.bit (F.GRD_CTRL_PATHEN p) then d.arm (T.tripPath p) 0 else d
  else d.inc (H.pathW p)

/-- VBS as ATT_STAT reports it, and the end of a low that DIS was counting. -/
def Dev.vbsLevels (d : Dev) (p vbs : Nat) : Dev :=
  let d := d.puts [(F.PRT_ATT_STAT_VBSOK p, b2n (decide (vbs ≥ 4000))), (F.PRT_ATT_STAT_VBS0 p, b2n (decide (vbs < 800)))]
  if vbs < 800 then d else d.stop (T.disLow p)

/-- The voltage setpoint of an HPM source holds the current at the ceiling: it falls at SLEW down to the offered VMIN and
rises at SLEW up to VOLT, 15.625 µs at each sample (R297). -/
def Dev.regulate (d : Dev) (p i : Nat) : Dev :=
  if d.hpmCon p && d.isSrc p && !d.bit (H.xferOn p) then
    let step := d.get (F.PRT_XFER_SLEW p) * 25 / 16
    let v := d.vLevel p
    let lim := d.get (F.PRT_HPM_CEIL_CEIL p) * 50
    if i > lim then d.vStep p (max (v - step) (min v (4000 + bits (d.get (H.hpmV1 p)) 0 11)))
    else if i < lim then d.vStep p (min (v + step) (d.conVolt p))
    else d
  else d

/-- A Hard_Reset mask of a sink ends once VBS is back at vSafe5V (R213). -/
def Dev.hrUnmask (d : Dev) (p vbs : Nat) : Dev :=
  if d.get (H.snkMask p) = 2 ∧ d.get (H.hrPhase p) ≠ 5 ∧ d.get (H.hrPhase p) ≠ 1 ∧ 4750 ≤ vbs ∧ vbs ≤ 5500 then
    d.clr (H.snkMask p)
  else d

/-- One monitor sample of port p: current in mA, VBS in mV, the drops PnnIN − PnnSNS and PnnSNS − PnnVBS in µV as
magnitudes, FET temperature in °C. -/
def Dev.monSample (d : Dev) (p : Nat) (i : Int) (vbs va vb : Nat) (t : Int) : Dev :=
  if d.get H.rstHeld ≥ 2 then d
  else
    let m := i.natAbs
    let q := if d.bit (F.GRD_STAT_VALID p) then d.nextQ p m else 0
    let d := d.puts [(H.grdQ p, q), (F.GRD_STAT_Q p, min 4095 (q / i2tUnit)),
      (H.ntcBad p, b2n (decide (t < -50) || decide (t > 180))), (H.offCur p, b2n (d.gates p == 0 && decide (m > 500)))]
    let d := if d.gates p != 0 && decide (q > d.effI2t p * i2tUnit) then d.arm (T.tripI2t p) 0
      else d
    let d := (((((d.monAvg p i vbs t).monPath p m va vb).vbsLevels p vbs).vsafeCheck p vbs).regulate p m).hrUnmask p vbs
    if d.bankedPort p && d.bit (F.PRT_BANK_WAKEI p) && decide (m > d.get (F.PRT_BANK_WAKEI p) * 50) then d.wake 4 else d

def execGuardMonitorSample (p : Fin 24) (i : Int) (vbs va vb : Nat) (t : Int) (s : State) :
    Host.Outcome State Fault Refusal := s.ok (·.monSample p.val i vbs va vb t)

/-! ### Latches, limits, discharge -/

/-- A write of GRDnn_TRIP: RW1C bits 17-1; LOCKOUT with TRIPCNT, set again at once while its condition holds (R339).
What hardware has set on the tick of the write stays (R349). -/
def Dev.grdTripWrite (d : Dev) (p v : Nat) : Dev :=
  let d := (((((d.clearOnes (F.GRD_TRIP_LATCH p) (bits v 1 11)).clearOnes (F.GRD_TRIP_WARN p) (bits v 13 1)).clearOnes
    (F.GRD_TRIP_DISTO p) (bits v 14 1)).clearOnes (F.GRD_TRIP_LIMHI p) (bits v 15 1)).clearOnes (F.GRD_TRIP_LIMWR p)
    (bits v 16 1)).clearOnes (F.GRD_TRIP_STOP p) (bits v 17 1)
  if v.testBit 12 && !d.marked (F.GRD_TRIP_LOCKOUT p) 0 then
    let d := ({ d with hist := tput [] d.hist p [] }).puts [(F.GRD_TRIP_LOCKOUT p, 0), (F.GRD_STAT_TRIPCNT p, 0)]
    if d.bit (H.ntcBad p) || d.bit (H.offCur p) then d.grdEvt p (F.GRD_TRIP_LOCKOUT p)
    else if d.bit (F.GRD_STAT_PEND p) then d.arm (T.turnOn p) 0 else d
  else d

def execLockoutClear (p : Fin 24) (v : Word) (s : State) : Host.Outcome State Fault Refusal :=
  s.ok (·.grdTripWrite p.val v.toNat)

/-- The fields of the layouts as (low bit, width). -/
def layout0 : List (Nat × Nat) := [(27, 9), (15, 12), (3, 12)]
def layout1 : List (Nat × Nat) := [(26, 10), (16, 10), (8, 8), (0, 8)]

/-- The bound of R327. -/
def Dev.setBound (d : Dev) (p k : Nat) : List Nat :=
  let ever := d.bit (H.gzEver (p / 4))
  if k = 0 then [d.get F.GRD_OTPB0_LIMITS, d.get (F.GRD_CAP0_LIMITS p)] ++ (if ever then [d.gzb0 p] else [])
  else [d.get F.GRD_OTPB1_LIMITS, d.get (F.GRD_CAP1_LIMITS p)] ++ (if ever then [d.gzb1 p] else [])

/-- A word of layout L0 (k = 0) or L1: the reserved bits of L0 read as 0 (R9, R321). -/
def layoutWord (k v : Nat) : Nat := if k = 0 then v / 8 * 8 else v

/-- A write of GRDnn_SET0 or GRDnn_SET1 (R327). -/
def Dev.grdSetWrite (d : Dev) (p k v : Nat) : Dev :=
  let bound := d.setBound p k
  let good := (if k = 0 then layout0 else layout1).all (fun f =>
    bits v f.1 f.2 == 2 ^ f.2 - 1 || decide (bits v f.1 f.2 ≤ minField f.1 f.2 bound))
  if good then (d.put (if k = 0 then F.GRD_SET0_LIMITS p else F.GRD_SET1_LIMITS p) (layoutWord k v)).effUpdate p
  else d.grdEvt p (F.GRD_TRIP_LIMHI p)

def execGrdSetWrite (p : Fin 24) (k : Fin 2) (v : Word) (s : State) : Host.Outcome State Fault Refusal :=
  s.ok (·.grdSetWrite p.val k.val v.toNat)

/-- A write of GRDnn_CAP0 or GRDnn_CAP1 (R326). -/
def Dev.grdCapWrite (d : Dev) (a : Agent) (p k v : Nat) : Dev :=
  if d.isRom a && !d.bit H.rwlLock then
    (d.put (if k = 0 then F.GRD_CAP0_LIMITS p else F.GRD_CAP1_LIMITS p) (layoutWord k v)).effUpdate p
  else d.grdEvt p (F.GRD_TRIP_LIMWR p)

def execGrdCapWrite (a : Agent) (p : Fin 24) (k : Fin 2) (v : Word) (s : State) : Host.Outcome State Fault Refusal :=
  s.okBy a (·.grdCapWrite a p.val k.val v.toNat)

/-- VBS has stayed below 0.8 V for 1 ms (R342). -/
def Dev.disRelease (d : Dev) (p : Nat) : Dev :=
  if d.armed (T.disLow p) then (d.disOff p).stop (T.disAgain p) else d

def execDisRelease (p : Fin 24) (s : State) : Host.Outcome State Fault Refusal := s.ok (·.disRelease p.val)

/-- DIS has been on for 1 s (R342). -/
def Dev.disTimeout (d : Dev) (p : Nat) : Dev :=
  if d.armed (T.disMax p) then
    let d := (d.disOff p).grdEvt p (F.GRD_TRIP_DISTO p)
    if (d.bit (H.detaching p) || d.att p == 11) && !d.bit (F.PRT_ATT_STAT_VBS0 p) then d.arm (T.disAgain p) (9 * 64000000)
    else d
  else d

def execDisTimeout (p : Fin 24) (s : State) : Host.Outcome State Fault Refusal := s.ok (·.disTimeout p.val)

/-- 9 s after a DISTO with VBS still high (R342). -/
def Dev.disRetry (d : Dev) (p : Nat) : Dev :=
  if d.armed (T.disAgain p) then
    let d := d.stop (T.disAgain p)
    if (d.bit (H.detaching p) || d.att p == 11) && !d.bit (F.PRT_ATT_STAT_VBS0 p) then d.disOn p else d
  else d

def execDisRetry (p : Fin 24) (s : State) : Host.Outcome State Fault Refusal := s.ok (·.disRetry p.val)

/-! ### Reads -/

/-- GRD_SUM0 and GRD_SUM1 (R348). -/
def Dev.readGrdSum0 (d : Dev) : Nat := ((List.range 24).map (fun p => b2n (d.bit (F.GRD_TRIP_LATCH p)) * 2 ^ p)).sum
def Dev.readGrdSum1 (d : Dev) : Nat := ((List.range 24).map (fun p => d.get (F.GRD_TRIP_LOCKOUT p) * 2 ^ p)).sum

/-- HFAULTn is low: a trip latch is set, or the pending bit of E_DLMISS (R66). -/
def Dev.hfaultLow (d : Dev) : Bool := d.get H.rstHeld != 3 && (d.readGrdSum0 != 0 || d.pend 225)

/-- GRDnn_STAT with the trips of the last 60 s counted now. -/
def Dev.readGrdStat (d : Dev) (p : Nat) : Nat :=
  d.get (F.GRD_STAT_Q p) * 2 ^ 24 + d.get (F.GRD_STAT_STOPWHY p) * 2 ^ 19 + d.get (F.GRD_STAT_STOPKIND p) * 2 ^ 17 +
    min 7 (d.tripTimes p).length * 2 ^ 14 + d.get (F.GRD_STAT_OTBLK p) * 2 ^ 12 + d.get (F.GRD_STAT_PEND p) * 2 ^ 11 +
    d.get (F.GRD_STAT_WARNNOW p) * 2 ^ 10 + d.get (F.GRD_STAT_DISON p) * 2 ^ 9 + d.get (F.GRD_STAT_VALID p) * 2 ^ 8 +
    d.gates p

end Sys2Proof.Machine
end

