-- ==== Sys2Proof/Machine/Contour.lean ====
section
/-!
DEFINITION. Sys2Proof/Machine/Contour.lean: the budget arbiter (R351-R371). Powers are in units of 100 mW.
-/
namespace Sys2Proof.Machine

/-! ### Allocation (R357) -/

/-- A port in a budget's run: its floor, its top, class, weight, and what it has been given. -/
structure Share where
  port  : Nat
  floor : Nat
  top   : Nat
  cls   : Nat
  wt    : Nat
  alloc : Nat
  deriving DecidableEq, Repr

/-- The floors of one class, unless a class before it fell short: what is left, whether floors fell short, the shares. -/
def floorStep (c : Nat) (x : Nat × Bool × List Share) : Nat × Bool × List Share :=
  if x.2.1 then x
  else
    let left := x.1
    let need := ((x.2.2.filter (fun s => s.cls == c)).map (·.floor)).sum
    if need ≤ left then
      (left - need, false, x.2.2.map (fun s => if s.cls = c then { s with alloc := s.floor } else s))
    else
      let l := x.2.2.map (fun s => if s.cls = c then { s with alloc := s.floor * left / need } else s)
      (left - ((l.filter (fun s => s.cls == c)).map (·.alloc)).sum, true, l)

/-- A port still to be served in class c. -/
def Share.open_ (s : Share) (c : Nat) : Bool := s.cls == c && decide (0 < s.wt) && decide (s.alloc < s.top)

/-- The last units of a round, one for each open port in port order. -/
def lastUnits (c : Nat) : Nat → List Share → Nat × List Share
  | left, [] => (left, [])
  | left, s :: l =>
    if s.open_ c && decide (0 < left) then
      let r := lastUnits c (left - 1) l
      (r.1, { s with alloc := s.alloc + 1 } :: r.2)
    else
      let r := lastUnits c left l
      (r.1, s :: r.2)

/-- The shares of one class. -/
def shareRounds (c : Nat) : Nat → Nat × List Share → Nat × List Share
  | 0, x => x
  | n + 1, x =>
    let left := x.1
    let a := x.2.filter (·.open_ c)
    if left = 0 ∨ a.isEmpty then x
    else
      let w := (a.map (·.wt)).sum
      let full s := Share.open_ s c && decide (left * s.wt / w ≥ s.top - s.alloc)
      if a.any full then
        shareRounds c n (left - ((x.2.filter full).map (fun s => s.top - s.alloc)).sum,
          x.2.map (fun s => if full s then { s with alloc := s.top } else s))
      else
        let l := x.2.map (fun s => if s.open_ c then { s with alloc := s.alloc + left * s.wt / w } else s)
        lastUnits c (left - (a.map (fun s => left * s.wt / w)).sum) l

/-- One budget's run: what is left, whether floors fell short, the allocations. -/
def allocate (budget : Nat) (l : List Share) : Nat × Bool × List Share :=
  let f := floorStep 3 (floorStep 2 (floorStep 1 (floorStep 0 (budget, false, l))))
  let s := shareRounds 3 25 (shareRounds 2 25 (shareRounds 1 25 (shareRounds 0 25 (f.1, f.2.2))))
  (s.1, f.2.1, s.2)

/-- The armed ports that participate against a budget, in port order (1 charge, 2 discharge). -/
def Dev.shares (d : Dev) (part : Nat) : List Share :=
  ((List.range 24).filter (fun p => d.bit (F.BUDP_STAT_ARMED p) && d.get (F.BUDP_STAT_PART p) == part)).map (fun p =>
    let lim := d.get (H.budLim p)
    let ctl := d.get (H.budCtl p)
    ⟨p, bits lim 0 18, if d.bit (F.BUDP_STAT_REVOKED p) then bits lim 0 18 else bits lim 18 18, bits ctl 4 2, bits ctl 8 8, 0⟩)

/-- The allocation of a port in a run's result. -/
def allocOf (l : List Share) (p : Nat) : Nat :=
  match l.find? (fun s => s.port == p) with
  | some s => s.alloc
  | none => 0

/-! ### What a cap does (R360, R361, R301) -/

/-- The clamp after a recompute, and the guard's effective values where it changes (R362). -/
def Dev.clampWrite (d : Dev) (p : Nat) : Dev :=
  if (d.clampPut p).get (F.GRD_CLAMP_CLAMP p) = d.get (F.GRD_CLAMP_CLAMP p) then d else d.effUpdate p

/-- The own ceiling of an HPM contract, in 50 mA units (R301). -/
def Dev.ownCeilNow (d : Dev) (p : Nat) : Nat :=
  min (min (d.conCurr p / 5) (d.capAt p (d.conVolt p) 50 4095)) (d.get (H.ceilCmd p))

/-- The effective ceiling in force in the regulation (R297, R301). -/
def Dev.ceilApply (d : Dev) (p : Nat) : Dev :=
  let e := min (d.get (H.ownCeil p)) (d.get (F.PRT_HPM_CEIL_PCEIL p))
  let d := d.put (F.PRT_HPM_CEIL_CEIL p) e
  if d.isSnk p then d.setIset p (e * 5) else d

/-- The own ceiling recomputed; a change goes into regulation and is sent (R301, R302). -/
def Dev.ceilUpdate (d : Dev) (p : Nat) : Dev :=
  if d.hpmCon p then
    let c := d.ownCeilNow p
    if c = d.get (H.ownCeil p) then d
    else ((d.puts [(H.ownCeil p, c), (H.ceilTick p, d.now)]).ceilApply p).arm (T.ownCeil p) 0
  else d

/-- A renegotiation request of Contour (R223, R361); in Banked it wakes (R370). -/
def Dev.renegReq (d : Dev) (p : Nat) (up : Bool) : Dev :=
  ((d.puts [(H.reneg p, 1), (H.renegUp p, b2n up), (H.renegTin p, d.get H.budTin)]).arm (T.reneg p) 0).wake 15

/-- The cap change of a port (R361). -/
def Dev.capChange (d : Dev) (p old : Nat) : Dev :=
  match d.cap p with
  | none => d
  | some c =>
    let up := decide (c > old) && d.get (H.budCtl p) / 2 % 2 == 1
    if d.bit (H.swAcc p) then d
    else if d.hpmCon p then
      let d := d.ceilUpdate p
      if up && decide (c * 1000 > d.conVolt p * d.conCurr p) then (d.wantOwn p 8).wake 15 else d
    else if d.explicit p then
      if d.conVolt p * d.conCurr p > c * 1000 then d.renegReq p false
      else if up then d.renegReq p true else d
    else d

/-- The notice of a cap change (R365, R368). -/
def Dev.notice (d : Dev) (p old why : Nat) : Dev :=
  if d.bit (F.BUDP_STAT_ARMED p) && d.get (H.budCtl p) % 2 == 1 && !d.bit (F.BUDP_STAT_REVOKED p) && d.mode != 3 &&
      d.mode != 4 then
    let tin := d.get H.budTin
    let dl := tin + d.get F.BUD_CTRL_ACKDL * 64000
    let d := (d.inc (F.BUDP_STAT_SERIAL p)).puts [(F.BUDP_STAT_NOTEPEND p, 1), (H.budDl p, dl), (T.revoke p, dl + 1)]
    let ch := d.get (F.PRT_ASK_CFG_CHAN p)
    if d.bit (F.PRT_ASK_CFG_CHEN p) then
      if d.hwCredit ch > 0 then
        d.hwEnqueue ch ([7 * 2 ^ 32 + p * 2 ^ 24 + d.get (F.BUDP_STAT_SERIAL p) * 2 ^ 12,
          d.get H.budTb, d.capFig p,
          why * 2 ^ 18 + old].map (BitVec.ofNat 36))
      else d.budEvt F.BUD_EVT_NOTEDROP
    else d
  else d

/-! ### The recompute (R357-R365) -/

/-- The new cap of port p: the figure and whether no cap applies (R354, R355). -/
def Dev.newCap (d : Dev) (c1 c2 : List Share) (p : Nat) : Nat × Bool :=
  let part := d.get (F.BUDP_STAT_PART p)
  if part = 0 then (0, false)
  else if d.bit (F.BUDP_STAT_ARMED p) then (if part = 1 then allocOf c1 p else allocOf c2 p, false)
  else if d.bit (H.budNoCap p) then (0x3FFFF, true)
  else (d.get F.BUD_CFG_UNARMCAP, false)

/-- The recompute of both budgets with its caps, clamps, cap changes and notices; a bound missed raises E_DLMISS. -/
def Dev.recompute (d : Dev) : Dev :=
  let d := d.stop T.contour
  if !d.bit F.BUD_STAT_BUSY then d
  else
    let r1 := allocate (d.get H.budChg) (d.shares 1)
    let r2 := allocate (d.get H.budDis) (d.shares 2)
    let old := (List.range 24).map d.capFig
    let wasS := d.bit F.BUD_STAT_CSHORT
    let wasD := d.bit F.BUD_STAT_DSHORT
    let e := Dev.forN 24 (fun p e =>
      let c := d.newCap r1.2.2 r2.2.2 p
      e.puts [(F.BUDP_STAT_CAP p, c.1), (F.BUDP_STAT_NOCAP p, b2n c.2)]) d
    let e := e.puts [(F.BUD_ALLOCC_ALLOC, d.get H.budChg - r1.1), (F.BUD_ALLOCD_ALLOC, d.get H.budDis - r2.1),
      (F.BUD_STAT_CSHORT, b2n r1.2.1), (F.BUD_STAT_DSHORT, b2n r2.2.1), (F.BUD_STAT_BUSY, 0)]
    let e := if (r1.2.1 && !wasS) || (r2.2.1 && !wasD) then e.budEvt F.BUD_EVT_SHORT else e
    let e := Dev.forN 24 (fun p e => e.clampWrite p) e
    let changed p := e.capFig p != old.getD p 0
    let e := if (List.range 24).any changed then e.budEvt F.BUD_EVT_RECOMP else e
    let e := Dev.forN 24 (fun p f =>
      if changed p then
        let why := if d.get (H.budWhyP p) = 7 then d.get H.budWhy else d.get (H.budWhyP p)
        (f.capChange p (old.getD p 0)).notice p (old.getD p 0) why
      else f) e
    let e := Dev.forN 24 (fun p f => f.put (H.budWhyP p) 7) e
    if d.now > d.get H.budTin + 1280 then (e.budEvt F.BUD_EVT_LATE).dlMiss 3 0 else e

def execContourRecompute (s : State) : Host.Outcome State Fault Refusal := s.ok Dev.recompute

/-! ### Inputs (R351-R355) -/

/-- A port is armed once the three writes have taken effect. -/
def Dev.armCheck (d : Dev) : Dev :=
  Dev.forN 24 (fun p e =>
    if !e.bit (F.BUDP_STAT_ARMED p) && e.bit (H.budLimW p) && e.bit H.budChgE && e.bit H.budDisE then
      (e.puts [(F.BUDP_STAT_ARMED p, 1), (H.budNoCap p, 0)]).contourPort p 3
    else e) d

/-- The stored charge budget takes effect. -/
def Dev.chgApply (d : Dev) : Dev :=
  d.puts [(H.budChg, d.get F.BUD_CHG_BUDGET), (H.budChgE, 1), (H.budChgS, 0)]
def Dev.disApply (d : Dev) : Dev :=
  d.puts [(H.budDis, d.get F.BUD_DIS_BUDGET), (H.budDisE, 1), (H.budDisS, 0)]
/-- The stored floor and ceiling of a port take effect: a revocation ends (R367). -/
def Dev.limApply (d : Dev) (p : Nat) : Dev :=
  (d.puts [(H.budLim p, d.get (F.BUDP_LIM_CEIL p) * 2 ^ 18 + d.get (F.BUDP_LIM_FLOOR p)), (H.budLimW p, 1),
    (H.budLimS p, 0), (F.BUDP_STAT_REVOKED p, 0)]).putBit F.BUD_REVOKED_REVOKED p false
/-- The stored class, weight and flags of a port take effect. -/
def Dev.ctlApply (d : Dev) (p : Nat) : Dev :=
  d.put (H.budCtl p) (d.get (F.BUDP_CTRL_WEIGHT p) * 256 + d.get (F.BUDP_CTRL_CLASS p) * 16 +
    d.get (F.BUDP_CTRL_RENEGUP p) * 2 + d.get (F.BUDP_CTRL_ACKEN p))

/-- An accepted input takes effect now, or is stored under HOLD (R353). -/
def Dev.inputNow (d : Dev) (staged : List (Fld × Nat)) (apply : Dev → Dev) : Dev :=
  if d.bit F.BUD_CTRL_HOLD then d.puts ((F.BUD_STAT_STAGED, 1) :: staged) else ((apply d).contourIn 0).armCheck

def Dev.budChgWrite (d : Dev) (v : Nat) : Dev :=
  (d.puts [(F.BUD_CHG_BUDGET, bits v 0 24), (F.BUD_STAT_CHGW, 1)]).inputNow [(H.budChgS, 1)] Dev.chgApply
def execBudChgWrite (v : Word) (s : State) : Host.Outcome State Fault Refusal := s.ok (·.budChgWrite v.toNat)

def Dev.budDisWrite (d : Dev) (v : Nat) : Dev :=
  (d.puts [(F.BUD_DIS_BUDGET, bits v 0 24), (F.BUD_STAT_DISW, 1)]).inputNow [(H.budDisS, 1)] Dev.disApply
def execBudDisWrite (v : Word) (s : State) : Host.Outcome State Fault Refusal := s.ok (·.budDisWrite v.toNat)

/-- A write of BUDnn_LIM (R352). -/
def Dev.budLimWrite (d : Dev) (p v : Nat) : Dev :=
  let ceil := bits v 18 18
  let floor := bits v 0 18
  if ceil > 72000 ∨ floor > ceil then d.budEvt F.BUD_EVT_INBAD
  else (d.puts [(F.BUDP_LIM_CEIL p, ceil), (F.BUDP_LIM_FLOOR p, floor)]).inputNow [(H.budLimS p, 1)] (·.limApply p)
def execBudLimWrite (p : Fin 24) (v : Word) (s : State) : Host.Outcome State Fault Refusal :=
  s.ok (·.budLimWrite p.val v.toNat)

def Dev.budpCtrlWrite (d : Dev) (p v : Nat) : Dev :=
  (d.puts [(F.BUDP_CTRL_WEIGHT p, bits v 8 8), (F.BUDP_CTRL_CLASS p, bits v 4 2), (F.BUDP_CTRL_RENEGUP p, bits v 1 1),
    (F.BUDP_CTRL_ACKEN p, bits v 0 1)]).inputNow [] (·.ctlApply p)
def execBudnnCtrlWrite (p : Fin 24) (v : Word) (s : State) : Host.Outcome State Fault Refusal :=
  s.ok (·.budpCtrlWrite p.val v.toNat)

/-- Every stored input takes effect on one tick, as one input change (R353). -/
def Dev.holdApply (d : Dev) : Dev :=
  let d := if d.bit H.budChgS then d.chgApply else d
  let d := if d.bit H.budDisS then d.disApply else d
  let d := Dev.forN 24 (fun p e => (if e.bit (H.budLimS p) then e.limApply p else e).ctlApply p) d
  ((d.clr F.BUD_STAT_STAGED).contourIn 0).armCheck

/-- A write of BUD_CTRL: ignored as a whole with ACKDL outside 2-50. -/
def Dev.budCtrlWrite (d : Dev) (v : Nat) : Dev :=
  let dl := bits v 8 8
  if 2 ≤ dl ∧ dl ≤ 50 then
    let was := d.bit F.BUD_CTRL_HOLD
    let d := d.puts [(F.BUD_CTRL_ACKDL, dl), (F.BUD_CTRL_HOLD, bits v 0 1)]
    if was && !v.testBit 0 then d.holdApply else d
  else d
def execHoldClear (v : Word) (s : State) : Host.Outcome State Fault Refusal := s.ok (·.budCtrlWrite v.toNat)

/-! ### Confirmation and revocation (R366-R369) -/

/-- A write of BUD_ACK; ports 24-31 are ignored. -/
def Dev.budAck (d : Dev) (v : Nat) : Dev :=
  let p := bits v 16 5
  if p ≥ 24 then d
  else if d.bit (F.BUDP_STAT_NOTEPEND p) && d.get (F.BUDP_STAT_SERIAL p) == bits v 24 12 && decide (d.now < d.get (H.budDl p))
  then (d.clr (F.BUDP_STAT_NOTEPEND p)).stop (T.revoke p)
  else d.budEvt F.BUD_EVT_ACKLATE
def execBudAck (v : Word) (s : State) : Host.Outcome State Fault Refusal := s.ok (·.budAck v.toNat)

/-- The deadline of an unconfirmed notice arrives: the port is revoked. -/
def Dev.revoke (d : Dev) (p : Nat) : Dev :=
  if d.armed (T.revoke p) && d.bit (F.BUDP_STAT_NOTEPEND p) then
    ((((d.stop (T.revoke p)).puts [(F.BUDP_STAT_REVOKED p, 1), (F.BUDP_STAT_NOTEPEND p, 0)]).putBit F.BUD_REVOKED_REVOKED p
      true).budEvt F.BUD_EVT_REVOKE).contourIn 4
  else d.stop (T.revoke p)
def execRevocation (p : Fin 24) (s : State) : Host.Outcome State Fault Refusal := s.ok (·.revoke p.val)

/-- Entry to Banked or Tinder treats pending notices as confirmed (R368). -/
def Dev.noticesConfirmed (d : Dev) : Dev :=
  Dev.forN 24 (fun p e => e.puts [(F.BUDP_STAT_NOTEPEND p, 0), (T.revoke p, 0)]) d

end Sys2Proof.Machine
end

