-- ==== Sys2Proof/Machine/Offer.lean ====
section
/-!
DEFINITION. Sys2Proof/Machine/Offer.lean: power data objects, offers, requests and their contracts (R199-R213, R230).
Objects, message types and headers are laid out as the USB Power Delivery specification lays them out.
-/
namespace Sys2Proof.Machine

/-! ### Objects -/

/-- A fixed PDO; an SPR PPS APDO; an EPR AVS APDO. -/
def isFixed (o : Nat) : Bool := bits o 30 2 == 0
def isPps (o : Nat) : Bool := bits o 28 4 == 12
def isAvs (o : Nat) : Bool := bits o 28 4 == 13
/-- Voltage of a fixed PDO in 10 mV; highest and lowest voltage of an APDO in 10 mV. -/
def fixedV (o : Nat) : Nat := bits o 10 10 * 5
def apdoMax (o : Nat) : Nat := (if isPps o then bits o 17 8 else bits o 17 9) * 10
def apdoMin (o : Nat) : Nat := bits o 8 8 * 10
def topV (o : Nat) : Nat := if isFixed o then fixedV o else apdoMax o
/-- Current of a fixed PDO or PPS APDO in 10 mA; PDP of an AVS APDO in W. -/
def fixedI (o : Nat) : Nat := bits o 0 10
def ppsI (o : Nat) : Nat := bits o 0 7 * 5
def avsP (o : Nat) : Nat := bits o 0 8
/-- A fixed PDO. -/
def fixedPdo (volt curr : Nat) : Nat := volt / 5 * 1024 + curr

/-- The power of an object in 100 mW units. -/
def objPower (o : Nat) : Nat :=
  if isFixed o then fixedV o * fixedI o / 1000 else if isPps o then apdoMax o * ppsI o / 1000 else avsP o * 10

/-- The PDO meets the rule for its slot (R199). -/
def slotOk (i o : Nat) : Bool :=
  let v := fixedV o
  if i = 0 then isFixed o && v == 500 && decide (fixedI o ≤ 500)
  else if i ≤ 6 then
    (isFixed o && (v == 500 || v == 900 || v == 1500 || v == 2000) && decide (fixedI o ≤ 500)) ||
      (isPps o && decide (330 ≤ apdoMin o) && decide (apdoMax o ≤ 2100) && decide (apdoMin o ≤ apdoMax o) &&
        decide (ppsI o ≤ 500))
  else if i ≤ 10 then
    (isFixed o && (v == 2800 || v == 3600 || v == 4800) && decide (fixedI o ≤ 500)) ||
      (isAvs o && decide (1500 ≤ apdoMin o) && decide (apdoMax o ≤ 4800) && decide (apdoMin o ≤ apdoMax o) &&
        decide (avsP o ≤ 240))
  else false

/-- Slots of a port; an empty slot 0 stands for fixed 5 V. -/
def Dev.srcSlot (d : Dev) (p i : Nat) : Nat :=
  let o := d.pstg p i
  if i = 0 ∧ o = 0 then fixedPdo 500 300 else o
def Dev.snkSlot (d : Dev) (p i : Nat) : Nat :=
  let o := d.pstg p (16 + i)
  if i = 0 ∧ o = 0 then fixedPdo 500 50 else o

/-- A load of a source slot (`base` 0) or sink slot (`base` 16) (R199). -/
def Dev.slotLoad (d : Dev) (p base v : Nat) : Dev :=
  let i := bits v 32 4
  let o := bits v 0 32
  if i ≤ 10 ∧ (o = 0 ∨ slotOk i o) then d.pstgPut p (base + i) o else d.peEvt p (F.PRT_PE_EVT_SLOTBAD p)

def execSrcLoad (p : Fin 24) (v : Word) (s : State) : Host.Outcome State Fault Refusal := s.ok (·.slotLoad p.val 0 v.toNat)
def execSnkLoad (p : Fin 24) (v : Word) (s : State) : Host.Outcome State Fault Refusal := s.ok (·.slotLoad p.val 16 v.toNat)

/-! ### Offers (R200) -/

/-- The cable current, and the converter rating, in 10 mA. After VCONNOC the cable counts as unmarked (R179). -/
def Dev.cableI (d : Dev) (p : Nat) : Nat := if d.bit (F.PRT_VDM_STAT_CBL5A p) && !d.bit (H.vconnOc p) then 500 else 300
def Dev.rating (d : Dev) (p : Nat) : Nat := d.get (H.gzIrate (p / 4)) * 5

/-- The limit of step 1 in 10 mA, for a PDO of a slot. -/
def Dev.slotLimit (d : Dev) (p o : Nat) : Nat :=
  if isAvs o then
    let pdp := match d.cap p with
      | none => avsP o
      | some c => min (avsP o) (c / 10)
    if apdoMax o = 0 then 0 else pdp * 10000 / apdoMax o
  else
    let own := if isPps o then ppsI o else fixedI o
    let m := min own (min (d.cableI p) (min (d.rating p) (d.capAt p (topV o) 10 1023)))
    if isPps o then m / 5 * 5 else m

/-- The object as it is offered. -/
def Dev.clipped (d : Dev) (p o : Nat) : Nat :=
  if isAvs o then
    match d.cap p with
    | none => o
    | some c => o - avsP o + min (avsP o) (c / 10)
  else if isPps o then o - bits o 0 7 + d.slotLimit p o / 5
  else o - bits o 0 10 + d.slotLimit p o

/-- The ordering rule against the last object kept of its group: fixed before APDO, voltages rising. -/
def orderOk (last : Option Nat) (o : Nat) : Bool :=
  match last with
  | none => true
  | some l => if isFixed o then isFixed l && decide (fixedV l < fixedV o) else isFixed l || decide (apdoMax l ≤ apdoMax o)

/-- What steps 1 and 2 make of slots, with no APDO to a PD 2.0 partner (R193): slots i, i + 1, …: the objects offered, 0 where left out, and whether any was clipped or
left out for want of current, or left out of order. -/
def Dev.offerSlots (d : Dev) (p mask : Nat) : Nat → Nat → Option Nat → List Nat × Bool × Bool
  | 0, _, _ => ([], false, false)
  | n + 1, i, last =>
    let o := d.srcSlot p i
    let rest l := Dev.offerSlots d p mask n (i + 1) l
    if o = 0 ∨ (i ≠ 0 ∧ !mask.testBit i) ∨ (d.pd2 p && !isFixed o) then
      let r := rest last
      (0 :: r.1, r.2)
    else if !orderOk last o then
      let r := rest last
      (0 :: r.1, r.2.1 || (decide (i ≠ 0) && decide (d.slotLimit p o < 10)), true)
    else if i ≠ 0 ∧ d.slotLimit p o < 10 then
      let r := rest last
      (0 :: r.1, true, r.2.2)
    else
      let r := rest (some o)
      (d.clipped p o :: r.1, r.2.1 || d.clipped p o != o || decide (d.slotLimit p o < 10), r.2.2)

/-- At least one EPR slot survives. -/
def Dev.eprSurvives (d : Dev) (p mask : Nat) : Bool := (d.offerSlots p mask 4 7 none).1.any (fun o => o != 0)

/-- The flags of the object at position 1. -/
def Dev.slot0Flags (d : Dev) (p mask o : Nat) : Nat :=
  let keep := o &&& (2 ^ 28 ||| (2 ^ 27 ||| (2 ^ 23 - 1)))
  (keep &&& (2 ^ 32 - 1 - 2 ^ 28)) + 2 ^ 29 +
    (if d.bit (F.PRT_PE_CTRL_EPREN p) && d.eprSurvives p mask then 2 ^ 23 else 0)

/-- Zero objects dropped. -/
def packObjs (l : List Nat) : List Nat := l.filter (fun o => o != 0)
/-- Padded with zeros to n. -/
def padTo (n : Nat) (l : List Nat) : List Nat := (l ++ List.replicate n 0).take n

/-- The first object with the offer's flags. -/
def Dev.flagFirst (d : Dev) (p mask : Nat) : List Nat → List Nat
  | [] => []
  | o :: l => d.slot0Flags p mask o :: l

/-- The objects of the held contract at its held position (R221), an adjustable one with the range in 100 mV that holds its voltage; at
position 1 it is slot 0 as well, and no less than it. -/
def Dev.resumeObjs (d : Dev) (p : Nat) : List Nat :=
  let w := d.get (F.PRT_HOLDSUM_SUM p)
  let v := bits w 14 13
  let c := bits w 0 14
  let k := bits w 31 3
  let o := d.clipped p (d.srcSlot p 0)
  let held := if k = 3 then 0xC0000000 + cdiv v 10 * 2 ^ 17 + v / 10 * 256 + c / 5
    else if k = 5 then 0xD0000000 + cdiv v 10 * 2 ^ 17 + v / 10 * 256 + cdiv (v * c) 10000
    else fixedPdo v (if bits w 27 4 = 1 then max c (fixedI o) else c)
  let pos := bits w 27 4
  d.flagFirst p 2047 ((List.range (max 1 pos)).map (fun i =>
    if i + 1 = pos then held else if i = 0 then o else 0))

/-- The objects of the next offer by position, and its clip flags. -/
def Dev.offerObjs (d : Dev) (p : Nat) : List Nat × Bool × Bool :=
  let mask := d.get (H.offerMask p)
  if d.bit (H.resume p) then (d.resumeObjs p, false, false)
  else
    let s := d.offerSlots p mask 7 0 none
    let spr := d.flagFirst p mask (packObjs s.1)
    if d.bit (H.offerEpr p) then
      let e := d.offerSlots p mask 4 7 none
      (padTo 7 spr ++ e.1, s.2.1 || e.2.1, s.2.2 || e.2.2)
    else (spr, s.2.1, s.2.2)

/-- The source slots of the next offer, as R200 keeps them. -/
def Dev.keptSlots (d : Dev) (p : Nat) : List Nat :=
  let mask := d.get (H.offerMask p)
  let s := (d.offerSlots p mask 7 0 none).1 ++ (if d.bit (H.offerEpr p) then (d.offerSlots p mask 4 7 none).1 else [])
  if d.bit (H.resume p) then [0] else (List.range 11).filter (fun i => s.getD i 0 != 0)

/-- Some PDO of the offer is clipped in step 1 of R200 by the limit `lim` gives: it is the smallest of the limits (R194). -/
def Dev.clippedBy (d : Dev) (p : Nat) (lim : Nat → Nat) : Bool :=
  (d.keptSlots p).any (fun i =>
    let o := d.srcSlot p i
    let own := if isPps o then ppsI o else fixedI o
    !isAvs o && decide (lim o < own) &&
      decide (lim o ≤ min (d.cableI p) (min (d.rating p) (d.capAt p (topV o) 10 1023))))

/-- Capabilities are sent (R204): the offer is kept by position; CAPCLIP and SLOTBAD set as R200 says. The mask of the decision stands
for the repeats. EPR capabilities go out as chunk 0 of 44 bytes (R195). -/
def Dev.sendCaps (d : Dev) (p : Nat) : Dev :=
  let r := d.offerObjs p
  let d := Dev.forN 11 (fun i e => e.put (H.offer p (i + 1)) (r.1.getD i 0)) d
  let d := d.puts [(H.offerCbl p, b2n (d.clippedBy p (fun _ => d.cableI p))),
    (H.offerBud p, b2n (d.clippedBy p (fun o => d.capAt p (topV o) 10 1023) ||
      (d.keptSlots p).any (fun i => isAvs (d.srcSlot p i) && d.clipped p (d.srcSlot p i) != d.srcSlot p i)))]
  let d := if r.2.1 then d.peEvt p (F.PRT_PE_EVT_CAPCLIP p) else d
  let d := if r.2.2 then d.peEvt p (F.PRT_PE_EVT_SLOTBAD p) else d
  let d := ((d.exBegin p true 700).puts [(H.offerDue p, 0), (H.offerOk p, 0)]).setPe p 2
  if d.bit (H.offerEpr p) then d.txExt p 17 44 0 (padTo 11 r.1) 1 else d.txSop p 33 r.1 1

/-! ### Requests received (R205) -/

/-- Fields of an RDO. -/
def rdoPos (r : Nat) : Nat := bits r 28 4
def rdoOp (o r : Nat) : Nat := if isFixed o then bits r 10 10 else bits r 0 7 * 5
def rdoMax (o r : Nat) : Nat := if isFixed o then bits r 0 10 else bits r 0 7 * 5
/-- The requested voltage in 5 mV: 20 mV units for PPS, 25 mV units for AVS; and in 10 mV, in which a contract keeps it. -/
def rdoVolt2 (o r : Nat) : Nat :=
  if isFixed o then fixedV o * 2 else if isPps o then bits r 9 12 * 4 else bits r 9 12 * 5
def rdoVolt (o r : Nat) : Nat := rdoVolt2 o r / 2

/-- The limit of an offered object at a request, in 10 mA. -/
def Dev.offerLimit (d : Dev) (p o r : Nat) : Nat :=
  if isFixed o then fixedI o else if isPps o then ppsI o
  else min (min (d.cableI p) (d.rating p)) (min 500 (avsP o * 20000 / max 1 (rdoVolt2 o r)))

/-- The requested voltage lies in the range of an adjustable object, and the power in the PDP of an AVS one. -/
def apdoFits (o r : Nat) : Bool :=
  decide (apdoMin o * 2 ≤ rdoVolt2 o r) && decide (rdoVolt2 o r ≤ apdoMax o * 2) &&
    (isPps o || decide (rdoVolt2 o r * rdoOp o r ≤ avsP o * 20000))

/-- The current in 10 mA that the cap allows at an RDO's voltage. -/
def Dev.capRdo (d : Dev) (p o r : Nat) : Nat :=
  match d.cap p with
  | none => 16383
  | some c => if rdoVolt2 o r = 0 then 16383 else c * 2000 / rdoVolt2 o r

/-- A Request against the offered object at its position (R205). -/
def Dev.reqFits (d : Dev) (p o r : Nat) : Bool :=
  let lim := d.offerLimit p o r
  o != 0 && decide (rdoOp o r ≤ lim) && decide (rdoMax o r ≤ lim) && (isFixed o || apdoFits o r)

/-- The offered object that an RDO names, 0 if none. -/
def Dev.offered (d : Dev) (p r : Nat) : Nat :=
  if 1 ≤ rdoPos r ∧ rdoPos r ≤ 11 then d.get (H.offer p (rdoPos r)) else 0

/-- The contract word that an RDO on an object makes. -/
def rdoCon (sink : Bool) (o r : Nat) : Nat :=
  let kind := if isFixed o then (if 8 ≤ rdoPos r then 4 else 2) else if isPps o then 3 else 5
  conWord sink kind (rdoPos r) (rdoVolt o r) (rdoOp o r)

/-! ### Requests sent (R211, R212, R230) -/

/-- Object at position i of the capabilities received. -/
def Dev.rxObj (d : Dev) (p i : Nat) : Nat := if 1 ≤ i ∧ i ≤ 11 then d.pstg p (31 + i) else 0

/-- An RDO for a position with a current in 10 mA and a voltage in 10 mV; EPR Mode Capable as EPREN says. -/
def Dev.mkRdo (d : Dev) (p pos volt curr : Nat) (mismatch : Bool) : Nat :=
  let o := d.rxObj p pos
  pos * 2 ^ 28 + (if mismatch then 2 ^ 26 else 0) + d.get (F.PRT_PE_CTRL_EPREN p) * 2 ^ 22 +
    (if isFixed o then curr * 1024 + curr else if isPps o then volt / 2 * 512 + curr / 5 else volt * 2 / 5 * 512 + curr / 5)

/-- The offered maximum of an object at a voltage in 5 mV, or in 10 mV, in 10 mA. -/
def offMax2 (o volt2 : Nat) : Nat :=
  if isFixed o then fixedI o else if isPps o then ppsI o else min 500 (avsP o * 20000 / max 1 volt2)
def offMax (o volt : Nat) : Nat := offMax2 o (volt * 2)

/-- The operating current of R230 code 2: the smallest of IMAX, the offered limit and the cap divided by the voltage. -/
def Dev.selCurr (d : Dev) (p o volt imax : Nat) : Nat :=
  min (if imax = 0 then offMax o volt else min (imax * 5) (offMax o volt)) (d.capAt p volt 10 16383)

/-- The best position by a measure, ties to the lower one; 0 if none fits. -/
def bestPos (f : Nat → Option Nat) : Nat → Nat × Nat
  | 0 => (0, 0)
  | n + 1 =>
    let b := bestPos f n
    match f (n + 1) with
    | none => b
    | some m => if b.1 = 0 ∨ m > b.2 then (n + 1, m) else b

/-- The vSafe5V Request with Capability Mismatch (R211 step 3). -/
def Dev.vs5Rdo (d : Dev) (p : Nat) : Nat :=
  let c := min (fixedI (d.snkSlot p 0)) (min (fixedI (d.rxObj p 1)) (d.capAt p 500 10 1023))
  d.mkRdo p 1 500 c true

/-- The RDO that a SNK_SELECT decision gives; none where ACT 3 acts (R230). -/
def Dev.selectRdo (d : Dev) (p act arg : Nat) : Option Nat :=
  let vmin := bits arg 18 10 * 10
  let vmax := bits arg 8 10 * 10
  let imax := bits arg 0 8
  let fits i := isFixed (d.rxObj p i) && d.rxObj p i != 0 && decide (vmin ≤ fixedV (d.rxObj p i)) &&
    decide (fixedV (d.rxObj p i) ≤ vmax)
  let cur i := d.selCurr p (d.rxObj p i) (fixedV (d.rxObj p i)) imax
  if act = 0 ∨ act = 1 then
    let b := bestPos (fun i => if fits i then
      some (if act = 0 then fixedV (d.rxObj p i) * cur i else fixedV (d.rxObj p i)) else none) 11
    if b.1 = 0 then none else some (d.mkRdo p b.1 (fixedV (d.rxObj p b.1)) (cur b.1) false)
  else if act = 2 then
    match (List.range 11).find? (fun i => let o := d.rxObj p (i + 1)
      !isFixed o && decide (apdoMin o ≤ vmin) && decide (vmin ≤ apdoMax o)) with
    | none => none
    | some i => some (d.mkRdo p (i + 1) vmin (d.selCurr p (d.rxObj p (i + 1)) vmin imax) false)
  else none

/-- The check of an explicit RDO against the capabilities received (R205, R230). -/
def Dev.rdoValid (d : Dev) (p r : Nat) : Bool :=
  let o := d.rxObj p (rdoPos r)
  let lim := offMax2 o (rdoVolt2 o r)
  o != 0 && decide (rdoOp o r ≤ lim) && decide (rdoMax o r ≤ lim) && (isFixed o || apdoFits o r)

/-- An RDO's operating current limited by the cap (R212). -/
def Dev.rdoCapped (d : Dev) (p r : Nat) : Nat :=
  let o := d.rxObj p (rdoPos r)
  let lim := d.capRdo p o r
  if rdoOp o r ≤ lim then r
  else if isFixed o then r - bits r 10 10 * 1024 + lim * 1024 else r - bits r 0 7 + lim / 5

/-- The Request goes out. In EPR mode it is an EPR_Request with the object's copy. -/
def Dev.requestGo (d : Dev) (p : Nat) : Dev :=
  let r := d.get (H.rdoNew p)
  if d.epr p then d.txSop p (32 + 9) [r, d.rxObj p (rdoPos r)] 4 else d.txSop p (32 + 2) [r] 4

/-- A Request is made: a lowered draw ramps down over 1 ms first, and RAMP_END sends it (R212). -/
def Dev.sendRequest (d : Dev) (p r : Nat) : Dev :=
  let o := d.rxObj p (rdoPos r)
  let d := ((d.exBegin p true 700).puts [(H.rdoNew p, r), (H.newCon p, rdoCon true o r), (T.waitCap p, 0)]).setPe p 9
  if rdoOp o r < d.iLevel p then (d.isetRamp p (rdoOp o r)).set1 (H.rampReq p) else d.requestGo p

end Sys2Proof.Machine
end

