-- ==== Sys2Proof/Machine/Decide.lean ====
section
/-!
DEFINITION. Sys2Proof/Machine/Decide.lean: the objects of structured VDMs and of HPM (R270, R279-R299), the asks with
their decisions and defaults (R224-R231), and the start of a port in a role (R204, R211). HPM voltage codes count 10 mV
from 40.00 V and HPM current codes count 50 mA (R287).
-/
namespace Sys2Proof.Machine

/-! ### Structured VDMs (R270) -/

def chiSvid : Nat := 0x3C5A
def pdSvid : Nat := 0xFF00

/-- A structured VDM header: SVID, object position, command type (0 REQ, 1 ACK, 2 NAK, 3 BUSY), command. -/
def Dev.vdmHdr (d : Dev) (p svid pos typ cmd : Nat) : Nat :=
  svid * 65536 + 2 ^ 15 + (if d.pd2 p then 0 else 5 * 2 ^ 11) + pos * 256 + typ * 64 + cmd

/-- A structured VDM on SOP. -/
def Dev.vdmSop (d : Dev) (p svid pos typ cmd : Nat) (vdos : List Nat) (kind : Nat) : Dev :=
  d.txSop p 47 (d.vdmHdr p svid pos typ cmd :: vdos) kind

/-- The request that `what` names (H.vdmWhat) goes out to its target. -/
def Dev.vdmSend (d : Dev) (p : Nat) : Dev :=
  let what := d.get (H.vdmWhat p)
  let sv := d.get (H.vdmSvid p)
  let objs := match what with
    | 1 => [d.vdmHdr p pdSvid 0 0 1]
    | 2 => [d.vdmHdr p pdSvid 0 0 2]
    | 3 => [d.vdmHdr p chiSvid 0 0 3]
    | 4 => [d.vdmHdr p chiSvid 1 0 4]
    | 5 => [d.vdmHdr p chiSvid 1 0 5]
    | 6 => [d.vdmHdr p chiSvid 1 0 0x16, d.get (H.recNext p)]
    | 7 => [d.vdmHdr p chiSvid 1 0 0x17]
    | 9 => [d.vdmHdr p (sv / 65536) (sv % 8) 0 4]
    | 10 => [d.vdmHdr p (sv / 65536) (sv % 8) 0 5]
    | _ => []
  d.tx p ⟨d.get (H.vdmTgt p), 47, false, objs, 19, 0⟩

/-- A VDM request begins: what it is, and its target. -/
def Dev.vdmBegin (d : Dev) (p what tgt : Nat) : Dev :=
  ((d.puts [(H.vdmWhat p, what), (H.vdmTgt p, tgt), (H.vdmBusyN p, 0)]).vdmSend p)

/-! ### Chistona objects (R279, R280, R288, R307) -/

def Dev.modeVdo (d : Dev) (p : Nat) : Nat := d.pstg p 0x85
def Dev.cableVdo (d : Dev) (p : Nat) : Nat := d.pstg p 0x88

def modeValid (v : Nat) : Bool :=
  bits v 28 4 == 1 && decide (bits v 8 8 ≤ bits v 0 8) && decide (bits v 0 8 ≤ 200) && decide (1 ≤ bits v 16 8)
def cableValid (v : Nat) : Bool := bits v 28 4 == 1

def Dev.profA (d : Dev) (p k : Nat) : Nat := d.pstg p (0x90 + 2 * k)
def Dev.profB (d : Dev) (p k : Nat) : Nat := d.pstg p (0x91 + 2 * k)
def Dev.profValid (d : Dev) (p k : Nat) : Bool := (d.profA p k).testBit 31
def Dev.profile (d : Dev) (p : Nat) : Nat := d.get (F.PRT_HPM_STAT_PROFILE p)

/-- Conditions 3 to 5 of R281 with the roles as they are. -/
def Dev.hpmRoles (d : Dev) (p : Nat) : Bool :=
  let m := d.modeVdo p
  modeValid m && (if d.isSrc p then m.testBit 27 else m.testBit 26)

/-- Conditions 1 to 5 of R281. -/
def Dev.hpmCond15 (d : Dev) (p : Nat) : Bool :=
  let c := d.cableVdo p
  d.bit (F.PRT_PE_CTRL_HPMEN p) && d.pd3 p && !d.bit (H.hpmOn p) &&
    d.explicit p && !d.hpmCon p && !d.epr p && !d.bit (F.PRT_SWAP_STAT_STEP p) &&
    d.hpmRoles p && cableValid c && !d.bit (H.vconnOc p) && d.bit (F.PRT_VDM_STAT_CBLID p) && !d.bit (F.PRT_VDM_STAT_CBLACT p) &&
    bits c 4 4 == 1 && c.testBit 3 &&
    decide (40 + cdiv (bits (d.modeVdo p) 0 8) 10 ≤ bits c 8 8) && d.hc p

/-- A failure is recorded with its code. -/
def Dev.hpmFail (d : Dev) (p why : Nat) : Dev :=
  (d.put (F.PRT_HPM_STAT_FAILWHY p) why).hpmEvt p (F.PRT_HPM_EVT_FAIL p)


/-! ### Leaving HPM with Exit Mode (R306) -/

def Dev.hpmTimersOff (d : Dev) (p : Nat) : Dev :=
  d.puts [(T.hpmOffer p, 0), (T.hpmTrans p, 0), (T.hpmReady p, 0), (T.hpmRpt p, 0), (T.vdmMode p, 0), (H.hpmVerd p, 0),
    (H.hpmWaits p, 0), (H.hpmRepeat p, 0)]

/-- Exit Mode is sent. -/
def Dev.hpmExitBegin (d : Dev) (p : Nat) : Dev :=
  let d := (((d.hpmTimersOff p).awaitEnd p).exBegin p true 800).put (F.PRT_HPM_STAT_STATE p) 9
  ((d.setPe p 15).vdmBegin p 5 0).arm (T.vdmMode p) (msTicks 45)

/-- The started command that is not an HPM_CEILING waiting for its message completes. -/
def Dev.cmdFin (d : Dev) (p outcome : Nat) : Dev := if d.bit (H.ceilCmdRun p) then d else d.cmdEnd p outcome

/-- The HPM contract in force stands; an own ceiling that has waited goes out (R301). -/
def Dev.hpmStand (d : Dev) (p : Nat) : Dev :=
  let d := d.put (F.PRT_HPM_STAT_STATE p) 8
  if d.bit (H.ceilWait p) then (d.put (H.ceilTick p) d.now).arm (T.ownCeil p) 0 else d

/-- A failure of an HPM sequence (R299): before verdict 0 the contract in force stands, and without an HPM contract HPM
is exited; after it the contract is void and Hard_Reset follows. -/
def Dev.hpmSeqFail (d : Dev) (p why : Nat) : Dev :=
  let d := d.hpmFail p why
  if d.bit (H.hpmVerd p) then d.hardReset p
  else
    let d := ((d.put (H.hpmHeld p) 0).hpmTimersOff p).cmdFin p (if why = 7 then 1 else 3)
    if d.hpmCon p then (d.hpmStand p).exEnd p else d.hpmExitBegin p

/-! ### The HPM contract sequence (R292, R293) -/

/-- The offer VDOs, `none` where the window is empty (R292, R633). -/
def Dev.hpmOfferVdos (d : Dev) (p : Nat) : Option (Nat × Nat) :=
  if d.bit (H.hpmHeld p) then
    let w := d.heldWord p
    let v := bits w 14 13 - 4000
    let c := bits w 0 14
    some (v * 2048 + v, min 720 (cdiv (bits w 14 13 * c) 100000) * 65536 + c / 5)
  else
    let a := d.profA p (d.profile p)
    let m := d.modeVdo p
    let lo := max (bits a 0 11) (bits m 8 8 * 10)
    let hi := min (bits a 11 11) (bits m 0 8 * 10)
    if lo > hi then none
    else
      let imax := min (min (bits (d.profB p (d.profile p)) 0 12) (bits m 16 8 * 10))
        (min (bits (d.cableVdo p) 16 8 * 10) (min (d.get (H.gzIrate (p / 4))) (d.capAt p (4000 + hi) 50 4095)))
      let pmax := match d.cap p with
        | none => 720
        | some c => min 720 (c / 100)
      some (hi * 2048 + lo, pmax * 65536 + imax)

/-- HPM_Offer is sent, or the sequence fails for want of a window (R292 step 1). -/
def Dev.hpmOfferSend (d : Dev) (p : Nat) : Dev :=
  let d := ((d.exBegin p true 800).puts [(F.PRT_HPM_STAT_STATE p, 5), (H.hpmWaits p, 0), (H.hpmVerd p, 0)]).setPe p 15
  match d.hpmOfferVdos p with
  | none => d.hpmSeqFail p 8
  | some v => (d.puts [(H.hpmV1 p, v.1), (H.hpmV2 p, v.2)]).vdmSop p chiSvid 1 0 0x10 [v.1, v.2] 21

/-- The checks of R294 on a Request. -/
def Dev.hpmReqFits (d : Dev) (p r : Nat) : Bool :=
  let v := bits r 12 11
  let c := bits r 0 12
  let pow := (4000 + v) * c
  if d.bit (H.hpmHeld p) then
    decide (4000 + v = bits (d.heldWord p) 14 13) && decide (c * 5 ≤ bits (d.heldWord p) 0 14)
  else
    decide (bits (d.get (H.hpmV1 p)) 0 11 ≤ v) && decide (v ≤ bits (d.get (H.hpmV1 p)) 11 11) &&
      decide (c ≤ bits (d.get (H.hpmV2 p)) 0 12) && decide (c ≤ bits (d.cableVdo p) 16 8 * 10) &&
      decide (pow ≤ bits (d.get (H.hpmV2 p)) 16 10 * 20000) &&
      (match d.cap p with
        | none => true
        | some k => decide (pow ≤ k * 200))

/-- The Request repeats the HPM contract in force. -/
def Dev.hpmIsRepeat (d : Dev) (p r : Nat) : Bool :=
  d.hpmCon p && d.conVolt p == 4000 + bits r 12 11 && d.conCurr p == bits r 0 12 * 5

/-- HPM_Accept with a verdict (R292 step 3). -/
def Dev.hpmAccept (d : Dev) (p v : Nat) : Dev :=
  let r := d.get (H.hpmReq p)
  let d := d.put (F.PRT_HPM_STAT_STATE p) 6
  let d := if v = 0 then
      d.puts [(H.hpmVerd p, 1), (H.newCon p, conWord false 6 0 (4000 + bits r 12 11) (bits r 0 12 * 5))]
    else d.put (H.waits p) v
  d.vdmSop p chiSvid 1 0 0x12 [v * 2 ^ 30 + bits r 0 23] (if v = 0 then 22 else 23)

/-- HPM_Transition (R292 step 4). DESIGN CHOICE (log entry 132): TRAMP is rounded up to whole µs. -/
def Dev.hpmTransition (d : Dev) (p : Nat) : Dev :=
  let v := bits (d.get (H.newCon p)) 14 13
  let from_ := d.vLevel p
  let diff := if v ≤ from_ then from_ - v else v - from_
  let tramp := if d.bit (H.hpmRepeat p) then 0 else cdiv (diff * 10) (max 1 (d.get (F.PRT_XFER_SLEW p)))
  (d.put (F.PRT_HPM_STAT_STATE p) 7).vdmSop p chiSvid 1 0 0x13 [min tramp (2 ^ 20 - 1)] 24

/-- The Request of a sink by its profile: `none` where no object fits (R293). -/
def Dev.hpmReqVdo (d : Dev) (p : Nat) : Option Nat :=
  let a := d.profA p (d.profile p)
  let v1 := d.get (H.hpmV1 p)
  let v2 := d.get (H.hpmV2 p)
  let v := min (bits a 11 11) (bits v1 11 11)
  if v < max (bits a 0 11) (bits v1 0 11) then none
  else
    let c := min (min (bits (d.profB p (d.profile p)) 12 12) (bits v2 0 12))
      (min (bits (d.cableVdo p) 16 8 * 10)
        (min (bits v2 16 10 * 20000 / (4000 + v)) (d.capAt p (4000 + v) 50 4095)))
    some (v * 4096 + c)

/-- HPM_Request is sent. -/
def Dev.hpmReqSend (d : Dev) (p r : Nat) : Dev :=
  let d := ((d.exBegin p true 800).puts [(H.hpmReq p, r), (F.PRT_HPM_STAT_STATE p, 6), (T.sinkReq p, 0),
    (H.newCon p, conWord true 6 0 (4000 + bits r 12 11) (bits r 0 12 * 5))]).setPe p 15
  d.vdmSop p chiSvid 1 0 0x11 [r] 26

/-- Enter Mode is sent (R284 step 1). -/
def Dev.hpmEnterSend (d : Dev) (p : Nat) : Dev :=
  let d := ((d.exBegin p true 800).puts [(F.PRT_HPM_STAT_STATE p, 2),
    (F.PRT_HPM_STAT_PROFILE p, d.get (H.hpmProf p) - 1)]).setPe p 15
  (d.vdmBegin p 4 0).arm (T.vdmMode p) (msTicks 45)

/-! ### Replies of the source and of the swap (R206, R251) -/

/-- EPR_Mode data object. -/
def eprMode (action data : Nat) : List Nat := [action * 2 ^ 24 + data * 2 ^ 16]

/-- The verdict on a Request goes out: 0 Accept, 1 Reject, 2 Wait. -/
def Dev.srcReply (d : Dev) (p v : Nat) : Dev :=
  let r := d.get (H.rdoNew p)
  if v = 0 then ((d.put (H.newCon p) (rdoCon false (d.offered p r) r)).setPe p 3).txSop p 3 [] 2
  else d.txSop p (if v = 1 then 4 else 12) [] 39

/-- The verdict on the partner's PR_Swap goes out. -/
def Dev.swapReply (d : Dev) (p v : Nat) : Dev :=
  if v = 0 then d.txSop p 3 [] 8
  else ((if v = 1 then d.put (F.PRT_SWAP_STAT_LASTEND p) 2 else d).put (F.PRT_SWAP_STAT_STEP p) 0).txSop p
    (if v = 1 then 4 else 12) [] 31

/-! ### Decisions (R230) -/

/-- ACT values that R230 allows in a table entry. -/
def actAllowed (code act : Nat) : Bool :=
  match code with
  | 1 => decide (act ≤ 3)
  | 2 => decide (act ≤ 3)
  | 5 => decide (act ≤ 4)
  | 7 => decide (act ≤ 3)
  | _ => decide (act ≤ 1)

/-- ACT of the fixed default. -/
def fixedDefault (code : Nat) : Nat := if code = 0 ∨ code = 1 then 0 else if code = 2 then 3 else 1

/-- The ARG is valid for the code and ACT (R226, R227, R283). -/
def Dev.argValid (d : Dev) (p code act arg : Nat) : Bool :=
  if (code = 6 ∨ code = 8) ∧ act = 0 then d.profValid p (arg % 16)
  else if code = 2 ∧ act = 4 then d.rdoValid p (arg % 2 ^ 32)
  else true

/-- A SNK_SELECT decision sends its Request (R211, R230). -/
def Dev.decideSelect (d : Dev) (p act arg : Nat) : Dev :=
  let r := if act = 4 then some (arg % 2 ^ 32) else d.selectRdo p act (arg % 2 ^ 28)
  match r with
  | some r => (d.put (H.vs5req p) 0).sendRequest p (d.rdoCapped p r)
  | none => (d.put (H.vs5req p) 1).sendRequest p (d.vs5Rdo p)

/-- An HPM_TRY decision (R283). The entry goes on inside the exchange that partner discovery has left open, if one is (R274). -/
def Dev.decideTry (d : Dev) (p act arg : Nat) : Dev :=
  if act = 0 then
    let d := d.put (H.hpmProf p) (arg % 16 + 1)
    if d.lookOpen p then d.hpmEnterSend p else d.wantOwn p 7
  else
    let d := (d.puts [(H.hpmNo p, 1), (F.PRT_HPM_STAT_STATE p, 0)]).hpmEvt p (F.PRT_HPM_EVT_TRYNO p)
    if d.lookOpen p then d.exEnd p else d.sched p

/-- An HPM_SELECT decision (R293). -/
def Dev.decideHpmSelect (d : Dev) (p act arg : Nat) : Dev :=
  if act = 0 then
    let d := d.put (F.PRT_HPM_STAT_PROFILE p) (arg % 16)
    match d.hpmReqVdo p with
    | none => d.hpmSeqFail p 8
    | some r => d.hpmReqSend p r
  else d.hpmExitBegin p

/-- A decision acts. -/
def Dev.decide_ (d : Dev) (p code act arg : Nat) : Dev :=
  let limit := arg % 2 ^ 18
  match code with
  | 0 => (d.puts [(H.offerMask p, if act = 1 then arg % 2048 ||| 1 else 2047), (H.offerOk p, 1)]).arm (T.capsReady p) 0
  | 1 =>
    let r := d.get (H.rdoNew p)
    let o := d.offered p r
    d.srcReply p (if act = 3 then (if rdoVolt2 o r * rdoOp o r ≤ limit * 2000 then 0 else 1) else act)
  | 2 => d.decideSelect p act arg
  | 3 => if act = 0 then d.txSop p 42 (eprMode 2 0) 14 else d.txSop p 42 (eprMode 4 4) 34
  | 4 => if act = 0 then d.wantOwn p 10 else d.sched p
  | 5 => d.swapReply p (if act = 0 ∨ (act = 3 ∧ d.isSrc p) ∨ (act = 4 ∧ d.isSnk p) then 0 else if act = 2 then 2 else 1)
  | 6 => d.decideTry p act arg
  | 7 =>
    let r := d.get (H.hpmReq p)
    d.hpmAccept p (if act = 3 then (if (4000 + bits r 12 11) * bits r 0 12 ≤ limit * 200 then 0 else 1) else act)
  | 8 => d.decideHpmSelect p act arg
  | _ => d

/-- The default decision of a code: the table entry where it is valid, else the fixed default (R226, R231); ASKDEF. -/
def Dev.askDefault (d : Dev) (p code : Nat) : Dev :=
  let d := d.peEvt p (F.PRT_PE_EVT_ASKDEF p)
  let e := d.pstg p (0x30 + code)
  let act := bits e 28 3
  let arg := bits e 0 28
  if e.testBit 31 && actAllowed code act && d.argValid p code act arg then d.decide_ p code act arg
  else d.decide_ p code (fixedDefault code) 0

/-! ### Posting (R224-R229) -/

/-- An ask is due at its trigger tick, now: it is posted, or its default applies at once. DESIGN CHOICE (log entry 126): an ask that its
default settles at once takes a serial too, and ASKSER and ASKCODE show it. -/
def Dev.askPost (d : Dev) (p code w2 w3 : Nat) : Dev :=
  let n := d.get (H.askNext p)
  let ch := d.get (F.PRT_ASK_CFG_CHAN p)
  let d := d.puts [(H.askNext p, n + 1), (F.PRT_PE_STAT_ASKSER p, n), (F.PRT_PE_STAT_ASKCODE p, code),
    (H.askTrig p, d.now), (H.askW2 p, w2), (H.askW3 p, w3), (F.PRT_PE_STAT_ASKPEND p, 0), (T.ask p, 0)]
  if d.mode = 3 then (d.raisePort p 2).askDefault p code
  else if d.mode = 4 ∨ !d.getBit (F.PRT_ASK_CFG_EN p) code ∨ !d.bit (F.PRT_ASK_CFG_CHEN p) then d.askDefault p code
  else if d.hwCredit ch = 0 then (d.peEvt p (F.PRT_PE_EVT_ASKDROP p)).askDefault p code
  else
    let d := d.hwEnqueue ch ([5 * 2 ^ 32 + p * 2 ^ 24 + code * 2 ^ 20 + n % 4096 * 256, d.tb, w2, w3].map (BitVec.ofNat 36))
    ((d.set1 (F.PRT_PE_STAT_ASKPEND p)).raisePort p 2).arm (T.ask p) (msTicks (d.get (F.PRT_ASK_CFG_DL p)))

/-- SRC_OFFER with its reason; an offer is due (R204, R229). One already due is not asked for again (R223). -/
def Dev.offerAsk (d : Dev) (p reason : Nat) (epr : Bool) : Dev :=
  let d := d.puts [(H.offerDue p, 1), (H.offerOk p, 0), (H.offerOwn p, 0), (H.offerEpr p, b2n epr), (H.capsCnt p, 0)]
  d.askPost p 0 (d.capFig p) reason

/-- HPM_SELECT or SNK_SELECT for the capabilities stored. -/
def Dev.selectAsk (d : Dev) (p n : Nat) (epr : Bool) : Dev :=
  (d.setPe p 8).askPost p 2 (b2n epr * 16 + n) (d.capFig p)

/-! ### A port starts in a role -/

/-- VCONN may close onto the inactive line (R178): VCONNOC is that of PRTnn_ATT_EVT, which software clears. -/
def Dev.vconnOk (d : Dev) (p : Nat) : Bool :=
  d.bit (F.PRT_CTRL_VCONNEN p) && !d.bit F.SYS_SUPPLY_VCONNLOW && !d.bit (F.PRT_ATT_EVT_VCONNOC p)

/-- The VCONN switch closes. -/
def Dev.vconnOn (d : Dev) (p : Nat) : Dev :=
  d.puts [(F.PRT_ATT_STAT_VCONNON p, 1), (F.PRT_PE_STAT_VCSRC p, 1), (H.padVcon p, 1)]

/-- R178, at any change of its conditions. DESIGN CHOICE (log entry 125): a closed switch stays closed when VCONNEN is written 0 or Ra
is no longer accepted, since R178 gives conditions for closing only and names the causes that open it. A port that took the role under R222
(H.vcsTry 3) closes again as sink, and discovers the cable when VCSRC first becomes 1 (R275). -/
def Dev.vconnCheck (d : Dev) (p : Nat) : Dev :=
  if d.bit (F.PRT_ATT_STAT_VCONNON p) || d.att p == 10 then d
  else if !d.vconnOk p then d
  else if d.attached p && d.get (H.vcsTry p) == 3 then
    let d := d.vconnOn p
    if d.bit (H.cblDone p) then d else d.wantOwn p 6
  else if d.isSrc p && d.bit (F.PRT_ATT_STAT_RAPRES p) && !d.bit (H.snkEntry p) then d.vconnOn p
  else d

/-- Cable discovery begins on SOP′ (R275); `idOnly` and `cmd` for the DISCOVER command. -/
def Dev.discBegin (d : Dev) (p tgt : Nat) (idOnly cmd : Bool) : Dev :=
  let d := d.exBegin p true 100
  let d := if d.pe p = 1 then d else d.setPe p 14
  (d.puts [(H.vdmCnt p, 0), (H.vdmIdOnly p, b2n idOnly), (H.vdmCmd p, if cmd then tgt + 1 else 0)]).vdmBegin p 1 tgt

/-- From step 2 of R204: cable discovery where VCONN is applied, with its collision avoidance (R201, R274: DEDUCED, a partner
of unknown revision counts as PD 3.x), then the conditions of step 3. -/
def Dev.srcDisc (d : Dev) (p : Nat) : Dev :=
  let d := d.vconnCheck p
  if !d.bit (F.PRT_ATT_STAT_VCONNON p) then d.set1 (H.discDone p)
  else
    let d := d.clr (H.discDone p)
    if d.pd2 p then d.discBegin p 1 false false
    else ((d.setRp p true).puts [(H.ownWait p, 7), (H.ownAt p, d.now)]).arm (T.sinkTx p) (msTicks 18)

/-- Entry to Attached.SRC (R204): 5.00 V is commanded, and SRC_OFFER posted with its reason. -/
def Dev.srcStart (d : Dev) (p reason : Nat) : Dev :=
  let d := (d.setPe p 1).puts [(H.grdSink p, 0), (H.vsafe5 p, 0), (H.swCapWait p, 0), (F.PRT_ATT_STAT_RPOWN p, 2)]
  let d := Dev.forN 16 (fun i e => e.put (H.offer p i) 0) d
  let d := (d.rampTo p 500).gateReq p
  if d.bit (H.pdOn p) then (d.srcDisc p).offerAsk p reason false else (d.vconnCheck p).noPd p

/-- Wait for capabilities (R211 step 1). -/
def Dev.snkWait (d : Dev) (p st : Nat) : Dev := (d.setPe p st).arm (T.waitCap p) (msTicks 465)

/-- Entry to Attached.SNK (R211). -/
def Dev.snkStart (d : Dev) (p : Nat) : Dev :=
  let d := ((d.puts [(H.grdSink p, 1), (H.snkInrush p, 1)]).setIset p 0).gateReq p
  if d.bit (H.pdOn p) then d.snkWait p 6 else d.noPd p

end Sys2Proof.Machine
end

