-- ==== Sys2Proof/Machine/TypeC.lean ====
section
/-!
DEFINITION. Sys2Proof/Machine/TypeC.lean: attach, orientation, debounce, detach and VCONN of a port (R164-R190). The
analog front end reports the codes of its comparators (R165), currents in mA, voltages in mV.
-/
namespace Sys2Proof.Machine

/-! ### Attach -/

/-- The ticks of the port's attach cycles in the chatter window (R169). -/
def Dev.attachTimes (d : Dev) (p : Nat) : List Nat :=
  (tget [] d.hist (64 + p)).filter (fun t => decide (d.now ≤ t + 640000000))

def Dev.setAttachTimes (d : Dev) (p : Nat) (l : List Nat) : Dev := { d with hist := tput [] d.hist (64 + p) l }

/-- What the last attach left of discovery and telemetry reads 0 again (R277). -/
def Dev.discClear (d : Dev) (p : Nat) : Dev :=
  let d := (((d.pstgZero p 0x82 14).pstgZero p 0xB0 4).pstgZero p 0xB8 7)
  d.puts [(H.recLen p, 0), (F.PRT_VDM_STAT_NSVID p, 0), (F.PRT_VDM_STAT_PTNHPM p, 0), (F.PRT_VDM_STAT_PTNMODAL p, 0),
    (F.PRT_VDM_STAT_PTNID p, 0), (F.PRT_VDM_STAT_CBLHPM p, 0), (F.PRT_VDM_STAT_CBL5A p, 0), (F.PRT_VDM_STAT_CBLEPR p, 0),
    (F.PRT_VDM_STAT_CBLACT p, 0), (F.PRT_VDM_STAT_CBLSOP2 p, 0), (F.PRT_VDM_STAT_CBLID p, 0),
    (F.PRT_VDM_STAT_CBLRES p, 0), (F.PRT_VDM_STAT_PTNRES p, 0)]

/-- An attach cycle begins (R169): Attached.SRC or Attached.SNK, or Disabled for chatter. -/
def Dev.attach (d : Dev) (p : Nat) (sink : Bool) : Dev :=
  let d := d.attTimersOff p
  let l := d.attachTimes p
  if l.length ≥ 15 then (((d.disable p 3 17).attEvt p (F.PRT_ATT_EVT_CHATTER p)).arm (T.chatter p) 64000000)
  else
    let d := (((d.setAttachTimes p (d.now :: l)).inc (F.PRT_ATT_CNT_ATTCNT p)).discClear p).puts [(F.PRT_PE_STAT_REV p, 0),
      (F.PRT_PE_STAT_HRCNT p, 0), (H.hrTry p, 0), (H.pdOn p, d.get (F.PRT_PE_CTRL_PDEN p)),
      (H.autoVcs p, d.get (F.PRT_PE_CTRL_AUTOVCS p)), (H.deadBat p, 0), (H.rpLevel p, d.activeLine p),
      (F.PRT_PE_STAT_TXNG p, b2n (sink && d.activeLine p == 4)), (H.vcsTry p, 0), (H.vcsOff p, 0), (H.detaching p, 0)]
    let d := (((d.put (H.snkEntry p) (b2n sink)).attSet p (if sink then 3 else 8)).raUpdate p).attEvt p (F.PRT_ATT_EVT_ATTACH p)
    if sink then d.snkStart p else d.srcStart p 0

/-- WINCNT: the attach cycles in the window now. -/
def Dev.wincnt (d : Dev) (p : Nat) : Nat := min 16 (d.attachTimes p).length

/-- Debounce of AttachWait.SRC has ended: attach once VBS is below 0.8 V. -/
def Dev.settleSrc (d : Dev) (p : Nat) : Dev :=
  if d.bit (F.PRT_ATT_STAT_VBS0 p) then d.attach p false else d.set1 (H.ccSettle p)

/-- Debounce of AttachWait.SNK or TryWait.SNK has ended: attach once VBS is at least 4.0 V. -/
def Dev.settleSnk (d : Dev) (p : Nat) : Dev :=
  if d.bit (F.PRT_ATT_STAT_VBSOK p) then d.attach p true else d.set1 (H.ccSettle p)

/-- Try.SRC is entered (R171). -/
def Dev.trySrc (d : Dev) (p : Nat) : Dev := (((d.attTimersOff p).attSet p 6).put (F.PRT_ATT_STAT_RPOWN p) 2).arm (T.drpTry p) (msTicks 100)

/-- A debounced condition holds: its timer starts unless it runs or has ended; else the other one starts. -/
def Dev.waitLevel (d : Dev) (p : Nat) (seen : Bool) : Dev :=
  if seen then
    let d := d.stop (T.pdDb p)
    if d.armed (T.ccDb p) || d.bit (H.ccSettle p) then d else d.arm (T.ccDb p) (d.tccdb p)
  else
    let d := d.puts [(T.ccDb p, 0), (H.ccSettle p, 0)]
    if d.armed (T.pdDb p) then d else d.arm (T.pdDb p) (d.tpddb p)

/-- TryWait.SNK is entered, with TRYFAIL; the debounce of what is seen starts. -/
def Dev.tryWait (d : Dev) (p : Nat) : Dev :=
  ((((d.attTimersOff p).attSet p 7).put (F.PRT_ATT_STAT_RPOWN p) 0).attEvt p (F.PRT_ATT_EVT_TRYFAIL p)).waitLevel p
    (d.rpSeen p != 0)

/-- tCCDebounce has ended. -/
def Dev.ccDebounced (d : Dev) (p : Nat) : Dev :=
  if d.armed (T.ccDb p) then
    let d := d.stop (T.ccDb p)
    if d.att p = 5 then d.settleSrc p
    else if d.att p = 2 then
      if d.bit (H.tryPend p) && !(d.bit (H.deadBat p) && d.bit (F.PRT_ATT_STAT_VBSOK p)) then d.trySrc p else d.settleSnk p
    else if d.att p = 7 then d.settleSnk p
    else d
  else d

def execCcDebounceExpiry (p : Fin 24) (s : State) : Host.Outcome State Fault Refusal := s.ok (·.ccDebounced p.val)

/-- tDRPTry has ended: while Rd is seen with its debounce running, Try.SRC is left only once Rd is no longer seen. -/
def Dev.drpTryEnd (d : Dev) (p : Nat) : Dev :=
  if d.armed (T.drpTry p) then
    let d := d.stop (T.drpTry p)
    if d.att p = 6 ∧ d.rdSeen p = 0 then d.tryWait p else d
  else d

def execDrpTryExpiry (p : Fin 24) (s : State) : Host.Outcome State Fault Refusal := s.ok (·.drpTryEnd p.val)

def Dev.tryDebounced (d : Dev) (p : Nat) : Dev :=
  if d.armed (T.tryDb p) then
    let d := d.stop (T.tryDb p)
    if d.att p = 6 then d.attach p false else d
  else d

def execTryCcDebounceExpiry (p : Fin 24) (s : State) : Host.Outcome State Fault Refusal := s.ok (·.tryDebounced p.val)

/-! ### Detach -/

/-- An ordinary detach (R171, R184): a source leaves once VBS is below 0.8 V. -/
def Dev.detach (d : Dev) (p : Nat) : Dev :=
  let src := d.isSrc p
  let d := if d.bankedPort p then d.wake 2 else d
  let d := (((d.portEnd p 7).gateStop p 19 false).vsetOff p).attTimersOff p
  let d := d.attEvt p (F.PRT_ATT_EVT_DETACH p)
  if src then
    let d := d.puts [(H.detaching p, 1), (F.PRT_ATT_STAT_RPOWN p, 2)]
    if d.gates p = 0 then (if d.bit (F.PRT_ATT_STAT_VBS0 p) then d.unattached p else d.disOn p) else d
  else d.unattached p

/-- The voltage the port engine expects at VBS, in mV (R185, R263). -/
def Dev.expectV (d : Dev) (p : Nat) : Nat :=
  if d.bit (H.swAcc p) then (if d.isSrc p then d.vLevel p * 10 else 5000)
  else if d.sinkRole p then
    (if d.heldExplicit p then d.heldV p * 10 else 5000)
  else d.vLevel p * 10

/-- The raw comparator's 640 ticks of Open count as an emergency detach (R185). Current in mA, VBS in mV. -/
def Dev.emergencyCond (d : Dev) (p i vbs : Nat) : Bool :=
  (d.attached p || d.att p == 10) && (!d.bit (H.swAcc p) || d.gatesOn p) &&
    (if d.hc p then d.bit (H.xferOn p) || decide (i > 1000)
     else
      let e := d.expectV p
      decide ((if vbs ≤ e then e - vbs else vbs - e) > max (e / 10) 1000))

/-- The actions of R186. In an accepted swap it is code 14 of R258: the stop is that of an emergency detach, and the port enters
ErrorRecovery. -/
def Dev.emergency (d : Dev) (p i vbs : Nat) : Dev :=
  if d.emergencyCond p i vbs then
    let d := if d.bankedPort p then d.wake 2 else d
    let swap := d.bit (H.swAcc p)
    let d := (d.segClose p 1 true).ccHold p
    let d := if swap then d.errRecover p 16 14 else ((((d.portEnd p 14).gateStop p 16 false).vsetOff p).attTimersOff p).attSet p 11
    let d := (d.inc (F.PRT_ATT_CNT_EMCNT p)).put (H.emTick p) (d.now + 1)
    let d := (d.attEvt p (F.PRT_ATT_EVT_EMERG p)).attEvt p (F.PRT_ATT_EVT_DETACH p)
    if swap then d
    else if d.gates p = 0 then (if d.bit (F.PRT_ATT_STAT_VBS0 p) then d.unattached p else d.disOn p) else d
  else d

/-- A command is an emergency detach of port p that takes effect (R187). -/
def Dev.emergencyOf (d : Dev) (p : Nat) : Instr → Bool
  | .emergencyDetach q i v => q.val == p && d.emergencyCond p i v
  | _ => false

/-- The emergency detach of port p that waits among the commands of this tick comes first (R187); its own command then finds it done. -/
def State.emFirst (s : State) (p : Nat) : State :=
  match s.pending.find? (s.dev.emergencyOf p) with
  | some (.emergencyDetach _ i v) => s.onDev (·.emergency p i v)
  | _ => s

/-- The outcome of a step of port p: an emergency detach of the same tick comes before it (R187). -/
def State.okAt (s : State) (p : Nat) (f : Dev → Dev) : Host.Outcome State Fault Refusal := (s.emFirst p).ok f

def execEmergencyDetach (p : Fin 24) (i vbs : Nat) (s : State) : Host.Outcome State Fault Refusal :=
  s.ok (·.emergency p.val i vbs)

/-- tPDDebounce has ended. -/
def Dev.pdDebounced (d : Dev) (p : Nat) : Dev :=
  if d.armed (T.pdDb p) then
    let d := d.stop (T.pdDb p)
    if d.att p = 2 ∨ d.att p = 5 ∨ d.att p = 7 then d.unattached p
    else if d.att p == 8 && d.isSrc p && !d.bit (H.swAcc p) then d.detach p
    else d
  else d

def execPdDebounceExpiry (p : Fin 24) (s : State) : Host.Outcome State Fault Refusal := s.okAt p.val (·.pdDebounced p.val)

/-- The sink-disconnect check is masked now (R213). -/
def Dev.masked (d : Dev) (p : Nat) : Bool :=
  d.bit (H.snkMask p) && (d.get (H.maskEnd p) == 0 || decide (d.now + 1 < d.get (H.maskEnd p)))

/-- VBS in mV is below the sink disconnect level, unmasked (R184). -/
def Dev.sinkGone (d : Dev) (p vbs : Nat) : Bool :=
  let level := if d.heldExplicit p && d.heldV p != 500 then d.heldV p * 8 else 3670
  d.att p == 3 && !d.masked p && decide (vbs < level)

/-- VBS in mV has stayed below the sink disconnect level for 10 µs (R184). -/
def Dev.sinkDisconnect (d : Dev) (p vbs : Nat) : Dev := if d.sinkGone p vbs then d.detach p else d

/-- A command is an ordinary detach of port p that takes effect. -/
def Dev.detachOf (d : Dev) (p : Nat) : Instr → Bool
  | .pdDebounceExpiry q => q.val == p && d.armed (T.pdDb p) && decide (d.get (T.pdDb p) ≤ d.now + 1)
  | .sinkDisconnect q v => q.val == p && d.sinkGone p v
  | _ => false

/-- The detach of port p that waits among the commands of this tick, an emergency detach before an ordinary one: it stands before a
command and an answer of the tick (R228, R237); its own command then finds it done. -/
def State.detachFirst (s : State) (p : Nat) : State :=
  let s := s.emFirst p
  match s.pending.find? (s.dev.detachOf p) with
  | some (.pdDebounceExpiry _) => s.onDev (·.pdDebounced p)
  | some (.sinkDisconnect _ v) => s.onDev (·.sinkDisconnect p v)
  | _ => s

def execSinkDisconnect (p : Fin 24) (vbs : Nat) (s : State) : Host.Outcome State Fault Refusal :=
  s.okAt p.val (·.sinkDisconnect p.val vbs)

/-! ### Accepted levels (R167, R171) -/

/-- What the accepted codes of both lines mean in the port's state. -/
def Dev.ccEval (d : Dev) (p : Nat) : Dev :=
  let st := d.att p
  if st = 1 ∨ st = 4 then d.recognise p
  else if st = 2 ∨ st = 7 then d.waitLevel p (d.rpSeen p != 0)
  else if st = 5 then d.waitLevel p (d.rdSeen p != 0)
  else if st = 6 then
    if d.rdSeen p ≠ 0 then (if d.armed (T.tryDb p) then d else d.arm (T.tryDb p) (msTicks 15))
    else
      let d := d.stop (T.tryDb p)
      if d.armed (T.drpTry p) then d else d.tryWait p
  else if st = 8 ∧ d.isSrc p then
    let d := (d.raUpdate p).vconnCheck p
    if d.activeLine p = 0 then
      (if d.bit (H.swAcc p) || d.armed (T.pdDb p) then d else d.arm (T.pdDb p) (d.tpddb p))
    else d.stop (T.pdDb p)
  else if st = 9 ∧ !d.armed (T.errRec p) ∧ d.cc1 p ≠ 6 ∧ d.cc2 p ≠ 6 then d.unattached p
  else d

/-- As sink a change of the partner's Rp on the active line becomes the recognised level once it has stood 1 ms (R183). -/
def Dev.rpAccept (d : Dev) (p cc : Nat) : Dev :=
  if d.seesRp p && d.get (F.PRT_ATT_STAT_ORIENT p) == cc + 1 then
    let c := d.ccCode p cc
    d.put (H.rpDue p) (if isRpCode c && c != d.get (H.rpLevel p) then d.now + 64000 + 1 else 0)
  else d

/-- A level code of one line is accepted. -/
def Dev.ccAccept (d : Dev) (p cc code : Nat) : Dev :=
  let d := (d.put (if cc = 0 then F.PRT_ATT_STAT_CC1LVL p else F.PRT_ATT_STAT_CC2LVL p) code).puts
    [(H.ccRej p, 0), (H.ccDue p cc, 0), (H.ccSince p cc, d.now + 1)]
  let d := d.put (H.ccov p) (b2n (d.cc1 p == 6 || d.cc2 p == 6))
  (((d.rpAccept p cc).ccEval p).raUpdate p).ccRecount p

/-- A rejected candidate of a CC line of port p; eight of them set ACT (R161, R168). -/
def Dev.ccReject (d : Dev) (p : Nat) : Dev :=
  let d := d.put (H.ccRej p) (min 8 (d.get (H.ccRej p) + 1))
  if d.get (H.ccRej p) = 8 ∧ !d.bit (F.PRT_ATT_EVT_ACT p) then d.attEvt p (F.PRT_ATT_EVT_ACT p) else d

/-- The comparator of CC1 (0) or CC2 (1) reports a code for as long as its acceptance needs. A code that the port's own termination
does not give leaves the code as it is (R165); the accepted code ends a candidate as rejected; another one is accepted with the
FILTN-th sample that no blanking touches (R166, R167), now or at that sample. -/
def Dev.ccLevel (d : Dev) (p cc code : Nat) : Dev :=
  if d.mode = 2 then d
  else if !codeFits (d.ccTerm p (cc + 1)) code then d.put (H.ccDue p cc) 0
  else if code = d.ccCode p cc then
    if d.bit (H.ccDue p cc) then (d.puts [(H.ccDue p cc, 0), (H.ccSince p cc, d.now + 1)]).ccReject p else d
  else if d.ccEarliest p cc = d.now then d.ccAccept p cc code
  else d.puts [(H.ccCand p cc, code), (H.ccDue p cc, d.ccEarliest p cc + 1)]

def execCcLevelAccepted (p : Fin 24) (cc : Fin 2) (code : Fin 6) (s : State) : Host.Outcome State Fault Refusal :=
  s.ok (·.ccLevel p.val cc.val code.val)

/-- A candidate of port p is rejected. None is while the comparators are blanked (R166); the line of one that stands loses it. -/
def Dev.ccRejected (d : Dev) (p : Nat) : Dev :=
  if d.now < d.get (H.blankTo p) ∨ d.mode = 2 then d
  else
    let cc := if d.bit (H.ccDue p 0) then 0 else 1
    (d.puts [(H.ccDue p cc, 0), (H.ccSince p cc, d.now + 1)]).ccReject p

/-- A rejected candidate: of capture input i below 12, else of a CC line of port i − 12 (R161, R168). -/
def execCapCandidateRejected (i : Fin 36) (s : State) : Host.Outcome State Fault Refusal :=
  s.ok (fun d => if i.val < 12 then d.capReject i.val else d.ccRejected (i.val - 12))

/-- A CC line has stayed above 6.0 V for 2 µs (R180). -/
def Dev.ccOver (d : Dev) (p cc : Nat) : Dev :=
  if d.mode = 2 then d
  else
    let d := ((d.put (if cc = 0 then F.PRT_ATT_STAT_CC1LVL p else F.PRT_ATT_STAT_CC2LVL p) 6).set1 (H.ccov p)).attEvt p
      (F.PRT_ATT_EVT_CCOV p)
    (d.vconnOff p).errRecover p 18 7

def execCcOvervoltage (p : Fin 24) (cc : Fin 2) (s : State) : Host.Outcome State Fault Refusal :=
  s.ok (·.ccOver p.val cc.val)

/-- The VCONN switch has been in current limit for 1 ms (R179). -/
def Dev.vconnOver (d : Dev) (p : Nat) : Dev :=
  if d.bit (F.PRT_ATT_STAT_VCONNON p) then ((d.vconnOff p).set1 (H.vconnOc p)).attEvt p (F.PRT_ATT_EVT_VCONNOC p) else d

def execVconnOvercurrent (p : Fin 24) (s : State) : Host.Outcome State Fault Refusal := s.ok (·.vconnOver p.val)

/-- The accepted Rp code of the active line has been held for 1 ms of time not blanked and becomes the recognised level (R183,
R203). -/
def Dev.rpRecognised (d : Dev) (p code : Nat) : Dev :=
  if d.seesRp p && d.activeLine p == code && d.bit (H.rpDue p) && decide (d.get (H.rpDue p) ≤ d.now + 1) then
    let d := d.puts [(H.rpLevel p, code), (F.PRT_PE_STAT_TXNG p, b2n (code == 4)), (H.rpDue p, 0)]
    let d := if d.pe p = 19 ∧ !d.bit (H.snkInrush p) then d.setIset p (d.rpCurrent p) else d
    d.arm (T.cmdStart p) 0
  else d

/-- Codes 3 to 5 as operand 0 to 2. -/
def execRpLevelRecognised (p : Fin 24) (code : Fin 3) (s : State) : Host.Outcome State Fault Refusal :=
  s.ok (·.rpRecognised p.val (code.val + 3))

/-! ### Toggling, chatter, ErrorRecovery -/

/-- A toggle period starts: what it latches of PRTnn_TOGGLE (R175). -/
def Dev.periodStart (d : Dev) (p : Nat) : Dev :=
  (d.puts [(H.togSrcLen p, d.phaseTicks p true), (H.restLen p, d.get (F.PRT_TOGGLE_BSLEEP p))]).arm (T.toggle p)
    (d.phaseTicks p false)

/-- A toggle phase ends. A dual-role port enters the other Unattached state, and ROLE and TRYSRC take effect at that entry; a port of
one role stays where it is (R171, R189). In Banked a rest follows a full period (R176). -/
def Dev.toggleEnd (d : Dev) (p : Nat) : Dev :=
  if d.armed (T.toggle p) && (d.att p == 1 || d.att p == 4) then
    let one := d.get (H.rolePend p) == 1 || d.get (H.rolePend p) == 2
    let d := if one then d else d.puts [(H.rolePend p, d.get (F.PRT_CTRL_ROLE p)), (H.tryPend p, d.get (F.PRT_CTRL_TRYSRC p))]
    let role := d.get (H.rolePend p)
    if d.bit (H.toggleSrc p) then
      let d := d.puts [(H.toggleSrc p, 0), (H.togglePer p, min 2 (d.get (H.togglePer p) + 1)), (T.toggle p, 0)]
      let d := d.attSet p (if role = 1 then 4 else 1)
      if d.mode = 3 ∧ d.get (H.restLen p) ≠ 0 then
        (((d.arm (T.rest p) (d.get (H.restLen p) * 640000)).ccRecount p)).recognise p
      else (d.periodStart p).recognise p
    else
      let d := (d.set1 (H.toggleSrc p)).attSet p (if role = 2 then 1 else 4)
      (d.arm (T.toggle p) (d.get (H.togSrcLen p))).recognise p
  else d.stop (T.toggle p)

def execTogglePhaseEnd (p : Fin 24) (s : State) : Host.Outcome State Fault Refusal := s.ok (·.toggleEnd p.val)

/-- The Banked rest ends, and the next period starts (R176). -/
def Dev.restEnd (d : Dev) (p : Nat) : Dev :=
  if d.armed (T.rest p) && (d.att p == 1 || d.att p == 4) then
    ((d.stop (T.rest p)).periodStart p).ccRecount p
  else d.stop (T.rest p)

def execBankedToggleRestEnd (p : Fin 24) (s : State) : Host.Outcome State Fault Refusal := s.ok (·.restEnd p.val)

/-- The chatter hold ends (R169). -/
def Dev.chatterEnd (d : Dev) (p : Nat) : Dev :=
  if d.armed (T.chatter p) then ((d.stop (T.chatter p)).setAttachTimes p []).enableCause p 3 else d

def execChatterHoldExpiry (p : Fin 24) (s : State) : Host.Outcome State Fault Refusal := s.ok (·.chatterEnd p.val)

/-- tErrorRecovery ends; with CC overvoltage the port stays (R180). -/
def Dev.errRecEnd (d : Dev) (p : Nat) : Dev :=
  if d.armed (T.errRec p) then
    let d := d.stop (T.errRec p)
    if d.att p = 9 ∧ d.bit (F.PRT_ATT_STAT_DISWHY p) then d.attSet p 0
    else if d.att p = 9 ∧ d.cc1 p ≠ 6 ∧ d.cc2 p ≠ 6 then d.unattached p else d
  else d

def execErrorRecoveryExpiry (p : Fin 24) (s : State) : Host.Outcome State Fault Refusal := s.ok (·.errRecEnd p.val)

/-! ### Register writes -/

/-- A write of PRTnn_CTRL (R187-R189): ERREC after the other fields, and not on the tick of an emergency detach. -/
def Dev.prtCtrlWrite (d : Dev) (p v : Nat) : Dev :=
  let d := d.puts [(F.PRT_CTRL_VCONNEN p, bits v 7 1), (F.PRT_CTRL_ROLE p, bits v 4 2), (F.PRT_CTRL_TRYSRC p, bits v 3 1),
    (F.PRT_CTRL_ENABLE p, bits v 0 1)]
  let d := if v.testBit 0 then d.enableCause p 0 else d.disable p 0 17
  let d := d.vconnCheck p
  if v.testBit 2 && d.get (H.emTick p) != d.now + 1 then d.errRecover p 18 7 else d

/-- A write with ERREC = 1. -/
def execPrtErrec (p : Fin 24) (v : Word) (s : State) : Host.Outcome State Fault Refusal :=
  s.okAt p.val (·.prtCtrlWrite p.val (v.toNat ||| 4))

def execPrtEnable (p : Fin 24) (v : Word) (s : State) : Host.Outcome State Fault Refusal :=
  s.okAt p.val (·.prtCtrlWrite p.val v.toNat)

/-- Ticks of an SI code (R157). -/
def siTicks (si : Nat) : Nat := 4 ^ si

/-- A write of PRTnn_CCFILT (R190): the candidate count starts again. -/
def Dev.ccfiltWrite (d : Dev) (p v : Nat) : Dev :=
  let n := bits v 8 8
  if n = 0 ∨ n * siTicks (bits v 5 3) > 64000 then d
  else (d.puts [(F.PRT_CCFILT_FILTN p, n), (F.PRT_CCFILT_SI p, bits v 5 3)]).ccRestart p

def execCcfiltWrite (p : Fin 24) (v : Word) (s : State) : Host.Outcome State Fault Refusal :=
  s.ok (·.ccfiltWrite p.val v.toNat)

/-- Writes of PRTnn_TOGGLE and PRTnn_DEBOUNCE (R175). -/
def Dev.toggleWrite (d : Dev) (p v : Nat) : Dev :=
  let b := bits v 16 8
  let duty := bits v 8 8
  let per := bits v 0 8
  if b ≤ 100 ∧ 30 ≤ duty ∧ duty ≤ 70 ∧ 50 ≤ per ∧ per ≤ 100 then
    d.puts [(F.PRT_TOGGLE_BSLEEP p, b), (F.PRT_TOGGLE_DUTY p, duty), (F.PRT_TOGGLE_PERIOD p, per)]
  else d

def Dev.debounceWrite (d : Dev) (p v : Nat) : Dev :=
  let c := bits v 8 8
  let t := bits v 0 8
  if 100 ≤ c ∧ c ≤ 200 ∧ 10 ≤ t ∧ t ≤ 20 then d.puts [(F.PRT_DEBOUNCE_TCCDB p, c), (F.PRT_DEBOUNCE_TPDDB p, t)] else d

/-- A clear of ACT starts the count of rejections anew (R161, R168); a clear of VCONNOC may let VCONN close (R178). -/
def Dev.attEvtAfter (d : Dev) (p v : Nat) : Dev :=
  let d := if v.testBit 5 && !d.bit (F.PRT_ATT_EVT_ACT p) then d.put (H.ccRej p) 0 else d
  if v.testBit 7 then d.vconnCheck p else d

/-- PRTnn_ATT_CNT with WINCNT as of now. -/
def Dev.readAttCnt (d : Dev) (p : Nat) : Nat :=
  d.get (F.PRT_ATT_CNT_ATTCNT p) * 2 ^ 20 + d.get (F.PRT_ATT_CNT_EMCNT p) * 2 ^ 12 + d.wincnt p

end Sys2Proof.Machine
end

