-- ==== Sys2Proof/Machine/Contract.lean ====
section
/-!
DEFINITION. Sys2Proof/Machine/Contract.lean: contracts taking effect, converter transitions, protocol errors, and the
recoveries from Soft_Reset and Hard_Reset (R204-R223).
-/
namespace Sys2Proof.Machine

/-! ### Contracts taking effect (R207) -/

/-- The present contract is PPS or AVS. -/
def Dev.conPps (d : Dev) (p : Nat) : Bool := d.conKind p == 3 || d.conKind p == 5

/-- Periodic requests and timeouts of a PD contract (R208, R215). -/
def Dev.conTimers (d : Dev) (p : Nat) : Dev :=
  let d := d.conTimersOff p
  if d.conPps p then
    if d.isSnk p then d.arm (T.ppsReq p) (msTicks 5000) else if d.conKind p = 3 then d.arm (T.ppsTo p) (msTicks 13500) else d
  else d

/-- What follows the first explicit contract and every later one: VCONN_Swap, discovery, HPM, and the HPM sequence that a
swap has left to run again (R222, R276, R281, R306). -/
def Dev.conFollow (d : Dev) (p : Nat) : Dev :=
  let d := if d.isSnk p && d.bit (H.autoVcs p) && !d.bit (F.PRT_PE_STAT_VCSRC p) && !d.bit (H.vcsOff p) &&
      !d.bit (H.firstCon p) then d.wantOwn p 5 else d
  let d := if d.bit (H.hpmOn p) && d.get (F.PRT_HPM_STAT_STATE p) == 10 then
      if !d.hpmRoles p then d.wantOwn p 9
      else if d.isSrc p then d.wantOwn p 8
      else (d.put (F.PRT_HPM_STAT_STATE p) 5).arm (T.hpmOffer p) (msTicks 100)
    else d
  let d := if !d.bit (H.firstCon p) && !d.bit (H.ptnDone p) && d.bit (F.PRT_PE_CTRL_HPMEN p) && d.pd3 p then d.wantOwn p 4
    else d.arm (T.hpmCond p) 0
  d.set1 (H.firstCon p)

/-- An HPM contract is in force (R298, R303, R304): the initial ceiling is CURR; an own ceiling that differs is sent. -/
def Dev.hpmConStart (d : Dev) (p : Nat) : Dev :=
  let c := d.conCurr p / 5
  let o := d.ownCeilNow p
  let d := (((d.conTimersOff p).puts [(F.PRT_HPM_STAT_STATE p, 8), (F.PRT_HPM_CEIL_PCEIL p, 4095), (H.ownCeil p, o),
    (H.ceilSent p, c), (F.PRT_HPM_CEIL_CEIL p, o), (T.snkKeep p, 0), (T.srcKeep p, 0), (H.hpmVerd p, 0),
    (H.hpmRepeat p, 0), (H.hpmWaits p, 0), (T.ownCeil p, 0), (H.ceilWait p, 0)]).hpmEvt p (F.PRT_HPM_EVT_CONTRACT p))
  let d := if o = c then d else (d.put (H.ceilTick p) d.now).arm (T.ownCeil p) 0
  let d := if d.bit (H.ceilCmdRun p) && !d.armed (T.ownCeil p) then (d.clr (H.ceilCmdRun p)).cmdEnd p 0 else d
  if d.get (F.PRT_HPM_CTRL_TPOLL p) ≠ 0 then d.arm (T.tpoll p) (msTicks (1000 * d.get (F.PRT_HPM_CTRL_TPOLL p))) else d

/-- After an HPM resumption that follows an L2, discovery and the record run again (R633). -/
def Dev.rediscover (d : Dev) (p : Nat) : Dev :=
  let d := if d.bit (F.PRT_PE_STAT_VCSRC p) then d.wantOwn p 6 else d
  let d := if d.bit (F.PRT_PE_CTRL_HPMEN p) then d.wantOwn p 4 else d
  d.put (H.hpmHeld p) 0

/-- The negotiated contract takes effect now (R207). A raised draw ramps up over 1 ms from here (R212). -/
def Dev.conEffect (d : Dev) (p : Nat) : Dev :=
  let w := d.get (H.newCon p)
  let volt := bits w 14 13
  let wasResume := d.bit (H.resume p)
  let d := d.resumeEnd p
  let d := ((d.conWrite p w).peEvt p (F.PRT_PE_EVT_CONTRACT p)).puts [(H.rdo p, d.get (H.rdoNew p)),
    (H.vs5req p, 0), (H.hrTry p, 0)]
  let d := ((d.segClose p 3 true).xferEnd p volt).effUpdate p
  let d := if bits w 31 3 = 6 then d.hpmConStart p else d.conTimers p
  let d := if !d.isSnk p then d else if d.iLevel p < d.sinkPoint p then d.isetRamp p (d.sinkPoint p)
    else d.setIset p (d.sinkPoint p)
  let d := (d.cmdFin p 0).exEnd p
  if bits w 31 3 = 6 then (if wasResume then d.rediscover p else d.put (H.hpmHeld p) 0) else d.conFollow p

/-! ### Converter transitions (R206, R216, R217) -/

/-- The source's ramp to the negotiated voltage begins; a resumed contract needs none. -/
def Dev.srcXfer (d : Dev) (p : Nat) : Dev :=
  if d.bit (H.resume p) then d.txSop p 6 [] 3
  else (d.xferBegin p 1 (bits (d.get (H.newCon p)) 14 13)).rampTo p (bits (d.get (H.newCon p)) 14 13)

/-- tSrcTransition ends: the contract ramp, or the ramp of an accepted swap to 0 V (R206, R255). -/
def Dev.srcTransEnd (d : Dev) (p : Nat) : Dev :=
  if d.armed (T.srcTrans p) then
    let d := d.stop (T.srcTrans p)
    if d.bit (H.swAcc p) then (d.rampTo p 0).arm (T.safe0v p) (msTicks 650)
    else d.srcXfer p
  else d

def execTsrcTransitionExpiry (p : Fin 24) (s : State) : Host.Outcome State Fault Refusal := s.okAt p.val (·.srcTransEnd p.val)

/-- The guard takes the vSafe5V limits of a swap's new role (R261). -/
def Dev.swapLimits (d : Dev) (p : Nat) (sink : Bool) : Dev :=
  (d.puts [(H.grdSink p, b2n sink), (H.vexp p, 500), (H.keepLim p, 0)]).effUpdate p

/-- A VSET ramp reaches its target: a Request may wait for it (R212); else the transition settles within the PGTO that it started with
(R217). -/
def Dev.rampEnd (d : Dev) (p : Nat) : Dev :=
  if d.armed (T.ramp p) then
    let d := d.stop (T.ramp p)
    if d.get (H.hrPhase p) = 3 then d.gateStop p 20 false
    else if d.bit (H.swAcc p) && d.get (F.PRT_SWAP_STAT_STEP p) == 5 then
      ((d.put (F.PRT_SWAP_STAT_STEP p) 6).gateStop p 21 false).swapLimits p true
    else if d.bit (H.rampReq p) then (d.put (H.rampReq p) 0).requestGo p
    else if d.bit (H.xferOn p) && !d.bit (H.imode p) then
      (d.set1 (H.settleOn p)).arm (T.pgto p) (msTicks (d.get (H.pgtoLat p)))
    else if d.get (H.xferKind p) = 4 then d.puts [(H.xferKind p, 0), (H.vexp p, d.get (H.vnow p))]
    else d
  else d

/-- PG and VBS have met R216 for 0.5 ms: the closing message is sent; a sink's mask ends (R213). HPM_Ready
carries the own ceiling as it is then (R304). -/
def Dev.settled (d : Dev) (p : Nat) : Dev :=
  if d.isSnk p && d.get (H.snkMask p) == 1 && d.get (H.maskEnd p) != 0 then d.clr (H.snkMask p)
  else if d.bit (H.settleOn p) then
    let d := d.puts [(H.settleOn p, 0), (T.pgto p, 0)]
    let k := d.get (H.xferKind p)
    if k = 1 then d.txSop p 6 [] 3
    else if k = 2 then
      let v := bits (d.get (H.newCon p)) 14 13
      let ceil := min (min (bits (d.get (H.newCon p)) 0 14 / 5) (d.capAt p v 50 4095)) (d.get (H.ceilCmd p))
      d.vdmSop p chiSvid 1 0 0x14 [(v - 4000) * 4096 + ceil] 25
    else if k = 3 then d.txSop p 6 [] 10
    else d
  else d

def execTransitionSettled (p : Fin 24) (s : State) : Host.Outcome State Fault Refusal := s.okAt p.val (·.settled p.val)

/-- The transition has not settled within PGTO (R217, R258, R299). -/
def Dev.pgtoEnd (d : Dev) (p : Nat) : Dev :=
  if d.armed (T.pgto p) then
    let d := (d.stop (T.pgto p)).peEvt p (F.PRT_PE_EVT_XFERFAIL p)
    if d.bit (H.swAcc p) then d.errRecover p 18 11
    else if d.get (H.xferKind p) = 2 then ((d.hpmFail p 11).cmdFin p 7).hardReset p
    else (d.cmdFin p 7).hardReset p
  else d

def execPgtoExpiry (p : Fin 24) (s : State) : Host.Outcome State Fault Refusal := s.okAt p.val (·.pgtoEnd p.val)

/-- PnnPG has been low for 1 ms (R217, R91). -/
def Dev.pgLost (d : Dev) (p : Nat) : Dev :=
  let d := d.clr (H.pg p)
  let d := if d.bankedPort p then d.wake 3 else d
  if d.bit (H.swAcc p) then d
  else if d.isSrc p && d.bit (F.PRT_CONTRACT_VALID p) then ((d.peEvt p (F.PRT_PE_EVT_PGLOST p)).cmdFin p 7).hardReset p
  else if d.isSnk p then (d.peEvt p (F.PRT_PE_EVT_PGLOST p)).setIset p 0
  else d

def execPgLost (p : Fin 24) (s : State) : Host.Outcome State Fault Refusal := s.okAt p.val (·.pgLost p.val)

/-- PnnPG has been high for 10 ms: the sink's setpoint returns over 1 ms (R217). -/
def Dev.pgBack (d : Dev) (p : Nat) : Dev :=
  if d.bit (H.pg p) then d
  else
    let d := d.set1 (H.pg p)
    if d.isSnk p && !d.bit (H.swAcc p) && d.gatesOn p && !d.bit (H.rampReq p) then d.isetRamp p (d.sinkPoint p) else d

def execPgRestored (p : Fin 24) (s : State) : Host.Outcome State Fault Refusal := s.okAt p.val (·.pgBack p.val)

/-- A current step of a PPS source, every 62.5 µs; the measured current in mA (R208). -/
def Dev.ppsStep (d : Dev) (p i : Nat) : Dev :=
  if d.isSrc p && d.bit (F.PRT_CONTRACT_VALID p) && d.conKind p == 3 && !d.bit (H.xferOn p) then
    let op := d.conCurr p * 10
    let v := d.vLevel p
    if i > op + 50 then d.vStep p (max (v - 2) (min v (apdoMin (d.offered p (d.get (H.rdo p))))))
    else if i < op then d.vStep p (min (v + 2) (d.conVolt p))
    else d
  else d

def execPpsCurrentStep (p : Fin 24) (i : Nat) (s : State) : Host.Outcome State Fault Refusal := s.okAt p.val (·.ppsStep p.val i)

/-! ### Protocol errors and Soft_Reset (R195, R218) -/

/-- STATE of HPM between sequences. -/
def Dev.hpmRest (d : Dev) (p : Nat) : Dev :=
  if d.get (F.PRT_HPM_STAT_STATE p) = 10 then d
  else d.put (F.PRT_HPM_STAT_STATE p) (if d.hpmCon p then 8 else if d.bit (H.hpmOn p) then 3 else 0)

/-- A Soft_Reset, sent or received, abandons what is in progress: the started command, a swap before t_c, an HPM
sequence. A SOFT_RESET command goes on. -/
def Dev.abandon (d : Dev) (p : Nat) : Dev :=
  let own := d.bit (H.cmdRun p) && ((d.cmds p).map (·.code)).headD 0 == 0x1C
  let d := if d.bit (H.ceilCmdRun p) then d.puts [(H.ceilCmdRun p, 0), (T.ceilEop p, 0)] else d
  let d := if d.bit (F.PRT_SWAP_STAT_STEP p) && !d.bit (H.swAcc p) then (d.cmdJoined p (some 6)).swapOver p 6 else d
  let d := if own then d else (d.cmdUnheld p).cmdFin p 6
  (d.hpmTimersOff p).hpmRest p

/-- A protocol error (R195): Soft_Reset; after verdict 0 of an HPM sequence FAILWHY 12 and Hard_Reset (R299); in an
accepted swap LASTEND 13 (R258). -/
def Dev.protFail (d : Dev) (p : Nat) : Dev :=
  if d.bit (H.swAcc p) then d.errRecover p 18 13
  else if d.bit (H.hpmVerd p) then d.hpmSeqFail p 12
  else (d.abandon p).protErr p

/-- Negotiation starts afresh after a Soft_Reset exchange (R218, R221, R306, R633). -/
def Dev.negotiateAnew (d : Dev) (p : Nat) : Dev :=
  let d := d.puts [(H.exOn p, 0), (H.exOwn p, 0), (H.exAns p, 0), (H.await p, 0), (T.senderResp p, 0), (H.waits p, 0),
    (H.vs5req p, 0)]
  let held6 := bits (d.heldWord p) 31 3 == 6
  if d.hpmCon p || (d.bit (H.resume p) && held6) then
    let d := d.put (H.hpmHeld p) 1
    if d.isSrc p then d.hpmOfferSend p
    else ((d.put (F.PRT_HPM_STAT_STATE p) 5).setPe p (if d.bit (H.resume p) then 18 else 11)).arm (T.hpmOffer p) (msTicks 100)
  else if d.isSrc p then
    if d.bit (H.resume p) then
      (d.puts [(H.offerDue p, 1), (H.offerOk p, 1), (H.offerEpr p, b2n (d.epr p)), (H.vsafe5 p, 1), (H.discDone p, 1),
        (H.capsCnt p, 0)]).arm (T.capsReady p) 0
    else d.offerAsk p 3 (d.epr p)
  else d.snkWait p 7

/-- A Soft_Reset received has been accepted: as source, the capabilities asked for at its stamp may go out (R218, R224). -/
def Dev.softAnswered (d : Dev) (p : Nat) : Dev :=
  if d.bit (H.offerDue p) then (d.puts [(H.exOn p, 0), (H.exOwn p, 0)]).arm (T.capsReady p) 0 else d.negotiateAnew p

/-! ### Hard_Reset recovery (R219, R220) -/

/-- Hard_Reset for want of a PD response, or NO_PD after nHardResetCount of them. -/
def Dev.hardOrNoPd (d : Dev) (p : Nat) : Dev :=
  if d.get (H.hrTry p) ≥ 2 then d.noPd p
  else
    let n := d.get (H.hrTry p) + 1
    (d.put (H.hrTry p) n).hardReset p

/-- The signalling of an own Hard_Reset has been sent: the command is DONE, and the recovery goes on (R239). -/
def Dev.hardSent (d : Dev) (p : Nat) : Dev :=
  let d := d.stop (T.hrDone p)
  if d.get (H.hrPhase p) = 1 then (d.cmdEnd p 0).hardRecover p else d

def execHardResetSignallingSent (p : Fin 24) (s : State) : Host.Outcome State Fault Refusal := s.okAt p.val (·.hardSent p.val)

/-- tPSHardReset ends: VSET ramps to 0 V with DIS on. -/
def Dev.psHardEnd (d : Dev) (p : Nat) : Dev :=
  if d.armed (T.psHr p) then
    let d := d.stop (T.psHr p)
    if d.get (H.hrPhase p) = 2 then (((d.put (H.hrPhase p) 3).rampTo p 0).disOn p).arm (T.safe0v p) (msTicks 650) else d
  else d

def execTpsHardResetExpiry (p : Fin 24) (s : State) : Host.Outcome State Fault Refusal := s.okAt p.val (·.psHardEnd p.val)

/-- tSafe0V ends with VBS not below 0.8 V: a swap ends with LASTEND 10; after a Hard_Reset the port enters
ErrorRecovery. -/
def Dev.safe0vEnd (d : Dev) (p : Nat) : Dev :=
  if d.armed (T.safe0v p) then
    let d := d.stop (T.safe0v p)
    if d.bit (H.swAcc p) then d.errRecover p 18 10
    else if d.get (H.hrPhase p) = 3 then d.errRecover p 18 7
    else d
  else d

def execTsafe0vExpiry (p : Fin 24) (s : State) : Host.Outcome State Fault Refusal := s.okAt p.val (·.safe0vEnd p.val)

/-- tSrcRecover ends: vSafe5V again, with SRC_OFFER for RESET (R219). -/
def Dev.srcRecEnd (d : Dev) (p : Nat) : Dev :=
  if d.armed (T.srcRec p) then
    let d := d.stop (T.srcRec p)
    if d.get (H.hrPhase p) = 4 then (d.puts [(H.hrPhase p, 0), (H.exOn p, 0), (H.exOwn p, 0)]).srcStart p 3 else d
  else d

def execTsrcRecoverExpiry (p : Fin 24) (s : State) : Host.Outcome State Fault Refusal := s.okAt p.val (·.srcRecEnd p.val)

/-- VBS is below 0.8 V in a Hard_Reset: as source once the ramp has ended and the gates are off. -/
def Dev.hardLow (d : Dev) (p : Nat) : Dev :=
  if d.get (H.hrPhase p) = 3 then
    if d.armed (T.ramp p) || d.gates p != 0 then d else ((d.stop (T.safe0v p)).put (H.hrPhase p) 4).arm (T.srcRec p) (msTicks 830)
  else if d.get (H.hrPhase p) = 5 then d.put (H.hrPhase p) 6
  else d

/-- VBS is back in a Hard_Reset as sink: R211 step 1. -/
def Dev.hardBack (d : Dev) (p : Nat) : Dev :=
  if d.get (H.hrPhase p) = 6 then
    (((d.puts [(H.hrPhase p, 0), (H.exOn p, 0), (H.exOwn p, 0), (H.snkInrush p, 1)]).setIset p 0).gateReq p).snkWait p 7
  else d

/-! ### What every received message does first (R193, R202, R203, R220, R258) -/

/-- A back-off is drawn from 5 to 50 ms (R254): the draw is open. -/
def Dev.backOffTicks (d : Dev) : Nat × Dev :=
  let r := d.fresh 36
  (msTicks (5 + r.1 % 46), r.2)

/-- The first message of an own exchange has not begun its transmission when a message of n objects came in: it waited for the line, and
starts at the bound of R26 at the latest (R203). With a PD 2.0 partner only a PR_Swap is cancelled so (R203, R254). -/
def Dev.ownUnbegun (d : Dev) (p n : Nat) : Bool :=
  d.bit (H.firstKind p) && decide (d.now + 1 < d.get (H.txFrom p) + 3840 + frameTicks n) &&
    (match d.txs p with
      | f :: _ => f.tries == 0 && (!d.pd2 p || f.kind == 7)
      | [] => false)

/-- The frame of an own exchange that has not begun is taken back, with the state that it has set. -/
def Dev.unsend (d : Dev) (p : Nat) : Dev :=
  let hpm := d.pe p == 15
  let d := (d.txClear p).puts [(H.vdmWhat p, 0), (T.vdmResp p, 0), (T.vdmMode p, 0), (F.PRT_PE_STAT_STATE p, d.get (H.prevState p))]
  if hpm then d.hpmRest p else d

/-- An own exchange still in its wait, or whose first message has not begun, is withdrawn and waits again, from the end of the GoodCRC
to the partner's message at the earliest (R202, R203). A PR_SWAP command starts again under R238 (R253); with a PD 2.0 partner it
draws a back-off (R254). -/
def Dev.withdraw (d : Dev) (p n : Nat) : Dev :=
  let wait := d.get (H.ownWait p)
  let k := if wait ≠ 0 then wait else if d.ownUnbegun p n then d.get (H.firstKind p) else 0
  if k = 0 then d
  else
    let swap := d.bit (F.PRT_SWAP_STAT_STEP p)
    let d := if wait = 0 then d.unsend p else d
    let d := (d.puts [(H.ownWait p, 0), (T.sinkTx p, 0), (T.ramp p, if d.bit (H.rampReq p) then 0 else d.get (T.ramp p)),
      (H.rampReq p, 0)]).arm (T.cmdStart p) (d.get (H.gcTo p) - d.now)
    if k = 17 then
      if swap && d.pd2 p then
        let r := d.backOffTicks
        ((((r.2.inc (H.swBack p)).puts [(H.exOn p, 0), (H.exOwn p, 0), (F.PRT_SWAP_STAT_STEP p, 3)]).swapEvt p
          (F.PRT_SWAP_STAT_COLL p)).arm (T.backOff p) (if d.get (H.swBack p) < 4 then r.1 else 0))
      else
        let d := d.puts [(H.cmdRun p, 0), (H.exOn p, 0), (H.exOwn p, 0)]
        if swap then (d.puts [(F.PRT_SWAP_STAT_STEP p, 0), (T.cmdMiss p, 0)]).swapEvt p (F.PRT_SWAP_STAT_COLL p)
        else d.set1 (H.cmdHeld p)
    else (d.putBit (H.want p) (k - 1) true).puts [(H.exOn p, 0), (H.exOwn p, 0)]

/-- The port's protocol layer takes messages now. -/
def Dev.rxOn (d : Dev) (p : Nat) : Bool :=
  d.mode != 2 && d.attached p && d.bit (H.pdOn p) && d.pe p != 17 && !(d.pe p == 19 && !d.armed (T.noResp p))

/-- The partner's revision is taken from its first message (R193). -/
def Dev.learnRev (d : Dev) (p hdr : Nat) : Dev :=
  if d.get (F.PRT_PE_STAT_REV p) = 0 then d.put (F.PRT_PE_STAT_REV p) (if bits hdr 6 2 ≤ 1 then 1 else 2) else d

/-- NO_PD ends by a message within tNoResponse: negotiation restarts. DESIGN CHOICE (log entry 127): the SRC_OFFER of a source carries
reason 3, RESET. -/
def Dev.noPdEnd (d : Dev) (p : Nat) : Dev :=
  if d.pe p = 19 then
    let d := d.stop (T.noResp p)
    if d.isSrc p then (d.setPe p 1).offerAsk p 3 false else d.snkWait p 6
  else d

/-- A message on SOP with its header comes in: a repeat of the last one, and one in BIST Test Data mode, gets its GoodCRC and no more. -/
def Dev.rxIn (d : Dev) (p hdr : Nat) (f : Dev → Dev) : Dev :=
  let n := bits hdr 12 3
  if d.rxRepeat p 0 hdr || d.bit (H.bistData p) then d.rxSeen p n else f ((d.rxSeen p n).rxNote p 0 hdr)

/-- A message on SOP with its header is received: then `f`, unless the port takes none, or an accepted swap forbids it. -/
def Dev.rxAny (d : Dev) (p hdr : Nat) (f : Dev → Dev) : Dev :=
  if !d.rxOn p then d
  else
    d.rxIn p hdr (fun d =>
      let d := (d.learnRev p hdr).noPdEnd p
      if d.bit (H.swAcc p) then d.errRecover p 18 13 else f d)

/-- A message before which an own exchange that still waits is withdrawn: every one but Soft_Reset. -/
def Dev.rx (d : Dev) (p hdr : Nat) (f : Dev → Dev) : Dev := d.rxAny p hdr (fun e => f (e.withdraw p (bits hdr 12 3)))

/-- A reply that ends the partner's exchange unless the engine is in one of its own. -/
def Dev.answer (d : Dev) (p msg : Nat) (objs : List Nat) : Dev := d.txSop p msg objs 0

/-- Not_Supported, or Reject to a PD 2.0 partner; RXUNSUP (R193, R194). -/
def Dev.unsupported (d : Dev) (p : Nat) : Dev := (d.answer p (if d.pd2 p then 4 else 16) []).peEvt p (F.PRT_PE_EVT_RXUNSUP p)

/-- A message stored in the receive area (R196, R198). -/
def Dev.rxStore (d : Dev) (p hdr ext : Nat) (ws : List Nat) : Dev :=
  let n := bits (d.pstg p 0x40) 32 4 + 1
  (d.pstgPut p 0x40 (n % 16 * 2 ^ 32 + hdr % 65536 * 65536 + ext % 65536)).pstgPuts p 0x41 ((ws.take 65).map (· % 2 ^ 32))

end Sys2Proof.Machine
end

