-- ==== Sys2Proof/Machine/Swap.lean ====
section
/-!
DEFINITION. Sys2Proof/Machine/Swap.lean: the power role swap (R241-R269). A swap before t_c stands in PRTnn_SWAP_STAT.STEP
1 to 4, an accepted one in steps 5 to 9 with H.swAcc.
-/
namespace Sys2Proof.Machine

/-! ### Before t_c -/

/-- The exchange ends without t_c: LASTEND, the command's outcome, and the state held before (R241, R248). -/
def Dev.swapQuit (d : Dev) (p last outcome : Nat) : Dev :=
  let st := d.get (H.prevState p)
  ((d.swapOver p last).cmdEnd p outcome).exEndIn p st

/-- The target role of a PR_SWAP command: 1 source, 2 sink. -/
def Cmd.target (c : Cmd) : Nat := c.param % 4

/-- Deadline of the started command. -/
def Dev.headDue (d : Dev) (p : Nat) : Nat := ((d.cmds p).map (·.due)).headD 0

/-- Ticks before its ticket deadline at which a retry starts at the latest (R247). -/
def retryReserve : Nat := msTicks 1300

/-- A retry after a Wait can no longer start in time (R247). -/
def Dev.swapTooLate (d : Dev) (p : Nat) : Bool :=
  d.bit (H.swWaits p) && decide (d.headDue p < d.now + d.lineWait p + retryReserve)

/-- The own PR_Swap begins its transmission (R246); a retry that comes too late ends the command WAITED (R247). -/
def Dev.swapSend (d : Dev) (p : Nat) : Dev :=
  if d.swapTooLate p then d.swapQuit p 5 4
  else
    ((d.exBegin p true 1600).puts [(F.PRT_SWAP_STAT_STEP p, 2), (F.PRT_SWAP_STAT_INIT p, 1), (F.PRT_PE_STAT_STATE p, 12)]).txSop
      p 10 [] 7

/-- The exchange pauses in step 3, back in the state held before; SinkTxOK returns. -/
def Dev.swapPause (d : Dev) (p : Nat) : Dev :=
  let st := d.get (H.prevState p)
  (d.exEndIn p st).put (F.PRT_SWAP_STAT_STEP p) 3

/-- A Wait for the own PR_Swap (R247). -/
def Dev.swapWaited (d : Dev) (p : Nat) : Dev :=
  let r := if d.pd2 p then d.backOffTicks else (msTicks 100, d)
  let d := r.2
  if d.get (H.swWaits p) < d.get (H.swRetryMax p) ∧ d.now + r.1 + retryReserve ≤ d.headDue p then
    ((d.inc (H.swWaits p)).swapPause p).arm (if d.pd2 p then T.backOff p else T.prWait p) r.1
  else d.swapQuit p 5 4

/-- The own PR_Swap is lost (R246, R254). -/
def Dev.swapLost (d : Dev) (p : Nat) : Dev :=
  if d.pd2 p && decide (d.get (H.swBack p) < 4) then
    let r := d.backOffTicks
    ((r.2.inc (H.swBack p)).swapPause p).arm (T.backOff p) r.1
  else d.swapQuit p 4 3

/-- The wait before a retry ends: collision avoidance runs again (R247). A fifth back-off after lost or cancelled transmissions is
none: the command ends NORESP (R254). -/
def Dev.swapAgain (d : Dev) (p : Nat) (t : Fld) : Dev :=
  if d.armed t then
    let d := d.stop t
    if d.get (H.swBack p) > 4 then d.swapQuit p 4 3 else
    let d := if d.get (F.PRT_SWAP_STAT_STEP p) = 3 then d.put (F.PRT_SWAP_STAT_STEP p) 1 else d
    d.arm (T.cmdStart p) 0
  else d

def execTprSwapWaitExpiry (p : Fin 24) (s : State) : Host.Outcome State Fault Refusal :=
  s.okAt p.val (fun d => d.swapAgain p.val (T.prWait p.val))

def execBackOffExpiry (p : Fin 24) (s : State) : Host.Outcome State Fault Refusal :=
  s.okAt p.val (fun d => d.swapAgain p.val (T.backOff p.val))

/-! ### t_c (R242, R255, R256, R259, R260) -/

/-- t_c: the contract and a mode it stood in end, and the steps of the role begin. -/
def Dev.swapCommit (d : Dev) (p : Nat) : Dev :=
  let src := d.isSrc p
  let hpm := d.bit (H.hpmOn p)
  let d := ((d.awaitEnd p).puts [(H.swAcc p, 1), (F.PRT_PE_STAT_STATE p, 12), (H.snkMask p, 0), (T.waitCap p, 0), (T.psTrans p, 0),
    (T.sinkReq p, 0), (T.srcTrans p, 0)]).eprEnd p
  let d := (d.conVoid p true).swapEvt p (F.PRT_SWAP_STAT_START p)
  let d := if hpm then (d.hpmTimersOff p).put (F.PRT_HPM_STAT_STATE p) 10 else d
  let d := ((d.put (F.BUDP_STAT_PART p) (if src then 2 else 1)).contourPort p 2).wake 15
  if src then ((d.put (F.PRT_SWAP_STAT_STEP p) 5).xferBegin p 3 0).arm (T.srcTrans p) (msTicks 30)
  else ((((d.puts [(F.PRT_SWAP_STAT_STEP p, 8), (H.snkMask p, 1), (H.maskEnd p, 0)]).xferBegin p 3 0).isetRamp p 0).arm
    (T.swGates p) 64000).arm (T.psOff p) (msTicks 835)

/-! ### The steps of an accepted swap -/

/-- Old sink, 1 ms after t_c. -/
def Dev.swapGates (d : Dev) (p : Nat) : Dev :=
  if d.armed (T.swGates p) then ((d.stop (T.swGates p)).gateStop p 21 false).swapLimits p false else d

def execSwapGatesOffDelay (p : Fin 24) (s : State) : Host.Outcome State Fault Refusal := s.okAt p.val (·.swapGates p.val)

/-- VBS below 0.8 V: step 4 of R255, once both gates are off, or of R256. -/
def Dev.swapLow (d : Dev) (p : Nat) : Dev :=
  if !d.bit (H.swAcc p) then d
  else if d.get (F.PRT_SWAP_STAT_STEP p) = 6 then
    if d.gates p ≠ 0 then d else
    let d := ((((d.stop (T.safe0v p)).disOff p).set1 (H.snkInrush p)).setIset p 0).attSet p 3
    ((d.puts [(F.PRT_ATT_STAT_RPOWN p, 0), (F.PRT_PE_STAT_TXNG p, 0)]).raUpdate p).txSop p 6 [] 9
  else if d.get (F.PRT_SWAP_STAT_STEP p) = 9 ∧ d.armed (T.swVbs p) then
    (((d.stop (T.swVbs p)).disOff p).gateReq p).rampTo p 500
  else d

/-- A step that waits for a level of VBS may find it already there: below 0.8 V, or, in step 6 of R255, at 4.0 V. -/
def Dev.vbsReview (d : Dev) (p : Nat) : Dev :=
  if d.bit (F.PRT_ATT_STAT_VBS0 p) then (d.hardLow p).swapLow p
  else if d.bit (F.PRT_ATT_STAT_VBSOK p) && d.bit (H.swAcc p) && d.get (F.PRT_SWAP_STAT_STEP p) == 7 then d.gateReq p
  else d

def execRampEnd (p : Fin 24) (s : State) : Host.Outcome State Fault Refusal := s.okAt p.val (fun d => (d.rampEnd p.val).vbsReview p.val)

def execStopComplete (p : Fin 24) (s : State) : Host.Outcome State Fault Refusal :=
  s.okAt p.val (fun d => (d.stopComplete p.val).vbsReview p.val)

/-- Step 5 of R255: the own PS_RDY is acknowledged. -/
def Dev.swapStep5 (d : Dev) (p : Nat) : Dev :=
  ((d.puts [(F.PRT_SWAP_STAT_STEP p, 7), (H.snkMask p, 1), (H.maskEnd p, 0)]).arm (T.psOn p) (msTicks 435)).vbsReview p

/-- t_e (R248, R252, R255 step 7, R256 step 6). The new source keeps SinkTxNG: its capabilities are pending (R201). -/
def Dev.swapEnd (d : Dev) (p : Nat) : Dev :=
  let snk := d.isSnk p
  let own := d.bit (F.PRT_SWAP_STAT_INIT p)
  let d := ((d.inc (F.PRT_SWAP_STAT_SWCNT p)).swapOver p 1).swapEvt p (F.PRT_SWAP_STAT_DONE p)
  let d := ((d.xferEnd p 500).puts [(T.psOn p, 0), (T.psOff p, 0), (T.swVbs p, 0), (T.safe0v p, 0), (T.swGates p, 0)])
  let d := d.cmdJoined p (some 0)
  let d := (if own then d.cmdEnd p 0 else d.puts [(H.cmdRun p, 0), (T.cmdMiss p, 0)]).exEnd p
  if snk then
    ((d.put (H.maskEnd p) (d.now + 1 + msTicks 20)).isetRamp p (d.sinkPoint p)).snkWait p 6
  else
    let d := d.setRp p true
    (((d.puts [(H.swCapWait p, 1), (H.vsafe5 p, 1), (H.discDone p, 1)]).setPe p 1).offerAsk p 0 false).arm (T.swStart p)
      (msTicks 25)

/-- PS_RDY of the partner in an accepted swap: step 7 of R255, whose t_e comes when its GoodCRC has gone out; step 3 of R256. DESIGN
CHOICE (log entry 128): in a step that waits for none it is ignored, since code 13 of R258 excepts it and no rule gives it an effect. -/
def Dev.swapPsRdy (d : Dev) (p : Nat) : Dev :=
  if d.get (F.PRT_SWAP_STAT_STEP p) = 7 then ((d.stop (T.psOn p)).set1 (H.psDone p)).arm (T.psTrans p) goodCrcTicks
  else if d.get (F.PRT_SWAP_STAT_STEP p) = 8 then
    let d := (d.stop (T.psOff p)).attSet p 8
    let d := ((d.puts [(F.PRT_ATT_STAT_RPOWN p, 1), (F.PRT_PE_STAT_TXNG p, 1), (F.PRT_SWAP_STAT_STEP p, 9),
      (H.snkMask p, 0)]).raUpdate p).disOn p
    ((d.arm (T.swVbs p) (msTicks 50)).arm (T.psOn p) (msTicks 435)).vbsReview p
  else d

/-! ### Failures (R258) -/

def Dev.psOffEnd (d : Dev) (p : Nat) : Dev :=
  if d.armed (T.psOff p) then (d.stop (T.psOff p)).errRecover p 18 8 else d

def execTpsSourceOffExpiry (p : Fin 24) (s : State) : Host.Outcome State Fault Refusal := s.okAt p.val (·.psOffEnd p.val)

def Dev.psOnEnd (d : Dev) (p : Nat) : Dev :=
  if d.armed (T.psOn p) then
    let d := d.stop (T.psOn p)
    if d.get (F.PRT_SWAP_STAT_STEP p) = 7 then d.errRecover p 18 9
    else if d.get (F.PRT_SWAP_STAT_STEP p) = 9 ∧ !(d.txs p).any (fun f => f.kind == 10) then
      (d.peEvt p (F.PRT_PE_EVT_XFERFAIL p)).errRecover p 18 11
    else d
  else d

def execTpsSourceOnExpiry (p : Fin 24) (s : State) : Host.Outcome State Fault Refusal := s.okAt p.val (·.psOnEnd p.val)

def Dev.swapVbsEnd (d : Dev) (p : Nat) : Dev :=
  if d.armed (T.swVbs p) then (d.stop (T.swVbs p)).errRecover p 18 10 else d

def execSwapVbsTimeout (p : Fin 24) (s : State) : Host.Outcome State Fault Refusal := s.okAt p.val (·.swapVbsEnd p.val)

/-- tSwapSourceStart ends: Source_Capabilities may follow. -/
def Dev.swapStart (d : Dev) (p : Nat) : Dev :=
  if d.armed (T.swStart p) then ((d.stop (T.swStart p)).clr (H.swCapWait p)).arm (T.capsReady p) 0 else d

def execTswapSourceStartExpiry (p : Fin 24) (s : State) : Host.Outcome State Fault Refusal := s.okAt p.val (·.swapStart p.val)

/-! ### Answering the partner (R249-R252) -/

/-- A PR_SWAP command of the queue that is pending with the given target. -/
def Cmd.pendingSwap (c : Cmd) (target : Nat) : Bool := c.code == 0x18 && c.target == target && !c.joined

/-- Row 2: the own PR_Swap has been sent and awaits its reply. -/
def Dev.swapSent (d : Dev) (p : Nat) : Bool := d.get (F.PRT_SWAP_STAT_STEP p) == 2

/-- Row 3: another own exchange awaits its reply. -/
def Dev.ownAwaits (d : Dev) (p : Nat) : Bool :=
  d.bit (H.exOn p) && d.bit (H.exOwn p) && (d.bit (H.await p) || d.bit (H.vdmWhat p) || !(d.txs p).isEmpty || d.bit (H.xferOn p))

/-- The rows of R249 in their order, but the first. The started command's own PR_Swap that waits in step 1 or 3 is still pending. STATE
reads 12 from here until the reply of rows 3 to 5 is done with (R241). -/
def Dev.rxPrSwap (d : Dev) (p : Nat) : Dev :=
  let target := if d.isSrc p then 2 else 1
  let role := d.get (F.PRT_CTRL_ROLE p)
  let pendingStep := d.get (F.PRT_SWAP_STAT_STEP p) == 1 || d.get (F.PRT_SWAP_STAT_STEP p) == 3
  let q := d.cmds p
  let free := if d.bit (H.cmdRun p) && !pendingStep then q.tail else q
  let d := d.swapLatch p
  if d.swapSent p then (d.answer p 12 []).swapEvt p (F.PRT_SWAP_STAT_COLL p)
  else if d.ownAwaits p then (d.set1 (H.swAns p)).txSop p 12 [] 38
  else if !d.explicit p || d.epr p || !d.bit (F.PRT_SWAP_CTRL_RXEN p) || (role == 1 && target == 2) || (role == 2 && target == 1) then
    (d.puts [(F.PRT_SWAP_STAT_LASTEND p, 2), (F.PRT_SWAP_STAT_INIT p, 0), (H.swAns p, 1)]).txSop p 4 [] 38
  else
    let d := (((d.askCancel p).exBegin p false 1600).puts [(F.PRT_SWAP_STAT_STEP p, 4), (F.PRT_SWAP_STAT_INIT p, 0)]).setPe p 12
    if free.any (fun c => c.pendingSwap target) then
      let head := (q.headD ⟨0, 0, 0, 0, 0, false, false⟩).pendingSwap target
      let q := if d.bit (H.cmdRun p) && !pendingStep then q.take 1 ++ q.tail.map (fun c => { c with joined := c.joined || c.pendingSwap target })
        else q.map (fun c => { c with joined := c.joined || c.pendingSwap target })
      let d := d.setCmds p q
      let d := if pendingStep && head then d.puts [(H.cmdRun p, 0), (T.cmdMiss p, 0), (T.prWait p, 0), (T.backOff p, 0)] else d
      (d.swapEvt p (F.PRT_SWAP_STAT_COLL p)).swapReply p 0
    else d.askPost p 5 (d.get (F.PRT_HOLDSUM_SUM p) % 2 ^ 32) 0

/-- In an accepted swap row 1 of R249 acts, with every other message (R258). -/
def execRxPrSwap (p : Fin 24) (hdr : BitVec 16) (s : State) : Host.Outcome State Fault Refusal :=
  s.okAt p.val (fun d => d.rx p.val hdr.toNat (·.rxPrSwap p.val))

/-! ### VBS levels (R171, R219, R255, R256) -/

/-- VBS falls below 0.8 V. -/
def Dev.vbsLow (d : Dev) (p : Nat) : Dev :=
  let d := d.puts [(F.PRT_ATT_STAT_VBS0 p, 1), (F.PRT_ATT_STAT_VBSOK p, 0)]
  let d := if d.bit (F.GRD_STAT_DISON p) && !d.armed (T.disLow p) && d.mode != 2 then d.arm (T.disLow p) 64000 else d
  if (d.bit (H.detaching p) || d.att p == 11) && d.gates p == 0 then d.unattached p
  else if d.att p = 5 ∧ d.bit (H.ccSettle p) then d.attach p false
  else (d.hardLow p).swapLow p

def execVbsDischarged (p : Fin 24) (s : State) : Host.Outcome State Fault Refusal := s.okAt p.val (·.vbsLow p.val)

/-- VBS reaches 4.0 V. -/
def Dev.vbsHigh (d : Dev) (p : Nat) : Dev :=
  let d := d.puts [(F.PRT_ATT_STAT_VBS0 p, 0), (F.PRT_ATT_STAT_VBSOK p, 1), (T.disLow p, 0)]
  if (d.att p = 2 ∨ d.att p = 7) ∧ d.bit (H.ccSettle p) then d.attach p true
  else
    (d.hardBack p).vbsReview p

def execVbsPresent (p : Fin 24) (s : State) : Host.Outcome State Fault Refusal := s.okAt p.val (·.vbsHigh p.val)

end Sys2Proof.Machine
end

