-- ==== Sys2Proof/Machine/Hpm.lean ====
section
/-!
DEFINITION. Sys2Proof/Machine/Hpm.lean: structured VDMs, discovery, and Heavy Port Mode (R270-R309, R633). A received VDM
comes with its message header, its VDM header and its VDOs.
-/
namespace Sys2Proof.Machine

/-- A 32-bit object of a received message. -/
abbrev Obj := BitVec 32

/-! ### VDM headers -/

def vdmSvidOf (h : Nat) : Nat := bits h 16 16
def vdmCmdOf (h : Nat) : Nat := bits h 0 5

/-- SVID and command of a request in progress. -/
def Dev.vdmExpect (d : Dev) (p : Nat) : Nat × Nat :=
  match d.get (H.vdmWhat p) with
  | 1 => (pdSvid, 1)
  | 2 => (pdSvid, 2)
  | 3 => (chiSvid, 3)
  | 4 => (chiSvid, 4)
  | 5 => (chiSvid, 5)
  | 6 => (chiSvid, 0x16)
  | 7 => (chiSvid, 0x17)
  | 9 => (d.get (H.vdmSvid p) / 65536, 4)
  | 10 => (d.get (H.vdmSvid p) / 65536, 5)
  | _ => (0, 0)

/-- An answer from a target belongs to the request in progress. -/
def Dev.vdmMatches (d : Dev) (p sop h : Nat) : Bool :=
  d.bit (H.vdmWhat p) && !d.bit (H.enterAck p) && d.get (H.vdmTgt p) == sop && d.vdmExpect p == (vdmSvidOf h, vdmCmdOf h)

/-- The request is over: nothing of it runs. -/
def Dev.vdmOver (d : Dev) (p : Nat) : Dev :=
  d.puts [(H.vdmWhat p, 0), (T.vdmResp p, 0), (T.vdmBusy p, 0), (T.vdmMode p, 0), (T.discId p, 0), (H.enterAck p, 0)]

/-! ### Discovery (R275-R277) -/

/-- The HPM entry conditions are looked at inside the exchange that is open (R274). -/
def Dev.hpmLook (d : Dev) (p : Nat) : Dev := (d.set1 (H.lookEx p)).arm (T.hpmCond p) 0

/-! ### Entering HPM and the identity record (R284, R285) -/

/-- The entry goes on after the record: the source offers, the sink waits for an offer; in a resumed contract it ends. -/
def Dev.recEnd (d : Dev) (p : Nat) : Dev :=
  let d := d.vdmOver p
  if d.hpmCon p then (d.hpmStand p).exEnd p
  else if d.isSrc p then d.hpmOfferSend p
  else (((d.put (F.PRT_HPM_STAT_STATE p) 3).cmdFin p 0).exEnd p).arm (T.hpmOffer p) (msTicks 100)

/-- The record cannot be read: IDFAIL with FAILWHY 13, and the all-zero identity. -/
def Dev.recFail (d : Dev) (p : Nat) : Dev :=
  (((d.put (F.PRT_HPM_STAT_FAILWHY p) 13).hpmEvt p (F.PRT_HPM_EVT_IDFAIL p)).identityClear p).recEnd p

/-- The record is read where the partner and AUTOREC allow it. -/
def Dev.recBegin (d : Dev) (p : Nat) : Dev :=
  if (d.modeVdo p).testBit 24 && d.bit (F.PRT_HPM_CTRL_AUTOREC p) then
    ({ d with idrec := tput [] d.idrec p [] }.puts [(F.PRT_HPM_STAT_STATE p, 4), (H.recNext p, 0), (H.recLen p, 0),
      (H.recCmd p, 0)]).vdmBegin p 6 0
  else d.recFail p

/-! ### Answers to discovery (R275, R276) -/

/-- A target's sequence ends: 1 done, 2 no response, 3 NAK. Partner discovery with HPM still entered, after a resumption,
reads the record again (R633). -/
def Dev.discEnd (d : Dev) (p res : Nat) : Dev :=
  let tgt := d.get (H.vdmTgt p)
  let d := ((d.vdmOver p).put (if tgt = 0 then F.PRT_VDM_STAT_PTNRES p else F.PRT_VDM_STAT_CBLRES p) res).hpmEvt p
    (F.PRT_HPM_EVT_DISC p)
  let d := d.set1 (if tgt = 0 then H.ptnDone p else H.cblDone p)
  let own := !d.bit (H.vdmCmd p)
  let d := if d.bit (H.vdmCmd p) then (d.clr (H.vdmCmd p)).cmdEnd p (if res = 1 then 0 else if res = 3 then 1 else 3) else d
  if d.pe p = 1 then ((d.exEndIn p 1).set1 (H.discDone p)).arm (T.capsReady p) 0
  else if tgt = 0 && own && d.bit (H.hpmOn p) && (d.modeVdo p).testBit 24 && d.bit (F.PRT_HPM_CTRL_AUTOREC p) then d.recBegin p
  else if tgt = 0 && d.hpmCond15 p && !d.bit (H.hpmNo p) && d.get (H.pilot p) != 3 then d.hpmLook p
  else (d.exEnd p).arm (T.hpmCond p) 0

/-- Step 3 of R275 where the cable reports Modal Operation. -/
def Dev.cableModes (d : Dev) (p : Nat) : Dev :=
  if (d.pstg p 0x86).testBit 26 && !d.bit (H.vdmIdOnly p) then (d.puts [(H.vdmCnt p, 1), (H.vdmFound p, 0)]).vdmBegin p 2 1
  else d.discEnd p 1

/-- SOP″ has answered or failed, with its result: DISC. A DISCOVER of SOP″ ends, every other sequence goes on at SOP′. -/
def Dev.sop2End (d : Dev) (p res : Nat) : Dev :=
  if d.get (H.vdmCmd p) = 3 then d.discEnd p res
  else ((d.hpmEvt p (F.PRT_HPM_EVT_DISC p)).puts [(F.PRT_VDM_STAT_CBLRES p, res), (H.vdmTgt p, 1)]).cableModes p

/-- The objects of a Discover Identity ACK. -/
def Dev.identAck (d : Dev) (p : Nat) (v : List Nat) : Dev :=
  let id := v.getD 0 0
  let tgt := d.get (H.vdmTgt p)
  if tgt = 0 then
    let d := (d.pstgPuts p 0x82 [id, v.getD 1 0, v.getD 2 0]).puts [(F.PRT_VDM_STAT_PTNID p, 1),
      (F.PRT_VDM_STAT_PTNMODAL p, bits id 26 1)]
    if id.testBit 26 && !d.bit (H.vdmIdOnly p) then
      ((d.pstgZero p 0x8A 4).puts [(H.vdmCnt p, 1), (H.vdmFound p, 0), (F.PRT_VDM_STAT_NSVID p, 0)]).vdmBegin p 2 0
    else d.discEnd p 1
  else if tgt = 1 then
    let c := v.getD 3 0
    let active := bits id 27 3 == 4
    let d := (d.pstgPuts p 0x86 [id, c]).puts [(F.PRT_VDM_STAT_CBLID p, 1), (F.PRT_VDM_STAT_CBLACT p, b2n active),
      (F.PRT_VDM_STAT_CBL5A p, b2n (bits c 5 2 == 2)), (F.PRT_VDM_STAT_CBLEPR p, bits c 17 1)]
    if active && c.testBit 3 && !d.bit (H.vdmIdOnly p) then d.vdmBegin p 1 2 else d.cableModes p
  else ((d.pstgPut p 0x89 id).set1 (F.PRT_VDM_STAT_CBLSOP2 p)).sop2End p 1

/-- One SVID of the partner stored, the first 8 of them. -/
def Dev.svidStore (d : Dev) (p v : Nat) : Dev :=
  let n := d.get (F.PRT_VDM_STAT_NSVID p)
  if n < 8 then
    let w := d.pstg p (0x8A + n / 2)
    (d.pstgPut p (0x8A + n / 2) (if n % 2 = 0 then v * 65536 else w + v)).put (F.PRT_VDM_STAT_NSVID p) (n + 1)
  else d

/-- The SVIDs of an ACK, up to the first zero; true where a zero SVID ends the list. -/
def svidsOf : List Nat → List Nat × Bool
  | [] => ([], false)
  | v :: l =>
    let a := bits v 16 16
    let b := bits v 0 16
    if a = 0 then ([], true)
    else if b = 0 then ([a], true)
    else
      let r := svidsOf l
      (a :: b :: r.1, r.2)

/-- The objects of a Discover SVIDs ACK. -/
def Dev.svidAck (d : Dev) (p : Nat) (v : List Nat) : Dev :=
  let r := svidsOf v
  let tgt := d.get (H.vdmTgt p)
  let d := if tgt = 0 then r.1.foldl (fun e x => e.svidStore p x) d else d
  let d := if r.1.contains chiSvid then d.set1 (H.vdmFound p) else d
  if !r.2 && !v.isEmpty && d.get (H.vdmCnt p) < 4 then (d.inc (H.vdmCnt p)).vdmBegin p 2 tgt
  else if d.bit (H.vdmFound p) then d.vdmBegin p 3 tgt
  else d.discEnd p 1

/-- The objects of a Discover Modes ACK. -/
def Dev.modeAck (d : Dev) (p : Nat) (v : List Nat) : Dev :=
  let m := v.getD 0 0
  (if d.get (H.vdmTgt p) = 0 then (d.pstgPut p 0x85 m).put (F.PRT_VDM_STAT_PTNHPM p) (b2n (modeValid m))
    else (d.pstgPut p 0x88 m).put (F.PRT_VDM_STAT_CBLHPM p) (b2n (cableValid m))).discEnd p 1

/-! ### HPM entered (R284, R285) -/

/-- HPM is entered. -/
def Dev.hpmEntered (d : Dev) (p : Nat) : Dev :=
  (((d.vdmOver p).puts [(H.hpmOn p, 1), (F.PRT_HPM_STAT_STATE p, 3)]).hpmEvt p (F.PRT_HPM_EVT_ENTER p)).recBegin p

/-- A record chunk arrives. -/
def Dev.recAck (d : Dev) (p : Nat) (v : List Nat) : Dev :=
  let w := padTo 6 v
  let k := d.get (H.recNext p)
  let d := d.pstgPuts p 0xB8 w
  let d := if k = 0 then d.put (H.recLen p) (bits (w.getD 0 0) 16 16) else d
  let len := d.get (H.recLen p)
  let d := d.pstgPut p 0xBE (len * 65536 + k)
  if d.bit (H.recCmd p) then ((d.vdmOver p).cmdEnd p 0).exEnd p
  else if len < 24 ∨ len > 384 then d.recFail p
  else
    let bytes := (w.flatMap (fun x => [x >>> 24 % 256, x >>> 16 % 256, x >>> 8 % 256, x % 256])).take (len - 24 * k)
    let d := { d with idrec := tput [] d.idrec p (tget [] d.idrec p ++ bytes) }
    if k + 1 < cdiv len 24 then (d.put (H.recNext p) (k + 1)).vdmBegin p 6 0
    else ((d.hpmEvt p (F.PRT_HPM_EVT_RECORD p)).arm (T.identity p) 64000).recEnd p

/-! ### HPM is left after Exit Mode (R306) -/

def Dev.hpmLeft (d : Dev) (p : Nat) : Dev :=
  let had := d.hpmCon p || d.bit (H.resume p)
  let d := d.vdmOver p
  let d := (if had then (d.conVoid p false).resumeEnd p else d).hpmLeave p
  let d := d.cmdFin p 0
  if had then
    if d.isSrc p then d.offerAsk p 5 false
    else ((d.isetRamp p 50).setPe p 7).txSop p 7 [] 33
  else d.exEnd p

/-! ### Answers (R273) -/

/-- Telemetry arrives (R305). -/
def Dev.telemAck (d : Dev) (p : Nat) (v : List Nat) : Dev :=
  (((((d.pstgPuts p 0xB0 (padTo 3 v)).pstgPut p 0xB3 d.tb).hpmEvt p (F.PRT_HPM_EVT_TELEM p)).vdmOver p).cmdFin p 0).exEnd p

/-- An ACK; HPM is entered at the end of the GoodCRC to it (R284). -/
def Dev.vdmAck (d : Dev) (p : Nat) (v : List Nat) : Dev :=
  let what := d.get (H.vdmWhat p)
  let d := d.puts [(T.vdmResp p, 0), (T.vdmMode p, 0)]
  match what with
  | 1 => d.identAck p v
  | 2 => d.svidAck p v
  | 3 => d.modeAck p v
  | 4 => (d.set1 (H.enterAck p)).arm (T.vdmMode p) goodCrcTicks
  | 5 => d.hpmLeft p
  | 6 => d.recAck p v
  | 7 => d.telemAck p v
  | _ => ((d.vdmOver p).cmdEnd p 0).exEnd p

/-- The request ends without ACK: outcome 1 for NAK, 3 for no response. -/
def Dev.vdmFail (d : Dev) (p outcome : Nat) : Dev :=
  let what := d.get (H.vdmWhat p)
  if what = 1 ∧ d.get (H.vdmTgt p) = 2 then d.sop2End p (if outcome = 1 then 3 else 2)
  else if what ≤ 3 then d.discEnd p (if outcome = 1 then 3 else 2)
  else if what = 4 then
    ((((d.vdmOver p).hpmFail p 4).put (F.PRT_HPM_STAT_STATE p) 0).cmdFin p outcome).exEnd p
  else if what = 5 then d.hpmLeft p
  else if what = 6 ∧ !d.bit (H.recCmd p) then d.recFail p
  else ((d.vdmOver p).cmdFin p outcome).exEnd p

/-- No answer came: Discover Identity on SOP′ is repeated at the start of a port (R275). -/
def Dev.vdmNone (d : Dev) (p : Nat) : Dev :=
  if d.get (H.vdmWhat p) = 1 ∧ d.get (H.vdmTgt p) = 1 ∧ !d.bit (H.vdmCmd p) ∧ !d.bit F.SYS_SUPPLY_VCONNLOW ∧
      d.get (H.vdmCnt p) < 20 then
    ((d.stop (T.vdmResp p)).inc (H.vdmCnt p)).arm (T.discId p) (msTicks 45)
  else d.vdmFail p 3

/-- BUSY: repeated after tVDMBusy, three times. -/
def Dev.vdmBusy (d : Dev) (p : Nat) : Dev :=
  if d.get (H.vdmBusyN p) < 3 then
    ((d.puts [(T.vdmResp p, 0), (T.vdmMode p, 0)]).inc (H.vdmBusyN p)).arm (T.vdmBusy p) (msTicks 50)
  else d.vdmFail p 1

/-- An answer on a target: 1 ACK, 2 NAK, 3 BUSY. One to HPM_Ceiling ends its wait when it is the ACK; one that answers
no request in progress is a protocol error (R271). -/
def Dev.vdmAnswer (d : Dev) (p sop h typ : Nat) (v : List Nat) : Dev :=
  if d.vdmMatches p sop h then (if typ = 1 then d.vdmAck p v else if typ = 2 then d.vdmFail p 1 else d.vdmBusy p)
  else if sop = 0 ∧ vdmSvidOf h = chiSvid ∧ vdmCmdOf h = 0x15 ∧ d.armed (T.ceilResp p) then
    (if typ = 1 then d.stop (T.ceilResp p) else d)
  else if sop = 0 then d.protFail p
  else d

/-- The answer as received: SOP goes through the common reception, SOP′ and SOP″ come from the cable, which is no partner
(R220). A repeat gets its GoodCRC and no more (R2). -/
def Dev.rxVdm (d : Dev) (p sop hdr h typ : Nat) (v : List Nat) : Dev :=
  if sop = 0 then d.rx p hdr (fun e => e.vdmAnswer p 0 h typ v)
  else if !d.rxOn p then d
  else
    let seen := (d.rxSeen p (bits hdr 12 3)).put (H.hrTry p) (d.get (H.hrTry p))
    if d.rxRepeat p sop hdr then seen else (seen.rxNote p sop hdr).vdmAnswer p sop h typ v

/-- The objects of a received message. -/
def objNats (v : List Obj) : List Nat := v.map (·.toNat)

/-- The objects of a VDM after its header: a message carries six; DESIGN CHOICE (log entry 129): what is beyond them is not there. -/
def vdoNats (v : List Obj) : List Nat := objNats (v.take 6)

def execRxVdmAck (p : Fin 24) (sop : Fin 3) (hdr : BitVec 16) (h : Obj) (v : List Obj) (s : State) :
    Host.Outcome State Fault Refusal :=
  s.okAt p.val (fun d => d.rxVdm p.val sop.val hdr.toNat h.toNat 1 (vdoNats v))

def execRxVdmNak (p : Fin 24) (sop : Fin 3) (hdr : BitVec 16) (h : Obj) (s : State) : Host.Outcome State Fault Refusal :=
  s.okAt p.val (fun d => d.rxVdm p.val sop.val hdr.toNat h.toNat 2 [])

def execRxVdmBusy (p : Fin 24) (sop : Fin 3) (hdr : BitVec 16) (h : Obj) (s : State) : Host.Outcome State Fault Refusal :=
  s.okAt p.val (fun d => d.rxVdm p.val sop.val hdr.toNat h.toNat 3 [])

/-- tVDMBusy ends: the request is repeated. -/
def Dev.vdmBusyEnd (d : Dev) (p : Nat) : Dev :=
  if d.armed (T.vdmBusy p) then (d.stop (T.vdmBusy p)).vdmSend p else d

def execTvdmBusyExpiry (p : Fin 24) (s : State) : Host.Outcome State Fault Refusal := s.okAt p.val (·.vdmBusyEnd p.val)

/-- tVDMSenderResponse ends: of the HPM_Ceiling, or of the request in progress, the earlier first. -/
def Dev.vdmRespEnd (d : Dev) (p : Nat) : Dev :=
  if d.armed (T.ceilResp p) && (!d.armed (T.vdmResp p) || decide (d.get (T.ceilResp p) ≤ d.get (T.vdmResp p))) then
    (d.stop (T.ceilResp p)).hpmEvt p (F.PRT_HPM_EVT_CEILNOACK p)
  else if d.armed (T.vdmResp p) then (d.stop (T.vdmResp p)).vdmNone p
  else d

def execTvdmSenderResponseExpiry (p : Fin 24) (s : State) : Host.Outcome State Fault Refusal := s.okAt p.val (·.vdmRespEnd p.val)

/-- tDiscoverIdentity ends: the request repeats. -/
def Dev.discIdEnd (d : Dev) (p : Nat) : Dev :=
  if d.armed (T.discId p) then (d.stop (T.discId p)).vdmBegin p 1 1 else d

def execTdiscoverIdentityExpiry (p : Fin 24) (s : State) : Host.Outcome State Fault Refusal := s.okAt p.val (·.discIdEnd p.val)

/-- tVDMWaitModeEntry or tVDMWaitModeExit ends (R284, R306); after an ACK of Enter Mode, the GoodCRC to it has gone out. -/
def Dev.modeWaitEnd (d : Dev) (p : Nat) : Dev :=
  if d.armed (T.vdmMode p) then
    let d := d.stop (T.vdmMode p)
    if d.bit (H.enterAck p) then d.hpmEntered p else d.vdmFail p 3
  else d

def execTvdmWaitModeExpiry (p : Fin 24) (s : State) : Host.Outcome State Fault Refusal := s.okAt p.val (·.modeWaitEnd p.val)

/-! ### Requests received (R271, R272) -/

/-- The four VDOs of R272. -/
def identVdos (p : Nat) : List Nat :=
  [3 * 2 ^ 23 + 2 * 2 ^ 21 + chiSvid, 0, 0x24600100, 2 * 2 ^ 29 + 2 * 2 ^ 22 + p]

def execRxDiscoverIdentity (p : Fin 24) (hdr : BitVec 16) (s : State) : Host.Outcome State Fault Refusal :=
  s.okAt p.val (fun d => d.rx p.val hdr.toNat (fun e => (e.queryBegin p.val 100).vdmSop p.val pdSvid 0 1 1 (identVdos p.val) 0))

/-- NAK with the header's SVID, position and command. -/
def Dev.vdmNak (d : Dev) (p h : Nat) : Dev := (d.queryBegin p 100).vdmSop p (vdmSvidOf h) (bits h 8 3) 2 (vdmCmdOf h) [] 0

def execRxModeVdmReq (p : Fin 24) (hdr : BitVec 16) (h : Obj) (s : State) : Host.Outcome State Fault Refusal :=
  s.okAt p.val (fun d => d.rx p.val hdr.toNat (·.vdmNak p.val h.toNat))

/-- Attention: stored where HPM is entered and the SVID is 0x3C5A. -/
def Dev.attention (d : Dev) (p h vdo : Nat) : Dev :=
  if d.bit (H.hpmOn p) && vdmSvidOf h == chiSvid then (d.pstgPuts p 0x8E [h, vdo]).hpmEvt p (F.PRT_HPM_EVT_ATTN p) else d

def execRxAttention (p : Fin 24) (hdr : BitVec 16) (h vdo : Obj) (s : State) : Host.Outcome State Fault Refusal :=
  s.okAt p.val (fun d => d.rx p.val hdr.toNat (·.attention p.val h.toNat vdo.toNat))

/-! ### The entry conditions and the pilot check (R281-R283) -/

/-- HPM_TRY is posted, unless one is out or the entry runs; or it waits for another ask outstanding (R228). -/
def Dev.hpmTry (d : Dev) (p : Nat) : Dev :=
  if d.bit (H.hpmNo p) || d.bit (F.PRT_HPM_STAT_STATE p) then d
  else if d.askOut p then d.set1 (H.hpmPend p)
  else ((d.clr (H.hpmPend p)).put (F.PRT_HPM_STAT_STATE p) 1).askPost p 6 (d.modeVdo p) (d.cableVdo p)

/-- An exchange left open for HPM_TRY by partner discovery ends. -/
def Dev.hpmLookEnd (d : Dev) (p : Nat) : Dev :=
  if d.lookOpen p && !d.bit (F.PRT_HPM_STAT_STATE p) then d.exEnd p else d

/-- The pilot check has passed: HPM_ENTER enters, else HPM_TRY. -/
def Dev.hpmGo (d : Dev) (p : Nat) : Dev := if d.bit (H.hpmCmd p) then (d.clr (H.hpmCmd p)).hpmEnterSend p else (d.hpmTry p).hpmLookEnd p

/-- Conditions 1 to 5 are looked at: the pilot check runs while the line is free. -/
def Dev.hpmConditions (d : Dev) (p : Nat) : Dev :=
  let d := d.stop (T.hpmCond p)
  if !d.hpmCond15 p || (d.bit (H.hpmNo p) && !d.bit (H.hpmCmd p)) then (d.clr (H.hpmPend p)).hpmLookEnd p
  else if d.get (H.pilot p) = 1 then d
  else if d.get (H.pilot p) = 2 then d.hpmGo p
  else if d.get (H.pilot p) = 0 then
    if d.bit (H.lineBusy p) then d.set1 (H.hpmPend p) else ((d.clr (H.hpmPend p)).put (H.pilot p) 1).arm (T.pilot p) 128
  else d.hpmLookEnd p

def execHpmEntryConditions (p : Fin 24) (s : State) : Host.Outcome State Fault Refusal := s.okAt p.val (·.hpmConditions p.val)

/-- The pilot test ends: the comparator reported Open throughout, and no Open before it in its history (R282). -/
def Dev.pilotEnd (d : Dev) (p : Nat) (open_ clean : Bool) : Dev :=
  if d.armed (T.pilot p) then
    let d := d.stop (T.pilot p)
    if open_ && clean then (d.put (H.pilot p) 2).hpmGo p
    else
      let d := (d.put (H.pilot p) 3).hpmFail p 1
      if d.bit (H.hpmCmd p) then ((d.clr (H.hpmCmd p)).cmdEnd p 1).exEnd p else d.hpmLookEnd p
  else d

def execPilotCheckEnd (p : Fin 24) (open_ clean : Bool) (s : State) : Host.Outcome State Fault Refusal :=
  s.okAt p.val (·.pilotEnd p.val open_ clean)

/-! ### The contract sequence (R288-R294, R299) -/

/-- An HPM command takes part while HPM is entered, or a held HPM contract is being resumed. -/
def Dev.hpmActive (d : Dev) (p : Nat) : Bool := d.bit (H.hpmOn p) || (d.bit (H.resume p) && d.bit (H.hpmHeld p))

/-- An HPM command outside HPM is an SVID-specific request without meaning: NAK. -/
def Dev.rxHpm (d : Dev) (p hdr cmd : Nat) (f : Dev → Dev) : Dev :=
  d.rx p hdr (fun e => if e.hpmActive p then f e else (e.queryBegin p 100).vdmSop p chiSvid 1 2 cmd [] 0)

/-- Malformed offers (R287, R288). -/
def offerOk (v1 v2 : Nat) : Bool :=
  bits v1 22 10 == 0 && decide (bits v1 11 11 ≤ 2000) && decide (bits v1 0 11 ≤ bits v1 11 11) && bits v2 26 6 == 0 &&
    bits v2 12 4 == 0 && decide (bits v2 16 10 ≤ 720) && decide (bits v2 0 12 ≤ 2400)

/-- A held contract that the offer covers (R633). -/
def Dev.heldCovered (d : Dev) (p v1 v2 : Nat) : Bool :=
  let w := d.heldWord p
  let v := bits w 14 13
  d.bit (H.hpmHeld p) && decide (4000 + bits v1 0 11 ≤ v) && decide (v ≤ 4000 + bits v1 11 11) &&
    decide (bits w 0 14 ≤ bits v2 0 12 * 5) && decide (v * bits w 0 14 ≤ bits v2 16 10 * 100000)

/-- An Offer (R293): out of its place in a sequence it is a protocol error (R299). -/
def Dev.rxHpmOffer (d : Dev) (p v1 v2 : Nat) : Dev :=
  if d.isSrc p || d.bit (H.hpmVerd p) || d.get (H.await p) == 8 || !offerOk v1 v2 then d.protFail p
  else
    let d := (d.askCancel p).puts [(T.hpmOffer p, 0), (H.hpmV1 p, v1), (H.hpmV2 p, v2), (F.PRT_HPM_STAT_STATE p, 5),
      (H.hpmWaits p, 0), (H.hpmVerd p, 0)]
    let d := (d.exBegin p false 800).setPe p 15
    if d.heldCovered p v1 v2 then
      d.hpmReqSend p ((bits (d.heldWord p) 14 13 - 4000) * 4096 + bits (d.heldWord p) 0 14 / 5)
    else d.askPost p 8 v1 v2

def execRxHpmOffer (p : Fin 24) (hdr : BitVec 16) (v1 v2 : Obj) (s : State) : Host.Outcome State Fault Refusal :=
  s.okAt p.val (fun d => d.rxHpm p.val hdr.toNat 0x10 (·.rxHpmOffer p.val v1.toNat v2.toNat))

/-- A Request while an offer of the sequence is open, or in an HPM contract, where it begins a sequence (R294, R300). -/
def Dev.rxHpmRequest (d : Dev) (p r : Nat) : Dev :=
  let open_ := d.get (H.await p) == 7 || d.armed (T.hpmRpt p)
  if d.isSrc p && !d.bit (H.hpmVerd p) && (open_ || d.hpmCon p) then
    let d := if open_ then d else d.put (H.hpmWaits p) 0
    let d := (((d.awaitEnd p).stop (T.hpmRpt p)).put (H.hpmReq p) r).exBegin p false 800
    let d := (d.put (F.PRT_HPM_STAT_STATE p) 6).setPe p 15
    if bits r 23 9 ≠ 0 ∨ bits r 12 11 > 2000 ∨ bits r 0 12 > 2400 then (d.peEvt p (F.PRT_PE_EVT_PROTERR p)).hpmAccept p 3
    else if d.bit (H.hpmHeld p) then
      if d.hpmReqFits p r then (d.set1 (H.hpmRepeat p)).hpmAccept p 0 else d.hpmAccept p 1
    else if d.hpmIsRepeat p r then (d.set1 (H.hpmRepeat p)).hpmAccept p 0
    else if !d.hpmReqFits p r then d.hpmAccept p 1
    else (d.clr (H.hpmRepeat p)).askPost p 7 r (d.get (H.hpmV2 p))
  else d.protFail p

def execRxHpmRequest (p : Fin 24) (hdr : BitVec 16) (r : Obj) (s : State) : Host.Outcome State Fault Refusal :=
  s.okAt p.val (fun d => d.rxHpm p.val hdr.toNat 0x11 (·.rxHpmRequest p.val r.toNat))

def Dev.rxHpmAccept (d : Dev) (p v : Nat) : Dev :=
  if d.get (H.await p) ≠ 8 ∨ bits v 23 7 ≠ 0 then d.protFail p
  else
    let d := d.awaitEnd p
    let verdict := bits v 30 2
    if verdict = 0 then
      (((d.puts [(H.hpmVerd p, 1), (H.snkMask p, 1), (H.maskEnd p, 0), (F.PRT_HPM_STAT_STATE p, 7)]).xferBegin p 2
        (bits (d.get (H.newCon p)) 14 13)).setIset p 100).arm (T.hpmTrans p) (msTicks 10)
    else if verdict = 2 ∧ d.get (H.hpmWaits p) < 2 then (d.inc (H.hpmWaits p)).arm (T.sinkReq p) (msTicks 110)
    else d.hpmSeqFail p 7

def execRxHpmAccept (p : Fin 24) (hdr : BitVec 16) (v : Obj) (s : State) : Host.Outcome State Fault Refusal :=
  s.okAt p.val (fun d => d.rxHpm p.val hdr.toNat 0x12 (·.rxHpmAccept p.val v.toNat))

def Dev.rxHpmTransition (d : Dev) (p v : Nat) : Dev :=
  if d.armed (T.hpmTrans p) && bits v 20 12 == 0 then
    (d.stop (T.hpmTrans p)).arm (T.hpmReady p) (usTicks (bits v 0 20) + msTicks 300)
  else d.protFail p

def execRxHpmTransition (p : Fin 24) (hdr : BitVec 16) (v : Obj) (s : State) : Host.Outcome State Fault Refusal :=
  s.okAt p.val (fun d => d.rxHpm p.val hdr.toNat 0x13 (·.rxHpmTransition p.val v.toNat))

/-- HPM_Ready: the contract takes effect at the end of the GoodCRC to it (R292, R207). -/
def Dev.rxHpmReady (d : Dev) (p v : Nat) : Dev :=
  if d.armed (T.hpmReady p) && bits v 23 9 == 0 && decide (bits v 12 11 ≤ 2000) && decide (bits v 0 12 ≤ 2400) then
    (d.puts [(T.hpmReady p, 0), (H.psDone p, 1), (H.xferOn p, 0), (H.maskEnd p, d.now + 1 + msTicks 20)]).arm (T.psTrans p) goodCrcTicks
  else d.protFail p

def execRxHpmReady (p : Fin 24) (hdr : BitVec 16) (v : Obj) (s : State) : Host.Outcome State Fault Refusal :=
  s.okAt p.val (fun d => d.rxHpm p.val hdr.toNat 0x14 (·.rxHpmReady p.val v.toNat))

def Dev.rxHpmCeiling (d : Dev) (p v : Nat) : Dev :=
  if bits v 12 12 ≠ 0 ∨ bits v 0 12 > 2400 then d.protFail p
  else if !d.bit (F.PRT_HPM_CTRL_RXCEIL p) then (d.queryBegin p 100).vdmSop p chiSvid 1 2 0x15 [] 0
  else
    let d := (((d.queryBegin p 100).vdmSop p chiSvid 1 1 0x15 [v] 0).put (F.PRT_HPM_CEIL_PCEIL p) (bits v 0 12)).hpmEvt p (F.PRT_HPM_EVT_CEILRX p)
    if d.hpmCon p then d.ceilApply p else d

def execRxHpmCeiling (p : Fin 24) (hdr : BitVec 16) (v : Obj) (s : State) : Host.Outcome State Fault Refusal :=
  s.okAt p.val (fun d => d.rxHpm p.val hdr.toNat 0x15 (·.rxHpmCeiling p.val v.toNat))

/-- A wait of the sequence ends with a failure code (R299). -/
def Dev.hpmWaitEnd (d : Dev) (p : Nat) (t : Fld) (why : Nat) : Dev :=
  if d.armed t then (d.stop t).hpmSeqFail p why else d

def execThpmOfferExpiry (p : Fin 24) (s : State) : Host.Outcome State Fault Refusal :=
  s.okAt p.val (fun d => d.hpmWaitEnd p.val (T.hpmOffer p.val) 5)
def execThpmTransExpiry (p : Fin 24) (s : State) : Host.Outcome State Fault Refusal :=
  s.okAt p.val (fun d => d.hpmWaitEnd p.val (T.hpmTrans p.val) 10)
def execThpmReadyExpiry (p : Fin 24) (s : State) : Host.Outcome State Fault Refusal :=
  s.okAt p.val (fun d => d.hpmWaitEnd p.val (T.hpmReady p.val) 10)
def execHpmRepeatRequestExpiry (p : Fin 24) (s : State) : Host.Outcome State Fault Refusal :=
  s.okAt p.val (fun d => d.hpmWaitEnd p.val (T.hpmRpt p.val) 6)

/-! ### Ceiling and telemetry (R301-R305) -/

/-- A changed own ceiling goes out once the line is free and no HPM contract sequence runs; one sent later than 1 ms after the
change is a miss of kind 6 (R302, R489). -/
def Dev.ceilSend (d : Dev) (p : Nat) : Dev :=
  if !d.armed (T.ownCeil p) then d
  else
    let d := d.stop (T.ownCeil p)
    let st := d.get (F.PRT_HPM_STAT_STATE p)
    if !d.hpmCon p then d
    else if d.bit (H.hpmVerd p) || !(st == 8 || st == 4) || d.bit (H.lineBusy p) then d.set1 (H.ceilWait p)
    else if d.get (H.ownCeil p) = d.get (H.ceilSent p) then
      let d := d.clr (H.ceilWait p)
      if d.bit (H.ceilCmdRun p) then (d.clr (H.ceilCmdRun p)).cmdEnd p 0 else d
    else
      let c := d.get (H.ownCeil p)
      let seq := (d.get (F.PRT_HPM_STAT_SEQ p) + 1) % 256
      let d := (d.puts [(H.ceilWait p, 0), (H.ceilSent p, c), (F.PRT_HPM_STAT_SEQ p, seq)]).vdmSop p chiSvid 1 0 0x15
        [seq * 2 ^ 24 + c] 27
      if d.now + frameTicks 2 ≥ d.get (H.ceilTick p) + 64000 then d.dlMiss 6 p else d

/-- HPM_Ceiling has gone out: CEIL, and an HPM_CEILING command that waited for it is DONE (R305). -/
def Dev.ceilDone (d : Dev) (p : Nat) : Dev :=
  let d := d.hpmEvt p (F.PRT_HPM_EVT_CEIL p)
  if d.bit (H.ceilCmdRun p) then (d.clr (H.ceilCmdRun p)).cmdEnd p 0 else d

/-- The end of the HPM_Ceiling on its way, at its tick, or at its GoodCRC where that comes first. -/
def Dev.ceilEnd (d : Dev) (p : Nat) : Dev := if d.armed (T.ceilEop p) then (d.stop (T.ceilEop p)).ceilDone p else d

/-- The earlier of the two: the end of an HPM_Ceiling, or the start of the next. -/
def Dev.ceilStep (d : Dev) (p : Nat) : Dev :=
  if d.armed (T.ceilEop p) && (!d.armed (T.ownCeil p) || decide (d.get (T.ceilEop p) ≤ d.get (T.ownCeil p))) then d.ceilEnd p
  else d.ceilSend p

def execOwnCeilingSend (p : Fin 24) (s : State) : Host.Outcome State Fault Refusal := s.okAt p.val (·.ceilStep p.val)

def Dev.telemPoll (d : Dev) (p : Nat) : Dev :=
  if d.armed (T.tpoll p) then
    let n := d.get (F.PRT_HPM_CTRL_TPOLL p)
    let d := if n = 0 ∨ !d.hpmCon p then d.stop (T.tpoll p) else d.arm (T.tpoll p) (msTicks (1000 * n))
    if d.hpmCon p && n != 0 && d.mode != 3 then d.wantOwn p 3 else d
  else d

def execTelemetryPoll (p : Fin 24) (s : State) : Host.Outcome State Fault Refusal := s.okAt p.val (·.telemPoll p.val)

/-! ### Profile table and PRTnn_HPM_CTRL (R307-R309) -/

/-- Word A of profile k, not valid with VMIN > VMAX or a code out of range (R308). -/
def Dev.profPutA (d : Dev) (p k v : Nat) : Dev :=
  let a := v &&& 0x803FFFFF
  d.pstgPut p (0x90 + 2 * k) (if bits a 0 11 ≤ bits a 11 11 ∧ bits a 11 11 ≤ 2000 then a else a % 2 ^ 31)

/-- Word B of profile k; the profile is stored not valid with VMIN > VMAX or a code out of range (R308). -/
def Dev.profPutB (d : Dev) (p k v : Nat) : Dev :=
  let a := d.profA p k
  let b := bits v 0 24
  let good := decide (bits a 0 11 ≤ bits a 11 11) && decide (bits a 11 11 ≤ 2000) && decide (bits b 12 12 ≤ 2400) &&
    decide (bits b 0 12 ≤ 2400)
  (d.pstgPut p (0x91 + 2 * k) b).pstgPut p (0x90 + 2 * k) (if good then a else a % 2 ^ 31)

/-- Writes of PRTnn_HPM_PLOADA and PLOADB: by C0 running boot ROM code only (R308). -/
def Dev.ploadA (d : Dev) (a : Agent) (p v : Nat) : Dev :=
  if d.isRom a then d.profPutA p (bits v 32 4) (bits v 0 32) else d.hpmEvt p (F.PRT_HPM_EVT_PLWR p)

def execHpmPloada (a : Agent) (p : Fin 24) (v : Word) (s : State) : Host.Outcome State Fault Refusal :=
  s.okBy a (·.ploadA a p.val v.toNat)

def Dev.ploadB (d : Dev) (a : Agent) (p v : Nat) : Dev :=
  if d.isRom a then d.profPutB p (bits v 32 4) (bits v 0 32) else d.hpmEvt p (F.PRT_HPM_EVT_PLWR p)

def execHpmPloadb (a : Agent) (p : Fin 24) (v : Word) (s : State) : Host.Outcome State Fault Refusal :=
  s.okBy a (·.ploadB a p.val v.toNat)

def Dev.hpmCtrlWrite (d : Dev) (p v : Nat) : Dev :=
  let n := bits v 8 8
  if n > 60 then d
  else
    let d := d.puts [(F.PRT_HPM_CTRL_TPOLL p, n), (F.PRT_HPM_CTRL_AUTOREC p, bits v 1 1), (F.PRT_HPM_CTRL_RXCEIL p, bits v 0 1)]
    if n = 0 then d.stop (T.tpoll p) else if d.hpmCon p then d.arm (T.tpoll p) (msTicks (1000 * n)) else d

end Sys2Proof.Machine
end

