-- ==== Sys2Proof/Machine/Proto.lean ====
section
/-!
DEFINITION. Sys2Proof/Machine/Proto.lean: what the port engine does with received protocol messages, acknowledgements and
the timers of the protocol layer (R193-R222). Messages come as their fields; a received message of several chunks comes whole, with
its last chunk.
-/
namespace Sys2Proof.Machine

/-! ### Own capabilities and replies (R194) -/

/-- The four bytes of a word, byte 0 in bits [7:0] (R196). -/
def packWord (a b c e : Nat) : Nat := a + b * 256 + c * 65536 + e * 2 ^ 24

/-- VID 0x3C5A and PID 0x2460 as bytes 0-3 of an extended capabilities block. -/
def vidPid : Nat := chiSvid + 0x2460 * 65536

/-- The PDP figure of R194 in whole watts: the cap, or the highest power of the last offer. -/
def Dev.pdpFigure (d : Dev) (p : Nat) : Nat :=
  match d.cap p with
  | some c => min 255 (c / 10)
  | none => min 255 (((List.range 11).map (fun i => objPower (d.get (H.offer p (i + 1))))).foldl max 0 / 10)

/-- Source_Capabilities_Extended, 25 bytes. -/
def Dev.srcCapExt (d : Dev) (p : Nat) : List Nat :=
  [vidPid, 0, 0, 0, 0, packWord 0 0 0 (d.pdpFigure p), d.pdpFigure p]

/-- Highest power in whole watts among sink slots i to i + n − 1. -/
def Dev.sinkPdp (d : Dev) (p i n : Nat) : Nat :=
  ((List.range n).map (fun k => objPower (d.pstg p (16 + i + k)))).foldl max 0 / 10

/-- Sink slots 0-6 are all empty. -/
def Dev.sinkEmpty (d : Dev) (p : Nat) : Bool := (List.range 7).all (fun k => d.pstg p (16 + k) == 0)

/-- Sink_Capabilities_Extended, 24 bytes: SPR minimum, operational and maximum PDP at bytes 18-20, EPR at bytes 21-23. -/
def Dev.snkCapExt (d : Dev) (p : Nat) : List Nat :=
  let spr := if d.sinkEmpty p then 2 else d.sinkPdp p 0 7
  let epr := if d.bit (F.PRT_PE_CTRL_EPREN p) then d.sinkPdp p 7 4 else 0
  [vidPid, 0, 0, 0, packWord 0 0 0 spr, packWord spr 0 epr epr]

/-- Status, 7 bytes: temperature, event flags, Power Status (R194, R340). -/
def Dev.statusWords (d : Dev) (p : Nat) : List Nat :=
  let t := sgn 9 (d.get (F.GRD_PATH_TNTC p))
  let l := d.get (F.GRD_TRIP_LATCH p)
  let ocp := l.testBit 0 || l.testBit 5
  let flags := b2n ocp * 2 + b2n (l.testBit 7) * 4 + b2n (l.testBit 4) * 8
  [packWord (min 255 (max 1 t).toNat) 0 0 flags, d.get (H.offerCbl p) * 512 + d.get (H.offerBud p) * 1024]

/-- Source_Info: a managed-capability port with the PDP figure (R194). -/
def Dev.srcInfo (d : Dev) (p : Nat) : Nat := d.pdpFigure p * 65536 + d.pdpFigure p * 256 + d.pdpFigure p

/-- Revision 3.2, version 1.0 (R193). -/
def revisionObj : Nat := 0x32100000

/-- Sink_Capabilities from sink slots 0-6; with slots 7-10 at positions 8-11 for EPR. -/
def Dev.sinkCaps (d : Dev) (p : Nat) (epr : Bool) : List Nat :=
  let ok o := o != 0 && (isFixed o || !d.pd2 p)
  let spr := ((List.range 7).map (fun i => d.snkSlot p i)).filter ok
  if epr then padTo 7 spr ++ (List.range 4).map (fun i => d.snkSlot p (7 + i)) else spr

/-- The Source_Capabilities that a sink sends for information. -/
def Dev.infoCaps (d : Dev) (p : Nat) : List Nat :=
  let ok o := o != 0 && (isFixed o || !d.pd2 p)
  match ((List.range 7).map (fun i => d.srcSlot p i)).filter ok with
  | [] => []
  | o :: l => (((o &&& (2 ^ 28 ||| (2 ^ 27 ||| (2 ^ 23 - 1)))) &&& (2 ^ 32 - 1 - 2 ^ 28)) + 2 ^ 29) :: l

/-- An extended reply of n bytes, its first chunk (R195); a PD 2.0 partner gets none (R193). -/
def Dev.extReply (d : Dev) (p typ n : Nat) (ws : List Nat) (kind : Nat) : Dev :=
  if d.pd2 p then d.unsupported p else (d.queryBegin p 50).txExt p typ n 0 ws kind

/-! ### What follows the GoodCRC of an own message -/

/-- An engine with nothing in progress looks for its next exchange. -/
def Dev.idleSched (d : Dev) (p : Nat) : Dev := if d.busy p then d else d.sched p

/-- Capabilities acknowledged: a Request is awaited, after the second chunk of a long message (R195, R204). -/
def Dev.capsAcked (d : Dev) (p : Nat) (ext : Bool) : Dev :=
  let d := d.clr (H.capsCnt p)
  if ext then (d.put (H.chunkNo p) 1).arm (T.chunk p) (msTicks 27) else d.awaitReply p 1

/-- The Accept of a Request is acknowledged (R206, R221). -/
def Dev.acceptAcked (d : Dev) (p : Nat) : Dev :=
  let d := d.setPe p 4
  let k := bits (d.get (H.newCon p)) 31 3
  if (k = 3 ∨ k = 5) ∧ !d.bit (H.resume p) then d.srcXfer p else d.arm (T.srcTrans p) (msTicks 30)

/-- EPR_Mode Enter Succeeded is acknowledged (R209). -/
def Dev.eprIn (d : Dev) (p : Nat) : Dev :=
  ((((d.set1 (F.PRT_PE_STAT_EPR p)).peEvt p (F.PRT_PE_EVT_EPRCHG p)).arm (T.srcKeep p) (msTicks 875)).setPe p 2).offerAsk p 2 true

/-- EPR mode ends by Exit: fresh capabilities, or a wait for them. -/
def Dev.eprOut (d : Dev) (p : Nat) : Dev :=
  let d := d.eprEnd p
  if d.isSrc p then d.offerAsk p 2 false else d.snkWait p 7

/-- A verdict other than 0 has been sent (R292 step 3, R299). -/
def Dev.hpmVerdictSent (d : Dev) (p : Nat) : Dev :=
  let v := d.get (H.waits p)
  let d := d.put (H.waits p) 0
  if v = 2 ∧ d.get (H.hpmWaits p) < 2 then
    ((d.inc (H.hpmWaits p)).put (F.PRT_HPM_STAT_STATE p) 5).arm (T.hpmRpt p) (msTicks 150)
  else d.hpmSeqFail p 7

/-- What follows the acknowledgement of an own message of a kind. -/
def Dev.acked (d : Dev) (p : Nat) (f : TxFrame) : Dev :=
  match f.kind with
  | 1 => d.capsAcked p f.ext
  | 2 => d.acceptAcked p
  | 3 => d.conEffect p
  | 4 => d.awaitReply p 2
  | 5 => d.awaitReply p 3
  | 6 => d.softAnswered p
  | 7 => d.awaitReply p 4
  | 8 => d.swapCommit p
  | 9 => d.swapStep5 p
  | 10 => d.swapEnd p
  | 11 => d.awaitReply p 5
  | 12 => (d.cmdFin p 0).exEnd p
  | 13 => (d.setPe p 13).arm (T.enterEpr p) (msTicks 500)
  | 14 => d.txSop p 42 (eprMode 3 0) 15
  | 15 => d.eprIn p
  | 16 => (d.cmdFin p 0).eprOut p
  | 17 => d.awaitReply p 6
  | 18 => (d.cmdFin p 0).exEnd p
  | 19 => if [4, 5, 9, 10].contains (d.get (H.vdmWhat p)) then d.arm (T.vdmMode p) (msTicks 45)
      else d.arm (T.vdmResp p) (msTicks 27)
  | 21 => d.awaitReply p 7
  | 22 => d.hpmTransition p
  | 23 => d.hpmVerdictSent p
  | 24 => (d.xferBegin p 2 (bits (d.get (H.newCon p)) 14 13)).rampTo p (bits (d.get (H.newCon p)) 14 13)
  | 25 => d.conEffect p
  | 26 => d.awaitReply p 8
  | 27 => (d.ceilEnd p).arm (T.ceilResp p) (msTicks 27)
  | 30 => d.exEnd p
  | 39 => (d.when (d.bit (H.exOwn p)) (·.cmdFin p (if f.msg = 4 then 1 else 4))).exEnd p
  | 38 => (d.clr (H.swAns p)).idleSched p
  | 31 => d.exEndIn p (d.get (H.prevState p))
  | 33 => d.snkWait p 7
  | 34 => d.exEnd p
  | 35 => d.awaitReply p 1
  | 37 => (d.put (H.chunkNo p) 2).arm (T.chunk p) (msTicks 27)
  | _ => if d.bit (H.exAns p) then d.exEndIn p (d.pe p) else d.idleSched p

/-- A GoodCRC ends the retry of the message on its way (R194). -/
def Dev.rxGoodCrc (d : Dev) (p : Nat) : Dev :=
  match d.txs p with
  | [] => d
  | f :: l => ((d.lineAck p).txDone p f l).acked p f

def execRxGoodcrc (p : Fin 24) (s : State) : Host.Outcome State Fault Refusal := s.okAt p.val (·.rxGoodCrc p.val)

/-! ### No GoodCRC (R195) -/

/-- Capabilities without GoodCRC (R204 step 4). -/
def Dev.capsLost (d : Dev) (p : Nat) : Dev :=
  let n := d.get (H.capsCnt p) + 1
  let d := (d.put (H.capsCnt p) n).puts [(H.exOn p, 0), (H.exOwn p, 0)]
  if n ≥ 50 then d.noPd p else d.arm (T.sendCaps p) (msTicks 150)

/-- Soft_Reset was not Accepted, or not acknowledged (DEDUCED): Hard_Reset (R218). -/
def Dev.softLost (d : Dev) (p : Nat) : Dev :=
  (if ((d.cmds p).map (·.code)).headD 0 = 0x1C then d.cmdEnd p 3 else d).hardReset p

/-- A protocol error for want of a GoodCRC: a command whose own exchange it ends had no response (R195, R239). -/
def Dev.lostFail (d : Dev) (p : Nat) (f : TxFrame) : Dev :=
  (d.when (d.bit (H.exOwn p) && !([0, 31, 36, 37, 38].contains f.kind)) (·.cmdFin p 3)).protFail p

/-- A message that had no GoodCRC after its retries: the outcome that the rules give it, or a protocol error. -/
def Dev.unacked (d : Dev) (p : Nat) (f : TxFrame) : Dev :=
  match f.kind with
  | 1 => d.capsLost p
  | 5 => d.softLost p
  | 7 => d.swapLost p
  | 8 => ((d.cmdJoined p (some 6)).swapOver p 6).protFail p
  | 9 => d.errRecover p 18 15
  | 10 => d.errRecover p 18 15
  | 19 => if 1 ≤ d.get (H.vdmWhat p) ∧ d.get (H.vdmWhat p) ≤ 3 then d.vdmNone p
      else if f.sop ≠ 0 then d.vdmFail p 3 else d.lostFail p f
  | 27 => (d.ceilEnd p).hpmEvt p (F.PRT_HPM_EVT_CEILNOACK p)
  | _ => (d.clr (H.swAns p)).lostFail p f

/-- tReceive ends: a retry, up to nRetryCount; a SOP′ or SOP″ message with VCONN low is not retried (R79, R195). -/
def Dev.rxTimeout (d : Dev) (p : Nat) : Dev :=
  if !d.armed (T.rx p) then d
  else
    match d.txs p with
    | [] => d.stop (T.rx p)
    | f :: l =>
      if f.tries < 2 ∧ ¬(f.sop ≠ 0 ∧ d.bit F.SYS_SUPPLY_VCONNLOW) then
        (d.setTxs p ({ f with tries := f.tries + 1 } :: l)).txArm p
      else (d.txDone p f l).unacked p f

def execTreceiveExpiry (p : Fin 24) (s : State) : Host.Outcome State Fault Refusal := s.okAt p.val (·.rxTimeout p.val)

/-! ### Accept, Reject, Wait, Not_Supported, PS_RDY -/

/-- The VCONN source role is taken (R222); the switch closes where R178 allows. -/
def Dev.vconnSwapped (d : Dev) (p : Nat) : Dev :=
  let d := (d.awaitEnd p).put (H.vcsTry p) 3
  (d.vconnCheck p).txSop p 6 [] 12

def Dev.rxAccept (d : Dev) (p : Nat) : Dev :=
  match d.get (H.await p) with
  | 2 =>
    let d := ((d.awaitEnd p).setPe p 10).puts [(H.snkMask p, 1), (H.maskEnd p, 0), (H.psDone p, 0)]
    (d.xferBegin p 1 (bits (d.get (H.newCon p)) 14 13)).arm (T.psTrans p) (msTicks (if d.epr p then 925 else 500))
  | 3 =>
    let d := if ((d.cmds p).map (·.code)).headD 0 = 0x1C then d.cmdEnd p 0 else d
    d.negotiateAnew p
  | 4 => d.swapCommit p
  | 5 => d.vconnSwapped p
  | _ => d.protFail p

def execRxAccept (p : Fin 24) (hdr : BitVec 16) (s : State) : Host.Outcome State Fault Refusal :=
  s.okAt p.val (fun d => d.rx p.val hdr.toNat (·.rxAccept p.val))

/-- A Reject of a Request (R211 step 3). -/
def Dev.requestRejected (d : Dev) (p : Nat) : Dev :=
  let d := (d.awaitEnd p).put (H.waits p) 0
  if d.explicit p then ((d.put (H.vs5req p) 0).cmdFin p 1).exEnd p
  else if d.bit (H.vs5req p) then ((d.put (H.vs5req p) 0).exEnd p).snkWait p 6
  else (d.put (H.vs5req p) 1).sendRequest p (d.vs5Rdo p)

/-- A reply that ends a command's own exchange without effect. -/
def Dev.exchangeRefused (d : Dev) (p outcome : Nat) : Dev := ((d.awaitEnd p).cmdFin p outcome).exEnd p

def Dev.rxReject (d : Dev) (p : Nat) : Dev :=
  match d.get (H.await p) with
  | 2 => d.requestRejected p
  | 4 => d.swapQuit p 2 1
  | 5 => (d.puts [(H.vcsOff p, 1), (H.vcsTry p, 0)]).exchangeRefused p 1
  | 6 => d.exchangeRefused p 1
  | _ => d.protFail p

def execRxReject (p : Fin 24) (hdr : BitVec 16) (s : State) : Host.Outcome State Fault Refusal :=
  s.okAt p.val (fun d => d.rx p.val hdr.toNat (·.rxReject p.val))

def Dev.rxWait (d : Dev) (p : Nat) : Dev :=
  match d.get (H.await p) with
  | 2 =>
    if d.get (H.waits p) < 2 then (((d.awaitEnd p).inc (H.waits p))).arm (T.sinkReq p) (msTicks 110)
    else d.requestRejected p
  | 4 => (d.awaitEnd p).swapWaited p
  | 5 =>
    if d.get (H.vcsTry p) < 2 then ((d.awaitEnd p).inc (H.vcsTry p)).arm (T.sinkReq p) (msTicks 110)
    else (d.put (H.vcsTry p) 0).exchangeRefused p 4
  | 6 => d.exchangeRefused p 4
  | _ => d.protFail p

def execRxWait (p : Fin 24) (hdr : BitVec 16) (s : State) : Host.Outcome State Fault Refusal :=
  s.okAt p.val (fun d => d.rx p.val hdr.toNat (·.rxWait p.val))

def Dev.rxNotSupported (d : Dev) (p : Nat) : Dev :=
  if d.get (H.await p) = 4 then d.swapQuit p 3 2
  else if d.get (H.await p) = 5 then (d.puts [(H.vcsOff p, 1), (H.vcsTry p, 0)]).exchangeRefused p 2
  else if d.get (H.await p) = 6 then d.exchangeRefused p 2
  else if d.armed (T.enterEpr p) then ((d.stop (T.enterEpr p)).cmdFin p 2).exEnd p
  else if d.bit (H.vdmWhat p) && d.get (H.vdmTgt p) == 0 then d.vdmFail p 1
  else d

def execRxNotSupported (p : Fin 24) (hdr : BitVec 16) (s : State) : Host.Outcome State Fault Refusal :=
  s.okAt p.val (fun d => d.rx p.val hdr.toNat (·.rxNotSupported p.val))

/-- PS_RDY outside an accepted swap: a sink's contract takes effect when the GoodCRC has gone out, and its mask ends 20 ms later
(R207, R213). -/
def Dev.rxPsRdy (d : Dev) (p : Nat) : Dev :=
  if d.isSnk p && d.armed (T.psTrans p) && !d.bit (H.psDone p) then
    (d.puts [(H.psDone p, 1), (H.xferOn p, 0), (H.maskEnd p, d.now + 1 + msTicks 20)]).arm (T.psTrans p) goodCrcTicks
  else d.protFail p

def Dev.psRdy (d : Dev) (p hdr : Nat) : Dev :=
  if d.rxOn p && d.bit (H.swAcc p) then d.rxIn p hdr (·.swapPsRdy p) else d.rx p hdr (·.rxPsRdy p)

/-- tPSTransition ends; after PS_RDY, the GoodCRC to it has gone out: the contract takes effect (R207), or the swap ends (R255). -/
def Dev.psTransEnd (d : Dev) (p : Nat) : Dev :=
  if d.bit (H.psDone p) then
    let d := d.put (H.psDone p) 0
    if d.bit (H.swAcc p) then d.swapEnd p else d.conEffect p
  else (d.cmdFin p 3).hardReset p

def execRxPsRdy (p : Fin 24) (hdr : BitVec 16) (s : State) : Host.Outcome State Fault Refusal :=
  s.okAt p.val (·.psRdy p.val hdr.toNat)

/-! ### Requests for information -/

def execRxPing (p : Fin 24) (hdr : BitVec 16) (s : State) : Host.Outcome State Fault Refusal :=
  s.okAt p.val (fun d => d.rx p.val hdr.toNat (fun e => e))

def execRxGotomin (p : Fin 24) (hdr : BitVec 16) (s : State) : Host.Outcome State Fault Refusal :=
  s.okAt p.val (fun d => d.rx p.val hdr.toNat (·.unsupported p.val))

/-- A message that the device does not support. -/
def Dev.rxUnsupported (d : Dev) (p : Nat) : Dev := d.unsupported p

def execRxUnsupportedMessage (p : Fin 24) (hdr : BitVec 16) (s : State) : Host.Outcome State Fault Refusal :=
  s.okAt p.val (fun d => d.rx p.val hdr.toNat (·.rxUnsupported p.val))

/-- Get_Source_Cap, or EPR_Get_Source_Cap (R194, R229). -/
def Dev.rxGetSourceCap (d : Dev) (p : Nat) (epr : Bool) : Dev :=
  if d.isSrc p then
    if epr && d.pd2 p then d.unsupported p else (d.exBegin p false 700).offerAsk p 1 epr
  else if epr then d.unsupported p
  else (d.queryBegin p 50).txSop p 33 (d.infoCaps p) 36

def execRxGetSourceCap (p : Fin 24) (hdr : BitVec 16) (epr : Bool) (s : State) : Host.Outcome State Fault Refusal :=
  s.okAt p.val (fun d => d.rx p.val hdr.toNat (·.rxGetSourceCap p.val epr))

def Dev.rxGetSinkCap (d : Dev) (p : Nat) (epr : Bool) : Dev :=
  if epr then d.extReply p 18 44 (d.sinkCaps p true) 37 else (d.queryBegin p 50).txSop p 36 (d.sinkCaps p false) 0

def execRxGetSinkCap (p : Fin 24) (hdr : BitVec 16) (epr : Bool) (s : State) : Host.Outcome State Fault Refusal :=
  s.okAt p.val (fun d => d.rx p.val hdr.toNat (·.rxGetSinkCap p.val epr))

/-- 0 Get_Source_Cap_Extended, 1 Get_Source_Info, 2 Get_PPS_Status; the content of PPS_Status is open. -/
def Dev.rxGetSourceInfo (d : Dev) (p kind : Nat) : Dev :=
  if !d.isSrc p then d.unsupported p
  else if kind = 0 then d.extReply p 1 25 (d.srcCapExt p) 0
  else if kind = 1 then (d.queryBegin p 50).txSop p 43 [d.srcInfo p] 0
  else if d.bit (F.PRT_CONTRACT_VALID p) && d.conKind p == 3 then
    let r := d.fresh 32
    r.2.extReply p 12 4 [r.1] 0
  else d.unsupported p

def execRxGetSourceInfo (p : Fin 24) (hdr : BitVec 16) (kind : Fin 3) (s : State) : Host.Outcome State Fault Refusal :=
  s.okAt p.val (fun d => d.rx p.val hdr.toNat (·.rxGetSourceInfo p.val kind.val))

/-- 0 Get_Sink_Cap_Extended, 1 Get_Status, 2 Get_Revision. -/
def Dev.rxGetStatus (d : Dev) (p kind : Nat) : Dev :=
  if kind = 0 then d.extReply p 15 24 (d.snkCapExt p) 0
  else if kind = 1 then d.extReply p 2 7 (d.statusWords p) 0
  else (d.queryBegin p 50).txSop p 44 [revisionObj] 0

def execRxGetStatus (p : Fin 24) (hdr : BitVec 16) (kind : Fin 3) (s : State) : Host.Outcome State Fault Refusal :=
  s.okAt p.val (fun d => d.rx p.val hdr.toNat (·.rxGetStatus p.val kind.val))

/-- The objects of the offer in force, by position (R200). -/
def Dev.offerKept (d : Dev) (p : Nat) : List Nat := (List.range 11).map (fun i => d.get (H.offer p (i + 1)))

/-- A chunk request: the next chunk goes out, of the offer as it began (R195, R200). -/
def Dev.rxChunkRequest (d : Dev) (p : Nat) : Dev :=
  if d.armed (T.chunk p) then
    let d := d.stop (T.chunk p)
    if d.get (H.chunkNo p) = 1 then
      (d.put (H.chunkNo p) 0).txExt p 17 44 1 (d.offerKept p) 35
    else (d.put (H.chunkNo p) 0).txExt p 18 44 1 (d.sinkCaps p true) 0
  else d.protFail p

def Dev.chunkRequest (d : Dev) (p hdr : Nat) : Dev :=
  if d.rxOn p && d.bit (H.swAcc p) && d.armed (T.chunk p) then d.rxIn p hdr (·.rxChunkRequest p)
  else d.rx p hdr (·.rxChunkRequest p)

def execRxChunkRequest (p : Fin 24) (hdr : BitVec 16) (s : State) : Host.Outcome State Fault Refusal :=
  s.okAt p.val (·.chunkRequest p.val hdr.toNat)

/-! ### Capabilities and Requests -/

/-- The held position of a resumed sink contract, where the new capabilities offer the held voltage there (R221). -/
def Dev.resumeRdo (d : Dev) (p : Nat) : Option Nat :=
  let w := d.heldWord p
  let pos := bits w 27 4
  let v := bits w 14 13
  let o := d.rxObj p pos
  if o != 0 && (if isFixed o then fixedV o == v else decide (apdoMin o ≤ v) && decide (v ≤ apdoMax o)) then
    some (d.mkRdo p pos v (min (bits w 0 14) (offMax o v)) false)
  else none

/-- A decision is taken on the capabilities in RXCAP. -/
def Dev.capsDecide (d : Dev) (p n : Nat) (epr : Bool) : Dev :=
  if d.bit (H.resume p) then
    match d.resumeRdo p with
    | some r => d.sendRequest p (d.rdoCapped p r)
    | none => d.askDefault p 2
  else d.selectAsk p n epr

/-- Capabilities received (R194, R198): the last of them stand in RXCAP. Those of EPR come as chunks, whose extended header gives
4 bytes for each object. DESIGN CHOICE (log entry 129): objects above the 11 that RXCAP holds are not counted. -/
def Dev.rxSourceCaps (d : Dev) (p hdr : Nat) (epr : Bool) (objs : List Nat) : Dev :=
  let getting := d.get (H.await p) == 6 && ((d.cmds p).map (·.code)).headD 0 == 1
  let ext := if epr then 2 ^ 15 + 4 * objs.length else 0
  let store e := (Dev.pstgPuts e p 0x20 (padTo 11 objs)).rxStore p hdr ext objs
  if d.isSrc p then
    if getting then (((store d).awaitEnd p).cmdEnd p 0).exEnd p else d.protFail p
  else if d.bit (H.xferOn p) then d.protFail p
  else
    let d := store d
    let d := if getting then ((d.awaitEnd p).cmdEnd p 0) else d
    let d := ((d.awaitEnd p).puts [(T.waitCap p, 0), (T.sinkReq p, 0), (H.waits p, 0), (H.vs5req p, 0), (H.rampReq p, 0),
      (H.reqHeld p, 0)]).exBegin p false 700
    d.capsDecide p (min 11 objs.length) epr

def execRxSourceCapabilities (p : Fin 24) (hdr : BitVec 16) (epr : Bool) (objs : List Obj) (s : State) :
    Host.Outcome State Fault Refusal :=
  s.okAt p.val (fun d => d.rx p.val hdr.toNat (·.rxSourceCaps p.val hdr.toNat epr (objNats objs)))

/-- A Request for the held position at or below the held current, in a resumption (R221). -/
def Dev.heldRequest (d : Dev) (p r : Nat) : Bool :=
  d.bit (H.resume p) && rdoPos r == bits (d.heldWord p) 27 4 && decide (rdoOp (d.offered p r) r ≤ bits (d.heldWord p) 0 14)

/-- A valid Request under R205: both its currents fit the cap as it stands now as well (R223), but for slot 0 and a held contract. -/
def Dev.requestOk (d : Dev) (p : Nat) (epr : Bool) (r copy : Nat) : Bool :=
  let o := d.offered p r
  let lim := max (d.capRdo p o r) (if rdoPos r = 1 then fixedI o else 0)
  d.reqFits p o r && (d.heldRequest p r || (decide (rdoOp o r ≤ lim) && decide (rdoMax o r ≤ lim))) &&
    (if epr then d.epr p && copy == o else decide (rdoPos r ≤ 7))

def Dev.rxRequest (d : Dev) (p : Nat) (epr : Bool) (r copy : Nat) : Dev :=
  if d.isSnk p || d.bit (H.xferOn p) || d.pe p == 4 then d.protFail p
  else
    let d := (((d.awaitEnd p).askCancel p).exBegin p false 700).put (H.rdoNew p) r
    let d := if d.armed (T.ppsTo p) then d.arm (T.ppsTo p) (msTicks 13500) else d
    if !d.requestOk p epr r copy then d.srcReply p 1
    else if d.explicit p && !d.hpmCon p && r == d.get (H.rdo p) then d.srcReply p 0
    else if d.bit (H.resume p) then
      if d.heldRequest p r then d.srcReply p 0
      else ((d.setPe p 3).resumeEnd p).askDefault p 1
    else (d.setPe p 3).askPost p 1 r (d.offered p r)

def execRxRequest (p : Fin 24) (hdr : BitVec 16) (epr : Bool) (rdo copy : Obj) (s : State) :
    Host.Outcome State Fault Refusal :=
  s.okAt p.val (fun d => d.rx p.val hdr.toNat (·.rxRequest p.val epr rdo.toNat copy.toNat))

/-! ### EPR mode (R209, R210, R214, R215) -/

/-- The reason to answer Enter Failed at once, 0 if none (R209). -/
def Dev.eprRefusal (d : Dev) (p : Nat) : Nat :=
  if !d.bit (F.PRT_PE_CTRL_EPREN p) || !d.eprSurvives p 2047 then 4
  else if !d.explicit p || !(d.get (H.rdo p)).testBit 22 then 3
  else if !d.bit (F.PRT_PE_STAT_VCSRC p) then 2
  else if !d.bit (F.PRT_VDM_STAT_CBL5A p) || !d.bit (F.PRT_VDM_STAT_CBLEPR p) || d.bit (H.vconnOc p) ||
      d.bit F.SYS_SUPPLY_VCONNLOW then 1
  else 0

def Dev.rxEprMode (d : Dev) (p action data : Nat) : Dev :=
  if d.pd2 p then d.unsupported p
  else if action = 1 ∧ d.isSrc p then
    let d := ((d.askCancel p).exBegin p false 1200).setPe p 13
    let why := d.eprRefusal p
    if why ≠ 0 then d.txSop p 42 (eprMode 4 why) 34
    else d.askPost p 3 ((eprMode 1 data).headD 0) (d.pstg p 0x87)
  else if action = 5 ∧ d.epr p then
    d.eprOut p
  else if d.armed (T.enterEpr p) then
    if action = 2 then d
    else if action = 3 then
      let d := (((d.stop (T.enterEpr p)).set1 (F.PRT_PE_STAT_EPR p)).peEvt p (F.PRT_PE_EVT_EPRCHG p)).arm (T.snkKeep p)
        (msTicks 375)
      ((d.cmdFin p 0).exEnd p).snkWait p 7
    else ((d.stop (T.enterEpr p)).cmdFin p 1).exEnd p
  else d.protFail p

def execRxEprMode (p : Fin 24) (hdr : BitVec 16) (action data : BitVec 8) (s : State) :
    Host.Outcome State Fault Refusal :=
  s.okAt p.val (fun d => d.rx p.val hdr.toNat (·.rxEprMode p.val action.toNat data.toNat))

def Dev.rxKeepAlive (d : Dev) (p : Nat) : Dev :=
  if d.isSrc p && d.epr p then (d.arm (T.srcKeep p) (msTicks 875)).extReply p 16 2 [4] 0 else d.unsupported p

def execRxEprKeepalive (p : Fin 24) (hdr : BitVec 16) (s : State) : Host.Outcome State Fault Refusal :=
  s.okAt p.val (fun d => d.rx p.val hdr.toNat (·.rxKeepAlive p.val))

def Dev.rxKeepAliveAck (d : Dev) (p : Nat) : Dev :=
  if d.isSnk p && d.epr p && !d.hpmCon p then d.arm (T.snkKeep p) (msTicks 375) else d

def execRxEprKeepaliveAck (p : Fin 24) (hdr : BitVec 16) (s : State) : Host.Outcome State Fault Refusal :=
  s.okAt p.val (fun d => d.rx p.val hdr.toNat (·.rxKeepAliveAck p.val))

/-! ### Stored messages -/

def Dev.rxAlert (d : Dev) (p hdr ado : Nat) : Dev := (d.rxStore p hdr 0 [ado]).peEvt p (F.PRT_PE_EVT_RXALERT p)

def execRxAlert (p : Fin 24) (hdr : BitVec 16) (ado : Obj) (s : State) : Host.Outcome State Fault Refusal :=
  s.okAt p.val (fun d => d.rx p.val hdr.toNat (·.rxAlert p.val hdr.toNat ado.toNat))

/-- The message number of a header: control, 32 + data, 64 + extended. -/
def msgOf (hdr : Nat) : Nat :=
  bits hdr 0 5 + (if hdr.testBit 15 then 64 else if bits hdr 12 3 = 0 then 0 else 32)

/-- The reply that a query command awaits. -/
def replyOf (code : Nat) : Nat :=
  match code with
  | 1 => 33
  | 2 => 36
  | 3 => 65
  | 4 => 79
  | 5 => 66
  | 6 => 69
  | 7 => 37
  | 8 => 44
  | _ => 0

/-- Chunks of an extended message by its extended header. -/
def chunksOf (hdr ext : Nat) : Nat := if hdr.testBit 15 && ext.testBit 15 then max 1 (cdiv (bits ext 0 9) 26) else 1

/-- A reply is stored and completes the command that asked for it. Each chunk before the last has had its GoodCRC and been followed by a
Chunk Request (R195). An unchunked one of more than 26 bytes is a protocol error. DESIGN CHOICE (log entry 129): of more words than the
receive area holds, its 65 are kept. -/
def Dev.rxReply (d : Dev) (p hdr ext : Nat) (ws : List Nat) : Dev :=
  if hdr.testBit 15 && !ext.testBit 15 && decide (bits ext 0 9 > 26) then d.protFail p
  else
    let more := chunksOf hdr ext - 1
    let d := d.puts [(H.gcSent p, d.get (H.gcSent p) + more), (H.crSent p, d.get (H.crSent p) + more)]
    let d := d.rxStore p hdr ext ws
    if d.get (H.await p) = 6 ∧ d.bit (H.cmdRun p) ∧ replyOf (((d.cmds p).map (·.code)).headD 0) = msgOf hdr then
      d.exchangeRefused p 0
    else d

def execRxReplyStored (p : Fin 24) (hdr ext : BitVec 16) (ws : List Obj) (s : State) : Host.Outcome State Fault Refusal :=
  s.okAt p.val (fun d => d.rx p.val hdr.toNat (·.rxReply p.val hdr.toNat ext.toNat (objNats ws)))

/-- BIST (R194): mode 5 Carrier, mode 8 Test Data, in which messages get their GoodCRC and no more until a Hard_Reset (PRESUMED, the USB
PD specification, log entry 130); others ignored. -/
def Dev.rxBist (d : Dev) (p mode : Nat) : Dev :=
  if !(d.explicit p && d.conVolt p == 500) then d
  else if mode = 5 then (d.put (H.bist p) 1).arm (T.bist p) (msTicks 45)
  else if mode = 8 then d.set1 (H.bistData p)
  else d

def execRxBist (p : Fin 24) (hdr : BitVec 16) (mode : BitVec 4) (s : State) : Host.Outcome State Fault Refusal :=
  s.okAt p.val (fun d => d.rx p.val hdr.toNat (·.rxBist p.val mode.toNat))

def execRxUnstructuredVdm (p : Fin 24) (hdr : BitVec 16) (s : State) : Host.Outcome State Fault Refusal :=
  s.okAt p.val (fun d => d.rx p.val hdr.toNat (fun e => e.peEvt p.val (F.PRT_PE_EVT_RXUVDM p.val)))

/-! ### Resets received (R218, R219) -/

def Dev.rxSoftReset (d : Dev) (p hdr : Nat) : Dev :=
  if d.bit (H.hpmVerd p) then d.hpmSeqFail p 12
  else
    let d := ((d.xferAbandon p).midReset p).rxNote p 0 hdr
    let d := if d.get (H.ownWait p) = 17 then
        (d.puts [(H.ownWait p, 0), (T.sinkTx p, 0)]).when (d.bit (F.PRT_SWAP_STAT_STEP p)) (·.swapEvt p (F.PRT_SWAP_STAT_COLL p))
      else d.withdraw p 0
    let d := d.setRp p false
    let d := ((d.abandon p).askCancel p).txClear p
    let d := d.puts [(H.vdmWhat p, 0), (T.vdmResp p, 0), (T.vdmBusy p, 0), (T.sendCaps p, 0), (T.waitCap p, 0),
      (T.sinkReq p, 0), (T.enterEpr p, 0), (H.offerDue p, 0), (T.discId p, 0), (T.chunk p, 0), (H.exOn p, 0), (H.exOwn p, 0),
      (H.exAns p, 0), (H.reqHeld p, 0), (H.swAns p, 0)]
    let d := ((((d.exBegin p false 700).setPe p 16).awaitEnd p).txSop p 3 [] 6).peEvt p (F.PRT_PE_EVT_SOFTRST p)
    if d.isSrc p && !d.hpmCon p && !d.bit (H.resume p) then d.offerAsk p 3 (d.epr p) else d

def execRxSoftReset (p : Fin 24) (hdr : BitVec 16) (s : State) : Host.Outcome State Fault Refusal :=
  s.okAt p.val (fun d => d.rxAny p.val hdr.toNat (·.rxSoftReset p.val hdr.toNat))

/-- Hard_Reset signalling (R219); in an accepted swap it ends the swap with LASTEND 12 (R258). -/
def Dev.rxHardReset (d : Dev) (p : Nat) : Dev :=
  if d.mode = 2 ∨ !d.attached p ∨ !d.bit (H.pdOn p) then d
  else if d.bit (H.swAcc p) then
    ((d.put (F.PRT_PE_STAT_HRCNT p) (min 3 (d.get (F.PRT_PE_STAT_HRCNT p) + 1))).peEvt p (F.PRT_PE_EVT_HARDRST p)).errRecover p 18 12
  else ((d.hardResetCommon p).put (H.hrTry p) 0).hardRecover p

def execRxHardReset (p : Fin 24) (s : State) : Host.Outcome State Fault Refusal := s.okAt p.val (·.rxHardReset p.val)

/-! ### Timers of the protocol layer -/

/-- f where the timer runs, which stops. -/
def Dev.onExpiry (d : Dev) (t : Fld) (f : Dev → Dev) : Dev := if d.armed t then f (d.stop t) else d

/-- tSenderResponse ends. DESIGN CHOICE (log entry 131): a VCONN_Swap without a reply is not sent again until the next attach, as after a
Reject (R222). -/
def Dev.senderRespEnd (d : Dev) (p : Nat) : Dev :=
  match d.get (H.await p) with
  | 1 => (d.cmdFin p 3).hardOrNoPd p
  | 2 => (d.cmdFin p 3).hardReset p
  | 3 => d.softLost p
  | 4 => d.swapQuit p 4 3
  | 5 => (d.puts [(H.vcsOff p, 1), (H.vcsTry p, 0)]).exchangeRefused p 3
  | 6 => d.exchangeRefused p 3
  | 7 => (d.awaitEnd p).hpmSeqFail p 6
  | 8 => (d.awaitEnd p).hpmSeqFail p 9
  | _ => d

def execTsenderResponseExpiry (p : Fin 24) (s : State) : Host.Outcome State Fault Refusal :=
  s.okAt p.val (fun d => d.onExpiry (T.senderResp p.val) (·.senderRespEnd p.val))

/-- The capabilities go out once every condition of R204 holds and no wait stands before them. -/
def Dev.capsReadyNow (d : Dev) (p : Nat) : Dev :=
  let d := d.stop (T.capsReady p)
  if d.isSrc p && d.bit (H.offerDue p) && d.bit (H.offerOk p) && d.bit (H.vsafe5 p) && d.bit (H.discDone p) &&
      !d.bit (H.swCapWait p) && (d.txs p).isEmpty && !d.bit (H.await p) && !d.armed (T.sinkTx p) &&
      (!d.bit (H.offerOwn p) || (d.bit (H.exOn p) && d.bit (H.exOwn p))) then d.sendCaps p
  else d

def execSourceCapsReady (p : Fin 24) (s : State) : Host.Outcome State Fault Refusal := s.okAt p.val (·.capsReadyNow p.val)

/-- Unacknowledged capabilities are repeated. -/
def Dev.capsAgain (d : Dev) (p : Nat) : Dev := if d.isSrc p then d.sendCaps p else d

def execTtypecSendSourceCapExpiry (p : Fin 24) (s : State) : Host.Outcome State Fault Refusal :=
  s.okAt p.val (fun d => d.onExpiry (T.sendCaps p.val) (·.capsAgain p.val))

def execTtypecSinkWaitCapExpiry (p : Fin 24) (s : State) : Host.Outcome State Fault Refusal :=
  s.okAt p.val (fun d => d.onExpiry (T.waitCap p.val) (·.hardOrNoPd p.val))

def execTpsTransitionExpiry (p : Fin 24) (s : State) : Host.Outcome State Fault Refusal :=
  s.okAt p.val (fun d => d.onExpiry (T.psTrans p.val) (·.psTransEnd p.val))

/-- tSinkRequest ends: the Request, the VCONN_Swap or the HPM_Request is sent again, as soon as R203 permits. -/
def Dev.requestAgain (d : Dev) (p : Nat) : Dev :=
  if !d.permitted p then d.set1 (H.reqHeld p)
  else
    let d := d.clr (H.reqHeld p)
    if d.pe p = 9 then d.sendRequest p (d.rdoCapped p (d.get (H.rdoNew p)))
    else if d.pe p = 12 then d.txSop p 11 [] 11
    else if d.pe p = 15 then d.hpmReqSend p (d.get (H.hpmReq p))
    else d

def execTsinkRequestExpiry (p : Fin 24) (s : State) : Host.Outcome State Fault Refusal :=
  s.okAt p.val (fun d => d.onExpiry (T.sinkReq p.val) (·.requestAgain p.val))

def Dev.ppsAgain (d : Dev) (p : Nat) : Dev := (d.wantOwn p 2).arm (T.ppsReq p) (msTicks 5000)

def execTppsRequestExpiry (p : Fin 24) (s : State) : Host.Outcome State Fault Refusal :=
  s.okAt p.val (fun d => d.onExpiry (T.ppsReq p.val) (·.ppsAgain p.val))

def execTppsTimeoutExpiry (p : Fin 24) (s : State) : Host.Outcome State Fault Refusal :=
  s.okAt p.val (fun d => d.onExpiry (T.ppsTo p.val) (·.hardReset p.val))

/-- No Enter Succeeded within tEnterEPR. -/
def Dev.enterEprEnd (d : Dev) (p : Nat) : Dev := (d.cmdFin p 3).exEnd p

def execTenterEprExpiry (p : Fin 24) (s : State) : Host.Outcome State Fault Refusal :=
  s.okAt p.val (fun d => d.onExpiry (T.enterEpr p.val) (·.enterEprEnd p.val))

def Dev.keepAliveDue (d : Dev) (p : Nat) : Dev := (d.wantOwn p 1).arm (T.snkKeep p) (msTicks 375)

def execTsinkEprKeepaliveExpiry (p : Fin 24) (s : State) : Host.Outcome State Fault Refusal :=
  s.okAt p.val (fun d => d.onExpiry (T.snkKeep p.val) (·.keepAliveDue p.val))

def execTsourceEprKeepaliveExpiry (p : Fin 24) (s : State) : Host.Outcome State Fault Refusal :=
  s.okAt p.val (fun d => d.onExpiry (T.srcKeep p.val) (·.hardReset p.val))

def execTchunkExpiry (p : Fin 24) (s : State) : Host.Outcome State Fault Refusal :=
  s.okAt p.val (fun d => d.onExpiry (T.chunk p.val) (·.protFail p.val))

/-- tNoResponse ends: a later message no longer restarts negotiation (R220). -/
def execTnoResponseExpiry (p : Fin 24) (s : State) : Host.Outcome State Fault Refusal :=
  s.okAt p.val (fun d => d.stop (T.noResp p.val))

def execTbistContModeExpiry (p : Fin 24) (s : State) : Host.Outcome State Fault Refusal :=
  s.okAt p.val (fun d => d.onExpiry (T.bist p.val) (fun e => e.clr (H.bist p.val)))

/-- The line becomes free (R181): what waited for it goes on. -/
def Dev.lineFreed (d : Dev) (p : Nat) : Dev :=
  let d := d.puts [(H.lineBusy p, 0), (T.lineFree p, 0)]
  let d := if d.bit (H.hpmPend p) then d.arm (T.hpmCond p) 0 else d
  if d.bit (H.ceilWait p) then (d.put (H.ceilTick p) d.now).arm (T.ownCeil p) 0 else d

def execLineFree (p : Fin 24) (s : State) : Host.Outcome State Fault Refusal := s.okAt p.val (·.lineFreed p.val)

/-! ### Asks (R225, R227, R231) -/

/-- The deadline of an ask: its default applies; one that applies late is a miss of kind 2. -/
def Dev.askExpire (d : Dev) (p : Nat) : Dev :=
  if d.armed (T.ask p) && d.askOut p then
    let late := decide (d.now + 1 > d.get (T.ask p))
    let d := d.askCancel p
    let d := if late then d.dlMiss 2 p else d
    d.askDefault p (d.get (F.PRT_PE_STAT_ASKCODE p))
  else d.stop (T.ask p)

def execAskDeadline (p : Fin 24) (s : State) : Host.Outcome State Fault Refusal := s.okAt p.val (·.askExpire p.val)

/-- Entry i of the default decision table: one whose action its ask does not allow is stored not valid (R231). -/
def Dev.ddtPut (d : Dev) (p i e : Nat) : Dev :=
  d.pstgPut p (0x30 + i) (if i ≤ 8 ∧ !actAllowed i (bits e 28 3) then e % 2 ^ 31 else e)

/-- The ask that a word of PRTnn_ASK_ANS answers is the outstanding one, before its deadline (R227). -/
def Dev.answers (d : Dev) (p v : Nat) : Bool :=
  d.askOut p && bits v 24 12 == d.get (F.PRT_PE_STAT_ASKSER p) && bits v 20 4 == d.get (F.PRT_PE_STAT_ASKCODE p) &&
    decide (d.now + 1 < d.get (T.ask p))

/-- A write of PRTnn_ASK_ANS by an agent; `late` where another answer or a cancellation of the same tick stands before it (R227, R228). -/
def Dev.askAnswer (d : Dev) (a : Agent) (late : Bool) (p v : Nat) : Dev :=
  let code := bits v 20 4
  let act := bits v 16 3
  let arg := d.get (F.PRT_ASK_ARG_ARG p a.copy)
  let arg := if code = 2 ∧ act = 4 then arg else arg % 2 ^ 28
  if d.answers p v && !late then
    let d := d.askCancel p
    if (actAllowed code act || (code == 2 && act == 4)) && d.argValid p code act arg then d.decide_ p code act arg
    else (d.peEvt p (F.PRT_PE_EVT_ANSBAD p)).askDefault p code
  else d.peEvt p (F.PRT_PE_EVT_ANSLATE p)

/-- A write of PRTnn_DDT_LOAD by C0 running boot ROM code; any other sets DDTWR (R231). -/
def Dev.ddtLoad (d : Dev) (a : Agent) (p v : Nat) : Dev :=
  if d.isRom a then
    let i := bits v 32 4
    let e := bits v 0 32
    d.ddtPut p i e
  else d.peEvt p (F.PRT_PE_EVT_DDTWR p)

def execDdtLoad (a : Agent) (p : Fin 24) (v : Word) (s : State) : Host.Outcome State Fault Refusal :=
  s.okBy a (·.ddtLoad a p.val v.toNat)

end Sys2Proof.Machine
end

