-- ==== Sys2Proof/Machine/Sched.lean ====
section
/-!
DEFINITION. Sys2Proof/Machine/Sched.lean: commands and tickets (R233-R240), the engine's own exchanges with their collision
avoidance (R201-R203), and renegotiation on a Contour change (R223). An own exchange of kind k is bit k of H.want; kind 16
is the command at the head of the queue.
-/
namespace Sys2Proof.Machine

abbrev Out := Host.Outcome State Fault Refusal

/-! ### Needs (R234, R245, R278, R283, R305) -/

/-- The conditions of R214. -/
def Dev.eprCond (d : Dev) (p : Nat) : Bool :=
  d.isSnk p && d.explicit p && (d.conKind p == 2 || d.conKind p == 3) && (d.rxObj p 1).testBit 23 &&
    d.bit (F.PRT_PE_CTRL_EPREN p) && !d.bit (F.PRT_PE_STAT_VCSRC p) && !d.epr p && !d.pd2 p

/-- A PD partner is attached. -/
def Dev.pdPartner (d : Dev) (p : Nat) : Bool := d.attached p && d.get (F.PRT_PE_STAT_REV p) != 0

/-- The HPM objects and the profile in use are stored (R633). -/
def Dev.hpmStored (d : Dev) (p : Nat) : Bool :=
  modeValid (d.modeVdo p) && cableValid (d.cableVdo p) && d.profValid p (d.profile p)

/-- The role forbids a swap to the target: 1 source, 2 sink. -/
def Dev.roleForbids (d : Dev) (p target : Nat) : Bool :=
  (d.get (F.PRT_CTRL_ROLE p) == 1 && target == 2) || (d.get (F.PRT_CTRL_ROLE p) == 2 && target == 1)

/-- What a command needs, at acceptance and at its turn. -/
def Dev.cmdNeeds (d : Dev) (p code param : Nat) : Bool :=
  match code with
  | 0x01 => d.pdPartner p
  | 0x02 => d.pdPartner p
  | 0x03 => d.pdPartner p
  | 0x04 => d.pdPartner p
  | 0x05 => d.pdPartner p
  | 0x06 => d.attached p && d.pd3 p
  | 0x07 => d.attached p && d.pd3 p
  | 0x08 => d.attached p && d.pd3 p
  | 0x09 => d.attached p && d.pd3 p
  | 0x10 => d.attached p && d.explicit p && (!d.hpmCon p || d.hpmStored p)
  | 0x11 => d.eprCond p
  | 0x12 => d.attached p && d.epr p
  | 0x18 => d.attached p && d.explicit p && !d.epr p && !d.roleForbids p (param % 4) &&
      !(d.isSrc p && param % 4 == 1) && !(d.isSnk p && param % 4 == 2)
  | 0x19 => d.isSnk p && !d.bit (F.PRT_PE_STAT_VCSRC p)
  | 0x1C => d.pdPartner p
  | 0x1D => d.attached p
  | 0x20 => d.attached p && d.explicit p && (param % 4 == 0 || d.bit (F.PRT_PE_STAT_VCSRC p))
  | 0x21 => d.attached p && d.explicit p
  | 0x22 => d.attached p && d.explicit p
  | 0x28 => d.attached p && d.hpmCond15 p
  | 0x29 => d.attached p && d.bit (H.hpmOn p)
  | 0x2A => d.attached p && d.hpmCon p
  | 0x2B => d.attached p && d.bit (H.hpmOn p)
  | 0x2C => d.attached p && d.bit (H.hpmOn p)
  | _ => false

/-- Service time and horizon of a command in ms, none for a code that is not in the table (R234, R235). -/
def cmdClass (code : Nat) : Option (Nat × Nat) :=
  if 0x01 ≤ code ∧ code ≤ 0x09 then some (50, 500)
  else
    match code with
    | 0x10 => some (700, 2500)
    | 0x11 => some (1200, 3000)
    | 0x12 => some (700, 2500)
    | 0x18 => some (1600, 4000)
    | 0x19 => some (100, 1000)
    | 0x1C => some (700, 2500)
    | 0x1D => some (1800, 4000)
    | 0x20 => some (100, 1000)
    | 0x21 => some (100, 1000)
    | 0x22 => some (100, 1000)
    | 0x28 => some (800, 3000)
    | 0x29 => some (800, 3000)
    | 0x2A => some (1, 20)
    | 0x2B => some (100, 1000)
    | 0x2C => some (100, 1000)
    | _ => none

/-- The parameter and the argument are valid. -/
def Dev.cmdArgOk (d : Dev) (p code param arg : Nat) : Bool :=
  match code with
  | 0x10 =>
    if d.isSnk p && d.explicit p && arg != 0 then
      if d.hpmCon p then bits arg 23 9 == 0 && decide (bits arg 12 11 ≤ 2000) && decide (bits arg 0 12 ≤ 2400)
      else d.rdoValid p arg
    else true
  | 0x18 => decide (param < 3)
  | 0x20 => param % 4 != 3
  | 0x21 => arg / 65536 != chiSvid && param % 8 != 0
  | 0x22 => arg / 65536 != chiSvid && param % 8 != 0
  | 0x28 => decide (param < 16) && d.profValid p param
  | 0x2A => decide (param % 4096 ≤ 2400)
  | _ => true

/-- The partner's revision has the message, and the port is not in NO_PD. -/
def Dev.cmdPartnerOk (d : Dev) (p code : Nat) : Bool :=
  d.pe p != 19 && !(d.pd2 p && ((decide (3 ≤ code) && decide (code ≤ 9)) || code == 0x11 || code == 0x12))

/-- PARAM as it is stored: PR_SWAP with target 0 takes the opposite of the role at acceptance (R244). -/
def Dev.cmdParam (d : Dev) (p code param : Nat) : Nat :=
  if code = 0x18 ∧ param = 0 then (if d.isSrc p then 2 else 1) else param

/-- The service time of an own exchange, ms. -/
def ownService (k : Nat) : Nat :=
  match k with
  | 0 => 700
  | 1 => 50
  | 2 => 700
  | 7 => 800
  | 8 => 800
  | 9 => 800
  | 10 => 1200
  | _ => 100

/-- The bound of the exchange in progress: its start and the service time of its kind (R236). An own exchange has started with its
collision avoidance. -/
def Dev.exBound (d : Dev) (p : Nat) : Nat :=
  let k := d.get (H.ownWait p)
  if d.bit (H.exOn p) then d.get (H.exStart p) + msTicks (d.get (H.exS p) * d.stretch)
  else if k = 17 then
    d.get (H.ownAt p) + msTicks (((cmdClass (((d.cmds p).map (·.code)).headD 0)).getD (0, 0)).1 * d.stretch)
  else if k ≠ 0 then d.get (H.ownAt p) + msTicks (ownService (k - 1) * d.stretch)
  else 0

/-- The deadline of a command accepted now with service time s (R236). -/
def Dev.cmdDeadline (d : Dev) (p s : Nat) : Nat :=
  let last := ((d.cmds p).map (·.due)).foldl max 0
  max d.now (max last (d.exBound p)) + msTicks (s * d.stretch)

/-- RESULT of a command write (R237). -/
def Dev.cmdResult (d : Dev) (a : Agent) (p code param arg : Nat) : Nat :=
  match cmdClass code with
  | none => if d.mode = 3 ∨ d.mode = 2 ∨ d.bit H.bankReq ∨ (d.mode = 4 ∧ a.isCore) then 6 else 4
  | some (s, h) =>
    if d.mode = 3 ∨ d.mode = 2 ∨ d.bit H.bankReq ∨ (d.mode = 4 ∧ a.isCore) then 6
    else if !d.cmdArgOk p code param arg then 4
    else if !d.cmdPartnerOk p code then 5
    else if !d.cmdNeeds p code (d.cmdParam p code param) then 2
    else if queued (d.cmds p) ≥ 8 then 1
    else if d.cmdDeadline p s > d.now + msTicks (h * d.stretch) then 3
    else 0

/-- A write of PRTnn_CMD by an agent: refused, or queued with a ticket. The TAP has no latches and writes nothing. -/
def Dev.cmdQueue (d : Dev) (a : Agent) (p code param : Nat) : Dev :=
  if a = Agent.tap then d
  else
    let arg := d.get (F.PRT_CMD_ARG_ARG p a.copy)
    let r := d.cmdResult a p code param arg
    if r ≠ 0 then
      (d.puts [(F.PRT_CMD_LAST_RESULT p a.copy, r), (F.PRT_CMD_LAST_DL p a.copy, 0)]).peEvt p (F.PRT_PE_EVT_CMDREF p)
    else
      let due := d.cmdDeadline p ((cmdClass code).getD (0, 0)).1
      let t := d.get (H.ticketNext p)
      let d := d.puts [(H.ticketNext p, t + 1), (F.PRT_CMD_LAST_TICKET p a.copy, t), (F.PRT_CMD_LAST_RESULT p a.copy, 0),
        (F.PRT_CMD_LAST_DL p a.copy, min (2 ^ 20 - 1) (cdiv (due - d.now) 6400))]
      (d.setCmds p (d.cmds p ++ [⟨code, d.cmdParam p code param, arg, t, due, false, false⟩])).arm (T.cmdStart p) 0

/-! ### Own exchanges (R201, R203, R223) -/

/-- Something holds the port's line for now: an exchange, a wait before one, or capabilities due. -/
def Dev.engaged (d : Dev) (p : Nat) : Bool :=
  d.busy p || d.bit (H.ownWait p) || d.armed (T.waitCap p) || d.armed (T.sendCaps p) ||
    (d.bit (H.offerDue p) && !d.bit (H.offerOwn p)) || d.bit (H.swAcc p) || d.bit (H.hrPhase p) ||
    (d.get (F.PRT_SWAP_STAT_STEP p) == 3)

/-- The contract in force exceeds the cap, or a raised cap calls for more. -/
def Dev.renegNeeded (d : Dev) (p : Nat) : Bool :=
  d.explicit p && !d.hpmCon p &&
    (d.bit (H.renegUp p) || decide (d.conCurr p > d.capAt p (d.conVolt p) 10 16383))

/-- An own exchange of kind k is still wanted. -/
def Dev.ownValid (d : Dev) (p k : Nat) : Bool :=
  d.attached p &&
    match k with
    | 0 => d.renegNeeded p
    | 1 => d.isSnk p && d.epr p && !d.hpmCon p
    | 2 => d.isSnk p && d.conPps p && d.bit (F.PRT_CONTRACT_VALID p)
    | 3 => d.hpmCon p && d.mode != 3
    | 4 => d.explicit p && d.pd3 p
    | 5 => d.isSnk p && !d.bit (F.PRT_PE_STAT_VCSRC p) && !d.bit (H.vcsOff p)
    | 6 => d.bit (F.PRT_PE_STAT_VCSRC p) && d.bit (F.PRT_ATT_STAT_VCONNON p)
    | 7 => d.hpmCond15 p
    | 8 => d.bit (H.hpmOn p) && (d.get (F.PRT_HPM_STAT_STATE p) == 10 || d.hpmStored p)
    | 9 => d.bit (H.hpmOn p)
    | 10 => d.eprCond p
    | _ => false

/-- The Request of a Contour renegotiation as sink (R223). -/
def Dev.contourRdo (d : Dev) (p : Nat) : Nat :=
  let pos := d.get (F.PRT_CONTRACT_POS p)
  let v := d.conVolt p
  let o := d.rxObj p pos
  let lim := d.capAt p v 10 16383
  let r := d.get (H.rdo p)
  let c := if d.bit (H.renegUp p) then min (offMax2 o (rdoVolt2 o r)) (min (rdoMax o r) lim) else min (d.conCurr p) lim
  if isFixed o then d.mkRdo p pos v c false else r - bits r 0 7 + c / 5

/-- EPR_Mode Enter with the highest power of sink slots 7-10 (R214). -/
def Dev.eprEnterSend (d : Dev) (p : Nat) : Dev :=
  ((d.exBegin p true 1200).setPe p 13).txSop p 42 (eprMode 1 (min 255 (d.sinkPdp p 7 4))) 13

/-- The first message of an own exchange goes out. -/
def Dev.ownSend (d : Dev) (p k : Nat) : Dev :=
  let d := d.exBegin p true (ownService k)
  match k with
  | 0 =>
    let d := d.put (H.renegUp p) 0
    if d.isSrc p then d.arm (T.capsReady p) 0 else d.sendRequest p (d.contourRdo p)
  | 1 => d.txExt p 16 2 0 [3] 30
  | 2 => d.sendRequest p (d.rdoCapped p (d.get (H.rdo p)))
  | 3 => (d.setPe p 14).vdmBegin p 7 0
  | 4 => d.discBegin p 0 false false
  | 5 => (d.setPe p 12).txSop p 11 [] 11
  | 6 => d.discBegin p 1 false false
  | 7 => d.hpmEnterSend p
  | 8 =>
    if d.isSrc p then d.hpmOfferSend p
    else
      match d.hpmReqVdo p with
      | some r => (d.put (H.hpmWaits p) 0).hpmReqSend p r
      | none => d.hpmSeqFail p 8
  | 9 => d.hpmExitBegin p
  | 10 => d.eprEnterSend p
  | _ => d.exEnd p

/-- Count of the objects in RXCAP. -/
def Dev.rxCount (d : Dev) (p : Nat) : Nat :=
  (List.range 11).foldl (fun n i => if d.rxObj p (i + 1) = 0 then n else i + 1) 0

/-- RENEGOTIATE starts (R234, R300). -/
def Dev.renegSend (d : Dev) (p arg : Nat) : Dev :=
  if d.hpmCon p then
    if d.isSrc p then d.hpmOfferSend p
    else if arg ≠ 0 then (d.put (H.hpmWaits p) 0).hpmReqSend p arg
    else (((d.put (H.hpmWaits p) 0).put (F.PRT_HPM_STAT_STATE p) 5).setPe p 15).askPost p 8 (d.get (H.hpmV1 p)) (d.get (H.hpmV2 p))
  else if d.isSrc p then d.arm (T.capsReady p) 0
  else if arg ≠ 0 then d.sendRequest p (d.rdoCapped p arg)
  else d.selectAsk p (d.rxCount p) (d.epr p)

/-- HPM_ENTER starts: the pilot check runs if it has not passed (R283). -/
def Dev.hpmEnterCmd (d : Dev) (p profile : Nat) : Dev :=
  let d := d.puts [(H.hpmProf p, profile + 1), (H.hpmNo p, 0)]
  if d.get (H.pilot p) = 2 then d.hpmEnterSend p
  else ((d.puts [(H.hpmCmd p, 1), (H.pilot p, 0)]).setPe p 15).arm (T.hpmCond p) 0

/-- HPM_CEILING: DONE at once unless the own ceiling changes (R305). -/
def Dev.ceilCommand (d : Dev) (p code : Nat) : Dev :=
  let d := (d.put (H.ceilCmd p) code).ceilUpdate p
  if d.armed (T.ownCeil p) then d.set1 (H.ceilCmdRun p) else d.cmdEnd p 0

/-- The first message of a started command goes out, or its effect begins. -/
def Dev.cmdSend (d : Dev) (p : Nat) (c : Cmd) : Dev :=
  if c.code = 0x2A then d.ceilCommand p (c.param % 4096)
  else
    let d := d.exBegin p true ((cmdClass c.code).getD (0, 0)).1
    match c.code with
    | 0x01 => d.txSop p 7 [] 17
    | 0x02 => d.txSop p 8 [] 17
    | 0x03 => d.txSop p 17 [] 17
    | 0x04 => d.txSop p 22 [] 17
    | 0x05 => d.txSop p 18 [] 17
    | 0x06 => d.txExt p 3 1 0 [c.param % 256] 17
    | 0x07 => d.txExt p 4 1 0 [c.param % 256] 17
    | 0x08 => d.txSop p 24 [] 17
    | 0x09 => d.txSop p 38 [c.arg] 18
    | 0x10 => d.renegSend p c.arg
    | 0x11 => d.eprEnterSend p
    | 0x12 => (d.setPe p 13).txSop p 42 (eprMode 5 0) 16
    | 0x18 => d.swapSend p
    | 0x19 => (d.setPe p 12).txSop p 11 [] 11
    | 0x1C => d.softReset p
    | 0x1D => d.hardReset p
    | 0x20 => d.discBegin p (c.param % 4) (c.param.testBit 2) true
    | 0x21 => ((d.setPe p 14).put (H.vdmSvid p) (c.arg / 65536 * 65536 + c.param % 8)).vdmBegin p 9 0
    | 0x22 => ((d.setPe p 14).put (H.vdmSvid p) (c.arg / 65536 * 65536 + c.param % 8)).vdmBegin p 10 0
    | 0x28 => d.hpmEnterCmd p (c.param % 16)
    | 0x29 => d.hpmExitBegin p
    | 0x2B => ((d.setPe p 14).puts [(H.recNext p, c.param % 256), (H.recCmd p, 1)]).vdmBegin p 6 0
    | 0x2C => (d.setPe p 14).vdmBegin p 7 0
    | _ => d.exEnd p

/-- Kind k is sent: 16 for the started command. The exchange began with its collision avoidance (R236); until its first message has had
its GoodCRC it may be withdrawn (R203). -/
def Dev.kindSend (d : Dev) (p k : Nat) : Dev :=
  let on := d.bit (H.exOn p)
  let at_ := d.get (H.ownAt p)
  let d := if k = 16 then
      match d.cmds p with
      | [] => d.clr (H.cmdRun p)
      | c :: _ => d.cmdSend p c
    else d.ownSend p k
  let d := if !on && d.bit (H.exOn p) then d.put (H.exStart p) at_ else d
  if (d.txs p).isEmpty then d else d.put (H.firstKind p) (k + 1)

/-- As source, the offer of a renegotiation is asked for when SinkTxNG is presented, once (R223). -/
def Dev.ownOffer (d : Dev) (p reason : Nat) : Dev :=
  if d.bit (H.offerDue p) && d.bit (H.offerOwn p) then d else (d.offerAsk p reason (d.epr p)).set1 (H.offerOwn p)

/-- Kind k starts its collision avoidance, or goes out at once (R201, R203). A sink's waits while the line is busy. -/
def Dev.kindStart (d : Dev) (p k code : Nat) : Dev :=
  let offer := d.isSrc p && !d.hpmCon p && (k == 0 || (k == 16 && code == 0x10))
  let d := d.put (H.ownAt p) d.now
  if d.isSrc p && d.pd3 p then
    let d := ((d.setRp p true).put (H.ownWait p) (k + 1)).arm (T.sinkTx p) (msTicks 18)
    if offer then d.ownOffer p (if k = 0 then 4 else 5) else d
  else if d.isSnk p && d.pd3 p && d.lineWait p != 0 then (d.put (H.ownWait p) (k + 1)).arm (T.sinkTx p) (d.lineWait p)
  else
    let d := if offer then d.ownOffer p (if k = 0 then 4 else 5) else d
    d.kindSend p k

/-- A command is next that R201 and R203 do not hold: HARD_RESET, which is signalling and no message (DEDUCED), or HPM_CEILING, which
has no collision avoidance (R301). -/
def Dev.hardNext (d : Dev) (p : Nat) : Bool :=
  let c := ((d.cmds p).map (·.code)).headD 0
  !d.bit (H.want p) && (c == 0x1D || c == 0x2A)

/-- The first wanted kind, lowest first, but cable discovery before partner discovery (R633). -/
def Dev.firstWant (d : Dev) (p : Nat) : Option Nat :=
  [0, 1, 2, 3, 6, 4, 5, 7, 8, 9, 10, 11, 12, 13, 14, 15].find? (fun k => d.getBit (H.want p) k)

/-- Wanted kinds that no longer hold are dropped; with an HPM entry that its ask has decided, STATE goes back to off. -/
def Dev.wantPrune (d : Dev) (p : Nat) : Dev :=
  let d := if d.getBit (H.want p) 7 && !d.ownValid p 7 && d.get (F.PRT_HPM_STAT_STATE p) == 1 then d.put (F.PRT_HPM_STAT_STATE p) 0
    else d
  Dev.forN 16 (fun k e => if e.getBit (H.want p) k && !e.ownValid p k then e.putBit (H.want p) k false else e) d

/-- The head of the queue leaves it unstarted with an outcome. -/
def Dev.cmdDrop (d : Dev) (p outcome : Nat) : Dev :=
  match d.cmds p with
  | [] => d
  | c :: l => (((d.setCmds p l).puts [(H.swWaits p, 0), (H.swBack p, 0)]).cmdRecord p c outcome).arm (T.cmdStart p) 0

/-- The last tick at which a command may start: its deadline minus S (R238). -/
def Dev.lastStart (d : Dev) (c : Cmd) : Nat := c.due - msTicks (((cmdClass c.code).getD (0, 0)).1 * d.stretch)

/-- Commands of the queue that have not started: all but a started or withdrawn head, and those a served swap has taken. -/
def Dev.unstarted (d : Dev) (p : Nat) : List Cmd :=
  ((d.cmds p).drop (if d.bit (H.cmdRun p) || d.bit (H.cmdHeld p) then 1 else 0)).filter (fun c => !c.joined)

/-- Every command whose start would now come too late completes PREEMPTED (R238). -/
def Dev.cmdExpire (d : Dev) (p : Nat) : Dev :=
  let late := (d.unstarted p).filter (fun c => decide (d.lastStart c < d.now))
  if late.isEmpty then d
  else late.foldl (fun e c => e.cmdRecord p c 5) (d.setCmds p ((d.cmds p).filter (fun c => !late.contains c)))

/-- The queue is looked at again when a command that waits can no longer start (R238). -/
def Dev.preemptArm (d : Dev) (p : Nat) : Dev :=
  (d.unstarted p).foldl (fun e c =>
    if e.armed (T.cmdStart p) && decide (e.get (T.cmdStart p) ≤ e.lastStart c + 2) then e
    else e.put (T.cmdStart p) (max (e.lastStart c + 2) (e.now + 1))) d

/-- The turn of the command at the head of the queue: ABORTED, or started (R238, R240). -/
def Dev.cmdTurn (d : Dev) (p : Nat) : Dev :=
  match d.cmds p with
  | [] => d
  | c :: _ =>
    if c.joined then d
    else if !d.cmdNeeds p c.code c.param then d.cmdDrop p 6
    else
      let d := (d.set1 (H.cmdRun p)).put (T.cmdMiss p) (c.due + 1)
      let d := if c.code = 0x18 then (d.swapLatch p).put (F.PRT_SWAP_STAT_STEP p) 1 else d
      if c.code = 0x2A ∨ c.code = 0x1D then (d.put (H.ownAt p) d.now).kindSend p 16 else d.kindStart p 16 c.code

/-- EPR_OUT is posted as its conditions begin to hold (R214, R228). The EPR PDP of the source is open: no message that the
engine has read states it. -/
def Dev.eprLook (d : Dev) (p : Nat) : Dev :=
  if !d.eprCond p then d.put (H.eprArmed p) 0
  else if d.bit (H.eprArmed p) then d
  else
    let r := d.fresh 8
    (r.2.set1 (H.eprArmed p)).askPost p 4 r.1 0

/-- The next own exchange or command starts, when none is in progress; SinkTxOK returns where none waits (R201). -/
def Dev.startOne (d : Dev) (p : Nat) : Dev :=
  let d := if d.bit (H.hpmPend p) then d.arm (T.hpmCond p) 0 else d
  let d := d.eprLook p
  if d.askOut p || d.bit (H.exOn p) then d
  else
    let d := d.wantPrune p
    if !d.pendingOwn p && !d.bit (H.cmdRun p) then d.setRp p false
    else if d.bit (H.ceilCmdRun p) && !d.bit (H.want p) then d
    else if d.bit (H.cmdRun p) && d.swapTooLate p then d.swapQuit p 5 4
    else if !d.permitted p && !d.hardNext p then d
    else
      match d.firstWant p with
      | some k => (d.putBit (H.want p) k false).kindStart p k 0
      | none =>
        let d := d.cmdUnheld p
        if d.bit (H.cmdRun p) then (if d.bit (H.ceilCmdRun p) then d else d.kindStart p 16 0) else d.cmdTurn p

/-- The scheduler looks: commands that come too late are PREEMPTED; a repeat held by R203 goes out; then the next exchange starts, once
the GoodCRC to the last message has gone out (R202). -/
def Dev.startNext (d : Dev) (p : Nat) : Dev :=
  let d := (d.stop (T.cmdStart p)).cmdExpire p
  let d := if !d.attached p || d.mode == 2 then d
    else if d.bit (H.reqHeld p) then d.requestAgain p
    else if d.engaged p || d.pe p == 17 || d.pe p == 18 then d
    else if d.now < d.get (H.gcTo p) then d.arm (T.cmdStart p) (d.get (H.gcTo p) - d.now)
    else d.startOne p
  d.preemptArm p

def execCmdStart (p : Fin 24) (s : State) : Out := s.okAt p.val (·.startNext p.val)

/-- tSinkTx ends: the first message goes out. -/
def Dev.sinkTxEnd (d : Dev) (p : Nat) : Dev :=
  let k := d.get (H.ownWait p)
  let d := d.put (H.ownWait p) 0
  if k = 0 then d else d.kindSend p (k - 1)

def execTsinktxExpiry (p : Fin 24) (s : State) : Out := s.okAt p.val (fun d => d.onExpiry (T.sinkTx p.val) (·.sinkTxEnd p.val))

/-! ### One meaning for each command of R234 -/

/-- A write of PRTnn_CMD: an accepted command starts at once where R238 lets it. -/
def Dev.cmdWrite (d : Dev) (a : Agent) (p code param : Nat) : Dev :=
  let e := d.cmdQueue a p code param
  if (d.cmds p).length < (e.cmds p).length then e.startNext p else e

/-- A write of a code by an agent; a detach of the same tick comes first (R237). -/
def cmdOp (code : Nat) (a : Agent) (p : Fin 24) (param : BitVec 16) (s : State) : Out :=
  (s.detachFirst p.val).okBy a (·.cmdWrite a p.val code param.toNat)

def execGetSrcCap (a : Agent) (p : Fin 24) (param : BitVec 16) (s : State) : Out := cmdOp 0x01 a p param s
def execGetSnkCap (a : Agent) (p : Fin 24) (param : BitVec 16) (s : State) : Out := cmdOp 0x02 a p param s
def execGetSrcCapExt (a : Agent) (p : Fin 24) (param : BitVec 16) (s : State) : Out := cmdOp 0x03 a p param s
def execGetSnkCapExt (a : Agent) (p : Fin 24) (param : BitVec 16) (s : State) : Out := cmdOp 0x04 a p param s
def execGetStatus (a : Agent) (p : Fin 24) (param : BitVec 16) (s : State) : Out := cmdOp 0x05 a p param s
def execGetBattCap (a : Agent) (p : Fin 24) (param : BitVec 16) (s : State) : Out := cmdOp 0x06 a p param s
def execGetBattStatus (a : Agent) (p : Fin 24) (param : BitVec 16) (s : State) : Out := cmdOp 0x07 a p param s
def execGetRevision (a : Agent) (p : Fin 24) (param : BitVec 16) (s : State) : Out := cmdOp 0x08 a p param s
def execSendAlert (a : Agent) (p : Fin 24) (param : BitVec 16) (s : State) : Out := cmdOp 0x09 a p param s
def execRenegotiate (a : Agent) (p : Fin 24) (param : BitVec 16) (s : State) : Out := cmdOp 0x10 a p param s
def execEprEnter (a : Agent) (p : Fin 24) (param : BitVec 16) (s : State) : Out := cmdOp 0x11 a p param s
def execEprExit (a : Agent) (p : Fin 24) (param : BitVec 16) (s : State) : Out := cmdOp 0x12 a p param s
def execPrSwap (a : Agent) (p : Fin 24) (param : BitVec 16) (s : State) : Out := cmdOp 0x18 a p param s
def execVconnSwap (a : Agent) (p : Fin 24) (param : BitVec 16) (s : State) : Out := cmdOp 0x19 a p param s
def execSoftReset (a : Agent) (p : Fin 24) (param : BitVec 16) (s : State) : Out := cmdOp 0x1C a p param s
def execHardReset (a : Agent) (p : Fin 24) (param : BitVec 16) (s : State) : Out := cmdOp 0x1D a p param s
def execDiscover (a : Agent) (p : Fin 24) (param : BitVec 16) (s : State) : Out := cmdOp 0x20 a p param s
def execEnterMode (a : Agent) (p : Fin 24) (param : BitVec 16) (s : State) : Out := cmdOp 0x21 a p param s
def execExitMode (a : Agent) (p : Fin 24) (param : BitVec 16) (s : State) : Out := cmdOp 0x22 a p param s
def execHpmEnter (a : Agent) (p : Fin 24) (param : BitVec 16) (s : State) : Out := cmdOp 0x28 a p param s
def execHpmExit (a : Agent) (p : Fin 24) (param : BitVec 16) (s : State) : Out := cmdOp 0x29 a p param s
def execHpmCeiling (a : Agent) (p : Fin 24) (param : BitVec 16) (s : State) : Out := cmdOp 0x2A a p param s
def execHpmRecord (a : Agent) (p : Fin 24) (param : BitVec 16) (s : State) : Out := cmdOp 0x2B a p param s
def execHpmTelemetry (a : Agent) (p : Fin 24) (param : BitVec 16) (s : State) : Out := cmdOp 0x2C a p param s

/-- Any code: one that is not in the table is refused with ARG. -/
def execCmdUnknownCode (a : Agent) (p : Fin 24) (code : BitVec 6) (param : BitVec 16) (s : State) : Out :=
  cmdOp code.toNat a p param s

/-- The ticket deadline of the started command (R240). -/
def Dev.cmdMissed (d : Dev) (p : Nat) : Dev :=
  match d.cmds p with
  | [] => d
  | c :: l => if d.bit (H.cmdRun p) || d.bit (H.cmdHeld p) then (d.setCmds p ({ c with late := true } :: l)).dlMiss 1 p else d

def execCmdDeadlineMiss (p : Fin 24) (s : State) : Out := s.okAt p.val (fun d => d.onExpiry (T.cmdMiss p.val) (·.cmdMissed p.val))

/-- A renegotiation request of Contour (R223): started now, or counted as started by the exchange in progress, after which
it follows where the contract still exceeds the cap. A start later than 2 ms, with STRETCH, is a miss of kind 3 (R26, R364). -/
def Dev.contourReneg (d : Dev) (p : Nat) : Dev :=
  let d := d.stop (T.reneg p)
  if d.bit (H.reneg p) then
    let late := decide (d.now > d.get (H.renegTin p) + msTicks (2 * d.stretch))
    let d := d.clr (H.reneg p)
    let d := if d.engaged p then d.put (H.renegUp p) 0 else d
    let d := d.wantOwn p 0
    if late then (d.budEvt F.BUD_EVT_LATE).dlMiss 3 0 else d
  else d

def execContourRenegotiation (p : Fin 24) (s : State) : Out := s.okAt p.val (·.contourReneg p.val)

end Sys2Proof.Machine
end

