-- ==== Sys2Proof/Machine/TwoWire.lean ====
section
/-!
DEFINITION. Sys2Proof/Machine/TwoWire.lean: the two-wire blocks TW0-TW3 (R492-R522). The commands tell what a block has accepted
from its lines. Word transfers of the host window stand in Machine/HostBus.lean.
-/
namespace Sys2Proof.Machine

/-- A command of a two-wire bus: nothing while an L2 or L3 holds the blocks in reset (R497, R522). -/
def State.okUp (s : State) (f : Dev → Dev) : Out := s.ok (fun d => if 2 ≤ d.get H.rstHeld then d else f d)

/-! ### Lines and timing (R494, R495) -/

/-- The accepted level of a line after its samples, newest first: it changes once the newest FILTN agree. -/
def lineAccepted (filtn : Nat) (old : Bool) (samples : List Bool) : Bool :=
  match samples with
  | [] => old
  | x :: _ => if filtn ≤ samples.length ∧ (samples.take filtn).all (· == x) then x else old

/-- The tick counts of a MODE. -/
structure TwTiming where
  low   : Nat
  high  : Nat
  hdSta : Nat
  suSta : Nat
  suSto : Nat
  buf   : Nat
  out   : Nat
  deriving DecidableEq, Repr

def twTiming (mode : Nat) : TwTiming :=
  if mode = 0 then ⟨320, 320, 320, 320, 320, 320, 20⟩
  else if mode = 1 then ⟨96, 64, 48, 48, 48, 96, 20⟩
  else ⟨40, 24, 20, 20, 20, 40, 8⟩

/-- The timing of block n in force. -/
def Dev.twTime (d : Dev) (n : Nat) : TwTiming := twTiming (d.get (H.twCfg n) % 4)

/-- Least ticks of k recovery pulses (R514). -/
def Dev.pulseTicks (d : Dev) (n k : Nat) : Nat := k * ((d.twTime n).low + (d.twTime n).high)

/-! ### Requests -/

/-- Quads of local bus n: 2(n − 1) and 2(n − 1) + 1 (R13). -/
def busQuads (n : Nat) : List Nat := if n = 0 then [] else [2 * (n - 1), 2 * (n - 1) + 1]
/-- The local bus of a quad. -/
def quadBus (q : Nat) : Nat := q / 2 + 1

/-- STATE of a host call that waits or runs. -/
def Dev.callOpen (d : Dev) : Bool := d.get F.HOST_CALL_STATE == 1 || d.get F.HOST_CALL_STATE == 2

/-- A controller request of block n waits or is in progress. -/
def Dev.twBusy (d : Dev) (n : Nat) : Bool :=
  d.bit (H.twMcmd n) || d.bit (H.twOp n) || (n == 0 && d.callOpen) || (busQuads n).any (fun q => d.bit (H.gzScan q))

/-- BUSY follows the requests, and the next of them is looked at. -/
def Dev.twUpdate (d : Dev) (n : Nat) : Dev := (d.put (F.TW_STAT_BUSY n) (b2n (d.twBusy n))).arm (T.twStart n) 0

/-- A record read of quad q is wanted: one scan runs, and one further scan may wait (R525, R526). No scan starts in
Banked. -/
def Dev.scanReq (d : Dev) (q : Nat) : Dev :=
  let d := (d.set1 (F.SYS_GZQ_STAT_SCAN q)).stop (T.gzProbe q)
  if d.bit (H.gzScan q) then d.set1 (H.gzAgain q)
  else (d.puts [(H.gzScan q, 1), (H.gzTry q, 0)]).twUpdate (quadBus q)

/-- The scans of a bus may start: those of the buses before it have ended, or run beside it, or it has begun already (R39, R524,
R526). -/
def Dev.scanAllowed (d : Dev) (n : Nat) : Bool :=
  d.mode != 3 &&
    (!d.bit H.kindleStart || d.bit F.SYS_MODE_KNOBS_SCANPAR || d.bit (H.gzBegan n) ||
      (List.range n).all (fun m => (busQuads m).all (fun q => d.bit (F.SYS_GZQ_STAT_DONE q))))

/-- The quad whose read is next on a bus. -/
def Dev.scanNext (d : Dev) (n : Nat) : Option Nat :=
  if d.scanAllowed n then (busQuads n).find? (fun q => d.get (H.gzScan q) == 1 && !d.armed (T.gzRetry q)) else none

/-! ### Configuration (R522) -/

/-- MODE, FILTN, OWNADDR and OWNEN written take effect on a free bus. -/
def Dev.twApply (d : Dev) (n : Nat) : Dev :=
  d.put (H.twCfg n) (d.get (F.TW_CTRL_OWNEN n) * 2 ^ 14 + d.get (F.TW_CTRL_OWNADDR n) * 2 ^ 7 +
    d.get (F.TW_CTRL_FILTN n) * 4 + d.get (F.TW_CTRL_MODE n))

def Dev.twOwnEn (d : Dev) (n : Nat) : Bool := (d.get (H.twCfg n)).testBit 14
def Dev.twOwnAddr (d : Dev) (n : Nat) : Nat := bits (d.get (H.twCfg n)) 7 7

/-- A write of TWn_TOUT: ignored as a whole with BRSTW 0. -/
def Dev.twToutWrite (d : Dev) (n v : Nat) : Dev :=
  if bits v 16 8 = 0 then d
  else d.puts [(F.TW_TOUT_BRSTW n, bits v 16 8), (F.TW_TOUT_SDATO n, bits v 8 8), (F.TW_TOUT_SCLTO n, bits v 0 8)]

/-! ### The end of a controller transfer -/

/-- A TWn_MCMD transfer ends: RESULT and NBYTE in the writer's latch, MDONE; NACK for outcomes 3 and 4. -/
def Dev.mcmdEnd (d : Dev) (n result nbyte : Nat) : Dev :=
  let w := d.get (H.twWho n)
  let d := (d.puts [(F.TW_MRES_RESULT n w, result), (F.TW_MRES_NBYTE n w, nbyte), (H.twMcmd n, 0)]).twEvt n (F.TW_EVT_MDONE n)
  if result = 3 ∨ result = 4 then d.twEvt n (F.TW_EVT_NACK n) else d

/-- A host call ends in a STATE (R520). -/
def Dev.callEnd (d : Dev) (st : Nat) : Dev :=
  let d := (d.put F.HOST_CALL_STATE st).twEvt 0 (F.TW_EVT_CALLDONE 0)
  if st = 4 then d.twEvt 0 (F.TW_EVT_NACK 0) else d

/-- A failed record read (R525, R528): LAST, and up to two further reads, each 10 ms later; then the scan ends. -/
def Dev.scanOver (d : Dev) (q : Nat) : Dev :=
  let d := d.puts [(H.gzScan q, 0), (H.gzTry q, 0), (F.SYS_GZQ_STAT_DONE q, 1), (F.SYS_GZQ_STAT_SCAN q, 0)]
  let d := if d.bit (H.gzAgain q) then (d.clr (H.gzAgain q)).scanReq q
    else if !d.bit (F.SYS_GZQ_STAT_BOUND q) || d.bit (F.SYS_GZQ_STAT_STALE q) then d.arm (T.gzProbe q) 64000000
    else d
  -- the buses after this one may have waited for its scans
  ((d.twUpdate (quadBus q)).twUpdate 2).twUpdate 3

/-- A Resuming port whose scan ends missing or corrupt is soft-stopped and held Disabled (R533). -/
def Dev.resumeLost (d : Dev) (p : Nat) : Dev := if d.att p = 10 then d.disable p 1 24 else d

/-- A scan ends missing or corrupt: FAIL, STALE on a bound record (R531, R533). -/
def Dev.scanFailed (d : Dev) (q : Nat) : Dev :=
  let d := d.hwBit F.SYS_GZ_EVT_FAIL q
  let d := if d.bit (F.SYS_GZQ_STAT_BOUND q) then d.puts [(F.SYS_GZQ_STAT_STALE q, 1), (H.gzValid q, 0)] else d
  (Dev.forN 4 (fun k e => e.resumeLost (4 * q + k)) d).scanOver q

def Dev.readFailed (d : Dev) (q last : Nat) : Dev :=
  let d := d.put (F.SYS_GZQ_STAT_LAST q) last
  if d.get (H.gzTry q) < 2 then ((d.inc (H.gzTry q)).put (H.gzScan q) 1).arm (T.gzRetry q) (msTicks 10)
  else d.scanFailed q

/-- The quad whose read is on a bus. -/
def Dev.scanRunning (d : Dev) (n : Nat) : Option Nat := (busQuads n).find? (fun q => d.get (H.gzScan q) == 2)

/-- A TWn_MCMD transfer is cut off. How many data bytes had moved no command tells: NBYTE is an open value (DESIGN CHOICE, log entry
138). -/
def Dev.mcmdCut (d : Dev) (n result : Nat) : Dev :=
  let k := d.get (H.twLen n) / 16 + d.get (H.twLen n) % 16
  if k = 0 then d.mcmdEnd n result 0
  else
    let r := d.fresh 4
    r.2.mcmdEnd n result (r.1 % (k + 1))

/-- A transfer ends with an outcome that no rule retries: 5 ARBX, 6 BUSERR, 7 TIMEOUT. A record read that a recovery
interrupts is wanted again (R525); another cut read counts as failed with LAST 4 (DESIGN CHOICE, log entry 138). -/
def Dev.twAbort (d : Dev) (n result : Nat) (again : Bool) : Dev :=
  let op := d.get (H.twOp n)
  let d := d.puts [(H.twOp n, 0), (H.twArb n, 0), (F.TW_STAT_ROLE n, 0)]
  let d := if op = 1 then
      match d.scanRunning n with
      | some q => if again then d.put (H.gzScan q) 1 else d.readFailed q 4
      | none => d
    else if op = 2 then d.mcmdCut n result
    else if op = 3 then d.callEnd (if result = 5 then 5 else 6)
    else d
  d.twUpdate n

/-! ### TWn_MCMD, host calls (R505, R519) -/

/-- Addresses that R493 reserves. -/
def twReserved (a : Nat) : Bool := a == 0 || decide (0x78 ≤ a)

/-- A write of TWn_MCMD by a core or the host; a TAP write does nothing. -/
def Dev.mcmdWrite (d : Dev) (n : Nat) (a : Agent) (v : Nat) : Dev :=
  if a = Agent.tap then d
  else
    let rx := bits v 20 4
    let tx := bits v 16 4
    let ad := bits v 0 7
    let refuse (r : Nat) := d.puts [(F.TW_MRES_RESULT n a.copy, r), (F.TW_MRES_NBYTE n a.copy, 0)]
    if rx > 8 ∨ tx > 8 ∨ twReserved ad = true ∨ (d.twOwnEn n = true ∧ ad = d.twOwnAddr n) then refuse 9
    else if d.bit (H.twMcmd n) then refuse 10
    else if d.bit (F.TW_STAT_STUCK n) then refuse 11
    else (d.puts [(F.TW_MRES_RESULT n a.copy, 1), (F.TW_MRES_NBYTE n a.copy, 0), (H.twMcmd n, 1), (H.twWho n, a.copy),
      (H.twLen n, rx * 16 + tx), (H.twAddr n, ad),
      (H.twTx n, d.get (F.TW_MDAT0_DATA n a.copy) * 2 ^ 32 + d.get (F.TW_MDAT1_DATA n a.copy))]).twUpdate n

def execTwMcmd (n : Fin 4) (a : Agent) (v : Word) (s : State) : Out := s.okBy a (·.mcmdWrite n.val a v.toNat)

/-- A write of HOST_CALL: from a core only; GO starts a call unless one is open. -/
def Dev.hostCallWrite (d : Dev) (a : Agent) (v : Nat) : Dev :=
  if a.isCore then
    let d := d.puts [(F.HOST_CALL_CODE, bits v 12 8), (F.HOST_CALL_HADDR, bits v 0 7)]
    if v.testBit 7 && !d.callOpen then (d.put F.HOST_CALL_STATE 1).twUpdate 0 else d
  else d

def execHostCall (a : Agent) (v : Word) (s : State) : Out := s.okBy a (·.hostCallWrite a v.toNat)

/-- The bytes that the controller transfer of block n sends, addresses with their read bit among them (R505, R519, R524). -/
def Dev.twSends (d : Dev) (n : Nat) : List Nat :=
  let op := d.get (H.twOp n)
  if op = 1 then
    match d.scanRunning n with
    | some q => let a := 0x50 + q % 2; [2 * a, 0, 0, 2 * a + 1]
    | none => []
  else if op = 2 then
    let tx := d.get (H.twLen n) % 16
    let rx := d.get (H.twLen n) / 16
    let a := d.get (H.twAddr n)
    (if tx = 0 ∧ rx ≠ 0 then [] else 2 * a :: (beBytes 8 (d.get (H.twTx n))).take tx) ++ (if rx = 0 then [] else [2 * a + 1])
  else if op = 3 then [2 * d.get F.HOST_CALL_HADDR, 2 * d.twOwnAddr 0, d.get F.HOST_CALL_CODE]
  else []

/-! ### Start and end of transfers (R504, R506) -/

/-- A request begins on a free bus: a scan, a TWn_MCMD transfer, a host call. -/
def Dev.twBegin (d : Dev) (n : Nat) : Dev :=
  let d := d.stop (T.twStart n)
  if !d.bit (F.TW_STAT_FREE n) || d.get (F.TW_STAT_ROLE n) != 0 || d.bit (F.TW_STAT_RECOV n) ||
      d.bit (F.TW_STAT_STUCK n) then d
  else
    let d := if d.bit (H.twArb n) then d else d.put (H.twArbMax n) (d.get (F.TW_CTRL_ARBMAX n))
    let go op := d.puts [(H.twOp n, op), (F.TW_STAT_ROLE n, 1), (F.TW_STAT_FREE n, 0)]
    match d.scanNext n with
    | some q => (go 1).puts [(H.gzScan q, 2), (H.gzBegan n, d.get H.kindleStart)]
    | none =>
      if d.bit (H.twMcmd n) then go 2
      else if n = 0 ∧ d.get F.HOST_CALL_STATE = 1 then (go 3).put F.HOST_CALL_STATE 2
      else d

def execTwControllerStart (n : Fin 4) (s : State) : Out := s.okUp (·.twBegin n.val)

/-- A TWn_MCMD transfer or a host call ends: outcome 0 DONE, 1 NACKA, 2 NACKD, the data bytes moved, and the bytes
received, byte 0 in bits [63:56]. A record read ends by GZ_READ_END. -/
def Dev.twEnd (d : Dev) (n outcome nbyte rx : Nat) : Dev :=
  let op := d.get (H.twOp n)
  if op = 2 then
    let w := d.get (H.twWho n)
    let len := d.get (H.twLen n) / 16
    let keep := rx / 256 ^ (8 - len) * 256 ^ (8 - len)
    let d := if outcome = 0 ∧ 0 < len then
        (d.hwPut (F.TW_MDAT0_DATA n w) (keep / 2 ^ 32)).hwPut (F.TW_MDAT1_DATA n w) (keep % 2 ^ 32) else d
    let k := len + d.get (H.twLen n) % 16
    let nbyte := if outcome = 0 then k else min nbyte k
    ((d.puts [(H.twOp n, 0), (H.twArb n, 0), (F.TW_STAT_ROLE n, 0)]).mcmdEnd n (outcome + 2) nbyte).twUpdate n
  else if op = 3 then
    ((d.puts [(H.twOp n, 0), (H.twArb n, 0), (F.TW_STAT_ROLE n, 0)]).callEnd (if outcome = 0 then 3 else 4)).twUpdate n
  else d

def execTwTransferEnd (n : Fin 4) (outcome : Fin 3) (nbyte : BitVec 4) (rx : BitVec 64) (s : State) : Out :=
  s.okUp (·.twEnd n.val outcome.val nbyte.toNat rx.toNat)

/-- Arbitration is lost: within the address byte of the own address the block becomes target (R507-R509). -/
def Dev.twLost (d : Dev) (n : Nat) (own : Bool) : Dev :=
  if d.get (H.twOp n) = 0 then d
  else
    let d := ((d.inc (F.TW_CNT_ARBCNT n)).inc (H.twArb n)).twEvt n (F.TW_EVT_ARBLOST n)
    let d := if d.get (H.twArb n) > d.get (H.twArbMax n) then d.twAbort n 5 false
      else
        let d := if d.get (H.twOp n) = 3 then d.put F.HOST_CALL_STATE 1 else d
        let d := match d.scanRunning n with
          | some q => d.put (H.gzScan q) 1
          | none => d
        (d.puts [(H.twOp n, 0), (F.TW_STAT_ROLE n, 0)]).twUpdate n
    if own && d.twOwnEn n then (d.put (F.TW_STAT_ROLE n) 2).twEvt n (F.TW_EVT_ROLESW n) else d

def execArbLost (n : Fin 4) (own : Bool) (s : State) : Out := s.okUp (·.twLost n.val own)

/-! ### Misplaced conditions and timeouts (R510-R514) -/

/-- TWn_ERR and TWn_ERRTB (R512). -/
def Dev.twErr (d : Dev) (n kind bit byte addr : Nat) : Dev :=
  let r := d.get (F.TW_STAT_ROLE n)
  d.puts [(F.TW_ERR_KIND n, kind), (F.TW_ERR_ROLE n, if r = 3 then 0 else r), (F.TW_ERR_BIT n, bit), (F.TW_ERR_BYTE n, byte),
    (F.TW_ERR_ADDR n, addr), (F.TW_ERRTB_TB n, d.tb)]

/-- A START in an ACK slot, or a START or STOP during a bit, as controller. -/
def Dev.twBusError (d : Dev) (n : Nat) (ack : Bool) (bit byte addr : Nat) : Dev :=
  if d.get (H.twOp n) = 0 then d
  else (((d.twErr n (if ack then 1 else 2) bit byte addr).inc (F.TW_CNT_ERRCNT n)).twEvt n (F.TW_EVT_BUSERR n)).twAbort n 6 false

def execTwBusError (n : Fin 4) (ack : Bool) (bit : Fin 9) (byte addr : BitVec 7) (s : State) : Out :=
  s.okUp (·.twBusError n.val ack bit.val byte.toNat addr.toNat)

/-- TW0: a word ends incomplete (R502). A read word's pointer step is taken back: it advances when the word is latched. -/
def Dev.tw0Partial (d : Dev) (read : Bool) : Dev :=
  (if read then d.put (F.TW_STAT_PTR 0) (d.get (F.TW_STAT_PTR 0) + 255) else d).twEvt 0 (F.TW_EVT_PARTIAL 0)

/-- TW1-TW3: the bytes of a target write (R518), byte 0 in bits [63:56]. -/
def Dev.twSrx (d : Dev) (n count data : Nat) : Dev :=
  if n = 0 ∨ count = 0 ∨ !d.twOwnEn n then d
  else
    let keep := data / 256 ^ (8 - min 8 count) * 256 ^ (8 - min 8 count)
    let d := if d.bit (F.TW_EVT_SRX n) then d.twEvt n (F.TW_EVT_SRXOVR n) else d
    (d.puts [(F.TW_SRX0_DATA n, keep / 2 ^ 32), (F.TW_SRX1_DATA n, keep % 2 ^ 32), (F.TW_STAT_SRXN n, min 8 count)]).twEvt n
      (F.TW_EVT_SRX n)

/-- A START or STOP inside a byte of a target transfer: inside a word of TW0 (`read` of one), or after `count` bytes. -/
def Dev.twMisplaced (d : Dev) (n : Nat) (inWord read : Bool) (bit byte addr count data : Nat) : Dev :=
  let d := d.put (F.TW_STAT_ROLE n) 2
  let d := d.twErr n 3 bit byte addr
  let d := if n = 0 then (if inWord then d.tw0Partial read else d) else d.twSrx n count data
  (d.put (F.TW_STAT_ROLE n) 0).twUpdate n

def Dev.twTargetEnd (d : Dev) (n count data : Nat) : Dev :=
  ((d.twSrx n count data).put (F.TW_STAT_ROLE n) 0).twUpdate n

/-- The bus counts as free (R496): the configuration takes effect, and the next request may start. -/
def Dev.busNowFree (d : Dev) (n : Nat) : Dev :=
  let d := d.puts [(F.TW_STAT_FREE n, 1), (F.TW_STAT_SCL n, 1), (F.TW_STAT_SDA n, 1), (F.TW_STAT_ROLE n, 0)]
  (d.twApply n).twUpdate n

/-- After BRSTn pulses the bus is free: both quads are scanned again (R515, R526). -/
def Dev.brstFree (d : Dev) (n : Nat) : Dev :=
  (busQuads n).foldl (fun e q => e.scanReq q) ((d.puts [(H.twPulse n, 0), (T.twRetry n, 0)]).busNowFree n)

/-- The bus becomes free, unless the block is controller on it or recovers it; between two BRSTn pulses this ends their series. -/
def Dev.twFree (d : Dev) (n : Nat) : Dev :=
  if d.get (F.TW_STAT_ROLE n) = 1 ∨ d.bit (F.TW_STAT_RECOV n) then d
  else if d.armed (T.twRetry n) then d.brstFree n else d.busNowFree n

/-- A write of TWn_CTRL without its RECOVER bit: ignored as a whole with FILTN or MODE out of range. -/
def Dev.twCtrlFields (d : Dev) (n v : Nat) : Dev :=
  let d := d.puts [(F.TW_CTRL_ARBMAX n, bits v 20 4), (F.TW_CTRL_FILTN n, bits v 6 5), (F.TW_CTRL_MODE n, bits v 2 2)]
  let d := if n = 0 then d else d.puts [(F.TW_CTRL_OWNADDR n, bits v 12 7), (F.TW_CTRL_OWNEN n, bits v 11 1)]
  if d.bit (F.TW_STAT_FREE n) then d.twApply n else d
def twCtrlOk (v : Nat) : Bool := bits v 6 5 != 0 && bits v 2 2 != 3 && !(bits v 2 2 == 2 && decide (bits v 6 5 > 8))

/-! ### Recovery (R513-R516) -/

/-- A BRSTn pulse begins; TW0 has none and is stuck. -/
def Dev.brstBegin (d : Dev) (n : Nat) : Dev :=
  if n = 0 then (d.puts [(F.TW_STAT_STUCK 0, 1), (F.TW_STAT_RECOV 0, 0), (F.TW_STAT_ROLE 0, 0)]).twUpdate 0
  else (d.inc (H.twPulse n)).puts [(H.twBrst n, 1), (F.TW_STAT_RECOV n, 1), (F.TW_STAT_ROLE n, 3), (H.twBrstAt n, d.now),
    (H.twBrstW n, d.get (F.TW_TOUT_BRSTW n))]

/-- A nine-pulse recovery begins; a transfer in progress ends with RECOV, and the whole sequence starts anew. -/
def Dev.nineBegin (d : Dev) (n : Nat) : Dev :=
  let d := d.twAbort n 8 true
  d.puts [(H.twNine n, 1), (H.twNineAt n, d.now), (F.TW_STAT_RECOV n, 1), (F.TW_STAT_ROLE n, 3), (F.TW_STAT_FREE n, 0), (H.twPulse n, 0),
    (T.twRetry n, 0)]

/-- The block is controller, target or waiting for a free bus (R513). -/
def Dev.twEngaged (d : Dev) (n : Nat) : Bool := d.bit (F.TW_STAT_ROLE n) || d.twBusy n || !d.bit (F.TW_STAT_FREE n)

/-- A timeout ends a target transfer: a word of TW0 stays incomplete (R502); TW1-TW3 keep the bytes received, whose values no command
tells (R511, R518; DESIGN CHOICE, log entry 138). -/
def Dev.targetCut (d : Dev) (n : Nat) (inWord read : Bool) (byte : Nat) : Dev :=
  if d.get (F.TW_STAT_ROLE n) ≠ 2 then d
  else if n = 0 then (if inWord then d.tw0Partial read else d)
  else
    let r := d.fresh 64
    if byte ≤ 1 then d else r.2.twSrx n (byte - 1) r.1

/-- SCL low for SCLTO ms; `self` where the block itself holds it; `inWord` and `read` as for a TW0 target transfer. -/
def Dev.sclTimeout (d : Dev) (n : Nat) (self inWord read : Bool) (bit byte addr : Nat) : Dev :=
  if d.get (F.TW_TOUT_SCLTO n) = 0 ∨ d.bit (F.TW_STAT_RECOV n) ∨ d.bit (F.TW_STAT_STUCK n) ∨ !d.twEngaged n then d
  else
    let d := d.twErr n 4 bit byte addr
    let d := d.targetCut n inWord read byte
    let d := ((d.puts [(F.TW_STAT_SCL n, 0), (F.TW_STAT_FREE n, 0)]).twEvt n (F.TW_EVT_SCLTO n)).twAbort n 7 true
    if self then d else (d.put (H.twPulse n) 0).brstBegin n

/-- SDA low for SDATO ms with SCL high. -/
def Dev.sdaTimeout (d : Dev) (n : Nat) (inWord read : Bool) (bit byte addr : Nat) : Dev :=
  if d.get (F.TW_TOUT_SDATO n) = 0 ∨ d.bit (F.TW_STAT_RECOV n) ∨ d.bit (F.TW_STAT_STUCK n) then d
  else
    let d := d.twErr n 5 bit byte addr
    let d := d.targetCut n inWord read byte
    ((d.puts [(F.TW_STAT_SDA n, 0), (F.TW_STAT_SCL n, 1)]).twEvt n (F.TW_EVT_SDATO n)).nineBegin n

/-- The nine-pulse recovery ends: with SDA freed after one pulse at the earliest, without it after the ninth. -/
def Dev.nineEnd (d : Dev) (n : Nat) (freed : Bool) : Dev :=
  if d.bit (H.twNine n) && decide (d.get (H.twNineAt n) + d.pulseTicks n (if freed then 1 else 9) ≤ d.now) then
    let d := d.clr (H.twNine n)
    if freed then
      (((d.inc (F.TW_CNT_RECCNT n)).puts [(F.TW_STAT_RECOV n, 0), (F.TW_STAT_ROLE n, 0), (F.TW_STAT_SDA n, 1)]).twEvt n
        (F.TW_EVT_RECOVER n)).twUpdate n
    else d.brstBegin n
  else d

def execNinePulseRecoveryEnd (n : Fin 4) (freed : Bool) (s : State) : Out := s.okUp (·.nineEnd n.val freed)

/-- A BRSTn pulse and its 5 ms have ended, and the bus has been looked at: free after both lines were high for 100 µs, or a further
pulse 1 s after the start of this one, or STUCK. -/
def Dev.brstEnd (d : Dev) (n : Nat) (free : Bool) : Dev :=
  if d.bit (H.twBrst n) &&
      decide (d.get (H.twBrstAt n) + msTicks (d.get (H.twBrstW n) + 5) + (if free then usTicks 100 else 0) ≤ d.now) then
    let d := (d.puts [(H.twBrst n, 0), (F.TW_STAT_RECOV n, 0), (F.TW_STAT_ROLE n, 0)]).twEvt n (F.TW_EVT_BRST n)
    if free then d.brstFree n
    else if d.get (H.twPulse n) < 3 then d.put (T.twRetry n) (max (d.now + 1) (d.get (H.twBrstAt n) + 64000001))
    else ((d.puts [(F.TW_STAT_STUCK n, 1), (H.twPulse n, 0)]).twErr n 6 0 0 0).twUpdate n
  else d

def execBrstPulseEnd (n : Fin 4) (free : Bool) (s : State) : Out := s.okUp (·.brstEnd n.val free)

def execBrstRetryExpiry (n : Fin 4) (s : State) : Out :=
  s.okUp (fun d => d.onExpiry (T.twRetry n.val) (·.brstBegin n.val))

/-- A write of TWn_CTRL: with RECOVER = 1, STUCK clears and a recovery starts, unless one is in progress (R516). -/
def Dev.twCtrlWrite (d : Dev) (n v : Nat) : Dev :=
  if twCtrlOk v then
    let d := d.twCtrlFields n v
    if v.testBit 24 && !d.bit (F.TW_STAT_RECOV n) then (d.clr (F.TW_STAT_STUCK n)).nineBegin n else d
  else d

def execTwRecover (n : Fin 4) (v : Word) (s : State) : Out := s.ok (·.twCtrlWrite n.val v.toNat)

/-- TW0 serves a transfer of the host as target; its bus is busy (R496). An access over TW0 wakes from Banked (R503). -/
def Dev.tw0Serves (d : Dev) : Dev := (d.puts [(F.TW_STAT_ROLE 0, 2), (F.TW_STAT_FREE 0, 0)]).touch .tw0

/-- The pointer of the host window (R498). -/
def Dev.tw0Pointer (d : Dev) (v : Nat) : Dev := d.tw0Serves.put (F.TW_STAT_PTR 0) v

def execTw0PointerWrite (v : BitVec 8) (s : State) : Out := s.okUp (·.tw0Pointer v.toNat)

end Sys2Proof.Machine
end

