-- ==== Sys2Proof/Machine/Cores.lean ====
section
/-!
DEFINITION. Sys2Proof/Machine/Cores.lean: starting, halting and resuming the policy cores, and their watchdogs (R43, R45,
R103, R109-R117). CORE_STAT.STATE: 0 not started, 1 running, 2 WAIT, 3 halted in Banked, 4 debug halt, 5 stopped by a double
fault, 6 held in Tinder.
-/
namespace Sys2Proof.Machine

def Dev.coreState (d : Dev) (n : Nat) : Nat := d.get (F.CORE_STAT_STATE n)

/-- The watchdog counter of core n reloads to PERIOD while the core is monitored and neither halted, nor not started, nor
held in Tinder; otherwise it does not count (R103, R460). -/
def Dev.wdtLoad (d : Dev) (n : Nat) : Dev :=
  if d.getBit F.RST_WDT_CTRL_MASK n && (d.coreState n == 1 || d.coreState n == 2 || d.coreState n == 5) then
    d.arm (T.wdt n) (msTicks (d.get F.RST_WDT_CTRL_PERIOD))
  else d.stop (T.wdt n)

/-- STATE of a core whose watchdog counter counts. -/
def wdtCounts (st : Nat) : Bool := st == 1 || st == 2 || st == 5

/-- The core changes STATE. The counter reloads where the core resumes, and counts on through WAIT and a double fault (R103,
R451, R460). -/
def Dev.coreSet (d : Dev) (n st : Nat) : Dev :=
  let on := wdtCounts (d.coreState n) && wdtCounts st
  let d := d.put (F.CORE_STAT_STATE n) st
  if on then d else d.wdtLoad n

/-- Registers, return stack, handler and WAIT of core n as at a start (R427, R433). -/
def Dev.coreClear (d : Dev) (n : Nat) : Dev :=
  ({ d with rstk := tput [] d.rstk n [] }).puts [(H.coreA n, 0), (H.coreX n, 0), (H.coreY n, 0),
    (F.CORE_STAT_RSDEPTH n, 0), (F.CORE_EXC_ACTIVE n, 0), (F.CORE_EXC_DOUBLE n, 0), (T.waitOut n, 0), (H.waitLo n, 0),
    (H.waitHi n, 0), (H.waitDue n, 0), (H.coreWas n, 0)]

/-- Core n runs on from an address with cleared registers. -/
def Dev.coreEnter (d : Dev) (n p : Nat) : Dev := ((d.coreClear n).put (F.CORE_P_P n) p).coreSet n 1

/-- Core n starts at an address; its watchdog counter reloads (R103). -/
def Dev.coreStart (d : Dev) (n p : Nat) : Dev := (d.coreEnter n p).wdtLoad n

/-- Core n is stopped in a state of its own: not started, or held in Tinder. -/
def Dev.coreStop (d : Dev) (n st : Nat) : Dev := ((d.coreClear n).coreSet n st).put (F.CORE_P_P n) 0

/-- C0 starts in the boot ROM, and C1-C5 stand in state `others`. -/
def Dev.bootCores (d : Dev) (others : Nat) : Dev :=
  let d := Dev.forN 5 (fun i e => e.coreStop (i + 1) others) d
  (d.put F.RST_CORE_EN_EN 0).coreStart 0 0x10000

/-- Step 3 of Banked entry: running and waiting cores halt, their state kept (R43). -/
def Dev.coresHalt (d : Dev) : Dev :=
  Dev.forN 6 (fun n e =>
    if e.coreState n = 1 ∨ e.coreState n = 2 then (e.put (H.coreWas n) (e.coreState n)).coreSet n 3 else e) d

/-- The cores resume at the instruction after the halt (R45). -/
def Dev.coresResume (d : Dev) : Dev :=
  Dev.forN 6 (fun n e =>
    if e.coreState n = 3 then
      let e := (e.coreSet n (e.get (H.coreWas n))).clr (H.coreWas n)
      if e.bit (H.waitDue n) then (e.clr (H.waitDue n)).arm (T.waitOut n) 0 else e
    else e) (d.clr H.coreResume)

/-- A kick of the watchdog: 0xA5 from core n reloads its own counter (R110). -/
def Dev.wdtKick (d : Dev) (a : Agent) (key : Nat) : Dev :=
  match a with
  | .core n => if key = 0xA5 then d.wdtLoad n.val else d
  | _ => d

def execWdtKick (a : Agent) (key : BitVec 8) (s : State) : Out := s.okBy a (·.wdtKick a key.toNat)

/-- A write of RST_WDT_CTRL (R109): ignored once LOCK is 1, or with PERIOD 0; a change of PERIOD reloads. -/
def Dev.wdtCtrlWrite (d : Dev) (v : Nat) : Dev :=
  if d.bit F.RST_WDT_CTRL_LOCK || bits v 0 12 == 0 then d
  else
    let oldP := d.get F.RST_WDT_CTRL_PERIOD
    let oldM := d.get F.RST_WDT_CTRL_MASK
    let d := d.puts [(F.RST_WDT_CTRL_LOCK, bits v 35 1), (F.RST_WDT_CTRL_MASK, bits v 16 6), (F.RST_WDT_CTRL_PERIOD, bits v 0 12)]
    Dev.forN 6 (fun n e =>
      if oldP ≠ bits v 0 12 ∨ oldM.testBit n ≠ v.testBit (16 + n) then e.wdtLoad n else e) d

def execWdtCtrlWrite (v : Word) (s : State) : Out := s.ok (·.wdtCtrlWrite v.toNat)

/-- A write of RST_CORE_EN by C0 starts each core whose bit goes from 0 to 1 at its loader entry (R117). In Tinder C1-C5
stay held. -/
def Dev.coreEnWrite (d : Dev) (a : Agent) (v : Nat) : Dev :=
  if a.isC0 && d.get F.SYS_MODE_MODE != 4 then
    Dev.forN 5 (fun i e =>
      if v.testBit (i + 1) && !e.getBit F.RST_CORE_EN_EN i then
        (e.putBit F.RST_CORE_EN_EN i true).coreStart (i + 1) (e.get (H.coreEntry (i + 1)))
      else e) d
  else d

def execCoreStart (a : Agent) (v : Word) (s : State) : Out := s.okBy a (·.coreEnWrite a v.toNat)

end Sys2Proof.Machine
end

