-- ==== Sys2Proof/Machine/Settings.lean ====
section
/-!
DEFINITION. Sys2Proof/Machine/Settings.lean: setting records in the SET partition and the boot record (R599-R603). Every
record is one page program, whose further slots stay erased (R417).
-/
namespace Sys2Proof.Machine

/-! ### Records -/

def setFmt (b : List Nat) : Nat := b.getD 1 0
def setKey (b : List Nat) : Nat := beNat ((b.drop 2).take 2)
def setLen (b : List Nat) : Nat := b.getD 4 0
def setSeq (b : List Nat) : Nat := beNat ((b.drop 5).take 3)

/-- The committed setting records, with their pages. -/
def Dev.setPages (d : Dev) : List (Nat × List Nat) :=
  ((d.nand.filter (fun e => e.1 / 67108864 == 3)).map (fun e => (e.1 % 67108864, e.2.take 64))).filter
    (fun e => slotCommitted e.2 && e.2.headD 0 == 0x53)
def Dev.setRecs (d : Dev) : List (List Nat) := d.setPages.map (·.2)

/-- The record of highest SEQ of a list. -/
def newest : List (List Nat) → Option (List Nat)
  | [] => none
  | b :: l =>
    match newest l with
    | none => some b
    | some c => if setSeq b ≤ setSeq c then some c else some b

/-- The record in force for a format and key; a record with LEN 0 deletes its key (R599, R600). -/
def Dev.setting (d : Dev) (fmt key : Nat) : Option (List Nat) :=
  match newest (d.setRecs.filter (fun b => setFmt b == fmt && setKey b == key)) with
  | none => none
  | some b => if setLen b = 0 then none else some b

/-- SEQ of the next record. -/
def Dev.nextSeq (d : Dev) : Nat :=
  match newest d.setRecs with
  | none => 0
  | some b => (setSeq b + 1) % 16777216

/-- The page after the last programmed one. -/
def Dev.setHead (d : Dev) : Nat :=
  (d.nand.filter (fun e => e.1 / 67108864 == 3)).foldl (fun m e => max m (e.1 % 67108864 + 1)) 0

/-! ### The boot record (R603) -/

/-- The fields of the boot record. -/
structure BootRec where
  active  : Nat
  state   : Nat
  prev    : Nat
  tboot   : Nat
  invalid : Nat
  hver    : Nat
  cver    : Nat
  secver  : Nat
  fmtA    : Nat
  fmtP    : Nat
  version : Nat
  deriving DecidableEq, Repr

/-- The boot record in force; all zero where none has been appended. -/
def Dev.bootRec (d : Dev) : BootRec :=
  match d.setting 0 1 with
  | none => ⟨0, 0, 0, 0, 0, 0, 0, 0, 0, 0, 0⟩
  | some b => ⟨b.getD 8 0, b.getD 9 0, b.getD 10 0, b.getD 11 0, b.getD 12 0, b.getD 13 0, b.getD 14 0, b.getD 15 0,
      b.getD 16 0, b.getD 17 0, beNat ((b.drop 18).take 3)⟩

/-! ### Appending and compaction -/

/-- The version byte by which records of a device key differ. -/
def setVer (b : List Nat) : Nat := b.getD 8 0

/-- A record stays in a compaction (R601): in force for format 0 or the running SETFMT; during a trial also the previous
image's SETFMT, and the newest superseded version of a device record that a migration replaced. -/
def Dev.setKept (d : Dev) (b : List Nat) : Bool :=
  let trial := d.get F.FW_STAT_STATE == 2
  let same := d.setRecs.filter (fun c => setFmt c == setFmt b && setKey c == setKey b)
  let inForce := newest same == some b && setLen b != 0
  let old := same.filter (fun c => setVer c != setVer ((newest same).getD []))
  let dev := setFmt b == 0 && (setKey b == 2 || (decide (0x20 ≤ setKey b) && decide (setKey b < 0x38)))
  (inForce && (setFmt b == 0 || setFmt b == d.get F.FW_STAT_SETFMT || (trial && setFmt b == d.bootRec.fmtP))) ||
    (trial && dev && newest old == some b)

/-- Records laid into pages from page i on. -/
def Dev.setLay (d : Dev) : Nat → List (List Nat) → Dev
  | _, [] => d
  | i, b :: l => Dev.setLay (d.setPage 3 i b) (i + 1) l

/-- Compaction: every block is erased and the kept records stand at the front, in SEQ order as before. -/
def Dev.setCompact (d : Dev) : Dev :=
  let kept := d.setRecs.filter d.setKept
  let blks := ((d.nand.filter (fun e => e.1 / 67108864 == 3)).map (fun e => e.1 % 67108864 / 64)).eraseDups
  (blks.foldl (fun e k => e.eraseBlock 3 k) d).setLay 0 kept

/-- A record of 60 bytes is appended with its SEQ and commit word (R599, R600). -/
def Dev.setAppendBody (d : Dev) (b : List Nat) : Dev :=
  let body := b.take 5 ++ beBytes 3 d.nextSeq ++ (b.drop 8 ++ List.replicate 52 0).take 52
  let d := if d.setHead < d.partPages 3 then d else d.setCompact
  (d.setPage 3 d.setHead (slotOf body)).set1 H.stgPage

/-- A record of a format and key with its data. -/
def Dev.setAppend (d : Dev) (fmt key : Nat) (data : List Nat) : Dev :=
  d.setAppendBody ([0x53, fmt] ++ beBytes 2 key ++ [data.length, 0, 0, 0] ++ data)

/-- The boot record is appended; FW_STAT and the INVALID bits of the slots follow it. -/
def Dev.bootWrite (d : Dev) (r : BootRec) : Dev :=
  (d.setAppend 0 1 ([r.active, r.state, r.prev, r.tboot, r.invalid, r.hver, r.cver, r.secver, r.fmtA, r.fmtP] ++
    beBytes 3 r.version ++ beBytes 3 (d.get F.RST_CNT_COUNT))).puts [(F.FW_STAT_ACTIVE, r.active), (F.FW_STAT_PREV, r.prev),
      (F.FW_STAT_TBOOT, r.tboot), (F.FW_SLOTA_INVALID, r.invalid % 2), (F.FW_SLOTB_INVALID, r.invalid / 2 % 2)]

/-! ### Device records of the Surveyor (R571, R574, R602) -/

/-- The trend record, appended at each day. -/
def Dev.trendSave (d : Dev) : Dev :=
  if d.bit F.STO_STAT_READY then
    d.setAppend 0 4 (beBytes 5 (d.get F.SVY_TRN0_N * 2 ^ 20 + d.get F.SVY_TRN0_STYH) ++ beBytes 5 (d.get F.SVY_TRN1_SUM) ++
      beBytes 5 (d.get F.SVY_TRN2_SUM))
  else d

/-- SVYnn_PBASE bits [35:8] of a port. -/
def Dev.baseWord (d : Dev) (p : Nat) : Nat :=
  d.get (F.SVYP_PBASE_RA p) * 2 ^ 16 + d.get (F.SVYP_PBASE_RB p) * 16 + d.get (F.SVYP_PBASE_VALID p) * 8 +
    d.get (F.SVYP_PBASE_BDAYS p)

/-- The path baselines of a quad, appended when a baseline completes. -/
def Dev.baseSave (d : Dev) (q : Nat) : Dev :=
  if d.bit F.STO_STAT_READY then
    d.setAppend 0 (0x10 + q) ((List.range 4).flatMap (fun k => beBytes 4 (d.baseWord (4 * q + k))))
  else d

end Sys2Proof.Machine
end

