-- ==== Sys2Proof/Machine/Surveyor.lean ====
section
/-!
DEFINITION. Sys2Proof/Machine/Surveyor.lean: the Surveyor: sweeps, the certified floor, VCORE planning, shedding, the ageing
trend and the path-resistance trend (R82-R84, R557-R575). A gate's laps and the temperatures come with the command that ends
it.
-/
namespace Sys2Proof.Machine

/-! ### VCORE (R82-R84, R92) -/

/-- The code SET moves to: 0 in Banked; PLAN plus the boost during a start into Kindling; PLAN otherwise. -/
def Dev.vcoreTarget (d : Dev) : Nat :=
  if d.mode = 3 then 0
  else if d.bit H.kindleStart then min (d.get F.SYS_VCORE_PLAN + 5 * d.get F.SYS_MODE_KNOBS_VBOOST) 46
  else d.get F.SYS_VCORE_PLAN

/-- SET differs from PLAN for VBOOST or Banked, not for a raise or a lowering of the Surveyor's own (R566). -/
def Dev.svyPaused (d : Dev) : Bool :=
  d.get F.SYS_VCORE_SET != d.get F.SYS_VCORE_PLAN &&
    (!d.bit H.svyRe || d.mode == 3 || d.vcoreTarget != d.get F.SYS_VCORE_PLAN)

/-- The regulator and the plan step every 10 µs while there is a step to make (R83). -/
def Dev.vcoreGo (d : Dev) : Dev :=
  if (d.get F.SYS_VCORE_SET != d.vcoreTarget || d.bit H.svyMove) && !d.armed T.vcore then d.arm T.vcore (usTicks 10) else d

/-- SET has reached PLAN: a re-measure follows 1 ms later; the sweep that waits after Banked
begins, and the cores resume (R92). -/
def Dev.vcoreReached (d : Dev) : Dev :=
  if d.get F.SYS_VCORE_SET = d.get F.SYS_VCORE_PLAN then
    let d := if d.bit H.svyRe && d.get H.svyReAt == 0 then d.put H.svyReAt (d.now + msTicks 1 + 1) else d
    let d := if d.bit H.svyDue && d.mode != 3 then (d.clr H.svyDue).arm T.svySweep 0 else d
    if d.bit H.coreResume then d.coresResume else d
  else d

/-- One step: PLAN by one code where the Surveyor asks for it, or SET by one code toward its target. While R566 applies the Surveyor
steps no code, and what it asked for is dropped. A re-measure waits anew once SET has left PLAN. -/
def Dev.vcoreStep (d : Dev) : Dev :=
  let d := d.stop T.vcore
  let plan := d.get F.SYS_VCORE_PLAN
  let set := d.get F.SYS_VCORE_SET
  let goal := d.vcoreTarget
  let d :=
    if d.get H.svyMove = 1 ∧ plan < 46 ∧ !d.svyPaused then
      (d.puts [(F.SYS_VCORE_PLAN, plan + 1), (H.svyMove, 0), (H.svyRe, 1), (H.svyReAt, 0)]).svyEvt F.SVY_EVT_VUP
    else if d.get H.svyMove = 2 ∧ d.get F.SVY_CFG_VLO < plan ∧ !d.svyPaused then
      d.puts [(F.SYS_VCORE_PLAN, plan - 1), (H.svyMove, 0), (H.svyRe, 1), (H.svyReAt, 0), (H.svyTrial, 1)]
    else
      let d := d.put H.svyMove 0
      if set < goal then d.put F.SYS_VCORE_SET (set + 1)
      else if goal < set then d.put F.SYS_VCORE_SET (set - 1)
      else d
  (d.when (d.get F.SYS_VCORE_SET != d.get F.SYS_VCORE_PLAN) (·.clr H.svyReAt)).vcoreReached.vcoreGo

def execVcoreStep (s : State) : Out := s.ok (fun d => d.onExpiry T.vcore Dev.vcoreStep)

/-! ### Candidate and certification (R560, R561) -/

/-- The lowest of the lap counts and its island. -/
def lowestLap : List Nat → Nat × Nat
  | [] => (0, 0)
  | [x] => (x, 0)
  | x :: l => let r := lowestLap l; if x ≤ r.1 then (x, 0) else (r.1, r.2 + 1)

/-- Fc of a lap count: 62,500 steps/s a lap and the guard band, truncated; on the fallback oscillator 98/100 of that, truncated
again (DEDUCED, log entry 142). -/
def Dev.svyFc (d : Dev) (laps : Nat) : Nat :=
  let fc := laps * 62500 * (200 - d.get F.SVY_CFG_GUARD) / 20000000
  if d.bit F.TB_STAT_SRC then fc * 98 / 100 else fc

/-- A floor is certified: CERT, and an admission evaluation. -/
def Dev.certify (d : Dev) (fc island : Nat) : Dev :=
  ((d.puts [(F.SVY_FLOOR_FLOOR, fc), (F.SVY_FLOOR_ISLAND, island), (F.SVY_STAT_CERT, 1), (H.svyUp, 0)]).svyEvt
    F.SVY_EVT_CERT).admStart

/-- The floor rule at the end of an ordinary sweep (R559, R561). -/
def Dev.floorSweep (d : Dev) (fc island : Nat) : Dev :=
  let fl := d.get F.SVY_FLOOR_FLOOR
  if !d.bit F.SVY_STAT_CERT || decide (fc < fl) then d.certify fc island
  else if fc * 100 > fl * 102 then
    let first := d.get H.svyUp == 0 || decide (fc < d.get H.svyUpMin)
    let d := d.puts [(H.svyUp, d.get H.svyUp + 1), (H.svyUpMin, if first then fc else d.get H.svyUpMin),
      (H.svyUpIsl, if first then island else d.get H.svyUpIsl)]
    if d.get H.svyUp ≥ 60 then d.certify (d.get H.svyUpMin) (d.get H.svyUpIsl) else d
  else d.put H.svyUp 0

/-- The floor rule of a gate that R566 covers: a candidate below the floor is certified, none above counts (R36, R566). Before any
floor is certified, VBOOST raises what the gate measures; what it would be without is not stated: an open value, no higher than Fc
(DESIGN CHOICE, log entry 141). -/
def Dev.floorPaused (d : Dev) (fc island : Nat) : Dev :=
  if !d.bit F.SVY_STAT_CERT then
    let r := d.fresh 24
    r.2.certify (min fc r.1) island
  else if fc < d.get F.SVY_FLOOR_FLOOR then d.certify fc island else d

/-! ### Shedding (R567-R569) -/

/-- CLOSED follows LEVEL: a trigger channel of a shed handler. -/
def Dev.shedSet (d : Dev) (level : Nat) : Dev :=
  let hs := (d.handlers 256 0).filter (fun h => h.isShed level)
  let on c := hs.any (fun h => h.trig == c)
  let word b := ((List.range 32).map (fun i => b2n (on (b + i)) * 2 ^ i)).sum
  ((d.puts [(F.SVY_SHED_LEVEL, level), (F.SVY_SHEDC0_CLOSED, word 0), (F.SVY_SHEDC1_CLOSED, word 32)]).svyEvt
    F.SVY_EVT_SHED).admStart

/-- Ranks above 0 of the handlers that may be shed. -/
def Dev.shedRanks (d : Dev) : List Nat :=
  ((d.handlers 256 0).filter (fun h => h.trig != 255 && decide (0 < h.shed))).map (·.shed)

/-- One shedding step: LEVEL to one less than the highest unshed rank, 0 where none is left; OVER where LEVEL is 0. -/
def Dev.shedMore (d : Dev) : Dev :=
  if d.get F.SVY_SHED_LEVEL = 0 then
    if d.bit F.SVY_STAT_OVER then d else (d.set1 F.SVY_STAT_OVER).svyEvt F.SVY_EVT_OVER
  else
    let top := ((d.shedRanks.filter (fun r => decide (r ≤ d.get F.SVY_SHED_LEVEL))).foldl max 0) - 1
    (d.puts [(H.svyShed, d.get F.SVY_FLOOR_FLOOR), (H.svyShN, 0), (H.svyShTry, 0), (H.svyShWait, 1)]).shedSet top

/-- The restoring of one rank, after 600 sweeps with 4 % to spare. -/
def Dev.shedLess (d : Dev) : Dev :=
  match (d.shedRanks.filter (fun r => decide (r > d.get F.SVY_SHED_LEVEL))).min? with
  | none => d
  | some r => (d.puts [(H.svyShN, 0), (H.svyShTry, 1)]).shedSet r

def Dev.shedSweep (d : Dev) : Dev :=
  if d.shedRanks.all (fun r => decide (r ≤ d.get F.SVY_SHED_LEVEL)) then d.put H.svyShN 0
  else if d.get F.SVY_FLOOR_FLOOR * 100 ≥ d.get H.svyShed * 104 then
    let d := d.put H.svyShN (min 600 (d.get H.svyShN + 1))
    if d.get H.svyShN = 600 ∧ !d.bit F.FAB_ADMF_BUSY then d.shedLess else d
  else d.put H.svyShN 0

/-! ### Planning (R562-R566) -/

/-- The headroom need. -/
def Dev.svyNeed (d : Dev) : Bool := decide (d.get F.SVY_FLOOR_FLOOR < d.get H.svyTgt) || d.admFails

/-- A raise while the need holds; at code 46 VMAX, and shedding while a core fails. DEDUCED (log entry 143): VMAX sets where the need
still holds with what the re-measure at code 46 has certified, and reads 0 again once either has gone. -/
def Dev.svyPlan (d : Dev) : Dev :=
  if d.svyPaused || d.bit H.svyRe || d.bit H.svyTrial || d.bit H.svyMove then d
  else
    let d := if d.get F.SVY_SHED_LEVEL = 0 ∧ d.admFails then d else d.clr F.SVY_STAT_OVER
    if !d.svyNeed then d.clr F.SVY_STAT_VMAX
    else if d.get F.SYS_VCORE_PLAN < 46 then ((d.clr F.SVY_STAT_VMAX).put H.svyMove 1).vcoreGo
    else
      let d := if d.bit F.SVY_STAT_VMAX then d else (d.set1 F.SVY_STAT_VMAX).svyEvt F.SVY_EVT_VMAX
      if d.admFails && !d.bit F.FAB_ADMF_BUSY then d.shedMore else d

/-- 600 sweeps with 4 % above TARGET: PLAN is lowered on trial (R564). -/
def Dev.svyLower (d : Dev) (fc : Nat) : Dev :=
  if fc * 100 ≥ d.get H.svyTgt * 104 then
    let d := d.put H.svyDn (min 600 (d.get H.svyDn + 1))
    if d.get H.svyDn = 600 ∧ !d.admFails ∧ d.get F.SVY_CFG_VLO < d.get F.SYS_VCORE_PLAN ∧ !d.bit H.svyMove ∧
        !d.bit H.svyRe ∧ !d.bit H.svyTrial then
      (d.puts [(H.svyDn, 0), (H.svyMove, 2)]).vcoreGo
    else d
  else d.put H.svyDn 0

/-- A lowering does not stand: the code is restored at once and measured again. -/
def Dev.svyRestore (d : Dev) : Dev :=
  (d.puts [(F.SYS_VCORE_PLAN, d.get F.SYS_VCORE_PLAN + 1), (H.svyTrial, 0), (H.svyRe, 1), (H.svyReAt, 0)]).vcoreGo

/-- The evaluation that follows has ended: the trial stands or falls, a restored rank stays or is shed again. -/
def Dev.svyEvaluated (d : Dev) : Dev :=
  let d := d.put H.svyShWait 0
  if d.get H.svyTrial = 2 then
    if d.admFails then d.svyRestore else (d.put H.svyTrial 0).svyEvt F.SVY_EVT_VDOWN
  else if d.bit H.svyShTry then
    let d := d.put H.svyShTry 0
    if d.admFails then
      (d.puts [(H.svyShed, d.get F.SVY_FLOOR_FLOOR), (H.svyShN, 0), (H.svyShWait, 1)]).shedSet (d.get F.SVY_SHED_LEVEL - 1)
    else d
  else d.svyPlan

/-- An admission evaluation ends (R488); one that was asked for meanwhile follows it. -/
def Dev.admEvalEnd (d : Dev) : Dev :=
  let d := d.admResults
  if d.bit H.admAgain then (d.clr H.admAgain).admStart else d.svyEvaluated

def execAdmEvalDone (s : State) : Out := s.ok (fun d => if d.bit F.FAB_ADMF_BUSY then d.admEvalEnd else d)

/-! ### Ageing (R570) -/

/-- The ageing index of an island: 65,536 × M / p with p from its reference speed, the code and the temperature. A predicted
speed that is not positive leaves the index open. -/
def Dev.ageIndex (d : Dev) (island laps : Nat) (t : Int) : Nat × Dev :=
  let p : Int := (Config.refSpeed island : Int) * (4096 + (d.get F.SVY_CFG_KV : Int) * ((d.get F.SYS_VCORE_SET : Int) - 36)) *
    (65536 - (d.get F.SVY_CFG_KT : Int) * (t - 25))
  if p ≤ 0 then d.fresh 16 else (min 65535 (65536 * laps * 62500 * 268435456 / (100000 * p.toNat)), d)

/-- The indices of the islands from number i on, lowest so far. -/
def Dev.ageAll (d : Dev) : Nat → Nat → List (Nat × Int) → Nat × Dev
  | _, low, [] => (low, d)
  | i, low, x :: l =>
    let r := d.ageIndex i x.1 x.2
    r.2.ageAll (i + 1) (min low r.1) l

/-- What every gate leaves: SVY_BENCH0-7 and NOW. -/
def Dev.gateDone (d : Dev) (laps : List Nat) (temps : List Int) : Dev :=
  let d := Dev.forN 8 (fun i e => e.puts [(F.SVY_BENCH_LAPS i, laps.getD i 0),
    (F.SVY_BENCH_TEMP i, unsgn 8 (temps.getD i 0))]) d
  let r := d.ageAll 0 65535 (laps.zip temps)
  r.2.put F.SVY_AGE_NOW r.1

/-! ### Sweeps (R558-R564) -/

/-- A sweep begins: all eight paths run for a gate. None runs in Banked. -/
def Dev.sweepStart (d : Dev) : Dev :=
  if d.mode = 3 then (d.stop T.svySweep).set1 H.svyDue
  else (d.puts [(H.svyGate, 1), (H.svyGateAt, d.now), (H.svyGateP, b2n d.svyPaused),
    (H.svyTgt, d.get F.SVY_CTRL_TARGET)]).arm T.svySweep 64000000

/-- Ticks from the start of a gate to its results: 65,536, and 5 µs (R558). -/
def gateTicks : Nat := 65536 + usTicks 5

def execSweepStart (s : State) : Out := s.ok (fun d => d.onExpiry T.svySweep Dev.sweepStart)

/-- The sweep counts toward the day (R571). -/
def Dev.sweepCount (d : Dev) : Dev :=
  if d.bit F.TB_STAT_SRC then d
  else
    let d := d.puts [(H.dayCnt, d.get H.dayCnt + 1), (H.daySum, d.get H.daySum + d.get F.SVY_AGE_NOW)]
    if d.get H.dayCnt ≥ 86400 then d.arm T.dayEnd 0 else d

/-- The sweep ends: results, floor, plan, shedding, the day's count. -/
def Dev.sweepEnd (d : Dev) (laps : List Nat) (temps : List Int) : Dev :=
  if d.bit H.svyGate && decide (d.get H.svyGateAt + gateTicks ≤ d.now) then
    let d := ((d.clr H.svyGate).gateDone laps temps)
    let r := lowestLap laps
    let fc := d.svyFc r.1
    if d.svyPaused || d.bit H.svyGateP then d.floorPaused fc r.2
    else ((((d.floorSweep fc r.2).svyLower fc).svyPlan).shedSweep).sweepCount
  else d

/-- The k values of a gate, one for each island: those given, and open ones where fewer are given (DESIGN CHOICE, log entry 3). -/
def Dev.gateVals (d : Dev) (w : Nat) : Nat → List Nat → List Nat × Dev
  | 0, _ => ([], d)
  | k + 1, x :: l =>
    let r := d.gateVals w k l
    (x :: r.1, r.2)
  | k + 1, [] =>
    let f := d.fresh w
    let r := f.2.gateVals w k []
    (f.1 :: r.1, r.2)

/-- A command that ends a gate, with the laps and temperatures of its eight islands. -/
def Dev.gateEnd (d : Dev) (laps : List (BitVec 16)) (temps : List (BitVec 8)) (f : Dev → List Nat → List Int → Dev) : Dev :=
  let l := d.gateVals 16 8 (laps.map (·.toNat))
  let t := l.2.gateVals 8 8 (temps.map (·.toNat))
  f t.2 l.1 (t.1.map (sgn 8))

def execSweepEnd (laps : List (BitVec 16)) (temps : List (BitVec 8)) (s : State) : Out :=
  s.ok (·.gateEnd laps temps Dev.sweepEnd)

/-- A re-measure gate, from 1 ms after SET has reached PLAN: it certifies whatever it gives (R561, R563, R564). -/
def Dev.remeasure (d : Dev) (laps : List Nat) (temps : List Int) : Dev :=
  if d.bit H.svyRe && d.get H.svyReAt != 0 && decide (d.get H.svyReAt + gateTicks ≤ d.now + 1) then
    let d := (d.puts [(H.svyRe, 0), (H.svyReAt, 0)]).gateDone laps temps
    let r := lowestLap laps
    let fc := d.svyFc r.1
    let d := d.certify fc r.2
    if d.get H.svyTrial = 1 then
      if fc * 100 < d.get H.svyTgt * 101 then d.svyRestore else d.put H.svyTrial 2
    else d.svyPlan
  else d

def execRemeasure (laps : List (BitVec 16)) (temps : List (BitVec 8)) (s : State) : Out :=
  s.ok (·.gateEnd laps temps Dev.remeasure)

/-! ### The trend (R571-R573) -/

/-- STY as one number. -/
def Dev.sty (d : Dev) : Nat := d.get F.SVY_TRN0_STYH * 2 ^ 36 + d.get F.SVY_TRN1_SUM

/-- The slope a year as an integer, rounded toward zero: 365.25 × (N·STY − St·SY) / (N·Stt − St²). -/
def slopeYear (n sty sy : Nat) : Int :=
  let st := n * (n - 1) / 2
  let stt := (n - 1) * n * (2 * n - 1) / 6
  Int.tdiv (((n * sty : Nat) - (st * sy : Nat) : Int) * 1461) (4 * ((n * stt : Nat) - (st * st : Nat) : Int))

/-- The lowest predicted speed at code 46 and 125 °C, in 2^-28 of 0.1 M steps/s. -/
def Dev.oldestP (d : Dev) : Int :=
  ((List.range 8).map (fun i => (Config.refSpeed i : Int) * (4096 + (d.get F.SVY_CFG_KV : Int) * 10) *
    (65536 - (d.get F.SVY_CFG_KT : Int) * 100))).foldl min (2 ^ 80)

/-- The end index; open where the predicted speed is not positive. -/
def Dev.endIndex (d : Dev) : Nat × Dev :=
  let p := d.oldestP
  if p ≤ 0 then d.fresh 16
  else (65536 * d.get H.svyTgt * 200 * 268435456 / ((200 - d.get F.SVY_CFG_GUARD) * p.toNat), d)

/-- The margin (R572). -/
def Dev.margin (d : Dev) : Dev :=
  let n := d.get F.SVY_TRN0_N
  if n < 30 then d
  else
    let slope := max (-32768) (min 32767 (slopeYear n d.sty (d.get F.SVY_TRN2_SUM)))
    let r := d.endIndex
    let dm := r.2.get F.SVY_AGE_DAYMEAN
    let years := if dm ≤ r.1 then 0 else if 0 ≤ slope then 1023 else min 1022 (10 * (dm - r.1) / slope.natAbs)
    let was := if r.2.bit F.SVY_MARGIN_VALID then r.2.get F.SVY_MARGIN_YEARS else 65535
    let lim := r.2.get F.SVY_CTRL_YWARN * 10
    let d := r.2.puts [(F.SVY_MARGIN_SLOPE, unsgn 16 slope), (F.SVY_MARGIN_VALID, 1), (F.SVY_MARGIN_YEARS, years)]
    if years < lim ∧ lim ≤ was then d.svyEvt F.SVY_EVT_MARGIN else d

/-- A port's day (R574): its means, its baseline, its rise. DESIGN CHOICE (log entry 145): while the baseline forms, SVYnn_PBASE shows
the mean of the days recorded so far. -/
def Dev.pathDay (d : Dev) (p : Nat) : Dev :=
  let n := d.get (H.pdN p)
  let a := d.get (H.pdA p) / max 1 n
  let b := d.get (H.pdB p) / max 1 n
  let d := d.puts [(H.pdA p, 0), (H.pdB p, 0), (H.pdN p, 0)]
  if n < 60 then d
  else
    let d := d.puts [(F.SVYP_PDAY_RA p, a), (F.SVYP_PDAY_RB p, b)]
    if d.bit (F.SVYP_PBASE_VALID p) then
      let base := d.get (F.SVYP_PBASE_RA p) + d.get (F.SVYP_PBASE_RB p)
      let r := if base = 0 then d.fresh 12 else (min 4095 (1000 * (a + b - base) / base), d)
      let high := decide (r.1 ≥ 10 * r.2.get F.SVY_CTRL_PRLIM)
      let was := r.2.getBit F.SVY_PHIGH_HIGH p
      let d := (r.2.put (F.SVYP_PDAY_RISE p) r.1).putBit F.SVY_PHIGH_HIGH p high
      if high && !was then d.svyEvt F.SVY_EVT_PATH else d
    else
      let k := d.get (F.SVYP_PBASE_BDAYS p) + 1
      let sa := d.get (H.pbA p) + a
      let sb := d.get (H.pbB p) + b
      let d := d.puts [(H.pbA p, sa), (H.pbB p, sb), (F.SVYP_PBASE_RA p, sa / k), (F.SVYP_PBASE_RB p, sb / k),
        (F.SVYP_PBASE_BDAYS p, k), (F.SVYP_PBASE_VALID p, b2n (decide (7 ≤ k)))]
      if 7 ≤ k then d.baseSave (p / 4) else d

/-- A day is 86,400 counted sweeps, so every day holds the 43,200 that it must hold to be recorded (R571). -/
def Dev.dayEnd (d : Dev) : Dev :=
  let cnt := d.get H.dayCnt
  let d := d.set1 H.dayDone
  let d := if cnt ≥ 43200 then
      let dm := d.get H.daySum / cnt
      let n := d.get F.SVY_TRN0_N
      let sty := d.sty + n * dm
      ((d.puts [(F.SVY_AGE_DAYMEAN, dm), (F.SVY_TRN2_SUM, d.get F.SVY_TRN2_SUM + dm), (F.SVY_TRN0_STYH, sty / 2 ^ 36),
        (F.SVY_TRN1_SUM, sty), (F.SVY_TRN0_N, min 65535 (n + 1))]).margin).svyEvt F.SVY_EVT_DAY |>.trendSave
    else d
  Dev.forN 24 (fun p e => e.pathDay p) (d.puts [(H.dayCnt, 0), (H.daySum, 0)])

/-- A new record bound to the port's quad clears its baseline. -/
def Dev.baseClear (d : Dev) (p : Nat) : Dev :=
  (d.mark (F.SVYP_PBASE_RA p) 0).puts [(F.SVYP_PBASE_RA p, 0), (F.SVYP_PBASE_RB p, 0), (F.SVYP_PBASE_VALID p, 0), (F.SVYP_PBASE_BDAYS p, 0), (H.pbA p, 0),
    (H.pbB p, 0)]

/-- A restore write by C0 running boot ROM code before the first day ends; any other sets TRNWR (R573). -/
def Dev.trendWrite (d : Dev) (a : Agent) (f : Dev → Dev) : Dev :=
  if d.isRom a && !d.bit H.dayDone then f d else d.svyEvt F.SVY_EVT_TRNWR

/-- A write of SVY_TRN0, SVY_TRN1 or SVY_TRN2. -/
def Dev.trnWrite (d : Dev) (a : Agent) (k v : Nat) : Dev :=
  d.trendWrite a (fun d =>
    if k = 0 then d.puts [(F.SVY_TRN0_N, bits v 20 16), (F.SVY_TRN0_STYH, bits v 0 12),
      (F.SVY_MARGIN_VALID, b2n (decide (30 ≤ bits v 20 16)))]
    else if k = 1 then d.put F.SVY_TRN1_SUM v
    else d.put F.SVY_TRN2_SUM v)

/-- A write of SVYnn_PBASE; the sums behind a baseline still forming follow it. A baseline that hardware has cleared on this tick
stays cleared (R10). -/
def Dev.pbaseWrite (d : Dev) (a : Agent) (p v : Nat) : Dev :=
  d.trendWrite a (fun d => if d.marked (F.SVYP_PBASE_RA p) 0 then d else d.puts [(F.SVYP_PBASE_RA p, bits v 24 12), (F.SVYP_PBASE_RB p, bits v 12 12),
    (F.SVYP_PBASE_VALID p, bits v 11 1), (F.SVYP_PBASE_BDAYS p, bits v 8 3), (H.pbA p, bits v 24 12 * bits v 8 3),
    (H.pbB p, bits v 12 12 * bits v 8 3)])

/-- A write of SVY_CTRL by C0 or the host (R575). -/
def Dev.svyCtrlWrite (d : Dev) (a : Agent) (v : Nat) : Dev :=
  let t := bits v 16 13
  let l := bits v 8 8
  if a.isC0orHost && decide (100 ≤ t) && decide (t ≤ 5000) && decide (1 ≤ l) && decide (l ≤ 100) then
    d.puts [(F.SVY_CTRL_TARGET, t), (F.SVY_CTRL_PRLIM, l), (F.SVY_CTRL_YWARN, bits v 0 8)]
  else d

/-- STATE as read: 5 paused, 3 lowering trial, 2 raising, 4 shedding, 1 sweep, 0 idle. -/
def Dev.svyState (d : Dev) : Nat :=
  if d.svyPaused || d.mode == 3 then 5
  else if d.bit H.svyTrial || d.get H.svyMove == 2 then 3
  else if d.bit H.svyRe || d.get H.svyMove == 1 then 2
  else if d.bit H.svyShWait || d.bit H.svyShTry then 4
  else d.get H.svyGate

end Sys2Proof.Machine
end

