-- ==== Sys2Proof/Machine/Gaz.lean ====
section
/-!
DEFINITION. Sys2Proof/Machine/Gaz.lean: Gazetteer records: validity, binding, application, mismatch (R523-R533).
-/
namespace Sys2Proof.Machine

/-! ### The record (R527) -/

/-- The number at bytes o to o + n − 1 of a record. -/
def recNat (r : List Nat) (o n : Nat) : Nat := beNat ((r.drop o).take n)
/-- The number at offset o of the section of port k of the quad. -/
def secNat (r : List Nat) (k o n : Nat) : Nat := recNat r (36 + 24 * k + o) n

def recSerial (r : List Nat) : Nat := recNat r 6 8
def recBtype (r : List Nat) : Nat := recNat r 4 2
def recFitted (r : List Nat) : Nat := recNat r 15 1

/-- lo ≤ x ≤ hi. -/
def between (lo x hi : Nat) : Bool := decide (lo ≤ x) && decide (x ≤ hi)

/-- The section of a fitted port lies within its ranges (R527, R528). -/
def secValid (r : List Nat) (k : Nat) : Bool :=
  between 100 (secNat r k 0 2) 10000 && between 100 (secNat r k 2 2) 10000 && between 2000 (secNat r k 4 2) 5000 &&
    decide (secNat r k 10 4 < 2 ^ 28) &&
    decide (secNat r k 6 2 * recNat r 18 2 ≤ 250000000) && decide (secNat r k 8 2 * recNat r 16 2 ≤ 50000000)

/-- The CRC of bytes 0-131 stands in bytes 132-135. -/
def recCrcOk (r : List Nat) : Bool := crc32 (r.take 132) == recNat r 132 4

/-- The other conditions of R528. A guard word stands in 5 bytes with the high nibble of the first 0 (R499), and bits [2:0]
of layout L0 are reserved. -/
def recFormOk (r : List Nat) : Bool :=
  recNat r 0 2 == 0x475A && recNat r 2 1 == 1 && recNat r 3 1 == 0 && recNat r 35 1 == 0 &&
    recBtype r != 0 && recBtype r != 0xFFFF && decide (recNat r 14 1 ≤ 1) && between 1 (recFitted r) 15 &&
    between 1 (recNat r 16 2) 2400 && between 500 (recNat r 18 2) 6500 &&
    decide (recNat r 20 5 < 2 ^ 36) && recNat r 20 5 % 8 == 0 && decide (recNat r 25 5 < 2 ^ 36) &&
    decide (recNat r 30 5 < 2 ^ 36) &&
    (List.range 4).all (fun k => !(recFitted r).testBit k || secValid r k)

/-! ### What a record sets (R529) -/

/-- One fitted port takes its section: the guard's layer and constants, the meter's calibration. -/
def Dev.gzApplyPort (d : Dev) (q k : Nat) (r : List Nat) : Dev :=
  let p := 4 * q + k
  let b0 := recNat r 20 5
  let b1 := recNat r 25 5
  let gi := recNat r 30 5
  let d := d.puts [(F.GRD_GZB0_IFAST p, bits b0 27 9), (F.GRD_GZB0_ILIM p, bits b0 15 12), (F.GRD_GZB0_I2T p, bits b0 3 12),
    (F.GRD_GZB1_OVABS p, bits b1 26 10), (F.GRD_GZB1_IREV p, bits b1 16 10), (F.GRD_GZB1_TTRIP p, bits b1 8 8),
    (F.GRD_GZB1_RPATH p, bits b1 0 8), (F.GRD_GZI_IINR p, bits gi 26 10), (F.GRD_GZI_RBASE p, bits gi 19 7),
    (F.GRD_GZI_RMAX p, bits gi 12 7), (F.GRD_GZI_PSOA p, bits gi 6 6), (F.GRD_GZI_TSOA p, bits gi 0 6),
    (H.gzShunt p, secNat r k 0 2), (H.gzNtcr p, secNat r k 2 2), (H.gzNtcb p, secNat r k 4 2),
    (H.gzVscale p, secNat r k 6 2), (H.gzIscale p, secNat r k 8 2)]
  (d.calFromRecord p (recSerial r) (secNat r k 10 4) (secNat r k 14 3) (secNat r k 17 4) (secNat r k 21 3)).effUpdate p

/-- f for each fitted port of a record. -/
def Dev.forFitted (d : Dev) (r : List Nat) (f : Nat → Dev → Dev) : Dev :=
  Dev.forN 4 (fun k e => if (recFitted r).testBit k then f k e else e) d

/-- A record in force is applied to the fitted ports of quad q; APPLIED. -/
def Dev.gzApply (d : Dev) (q : Nat) (r : List Nat) : Dev :=
  let d := (d.puts [(H.gzIrate q, recNat r 16 2), (H.gzVrate q, recNat r 18 2), (H.gzEver q, 1), (H.gzValid q, 1)]).hwBit
    F.SYS_GZ_EVT_APPLIED q
  d.forFitted r (fun k e => e.gzApplyPort q k r)

/-- The record is bound to the quad (R530, R532). -/
def Dev.gzBind (d : Dev) (q : Nat) (r : List Nat) : Dev :=
  (d.puts [(F.SYS_GZQ_STAT_BTYPE q, recBtype r), (F.SYS_GZQ_STAT_FITTED q, recFitted r), (F.SYS_GZQ_STAT_HC q, recNat r 14 1),
    (F.SYS_GZQ_STAT_BOUND q, 1), (F.SYS_GZQ_STAT_PEND q, 0), (F.SYS_GZQ_SERH_SERIAL q, recNat r 6 4),
    (F.SYS_GZQ_SERL_SERIAL q, recNat r 10 4)]).hwBit F.SYS_GZ_EVT_BOUND q

/-- DISWHY bit 1 clears, unless a failed quad or an OTP error holds it (R49, R116). -/
def Dev.gzEnable (d : Dev) (p : Nat) : Dev := if d.bit (H.dis1Held p) then d else d.enableCause p 1

/-- A Resuming port whose record matches sends Soft_Reset in the role and mode of its held contract (R221, R633). -/
def Dev.resumePort (d : Dev) (p : Nat) : Dev :=
  let w := d.heldWord p
  let kind := bits w 31 3
  let sink := w.testBit 34
  let d := d.puts [(H.resume p, 1), (H.vexp p, bits w 14 13)]
  let d := d.setRp p false
  let d := if kind = 4 ∨ kind = 5 then
      (d.set1 (F.PRT_PE_STAT_EPR p)).arm (if sink then T.snkKeep p else T.srcKeep p) (msTicks (if sink then 375 else 875))
    else d
  let d := if kind = 6 then d.puts [(H.hpmOn p, 1), (H.hpmHeld p, 1)] else d
  d.softReset p

/-- The record of the quad is in force for its fitted ports: Resuming ones resume, Disabled ones leave Disabled. -/
def Dev.gzRelease (d : Dev) (q : Nat) (r : List Nat) : Dev :=
  d.forFitted r (fun k e => if e.att (4 * q + k) = 10 then e.resumePort (4 * q + k) else e.gzEnable (4 * q + k))

/-- A valid read: binding, match or mismatch (R530, R532). -/
def Dev.gzValidRead (d : Dev) (q : Nat) (r : List Nat) : Dev :=
  let d := { d with gzrec := tput [] d.gzrec q r }
  let bound := d.bit (F.SYS_GZQ_STAT_BOUND q)
  let same := d.get (F.SYS_GZQ_STAT_BTYPE q) == recBtype r && d.get (F.SYS_GZQ_SERH_SERIAL q) == recNat r 6 4 &&
    d.get (F.SYS_GZQ_SERL_SERIAL q) == recNat r 10 4
  let d := d.puts [(F.SYS_GZQ_STAT_STALE q, 0)]
  if !bound then (((d.gzBind q r).put (F.SYS_GZQ_STAT_LAST q) 1).gzApply q r).gzRelease q r
  else if same then
    ((d.puts [(F.SYS_GZQ_STAT_LAST q, 1), (F.SYS_GZQ_STAT_PEND q, 0)]).gzApply q r).gzRelease q r
  else
    let d := (d.puts [(F.SYS_GZQ_STAT_LAST q, 5), (F.SYS_GZQ_STAT_PEND q, 1), (H.gzValid q, 0)]).hwBit
      F.SYS_GZ_EVT_MISMATCH q
    Dev.forN 4 (fun k e => e.disable (4 * q + k) 1 (if e.att (4 * q + k) = 10 then 24 else 17)) d

/-- The record read of quad q leaves the bus. -/
def Dev.gzReadEnd (d : Dev) (q : Nat) (missing : Bool) (r : List Nat) : Dev :=
  if d.get (H.gzScan q) ≠ 2 then d
  else
    let n := quadBus q
    let d := d.puts [(H.twOp n, 0), (H.twArb n, 0), (F.TW_STAT_ROLE n, 0)]
    let d := if missing then (d.twEvt n (F.TW_EVT_NACK n)).readFailed q 2
      else if !recCrcOk r then d.readFailed q 3
      else if !recFormOk r then d.readFailed q 4
      else (d.gzValidRead q r).scanOver q
    d.twUpdate n

/-- The 136 bytes of a record read (R524). Bytes beyond them are none of the record, and bytes that the command does not give read
as a released line does, 0xFF (DESIGN CHOICE, log entry 3). -/
def recBytes (r : List Nat) : List Nat := (r ++ List.replicate 136 0xFF).take 136

/-- A record read ends: missing (a NACK of the address), or with 136 bytes. -/
def execGzReadEnd (q : Fin 6) (missing : Bool) (r : List (BitVec 8)) (s : State) : Out :=
  s.okUp (·.gzReadEnd q.val missing (recBytes (r.map (·.toNat))))

def execGzRetryExpiry (q : Fin 6) (s : State) : Out :=
  s.ok (fun d => d.onExpiry (T.gzRetry q.val) (·.twUpdate (quadBus q.val)))

/-- The 1 s probe; one that falls due in Banked waits for the wake (R526). -/
def Dev.gzProbeDue (d : Dev) (q : Nat) : Dev := if d.mode = 3 then d.set1 (H.gzDue q) else d.scanReq q

def execGzProbeExpiry (q : Fin 6) (s : State) : Out := s.ok (fun d => d.onExpiry (T.gzProbe q.val) (·.gzProbeDue q.val))

/-! ### SYS_GZ_CTRL -/

/-- A mismatch is accepted: the record of the last valid read is bound and applied; path baselines clear (R532, R574). -/
def Dev.gzAccept (d : Dev) (q : Nat) : Dev :=
  if d.bit (F.SYS_GZQ_STAT_PEND q) then
    let r := tget [] d.gzrec q
    let d := Dev.forN 4 (fun k e => e.baseClear (4 * q + k)) (d.gzBind q r)
    (d.gzApply q r).gzRelease q r
  else d

/-- A write of SYS_GZ_CTRL: RESCAN and ACCEPT bits. -/
def Dev.gzCtrlWrite (d : Dev) (v : Nat) : Dev :=
  let d := Dev.forN 6 (fun q e => if v.testBit q then e.gzAccept q else e) d
  Dev.forN 6 (fun q e => if v.testBit (8 + q) then e.scanReq q else e) d

/-- A scan that ends on the tick of an ACCEPT for its quad comes first (R533). -/
def State.scanFirst (s : State) (v : Nat) : State :=
  s.pending.foldl (fun t c =>
    match c with
    | .gzReadEnd q missing r => if v.testBit q.val then t.onDev (·.gzReadEnd q.val missing (recBytes (r.map (·.toNat)))) else t
    | _ => t) s

def State.gzCtrl (s : State) (v : Nat) : State := (s.scanFirst v).onDev (·.gzCtrlWrite v)

def execGzRescan (v : Word) (s : State) : Out := .next (s.gzCtrl v.toNat)
def execGzAccept (v : Word) (s : State) : Out := .next (s.gzCtrl v.toNat)

/-! ### The setpoint pin (R216) -/

/-- The level at PnnVSET in µV: voltage setpoint × VSCALE, or input-current setpoint × ISCALE; held through an L2 and clamped to
0 V in an L3 (R58). -/
def Dev.vsetMicrovolt (d : Dev) (p : Nat) : Nat :=
  if d.get H.rstHeld = 3 then 0
  else if d.bit (H.imode p) then d.iLevel p * d.get (H.gzIscale p) / 100
  else d.vLevel p * d.get (H.gzVscale p) / 100

end Sys2Proof.Machine
end

