-- ==== Sys2Proof/Machine/Mode.lean ====
section
/-!
DEFINITION. Sys2Proof/Machine/Mode.lean: the operating modes: requests, Banked entry and wake, Blaze and Tinder (R26-R52,
R89-R94). Modes: 0 Steady, 1 Kindling, 2 Blaze, 3 Banked, 4 Tinder.
-/
namespace Sys2Proof.Machine

/-! ### Entering a mode -/

/-- REQERR takes a value; a change raises the mode event. -/
def Dev.setReqerr (d : Dev) (e : Nat) : Dev :=
  if d.get F.SYS_MODE_REQERR = e then d else (d.put F.SYS_MODE_REQERR e).raise 215

/-- A mode is entered from another with a cause: PREV, TRANS 0, the LOG entry, and the event on a change. Outside Kindling no
start into Kindling is in progress, and the meter settles, SET and the bus scans follow (R27, R33, R35, R390); Banked and
Tinder confirm notices. -/
def Dev.modeEnterFrom (d : Dev) (prev m cause : Nat) : Dev :=
  let old := d.mode
  let d := d.puts [(F.SYS_MODE_PREV, prev), (F.SYS_MODE_MODE, m), (F.SYS_MODE_CAUSE, cause), (F.SYS_MODE_TRANS, 0),
    (H.hwTick, d.now + 1)]
  let d := if m = 1 then d else (d.puts [(H.kindleStart, 0), (T.kindle, 0)]).settleChanged
  let d := Dev.forN 3 (fun n e => e.twUpdate (n + 1)) d.vcoreGo
  let d := if old = m then d else d.raise 215
  let d := if m = 3 ∨ m = 4 then d.noticesConfirmed else d
  (d.logAppend 5 0xF0 (beBytes 5 d.modeWord)).pump

/-- A mode is entered from the one in force. -/
def Dev.modeEnter (d : Dev) (m cause : Nat) : Dev := d.modeEnterFrom d.mode m cause

/-- A start into Kindling begins now, its timeout counting from a tick (R27, R40): inrushes and meter settles are those of
the start. -/
def Dev.kindleBegin (d : Dev) (from_ : Nat) : Dev :=
  let d := Dev.forN 24 (fun p e => e.puts [(H.inrushDone p, 0), (H.togglePer p, 0)]) d
  d.puts [(H.kindleStart, 1), (H.kindleFrom, from_),
    (T.kindle, max (d.now + 1) (from_ + d.get F.SYS_KINDLE_CTRL_TIMEOUT * 64000000 + 1))]

/-- A write of SYS_KINDLE_CTRL (R34): a TIMEOUT outside 5-120 is ignored as a whole; a running timeout takes the new period. -/
def Dev.kindleCtrlWrite (d : Dev) (v : Nat) : Dev :=
  if 5 ≤ bits v 8 8 ∧ bits v 8 8 ≤ 120 then
    let d := d.puts [(F.SYS_KINDLE_CTRL_TIMEOUT, bits v 8 8), (F.SYS_KINDLE_CTRL_STRETCH, bits v 0 2)]
    if d.armed T.kindle then
      d.put T.kindle (max (d.now + 1) (d.get H.kindleFrom + bits v 8 8 * 64000000 + 1))
    else d
  else d

/-- A write of SYS_MODE_KNOBS (R39). -/
def Dev.knobsWrite (d : Dev) (v : Nat) : Dev :=
  let d := d.puts [(F.SYS_MODE_KNOBS_SCANPAR, bits v 8 1), (F.SYS_MODE_KNOBS_SETTLE, bits v 6 2),
    (F.SYS_MODE_KNOBS_INRUSH, bits v 4 2), (F.SYS_MODE_KNOBS_VBOOST, bits v 2 2)]
  let d := if d.bit H.kindleStart then d.settleChanged else d
  Dev.forN 3 (fun n e => e.twUpdate (n + 1)) d.vcoreGo

/-! ### Requests (R29-R33) -/

/-- A request of the same tick as another, or as a hardware cause of a mode change, and one during a transition, are BUSY
(R30, R31). A wake that has come is such a cause. -/
def Dev.reqBusy (d : Dev) : Bool :=
  d.bit F.SYS_MODE_TRANS || d.get H.reqTick == d.now + 1 || d.get H.hwTick == d.now + 1 || d.bit H.wakeBits

/-- A request handled in the order BUSY, NOTALLOWED, PATH, condition. Debug is no source of requests (R30). `behind` where a
request that R30 puts first, or a hardware cause, falls on the same tick (R30, R31): the request is BUSY. A request refused for
that reason comes after this one in the order of R30, so its BUSY is what REQERR ends with. -/
def Dev.modeReq (d : Dev) (a : Agent) (behind allowed hostOnly contract : Bool) (go : Dev → Dev) : Dev :=
  if a = .tap then d
  else if behind then (d.put H.reqLow (d.now + 1)).setReqerr 1
  else
    let busy := d.reqBusy
    let d := d.put H.reqTick (d.now + 1)
    let d :=
      if busy then d.setReqerr 1
      else if !allowed then d.setReqerr 2
      else if hostOnly && !a.isHost then d.setReqerr 6
      else if contract then d.setReqerr 3
      else go (d.setReqerr 0)
    if d.get H.reqLow = d.now + 1 then d.setReqerr 1 else d

/-- CAUSE of a request: 1 from the host, 2 from a core. -/
def reqCause (a : Agent) : Nat := if a.isHost then 1 else 2

/-! ### Cores and services of Blaze and Tinder -/

/-- In Tinder C0 is in boot ROM recovery and C1-C5 are held; no trial, no image running (R51). -/
def Dev.tinderCores (d : Dev) : Dev :=
  (d.puts [(F.FW_STAT_STATE, 0), (H.booting, 0), (T.trial, 0), (H.fallPend, 0), (F.FW_TRIAL_LEFT, 0), (H.actSlot, 0),
    (T.act, 0)]).bootCores 6

/-- Tinder is entered from the mode in force. -/
def Dev.tinderEnter (d : Dev) (cause : Nat) : Dev := (d.modeEnter 4 cause).tinderCores

/-- The boot ROM enters Tinder: the path of R33 runs from reset release, where PREV equals MODE, or from Blaze. -/
def Dev.bootTinder (d : Dev) (cause : Nat) : Dev :=
  (d.modeEnterFrom (if d.get F.SYS_MODE_PREV = 2 then 2 else 4) 4 cause).tinderCores

/-- A port in Blaze: no contract, gates off, VSET zero, DIS on, nothing presented to the connector (R48). -/
def Dev.blazePort (d : Dev) (p : Nat) : Dev :=
  let d := (((d.portEnd p 7).gateStop p 17 false).vsetOff p).attTimersOff p
  let d := d.puts [(F.PRT_ATT_STAT_ORIENT p, 0), (H.detaching p, 0), (F.GRD_STAT_GATES p, 0), (T.gateOff p, 0)]
  (d.attSet p 0).puts [(F.GRD_STAT_DISON p, 1), (H.padDis p, 1), (T.disMax p, 0), (T.disLow p, 0), (T.disAgain p, 0)]

/-- Blaze is entered (R48, R392, R422). -/
def Dev.blazeEnter (d : Dev) (cause : Nat) : Dev :=
  let d := Dev.forN 24 (fun p e => e.blazePort p) d
  let d := ((d.segCloseAll 8 false).ledgerDrain 5).meterStopAll
  let d := Dev.forN 24 (fun p e => e.stop (T.mtrSettle p)) d
  let d := d.modeEnter 2 cause
  (d.puts [(H.lgrIdle, 1), (F.FW_STAT_STATE, 0), (H.booting, 0), (T.trial, 0), (F.FW_TRIAL_LEFT, 0),
    (F.SYS_BLAZE_RESULT_DONE, 0)]).bootCores 0

/-! ### Blaze completion (R49) -/

/-- The result fields written from the result word. -/
def Dev.blazeResult (d : Dev) (v : Nat) : Dev :=
  d.puts [(F.SYS_BLAZE_RESULT_GUARDQ, bits v 30 6), (F.SYS_BLAZE_RESULT_METERQ, bits v 24 6),
    (F.SYS_BLAZE_RESULT_CCQ, bits v 18 6), (F.SYS_BLAZE_RESULT_CRYPTO, bits v 17 1), (F.SYS_BLAZE_RESULT_STORE, bits v 16 1),
    (F.SYS_BLAZE_RESULT_TWOWIRE, bits v 15 1), (F.SYS_BLAZE_RESULT_SRAM, bits v 14 1), (F.SYS_BLAZE_RESULT_CORES, bits v 13 1),
    (F.SYS_BLAZE_RESULT_FABRIC, bits v 12 1), (F.SYS_BLAZE_RESULT_MERIDIAN, bits v 11 1), (F.SYS_BLAZE_RESULT_DONE, 1)]

/-- A port leaves Blaze: Disabled where a cause of Disabled holds, Unattached otherwise. -/
def Dev.blazeLeave (d : Dev) (p : Nat) : Dev :=
  let d := d.disOff p
  if d.get (F.PRT_ATT_STAT_DISWHY p) = 0 then (d.unattached p).set1 (H.deadBat p) else d

/-- The self-test ends: an area of bits [17:11] that fails keeps the device in Blaze; a failed quad's ports are held
Disabled; the device leaves to Kindling, where the boot ROM loads the image that the boot record gives. -/
def Dev.blazeDone (d : Dev) (v : Nat) : Dev :=
  if d.mode ≠ 2 ∨ d.bit F.SYS_BLAZE_RESULT_DONE then d
  else
    let d := d.blazeResult v
    if bits v 11 7 ≠ 127 then d
    else
      let bad q := !(v.testBit (30 + q) && v.testBit (24 + q) && v.testBit (18 + q))
      let d := Dev.forN 24 (fun p e =>
        if bad (p / 4) then (e.set1 (H.dis1Held p)).putBit (F.PRT_ATT_STAT_DISWHY p) 1 true else e) d
      let fromRel := d.get F.SYS_MODE_PREV == 2
      let d := (d.modeEnter 1 6).kindleBegin (if fromRel then d.get H.relTick else d.now)
      let d := Dev.forN 24 (fun p e => (e.blazeLeave p).meterStart p) d
      ((d.puts [(H.lgrIdle, 0), (H.booting, 1)]).bootCores 0).vcoreGo

def execBlazeCompletion (res : Word) (s : State) : Out := s.ok (·.blazeDone res.toNat)

/-! ### Banked (R41-R46, R89-R94) -/

/-- The port is in a state in which Banked may be entered (R41): Disabled, Unattached, or a settled explicit contract whose
KEEP is 1. -/
def Dev.bankOk (d : Dev) (p : Nat) : Bool :=
  d.att p == 0 || d.att p == 1 || d.att p == 4 ||
    (d.attached p && d.explicit p && d.bit (F.PRT_BANK_KEEP p) && !d.busy p && !d.bit (F.PRT_SWAP_STAT_STEP p))

/-- The port has settled in a state that R41 does not allow. -/
def Dev.bankBar (d : Dev) (p : Nat) : Bool :=
  d.attached p && !d.busy p && !d.bit (F.PRT_SWAP_STAT_STEP p) &&
    ((d.explicit p && !d.bit (F.PRT_BANK_KEEP p)) || (d.pe p == 19 && !d.explicit p))

def Dev.bankAllOk (d : Dev) : Bool := (List.range 24).all d.bankOk
def Dev.bankBarred (d : Dev) : Bool := (List.range 24).any d.bankBar

/-- The Banked request is given up with a REQERR. -/
def Dev.bankQuit (d : Dev) (e : Nat) : Dev := (d.puts [(F.SYS_MODE_TRANS, 0), (H.bankReq, 0), (T.bank50, 0)]).setReqerr e

/-- A Banked request is accepted: TRANS, and 50 ms for the ports to settle (R42). -/
def Dev.bankBegin (d : Dev) (a : Agent) : Dev :=
  (d.puts [(F.SYS_MODE_TRANS, 1), (H.bankReq, 1), (H.bankCause, reqCause a), (H.wakeBits, 0)]).arm T.bank50 (msTicks 50)

/-- Steps 1 and 2 of R43: every meter closes its segment, and the Ledger engine commits. What is kept banked is settled now
(R89). -/
def Dev.bankClose (d : Dev) : Dev :=
  let d := Dev.forN 24 (fun p e => e.put (H.banked p) (b2n (e.explicit p && e.bit (F.PRT_BANK_KEEP p)))) d
  ((d.segCloseAll 6 false).ledgerDrain 3).puts [(H.bankStage, 1), (T.bank50, 0)]

/-- Step 5 of R43: Banked is entered. Telemetry polls that wait are lost (R90). -/
def Dev.bankFinish (d : Dev) : Dev :=
  let d := Dev.forN 24 (fun p e => e.putBit (H.want p) 3 false) d
  let d := d.puts [(H.lgrIdle, 1), (H.bankReq, 0), (H.bankStage, 0), (H.svyGate, 0), (T.svySweep, 0), (H.svyDue, 1),
    (H.svyReAt, 0)]
  d.modeEnter 3 (d.get H.bankCause)

/-- Banked entry in the order of R43, once every port has settled, one step at each tick (log entry 31); CONTRACT where a port
settles otherwise. -/
def Dev.bankEntry (d : Dev) : Dev :=
  if !d.bit H.bankReq then d
  else if d.get H.bankStage = 0 then
    if d.bankBarred then d.bankQuit 3 else if d.bankAllOk then d.bankClose else d
  else if d.get H.bankStage = 1 then d.coresHalt.put H.bankStage 2
  else if d.get H.bankStage = 2 then d.meterStopAll.put H.bankStage 3
  else d.bankFinish

def execBankedEntry (s : State) : Out := s.ok (·.bankEntry)

/-- 50 ms have passed with a port still in a sequence: UNSETTLED, or CONTRACT for one that has settled otherwise. -/
def Dev.bankTimeout (d : Dev) : Dev :=
  if d.bit H.bankReq && !d.bit H.bankStage then
    (if d.bankBarred then d.bankQuit 3 else if d.bankAllOk then d.bankEntry else d.bankQuit 4)
  else d

def execBankedUnsettledTimeout (s : State) : Out := s.ok (fun d => d.onExpiry T.bank50 Dev.bankTimeout)

/-- The bits of SYS_WAKE_STAT of the wake sources in w set. -/
def Dev.wakeStat (d : Dev) (w : Nat) : Dev := Dev.forN 16 (fun b e => if w.testBit b then e.wakeNote b else e) d

/-- Banked entry abandoned by a wake (R43): the meters restart, the cores resume, and REQERR takes 5. -/
def Dev.bankAbandon (d : Dev) : Dev :=
  ((d.coresResume.meterWakeAll.puts [(H.hwTick, d.now + 1), (H.bankStage, 0)]).bankQuit 5)

/-- A wake (R45, R46, R91, R92): SYS_WAKE_STAT; a Banked entry is abandoned; from Banked the meters open new segments, the
device enters Steady, and the cores resume once SET equals PLAN. A toggle rest in progress goes on (R176 gives rests to Banked
only and says nothing of one that a wake meets: DESIGN CHOICE, log entry 137). -/
def Dev.wakeNow (d : Dev) (w : Nat) : Dev :=
  let d := (d.puts [(T.bankedWake, 0), (H.wakeBits, 0), (H.wakeTick, d.now + 1)]).wakeStat w
  if d.bit H.bankStage then d.bankAbandon
  else
    let d := (d.meterWakeAll.modeEnter 0 5).puts [(H.lgrIdle, 0), (H.coreResume, 1)]
    let d := Dev.forN 6 (fun q e => if e.bit (H.gzDue q) then (e.clr (H.gzDue q)).scanReq q else e) d
    d.vcoreReached.vcoreGo

/-- A wake source: one that the state has noted, or an outside one (HWAKEn, a host access) by its bit of R91. On the tick of a
wake already served it sets its bit. -/
def Dev.bankedWake (d : Dev) (src : Option (Fin 16)) : Dev :=
  let d := match src with
    | some b => d.wake b.val
    | none => d
  if d.mode = 3 ∨ d.bit H.bankStage then
    if d.bit H.wakeBits then d.wakeNow (d.get H.wakeBits) else d.stop T.bankedWake
  else d.puts [(T.bankedWake, 0), (H.wakeBits, 0)]

def execBankedWake (src : Option (Fin 16)) (s : State) : Out := s.ok (·.bankedWake src)

/-! ### Kindling is complete (R40) -/

/-- Every port is Disabled, holds an explicit contract, or has stayed Unattached for two toggle periods; every meter has
settled; every scan has ended. -/
def Dev.kindleDone (d : Dev) : Bool :=
  (List.range 24).all (fun p => d.att p == 0 || d.explicit p ||
    ((d.att p == 1 || d.att p == 4) && decide (2 ≤ d.get (H.togglePer p)))) &&
  (List.range 24).all (fun p => d.bit (F.MTR_STAT_SETTLED p)) &&
  (List.range 6).all (fun q => d.bit (F.SYS_GZQ_STAT_DONE q))

end Sys2Proof.Machine
end

