-- ==== Sys2Proof/Machine/Reset.lean ====
section
/-!
DEFINITION. Sys2Proof/Machine/Reset.lean: the reset sources and what the assertion of each level does (R95-R111, R122-R126),
and the supplies (R75-R88). The release stands in Machine/Release.lean.
-/
namespace Sys2Proof.Machine

/-! ### What a level keeps (R11, R95) -/

/-- A key whose value survives a reset of a level. -/
def keptKey (lvl k : Nat) : Bool := k % 4 == 0 || decide (lvl < k % 4)

/-- Every field that the level restores takes its reset value. -/
def Dev.levelFilter (d : Dev) (lvl : Nat) : Dev := { d with regs := d.regs.filter (fun e => keptKey lvl e.1) }

/-- A page program that the reset cuts off: its slots stand in the page without their commit words (R417, R425). -/
def Dev.progCut (d : Dev) : Dev :=
  if d.get H.progOn = 0 then d
  else
    let n := if d.get H.progOn = 5 then 60 else 28
    d.setPage (d.get H.progOn) (d.get H.progPage) (d.prog.flatMap (fun s => s.take n ++ List.replicate 4 255))

/-- Where the latest writes of PIN_GPIO stand. -/
def gpioKey : Nat := 211

/-- Queues, buffers and records of the blocks that an L2 restarts. The trips of the last 60 s stay (R344), and so does
what the Store holds. -/
def Dev.blocksClear (d : Dev) : Dev :=
  { d with
    chq := [], rstk := [], txq := [], segq := [], mwin := [], stg := [], logs := [], staged := [], prog := [], sigq := []
    seen := [], idrec := [], commits := [], cmdq := []
    hist := d.hist.filter (fun e => decide (e.1 < 24) || e.1 == gpioKey) }

/-! ### Assertion -/

/-- Every outstanding ask takes its default (R96). -/
def Dev.asksDefault (d : Dev) : Dev :=
  Dev.forN 24 (fun p e => if e.askOut p then (e.askCancel p).askDefault p (e.get (F.PRT_PE_STAT_ASKCODE p)) else e) d

/-- L1 at its assertion: queued messages go, with DISC; asks take their defaults; the cores are in reset (R490). -/
def Dev.assertL1 (d : Dev) : Dev :=
  let d := Dev.forN 64 (fun c e => if (e.chan c).isEmpty then e else e.discardChan c) d
  let d := { d.asksDefault with rstk := [] }
  d.levelFilter 1

/-- What the pads of port p keep through an L2 (R58, R122). A soft stop in progress runs on (R124). -/
def Dev.holdPort (d : Dev) (p : Nat) : Dev :=
  let stop := d.gates p == 3
  (d.putBit F.RST_HOLD_HELD p (d.gatesOn p)).puts [(H.padGates p, d.gates p),
    (H.padOff p, if stop then d.get (T.gateOff p) else 0), (H.holdWhy p, if stop then d.get (F.GRD_STAT_STOPWHY p) else 0),
    (H.holdKind p, if stop then d.get (F.GRD_STAT_STOPKIND p) else 0), (H.holdHr p, 0),
    (H.holdOri p, d.get (F.PRT_ATT_STAT_ORIENT p)), (H.padSlew p, d.get (F.GRD_CTRL_SLEW p)), (H.vnow p, d.vLevel p), (H.iset p, d.iLevel p),
    (H.padCc1 p, d.liveTerm p 1), (H.padCc2 p, d.liveTerm p 2), (H.inSwap p, d.get (H.swAcc p))]

/-- The lines that IRQ0n (bit 0) and IRQ1n (bit 1) drive low (R482, R541). -/
def Dev.irqLines (d : Dev) : Nat := if d.bit H.rteWritten then bits d.readIrq 0 2 else 0

/-- The BRSTn lines driven low, bit n for BRSTn. -/
def Dev.brstLines (d : Dev) : Nat :=
  ((List.range 4).map (fun n =>
    b2n (d.bit (H.twBrst n) && decide (d.now < d.get (H.twBrstAt n) + msTicks (d.get (H.twBrstW n)))) * 2 ^ n)).sum

/-- A program, erase or format of the Store is in progress. -/
def Dev.storeBusy (d : Dev) : Bool := d.get H.progOn != 0 || d.get H.dlOp != 0 || d.armed T.relErase || d.armed T.fmt

/-- No transfer to or from the Store is in progress. -/
def Dev.stoIdle (d : Dev) : Bool := !d.storeBusy && !d.bit F.STO_STAT_RDBUSY

/-- What the system pads keep through an L2 (R63, R156). -/
def Dev.holdPads (d : Dev) : Dev :=
  d.puts [(H.padIrq, d.irqLines), (H.padBrst, d.brstLines), (H.padSto, b2n (!d.stoIdle)), (F.CMP_OUT_LEVEL, d.cmpoBalls)]

/-- L2 at its assertion: the ports are held and the hold timer starts; the blocks go to their reset values (R95, R122). -/
def Dev.assertL2 (d : Dev) : Dev :=
  let d := Dev.forN 24 (fun p e => e.holdPort p) d.holdPads.progCut
  let d := if d.bit F.RST_HOLD_HELD then d.arm T.hold (msTicks (20 + 5 * d.get F.RST_HOLDCFG_HOLDTO)) else d
  d.blocksClear.levelFilter 2

/-- L3 at its assertion. -/
def Dev.assertL3 (d : Dev) : Dev :=
  let d := d.progCut.blocksClear.levelFilter 3
  { d with hist := [], gzrec := [] }

/-- A level is reached; the snapshot of an assertion comes first (R544). -/
def Dev.rstEnter (d : Dev) (src lvl : Nat) : Dev :=
  let d := if lvl < 3 ∧ src ≠ 6 ∧ d.bit F.SNAP_CTRL_RSTEN then d.snapTrig 12 0 0 else d
  let d := d.put H.rstHeld lvl
  if lvl = 1 then d.assertL1 else if lvl = 2 then d.assertL2 else d.assertL3

/-- At the first assertion of a reset: the cores that ran, and those whose watchdog period runs out on this tick, so that their
sources of the same tick still join (R105). -/
def Dev.rstMarks (d : Dev) : Dev :=
  if d.get H.rstHeld = 0 then
    d.puts [(H.rstTick, d.now + 1),
      (H.rstRun, ((List.range 6).map (fun n => b2n (d.coreState n == 1) * 2 ^ n)).sum),
      (H.rstWdt, ((List.range 6).map (fun n => b2n (d.armed (T.wdt n) && decide (d.get (T.wdt n) ≤ d.now + 1)) * 2 ^ n)).sum)]
  else d

/-- The reset in progress was first asserted on this tick, and bit n of a mark of that tick stands. -/
def Dev.rstJust (d : Dev) (f : Fld) (n : Nat) : Bool := d.get H.rstHeld != 0 && d.get H.rstTick == d.now + 1 && d.getBit f n

/-- A source asserts a level (R99, R105, R106): it joins the reset in progress, whose level only rises. A flush in
progress ends, and its request joins (R108). -/
def Dev.rstAssert (d : Dev) (src lvl : Nat) : Dev :=
  let d := d.rstMarks
  let f := d.get H.flushLvl
  let d := d.putBit (H.rstSrc lvl) src true
  let d := if f = 0 then d else (d.putBit (H.rstSrc f) 4 true).puts [(H.flushLvl, 0), (T.flush, 0)]
  let top := max lvl f
  if d.get H.rstHeld < top then d.rstEnter src top else d

/-! ### Sources -/

def execRstnAssert (s : State) : Out :=
  s.ok (fun d => d.rstAssert 2 (if d.bit (if 2 ≤ d.get H.rstHeld then H.otpRstnl3 else F.RST_CFG_RSTNL3) then 3 else 2))

/-- Watchdog resets of the last 10 s of ticks since the last L2 or L3 release (R102). -/
def Dev.wdTimes (d : Dev) : List Nat := (tget [] d.hist 200).filter (fun t => decide (d.now ≤ t + 640000000))

/-- A watchdog expiry (R102): every monitored core whose period has run out is named; L2 after two earlier ones. One of the
tick on which another source has asserted a reset joins it (R105). -/
def Dev.watchdog (d : Dev) (i : Nat) : Dev :=
  if !d.armed (T.wdt i) && !d.rstJust H.rstWdt i then d
  else
    let earlier := (d.wdTimes.filter (fun t => decide (t < d.now)))
    let due n := n == i || (d.armed (T.wdt n) && decide (d.get (T.wdt n) ≤ d.now + 1)) || d.rstJust H.rstWdt n
    let d := Dev.forN 6 (fun n e => if due n then (e.hwBit F.RST_FAULT_WDOG n).stop (T.wdt n) else e) d
    let d := { d with hist := tput [] d.hist 200 (d.now :: earlier) }
    (d.rstAssert 3 (if earlier.length ≥ 2 then 2 else 1)).clr H.rstWdt

def execWatchdogExpiry (i : Fin 6) (s : State) : Out := s.ok (·.watchdog i.val)

/-- WDHIST (R112): watchdog resets in the window, to 2. -/
def Dev.readWdhist (d : Dev) : Nat := min 2 d.wdTimes.length

/-- A running core's handshake has stood for LOCKTO (R111); on the tick of another source it joins (R105). -/
def Dev.lockup (d : Dev) (i : Nat) : Dev :=
  if (d.coreState i = 1 ∧ d.get H.rstHeld = 0) ∨ d.rstJust H.rstRun i then (d.hwBit F.RST_FAULT_LOCKUP i).rstAssert 7 1 else d

def execLockupTimeout (i : Fin 6) (s : State) : Out := s.ok (·.lockup i.val)

/-- The reset of a software request. One written inside a host transfer waits for the transfer's end (R104); of several, the
highest level. -/
def Dev.softAssert (d : Dev) (a : Agent) (lvl : Nat) : Dev :=
  if d.bit H.hostXfer then
    let f := if a = .spi then H.spiReq else H.twReq
    d.put f (max lvl (d.get f))
  else d.rstAssert 4 lvl

/-- A write of RST_REQ (R104, R107, R108). Debug is no source of software requests. DESIGN CHOICE (log entry 114): a second valid
request with FLUSH while a flush runs keeps the 100 ms of the first and takes the higher level. -/
def Dev.rstReqWrite (d : Dev) (a : Agent) (v : Nat) : Dev :=
  if a = .tap then d
  else
    let lvl := bits v 0 2
    if bits v 8 8 ≠ 0x5A ∨ lvl = 0 ∨ lvl = 3 then d.hwSet F.RST_STAT_REQBAD
    else if v.testBit 4 then
      if d.bit H.flushLvl then d.put H.flushLvl (max lvl (d.get H.flushLvl))
      else ((d.segCloseAll 7 (lvl == 1)).put H.flushLvl lvl).arm T.flush (msTicks 100)
    else d.softAssert a lvl

/-- A host transfer over TW0 has ended: the reset requested in it asserts (R104). -/
def Dev.tw0Ended (d : Dev) : Dev :=
  if d.get H.twReq = 0 then d else (d.clr H.twReq).rstAssert 4 (d.get H.twReq)

/-- An RST_REQ word with the key, a level and FLUSH. -/
def rstReqWord (lvl : Nat) (flush : Bool) : Nat := 0x5A00 + 16 * b2n flush + lvl

def execRstReqL1 (a : Agent) (flush : Bool) (s : State) : Out := s.okBy a (·.rstReqWrite a (rstReqWord 1 flush))
def execRstReqL2 (a : Agent) (flush : Bool) (s : State) : Out := s.okBy a (·.rstReqWrite a (rstReqWord 2 flush))
def execRstReqBad (a : Agent) (v : Word) (s : State) : Out := s.okBy a (·.rstReqWrite a v.toNat)

/-- The flush completes: the Ledger takes every segment, closes the open block with cause 4 and commits; then the reset. -/
def Dev.flushDone (d : Dev) : Dev :=
  let f := d.get H.flushLvl
  if f = 0 then d else ((d.ledgerDrain 4).puts [(H.flushLvl, 0), (T.flush, 0)]).rstAssert 4 f

def execFlushDone (s : State) : Out := s.ok (·.flushDone)

/-- 100 ms have passed: the reset asserts with what is committed by then. -/
def Dev.flushLate (d : Dev) : Dev :=
  let f := d.get H.flushLvl
  if f = 0 then d else (d.put H.flushLvl 0).rstAssert 4 f

def execFlushTimeout (s : State) : Out := s.ok (fun d => d.onExpiry T.flush Dev.flushLate)

def execClockFailure (s : State) : Out := s.ok (·.rstAssert 6 2)

/-- A write of RST_LOCK_CTRL outside 1-100 is ignored (R111); RST_HOLDCFG above 12 too (R129). -/
def Dev.lockCtrlWrite (d : Dev) (v : Nat) : Dev :=
  if 1 ≤ bits v 0 7 ∧ bits v 0 7 ≤ 100 then d.put F.RST_LOCK_CTRL_LOCKTO (bits v 0 7) else d
def Dev.holdcfgWrite (d : Dev) (v : Nat) : Dev :=
  if bits v 0 4 ≤ 12 then d.put F.RST_HOLDCFG_HOLDTO (bits v 0 4) else d

/-! ### Hold (R122-R126) -/

/-- The guard makes a soft stop on a held port, at the slew held for it (R123). -/
def Dev.holdStop (d : Dev) (p why : Nat) : Dev :=
  if d.inHold && (d.get (H.padGates p) == 1 || d.get (H.padGates p) == 2) then
    (d.puts [(H.padGates p, 3), (H.padOff p, d.now + stopTicks (d.get (H.padSlew p)) + 1), (H.holdWhy p, why),
      (H.holdKind p, 1)]).hwBit F.RST_HOLDSTOP_STOPPED p
  else d

/-- The hold timer expires before the take-over (R123). -/
def execHoldTimerExpiry (s : State) : Out :=
  s.ok (fun d => d.onExpiry T.hold (fun e => Dev.forN 24 (fun p f => f.holdStop p 22) e))

/-- A raw CC open for 10 µs with a current above 1 A, in mA (R125). -/
def execHoldEmergencyDetach (p : Fin 24) (i : Nat) (s : State) : Out :=
  s.ok (fun d => if i > 1000 then d.holdStop p.val 23 else d)

/-- The held receiver latches a Hard_Reset (R126). -/
def execHoldHardResetLatch (p : Fin 24) (s : State) : Out :=
  s.ok (fun d => if d.inHold then d.set1 (H.holdHr p.val) else d)

/-! ### Supplies (R75-R88) -/

/-- L3 is held at power-up until the rails are in regulation (R76); its cause is power-on. -/
def execPowerUp (s : State) : Out := s.ok (fun d => (d.set1 H.por).rstAssert 0 3)

/-- VSYS below its falling threshold; below 2.5 V in the reset makes its cause power-on (R100). -/
def execVsysBrownout (below25 : Bool) (s : State) : Out :=
  s.ok (fun d => (if below25 then d.set1 H.por else d).rstAssert 0 3)

def execVcoreBrownout (s : State) : Out := s.ok (·.rstAssert 1 2)

/-- A supply monitor's status follows its rail: the sticky bit, and the supply event on a change (R80). -/
def Dev.supplyBit (d : Dev) (pin stat sticky : Fld) (low : Bool) : Dev :=
  let d := d.put pin (b2n low)
  if d.get H.rstHeld ≥ 2 ∨ d.bit stat = low then d
  else ((d.put stat (b2n low)).when low (·.hwSet sticky)).raise 213

/-- A sticky supply bit stays 1 while its level is low: it has been 1 since the clear. -/
def Dev.supplySticky (d : Dev) : Dev :=
  ((d.when (d.bit F.SYS_SUPPLY_VINLOW) (·.set1 F.SYS_SUPPLY_VINLOW_S)).when (d.bit F.SYS_SUPPLY_VIOLOW)
    (·.set1 F.SYS_SUPPLY_VIOLOW_S)).when (d.bit F.SYS_SUPPLY_VCONNLOW) (·.set1 F.SYS_SUPPLY_VCONNLOW_S)

def execVinlowChange (low : Bool) (s : State) : Out :=
  s.ok (·.supplyBit H.vinLow F.SYS_SUPPLY_VINLOW F.SYS_SUPPLY_VINLOW_S low)
def execViolowChange (low : Bool) (s : State) : Out :=
  s.ok (·.supplyBit H.vioLow F.SYS_SUPPLY_VIOLOW F.SYS_SUPPLY_VIOLOW_S low)

/-- VCONN low opens every VCONN switch, and a SOP′ or SOP″ message at the head of a queue fails at once (R79). Once it is
back, the conditions of R178 are looked at again. -/
def Dev.vconnlowChange (d : Dev) (low : Bool) : Dev :=
  let d := d.supplyBit H.vconnLow F.SYS_SUPPLY_VCONNLOW F.SYS_SUPPLY_VCONNLOW_S low
  Dev.forN 24 (fun p e =>
    if low then
      let e := if e.get H.rstHeld ≥ 2 then e else e.vconnOff p
      if ((e.txs p).map (·.sop)).headD 0 ≠ 0 then e.txArm p else e
    else if e.get H.rstHeld ≥ 2 then e else e.vconnCheck p) d

def execVconnlowChange (low : Bool) (s : State) : Out := s.ok (·.vconnlowChange low)

/-- The backup domain loses its content (R87). -/
def Dev.backupLost (d : Dev) : Dev :=
  let d := Dev.forN 4 (fun i e => e.puts [(F.RST_CAUSE_CNT i, 0), (F.RST_CAUSE_ALSO i, 0), (F.RST_CAUSE_LEVEL i, 0),
    (F.RST_CAUSE_SOURCE i, 0)]) d
  let d := Dev.forN 16 (fun i e => e.put (F.SYS_BAK_RET_DATA i) 0) d
  d.puts [(F.RST_CNT_COUNT, 0), (F.SYS_BAK_STAT_BAKLOST, 1), (F.SYS_BAK_STAT_TAMPER, 1)]

def execBackupPowerLoss (s : State) : Out := s.ok Dev.backupLost
def execBackupGlitch (s : State) : Out := s.ok (·.set1 F.SYS_BAK_STAT_TAMPER)

/-- The crystal reference comes or goes (R136). -/
def execXokChange (ok : Bool) (s : State) : Out := s.ok (·.put F.TB_STAT_XOK (b2n ok))

end Sys2Proof.Machine
end

