-- ==== Sys2Proof/Machine/Firmware.lean ====
section
/-!
DEFINITION. Sys2Proof/Machine/Firmware.lean: signed images, download and staging, activation, trial and fallback, setting
records (R576-R607). The loading that the boot ROM does stands in Machine/Boot.lean.
-/
namespace Sys2Proof.Machine

/-! ### Bytes of a slot -/

/-- Bytes of image slot 1 (A) or 2 (B), from a byte offset. -/
def Dev.slotBytes (d : Dev) (slot off len : Nat) : List Nat :=
  let pg := d.get F.STO_GEOM_PAGE
  if pg = 0 then []
  else (((List.range (cdiv (off % pg + len) pg)).flatMap (fun i => d.pageImage slot (off / pg + i))).drop (off % pg)).take len

/-- Byte 0 of the slot is erased. -/
def Dev.slotErased (d : Dev) (slot : Nat) : Bool := (d.page slot 0).isEmpty

/-! ### The manifest (R578-R581) -/

/-- Every field of the 64-byte header in its range. -/
def headOk (h : List Nat) : Bool :=
  h.take 4 == [0x53, 0x52, 0x4B, 0x59] && h.getD 4 0 == 1 && between 1 (h.getD 5 0) 32 && recNat h 6 2 == 0x2460 &&
    between 512 (recNat h 8 4) 65536 && decide (h.getD 15 0 ≤ 63) && decide (h.getD 16 0 ≤ 3) && decide (h.getD 17 0 ≤ 60) &&
    decide (1 ≤ h.getD 18 0) && between 1 (h.getD 19 0) 2 && between 1 (h.getD 20 0) 2 && h.getD 21 0 == 0 &&
    decide (recNat h 22 2 ≤ 256) && ((h.drop 28).take 36).all (fun b => b == 0)

def manLen (m : List Nat) : Nat := recNat m 8 4
def manSecver (m : List Nat) : Nat := m.getD 15 0
def manVersion (m : List Nat) : Nat := recNat m 12 3
def manTrial (m : List Nat) : Nat := if m.getD 17 0 = 0 then 10 else m.getD 17 0

/-- The entries of the manifest lie before its key, and their reserved bytes are 0. -/
def manOk (m : List Nat) : Bool :=
  decide (64 + 56 * m.getD 5 0 + 128 ≤ manLen m) && decide (recNat m 24 4 + 20 * recNat m 22 2 + 128 ≤ manLen m) &&
    (List.range (m.getD 5 0)).all (fun k => recNat m (64 + 56 * k + 2) 2 == 0)

/-- A part entry (R579). -/
structure Part where
  typ   : Nat
  index : Nat
  off   : Nat
  len   : Nat
  hash  : List Nat
  load  : Nat
  entry : Nat
  deriving DecidableEq, Repr

def partOf (m : List Nat) (k : Nat) : Part :=
  let e := (m.drop (64 + 56 * k)).take 56
  ⟨e.getD 0 0, e.getD 1 0, recNat e 8 4, recNat e 12 4, (e.drop 16).take 32, recNat e 48 4, recNat e 52 4⟩

def partsOf (m : List Nat) : List Part := (List.range (m.getD 5 0)).map (partOf m)

/-- TYPE, INDEX and LENGTH of R580; a CORE's range and ENTRY in its window. -/
def partOk (x : Part) : Bool :=
  let port := decide (x.index < 24) || x.index == 255
  let inSlot := decide (x.off + x.len ≤ 67108864) && x.off % 4 == 0
  inSlot &&
    (if x.typ = 1 then
      decide (x.index ≤ 5) && decide (1 ≤ x.len) && x.len % 5 == 0 && decide (0x40000 ≤ x.load) &&
        decide (x.load + x.len / 5 ≤ 0xFF000) && decide (x.load ≤ x.entry) && decide (x.entry < x.load + x.len / 5)
    else if x.typ = 2 then port && x.len == 64
    else if x.typ = 3 then port && x.len == 10
    else if x.typ = 4 then port && x.len == 128
    else if x.typ = 5 then x.index == 0 && decide (24 ≤ x.len) && x.len % 24 == 0 && decide (x.len ≤ 576)
    else x.typ == 6 && x.index == 0 && x.len == 16)

/-- Two ranges share no element. -/
def apart (a la b lb : Nat) : Bool := decide (a + la ≤ b) || decide (b + lb ≤ a)

/-- Two parts neither name one pair, nor overlap in the slot or in shared SRAM. -/
def partsApart (x y : Part) : Bool :=
  !(x.typ == y.typ && x.index == y.index) && apart x.off x.len y.off y.len &&
    !(x.typ == 1 && y.typ == 1 && !apart x.load (x.len / 5) y.load (y.len / 5))

def pairwiseOk (r : Part → Part → Bool) : List Part → Bool
  | [] => true
  | x :: l => l.all (r x) && pairwiseOk r l

/-- Check 7 of R582. -/
def layoutOk (m : List Nat) : Bool :=
  let ps := partsOf m
  ps.all (fun x => partOk x && decide (manLen m ≤ x.off)) && pairwiseOk partsApart ps &&
    ps.any (fun x => x.typ == 1 && x.index == 0)

/-- Check 4: the key at the end of the manifest is that of slot KEYIDX, neither empty nor revoked. -/
def keyOk (m : List Nat) : Bool :=
  let i := m.getD 16 0
  let key := (m.drop (manLen m - 128)).take 64
  Config.keyHash i != 0 && !Config.keyRevoked i && beNat (sha256 (4 :: key)) == Config.keyHash i

/-- Check 5: ECDSA over bytes 0 to MLEN − 65. -/
def sigOk (m : List Nat) : Bool :=
  let n := manLen m
  ecdsaVerify (recNat m (n - 128) 32) (recNat m (n - 96) 32) (m.take (n - 64)) (recNat m (n - 64) 32) (recNat m (n - 32) 32)

/-- The words of the admission table of a manifest. -/
def admWords (m : List Nat) : List Nat :=
  (List.range (4 * recNat m 22 2)).map (fun k => recNat m (recNat m 24 4 + 5 * k) 5 % 2 ^ 36)

/-- Its handlers; none where an entry has no tag 0xA. -/
def handlersOf : List Nat → Option (List Handler)
  | w0 :: w1 :: w2 :: w3 :: l =>
    match handlerOf w0 w1 w2 w3, handlersOf l with
    | some h, some hs => some (h :: hs)
    | _, _ => none
  | _ => some []

/-- Check 9: step 1 of R486 for every core. -/
def Dev.admFormOk (d : Dev) (m : List Nat) : Bool :=
  match handlersOf (admWords m) with
  | none => false
  | some hs => hs.all (fun h => decide (h.core ≤ 5)) &&
      (List.range 6).all (fun n => d.admWell n (hs.filter (fun h => h.core == n)))

/-- The preview of R584: steps 2 and 3 of R486 at a floor, with every handler present. -/
def Dev.admPreview (d : Dev) (m : List Nat) (floor : Nat) : Bool :=
  match handlersOf (admWords m) with
  | none => false
  | some hs => (List.range 6).all (fun n =>
      let r := d.admOf hs floor 255 n
      r.getD 2 0 == 0 && r.getD 3 0 == 0)

/-! ### Verification (R582) -/

/-- The manifest of a slot. -/
def Dev.manifest (d : Dev) (slot : Nat) : List Nat := d.slotBytes slot 0 (manLen (d.slotBytes slot 0 64))

/-- The slot is marked invalid (R585). -/
def Dev.slotBad (d : Dev) (slot : Nat) : Bool := d.bootRec.invalid.testBit (slot - 1)

/-- Checks 2 to 8, with check 9 where `adm`; 1 where all pass. An uncorrectable read ends in 10, a marked slot in 12. -/
def Dev.slotRes (d : Dev) (slot : Nat) (readOk adm : Bool) : Nat :=
  let h := d.slotBytes slot 0 64
  if d.slotBad slot then 12
  else if d.slotErased slot then 2
  else if !readOk then 10
  else if !headOk h then 3
  else
    let m := d.manifest slot
    if !manOk m then 3
    else if !keyOk m then 4
    else if !sigOk m then 5
    else if manSecver m < d.get H.rbcnt then 6
    else if !layoutOk m then 7
    else if !(partsOf m).all (fun x => sha256 (d.slotBytes slot x.off x.len) == x.hash) then 8
    else if adm && !d.admFormOk m then 9
    else 1

/-- FW_SLOTA or FW_SLOTB takes a result; SECVER and VERSION follow where a manifest has been checked. -/
def Dev.slotPut (d : Dev) (slot res admok : Nat) : Dev :=
  let h := d.slotBytes slot 0 64
  let seen := !(res == 0 || res == 2 || res == 3 || res == 10 || res == 12)
  let sec := if seen then manSecver h else d.get (if slot = 1 then F.FW_SLOTA_SECVER else F.FW_SLOTB_SECVER)
  let ver := if seen then manVersion h else d.get (if slot = 1 then F.FW_SLOTA_VERSION else F.FW_SLOTB_VERSION)
  if slot = 1 then d.puts [(F.FW_SLOTA_RES, res), (F.FW_SLOTA_ADMOK, admok), (F.FW_SLOTA_SECVER, sec), (F.FW_SLOTA_VERSION, ver)]
  else d.puts [(F.FW_SLOTB_RES, res), (F.FW_SLOTB_ADMOK, admok), (F.FW_SLOTB_SECVER, sec), (F.FW_SLOTB_VERSION, ver)]

def Dev.slotResNow (d : Dev) (slot : Nat) : Nat := d.get (if slot = 1 then F.FW_SLOTA_RES else F.FW_SLOTB_RES)
def Dev.slotAdmok (d : Dev) (slot : Nat) : Bool := d.bit (if slot = 1 then F.FW_SLOTA_ADMOK else F.FW_SLOTB_ADMOK)

/-- FW_SLOTA or FW_SLOTB as read: INVALID is the mark of the boot record, known once the Store has been scanned (R585). -/
def Dev.slotRead (d : Dev) (slot w : Nat) : Nat :=
  if d.bit F.STO_STAT_SCANNED && d.slotBad slot && !w.testBit 30 then w + 2 ^ 30 else w

/-- The slot is marked invalid in the boot record, unless it is so already. -/
def Dev.slotMark (d : Dev) (slot : Nat) : Dev :=
  let r := d.bootRec
  if d.slotBad slot then d else d.bootWrite { r with invalid := withBit r.invalid (slot - 1) true }

/-! ### Requests (R583, R586, R607) -/

/-- A request is refused. -/
def Dev.fwRefuse (d : Dev) (err : Nat) : Dev := (d.put F.FW_STAT_ERR err).fwEvt F.FW_EVT_REFUSED

/-- An image runs; a trial runs. -/
def Dev.imageRuns (d : Dev) : Bool := d.get F.FW_STAT_STATE == 1 || d.get F.FW_STAT_STATE == 2
def Dev.trialRuns (d : Dev) : Bool := d.get F.FW_STAT_STATE == 2
/-- The slot of the running image, and of the last confirmed one. -/
def Dev.runSlot (d : Dev) : Nat := if d.bit F.FW_STAT_STATE then d.get F.FW_STAT_ACTIVE else 0
def Dev.confSlot (d : Dev) : Nat := if d.bootRec.state = 2 then d.bootRec.prev else d.bootRec.active

/-- A slot is writable. -/
def Dev.slotFree (d : Dev) (slot : Nat) : Bool :=
  !(d.mode != 4 && d.runSlot == slot) && !(d.confSlot == slot && d.slotRes slot true true == 1)

/-- A source that FW_DLCMD accepts: the host, and outside Tinder the cores of the running image. -/
def Dev.dlSource (d : Dev) (a : Agent) : Bool := a.isHost || (a.isCore && d.mode != 4 && d.imageRuns)

/-- Pages inside the 64 MiB of a slot. -/
def Dev.slotPages (d : Dev) : Nat := if d.get F.STO_GEOM_PAGE = 0 then 0 else 67108864 / d.get F.STO_GEOM_PAGE

/-- Bound of a STAGE in ticks: 50 ms and 40 ms per MiB of the manifest and its parts, at 80 MHz (R583). -/
def Dev.stageBound (d : Dev) (slot : Nat) : Nat :=
  let h := d.slotBytes slot 0 64
  let m := if headOk h then d.manifest slot else []
  let n := if headOk h then manLen m + ((partsOf m).map (·.len)).sum else 0
  (msTicks 50 + cdiv (n * msTicks 40) 1048576) * 4 / (d.get F.STO_CFG_FREQ + 1)

/-- A write of FW_DLCMD. STORE refuses ERASE and PROGRAM only (R583). -/
def Dev.dlWrite (d : Dev) (a : Agent) (op slot page : Nat) : Dev :=
  let buf := d.get (F.FW_DLARG_BUF a.copy)
  if !d.dlSource a then d.fwRefuse 3
  else if op = 0 ∨ 3 < op ∨ slot = 0 ∨ slot = 3 then d.fwRefuse 9
  else if op ≤ 2 ∧ !d.slotFree slot then d.fwRefuse 5
  else if op = 2 ∧ (d.slotPages ≤ page ∨ !(d.page slot page).isEmpty ∨ buf < 0x40000 ∨ 0xFFFFF < buf + 1023) then d.fwRefuse 9
  else if op ≤ 2 ∧ !d.bit F.STO_STAT_READY then d.fwRefuse 10
  else if d.bit F.FW_STAT_DLBUSY then d.fwRefuse 1
  else
    let d := d.puts [(H.dlOp, op), (H.dlSlot, slot), (H.dlPage, page),
      (H.dlBuf, if op = 3 then d.get F.SVY_FLOOR_FLOOR else buf), (F.FW_STAT_DLBUSY, 1)]
    let d := if op = 3 then d else d.slotPut slot 0 0
    if op = 1 then d.arm T.fwErase (msTicks 2000) else if op = 2 then d.arm T.fwProg (msTicks 1)
    else d.arm T.fwStage (d.stageBound slot)

def execFwErase (a : Agent) (slot : BitVec 2) (s : State) : Out := s.okBy a (·.dlWrite a 1 slot.toNat 0)
def execFwProgram (a : Agent) (slot : BitVec 2) (page : BitVec 15) (s : State) : Out :=
  s.okBy a (·.dlWrite a 2 slot.toNat page.toNat)
def execFwStage (a : Agent) (slot : BitVec 2) (s : State) : Out := s.okBy a (·.dlWrite a 3 slot.toNat 0)
def execFwDlcmdBadOp (a : Agent) (op : BitVec 4) (slot : BitVec 2) (page : BitVec 15) (s : State) : Out :=
  s.okBy a (·.dlWrite a op.toNat slot.toNat page.toNat)

/-- An operation completes. -/
def Dev.dlEnd (d : Dev) : Dev :=
  (d.puts [(H.dlOp, 0), (F.FW_STAT_DLBUSY, 0), (T.fwErase, 0), (T.fwProg, 0), (T.fwStage, 0)]).fwEvt F.FW_EVT_DLDONE

/-- Every block of the slot is erased, the mark is cleared; a block that reports failure is retired (R415, R585). -/
def Dev.eraseDone (d : Dev) (bad : Option Nat) : Dev :=
  if d.get H.dlOp ≠ 1 then d
  else
    let slot := d.get H.dlSlot
    let d := match bad with
      | some b => if b < d.physBlocks slot then d.retire slot b F.STO_EVT_ERSFAIL else d
      | none => d
    let d := (List.range (d.physBlocks slot)).foldl (fun e b => e.eraseBlock slot b) d
    let d := if d.slotBad slot then
        d.bootWrite { d.bootRec with invalid := withBit d.bootRec.invalid (slot - 1) false }
      else d
    d.dlEnd

def execFwEraseDone (bad : Option (BitVec 16)) (s : State) : Out := s.ok (·.eraseDone (bad.map (·.toNat)))

/-- The page-size bytes at BUF, four to a word (R421). -/
def State.bufBytes (s : State) (buf n : Nat) : List Nat :=
  (List.range (n / 4)).flatMap (fun i => beBytes 4 ((s.memRead (buf + i)).toNat % 2 ^ 32))

/-- An engine's read of words of shared SRAM: each that stands with a double-bit error raises the event of R21. -/
def State.eccCheck (s : State) (addr n : Nat) : State :=
  s.onDev (fun d => (List.range n).foldl (fun e i => if s.bad.contains (addr + i) then e.raise 232 else e) d)

/-- The page is programmed; a failure retires its block and the program is repeated in a spare (R415). DESIGN CHOICE (log entry 146):
the bytes at BUF are those that stand there when the program ends. -/
def State.progFw (s : State) (ok : Bool) : State :=
  if s.dev.get H.dlOp ≠ 2 then s
  else (if ok then s.eccCheck (s.dev.get H.dlBuf) (s.dev.get F.STO_GEOM_PAGE / 4) else s).onDev (fun d =>
    if ok then
      (d.setPage (d.get H.dlSlot) (d.get H.dlPage) (s.bufBytes (d.get H.dlBuf) (d.get F.STO_GEOM_PAGE))).dlEnd.set1 H.stgPage
    else (d.retire (d.get H.dlSlot) (d.get H.dlPage / 64) F.STO_EVT_PGMFAIL).arm T.fwProg (msTicks 1))

def execFwProgramDone (ok : Bool) (s : State) : Out := .next (s.progFw ok)

/-- A STAGE ends (R584, R585). A Store that is not READY gives no page back: an uncorrectable read. -/
def Dev.stageDone (d : Dev) (readOk : Bool) : Dev :=
  if d.get H.dlOp ≠ 3 then d
  else
    let slot := d.get H.dlSlot
    let res := if d.bit F.STO_STAT_READY then d.slotRes slot readOk true else 10
    let adm := res == 1 && d.admPreview (d.manifest slot) (d.get H.dlBuf)
    let d := d.slotPut slot res (b2n adm)
    let d := if between 2 res 10 && d.bit F.STO_STAT_READY then d.slotMark slot else d
    (d.fwEvt F.FW_EVT_STAGED).dlEnd

def execFwStageDone (readOk : Bool) (s : State) : Out := s.ok (·.stageDone readOk)

/-! ### Activation (R586, R587) -/

/-- The record that names a slot ACTIVE in a state, its SECVER, SETFMT and VERSION from the slot's manifest. -/
def Dev.recFor (d : Dev) (slot state prev tboot invalid : Nat) : BootRec :=
  let m := d.slotBytes slot 0 64
  let r := d.bootRec
  ⟨slot, state, prev, tboot, invalid, if r.active = 0 then m.getD 19 0 else r.hver, if r.active = 0 then m.getD 20 0 else r.cver,
    manSecver m, m.getD 18 0, if prev = 0 then 0 else (d.slotBytes prev 0 64).getD 18 0, manVersion m⟩

/-- An activation of a slot is under way: TRANS, and its record within 5 ms. -/
def Dev.actBegin (d : Dev) (slot : Nat) (fall : Bool) : Dev :=
  (d.puts [(F.SYS_MODE_TRANS, 1), (H.actSlot, slot), (H.actFall, b2n fall), (H.actStage, 0), (T.trial, 0)]).arm T.act (msTicks 5)

/-- A write of FW_ACT, checked in the order of R586. -/
def Dev.actWrite (d : Dev) (a : Agent) (key slot : Nat) : Dev :=
  if !(a.isHost || (a.isC0 && d.mode != 4 && d.imageRuns)) then d.fwRefuse 3
  else if key ≠ 0xA7 then d.fwRefuse 4
  else if d.bit F.SYS_MODE_TRANS then d.fwRefuse 1
  else if d.mode ≠ 0 ∧ d.mode ≠ 4 then d.fwRefuse 2
  else if d.trialRuns then d.fwRefuse 8
  else if d.bit F.FW_STAT_DLBUSY then d.fwRefuse 1
  else if slot = 0 ∨ slot = 3 ∨ d.runSlot = slot ∨ d.slotResNow slot ≠ 1 then d.fwRefuse 5
  else if !d.slotAdmok slot then d.fwRefuse 6
  else if !d.bit F.SVY_STAT_CERT then d.fwRefuse 7
  else d.actBegin slot false

def execFwAct (a : Agent) (key : BitVec 8) (slot : BitVec 2) (s : State) : Out :=
  s.okBy a (·.actWrite a key.toNat slot.toNat)

/-- The activation point: the record's commit word is programmed; 10 µs later the L1 asserts (R587). A return to the previous slot
names it confirmed, and the failed one invalid (R595). -/
def Dev.actPoint (d : Dev) : Dev :=
  if d.bit H.actStage then (d.puts [(H.actStage, 0), (H.booting, 2)]).rstAssert 4 1
  else
  let slot := d.get H.actSlot
  let r := d.bootRec
  let new := if d.bit H.actFall then d.recFor slot 1 slot 0 (withBit r.invalid (r.active - 1) true)
    else d.recFor slot 2 d.confSlot 0 r.invalid
  ((d.bootWrite new).puts [(F.FW_STAT_STATE, 3), (H.actStage, 1)]).arm T.act (usTicks 10)

def execActivationPoint (s : State) : Out := s.ok (fun d => d.onExpiry T.act Dev.actPoint)

/-! ### Trial, confirmation, expiry (R591-R595) -/

/-- Ticks of MIN minutes. -/
def trialTicks (min : Nat) : Nat := min * 60 * 64000000

/-- The trial of an image begins. -/
def Dev.trialBegin (d : Dev) (min : Nat) : Dev :=
  (d.puts [(F.FW_TRIAL_MIN, min), (H.trialStart, d.now), (H.trialOver, 0)]).arm T.trial (trialTicks min)

/-- LEFT as read: whole seconds remaining, a started one counted. -/
def Dev.readTrialLeft (d : Dev) : Nat := if d.armed T.trial then cdiv (d.left T.trial) 64000000 else 0

/-- A LOG entry whose TYPE and DATA the spec does not state. -/
def Dev.logOpen (d : Dev) : Dev :=
  let r := d.fresh 8
  let e0 := r.2.fresh 32
  let e1 := e0.2.fresh 32
  let e2 := e1.2.fresh 32
  let e3 := e2.2.fresh 32
  (e3.2.logAppend r.1 0xF0 (beBytes 4 e0.1 ++ beBytes 4 e1.1 ++ beBytes 4 e2.1 ++ beBytes 4 e3.1)).pump

/-- The trial expires on this tick, or has expired on it. -/
def Dev.trialEnds (d : Dev) : Bool :=
  (d.armed T.trial && decide (d.get T.trial ≤ d.now + 1)) || d.get H.trialEndAt == d.now + 1

/-- A trial is running, or one has ended on this tick. -/
def Dev.trialSeen (d : Dev) : Bool := (d.trialRuns && !d.bit H.trialOver) || d.get H.trialEndAt == d.now + 1

/-- A write of FW_CONFIRM (R592); on the tick of the expiry it is refused with LATE (R593). -/
def Dev.confirm (d : Dev) (a : Agent) (key : Nat) : Dev :=
  if a = .tap then d.fwRefuse 3
  else if !d.trialSeen then d.fwRefuse 8
  else if key ≠ 0x3C then d.fwRefuse 4
  else if d.trialEnds then d.fwRefuse 11
  else
    let r := d.bootRec
    let d := d.bootWrite { r with state := 1, prev := r.active, tboot := 0, fmtP := r.fmtA }
    let d := d.puts [(H.rbcnt, max (d.get H.rbcnt) r.secver), (F.FW_STAT_STATE, 1), (T.trial, 0), (H.fallPend, 0)]
    (d.fwEvt F.FW_EVT_CONFIRMED).logOpen

def execFwConfirm (a : Agent) (key : BitVec 8) (s : State) : Out := s.okBy a (·.confirm a key.toNat)

/-- The failed slot is named invalid with ACTIVE = PREV confirmed, and Tinder is entered (R594). -/
def Dev.trialTinder (d : Dev) : Dev :=
  let r := d.bootRec
  (d.bootWrite (d.recFor r.prev 1 r.prev 0 (withBit r.invalid (r.active - 1) true))).tinderEnter 7

/-- The return to the previous slot begins, where that image still verifies (R595). -/
def Dev.autoFall (d : Dev) : Dev :=
  let r := d.bootRec
  if r.prev ≠ 0 ∧ d.slotRes r.prev true true = 1 then (d.clr H.fallPend).actBegin r.prev true else d.trialTinder

/-- The trial expires; in Kindling a return waits for its end. -/
def Dev.trialEnd (d : Dev) : Dev :=
  let d := (d.fwEvt F.FW_EVT_TRIALEXP).puts [(H.trialOver, 1), (H.trialEndAt, d.now + 1)]
  let slot := d.bootRec.active
  let d := if slot = 0 then d else d.put (if slot = 1 then F.FW_SLOTA_INVALID else F.FW_SLOTB_INVALID) 1
  if !d.bit F.FW_COMPAT_AUTOFALL then d.trialTinder
  else if d.mode = 1 then d.set1 H.fallPend
  else d.autoFall

/-- An expiry in Banked, or during Banked entry, first wakes the device (R46). -/
def Dev.trialExpire (d : Dev) : Dev :=
  let d := if d.mode = 3 ∨ d.bit H.bankStage then d.wakeNow (d.get H.wakeBits ||| 2 ^ 13) else d
  if d.trialRuns && !d.bit H.trialOver then d.trialEnd else d

def execTrialExpiry (s : State) : Out := s.ok (fun d => d.onExpiry T.trial Dev.trialExpire)

/-- A write of FW_TRIAL.MIN (R591). -/
def Dev.trialWrite (d : Dev) (v : Nat) : Dev :=
  let min := bits v 0 6
  if min = 0 ∨ 60 < min then d
  else
    let d := d.put F.FW_TRIAL_MIN min
    if d.armed T.trial then
      if d.get H.trialStart + trialTicks min ≤ d.now then (d.stop T.trial).trialExpire
      else d.put T.trial (d.get H.trialStart + trialTicks min + 1)
    else d

def execFwTrialWrite (v : Word) (s : State) : Out := s.ok (·.trialWrite v.toNat)

/-! ### Setting records (R600) -/

/-- A write of FW_SETPUT: bytes 0-59 come from fifteen of the sixteen words named. -/
def State.setPut (s : State) (a : Agent) (addr : Nat) : State :=
  let s := s.eccCheck addr 16
  let rom := s.dev.isRom a
  let b := (List.range 15).flatMap (fun i =>
    beBytes 4 (if 0x40000 ≤ addr + i ∧ addr + i ≤ 0xFFFFF then (s.memRead (addr + i)).toNat % 2 ^ 32 else 0))
  let fmt := setFmt b
  let bad := b.headD 0 != 0x53 || decide (52 < setLen b) || !(fmt == 0 || (s.dev.imageRuns && fmt == s.dev.get F.FW_STAT_SETFMT)) ||
    (fmt == 0 && setKey b != 2 && !rom) || (a.isHost && s.dev.mode == 4) || !s.dev.bit F.STO_STAT_READY
  s.onDev (fun d => if bad then d.fwEvt F.FW_EVT_SETBAD else (d.setAppendBody b).fwEvt F.FW_EVT_SETDONE)

def execFwSetput (a : Agent) (addr : BitVec 22) (s : State) : Out := .next ((s.onDev (·.touch a)).setPut a addr.toNat)

/-- OTP_FWKEY (R576). -/
def readFwkey : Nat :=
  ((List.range 4).map (fun i => b2n (Config.keyRevoked i) * 2 ^ (4 + i) + b2n (Config.keyHash i != 0) * 2 ^ i)).sum

end Sys2Proof.Machine
end

