-- ==== Sys2Proof/Machine/Boot.lean ====
section
/-!
DEFINITION. Sys2Proof/Machine/Boot.lean: what the boot ROM on C0 does when it loads an image: at an activation, at a start
from reset, and after an L1 (R588-R590, R596, R597, R604-R606). One command stands for the whole of it.
-/
namespace Sys2Proof.Machine

/-! ### Loading (R588 steps 2 to 4, R597) -/

/-- The part of a type that serves an index: its own entry, or the 0xFF entry of a port-indexed type. -/
def partFor (ps : List Part) (typ i : Nat) : Option Part :=
  match ps.find? (fun x => x.typ == typ && x.index == i) with
  | some x => some x
  | none => ps.find? (fun x => x.typ == typ && x.index == 255 && typ != 1)

/-- The words of a CORE part's bytes (R499). -/
def wordsOf : Nat → List Nat → List Word
  | 0, _ => []
  | n + 1, l => BitVec.ofNat 36 (beNat (l.take 5)) :: wordsOf n (l.drop 5)

/-- Every CORE part stands in shared SRAM. -/
def State.loadCores (s : State) (slot : Nat) : List Part → State
  | [] => s
  | x :: l =>
    if x.typ = 1 then
      State.loadCores (s.memWrites x.load (wordsOf (x.len / 5) (s.dev.slotBytes slot x.off x.len))) slot l
    else State.loadCores s slot l

/-- DDT and HPMPROF contents of a port; zeros where no part covers it. -/
def Dev.loadPort (d : Dev) (slot : Nat) (ps : List Part) (p : Nat) : Dev :=
  let ddt := match partFor ps 2 p with
    | some x => d.slotBytes slot x.off x.len
    | none => []
  let prof := match partFor ps 4 p with
    | some x => d.slotBytes slot x.off x.len
    | none => []
  let d := Dev.forN 16 (fun i e => e.ddtPut p i (recNat ddt (4 * i) 4)) d
  Dev.forN 16 (fun k e => (e.profPutA p k (recNat prof (8 * k) 4)).profPutB p k (recNat prof (8 * k + 4) 4)) d

/-- The guard caps of a port (R326). -/
def Dev.loadCap (d : Dev) (slot : Nat) (ps : List Part) (p : Nat) : Dev :=
  match partFor ps 3 p with
  | none => d
  | some x =>
    let b := d.slotBytes slot x.off x.len
    (d.puts [(F.GRD_CAP0_LIMITS p, layoutWord 0 (recNat b 0 5)), (F.GRD_CAP1_LIMITS p, recNat b 5 5)]).effUpdate p

/-- Board serial and constants of a calibration entry in the layout of bytes 9-30 of a calibration record. -/
def calData (e : List Nat) : List Nat := (e.drop 2).take 22

/-- Calibration record of port nn in force, without SEQ. -/
def Dev.calSetting (d : Dev) (p : Nat) : List Nat := ((d.setting 0 (0x20 + p)).getD []).drop 8

/-- A calibration entry is applied to its port (R376), and recorded where it differs from the entry last recorded (R602). -/
def Dev.loadCal (d : Dev) (cver : Nat) (e : List Nat) : Dev :=
  let p := e.headD 0
  if 24 ≤ p then d
  else
    let old := [0, 1, 2, 3].map (fun k => d.get (calFld p k))
    let d := d.puts [(calFld p 0, recNat e 10 4), (calFld p 1, recNat e 14 3), (calFld p 2, recNat e 17 4),
      (calFld p 3, recNat e 21 3), (F.MTR_STAT_CALSRC p, 1), (H.mtrCalSer p, recNat e 2 8)]
    let d := if [0, 1, 2, 3].map (fun k => d.get (calFld p k)) = old then d else d.calChange p
    if ((d.calSetting p).drop 1).take 22 = calData e then d
    else d.setAppend 0 (0x20 + p) (cver :: calData e ++ (if cver = 2 then [d.get (F.MTR_CTRL_CREEP p)] else []))

/-- The entries of a CALTAB part. -/
def calEntries : Nat → List Nat → List (List Nat)
  | 0, _ => []
  | n + 1, l => l.take 24 :: calEntries n (l.drop 24)

/-- The admission table and RUN (R484). -/
def Dev.loadAdm (d : Dev) (m : List Nat) : Dev :=
  let ws := admWords m ++ [0]
  let d := Dev.forN (min 1024 ws.length) (fun i e => e.stgWrite (admBase + i) (ws.getD i 0)) d
  (d.put F.FAB_ADMPTR_PTR (admWords m).length).admRunNow

/-- Surveyor records restored after an L3 (R573, R597). -/
def Dev.loadTrend (d : Dev) : Dev :=
  let d := match d.setting 0 4 with
    | none => d
    | some b => d.puts [(F.SVY_TRN0_N, recNat b 8 5 / 2 ^ 20), (F.SVY_TRN0_STYH, recNat b 8 5 % 2 ^ 12),
        (F.SVY_TRN1_SUM, recNat b 13 5), (F.SVY_TRN2_SUM, recNat b 18 5),
        (F.SVY_MARGIN_VALID, b2n (decide (30 ≤ recNat b 8 5 / 2 ^ 20)))]
  Dev.forN 24 (fun p e =>
    match e.setting 0 (0x10 + p / 4) with
    | none => e
    | some b =>
      let w := recNat b (8 + 4 * (p % 4)) 4
      e.puts [(F.SVYP_PBASE_RA p, bits w 16 12), (F.SVYP_PBASE_RB p, bits w 4 12), (F.SVYP_PBASE_VALID p, bits w 3 1),
        (F.SVYP_PBASE_BDAYS p, bits w 0 3), (H.pbA p, bits w 16 12 * bits w 0 3), (H.pbB p, bits w 4 12 * bits w 0 3)]) d

/-- LGR_CTRL, MTR_IVAL and ACKDL from the ledger header record, CREEP from calibration records of version 2 (R597). -/
def Dev.loadSettings (d : Dev) : Dev :=
  let d := match d.setting 0 2 with
    | none => d
    | some b =>
      let d := (d.lgrCtrlWrite (recNat b 9 5)).ivalWrite (b.getD 14 0)
      if b.getD 8 0 = 2 then d.put F.BUD_CTRL_ACKDL (b.getD 15 0) else d
  Dev.forN 24 (fun p e =>
    match e.setting 0 (0x20 + p) with
    | none => e
    | some b => if b.getD 8 0 = 2 then e.put (F.MTR_CTRL_CREEP p) (b.getD 31 0) else e) d

/-- Steps 2 to 4 of R588; at a boot the settings too, and at an L3, while the RWL fields are open, GUARDCAP, CALTAB and the
Surveyor records. -/
def State.loadImage (s : State) (slot : Nat) (boot : Bool) : State :=
  let m := s.dev.manifest slot
  let ps := partsOf m
  let s := s.loadCores slot ps
  s.onDev (fun d =>
    let d := Dev.forN 24 (fun p e => e.loadPort slot ps p) d
    let d :=
      if boot && !d.bit H.rwlLock then
        let d := Dev.forN 24 (fun p e => e.loadCap slot ps p) d
        let d := match partFor ps 5 0 with
          | none => d
          | some x => (calEntries (x.len / 24) (d.slotBytes slot x.off x.len)).foldl (fun e c => e.loadCal (m.getD 20 0) c) d
        if d.bit H.dayDone then d else d.loadTrend
      else d
    let d := if boot then d.loadSettings else d
    d.loadAdm m)

/-! ### Migration (R604, R605) -/

/-- A device record appended in a version: the one kept in it unchanged, otherwise the one in force converted, fields that
the version adds at their reset values. -/
def Dev.migrateKey (d : Dev) (key ver n1 : Nat) (added : List Nat) : Dev :=
  match d.setting 0 key with
  | none => d
  | some b =>
    let kept := newest (d.setRecs.filter (fun c => setFmt c == 0 && setKey c == key && setLen c != 0 && setVer c == ver))
    match kept with
    | some c => d.setAppend 0 key ((c.drop 8).take (setLen c))
    | none => d.setAppend 0 key (ver :: (b.drop 9).take n1 ++ (if ver = 2 then added else []))

/-- The records follow the image's HVER and CVER, and a boot record with the new versions completes the migration. -/
def Dev.migrate (d : Dev) (hver cver : Nat) : Dev :=
  let r := d.bootRec
  if r.hver = hver ∧ r.cver = cver then d.clr F.FW_STAT_MIGRATED
  else
    let d := if r.hver = hver then d
      else (d.devRecord 4 d.epoch d.tb d.epoch d.tb [r.hver, hver]).migrateKey 2 hver 6 [F.BUD_CTRL_ACKDL.rst]
    let d := if r.cver = cver then d
      else Dev.forN 24 (fun p e => e.migrateKey (0x20 + p) cver 22 [(F.MTR_CTRL_CREEP p).rst]) d
    ((d.bootWrite { r with hver := hver, cver := cver }).set1 F.FW_STAT_MIGRATED).fwEvt F.FW_EVT_MIGRATE

/-! ### Starting the image (R588 steps 5 to 7, R606) -/

/-- A TAMPERCLR part for this device and this count of resets clears TAMPER. -/
def Dev.tamperClear (d : Dev) (slot : Nat) (ps : List Part) : Dev :=
  match partFor ps 6 0 with
  | none => d
  | some x =>
    let b := d.slotBytes slot x.off x.len
    if b.take 8 = devId ∧ recNat b 8 3 = d.get F.RST_CNT_COUNT then
      ((d.clr F.SYS_BAK_STAT_TAMPER).fwEvt F.FW_EVT_TAMPERCLR).logOpen
    else d

/-- RST_CORE_EN is written for each core with a CORE part, and C0 jumps to its ENTRY; what A, X and Y of C0 then hold is
open. The RWL fields lock (R10). -/
def Dev.imageStart (d : Dev) (ps : List Part) : Dev :=
  let d := Dev.forN 5 (fun i e =>
    match partFor ps 1 (i + 1) with
    | none => e
    | some x => ((e.putBit F.RST_CORE_EN_EN i true).put (H.coreEntry (i + 1)) x.entry).coreStart (i + 1) x.entry) d
  let d := match partFor ps 1 0 with
    | none => d
    | some x => (((d.coreEnter 0 x.entry).putFree (H.coreA 0)).putFree (H.coreX 0)).putFree (H.coreY 0)
  d.set1 H.rwlLock

/-- Steps 5 to 7. -/
def Dev.imageRun (d : Dev) (slot state : Nat) : Dev :=
  let m := d.manifest slot
  let d := (d.migrate (m.getD 19 0) (m.getD 20 0)).tamperClear slot (partsOf m)
  (d.imageStart (partsOf m)).puts [(F.FW_STAT_STATE, state), (F.FW_STAT_ACTIVE, slot), (F.FW_STAT_SECVER, manSecver m),
    (F.FW_STAT_SETFMT, m.getD 18 0), (H.booting, 0), (H.bootWait, 0), (T.boot, 0)]

/-! ### Activation complete (R588-R590, R595) -/

/-- The previous image is to be entered in place of another: it is named ACTIVE and confirmed, the other invalid. -/
def Dev.fallRecord (d : Dev) (slot bad : Nat) : Dev :=
  ((d.bootWrite (d.recFor slot 1 slot 0 (withBit d.bootRec.invalid (bad - 1) true))).fwEvt F.FW_EVT_FALLBACK).set1 F.FW_STAT_FELLBACK

/-- The previous image is entered in place of another: loaded and started. -/
def State.fallTo (s : State) (slot bad : Nat) : State :=
  ((s.onDev (·.fallRecord slot bad)).loadImage slot false).onDev (·.imageRun slot 1)

/-- An activation that a hash mismatch abandons: the slot is marked invalid and the previous image is loaded again; out of
Tinder, or with no image that loads, the device stays or ends in Tinder. -/
def State.actFail (s : State) (slot : Nat) : State :=
  let prev := s.dev.bootRec.prev
  if s.dev.bit H.actFall then s.onDev (fun d => (d.slotMark slot).tinderEnter 7)
  else if s.dev.mode = 4 then
    s.onDev (fun d => ((((d.bootWrite (d.recFor prev 1 prev 0 (withBit d.bootRec.invalid (slot - 1) true))).fwEvt
      F.FW_EVT_FALLBACK).puts [(F.SYS_MODE_TRANS, 0), (F.FW_STAT_STATE, 0), (H.booting, 0), (H.actSlot, 0)]).bootCores 6))
  else if prev ≠ 0 ∧ s.dev.slotRes prev true false = 1 then
    (s.fallTo prev slot).onDev (fun d => d.puts [(F.SYS_MODE_TRANS, 0), (H.actSlot, 0)])
  else s.onDev (fun d => (d.slotMark slot).tinderEnter 8)

/-- The activation completes: Steady with CAUSE 9, ACT, and the trial of a new image. -/
def State.actDone (s : State) (readOk : Bool) : State :=
  let slot := s.dev.get H.actSlot
  if s.dev.slotRes slot readOk false ≠ 1 then s.actFail slot
  else
    let fall := s.dev.bit H.actFall
    let s := (s.loadImage slot false).onDev (·.imageRun slot (if fall then 1 else 2))
    s.onDev (fun d =>
      let d := (d.puts [(H.actSlot, 0), (H.actFall, 0), (F.FW_STAT_FELLBACK, b2n fall)]).modeEnter 0 9
      let d := d.fwEvt F.FW_EVT_ACT
      if fall then d.fwEvt F.FW_EVT_FALLBACK else d.trialBegin (manTrial (d.manifest slot)))

/-! ### Start from reset (R596, R597) -/

/-- Utilisation or demand fails for some core over the table loaded, at the floor certified now. -/
def Dev.admNowFails (d : Dev) : Bool :=
  (List.range 6).any (fun n =>
    let r := d.admCore (d.get F.SVY_FLOOR_FLOOR) (d.get F.SVY_SHED_LEVEL) n
    r.getD 2 0 != 0 || r.getD 3 0 != 0)

/-- The image of a slot is started with the state of the boot record; a trial is a full one. RBCNT is raised where a
confirmation was cut off before it (R592). -/
def Dev.bootStart (d : Dev) (slot : Nat) : Dev :=
  let r := d.bootRec
  let m := d.manifest slot
  let d := d.puts [(F.FW_STAT_PREV, r.prev), (F.FW_STAT_TBOOT, r.tboot)]
  let d := d.imageRun slot r.state
  if r.state = 2 then d.trialBegin (manTrial m) else d.put H.rbcnt (max (d.get H.rbcnt) (manSecver m))

/-- A slot that verifies is loaded; a failing utilisation or demand check waits up to 100 ms for the Surveyor. -/
def State.bootTake (s : State) (slot : Nat) : State :=
  let s := s.loadImage slot true
  if s.dev.admNowFails then s.onDev (fun d => (d.puts [(H.bootWait, 1), (H.actSlot, slot)]).arm T.boot (msTicks 100))
  else s.onDev (·.bootStart slot)

/-- PREV is booted in place of a slot, or Tinder is entered where PREV fails too. -/
def State.bootPrev (s : State) (slot prev : Nat) (readOk : Bool) : State :=
  let res := s.dev.slotRes prev readOk true
  let s := s.onDev (·.slotPut prev res 0)
  if res = 1 then (s.onDev (·.fallRecord prev slot)).bootTake prev else s.onDev (fun d => (d.slotMark prev).bootTinder 8)

/-- Loading fails: the slot is marked invalid; PREV boots with AUTOFALL = 1, and otherwise Tinder is entered. -/
def State.bootFail (s : State) (slot : Nat) : State :=
  let s := s.onDev (·.slotMark slot)
  let prev := s.dev.bootRec.prev
  if s.dev.bit F.FW_COMPAT_AUTOFALL ∧ prev ≠ 0 ∧ prev ≠ slot then s.bootPrev slot prev true
  else s.onDev (·.bootTinder 8)

/-- The chosen slot is loaded. -/
def State.bootLoad (s : State) (slot : Nat) (readOk : Bool) : State :=
  let res := s.dev.slotRes slot readOk true
  let s := s.onDev (·.slotPut slot res 0)
  if res ≠ 1 then s.bootFail slot else s.bootTake slot

/-- The boot ROM chooses a slot from the boot record. -/
def State.boot (s : State) (readOk : Bool) : State :=
  let r := s.dev.bootRec
  if r.active = 0 then
    let a := s.dev.slotRes 1 readOk true
    let b := s.dev.slotRes 2 readOk true
    let slot := if a = 1 then 1 else if b = 1 then 2 else 0
    let s := s.onDev (fun d => let d := d.slotPut 1 a 0; if a = 1 then d else d.slotPut 2 b 0)
    if slot = 0 then s.onDev (·.bootTinder 8)
    else (s.onDev (fun d => d.bootWrite (d.recFor slot 1 slot 0 r.invalid))).bootLoad slot readOk
  else if r.state ≠ 2 then s.bootLoad r.active readOk
  else if r.tboot + 1 < 3 then (s.onDev (·.bootWrite { r with tboot := r.tboot + 1 })).bootLoad r.active readOk
  else
    let s := s.onDev (·.fwEvt F.FW_EVT_TRIALEXP)
    if s.dev.bit F.FW_COMPAT_AUTOFALL ∧ r.prev ≠ 0 ∧ s.dev.slotRes r.prev readOk true = 1 then
      (s.onDev (·.fallRecord r.prev r.active)).bootTake r.prev
    else s.onDev (·.trialTinder)

/-- The wait for an evaluation ends: the image starts once no check fails; at 100 ms Tinder is entered with CAUSE 12. -/
def State.bootRetry (s : State) : State :=
  let due := decide (s.dev.get T.boot ≤ s.dev.now + 1)
  if !s.dev.admNowFails then s.onDev (fun d => (d.put H.actSlot 0).bootStart (d.get H.actSlot))
  else if due then s.onDev (fun d => (d.puts [(H.bootWait, 0), (T.boot, 0)]).bootTinder 12)
  else s

/-- After an L1 that no activation caused, the running image is loaded and started again; the mode and a trial go on. Where it does not
verify, no rule says more and R33 has no path: C0 stays in the boot ROM, which tries again (DESIGN CHOICE, log entry 35). -/
def State.restart (s : State) (readOk : Bool) : State :=
  let slot := s.dev.get F.FW_STAT_ACTIVE
  if s.dev.slotRes slot readOk false ≠ 1 then s
  else (s.loadImage slot false).onDev (fun d => d.imageRun slot (d.get F.FW_STAT_STATE))

/-- The boot ROM has loaded an image; `readOk` where the Store has given back what stands in it. A boot waits for the Store's
scan and a certified floor (R597). -/
def State.activationComplete (s : State) (readOk : Bool) : State :=
  let d := s.dev
  if d.bit H.rstHeld || d.mode == 2 || d.mode == 3 then s
  else if d.get H.booting = 2 then s.actDone readOk
  else if d.get H.booting = 3 then s.restart readOk
  else if d.get H.booting = 1 ∧ d.bit F.STO_STAT_SCANNED ∧ d.bit F.SVY_STAT_CERT then
    if d.bit H.bootWait then s.bootRetry else s.boot readOk
  else s

def execActivationComplete (readOk : Bool) (s : State) : Out := .next (s.activationComplete readOk)

end Sys2Proof.Machine
end

