-- ==== Sys2Proof/Machine/Order.lean ====
section
/-!
DEFINITION. Sys2Proof/Machine/Order.lean: what falls on one tick. A tick passes only when no command waits, so the commands that
wait fall on the tick of the command that runs; where the spec orders accesses or events of one tick otherwise than they wait,
a command looks at those that wait behind it (R30, R31, R187, R227, R228, R237, R543).
-/
namespace Sys2Proof.Machine

/-! ### Who writes where -/

/-- The part of a written word that goes to a field. -/
def Fld.part (f : Fld) (v : Nat) : Nat := bits v f.lo f.w

/-- The word address of a window entry. -/
def Dev.windowAddr (d : Dev) (i : Nat) : Nat :=
  if i < 0xF8 then (d.get F.HOST_WBASE_BASE + i) % 2 ^ 22 else 0x200C00 + (i - 0xF8)

/-- Core n executes: it is running, and no reset is asserted. -/
def Dev.coreRuns (d : Dev) (n : Nat) : Bool := d.coreState n == 1 && d.get H.rstHeld == 0

def Dev.idxX (d : Dev) (n : Nat) : Nat := d.get (H.coreX n)
def Dev.idxY (d : Dev) (n : Nat) : Nat := d.get (H.coreY n)

/-- Effective address in format M: direct, X-indexed, Y-indexed; field for mode I. -/
def Dev.ea (d : Dev) (n : Nat) (mode : BitVec 2) (field : BitVec 22) : Nat :=
  if mode = 1 then (d.idxX n + field.toNat) % 2 ^ 22
  else if mode = 2 then (d.idxY n + field.toNat) % 2 ^ 22
  else field.toNat

/-- Address of the operand in format B. -/
def Dev.eaB (d : Dev) (n : Nat) (bmode : BitVec 2) (operand : BitVec 12) : Nat :=
  if bmode = 1 then (d.idxX n + (operand.signExtend 22).toNat) % 2 ^ 22
  else if bmode = 2 then (d.idxY n + (operand.signExtend 22).toNat) % 2 ^ 22
  else operand.toNat

/-- A command that waits writes the word at an address for an agent, with this value. -/
def State.writeBy (s : State) (addr : Nat) : Instr → Option (Agent × Nat)
  | .registerWrite a x v => if x.toNat = addr then some (a, v.toNat) else none
  | .spiWrite x ws _ =>
    if x.toNat ≤ addr ∧ addr < x.toNat + ws.length then some (.spi, (ws.getD (addr - x.toNat) 0).toNat) else none
  | .tw0WordWrite v => if s.dev.windowAddr (s.dev.get (F.TW_STAT_PTR 0)) = addr then some (.tw0, v.toNat) else none
  | .mbxInWrite a v => if addr = 0x200C03 then some (a, v.toNat) else none
  | .mbxOutWrite a v => if addr = 0x200C05 then some (a, v.toNat) else none
  | .infullClear a => if addr = 0x200C06 then some (a, 1) else none
  | .outfullClear a => if addr = 0x200C06 then some (a, 2) else none
  | .sta n mode _ f => if s.dev.coreRuns n && s.dev.ea n mode f == addr then some (.core n, s.dev.get (H.coreA n)) else none
  | .stx n mode _ f => if s.dev.coreRuns n && s.dev.ea n mode f == addr then some (.core n, s.dev.idxX n) else none
  | .sty n mode _ f => if s.dev.coreRuns n && s.dev.ea n mode f == addr then some (.core n, s.dev.idxY n) else none
  | _ => none

/-- A command waits that writes an address for an agent which R30 puts before a. -/
def State.writeAhead (s : State) (a : Agent) (addr : Nat) (p : Nat → Bool) : Bool :=
  s.pending.any (fun c =>
    match s.writeBy addr c with
    | some (b, v) => decide (b.rank < a.rank) && p v
    | none => false)

/-- The instruction of core n reads the word at an address. -/
def Dev.loads (d : Dev) (n : Nat) (mode : BitVec 2) (field : BitVec 22) (addr : Nat) : Bool :=
  d.coreRuns n && mode != 3 && d.ea n mode field == addr

/-- The words of k addresses from ea, which wrap at 2^22, hold this address. -/
def within (ea k addr : Nat) : Bool := decide ((addr + 2 ^ 22 - ea) % 2 ^ 22 < k)

/-- A TAS or RECV that waits changes the word at an address: the core, and the new word from the old one. -/
def State.updateBy (s : State) (addr : Nat) : Instr → Option (Fin 6 × (Word → Word))
  | .tas n m _ f => if s.dev.loads n m f addr then some (n, fun w => w ||| BitVec.ofNat 36 (2 ^ 35)) else none
  | .recv n m x f =>
    match s.dev.chan x.toNat with
    | g :: _ =>
      if s.dev.coreRuns n && m != 3 && s.dev.get (H.chDst x.toNat) == n.val && decide (g.enq < s.dev.now) &&
          within (s.dev.ea n m f) g.words.length addr then
        some (n, fun _ => g.words.getD ((addr + 2 ^ 22 - s.dev.ea n m f) % 2 ^ 22) 0)
      else none
    | [] => none
  | _ => none

/-- A command that waits reads the word at an address. -/
def State.readBy (s : State) (addr : Nat) : Instr → Bool
  | .spiRead x _ _ => x.toNat == addr
  | .tw0WordRead => s.dev.windowAddr (s.dev.get (F.TW_STAT_PTR 0)) == addr
  | .capTbRead _ i => 0x200220 + i.val == addr
  | .lda n m _ f => s.dev.loads n m f addr
  | .ldx n m _ f => s.dev.loads n m f addr
  | .ldy n m _ f => s.dev.loads n m f addr
  | .add n m _ f => s.dev.loads n m f addr
  | .sub n m _ f => s.dev.loads n m f addr
  | .rsb n m _ f => s.dev.loads n m f addr
  | .and n m _ f => s.dev.loads n m f addr
  | .or n m _ f => s.dev.loads n m f addr
  | .xor n m _ f => s.dev.loads n m f addr
  | .bic n m _ f => s.dev.loads n m f addr
  | .sh n m _ f => s.dev.loads n m f addr
  | .mul n m _ f => s.dev.loads n m f addr
  | .div n m _ f => s.dev.loads n m f addr
  | .cb n _ bm o _ => s.dev.coreRuns n && bm != 3 && s.dev.eaB n bm o == addr
  | .jmp n m x f => x == 1 && s.dev.loads n m f addr
  | .call n m x f => x == 1 && s.dev.loads n m f addr
  | .send n m _ f => s.dev.coreRuns n && m != 3 && within (s.dev.ea n m f) (s.dev.get (H.coreA n) % 16 + 1) addr
  | .wait n m _ f => s.dev.coreRuns n && m != 3 && within (s.dev.ea n m f) 2 addr
  | _ => false

/-- The place in R30 of the agent of a command that reads. -/
def readerRank : Instr → Nat
  | .spiRead _ _ _ => 0
  | .tw0WordRead => 1
  | .lda n _ _ _ | .ldx n _ _ _ | .ldy n _ _ _ | .add n _ _ _ | .sub n _ _ _ | .rsb n _ _ _ | .and n _ _ _ | .or n _ _ _
  | .xor n _ _ _ | .bic n _ _ _ | .sh n _ _ _ | .mul n _ _ _ | .div n _ _ _ | .cb n _ _ _ _ | .jmp n _ _ _ | .call n _ _ _
  | .send n _ _ _ | .wait n _ _ _ => n.val + 2
  | _ => 9

/-- A change of the level of a capture input; a read of its CAPnn_TB on the same tick comes before the capture (R159). -/
def execCapEdgeAccepted (i : Fin 12) (level : Bool) (s : State) : Out :=
  s.ok (·.capLevel i.val level (s.pending.any (s.readBy (0x200220 + i.val))))

/-! ### Answers to asks (R227, R228) -/

/-- Address of PRTnn_ASK_ANS of port p. -/
def askAnsAddr (p : Nat) : Nat := 0x201010 + p * 128

/-- A command that waits cancels the outstanding ask of port p: Soft_Reset, Hard_Reset, or Disabled; a detach has been taken first. -/
def Dev.cancelsAsk (d : Dev) (p : Nat) : Instr → Bool
  | .rxSoftReset q _ => q.val == p && d.rxOn p
  | .rxHardReset q => q.val == p && d.rxOn p
  | .prtEnable q v => q.val == p && !v.toNat.testBit 0
  | _ => false

/-- A command that waits answers the outstanding ask of port p for an agent that R30 puts before a. -/
def State.answeredBy (s : State) (a : Agent) (p : Nat) (c : Instr) : Bool :=
  let ahead (b : Agent) (v : Nat) := decide (b.rank < a.rank) && s.dev.answers p v
  match c with
  | .askAnswer b q v => q.val == p && ahead b v.toNat
  | c =>
    match s.writeBy (askAnsAddr p) c with
    | some (b, v) => ahead b v
    | none => false

/-- A write of PRTnn_CTRL that disables port p waits. -/
def State.disabledBy (s : State) (p : Nat) (c : Instr) : Bool :=
  match s.writeBy (0x201000 + p * 128) c with
  | some (_, v) => !v.testBit 0
  | none => false

/-- An answer by a to the ask of port p comes too late on its tick. -/
def State.answerLate (s : State) (a : Agent) (p : Nat) : Bool :=
  s.pending.any (fun c => s.dev.cancelsAsk p c || s.answeredBy a p c || s.disabledBy p c)

/-- An answer: the detach of its tick, another cancellation and an answer that R30 puts first stand before it. -/
def State.askAnswer (s : State) (a : Agent) (p v : Nat) : State :=
  let s := s.detachFirst p
  s.onDev (·.askAnswer a (s.answerLate a p) p v)

def execAskAnswer (a : Agent) (p : Fin 24) (v : Word) (s : State) : Out :=
  .next ((s.onDev (·.touch a)).askAnswer a p.val v.toNat)

/-! ### The day's end (R573) -/

/-- A register of the trend, or a port's baseline. -/
def isTrend (addr : Nat) : Bool :=
  decide (0x200F11 ≤ addr) && decide (addr ≤ 0x200F13) ||
    decide (0x201000 ≤ addr) && decide (addr < 0x201000 + 24 * 128) && addr % 128 == 0x49

/-- A restore write waits: a store of core 0 to a register of the trend. -/
def State.restoreWaits (s : State) : Bool :=
  s.pending.any (fun c =>
    match c with
    | .sta n m _ f => n.val == 0 && s.dev.coreRuns 0 && isTrend (s.dev.ea 0 m f)
    | .stx n m _ f => n.val == 0 && s.dev.coreRuns 0 && isTrend (s.dev.ea 0 m f)
    | .sty n m _ f => n.val == 0 && s.dev.coreRuns 0 && isTrend (s.dev.ea 0 m f)
    | .registerWrite a addr _ => a.isC0 && isTrend addr.toNat
    | _ => false)

/-- The day's end. A restore write of its tick comes first: where one waits, the day ends when the tick does. -/
def execDayEnd (s : State) : Out :=
  if s.restoreWaits then s.ok (fun d => d.onExpiry T.dayEnd (·.set1 H.dayHeld)) else s.ok (fun d => d.onExpiry T.dayEnd Dev.dayEnd)

/-- A day's end that a restore write of this tick has held back. -/
def Dev.dayLate (d : Dev) : Dev := if d.bit H.dayHeld then (d.clr H.dayHeld).dayEnd else d

/-! ### Mode requests (R30, R31) -/

/-- The agent of a mode request that a command makes; codes 5 to 15 are none. -/
def State.modeReqOf (s : State) : Instr → Option Agent
  | .modeReqSteady a => some a
  | .modeReqKindling a => some a
  | .modeReqBlaze a => some a
  | .modeReqBanked a => some a
  | .modeReqTinder a => some a
  | c =>
    match s.writeBy 0x200011 c with
    | some (a, v) => if F.SYS_MODE_REQ_TARGET.part v ≤ 4 then some a else none
    | none => none

/-- A command that waits is a hardware cause of a mode change (R31). -/
def Dev.hwCause (d : Dev) : Instr → Bool
  | .resetRelease _ _ _ _ _ _ => decide (2 ≤ d.get H.rstHeld)
  | .kindlingCompletion => d.mode == 1 && d.kindleDone
  | .kindlingTimeout => d.mode == 1 && d.armed T.kindle
  | .bankedWake src =>
    d.mode == 3 && (d.bit H.wakeBits ||
      match src with
      | some b => decide (12 ≤ b.val) || d.getBit F.SYS_WAKE_EN_EN b.val
      | none => false)
  | .blazeCompletion _ => d.mode == 2 && !d.bit F.SYS_BLAZE_RESULT_DONE
  | .trialExpiry => d.armed T.trial && d.trialRuns
  | .activationComplete _ => d.get H.booting == 2 && d.get H.rstHeld == 0
  | _ => false

/-- A mode request by a stands behind another of the same tick, or behind a hardware cause. -/
def State.reqBehind (s : State) (a : Agent) : Bool :=
  s.pending.any (fun c => s.dev.hwCause c ||
    match s.modeReqOf c with
    | some b => decide (b.rank < a.rank)
    | none => false)

end Sys2Proof.Machine
end

