-- ==== Sys2Proof/Machine/Release.lean ====
section
/-!
DEFINITION. Sys2Proof/Machine/Release.lean: reset release (R112-R130), mode requests and the end of Kindling (R29-R40).
-/
namespace Sys2Proof.Machine

/-! ### Step 1: counting and recording (R105, R112) -/

/-- Every source that took part. -/
def Dev.rstAlso (d : Dev) : Nat := d.get (H.rstSrc 1) ||| d.get (H.rstSrc 2) ||| d.get (H.rstSrc 3)

/-- The recorded source: of the reset's level, the one that stands highest in R99. -/
def Dev.rstSource (d : Dev) : Nat := ((List.range 8).find? (d.getBit (H.rstSrc (d.get H.rstHeld)))).getD 0

/-- Its cause code: 1 power-on, 2 VSYS brown-out, then 3 to 9. -/
def Dev.rstCode (d : Dev) : Nat := if d.rstSource = 0 then (if d.bit H.por then 1 else 2) else d.rstSource + 2

/-- The cause records move down and the new one is written. -/
def Dev.causePush (d : Dev) : Dev :=
  let cp i e := Dev.puts e [(F.RST_CAUSE_CNT (i + 1), d.get (F.RST_CAUSE_CNT i)), (F.RST_CAUSE_ALSO (i + 1), d.get (F.RST_CAUSE_ALSO i)),
    (F.RST_CAUSE_LEVEL (i + 1), d.get (F.RST_CAUSE_LEVEL i)), (F.RST_CAUSE_SOURCE (i + 1), d.get (F.RST_CAUSE_SOURCE i))]
  let cnt := min 16777215 (d.get F.RST_CNT_COUNT + 1)
  (Dev.forN 3 cp d).puts [(F.RST_CNT_COUNT, cnt), (F.RST_CAUSE_CNT 0, cnt), (F.RST_CAUSE_ALSO 0, d.rstAlso),
    (F.RST_CAUSE_LEVEL 0, d.get H.rstHeld), (F.RST_CAUSE_SOURCE 0, d.rstCode)]

/-! ### Steps 2 to 5: STRAP, OTP, clock, fabric (R115-R121) -/

/-- Upper ends of the M windows of codes 0 to 14 (R120). -/
def strapTops : List Nat := [4, 10, 14, 18, 21, 24, 27, 31, 34, 38, 41, 44, 47, 50, 56]

/-- The code of a measured value. -/
def strapCode (m : Nat) : Nat := (strapTops.filter (fun t => decide (t < m))).length

/-- The four readings: their mean rounded to the nearest integer, NOISY over a span of 2, the code and TW0's address. DESIGN
CHOICE (log entry 115): a mean halfway between two integers rounds up. -/
def Dev.strap (d : Dev) (ms : List Nat) : Dev :=
  let mean := (2 * ms.sum + ms.length) / (2 * max 1 ms.length)
  let code := strapCode mean
  let noisy := decide (2 < ms.foldl max 0 - ms.foldl min 63)
  (d.puts [(F.RST_STRAP_MEAS, mean), (F.RST_STRAP_NOISY, b2n noisy), (F.RST_STRAP_CODE, code),
    (F.TW_CTRL_OWNADDR 0, 0x68 + code % 4)]).twApply 0

/-- Boot policy: code [3:2]. -/
def Dev.policy (d : Dev) : Nat := d.get F.RST_STRAP_CODE / 4

/-- Meridian starts: from the crystal where it is there, but from the fallback oscillator after a clock failure (R115, R136).
DESIGN CHOICE (log entry 116): an L2 in which a clock failure took part counts as one, whichever source is recorded. -/
def Dev.clockStart (d : Dev) (lvl : Nat) (clkFail xtal : Bool) : Dev :=
  let fb := !xtal || (lvl == 2 && clkFail)
  d.puts [(F.TB_STAT_SRC, b2n fb), (F.TB_STAT_XOK, b2n xtal), (F.RST_STAT_CLKFB, b2n fb)]

/-- Status that follows pins and restarted blocks: the supply monitors, two-wire scans, the Surveyor's first sweep. A monitor
that reads 1 has changed from its reset value, which raises the supply event (R80). -/
def Dev.blocksStart (d : Dev) : Dev :=
  let d := d.puts [(F.SYS_SUPPLY_VINLOW, d.get H.vinLow), (F.SYS_SUPPLY_VINLOW_S, d.get H.vinLow),
    (F.SYS_SUPPLY_VIOLOW, d.get H.vioLow), (F.SYS_SUPPLY_VIOLOW_S, d.get H.vioLow),
    (F.SYS_SUPPLY_VCONNLOW, d.get H.vconnLow), (F.SYS_SUPPLY_VCONNLOW_S, d.get H.vconnLow)]
  let d := if d.bit H.vinLow || d.bit H.vioLow || d.bit H.vconnLow then d.raise 213 else d
  (Dev.forN 6 (fun q e => e.scanReq q) d).arm T.svySweep 0

/-! ### Step 6: take-over (R122-R127, R344, R345) -/

/-- The gates of a port that is not taken over: a soft stop made during hold may still run (R124). -/
def Dev.stopTake (d : Dev) (p lvl : Nat) : Dev :=
  if lvl = 2 ∧ d.get (H.padGates p) = 3 ∧ d.now + 1 < d.get (H.padOff p) then
    d.puts [(F.GRD_STAT_GATES p, 3), (T.gateOff p, d.get (H.padOff p))]
  else d

/-- A port that is not taken over: Disabled until its record is valid, with the causes of R116 and R130. -/
def Dev.portDisabled (d : Dev) (p lvl : Nat) : Dev :=
  let d := d.puts [(F.PRT_ATT_STAT_DISWHY p, 2 + 4 * b2n (d.policy == 1)), (H.dis1Held p, d.get H.otpFail),
    (F.GRD_STAT_VALID p, d.get (H.effEver p)), (F.GRD_STAT_STOPWHY p, d.get (H.holdWhy p)), (F.GRD_STAT_STOPKIND p, d.get (H.holdKind p)), (F.PRT_HOLDSUM_SUM p, 0),
    (H.vset p, 0), (H.vnow p, 0), (H.iset p, 0), (H.vexp p, 500), (H.padVcon p, 0)]
  let d := d.stopTake p lvl
  if lvl = 3 then d.disOff p
  else if (d.bit (H.holdWhy p) && d.gates p == 0) || d.bit (H.padDis p) then d.disOn p
  else d.disOff p

/-- A held port's pads, as the guard and the port engine take them over. -/
def Dev.padsTake (d : Dev) (p : Nat) : Dev :=
  let vcon := d.get (H.padVcon p) * (1 - d.get F.SYS_SUPPLY_VCONNLOW)
  let gates := if d.get (H.padGates p) = 3 then 0 else d.get (H.padGates p)
  (d.puts [(F.GRD_STAT_GATES p, gates), (F.GRD_STAT_VALID p, d.get (H.effEver p)), (F.PRT_ATT_STAT_ORIENT p, d.get (H.holdOri p)),
    (F.PRT_ATT_STAT_VCONNON p, vcon), (F.PRT_PE_STAT_VCSRC p, vcon), (H.padVcon p, vcon), (F.GRD_STAT_DISON p, d.get (H.padDis p))]).stopTake p 2

/-- A port whose gates have been held: Resuming with a contract in force, ErrorRecovery without one (R265), after which it is
Disabled until its record is valid; Disabled under policy 1
or after an OTP error. A latched Hard_Reset is handled now (R126). -/
def Dev.portHeld (d : Dev) (p : Nat) : Dev :=
  let d := d.padsTake p
  if d.bit H.otpFail || d.policy == 1 then
    let d := (d.gateStop p 17 false).puts [(F.PRT_ATT_STAT_DISWHY p, 2 + 4 * b2n (d.policy == 1)),
      (H.dis1Held p, d.get H.otpFail), (F.PRT_HOLDSUM_SUM p, 0), (H.vexp p, 500)]
    (d.vsetOff p).vconnOff p
  else if d.heldOn p then
    let sink := (d.heldWord p).testBit 34
    let d := d.puts [(H.vexp p, d.heldV p), (H.budNoCap p, 1), (F.BUDP_STAT_NOCAP p, 1), (H.grdSink p, b2n sink),
      (F.PRT_ATT_STAT_RPOWN p, if sink then 0 else 2), (H.pdOn p, d.get (F.PRT_PE_CTRL_PDEN p)),
      (H.rolePend p, d.get (F.PRT_CTRL_ROLE p)), (H.autoVcs p, d.get (F.PRT_PE_CTRL_AUTOVCS p))]
    let d := d.attSet p 10
    if d.bit (H.holdHr p) then ((d.attSet p (if sink then 3 else 8)).hardResetCommon p).hardRecover p else d
  else (((d.attSet p 1).errRecover p 18 7).put (F.PRT_ATT_STAT_DISWHY p) 2)

/-- Step 6 for a port: one that the L2 found in an accepted swap is held too, its gates on or off (R265). -/
def Dev.portTake (d : Dev) (lvl p : Nat) : Dev :=
  if lvl = 2 ∧ (d.get (H.padGates p) = 1 ∨ d.get (H.padGates p) = 2 ∨ d.bit (H.inSwap p)) then d.portHeld p else d.portDisabled p lvl

/-! ### Steps 7 and 8 -/

/-- The mode that the boot policy selects, with PREV equal to it (R28, R33, R116). -/
def Dev.modeRelease (d : Dev) (m cause : Nat) : Dev :=
  d.puts [(F.SYS_MODE_MODE, m), (F.SYS_MODE_PREV, m), (F.SYS_MODE_CAUSE, cause), (H.hwTick, d.now + 1)]

/-- Reset release is a hardware cause of a mode change (R31): the mode event and the LOG entry. -/
def Dev.modeReport (d : Dev) : Dev := (d.raise 215).logAppend 5 0xF0 (beBytes 5 d.modeWord)

/-- The event and the LOG entry of a reset. -/
def Dev.rstReport (d : Dev) : Dev :=
  let c := d.get (F.RST_CAUSE_CNT 0) * 2 ^ 14 + d.get (F.RST_CAUSE_ALSO 0) * 64 + d.get (F.RST_CAUSE_LEVEL 0) * 16 +
    d.get (F.RST_CAUSE_SOURCE 0)
  ((d.raise 214).logAppend 1 0xF0 (beBytes 5 c ++ beBytes 3 (d.get F.RST_CNT_COUNT))).pump

/-- A fresh nonce for DBGCHAL (R554): six open values, marked by the count of uses at which they begin. -/
def Dev.nonceDraw (d : Dev) : Dev := { d.put H.nonceAt d.free with free := d.free + 6 }

/-- Step 3: the registers that OTP loads take its values, those with the code OTP / L3 only after an L3 (R34, R114). -/
def Dev.otpLoad (d : Dev) (lvl : Nat) : Dev :=
  let d := d.puts [(F.RST_CFG_RSTNL3, d.get H.otpRstnl3), (F.GRD_OTPB0_LIMITS, layoutWord 0 (d.get H.otpB0)),
    (F.GRD_OTPB1_LIMITS, d.get H.otpB1), (F.BUD_CFG_UNARMCAP, d.get H.otpUnarmcap), (F.LGR_CERTLEN_LEN, d.get H.otpCertlen),
    (F.STO_CFG_FREQ, d.get H.otpFreq), (F.SVY_CTRL_TARGET, d.get H.otpTarget), (F.SVY_CFG_GUARD, d.get H.otpGuard),
    (F.SVY_CFG_VLO, d.get H.otpVlo), (F.SVY_CFG_KV, d.get H.otpKv), (F.SVY_CFG_KT, d.get H.otpKt)]
  if lvl = 3 then
    d.puts [(F.SYS_MODE_KNOBS_SCANPAR, d.get H.otpScanpar), (F.SYS_MODE_KNOBS_SETTLE, d.get H.otpSettle),
      (F.SYS_MODE_KNOBS_INRUSH, d.get H.otpInrush), (F.SYS_MODE_KNOBS_VBOOST, d.get H.otpVboost),
      (F.SYS_KINDLE_CTRL_TIMEOUT, d.get H.otpTimeout), (F.SYS_KINDLE_CTRL_STRETCH, d.get H.otpStretch),
      (F.RST_HOLDCFG_HOLDTO, d.get H.otpHoldto), (F.DBG_STAT_LEVEL, d.get H.otpDbglvl),
      (F.FW_COMPAT_AUTOFALL, d.get H.otpAutofall)]
  else d

/-- Debug access at an L3: unlocked at DBGLVL 0, and a fresh nonce (R553, R554). -/
def Dev.dbgRelease (d : Dev) : Dev :=
  (d.put F.DBG_STAT_UNLOCKED (b2n (d.get F.DBG_STAT_LEVEL == 0))).nonceDraw

/-- After an L2 or L3: from step 2 on. -/
def Dev.release23 (d : Dev) (lvl : Nat) (clkFail : Bool) (ms : List Nat) (otpOk xtal : Bool) : Dev :=
  let d := (d.strap ms).puts [(F.RST_STAT_OTPERR, b2n (!otpOk)), (H.otpFail, if otpOk then d.get H.otpFail else 1)]
  let d := (d.otpLoad lvl).clockStart lvl clkFail xtal
  let d := Dev.forN 12 (fun i e => e.put (H.capSince i) e.now) (d.put H.relTick d.now)
  let d := if lvl = 3 then d.dbgRelease else d
  let pol := d.policy
  let otp := !otpOk
  let kindle := !otp && decide (pol ≤ 1)
  let d := if otp then d.modeRelease 4 11 else if pol ≤ 1 then (d.modeRelease 1 0).kindleBegin d.now
    else if pol = 2 then d.modeRelease 4 10 else d.modeRelease 2 10
  let d := (Dev.forN 24 (fun p e => e.portTake lvl p) d.blocksStart).puts [(T.hold, 0), (H.sysok, 1)]
  let d := Dev.forN 24 (fun p e => e.meterStart p) d
  let d := if kindle then (d.put H.booting 1).bootCores 0
    else if otp || pol == 2 then d.bootCores 6
    else d.blazeEnter 10
  let d := if !otp && pol == 3 then d.modeRelease 2 10 else d
  d.vcoreGo.modeReport.rstReport

/-- After an L1: the router posts again, the meters post again, and C0 starts in the boot ROM (R490). What it does there
follows the mode and the activation in progress. -/
def Dev.release1 (d : Dev) : Dev :=
  let d := d.fabEvt F.FAB_EVT_RECLAIM
  let d := (List.range 256).foldl (fun e k => if e.pend k && e.bit (H.rteChen k) then e.postEvent k else e) d
  let d := d.segRepost
  let d := if d.get H.booting = 1 ∨ d.get H.booting = 2 then d.puts [(H.bootWait, 0), (T.boot, 0)]
    else d.put H.booting (if d.imageRuns then 3 else 0)
  let d := d.bootCores (if d.mode = 4 then 6 else 0)
  let d := if d.mode = 3 then d.coresHalt else d
  d.rstReport

/-- Release of the reset in progress once every source has ended (R114). The operands are what the device measures: four
STRAP readings, whether every OTP row has passed correction, and whether the crystal is stable. -/
def State.release (s : State) (ms : List Nat) (otpOk xtal : Bool) : State :=
  let lvl := s.dev.get H.rstHeld
  if lvl = 0 then s
  else
    let clkFail := s.dev.rstAlso.testBit 6
    let d := (s.dev.causePush).puts [(H.rstHeld, 0), (H.rstSrc 1, 0), (H.rstSrc 2, 0), (H.rstSrc 3, 0), (H.por, 0)]
    if lvl = 1 then { s with dev := d.release1 }
    else { s with dev := d.release23 lvl clkFail ms otpOk xtal, mem := [], bad := [] }

def execResetRelease (m0 m1 m2 m3 : BitVec 6) (otpOk xtal : Bool) (s : State) : Out :=
  .next (s.release [m0.toNat, m1.toNat, m2.toNat, m3.toNat] otpOk xtal)

/-! ### Kindling ends (R40) -/

/-- Kindling ends in Steady; an AUTOFALL return that waits follows on the same tick (R595). -/
def Dev.kindleEnd (d : Dev) (cause : Nat) : Dev :=
  let d := d.modeEnter 0 cause
  if d.bit H.fallPend then (d.clr H.fallPend).autoFall else d

def execKindlingCompletion (s : State) : Out :=
  s.ok (fun d => if d.mode == 1 && d.kindleDone then d.kindleEnd 3 else d)

def execKindlingTimeout (s : State) : Out :=
  s.ok (fun d => d.onExpiry T.kindle (fun e => if e.mode = 1 then e.kindleEnd (if e.kindleDone then 3 else 4) else e))

/-! ### Requests (R33, R42, R47) -/

/-- A port holds a contract, in force or held for resumption. -/
def Dev.anyContract (d : Dev) : Bool := (List.range 24).any (fun p => d.bit (F.PRT_CONTRACT_VALID p) || d.heldOn p)

/-- A request through the TARGET field of SYS_MODE_REQ; `behind` as in `Dev.modeReq`. Codes 5 to 15 are ignored. -/
def Dev.modeReqWrite (d : Dev) (a : Agent) (behind : Bool) (target : Nat) : Dev :=
  if target = 0 then d.modeReq a behind (d.mode == 1) false false (·.kindleEnd (reqCause a))
  else if target = 1 then d.modeReq a behind false false false id
  else if target = 2 then d.modeReq a behind (d.mode == 0 || d.mode == 1) true d.anyContract (·.blazeEnter 1)
  else if target = 3 then d.modeReq a behind (d.mode == 0) false d.bankBarred (·.bankBegin a)
  else if target = 4 then d.modeReq a behind (d.mode == 0) true false (·.tinderEnter 1)
  else d

def execModeReqSteady (a : Agent) (s : State) : Out := s.okBy a (·.modeReqWrite a (s.reqBehind a) 0)
def execModeReqKindling (a : Agent) (s : State) : Out := s.okBy a (·.modeReqWrite a (s.reqBehind a) 1)
def execModeReqBlaze (a : Agent) (s : State) : Out := s.okBy a (·.modeReqWrite a (s.reqBehind a) 2)
def execModeReqBanked (a : Agent) (s : State) : Out := s.okBy a (·.modeReqWrite a (s.reqBehind a) 3)
def execModeReqTinder (a : Agent) (s : State) : Out := s.okBy a (·.modeReqWrite a (s.reqBehind a) 4)

/-- TARGET codes 5 to 15 are ignored; the access itself is one. -/
def execModeReqIgnoredCode (a : Agent) (_code : BitVec 4) (s : State) : Out := s.okBy a id

end Sys2Proof.Machine
end

