-- ==== Sys2Proof/Machine/Host.lean ====
section
/-!
DEFINITION. Sys2Proof/Machine/Host.lean: mailboxes, HOST_EVT and HOST_STAT (R541-R543).
-/
namespace Sys2Proof.Machine

/-! ### Mailboxes (R542, R543)

The writes of one tick follow R30: SPI, TW0, then the cores. A core's clear of INFULL has come after every host write of its tick, and
the host's clear of OUTFULL before every core write of its tick, in whatever order the commands run. -/

/-- A core has cleared INFULL on this tick. -/
def Dev.inCleared (d : Dev) : Bool := d.get H.inClrAt == d.now + 1

/-- INFULL as a host write finds it: a clear of this tick comes after it. -/
def Dev.inFound (d : Dev) : Bool := d.bit F.HOST_EVT_INFULL || (d.inCleared && d.bit H.inClrWas)

/-- The second inbound mailbox is written: INFULL sets and source 234 is raised; a clear of this tick has come after. -/
def Dev.inFill (d : Dev) : Dev :=
  (if d.inCleared then d.set1 H.inClrWas else d.set1 F.HOST_EVT_INFULL).raise 234

/-- A write of HOST_MBXk: 0 and 1 from the host, 2 and 3 from a core, from the wrong side ignored; refused while the direction's FULL
bit stands, or where `ahead`, an earlier write of this tick, has set it. The second mailbox of a direction sets FULL. -/
def Dev.mbxWrite (d : Dev) (a : Agent) (ahead : Bool) (k v : Nat) : Dev :=
  if k < 2 then
    if !a.isHost then d
    else if d.inFound || ahead then d.hwSet F.HOST_EVT_INOVR
    else
      let d := d.put (F.HOST_MBX_DATA k) v
      if k = 1 then d.inFill else d
  else
    if !a.isCore then d
    else if d.bit F.HOST_EVT_OUTFULL || ahead then d.hwSet F.HOST_EVT_OUTOVR
    else
      let d := d.put (F.HOST_MBX_DATA k) v
      if k = 3 then d.hwSet F.HOST_EVT_OUTFULL else d

/-- OUTFULL clears, unless a core has set it on this tick, after the clear. -/
def Dev.outClear (d : Dev) : Dev :=
  if d.bit F.HOST_EVT_OUTFULL && !d.marked F.HOST_EVT_OUTFULL 0 then (d.clr F.HOST_EVT_OUTFULL).raise 234 else d

/-- A core clears INFULL. -/
def Dev.inClear (d : Dev) : Dev :=
  d.puts [(H.inClrWas, if d.bit F.HOST_EVT_INFULL || (d.inCleared && d.bit H.inClrWas) then 1 else 0), (H.inClrAt, d.now + 1),
    (F.HOST_EVT_INFULL, 0)]

/-- A write of HOST_EVT (R542): a core clears INFULL and OUTOVR; the host clears OUTFULL, which raises source 234, INOVR,
SPICMD, SPIADDR and SPIPART. -/
def Dev.hostEvtWrite (d : Dev) (a : Agent) (v : Nat) : Dev :=
  if a.isCore then (d.when (v.testBit 0) (·.inClear)).clearOnes F.HOST_EVT_OUTOVR (bits v 3 1)
  else if a.isHost then
    ((((d.when (v.testBit 1) (·.outClear)).clearOnes F.HOST_EVT_INOVR (bits v 2 1)).clearOnes F.HOST_EVT_SPICMD
      (bits v 4 1)).clearOnes F.HOST_EVT_SPIADDR (bits v 5 1)).clearOnes F.HOST_EVT_SPIPART (bits v 6 1)
  else d

/-- A write of HOST_MBXk among what else falls on its tick: a write of the FULL mailbox of its direction that R30 puts first refuses
it, and for a core the host's clear of OUTFULL that still waits comes first. -/
def State.mbxWrite (s : State) (a : Agent) (k v : Nat) : State :=
  let ahead := s.writeAhead a (if k < 2 then 0x200C03 else 0x200C05) (fun _ => true) && k % 2 == 1
  let clear := decide (2 ≤ k) && s.writeAhead a 0x200C06 (·.testBit 1) && a.isCore
  s.onDev (fun d => (d.when clear (·.outClear)).mbxWrite a ahead k v)

def execMbxInWrite (a : Agent) (v : Word) (s : State) : Out := .next ((s.onDev (·.touch a)).mbxWrite a 1 v.toNat)
def execMbxOutWrite (a : Agent) (v : Word) (s : State) : Out := .next ((s.onDev (·.touch a)).mbxWrite a 3 v.toNat)

/-- A write of 1 to INFULL, and of 1 to OUTFULL, by an agent. -/
def execInfullClear (a : Agent) (s : State) : Out := s.okBy a (·.hostEvtWrite a 1)
def execOutfullClear (a : Agent) (s : State) : Out := s.okBy a (·.hostEvtWrite a 2)

/-- The bits of HOST_STAT that mirror other registers. -/
def Dev.hostStat (d : Dev) : Nat :=
  d.get F.SYS_MODE_MODE * 2 ^ 20 + d.get F.SYS_MODE_TRANS * 2 ^ 19 + d.get F.DBG_STAT_UNLOCKED * 2 ^ 18 +
    d.get F.SNAP_STAT_FULL * 2 ^ 17 + bits d.readIrq 1 1 * 2 ^ 9 + bits d.readIrq 0 1 * 2 ^ 8 +
    d.get F.HOST_EVT_OUTFULL * 2 + d.get F.HOST_EVT_INFULL

/-- A read of HOST_STAT. IF names the interface: SPI target or TW0; for a core or the TAP, neither, it is an open value. -/
def Dev.hostStatRead (d : Dev) (a : Agent) : Nat × Dev :=
  match a with
  | .spi => (d.hostStat, d)
  | .tw0 => (d.hostStat + 2 ^ 16, d)
  | _ => (d.hostStat + (d.fresh 1).1 * 2 ^ 16, (d.fresh 1).2)

end Sys2Proof.Machine
end

