-- ==== Sys2Proof/Machine/Bus.lean ====
section
/-!
DEFINITION. Sys2Proof/Machine/Bus.lean: reads and writes of the word address space by an agent (R7-R10, R18-R21): the
access codes, the registers with a rule of their own, the memories.
-/
namespace Sys2Proof.Machine

/-! ### The register table (R10, R14) -/

/-- The row of the register table at an address: the address itself names the register of the row's run. -/
def RegRow.holds (r : RegRow) (addr : Nat) : Bool :=
  if r.stride = 0 then addr == r.base
  else decide (r.base ≤ addr) && (addr - r.base) % r.stride == 0 && decide ((addr - r.base) / r.stride < r.count)

def regAt (addr : Nat) : Option RegRow := regTable.find? (·.holds addr)

/-- The address belongs to a register. -/
def isReg (addr : Nat) : Bool := (regAt addr).isSome

/-- The descriptor of a field of the register at an address, for the agent's own latch where the register is latched. -/
def RegRow.fld (r : RegRow) (addr copy : Nat) (f : RegFld) : Fld :=
  ⟨fkey addr f.lo (if r.latched then copy else 0) f.lvl, f.w, f.rst⟩

/-- A read under the access codes: WO fields and reserved bits read 0 (R9, R10). -/
def Dev.plainRead (d : Dev) (addr copy : Nat) : Nat :=
  match regAt addr with
  | none => 0
  | some r => (r.flds.map (fun f => if f.acc = .wo then 0 else d.get (r.fld addr copy f) * 2 ^ f.lo)).sum

/-- A write to one field under its access code; a hardware setting or update of the same tick prevails. -/
def Dev.fldWrite (d : Dev) (acc : Acc) (f : Fld) (v : Nat) : Dev :=
  match acc with
  | .rw => d.put f v
  | .rwh => if d.marked f 0 then d else d.put f v
  | .rw1c => d.clearOnes f v
  | .rwl => if d.bit H.rwlLock then d else d.put f v
  | .ro => d
  | .wo => d

/-- A write under the access codes. -/
def Dev.plainWrite (d : Dev) (addr copy v : Nat) : Dev :=
  match regAt addr with
  | none => d
  | some r => r.flds.foldl (fun e f => e.fldWrite f.acc (r.fld addr copy f) (bits v f.lo f.w)) d

/-! ### Writes with a rule of their own -/

/-- PRTnn_PE_CTRL; EPREN and HPMEN count from the next entry attempt (R192). -/
def Dev.peCtrlWrite (d : Dev) (p addr v : Nat) : Dev :=
  let d := d.plainWrite addr 0 v
  let d := if v.testBit 3 then d.arm (T.hpmCond p) 0 else d
  if v.testBit 4 then d.arm (T.cmdStart p) 0 else d

/-- A write to a register of port p's block at an offset. -/
def Dev.portWrite (d : Dev) (a : Agent) (p off addr v : Nat) : Dev :=
  match off with
  | 0x00 => d.prtCtrlWrite p v
  | 0x01 => d.toggleWrite p v
  | 0x02 => d.debounceWrite p v
  | 0x03 => d.ccfiltWrite p v
  | 0x05 => (d.plainWrite addr 0 v).attEvtAfter p v
  | 0x08 => d.peCtrlWrite p addr v
  | 0x0E =>
    if 1 ≤ (F.PRT_XFER_SLEW p).part v ∧ (F.PRT_XFER_SLEW p).part v ≤ 30 ∧ 10 ≤ (F.PRT_XFER_PGTO p).part v ∧
        (F.PRT_XFER_PGTO p).part v ≤ 250 then d.plainWrite addr 0 v else d
  | 0x0F =>
    if 2 ≤ (F.PRT_ASK_CFG_DL p).part v ∧ (F.PRT_ASK_CFG_DL p).part v ≤ 12 then d.plainWrite addr 0 v else d
  | 0x10 => d.askAnswer a false p v
  | 0x13 => d.cmdWrite a p ((F.PRT_CMD_CODE p).part v) ((F.PRT_CMD_PARAM p).part v)
  | 0x18 => d.slotLoad p 0 v
  | 0x19 => d.slotLoad p 16 v
  | 0x1A => d.ddtLoad a p v
  | 0x21 => d.hpmCtrlWrite p v
  | 0x26 => d.ploadA a p v
  | 0x27 => d.ploadB a p v
  | 0x30 =>
    if 1 ≤ (F.GRD_CTRL_SLEW p).part v ∧ (F.GRD_CTRL_SLEW p).part v ≤ 64 then d.plainWrite addr 0 v else d
  | 0x32 => d.grdTripWrite p v
  | 0x37 => d.grdCapWrite a p 0 v
  | 0x38 => d.grdCapWrite a p 1 v
  | 0x39 => d.grdSetWrite p 0 v
  | 0x3A => d.grdSetWrite p 1 v
  | 0x44 => d.budLimWrite p v
  | 0x45 => d.budpCtrlWrite p v
  | 0x49 => d.pbaseWrite a p v
  | 0x5B => if (F.PRT_BANK_WAKEI p).part v ≤ 2400 then d.plainWrite addr 0 v else d
  | _ => d.plainWrite addr a.copy v

/-- A write to a register of port p's meter block at an offset. -/
def Dev.meterWrite (d : Dev) (a : Agent) (p off addr v : Nat) : Dev :=
  match off with
  | 0x00 => d.mtrCtrlWrite p v
  | 0x10 => d.calWrite a p 0 v
  | 0x11 => d.calWrite a p 1 v
  | 0x12 => d.calWrite a p 2 v
  | 0x13 => d.calWrite a p 3 v
  | _ => d.plainWrite addr a.copy v

/-- A write to a register of core n (R461, R464). -/
def Dev.coreRegWrite (d : Dev) (a : Agent) (n off v : Nat) : Dev :=
  match off with
  | 1 =>
    if a.isC0 && (n == 0 || !d.getBit F.RST_CORE_EN_EN (n - 1)) then d.put (F.CORE_VEC_VEC n) v else d
  | 2 => if a.isCore && a.copy == n && v.testBit 0 then d.clr (F.CORE_EXC_ACTIVE n) else d
  | _ => d

/-- A write to a register of two-wire block n at an offset. -/
def Dev.twWrite (d : Dev) (a : Agent) (n off addr v : Nat) : Dev :=
  match off with
  | 0 => d.twCtrlWrite n v
  | 1 => d.twToutWrite n v
  | 8 => d.mcmdWrite n a v
  | _ => d.plainWrite addr a.copy v

/-- A write of PIN_GPIO (R67): OE and OUT take effect together on its tick. -/
def Dev.gpioWrite (d : Dev) (v : Nat) : Dev :=
  (d.padNote gpioKey (d.get F.PIN_GPIO_OE * 256 + d.get F.PIN_GPIO_OUT) (bits v 0 16)).puts
    [(F.PIN_GPIO_OE, bits v 8 8), (F.PIN_GPIO_OUT, bits v 0 8)]

/-- A write to the system registers. -/
def Dev.sysWrite (d : Dev) (a : Agent) (addr v : Nat) : Dev :=
  match addr with
  | 0x200012 => d.knobsWrite v
  | 0x200013 => d.kindleCtrlWrite v
  | 0x200046 => d.rstReqWrite a v
  | 0x200049 => d.coreEnWrite a v
  | 0x20004A => d.wdtCtrlWrite v
  | 0x20004B => d.wdtKick a (F.RST_WDT_KICK_KEY.part v)
  | 0x20004D => d.lockCtrlWrite v
  | 0x20004E => d.holdcfgWrite v
  | 0x200083 => d.rldWrite a v
  | 0x200084 => d.epsetWrite a v
  | 0x2001C2 => d.cmpOutWrite v
  | 0x200060 => d.gpioWrite v
  | 0x200400 => d.budChgWrite v
  | 0x200401 => d.budDisWrite v
  | 0x200402 => d.budCtrlWrite v
  | 0x200407 => d.budAck v
  | 0x200500 => d.ivalWrite v
  | 0x200600 => d.lgrCtrlWrite v
  | 0x200606 => d.lgrRelease a v
  | 0x200020 => (d.plainWrite addr 0 v).supplySticky
  | 0x200706 => d.stoRd a v
  | 0x200707 => d.stoFmt a v
  | 0x20070C => d.stoLogt a v
  | 0x200901 => d.chcfgWrite a v
  | 0x200902 => d.writeChstat a v
  | 0x200907 => d.admPtrWrite a v
  | 0x20090E => d.admLoad a v
  | 0x200A01 => d.rteWrite a v
  | 0x200A10 => d.swSet a v
  | 0x200C00 => if a = .tw0 then d.plainWrite addr 0 v else d
  | 0x200C06 => d.hostEvtWrite a v
  | 0x200C07 => d.hostCallWrite a v
  | 0x200E00 => d.snapCtrlWrite a v
  | 0x200E02 => d.snapRearm v
  | 0x200F00 => d.svyCtrlWrite a v
  | 0x200F11 => d.trnWrite a 0 v
  | 0x200F12 => d.trnWrite a 1 v
  | 0x200F13 => d.trnWrite a 2 v
  | 0x200F43 => d.dlWrite a (F.FW_DLCMD_OP.part v) (F.FW_DLCMD_SLOT.part v) (F.FW_DLCMD_PAGE.part v)
  | 0x200F45 => d.actWrite a (F.FW_ACT_KEY.part v) (F.FW_ACT_SLOT.part v)
  | 0x200F46 => d.confirm a (F.FW_CONFIRM_KEY.part v)
  | 0x200F47 => d.trialWrite v
  | _ =>
    if 0x200100 ≤ addr ∧ addr < 0x200140 then d.cmpValWrite (addr - 0x200100) v
    else if 0x200140 ≤ addr ∧ addr < 0x200180 then d.cmpCtrlWrite (addr - 0x200140) v
    else if 0x200200 ≤ addr ∧ addr < 0x20020C then d.capCtrlWrite (addr - 0x200200) v
    else if 0x200210 ≤ addr ∧ addr < 0x20021C then d.capStatWrite (addr - 0x200210) v
    else if 0x200800 ≤ addr ∧ addr < 0x200830 then d.coreRegWrite a ((addr - 0x200800) / 8) (addr % 8) v
    else if 0x200A08 ≤ addr ∧ addr < 0x200A10 then d.pendClear (addr - 0x200A08) v
    else if 0x200B00 ≤ addr ∧ addr < 0x200B40 then d.twWrite a ((addr - 0x200B00) / 16) (addr % 16) addr v
    else if 0x200C02 ≤ addr ∧ addr < 0x200C06 then d.mbxWrite a false (addr - 0x200C02) v
    else d.plainWrite addr a.copy v

/-- The aliases 0x20_0830-0x20_0834 reach the accessing core's own registers; for another agent they stay unmapped. -/
def unalias (a : Agent) (addr : Nat) : Nat :=
  if a.isCore && decide (0x200830 ≤ addr) && decide (addr ≤ 0x200834) then 0x200800 + 8 * a.copy + (addr - 0x200830) else addr

/-- A write to a register by an agent; an address without a register takes no write (R8). -/
def Dev.regWrite (d : Dev) (a : Agent) (addr v : Nat) : Dev :=
  let addr := unalias a addr
  if !isReg addr then d
  else if 0x202000 ≤ addr then d.meterWrite a ((addr - 0x202000) / 32) (addr % 32) addr v
  else if 0x201000 ≤ addr then d.portWrite a ((addr - 0x201000) / 128) (addr % 128) addr v
  else d.sysWrite a addr v

/-- The port and the offset of a register of the port blocks at an address. -/
def portAt (addr : Nat) : Option (Nat × Nat) :=
  if 0x201000 ≤ addr ∧ addr < 0x201000 + 24 * 128 then some ((addr - 0x201000) / 128, addr % 128) else none

/-- FW_SETPUT takes its record from shared SRAM (R600); a mode request looks at what else falls on its tick (R30, R31),
and so do writes of PRTnn_CTRL, PRTnn_ASK_ANS and PRTnn_CMD (R187, R228, R237) and of the mailboxes (R543). -/
def State.regWrite (s : State) (a : Agent) (addr v : Nat) : State :=
  if addr = 0x200F49 then s.setPut a (F.FW_SETPUT_ADDR.part v)
  else if addr = 0x200D00 then s.gzCtrl v
  else if 0x200C02 ≤ addr ∧ addr < 0x200C06 then s.mbxWrite a (addr - 0x200C02) v
  else if addr = 0x200011 then s.onDev (·.modeReqWrite a (s.reqBehind a) (F.SYS_MODE_REQ_TARGET.part v))
  else
    match portAt addr with
    | some (p, 0x00) => (s.emFirst p).onDev (·.regWrite a addr v)
    | some (p, 0x10) => s.askAnswer a p v
    | some (p, 0x13) => (s.detachFirst p).onDev (·.regWrite a addr v)
    | _ => s.onDev (·.regWrite a addr v)

/-! ### Commits of Meridian writes (R138) -/

/-- A list of writes commits now, in order. -/
def State.commitAll (s : State) : List Commit → State
  | [] => s
  | c :: l => State.commitAll (s.regWrite c.agent c.addr c.val) l

/-- The writes due by this tick commit. What Meridian has decided at the tick stands before them (R139). -/
def State.commitDue (s : State) : State :=
  (s.onDev (fun d => { d with commits := d.commits.filter (fun c => decide (d.now < c.due)) })).commitAll
    (s.dev.commits.filter (fun c => decide (c.due ≤ s.dev.now)))

/-- The writes of an agent that waits for none of them any more: its next access comes once they have committed (R138). -/
def State.commitOwn (s : State) (a : Agent) : State :=
  (s.onDev (fun d => { d with commits := d.commits.filter (fun c => c.agent != a) })).commitAll
    (s.dev.commits.filter (fun c => c.agent == a))

/-- A write that commits as those of Meridian do: also one of SNAP_CTRL (R544). -/
def lateWrite (addr : Nat) : Bool := isMeridian addr || addr == 0x200E00

/-- A register whose access waits for the writes that its agent has made before and that have not committed: those of Meridian, and
the snapshot registers. -/
def waitsCommit (addr : Nat) : Bool :=
  isMeridian addr || (decide (0x200E00 ≤ addr) && decide (addr ≤ 0x200E0D)) ||
    (decide (0x201000 ≤ addr) && decide (addr < 0x202000) && decide (0x54 ≤ addr % 128) && decide (addr % 128 ≤ 0x57))

/-! ### Reads with a rule of their own -/

/-- OE and OUT as the pads showed them two ticks ago. -/
def Dev.gpioSync (d : Dev) : Nat := d.padSeen gpioKey (d.get F.PIN_GPIO_OE * 256 + d.get F.PIN_GPIO_OUT)

/-- PIN_GPIO: IN shows the pads through the two-tick synchroniser: of a bit driven then, the level driven; of an input, the level
the board gave, an open value. -/
def Dev.gpioRead (d : Dev) : Nat × Dev :=
  let oe := d.gpioSync / 256
  let out := d.gpioSync % 256
  let r := d.fresh 8
  (((out &&& oe) + (r.1 - (r.1 &&& oe))) * 2 ^ 16 + d.get F.PIN_GPIO_OE * 2 ^ 8 + d.get F.PIN_GPIO_OUT, r.2)

/-- SYS_SUPPLY: which feed of the backup domain is the higher one is not given to the device by any event, so BAKSRC is an open
value (R85, log entry 21). -/
def Dev.supplyRead (d : Dev) : Nat × Dev :=
  let r := d.fresh 1
  (d.plainRead 0x200020 0 + r.1, r.2)

/-- DBG_STAT with HALTED, the cores in debug halt now (R555). -/
def Dev.readDbgStat (d : Dev) : Nat :=
  d.plainRead 0x200E20 0 + ((List.range 6).map (fun n => b2n (d.coreState n == 4) * 2 ^ (6 + n))).sum

def Dev.portRead (d : Dev) (a : Agent) (p off addr : Nat) : Nat × Dev :=
  match off with
  | 0x07 => (d.readAttCnt p, d)
  | 0x09 => (d.plainRead addr a.copy / 32 * 32 + d.peShown p, d)
  | 0x31 => (d.readGrdStat p, d)
  | _ => (d.plainRead addr a.copy, d)

def Dev.meterRead (d : Dev) (a : Agent) (p off addr : Nat) : Nat × Dev :=
  match off with
  | 0x01 => (d.readMtrStat p, d)
  | 0x04 => d.accRead a p false
  | 0x06 => d.accRead a p true
  | 0x08 => (d.readMtrV p, d)
  | 0x09 => (d.readMtrI p, d)
  | 0x0A => (d.readMtrP p, d)
  | 0x0C => d.segsttRead a p
  | 0x0F => d.lsegRead a p
  | _ => (d.plainRead addr a.copy, d)

def Dev.sysRead (d : Dev) (a : Agent) (addr : Nat) : Nat × Dev :=
  match addr with
  | 0x200040 => (d.plainRead addr 0 + d.readWdhist, d)
  | 0x200020 => d.supplyRead
  | 0x200060 => d.gpioRead
  | 0x200080 => d.tbRead a
  | 0x2001C0 => (d.readCmpSum 0, d)
  | 0x2001C1 => (d.readCmpSum 1, d)
  | 0x200302 => (d.readGrdSum0, d)
  | 0x200303 => (d.readGrdSum1, d)
  | 0x200502 => (d.readSettled, d)
  | 0x200601 => (d.readLgrStat, d)
  | 0x20060A => d.certRead a
  | 0x200701 => (d.plainRead addr 0 / 2 * 2 + b2n (d.bit F.STO_STAT_BUSY || d.storeBusy), d)
  | 0x200901 => (d.readChcfg a, d)
  | 0x200902 => (d.readChstat a, d)
  | 0x200A01 => (d.readRte a, d)
  | 0x200A11 => (d.readIrq, d)
  | 0x200C01 => d.hostStatRead a
  | 0x200E20 => (d.readDbgStat, d)
  | 0x200F02 => (d.plainRead addr 0 + d.svyState, d)
  | 0x200F40 => (d.plainRead addr 0 + d.get H.rbcnt * 2 ^ 14, d)
  | 0x200F41 => (d.slotRead 1 (d.plainRead addr 0), d)
  | 0x200F42 => (d.slotRead 2 (d.plainRead addr 0), d)
  | 0x200F47 => (d.plainRead addr 0 + d.readTrialLeft * 2 ^ 16, d)
  | 0x200F4C => (readFwkey, d)
  | _ =>
    if 0x200220 ≤ addr ∧ addr < 0x20022C then d.capRead a (addr - 0x200220)
    else if 0x200610 ≤ addr ∧ addr < 0x200620 then (readPub (addr - 0x200610), d)
    else (d.plainRead addr a.copy, d)

/-- A read of a register by an agent, with every effect of the read; an address without a register reads 0 (R8). -/
def Dev.regRead (d : Dev) (a : Agent) (addr : Nat) : Nat × Dev :=
  let addr := unalias a addr
  if !isReg addr then (0, d)
  else if 0x202000 ≤ addr then d.meterRead a ((addr - 0x202000) / 32) (addr % 32) addr
  else if 0x201000 ≤ addr then d.portRead a ((addr - 0x201000) / 128) (addr % 128) addr
  else d.sysRead a addr

/-! ### The memories (R18-R21) -/

def inLocal (a : Nat) : Bool := decide (a < 0x8000)
def inSram (a : Nat) : Bool := decide (0x40000 ≤ a) && decide (a < 0x100000)
def inStaging (a : Nat) : Bool := decide (0x100000 ≤ a) && decide (a < 0x110000)

/-- The local memory an agent reaches: a core its own instance, the TAP that of the selected core (R18, R556). -/
def Dev.localOf (d : Dev) (a : Agent) : Option Nat :=
  match a with
  | .core n => some n.val
  | .tap => if d.get H.dbgSel < 6 then some (d.get H.dbgSel) else none
  | _ => none

/-- The storage key of a memory word that an agent reaches. -/
def Dev.memKey (d : Dev) (a : Agent) (addr : Nat) : Option Nat :=
  if inLocal addr then (d.localOf a).map (fun n => localKey n addr)
  else if inSram addr || inStaging addr then some addr
  else none

/-- The word stands with a double-bit error (R21). -/
def State.isBad (s : State) (a : Agent) (addr : Nat) : Bool :=
  match s.dev.memKey a addr with
  | some k => s.bad.contains k
  | none => false

/-- Channel storage and the log, ledger and page staging areas: what their words hold has no stated layout (R465, R421; log entry 6). -/
def openStaging (a : Nat) : Bool :=
  (decide (0x100000 ≤ a) && decide (a < 0x108000)) || (decide (0x10B800 ≤ a) && decide (a < 0x10E400))

/-- A staging area that nothing has used since the last L2 or L3 reads 0 (R95): log staging before the LOG entry of the release,
ledger staging before a slot, page assembly before a page program. -/
def Dev.stagingClear (d : Dev) (a : Nat) : Bool :=
  if a < 0x10B800 then false
  else if a < 0x10C000 then d.logs.isEmpty && decide (2 ≤ d.get H.rstHeld)
  else if a < 0x10E000 then !d.bit H.stgLed
  else !d.bit H.stgPage

/-! ### Accesses to one word on one tick (R352, R454) -/

/-- Where the writes of this tick that an access behind them must know are noted: the tick plus 1, then (address × 16 + place) ×
2^36 + value, newest first; place 0 is the value before them, place r + 1 that of the agent of rank r. -/
def orderKey : Nat := 213

def Dev.notes (d : Dev) : List Nat :=
  match tget [] d.hist orderKey with
  | t :: l => if t = d.now + 1 then l else []
  | [] => []

/-- The value noted at a place of an address. -/
def Dev.noteAt (d : Dev) (addr place : Nat) : Option Nat :=
  (d.notes.find? (fun e => e / 2 ^ 36 == addr * 16 + place)).map (· % 2 ^ 36)

def Dev.addNote (d : Dev) (addr place v : Nat) : Dev :=
  { d with hist := tput [] d.hist orderKey ((d.now + 1) :: ((addr * 16 + place) * 2 ^ 36 + v) :: d.notes) }

/-- A write of an address by an agent that R30 puts after a has been performed on this tick. -/
def Dev.wroteLater (d : Dev) (a : Agent) (addr : Nat) : Bool :=
  d.notes.any (fun e => e / 2 ^ 40 == addr && decide (a.rank + 1 < e / 2 ^ 36 % 16))

/-- A command that waits accesses a word of shared SRAM for the agent of rank r: what it makes of the word. -/
def State.makes (s : State) (addr r : Nat) (v : Word) (c : Instr) : Option Word :=
  match s.writeBy addr c with
  | some (b, w) => if b.rank = r then some (BitVec.ofNat 36 w) else none
  | none =>
    match s.updateBy addr c with
    | some (n, f) => if n.val + 2 = r then some (f v) else none
    | none => if s.readBy addr c && readerRank c == r then some v else none

/-- A command that waits accesses a word for an agent that R30 puts before a. -/
def State.accessAhead (s : State) (a : Agent) (addr : Nat) : Bool :=
  s.pending.any (fun c => (List.range a.rank).any (fun r => (s.makes addr r 0 c).isSome))

/-- The word of shared SRAM that an agent finds: what the writes that R30 puts before its access leave (R454). -/
def State.sramSeen (s : State) (a : Agent) (addr : Nat) : Word :=
  let base := match s.dev.noteAt addr 0 with
    | some v => BitVec.ofNat 36 v
    | none => s.memRead addr
  let at_ (r : Nat) (v : Word) : Word :=
    match s.dev.noteAt addr (r + 1) with
    | some w => BitVec.ofNat 36 w
    | none => if r = a.rank then v else (s.pending.findSome? (s.makes addr r v)).getD v
  (List.range (a.rank + 1)).foldl (fun v r => at_ r v) base

/-- A word of shared SRAM written by an agent: the write of the agent that comes last in the order of R30 stands (R454). -/
def State.sramWrite (s : State) (a : Agent) (addr : Nat) (v : Word) : State :=
  let known := (s.dev.noteAt addr 0).isSome
  if known || s.accessAhead a addr then
    let t := (s.onDev (fun d => if known then d else d.addNote addr 0 (s.memRead addr).toNat)).onDev
      (·.addNote addr (a.rank + 1) v.toNat)
    if s.dev.wroteLater a addr then t else t.memWrite addr v
  else s.memWrite addr v

/-- A register of plain fields, one for all agents: what is written last in the order of R30 stands in it (R352). -/
def orderedReg (addr : Nat) : Bool :=
  match regAt addr with
  | some r => !r.latched && addr != 0x200C03 && addr != 0x200C05 && r.flds.any (fun f => f.acc == .rw) && r.flds.all (fun f => f.acc == .rw || f.acc == .ro)
  | none => false

/-- The fields of the register at an address as another state has them. -/
def Dev.restoreReg (d e : Dev) (addr : Nat) : Dev :=
  match regAt addr with
  | some r => r.flds.foldl (fun x f => x.put (r.fld addr 0 f) (e.get (r.fld addr 0 f))) d
  | none => d

/-- A register write, in its place among the writes of that register on its tick. -/
def State.regWriteOrd (s : State) (a : Agent) (addr v : Nat) : State :=
  let t := s.regWrite a addr v
  if s.dev.wroteLater a addr then t.onDev (·.restoreReg s.dev addr)
  else if s.writeAhead a addr (fun _ => true) && orderedReg addr && t.dev.plainRead addr 0 == v then
    t.onDev (·.addNote addr (a.rank + 1) v)
  else t

/-- A read of the address space by an agent, with its effects. A double-bit error returns the word as stored and raises
the event of R21. -/
def State.busRead (s : State) (a : Agent) (addr : Nat) : Word × State :=
  let s := if s.isBad a addr then s.onDev (·.raise 232) else s
  if inLocal addr then
    match s.dev.localOf a with
    | some n => (s.memRead (localKey n addr), s)
    | none => (0, s)
  else if inBootRom addr then
    (if a.isHost then 0 else Config.bootRom (addr - 0x10000), s)
  else if inSram addr then (s.sramSeen a addr, s)
  else if openStaging addr && !s.dev.stagingClear addr then
    let r := s.dev.fresh 36
    (BitVec.ofNat 36 r.1, s.onDev (fun _ => r.2))
  else if inStaging addr then (tget 0 s.dev.stg addr, s)
  else
    let s := if waitsCommit addr then s.commitOwn a else s
    let r := s.dev.regRead a addr
    (BitVec.ofNat 36 r.1, s.onDev (fun _ => r.2))

/-- A write to the address space by an agent: local memory and shared SRAM store the word, registers act, those of Meridian at
their commit tick, and every other range takes no write. -/
def State.busWrite (s : State) (a : Agent) (addr : Nat) (v : Word) : State :=
  if inLocal addr then
    match s.dev.localOf a with
    | some n => s.memWrite (localKey n addr) v
    | none => s
  else if inSram addr then s.sramWrite a addr v
  else if addr < 0x200000 then s
  else if lateWrite addr then s.onDev (·.commitLater a addr v.toNat)
  else if addr = 0x200E02 then (s.commitOwn a).regWriteOrd a addr v.toNat
  else s.regWriteOrd a addr v.toNat

end Sys2Proof.Machine
end

