-- ==== Sys2Proof/Machine/Operands.lean ====
section
/-!
DEFINITION. Sys2Proof/Machine/Operands.lean: what every Ebzia-36 instruction shares: the core's registers (R427), the regions
it may use (R428), exceptions (R458, R460), operand forms (R432, R433), and the arithmetic of shifts, products, quotients and
comparisons (R439-R441, R444).
-/
namespace Sys2Proof.Machine

/-! ### Registers of a core (R427) -/

def Dev.accA (d : Dev) (n : Nat) : Word := BitVec.ofNat 36 (d.get (H.coreA n))
def Dev.setA (d : Dev) (n : Nat) (w : Word) : Dev := d.put (H.coreA n) w.toNat
def Dev.pcOf (d : Dev) (n : Nat) : Nat := d.get (F.CORE_P_P n)
def Dev.setPc (d : Dev) (n p : Nat) : Dev := d.put (F.CORE_P_P n) p

/-- P advances past an instruction (R430); a core that the instruction itself reset keeps the P its reset gave it. -/
def Dev.advance (d : Dev) (n : Nat) : Dev := if d.coreRuns n then d.setPc n (d.pcOf n + 1) else d

/-- The return stack of core n, last entry first, and its depth in COREn_STAT. -/
def Dev.rstack (d : Dev) (n : Nat) : List Nat := tget [] d.rstk n
def Dev.setRstack (d : Dev) (n : Nat) (l : List Nat) : Dev :=
  ({ d with rstk := tput [] d.rstk n l }).put (F.CORE_STAT_RSDEPTH n) l.length

/-! ### Regions (R428) -/

def mayFetch (a : Nat) : Bool := inLocal a || inBootRom a || inSram a
def mayStore (a : Nat) : Bool := !(inBootRom a || inStaging a)

/-- Core-local memory or shared SRAM: where message words may lie (R447, R448). -/
def mayHoldMessage (a : Nat) : Bool := inLocal a || inSram a

/-! ### Exceptions (R458, R460) -/

/-- An exception of core n with its cause and INFO; while ACTIVE = 1 a double fault, which stops the core. -/
def Dev.exception (d : Dev) (n cause info : Nat) : Dev :=
  if d.bit (F.CORE_EXC_ACTIVE n) then ((d.set1 (F.CORE_EXC_DOUBLE n)).coreSet n 5).raise (226 + n)
  else
    let d := d.puts [(F.CORE_EPC_EPC n, d.pcOf n), (F.CORE_EXC_CAUSE n, cause), (F.CORE_EXC_INFO n, info),
      (F.CORE_EXC_COUNT n, d.get (F.CORE_EXC_COUNT n) + 1), (F.CORE_EXC_ACTIVE n, 1)]
    (d.raise (226 + n)).setPc n (d.get (F.CORE_VEC_VEC n))

/-- MEMERR: the event of R21 is raised as well. -/
def Dev.memErr (d : Dev) (n addr : Nat) : Dev := (d.raise 232).exception n 5 addr

/-- An instruction of core n: nothing while the core does not run; FETCH where P may not be fetched from; MEMERR on a
double-bit error in the fetched word; ILLEGAL for an invalid encoding (R434); otherwise its operation. -/
def State.coreInstr (s : State) (n : Fin 6) (legal : Bool) (op : State → State) : State :=
  if !s.dev.coreRuns n then s
  else if !mayFetch (s.dev.pcOf n) then s.onDev (fun d => d.exception n 2 (d.pcOf n))
  else if s.isBad (.core n) (s.dev.pcOf n) then s.onDev (fun d => d.memErr n (d.pcOf n))
  else if !legal then s.onDev (·.exception n 1 0)
  else op s

/-- An operation that ends by advancing P. -/
def State.andNext (s : State) (n : Nat) (f : Dev → Dev) : State := s.onDev (fun d => (f d).advance n)

/-! ### Loads and stores of a core -/

/-- A word loaded by core n, with what the load does, handed to the operation; MEMERR on a double-bit error. -/
def State.withLoad (s : State) (n : Fin 6) (addr : Nat) (k : Word → State → State) : State :=
  if s.isBad (.core n) addr then s.onDev (·.memErr n addr)
  else k (s.busRead (.core n) addr).1 (s.busRead (.core n) addr).2

/-- A word stored by core n; ACCESS in a region that takes no store. -/
def State.coreStore (s : State) (n : Fin 6) (addr : Nat) (w : Word) : State :=
  if mayStore addr then (s.busWrite (.core n) addr w).onDev (·.advance n) else s.onDev (·.exception n 3 addr)

/-! ### Operand forms (R432, R433) -/

/-- The operand in format M: the field sign-extended for mode I, otherwise the word at the effective address. -/
def State.withOperand (s : State) (n : Fin 6) (mode : BitVec 2) (field : BitVec 22) (k : Word → State → State) : State :=
  if mode = 3 then k (field.signExtend 36) s else s.withLoad n (s.dev.ea n mode field) k

/-- The operand in format B. -/
def State.withOperandB (s : State) (n : Fin 6) (bmode : BitVec 2) (operand : BitVec 12) (k : Word → State → State) : State :=
  if bmode = 3 then k (operand.signExtend 36) s else s.withLoad n (s.dev.eaB n bmode operand) k

/-! ### Arithmetic -/

/-- A rotated left by r places, r below 36. -/
def rol36 (a : Word) (r : Nat) : Word := a <<< r ||| a >>> (36 - r)

/-- SH (R439). -/
def shiftOp (kind : Nat) (a s : Word) : Word :=
  let n := s.toNat
  match kind with
  | 0 => if n < 36 then a <<< n else 0
  | 1 => if n < 36 then a >>> n else 0
  | 2 => if n < 36 then a.sshiftRight n else a.sshiftRight 35
  | _ => rol36 a (n % 36)

/-- MUL, MULH, MULHU (R440). -/
def mulOp (kind : Nat) (a b : Word) : Word :=
  match kind with
  | 0 => a * b
  | 1 => BitVec.ofInt 36 (a.toInt * b.toInt / 2 ^ 36)
  | _ => BitVec.ofNat 36 (a.toNat * b.toNat / 2 ^ 36)

/-- DIV, DIVU, REM, REMU (R441). -/
def divOp (kind : Nat) (a b : Word) : Word :=
  match kind with
  | 0 => if b = 0 then BitVec.allOnes 36 else a.sdiv b
  | 1 => if b = 0 then BitVec.allOnes 36 else a / b
  | 2 => if b = 0 then a else a.srem b
  | _ => if b = 0 then a else a % b

/-- Conditions of CB (R444). -/
def condHolds (cond : Nat) (a b : Word) : Bool :=
  match cond with
  | 0 => a == b
  | 1 => a != b
  | 2 => a.slt b
  | 3 => !a.slt b
  | 4 => a.ult b
  | 5 => !a.ult b
  | 6 => decide (b.toNat < 36) && a.getLsbD b.toNat
  | 7 => !(decide (b.toNat < 36) && a.getLsbD b.toNat)
  | 8 => a.toNat / 2 ^ 32 == b.toNat % 16
  | 9 => a.toNat / 2 ^ 32 != b.toNat % 16
  | _ => true

end Sys2Proof.Machine
end

