-- ==== Sys2Proof/Machine/Ebzia.lean ====
section
/-!
DEFINITION. Sys2Proof/Machine/Ebzia.lean: the instructions of the policy cores (R427-R464). Each command carries the core and
the fields of the instruction word that the core has fetched at P: mode, aux and field of format M, or cond, bmode, operand and
offset of format B.
-/
namespace Sys2Proof.Machine

/-- No operand: mode and field are 0 (R434). -/
def noOperand (mode : BitVec 2) (field : BitVec 22) : Bool := mode == 0 && field == 0

/-! ### Loads, stores and register transfers -/

def execNop (n : Fin 6) (mode : BitVec 2) (aux : BitVec 6) (field : BitVec 22) (s : State) : Out :=
  .next (s.coreInstr n (noOperand mode field && aux == 0) (·.andNext n id))

/-- An instruction in modes D X Y I that leaves aux 0 and gives A a function of A and the operand. -/
def State.accOp (s : State) (n : Fin 6) (mode : BitVec 2) (aux : BitVec 6) (field : BitVec 22) (ok : BitVec 6 → Bool)
    (f : Word → Word → Word) : State :=
  s.coreInstr n (ok aux) (fun t => t.withOperand n mode field
    (fun w u => u.andNext n (fun d => d.setA n (f (d.accA n) w))))

def execLda (n : Fin 6) (mode : BitVec 2) (aux : BitVec 6) (field : BitVec 22) (s : State) : Out :=
  .next (s.accOp n mode aux field (· == 0) (fun _ w => w))

def execLdau (n : Fin 6) (mode : BitVec 2) (aux : BitVec 6) (field : BitVec 22) (s : State) : Out :=
  .next (s.coreInstr n (mode == 3 && aux == 0)
    (·.andNext n (fun d => d.setA n (BitVec.ofNat 36 (field.toNat % 2 ^ 18 * 2 ^ 18)))))

/-- A store of a register, modes D X Y. -/
def State.storeOp (s : State) (n : Fin 6) (mode : BitVec 2) (aux : BitVec 6) (field : BitVec 22) (w : Dev → Word) : State :=
  s.coreInstr n (mode != 3 && aux == 0) (fun t => t.coreStore n (t.dev.ea n mode field) (w t.dev))

def execSta (n : Fin 6) (mode : BitVec 2) (aux : BitVec 6) (field : BitVec 22) (s : State) : Out :=
  .next (s.storeOp n mode aux field (·.accA n))
def execStx (n : Fin 6) (mode : BitVec 2) (aux : BitVec 6) (field : BitVec 22) (s : State) : Out :=
  .next (s.storeOp n mode aux field (fun d => BitVec.ofNat 36 (d.idxX n)))
def execSty (n : Fin 6) (mode : BitVec 2) (aux : BitVec 6) (field : BitVec 22) (s : State) : Out :=
  .next (s.storeOp n mode aux field (fun d => BitVec.ofNat 36 (d.idxY n)))

/-- An index register takes the low 22 bits of the operand. -/
def State.idxOp (s : State) (n : Fin 6) (mode : BitVec 2) (aux : BitVec 6) (field : BitVec 22) (f : Fld) : State :=
  s.coreInstr n (aux == 0) (fun t => t.withOperand n mode field (fun w u => u.andNext n (·.put f w.toNat)))

def execLdx (n : Fin 6) (mode : BitVec 2) (aux : BitVec 6) (field : BitVec 22) (s : State) : Out :=
  .next (s.idxOp n mode aux field (H.coreX n))
def execLdy (n : Fin 6) (mode : BitVec 2) (aux : BitVec 6) (field : BitVec 22) (s : State) : Out :=
  .next (s.idxOp n mode aux field (H.coreY n))

/-- An index register takes the effective address, or field for mode I. -/
def State.leaOp (s : State) (n : Fin 6) (mode : BitVec 2) (aux : BitVec 6) (field : BitVec 22) (f : Fld) : State :=
  s.coreInstr n (aux == 0) (·.andNext n (fun d => d.put f (d.ea n mode field)))

def execLeax (n : Fin 6) (mode : BitVec 2) (aux : BitVec 6) (field : BitVec 22) (s : State) : Out :=
  .next (s.leaOp n mode aux field (H.coreX n))
def execLeay (n : Fin 6) (mode : BitVec 2) (aux : BitVec 6) (field : BitVec 22) (s : State) : Out :=
  .next (s.leaOp n mode aux field (H.coreY n))

/-- The transfer that aux selects (R438). -/
def Dev.movr (d : Dev) (n : Nat) (aux : Nat) : Dev :=
  match aux with
  | 0 => d.setA n (BitVec.ofNat 36 (d.idxX n))
  | 1 => d.setA n (BitVec.ofNat 36 (d.idxY n))
  | 2 => d.put (H.coreX n) (d.accA n).toNat
  | 3 => d.put (H.coreY n) (d.accA n).toNat
  | 4 => d.puts [(H.coreX n, d.idxY n), (H.coreY n, d.idxX n)]
  | 5 => d.setA n (BitVec.ofNat 36 n)
  | _ => d.setA n (BitVec.ofNat 36 (d.rstack n).length)

def execMovr (n : Fin 6) (mode : BitVec 2) (aux : BitVec 6) (field : BitVec 22) (s : State) : Out :=
  .next (s.coreInstr n (noOperand mode field && decide (aux.toNat ≤ 6)) (·.andNext n (·.movr n aux.toNat)))

/-! ### Arithmetic and logic -/

def execAdd (n : Fin 6) (mode : BitVec 2) (aux : BitVec 6) (field : BitVec 22) (s : State) : Out :=
  .next (s.accOp n mode aux field (· == 0) (fun a w => a + w))
def execSub (n : Fin 6) (mode : BitVec 2) (aux : BitVec 6) (field : BitVec 22) (s : State) : Out :=
  .next (s.accOp n mode aux field (· == 0) (fun a w => a - w))
def execRsb (n : Fin 6) (mode : BitVec 2) (aux : BitVec 6) (field : BitVec 22) (s : State) : Out :=
  .next (s.accOp n mode aux field (· == 0) (fun a w => w - a))
def execAnd (n : Fin 6) (mode : BitVec 2) (aux : BitVec 6) (field : BitVec 22) (s : State) : Out :=
  .next (s.accOp n mode aux field (· == 0) (fun a w => a &&& w))
def execOr (n : Fin 6) (mode : BitVec 2) (aux : BitVec 6) (field : BitVec 22) (s : State) : Out :=
  .next (s.accOp n mode aux field (· == 0) (fun a w => a ||| w))
def execXor (n : Fin 6) (mode : BitVec 2) (aux : BitVec 6) (field : BitVec 22) (s : State) : Out :=
  .next (s.accOp n mode aux field (· == 0) (fun a w => a ^^^ w))
def execBic (n : Fin 6) (mode : BitVec 2) (aux : BitVec 6) (field : BitVec 22) (s : State) : Out :=
  .next (s.accOp n mode aux field (· == 0) (fun a w => a &&& ~~~w))
def execSh (n : Fin 6) (mode : BitVec 2) (aux : BitVec 6) (field : BitVec 22) (s : State) : Out :=
  .next (s.accOp n mode aux field (fun x => decide (x.toNat ≤ 3)) (fun a w => shiftOp aux.toNat a w))
def execMul (n : Fin 6) (mode : BitVec 2) (aux : BitVec 6) (field : BitVec 22) (s : State) : Out :=
  .next (s.accOp n mode aux field (fun x => decide (x.toNat ≤ 2)) (fun a w => mulOp aux.toNat a w))
def execDiv (n : Fin 6) (mode : BitVec 2) (aux : BitVec 6) (field : BitVec 22) (s : State) : Out :=
  .next (s.accOp n mode aux field (fun x => decide (x.toNat ≤ 3)) (fun a w => divOp aux.toNat a w))

/-! ### Transfers of control (R442-R444) -/

/-- The target of JMP and CALL handed on: ea or field; with aux[0] the low 22 bits of the word at ea. -/
def State.withTarget (s : State) (n : Fin 6) (mode : BitVec 2) (aux : BitVec 6) (field : BitVec 22)
    (k : Nat → State → State) : State :=
  if aux = 1 then s.withLoad n (s.dev.ea n mode field) (fun w t => k (w.toNat % 2 ^ 22) t) else k (s.dev.ea n mode field) s

def jumpLegal (mode : BitVec 2) (aux : BitVec 6) : Bool := decide (aux.toNat ≤ 1) && !(aux == 1 && mode == 3)

def execJmp (n : Fin 6) (mode : BitVec 2) (aux : BitVec 6) (field : BitVec 22) (s : State) : Out :=
  .next (s.coreInstr n (jumpLegal mode aux) (fun t => t.withTarget n mode aux field (fun p u => u.onDev (·.setPc n p))))

/-- CALL; STACK with 16 entries held (R443). -/
def execCall (n : Fin 6) (mode : BitVec 2) (aux : BitVec 6) (field : BitVec 22) (s : State) : Out :=
  .next (s.coreInstr n (jumpLegal mode aux) (fun t =>
    if (t.dev.rstack n).length ≥ 16 then t.onDev (·.exception n 4 0)
    else t.withTarget n mode aux field (fun p u =>
      u.onDev (fun d => (d.setRstack n ((d.pcOf n + 1) % 2 ^ 22 :: d.rstack n)).setPc n p))))

/-- RET; STACK with none held (R443). -/
def Dev.ret (d : Dev) (n : Nat) : Dev :=
  match d.rstack n with
  | [] => d.exception n 4 0
  | p :: l => (d.setRstack n l).setPc n p

def execRet (n : Fin 6) (mode : BitVec 2) (aux : BitVec 6) (field : BitVec 22) (s : State) : Out :=
  .next (s.coreInstr n (noOperand mode field && aux == 0) (·.onDev (·.ret n)))

/-- The branch of CB: taken to P + 1 + offset. -/
def Dev.branch (d : Dev) (n : Nat) (taken : Bool) (offset : BitVec 12) : Dev :=
  if taken then d.setPc n (d.pcOf n + 1 + (offset.signExtend 22).toNat) else d.advance n

/-- CB; ALWAYS reads no operand (R444). -/
def execCb (n : Fin 6) (cond : BitVec 4) (bmode : BitVec 2) (operand offset : BitVec 12) (s : State) : Out :=
  .next (s.coreInstr n (decide (cond.toNat ≤ 10)) (fun t =>
    if cond = 10 then t.onDev (·.branch n true offset)
    else t.withOperandB n bmode operand (fun w u =>
      u.onDev (fun d => d.branch n (condHolds cond.toNat (d.accA n) w) offset))))

/-! ### Channels and waiting (R445-R451) -/

/-- The words at k consecutive addresses from ea; addresses wrap at 2^22 (R7). -/
def addrsFrom (ea k : Nat) : List Nat := (List.range k).map (fun i => (ea + i) % 2 ^ 22)

/-- The first address that may hold no message word. -/
def firstOutside (l : List Nat) : Option Nat := l.find? (fun a => !mayHoldMessage a)

/-- A RECV that waits removes the oldest message of channel c on this tick (R448, R469). -/
def State.recvBehind (s : State) (c : Nat) (i : Instr) : Bool :=
  match i, s.dev.chan c with
  | .recv n m x f, g :: _ =>
    x.toNat == c && s.dev.coreRuns n && m != 3 && s.dev.get (H.chDst c) == n.val && decide (g.enq < s.dev.now) && !g.bad &&
      (firstOutside (addrsFrom (s.dev.ea n m f) g.words.length)).isNone
  | _, _ => false

/-- SEND (R446, R447, R468). With no credit nothing is read. A RECV of the same tick gives its slot back first (R469). -/
def State.send (s : State) (n : Fin 6) (c ea : Nat) : State :=
  let addrs := addrsFrom ea ((s.dev.accA n).toNat % 16 + 1)
  if s.dev.get (H.chSrc c) ≠ n then s.onDev (·.exception n 3 c)
  else match firstOutside addrs with
    | some a => s.onDev (·.exception n 3 a)
    | none =>
      if s.dev.chCredit c = 0 ∧ !(s.dev.chOpen c && s.pending.any (s.recvBehind c)) then
        s.andNext n (fun d => (d.hwSet (H.chRefused c)).setA n (BitVec.allOnes 36))
      else match addrs.find? (fun a => s.isBad (.core n) a) with
        | some a => s.onDev (·.memErr n a)
        | none => s.andNext n (fun d => (d.enqueue c (addrs.map (fun a => (s.busRead (.core n) a).1))).setA n 0)

def execSend (n : Fin 6) (mode : BitVec 2) (aux : BitVec 6) (field : BitVec 22) (s : State) : Out :=
  .next (s.coreInstr n (mode != 3) (fun t => t.send n aux.toNat (t.dev.ea n mode field)))

/-- Words stored one after another by core n. -/
def State.storeAll (s : State) (n : Fin 6) : List (Nat × Word) → State
  | [] => s
  | e :: l => State.storeAll (s.busWrite (.core n) e.1 e.2) n l

/-- RECV (R446, R448). A message that enters on the tick of the RECV is not yet waiting (R469). A double-bit error in a word of
the message is MEMERR; which of the channel's words holds it is an open value (R21, R458). -/
def State.recv (s : State) (n : Fin 6) (c ea : Nat) : State :=
  if s.dev.get (H.chDst c) ≠ n then s.onDev (·.exception n 3 c)
  else match s.dev.chan c with
    | [] => s.andNext n (fun d => d.setA n 0)
    | m :: q =>
      let addrs := addrsFrom ea m.words.length
      if m.enq ≥ s.dev.now then s.andNext n (fun d => d.setA n 0)
      else match firstOutside addrs with
      | some a => s.onDev (·.exception n 3 a)
      | none =>
        if m.bad then s.onDev (fun d => (d.fresh 9).2.memErr n (0x100000 + c * 512 + (d.fresh 9).1))
        else
          (s.storeAll n (addrs.zip m.words)).andNext n
            (fun d => (d.setChan c q).setA n (BitVec.ofNat 36 m.words.length))

def execRecv (n : Fin 6) (mode : BitVec 2) (aux : BitVec 6) (field : BitVec 22) (s : State) : Out :=
  .next (s.coreInstr n (mode != 3) (fun t => t.recv n aux.toNat (t.dev.ea n mode field)))

/-- POLL (R449). -/
def Dev.poll (d : Dev) (n c : Nat) : Dev :=
  let src := d.get (H.chSrc c) == n
  let dst := d.get (H.chDst c) == n
  if !src && !dst then d.exception n 3 c
  else
    (d.setA n (BitVec.ofNat 36 ((if src then d.chCredit c else 0) * 2 ^ 18 + (if dst then (d.chan c).length else 0)))).advance n

def execPoll (n : Fin 6) (mode : BitVec 2) (aux : BitVec 6) (field : BitVec 22) (s : State) : Out :=
  .next (s.coreInstr n (noOperand mode field) (·.onDev (·.poll n aux.toNat)))

/-- The channels of a wait set, lowest first. -/
def setChans (lo hi : Nat) : List Nat := (List.range 64).filter (fun c => if c < 32 then lo.testBit c else hi.testBit (c - 32))

/-- The lowest channel of a wait set on which a message waits. -/
def Dev.setWaiting (d : Dev) (lo hi : Nat) : Option Nat := (setChans lo hi).find? (fun c => !(d.chan c).isEmpty)

/-- WAIT ends with a value in A. -/
def Dev.waitEnd (d : Dev) (n : Nat) (w : Word) : Dev :=
  (((d.puts [(T.waitOut n, 0), (H.waitLo n, 0), (H.waitHi n, 0), (H.waitDue n, 0)]).setA n w).coreSet n 1).advance n

/-- WAIT on a wait set (R450): ACCESS where the core does not receive a channel of the set; ended at once by a waiting
message; otherwise the core waits, with its timeout running. -/
def Dev.waitOn (d : Dev) (n lo hi : Nat) : Dev :=
  match (setChans lo hi).find? (fun c => d.get (H.chDst c) != n) with
  | some c => d.exception n 3 c
  | none =>
    match d.setWaiting lo hi with
    | some c => d.waitEnd n (BitVec.ofNat 36 c)
    | none =>
      let t := min (d.accA n).toNat (2 ^ 35 - 1)
      let d := (d.puts [(H.waitLo n, lo), (H.waitHi n, hi)]).coreSet n 2
      if t = 0 then d else d.arm (T.waitOut n) t

/-- WAIT: one channel named by the field, or the set in two words. -/
def State.wait (s : State) (n : Fin 6) (mode : BitVec 2) (field : BitVec 22) : State :=
  if mode = 3 then
    s.onDev (fun d => d.waitOn n (if field.toNat < 32 then 2 ^ field.toNat else 0)
      (if field.toNat < 32 then 0 else 2 ^ (field.toNat - 32)))
  else
    let ea := s.dev.ea n mode field
    let ea1 := (ea + 1) % 2 ^ 22
    if s.isBad (.core n) ea then s.onDev (·.memErr n ea)
    else if s.isBad (.core n) ea1 then s.onDev (·.memErr n ea1)
    else
      let r := s.busRead (.core n) ea
      let q := r.2.busRead (.core n) ea1
      q.2.onDev (fun d => d.waitOn n (r.1.toNat % 2 ^ 32) (q.1.toNat % 2 ^ 32))

def execWait (n : Fin 6) (mode : BitVec 2) (aux : BitVec 6) (field : BitVec 22) (s : State) : Out :=
  .next (s.coreInstr n (aux == 0 && (mode != 3 || decide (field.toNat < 64))) (·.wait n mode field))

/-- A message waits on the wait set of a waiting core. A halted core keeps its WAIT (R451). -/
def Dev.waitWake (d : Dev) (n : Nat) : Dev :=
  if d.coreState n = 2 then
    match d.setWaiting (d.get (H.waitLo n)) (d.get (H.waitHi n)) with
    | some c => d.waitEnd n (BitVec.ofNat 36 c)
    | none => d
  else d

def execWaitMessageWake (n : Fin 6) (s : State) : Out := s.ok (·.waitWake n)

/-- The timeout elapses; in a halt it is remembered until the core resumes (R451). -/
def Dev.waitTimeout (d : Dev) (n : Nat) : Dev :=
  if !d.armed (T.waitOut n) then d
  else if d.coreState n = 2 then d.waitEnd n (BitVec.allOnes 36)
  else if d.get (H.coreWas n) = 2 then (d.stop (T.waitOut n)).set1 (H.waitDue n)
  else d.stop (T.waitOut n)

def execWaitTimeout (n : Fin 6) (s : State) : Out := s.ok (·.waitTimeout n)

/-! ### Fence, test-and-set, breakpoint, illegal (R452, R453, R459, R434) -/

/-- FENCE: every earlier access of a core is already performed, so it only advances P. -/
def execFence (n : Fin 6) (mode : BitVec 2) (aux : BitVec 6) (field : BitVec 22) (s : State) : Out :=
  .next (s.coreInstr n (noOperand mode field && decide (1 ≤ aux.toNat) && decide (aux.toNat ≤ 15)) (·.andNext n id))

/-- TAS on a word of shared SRAM. -/
def State.tas (s : State) (n : Fin 6) (ea : Nat) : State :=
  if !inSram ea then s.onDev (·.exception n 3 ea)
  else s.withLoad n ea (fun w t => (t.busWrite (.core n) ea (w ||| BitVec.ofNat 36 (2 ^ 35))).andNext n (fun d => d.setA n w))

def execTas (n : Fin 6) (mode : BitVec 2) (aux : BitVec 6) (field : BitVec 22) (s : State) : Out :=
  .next (s.coreInstr n (mode != 3 && aux == 0) (fun t => t.tas n (t.dev.ea n mode field)))

/-- Core n halts for the TAP, its state kept (R555). -/
def Dev.dbgHalt (d : Dev) (n : Nat) : Dev :=
  if d.coreState n = 1 ∨ d.coreState n = 2 then (d.put (H.coreWas n) (d.coreState n)).coreSet n 4
  else if d.coreState n = 3 then d.coreSet n 4
  else d

/-- BRK: a debug halt at the next instruction where a debugger has enabled it, otherwise the exception BRK. -/
def Dev.brk (d : Dev) (n : Nat) : Dev :=
  if d.bit F.DBG_STAT_UNLOCKED && d.bit F.DBG_STAT_BKEN then (d.advance n).dbgHalt n else d.exception n 6 0

def execBrk (n : Fin 6) (mode : BitVec 2) (aux : BitVec 6) (field : BitVec 22) (s : State) : Out :=
  .next (s.coreInstr n (noOperand mode field && aux == 0) (·.onDev (·.brk n)))

/-- An undefined opcode, or an encoding that R434 makes invalid. -/
def execIllegal (n : Fin 6) (s : State) : Out := .next (s.coreInstr n false id)

/-- A write of 1 to COREn_EXC.ACTIVE by an agent; only the core itself clears it (R461). -/
def execExcClear (a : Agent) (n : Fin 6) (s : State) : Out := s.okBy a (·.coreRegWrite a n 2 1)

/-! ### The instruction at P -/

/-- The instruction that a word encodes (R431, R435), as a command of core n; none where R434 makes it ILLEGAL by its
opcode. -/
def runWord (n : Fin 6) (w : Word) (s : State) : Out :=
  let mode := w.extractLsb' 28 2
  let aux := w.extractLsb' 22 6
  let field := w.extractLsb' 0 22
  match w.toNat / 2 ^ 30 with
  | 0x01 => execNop n mode aux field s
  | 0x02 => execLda n mode aux field s
  | 0x03 => execLdau n mode aux field s
  | 0x04 => execSta n mode aux field s
  | 0x05 => execLdx n mode aux field s
  | 0x06 => execLdy n mode aux field s
  | 0x07 => execStx n mode aux field s
  | 0x08 => execSty n mode aux field s
  | 0x09 => execLeax n mode aux field s
  | 0x0A => execLeay n mode aux field s
  | 0x0B => execMovr n mode aux field s
  | 0x0C => execAdd n mode aux field s
  | 0x0D => execSub n mode aux field s
  | 0x0E => execRsb n mode aux field s
  | 0x0F => execAnd n mode aux field s
  | 0x10 => execOr n mode aux field s
  | 0x11 => execXor n mode aux field s
  | 0x12 => execSh n mode aux field s
  | 0x13 => execMul n mode aux field s
  | 0x14 => execDiv n mode aux field s
  | 0x15 => execBic n mode aux field s
  | 0x16 => execJmp n mode aux field s
  | 0x17 => execCall n mode aux field s
  | 0x18 => execRet n mode aux field s
  | 0x19 => execSend n mode aux field s
  | 0x1A => execRecv n mode aux field s
  | 0x1B => execPoll n mode aux field s
  | 0x1C => execWait n mode aux field s
  | 0x1D => execFence n mode aux field s
  | 0x1E => execTas n mode aux field s
  | 0x1F => execBrk n mode aux field s
  | 0x20 => execCb n (w.extractLsb' 26 4) (w.extractLsb' 24 2) (w.extractLsb' 12 12) (w.extractLsb' 0 12) s
  | _ => execIllegal n s

/-- Core n executes the word that stands at P. -/
def State.runAtPc (s : State) (n : Fin 6) : Out := runWord n (s.busRead (.core n) (s.dev.pcOf n)).1 s

end Sys2Proof.Machine
end

