-- ==== Sys2Proof/Machine/Tap.lean ====
section
/-!
DEFINITION. Sys2Proof/Machine/Tap.lean: the test access port and debug (R550-R556).
-/
namespace Sys2Proof.Machine

/-- Debug is unlocked (R553). -/
def Dev.unlocked (d : Dev) : Bool := d.bit F.DBG_STAT_UNLOCKED

/-- A TAP instruction is selected; EXTEST drives the pads only while it is the one in force (R550). -/
def Dev.tapSel (d : Dev) (ir : Nat) : Dev := d.puts [(H.tapIr, ir), (F.DBG_STAT_TAPACT, 1), (H.bsDrive, 0)]

/-- Test-Logic-Reset selects IDCODE. -/
def execTapReset (s : State) : Out := s.ok (fun d => (d.tapSel 2).clr F.DBG_STAT_TAPACT)

/-- EXTEST drives the pads from the boundary-scan cells; locked, it acts as BYPASS. -/
def execExtest (s : State) : Out :=
  s.ok (fun d => if d.unlocked then (d.tapSel 0).set1 H.bsDrive else (d.tapSel 0x1F).clr H.tapOut)

/-- SAMPLE/PRELOAD: the levels sampled at the pads are the board's and the engines', an open value; the cells take the
value shifted in. -/
def Dev.samplePreload (d : Dev) (v : Nat) : Dev :=
  let lo := (d.tapSel 1).fresh 33
  let hi := lo.2.fresh 32
  hi.2.puts [(H.tapOut, hi.1 * 2 ^ 33 + lo.1), (H.bscan, v)]

def execSamplePreload (v : BitVec 65) (s : State) : Out := s.ok (·.samplePreload v.toNat)

/-- IDCODE: version 1, part 0x2460, manufacturer 0x2B5 (R551). -/
def idCode : Nat := 0x1246056B

def execIdcode (s : State) : Out := s.ok (fun d => (d.tapSel 2).put H.tapOut idCode)

/-- BYPASS, and every code without an instruction. -/
def execBypass (s : State) : Out := s.ok (fun d => (d.tapSel 0x1F).clr H.tapOut)

/-! ### The lock (R553, R554) -/

/-- The nonce as 24 bytes. -/
def Dev.nonceBytes (d : Dev) : List Nat :=
  (List.range 6).flatMap (fun i => beBytes 4 (Config.freeValue (d.get H.nonceAt + i)).toNat)

/-- DBGCHAL: DEVID, then the nonce. -/
def Dev.chalBytes (d : Dev) : List Nat := devId ++ d.nonceBytes

def execDbgchal (s : State) : Out := s.ok (fun d => (d.tapSel 0x0B).put H.tapOut (beNat d.chalBytes))

/-- Update-DR of DBGRESP: ignored at levels 2 and 3 and after three refused responses. -/
def Dev.dbgResp (d : Dev) (v : Nat) : Dev :=
  let d := d.tapSel 0x0C
  if d.get F.DBG_STAT_LEVEL ≥ 2 ∨ d.get H.dbgTries = 3 then d else (d.put H.dbgResp v).arm T.dbgVer (msTicks 50)

def execDbgresp (v : BitVec 1024) (s : State) : Out := s.ok (·.dbgResp v.toNat)

/-- The response names the debug key and signs DBGCHAL with it. -/
def Dev.respOk (d : Dev) : Bool :=
  let v := d.get H.dbgResp
  let x := bits v 768 256
  let y := bits v 512 256
  beNat (sha256 (4 :: pubBytes (x, y))) == Config.dbgKeyHash && ecdsaVerify x y d.chalBytes (bits v 256 256) (bits v 0 256)

/-- The unlock of R88: TAMPER sets and source 235 is raised. -/
def Dev.dbgUnlock (d : Dev) : Dev :=
  (d.puts [(F.SYS_BAK_STAT_TAMPER, 1), (F.DBG_STAT_UNLOCKED, 1), (H.dbgWork, 1)]).raise 235

/-- A response is refused: RESPBAD, source 235, a fresh nonce. -/
def Dev.dbgRefuse (d : Dev) : Dev := (((d.set1 F.DBG_STAT_RESPBAD).inc H.dbgTries).raise 235).nonceDraw

/-- The verification ends. -/
def Dev.dbgVerified (d : Dev) : Dev :=
  if d.armed T.dbgVer then
    let d := d.stop T.dbgVer
    if d.respOk then d.dbgUnlock else d.dbgRefuse
  else d

def execDbgResponseVerified (s : State) : Out := s.ok (·.dbgVerified)

/-- At level 0 the first halt, DBGDATA write or breakpoint enable counts as the unlock. -/
def Dev.dbgFirst (d : Dev) : Dev := if d.bit H.dbgWork then d else d.dbgUnlock

/-! ### DBGCTRL (R555) -/

/-- The selected core. -/
def Dev.selCore (d : Dev) : Option (Fin 6) :=
  if h : d.get H.dbgSel < 6 then some ⟨d.get H.dbgSel, h⟩ else none

/-- A core in debug halt continues: in Banked it stands halted for Banked; a timeout that has passed ends its WAIT (R451). -/
def Dev.dbgResume (d : Dev) (n : Nat) : Dev :=
  if d.coreState n = 4 then
    if d.get F.SYS_MODE_MODE = 3 then d.coreSet n 3
    else
      let d := (d.coreSet n (d.get (H.coreWas n))).clr (H.coreWas n)
      if d.bit (H.waitDue n) then (d.clr (H.waitDue n)).arm (T.waitOut n) 0 else d
  else d

/-- One instruction of a core in debug halt, which then halts again. A WAIT in progress ends if it can. -/
def State.dbgStep (s : State) (n : Fin 6) : State :=
  if s.dev.coreState n = 4 then
    if s.dev.get (H.coreWas n) = 2 then
      s.onDev (fun d => ((((d.coreSet n 2).when (d.bit (H.waitDue n)) (·.waitEnd n (BitVec.allOnes 36)))).waitWake n).dbgHalt n)
    else
      match (s.onDev (·.coreSet n 1)).runAtPc n with
      | .next t => t.onDev (·.dbgHalt n)
      | _ => s
  else s

/-- What the scan before an Update-DR of DBGCTRL captures: DBG_STAT [11:0]; locked, 0. -/
def Dev.ctrlCapture (d : Dev) : Nat := if d.unlocked then d.readDbgStat % 4096 else 0

/-- Update-DR of DBGCTRL, behind its capture. While unlocked: CORESEL, AUTOINC and BKEN are taken, then RESUME before HALT, STEP, RSTREQ. -/
def State.dbgCtrl (s : State) (v : Nat) : State :=
  let s := s.onDev (fun d => (d.tapSel 8).put H.tapOut d.ctrlCapture)
  if !s.dev.unlocked then s
  else
    let s := s.onDev (fun d =>
      let d := d.puts [(H.dbgSel, bits v 13 3), (H.dbgAuto, bits v 6 1), (F.DBG_STAT_BKEN, bits v 9 1)]
      if v.testBit 9 then d.dbgFirst else d)
    let s := match s.dev.selCore with
      | none => s
      | some n =>
        let s := if v.testBit 11 then s.onDev (·.dbgResume n)
          else if v.testBit 12 then s.onDev (fun d => d.dbgFirst.dbgHalt n) else s
        if v.testBit 10 then s.dbgStep n else s
    if bits v 7 2 = 1 then s.onDev (·.rstAssert 5 1)
    else if bits v 7 2 = 2 then s.onDev (·.rstAssert 5 2) else s

/-- The update with the named bit set, whatever the other bits. -/
def execDbgHalt (v : BitVec 16) (s : State) : Out := .next (s.dbgCtrl ((v ||| 0x1000#16).toNat))
def execDbgResume (v : BitVec 16) (s : State) : Out := .next (s.dbgCtrl ((v ||| 0x0800#16).toNat))
def execDbgStep (v : BitVec 16) (s : State) : Out := .next (s.dbgCtrl ((v ||| 0x0400#16).toNat))
/-- Enables or disables breakpoints: BKEN as the update gives it. -/
def execDbgBken (v : BitVec 16) (s : State) : Out := .next (s.dbgCtrl v.toNat)
def execDbgResetL1 (v : BitVec 16) (s : State) : Out := .next (s.dbgCtrl (((v &&& 0xFE7F#16) ||| 0x0080#16).toNat))
def execDbgResetL2 (v : BitVec 16) (s : State) : Out := .next (s.dbgCtrl (((v &&& 0xFE7F#16) ||| 0x0100#16).toNat))

/-! ### DBGADDR and DBGDATA (R556) -/

/-- Update-DR of DBGADDR. The scan before it captures 0 when locked; what it captures when unlocked is not stated, an open value
(DESIGN CHOICE, log entry 140). -/
def Dev.dbgAddrUpdate (d : Dev) (v : Nat) : Dev :=
  let d := d.tapSel 9
  if d.unlocked then
    let r := d.fresh 22
    r.2.puts [(H.tapOut, r.1), (H.dbgAddr, v)]
  else d.clr H.tapOut

def execDbgaddrUpdate (v : BitVec 22) (s : State) : Out := s.ok (·.dbgAddrUpdate v.toNat)

/-- Capture-DR of DBGDATA reads the word at DBGADDR; locked, 0. -/
def State.dbgCapture (s : State) : State :=
  let s := s.onDev (·.tapSel 10)
  if s.dev.unlocked then
    let r := s.busRead .tap (s.dev.get H.dbgAddr)
    r.2.onDev (fun d => d.puts [(H.tapOut, r.1.toNat), (H.rdata 8, r.1.toNat)])
  else s.onDev (·.clr H.tapOut)

def execDbgdataCapture (s : State) : Out := .next s.dbgCapture

/-- Update-DR of DBGDATA: bit 36 writes bits [35:0] at DBGADDR; AUTOINC advances DBGADDR. -/
def State.dbgUpdate (s : State) (v : BitVec 37) : State :=
  let s := s.onDev (·.tapSel 10)
  if s.dev.unlocked then
    let s := if v.getLsbD 36 then (s.onDev (·.dbgFirst)).busWrite .tap (s.dev.get H.dbgAddr) (v.setWidth 36) else s
    if s.dev.bit H.dbgAuto then s.onDev (fun d => d.put H.dbgAddr (d.get H.dbgAddr + 1)) else s
  else s

def execDbgdataUpdate (v : BitVec 37) (s : State) : Out := .next (s.dbgUpdate v)

end Sys2Proof.Machine
end

