-- ==== Sys2Proof/Machine/HostBus.lean ====
section
/-!
DEFINITION. Sys2Proof/Machine/HostBus.lean: the accesses of the host over the SPI target (R534-R540) and through the TW0 window
(R497-R503), and the write of a register without a rule of its own (R10).
-/
namespace Sys2Proof.Machine

/-- The host interfaces are in reset while an L2 or L3 is asserted: HRDY is low, and TW0 does not acknowledge (R540, R497). -/
def Dev.hostDown (d : Dev) : Bool := decide (2 ≤ d.get H.rstHeld)

/-- HRDY (R540). -/
def Dev.hrdy (d : Dev) : Bool := !d.hostDown

/-- A write of a register by an agent. One of the host wakes the device first (R45). -/
def execRegisterWrite (a : Agent) (addr : BitVec 22) (v : Word) (s : State) : Out :=
  .next (
    if s.dev.hostDown then s
    else
      let s := s.onDev (·.touch a)
      if 0x200000 ≤ addr.toNat then s.busWrite a addr.toNat v else s)

/-! ### SPI target -/

/-- Words written one after another from an address, which wraps at 2^22 (R536). -/
def State.spiWords (s : State) (addr : Nat) : List Word → State
  | [] => s
  | w :: l => State.spiWords (s.busWrite .spi (addr % 2 ^ 22) w) (addr + 1) l

/-- The address of a transaction has bits [23:22] set (R536). -/
def Dev.spiBadAddr (d : Dev) : Dev := d.hwSet F.HOST_EVT_SPIADDR

/-- The SPI transfer has ended (HCSn high): the reset requested in it asserts (R104). -/
def Dev.spiEnded (d : Dev) : Dev :=
  if d.get H.spiReq = 0 then d else (d.clr H.spiReq).rstAssert 4 (d.get H.spiReq)

/-- An SPI access: it wakes the device (R45), and an earlier READ is over. -/
def Dev.spiAccess (d : Dev) : Dev := (d.touch .spi).clr H.spiAt

/-- WRITE: the complete words, and whether the transaction ends inside a further word (R536, R539). -/
def State.spiWrite (s : State) (addr : BitVec 24) (ws : List Word) (part : Bool) : State :=
  if s.dev.hostDown then s
  else
    let s := s.onDev (·.spiAccess)
    if 2 ^ 22 ≤ addr.toNat then s.onDev (·.spiBadAddr)
    else
      ((s.onDev (·.set1 H.hostXfer)).spiWords addr.toNat ws).onDev (fun d =>
        ((d.clr H.hostXfer).when part (·.hwSet F.HOST_EVT_SPIPART)).spiEnded)

def execSpiWrite (addr : BitVec 24) (ws : List Word) (part : Bool) (s : State) : Out := .next (s.spiWrite addr ws part)

/-- Where the words of the last SPI READ stand, in order. -/
def spiOutKey : Nat := 210

/-- A READ goes on: its next latch is due now, from this address. -/
def Dev.spiGoesOn (d : Dev) (addr : Nat) : Bool := d.get H.spiAt == d.now + 1 && d.get H.spiAddr == addr

/-- The word that a READ latches stands at the interface, after those the READ has returned before. -/
def Dev.spiOut (d : Dev) (on : Bool) (w : Nat) : Dev :=
  ({ d with hist := tput [] d.hist spiOutKey ((if on then tget [] d.hist spiOutKey else []) ++ [w]) }).put (H.rdata 6) w

/-- READ: the word at the address is latched now; `more` further ones follow, each at a tick of its own, one for each continue
byte with bit 7 set; and whether the transaction ends inside a word (R142, R537, R539). The gap between two latches follows
HSCK: 48 bits at 33 MHz or less, an open number of ticks of at least 93. -/
def State.spiRead (s : State) (addr : BitVec 24) (more : Nat) (part : Bool) : State :=
  if s.dev.hostDown then s
  else
    let on := s.dev.spiGoesOn addr.toNat
    let s := s.onDev (·.spiAccess)
    if 2 ^ 22 ≤ addr.toNat then s.onDev (·.spiBadAddr)
    else
      let r := s.busRead .spi addr.toNat
      r.2.onDev (fun d =>
        let d := d.spiOut on r.1.toNat
        if more = 0 then d.when part (·.hwSet F.HOST_EVT_SPIPART)
        else
          let g := d.fresh 16
          g.2.puts [(H.spiAddr, (addr.toNat + 1) % 2 ^ 22), (H.spiMore, more - 1), (H.spiPart, b2n part),
            (H.spiAt, d.now + 93 + g.1 + 1)])

def execSpiRead (addr : BitVec 24) (more : Nat) (part : Bool) (s : State) : Out := .next (s.spiRead addr more part)

/-- STATUS and IDENT (R535). -/
def Dev.spiStatus (d : Dev) : Dev :=
  if d.hostDown then d
  else
    let d := d.spiAccess
    Dev.returned (d.hostStatRead .spi) .spi
def Dev.spiIdent (d : Dev) : Dev := if d.hostDown then d else d.spiAccess.put (H.rdata 6) idCode

def execSpiStatus (s : State) : Out := s.ok (·.spiStatus)
def execSpiIdent (s : State) : Out := s.ok (·.spiIdent)

/-- A transaction whose command byte is not followed by what the command needs. Any byte but those of R535 sets SPICMD. A known
one that is said to be unknown does what its command does with no byte after it (DESIGN CHOICE, log entry 3): STATUS and IDENT
latch their word, WRITE and READ have no address and do nothing more than access. -/
def Dev.spiOther (d : Dev) (code : Nat) : Dev :=
  if d.hostDown then d
  else if code = 0x05 then d.spiStatus
  else if code = 0x9F then d.spiIdent
  else if code = 0x02 ∨ code = 0x0B then d.spiAccess
  else d.hwSet F.HOST_EVT_SPICMD

def execSpiUnknownCmd (code : BitVec 8) (s : State) : Out := s.ok (·.spiOther code.toNat)

/-! ### The TW0 window (R498) -/

/-- The pointer advances after a complete word. -/
def Dev.pointerNext (d : Dev) : Dev := d.put (F.TW_STAT_PTR 0) (d.get (F.TW_STAT_PTR 0) + 1)

/-- A complete word written at the pointer (R500). A reset that it requests waits for the end of the transfer (R104). -/
def State.tw0Write (s : State) (v : Word) : State :=
  if s.dev.hostDown then s
  else
    let s := s.onDev (fun d => d.tw0Serves.set1 H.hostXfer)
    (s.busWrite .tw0 (s.dev.windowAddr (s.dev.get (F.TW_STAT_PTR 0))) v).onDev (fun d => (d.clr H.hostXfer).pointerNext)

def execTw0WordWrite (v : Word) (s : State) : Out := .next (s.tw0Write v)

/-- The latch of the word at the pointer is taken (R501). The pointer's step is counted here; a transfer that ends inside the
word takes it back (R502). -/
def State.tw0Read (s : State) : State :=
  if s.dev.hostDown then s
  else
    let s := s.onDev (·.tw0Serves)
    let r := s.busRead .tw0 (s.dev.windowAddr (s.dev.get (F.TW_STAT_PTR 0)))
    r.2.onDev (fun d => d.pointerNext.put (H.rdata 7) r.1.toNat)

def execTw0WordRead (s : State) : Out := .next s.tw0Read

/-- What ends a transfer of TW0 also lets a reset requested in it assert (R104). -/
def Dev.endTw0 (d : Dev) (n : Nat) : Dev := if n = 0 then d.tw0Ended else d

def execTw0PartialEnd (read : Bool) (s : State) : Out := s.okUp (fun d => (d.tw0Partial read).tw0Ended)

def execTwTargetMisplaced (n : Fin 4) (inWord read : Bool) (bit : Fin 9) (byte addr : BitVec 7) (count : Fin 9)
    (data : BitVec 64) (s : State) : Out :=
  s.okUp (fun d => (d.twMisplaced n.val inWord read bit.val byte.toNat addr.toNat count.val data.toNat).endTw0 n)

def execTwTargetTransferEnd (n : Fin 4) (count : Fin 9) (data : BitVec 64) (s : State) : Out :=
  s.okUp (fun d => (d.twTargetEnd n.val count.val data.toNat).endTw0 n)

def execBusFree (n : Fin 4) (s : State) : Out := s.okUp (fun d => (d.twFree n.val).endTw0 n)

def execSclTimeout (n : Fin 4) (self inWord read : Bool) (bit : Fin 9) (byte addr : BitVec 7) (s : State) : Out :=
  s.okUp (fun d => (d.sclTimeout n.val self inWord read bit.val byte.toNat addr.toNat).endTw0 n)

def execSdaTimeout (n : Fin 4) (inWord read : Bool) (bit : Fin 9) (byte addr : BitVec 7) (s : State) : Out :=
  s.okUp (fun d => (d.sdaTimeout n.val inWord read bit.val byte.toNat addr.toNat).endTw0 n)

/-! ### Pads (R58, R63, R64, R78)

DESIGN CHOICE (log entry 117): while VIOLOW is 1 the levels on VIO-domain pads are not specified; these views go on giving the
level that the pad's block drives. -/

/-- HSYSOK (R65). -/
def Dev.hsysok (d : Dev) : Bool := d.bit H.sysok

/-- IRQ0n and IRQ1n are low while a pending source drives them, once a route has been written (R482, R541). An L2 holds them,
an L3 releases them. -/
def Dev.irqLow (d : Dev) (line : Nat) : Bool :=
  if d.get H.rstHeld = 3 then false else if d.get H.rstHeld = 2 then d.getBit H.padIrq line else d.irqLines.testBit line

/-- BRSTn is driven low. -/
def Dev.brstLow (d : Dev) (n : Nat) : Bool :=
  if d.get H.rstHeld = 3 then false else if d.get H.rstHeld = 2 then d.getBit H.padBrst n else d.brstLines.testBit n

/-- How the Store pads SCLK, SCS0n, SCS1n and SIO0-SIO3 stand: at their idle levels (SCLK low, SCSn high, SIO high impedance),
in a transfer, or held as a transfer left them when an L2 cut it off. -/
inductive StorePads where
  | idle | transfer | cut
  deriving DecidableEq, Repr

def Dev.storePads (d : Dev) : StorePads :=
  if d.get H.rstHeld = 3 then .idle
  else if d.get H.rstHeld = 2 then (if d.bit H.padSto then .cut else .idle)
  else if d.stoIdle then .idle else .transfer

/-- The bias of PnnNTC is on but in an L3. -/
def Dev.ntcBias (d : Dev) : Bool := d.get H.rstHeld != 3

end Sys2Proof.Machine
end

