-- ==== Sys2Proof/Machine/Dispatch.lean ====
section
/-!
DEFINITION. Sys2Proof/Machine/Dispatch.lean: the meaning of every command, one arm for each constructor.
-/
namespace Sys2Proof.Machine

def exec (i : Instr) (s : State) : Host.Outcome State Fault Refusal :=
  match i with
  | .registerWrite a addr v => Sys2Proof.Machine.execRegisterWrite a addr v s
  | .bankedEntry => Sys2Proof.Machine.execBankedEntry s
  | .bankedUnsettledTimeout => Sys2Proof.Machine.execBankedUnsettledTimeout s
  | .bankedWake src => Sys2Proof.Machine.execBankedWake src s
  | .kindlingCompletion => Sys2Proof.Machine.execKindlingCompletion s
  | .kindlingTimeout => Sys2Proof.Machine.execKindlingTimeout s
  | .vcoreStep => Sys2Proof.Machine.execVcoreStep s
  | .watchdogExpiry idx => Sys2Proof.Machine.execWatchdogExpiry idx s
  | .flushTimeout => Sys2Proof.Machine.execFlushTimeout s
  | .holdTimerExpiry => Sys2Proof.Machine.execHoldTimerExpiry s
  | .lapWrap => Sys2Proof.Machine.execLapWrap s
  | .tbRldWrite a v => Sys2Proof.Machine.execTbRldWrite a v s
  | .tbEpsetWrite a v => Sys2Proof.Machine.execTbEpsetWrite a v s
  | .cmpValWrite idx v => Sys2Proof.Machine.execCmpValWrite idx v s
  | .cmpCtrlWrite idx v => Sys2Proof.Machine.execCmpCtrlWrite idx v s
  | .cmpFire idx => Sys2Proof.Machine.execCmpFire idx s
  | .cmpPulseEnd o => Sys2Proof.Machine.execCmpPulseEnd o s
  | .cmpOutWrite v => Sys2Proof.Machine.execCmpOutWrite v s
  | .capEdgeAccepted idx level => Sys2Proof.Machine.execCapEdgeAccepted idx level s
  | .capStuckTimeout idx => Sys2Proof.Machine.execCapStuckTimeout idx s
  | .capCtrlWrite idx v => Sys2Proof.Machine.execCapCtrlWrite idx v s
  | .ccLevelAccepted p cc code => Sys2Proof.Machine.execCcLevelAccepted p cc code s
  | .chatterHoldExpiry p => Sys2Proof.Machine.execChatterHoldExpiry p s
  | .togglePhaseEnd p => Sys2Proof.Machine.execTogglePhaseEnd p s
  | .bankedToggleRestEnd p => Sys2Proof.Machine.execBankedToggleRestEnd p s
  | .ccDebounceExpiry p => Sys2Proof.Machine.execCcDebounceExpiry p s
  | .pdDebounceExpiry p => Sys2Proof.Machine.execPdDebounceExpiry p s
  | .drpTryExpiry p => Sys2Proof.Machine.execDrpTryExpiry p s
  | .tryCcDebounceExpiry p => Sys2Proof.Machine.execTryCcDebounceExpiry p s
  | .errorRecoveryExpiry p => Sys2Proof.Machine.execErrorRecoveryExpiry p s
  | .rpLevelRecognised p code => Sys2Proof.Machine.execRpLevelRecognised p code s
  | .treceiveExpiry p => Sys2Proof.Machine.execTreceiveExpiry p s
  | .tsenderResponseExpiry p => Sys2Proof.Machine.execTsenderResponseExpiry p s
  | .tsinktxExpiry p => Sys2Proof.Machine.execTsinktxExpiry p s
  | .sourceCapsReady p => Sys2Proof.Machine.execSourceCapsReady p s
  | .ttypecSendSourceCapExpiry p => Sys2Proof.Machine.execTtypecSendSourceCapExpiry p s
  | .ttypecSinkWaitCapExpiry p => Sys2Proof.Machine.execTtypecSinkWaitCapExpiry p s
  | .tsrcTransitionExpiry p => Sys2Proof.Machine.execTsrcTransitionExpiry p s
  | .rampEnd p => Sys2Proof.Machine.execRampEnd p s
  | .pgtoExpiry p => Sys2Proof.Machine.execPgtoExpiry p s
  | .tpsTransitionExpiry p => Sys2Proof.Machine.execTpsTransitionExpiry p s
  | .tsinkRequestExpiry p => Sys2Proof.Machine.execTsinkRequestExpiry p s
  | .tppsRequestExpiry p => Sys2Proof.Machine.execTppsRequestExpiry p s
  | .tppsTimeoutExpiry p => Sys2Proof.Machine.execTppsTimeoutExpiry p s
  | .tenterEprExpiry p => Sys2Proof.Machine.execTenterEprExpiry p s
  | .tsinkEprKeepaliveExpiry p => Sys2Proof.Machine.execTsinkEprKeepaliveExpiry p s
  | .tsourceEprKeepaliveExpiry p => Sys2Proof.Machine.execTsourceEprKeepaliveExpiry p s
  | .tchunkExpiry p => Sys2Proof.Machine.execTchunkExpiry p s
  | .tpsHardResetExpiry p => Sys2Proof.Machine.execTpsHardResetExpiry p s
  | .tsafe0vExpiry p => Sys2Proof.Machine.execTsafe0vExpiry p s
  | .tsrcRecoverExpiry p => Sys2Proof.Machine.execTsrcRecoverExpiry p s
  | .tnoResponseExpiry p => Sys2Proof.Machine.execTnoResponseExpiry p s
  | .tbistContModeExpiry p => Sys2Proof.Machine.execTbistContModeExpiry p s
  | .askDeadline p => Sys2Proof.Machine.execAskDeadline p s
  | .contourRenegotiation p => Sys2Proof.Machine.execContourRenegotiation p s
  | .cmdStart p => Sys2Proof.Machine.execCmdStart p s
  | .cmdDeadlineMiss p => Sys2Proof.Machine.execCmdDeadlineMiss p s
  | .tprSwapWaitExpiry p => Sys2Proof.Machine.execTprSwapWaitExpiry p s
  | .backOffExpiry p => Sys2Proof.Machine.execBackOffExpiry p s
  | .swapGatesOffDelay p => Sys2Proof.Machine.execSwapGatesOffDelay p s
  | .tpsSourceOffExpiry p => Sys2Proof.Machine.execTpsSourceOffExpiry p s
  | .tpsSourceOnExpiry p => Sys2Proof.Machine.execTpsSourceOnExpiry p s
  | .swapVbsTimeout p => Sys2Proof.Machine.execSwapVbsTimeout p s
  | .tswapSourceStartExpiry p => Sys2Proof.Machine.execTswapSourceStartExpiry p s
  | .tvdmBusyExpiry p => Sys2Proof.Machine.execTvdmBusyExpiry p s
  | .tvdmSenderResponseExpiry p => Sys2Proof.Machine.execTvdmSenderResponseExpiry p s
  | .tdiscoverIdentityExpiry p => Sys2Proof.Machine.execTdiscoverIdentityExpiry p s
  | .tvdmWaitModeExpiry p => Sys2Proof.Machine.execTvdmWaitModeExpiry p s
  | .hpmEntryConditions p => Sys2Proof.Machine.execHpmEntryConditions p s
  | .pilotCheckEnd p opened clean => Sys2Proof.Machine.execPilotCheckEnd p opened clean s
  | .thpmOfferExpiry p => Sys2Proof.Machine.execThpmOfferExpiry p s
  | .thpmTransExpiry p => Sys2Proof.Machine.execThpmTransExpiry p s
  | .thpmReadyExpiry p => Sys2Proof.Machine.execThpmReadyExpiry p s
  | .hpmRepeatRequestExpiry p => Sys2Proof.Machine.execHpmRepeatRequestExpiry p s
  | .ownCeilingSend p => Sys2Proof.Machine.execOwnCeilingSend p s
  | .telemetryPoll p => Sys2Proof.Machine.execTelemetryPoll p s
  | .turnOnGrant p => Sys2Proof.Machine.execTurnOnGrant p s
  | .stopComplete p => Sys2Proof.Machine.execStopComplete p s
  | .tripSoa p time vpair idx => Sys2Proof.Machine.execTripSoa p time vpair idx s
  | .tripI2t p => Sys2Proof.Machine.execTripI2t p s
  | .tripPath p => Sys2Proof.Machine.execTripPath p s
  | .disRelease p => Sys2Proof.Machine.execDisRelease p s
  | .disTimeout p => Sys2Proof.Machine.execDisTimeout p s
  | .disRetry p => Sys2Proof.Machine.execDisRetry p s
  | .contourRecompute => Sys2Proof.Machine.execContourRecompute s
  | .revocation p => Sys2Proof.Machine.execRevocation p s
  | .segmentFull p => Sys2Proof.Machine.execSegmentFull p s
  | .segmentPost p => Sys2Proof.Machine.execSegmentPost p s
  | .meterSettleEnd p => Sys2Proof.Machine.execMeterSettleEnd p s
  | .ledgerTakeSegment => Sys2Proof.Machine.execLedgerTakeSegment s
  | .blockAgeExpiry => Sys2Proof.Machine.execBlockAgeExpiry s
  | .blockSigned => Sys2Proof.Machine.execBlockSigned s
  | .commitDeadline => Sys2Proof.Machine.execCommitDeadline s
  | .identityEstablished p => Sys2Proof.Machine.execIdentityEstablished p s
  | .releaseEraseDone => Sys2Proof.Machine.execReleaseEraseDone s
  | .formatDone => Sys2Proof.Machine.execFormatDone s
  | .waitMessageWake n => Sys2Proof.Machine.execWaitMessageWake n s
  | .waitTimeout n => Sys2Proof.Machine.execWaitTimeout n s
  | .takeDeadline c => Sys2Proof.Machine.execTakeDeadline c s
  | .eventPost src => Sys2Proof.Machine.execEventPost src s
  | .admEvalDone => Sys2Proof.Machine.execAdmEvalDone s
  | .twControllerStart n => Sys2Proof.Machine.execTwControllerStart n s
  | .gzRetryExpiry q => Sys2Proof.Machine.execGzRetryExpiry q s
  | .gzProbeExpiry q => Sys2Proof.Machine.execGzProbeExpiry q s
  | .spiRead addr more part => Sys2Proof.Machine.execSpiRead addr more part s
  | .snapinEdge rising => Sys2Proof.Machine.execSnapinEdge rising s
  | .snapoutPulseEnd => Sys2Proof.Machine.execSnapoutPulseEnd s
  | .dbgResponseVerified => Sys2Proof.Machine.execDbgResponseVerified s
  | .sweepStart => Sys2Proof.Machine.execSweepStart s
  | .dayEnd => Sys2Proof.Machine.execDayEnd s
  | .fwEraseDone bad => Sys2Proof.Machine.execFwEraseDone bad s
  | .fwProgramDone ok => Sys2Proof.Machine.execFwProgramDone ok s
  | .fwStageDone readOk => Sys2Proof.Machine.execFwStageDone readOk s
  | .activationPoint => Sys2Proof.Machine.execActivationPoint s
  | .activationComplete readOk => Sys2Proof.Machine.execActivationComplete readOk s
  | .trialExpiry => Sys2Proof.Machine.execTrialExpiry s
  | .hardResetSignallingSent p => Sys2Proof.Machine.execHardResetSignallingSent p s
  | .brstRetryExpiry n => Sys2Proof.Machine.execBrstRetryExpiry n s
  | .lineFree p => Sys2Proof.Machine.execLineFree p s
  | .modeReqSteady a => Sys2Proof.Machine.execModeReqSteady a s
  | .modeReqKindling a => Sys2Proof.Machine.execModeReqKindling a s
  | .modeReqBlaze a => Sys2Proof.Machine.execModeReqBlaze a s
  | .modeReqBanked a => Sys2Proof.Machine.execModeReqBanked a s
  | .modeReqTinder a => Sys2Proof.Machine.execModeReqTinder a s
  | .modeReqIgnoredCode a code => Sys2Proof.Machine.execModeReqIgnoredCode a code s
  | .blazeCompletion res => Sys2Proof.Machine.execBlazeCompletion res s
  | .powerUp => Sys2Proof.Machine.execPowerUp s
  | .vsysBrownout below25 => Sys2Proof.Machine.execVsysBrownout below25 s
  | .vcoreBrownout => Sys2Proof.Machine.execVcoreBrownout s
  | .vinlowChange low => Sys2Proof.Machine.execVinlowChange low s
  | .violowChange low => Sys2Proof.Machine.execViolowChange low s
  | .vconnlowChange low => Sys2Proof.Machine.execVconnlowChange low s
  | .backupPowerLoss => Sys2Proof.Machine.execBackupPowerLoss s
  | .backupGlitch => Sys2Proof.Machine.execBackupGlitch s
  | .rstnAssert => Sys2Proof.Machine.execRstnAssert s
  | .wdtKick a key => Sys2Proof.Machine.execWdtKick a key s
  | .wdtCtrlWrite v => Sys2Proof.Machine.execWdtCtrlWrite v s
  | .lockupTimeout idx => Sys2Proof.Machine.execLockupTimeout idx s
  | .rstReqL1 a flush => Sys2Proof.Machine.execRstReqL1 a flush s
  | .rstReqL2 a flush => Sys2Proof.Machine.execRstReqL2 a flush s
  | .rstReqBad a v => Sys2Proof.Machine.execRstReqBad a v s
  | .flushDone => Sys2Proof.Machine.execFlushDone s
  | .clockFailure => Sys2Proof.Machine.execClockFailure s
  | .resetRelease m0 m1 m2 m3 otpOk xtal => Sys2Proof.Machine.execResetRelease m0 m1 m2 m3 otpOk xtal s
  | .holdEmergencyDetach p idx => Sys2Proof.Machine.execHoldEmergencyDetach p idx s
  | .holdHardResetLatch p => Sys2Proof.Machine.execHoldHardResetLatch p s
  | .coreStart a v => Sys2Proof.Machine.execCoreStart a v s
  | .tbCountRead a => Sys2Proof.Machine.execTbCountRead a s
  | .capCandidateRejected idx => Sys2Proof.Machine.execCapCandidateRejected idx s
  | .capTbRead a idx => Sys2Proof.Machine.execCapTbRead a idx s
  | .vbsDischarged p => Sys2Proof.Machine.execVbsDischarged p s
  | .vbsPresent p => Sys2Proof.Machine.execVbsPresent p s
  | .sinkDisconnect p vbs => Sys2Proof.Machine.execSinkDisconnect p vbs s
  | .emergencyDetach p idx vbs => Sys2Proof.Machine.execEmergencyDetach p idx vbs s
  | .ccOvervoltage p cc => Sys2Proof.Machine.execCcOvervoltage p cc s
  | .vconnOvercurrent p => Sys2Proof.Machine.execVconnOvercurrent p s
  | .prtErrec p v => Sys2Proof.Machine.execPrtErrec p v s
  | .prtEnable p v => Sys2Proof.Machine.execPrtEnable p v s
  | .ccfiltWrite p v => Sys2Proof.Machine.execCcfiltWrite p v s
  | .rxGoodcrc p => Sys2Proof.Machine.execRxGoodcrc p s
  | .rxAccept p hdr => Sys2Proof.Machine.execRxAccept p hdr s
  | .rxReject p hdr => Sys2Proof.Machine.execRxReject p hdr s
  | .rxWait p hdr => Sys2Proof.Machine.execRxWait p hdr s
  | .rxPsRdy p hdr => Sys2Proof.Machine.execRxPsRdy p hdr s
  | .rxPing p hdr => Sys2Proof.Machine.execRxPing p hdr s
  | .rxGotomin p hdr => Sys2Proof.Machine.execRxGotomin p hdr s
  | .rxGetSourceCap p hdr epr => Sys2Proof.Machine.execRxGetSourceCap p hdr epr s
  | .rxGetSinkCap p hdr epr => Sys2Proof.Machine.execRxGetSinkCap p hdr epr s
  | .rxUnsupportedMessage p hdr => Sys2Proof.Machine.execRxUnsupportedMessage p hdr s
  | .rxSoftReset p hdr => Sys2Proof.Machine.execRxSoftReset p hdr s
  | .rxHardReset p => Sys2Proof.Machine.execRxHardReset p s
  | .rxNotSupported p hdr => Sys2Proof.Machine.execRxNotSupported p hdr s
  | .rxSourceCapabilities p hdr epr objs => Sys2Proof.Machine.execRxSourceCapabilities p hdr epr objs s
  | .rxRequest p hdr epr rdo copy => Sys2Proof.Machine.execRxRequest p hdr epr rdo copy s
  | .rxEprMode p hdr action data => Sys2Proof.Machine.execRxEprMode p hdr action data s
  | .rxEprKeepalive p hdr => Sys2Proof.Machine.execRxEprKeepalive p hdr s
  | .rxEprKeepaliveAck p hdr => Sys2Proof.Machine.execRxEprKeepaliveAck p hdr s
  | .rxGetSourceInfo p hdr kind => Sys2Proof.Machine.execRxGetSourceInfo p hdr kind s
  | .rxGetStatus p hdr kind => Sys2Proof.Machine.execRxGetStatus p hdr kind s
  | .rxAlert p hdr ado => Sys2Proof.Machine.execRxAlert p hdr ado s
  | .rxReplyStored p hdr ext ws => Sys2Proof.Machine.execRxReplyStored p hdr ext ws s
  | .rxBist p hdr mode => Sys2Proof.Machine.execRxBist p hdr mode s
  | .rxUnstructuredVdm p hdr => Sys2Proof.Machine.execRxUnstructuredVdm p hdr s
  | .rxChunkRequest p hdr => Sys2Proof.Machine.execRxChunkRequest p hdr s
  | .transitionSettled p => Sys2Proof.Machine.execTransitionSettled p s
  | .pgLost p => Sys2Proof.Machine.execPgLost p s
  | .pgRestored p => Sys2Proof.Machine.execPgRestored p s
  | .ppsCurrentStep p idx => Sys2Proof.Machine.execPpsCurrentStep p idx s
  | .askAnswer a p v => Sys2Proof.Machine.execAskAnswer a p v s
  | .srcLoad p v => Sys2Proof.Machine.execSrcLoad p v s
  | .snkLoad p v => Sys2Proof.Machine.execSnkLoad p v s
  | .ddtLoad a p v => Sys2Proof.Machine.execDdtLoad a p v s
  | .getSrcCap a p param => Sys2Proof.Machine.execGetSrcCap a p param s
  | .getSnkCap a p param => Sys2Proof.Machine.execGetSnkCap a p param s
  | .getSrcCapExt a p param => Sys2Proof.Machine.execGetSrcCapExt a p param s
  | .getSnkCapExt a p param => Sys2Proof.Machine.execGetSnkCapExt a p param s
  | .getStatus a p param => Sys2Proof.Machine.execGetStatus a p param s
  | .getBattCap a p param => Sys2Proof.Machine.execGetBattCap a p param s
  | .getBattStatus a p param => Sys2Proof.Machine.execGetBattStatus a p param s
  | .getRevision a p param => Sys2Proof.Machine.execGetRevision a p param s
  | .sendAlert a p param => Sys2Proof.Machine.execSendAlert a p param s
  | .renegotiate a p param => Sys2Proof.Machine.execRenegotiate a p param s
  | .eprEnter a p param => Sys2Proof.Machine.execEprEnter a p param s
  | .eprExit a p param => Sys2Proof.Machine.execEprExit a p param s
  | .prSwap a p param => Sys2Proof.Machine.execPrSwap a p param s
  | .vconnSwap a p param => Sys2Proof.Machine.execVconnSwap a p param s
  | .softReset a p param => Sys2Proof.Machine.execSoftReset a p param s
  | .hardReset a p param => Sys2Proof.Machine.execHardReset a p param s
  | .discover a p param => Sys2Proof.Machine.execDiscover a p param s
  | .enterMode a p param => Sys2Proof.Machine.execEnterMode a p param s
  | .exitMode a p param => Sys2Proof.Machine.execExitMode a p param s
  | .hpmEnter a p param => Sys2Proof.Machine.execHpmEnter a p param s
  | .hpmExit a p param => Sys2Proof.Machine.execHpmExit a p param s
  | .hpmCeiling a p param => Sys2Proof.Machine.execHpmCeiling a p param s
  | .hpmRecord a p param => Sys2Proof.Machine.execHpmRecord a p param s
  | .hpmTelemetry a p param => Sys2Proof.Machine.execHpmTelemetry a p param s
  | .cmdUnknownCode a p code param => Sys2Proof.Machine.execCmdUnknownCode a p code param s
  | .rxPrSwap p hdr => Sys2Proof.Machine.execRxPrSwap p hdr s
  | .rxDiscoverIdentity p hdr => Sys2Proof.Machine.execRxDiscoverIdentity p hdr s
  | .rxModeVdmReq p hdr h => Sys2Proof.Machine.execRxModeVdmReq p hdr h s
  | .rxAttention p hdr h vdo => Sys2Proof.Machine.execRxAttention p hdr h vdo s
  | .rxVdmAck p sop hdr h v => Sys2Proof.Machine.execRxVdmAck p sop hdr h v s
  | .rxVdmNak p sop hdr h => Sys2Proof.Machine.execRxVdmNak p sop hdr h s
  | .rxVdmBusy p sop hdr h => Sys2Proof.Machine.execRxVdmBusy p sop hdr h s
  | .rxHpmOffer p hdr v1 v2 => Sys2Proof.Machine.execRxHpmOffer p hdr v1 v2 s
  | .rxHpmRequest p hdr r => Sys2Proof.Machine.execRxHpmRequest p hdr r s
  | .rxHpmAccept p hdr v => Sys2Proof.Machine.execRxHpmAccept p hdr v s
  | .rxHpmTransition p hdr v => Sys2Proof.Machine.execRxHpmTransition p hdr v s
  | .rxHpmReady p hdr v => Sys2Proof.Machine.execRxHpmReady p hdr v s
  | .rxHpmCeiling p hdr v => Sys2Proof.Machine.execRxHpmCeiling p hdr v s
  | .hpmPloada a p v => Sys2Proof.Machine.execHpmPloada a p v s
  | .hpmPloadb a p v => Sys2Proof.Machine.execHpmPloadb a p v s
  | .inrushEnd p vbs => Sys2Proof.Machine.execInrushEnd p vbs s
  | .tripFast p idx => Sys2Proof.Machine.execTripFast p idx s
  | .tripGate p => Sys2Proof.Machine.execTripGate p s
  | .tripOffcur p idx => Sys2Proof.Machine.execTripOffcur p idx s
  | .tripOv p vbs => Sys2Proof.Machine.execTripOv p vbs s
  | .tripRev p idx => Sys2Proof.Machine.execTripRev p idx s
  | .tripOt p t => Sys2Proof.Machine.execTripOt p t s
  | .tripNtc p t => Sys2Proof.Machine.execTripNtc p t s
  | .tripUv p vbs => Sys2Proof.Machine.execTripUv p vbs s
  | .tempWarn p t => Sys2Proof.Machine.execTempWarn p t s
  | .lockoutClear p v => Sys2Proof.Machine.execLockoutClear p v s
  | .grdSetWrite p k v => Sys2Proof.Machine.execGrdSetWrite p k v s
  | .grdCapWrite a p k v => Sys2Proof.Machine.execGrdCapWrite a p k v s
  | .budChgWrite v => Sys2Proof.Machine.execBudChgWrite v s
  | .budDisWrite v => Sys2Proof.Machine.execBudDisWrite v s
  | .budLimWrite p v => Sys2Proof.Machine.execBudLimWrite p v s
  | .budnnCtrlWrite p v => Sys2Proof.Machine.execBudnnCtrlWrite p v s
  | .holdClear v => Sys2Proof.Machine.execHoldClear v s
  | .budAck v => Sys2Proof.Machine.execBudAck v s
  | .mtrClose p => Sys2Proof.Machine.execMtrClose p s
  | .mtrCalWrite a p k v => Sys2Proof.Machine.execMtrCalWrite a p k v s
  | .mtrAccRead a p exp => Sys2Proof.Machine.execMtrAccRead a p exp s
  | .mtrSegsttRead a p => Sys2Proof.Machine.execMtrSegsttRead a p s
  | .mtrLsegw0Read a p => Sys2Proof.Machine.execMtrLsegw0Read a p s
  | .pageProgramDone ok => Sys2Proof.Machine.execPageProgramDone ok s
  | .recoveryScanEnd chips gib page4k good => Sys2Proof.Machine.execRecoveryScanEnd chips gib page4k good s
  | .lgrRelease a v => Sys2Proof.Machine.execLgrRelease a v s
  | .stoFmt a v => Sys2Proof.Machine.execStoFmt a v s
  | .stoRd a v => Sys2Proof.Machine.execStoRd a v s
  | .pageReadDone ecc => Sys2Proof.Machine.execPageReadDone ecc s
  | .stoLogt a v => Sys2Proof.Machine.execStoLogt a v s
  | .certdatRead a => Sys2Proof.Machine.execCertdatRead a s
  | .nop n mode aux field => Sys2Proof.Machine.execNop n mode aux field s
  | .lda n mode aux field => Sys2Proof.Machine.execLda n mode aux field s
  | .ldau n mode aux field => Sys2Proof.Machine.execLdau n mode aux field s
  | .sta n mode aux field => Sys2Proof.Machine.execSta n mode aux field s
  | .ldx n mode aux field => Sys2Proof.Machine.execLdx n mode aux field s
  | .ldy n mode aux field => Sys2Proof.Machine.execLdy n mode aux field s
  | .stx n mode aux field => Sys2Proof.Machine.execStx n mode aux field s
  | .sty n mode aux field => Sys2Proof.Machine.execSty n mode aux field s
  | .leax n mode aux field => Sys2Proof.Machine.execLeax n mode aux field s
  | .leay n mode aux field => Sys2Proof.Machine.execLeay n mode aux field s
  | .movr n mode aux field => Sys2Proof.Machine.execMovr n mode aux field s
  | .add n mode aux field => Sys2Proof.Machine.execAdd n mode aux field s
  | .sub n mode aux field => Sys2Proof.Machine.execSub n mode aux field s
  | .rsb n mode aux field => Sys2Proof.Machine.execRsb n mode aux field s
  | .and n mode aux field => Sys2Proof.Machine.execAnd n mode aux field s
  | .or n mode aux field => Sys2Proof.Machine.execOr n mode aux field s
  | .xor n mode aux field => Sys2Proof.Machine.execXor n mode aux field s
  | .sh n mode aux field => Sys2Proof.Machine.execSh n mode aux field s
  | .mul n mode aux field => Sys2Proof.Machine.execMul n mode aux field s
  | .div n mode aux field => Sys2Proof.Machine.execDiv n mode aux field s
  | .bic n mode aux field => Sys2Proof.Machine.execBic n mode aux field s
  | .jmp n mode aux field => Sys2Proof.Machine.execJmp n mode aux field s
  | .call n mode aux field => Sys2Proof.Machine.execCall n mode aux field s
  | .ret n mode aux field => Sys2Proof.Machine.execRet n mode aux field s
  | .send n mode aux field => Sys2Proof.Machine.execSend n mode aux field s
  | .recv n mode aux field => Sys2Proof.Machine.execRecv n mode aux field s
  | .poll n mode aux field => Sys2Proof.Machine.execPoll n mode aux field s
  | .wait n mode aux field => Sys2Proof.Machine.execWait n mode aux field s
  | .fence n mode aux field => Sys2Proof.Machine.execFence n mode aux field s
  | .tas n mode aux field => Sys2Proof.Machine.execTas n mode aux field s
  | .brk n mode aux field => Sys2Proof.Machine.execBrk n mode aux field s
  | .cb n cond bmode operand offset => Sys2Proof.Machine.execCb n cond bmode operand offset s
  | .illegal n => Sys2Proof.Machine.execIllegal n s
  | .excClear a n => Sys2Proof.Machine.execExcClear a n s
  | .fabChcfgWrite a v => Sys2Proof.Machine.execFabChcfgWrite a v s
  | .evtPendClear k v => Sys2Proof.Machine.execEvtPendClear k v s
  | .evtSwset a v => Sys2Proof.Machine.execEvtSwset a v s
  | .evtRteWrite a v => Sys2Proof.Machine.execEvtRteWrite a v s
  | .admLoad a v => Sys2Proof.Machine.execAdmLoad a v s
  | .admRun a v => Sys2Proof.Machine.execAdmRun a v s
  | .tw0PointerWrite v => Sys2Proof.Machine.execTw0PointerWrite v s
  | .tw0WordWrite v => Sys2Proof.Machine.execTw0WordWrite v s
  | .tw0WordRead => Sys2Proof.Machine.execTw0WordRead s
  | .tw0PartialEnd read => Sys2Proof.Machine.execTw0PartialEnd read s
  | .twMcmd n a v => Sys2Proof.Machine.execTwMcmd n a v s
  | .twTransferEnd n outcome nbyte rx => Sys2Proof.Machine.execTwTransferEnd n outcome nbyte rx s
  | .arbLost n own => Sys2Proof.Machine.execArbLost n own s
  | .twBusError n ack bit byte addr => Sys2Proof.Machine.execTwBusError n ack bit byte addr s
  | .twTargetMisplaced n inWord read bit byte addr count data => Sys2Proof.Machine.execTwTargetMisplaced n inWord read bit byte addr count data s
  | .twTargetTransferEnd n count data => Sys2Proof.Machine.execTwTargetTransferEnd n count data s
  | .busFree n => Sys2Proof.Machine.execBusFree n s
  | .sclTimeout n self inWord read bit byte addr => Sys2Proof.Machine.execSclTimeout n self inWord read bit byte addr s
  | .sdaTimeout n inWord read bit byte addr => Sys2Proof.Machine.execSdaTimeout n inWord read bit byte addr s
  | .ninePulseRecoveryEnd n freed => Sys2Proof.Machine.execNinePulseRecoveryEnd n freed s
  | .brstPulseEnd n free => Sys2Proof.Machine.execBrstPulseEnd n free s
  | .twRecover n v => Sys2Proof.Machine.execTwRecover n v s
  | .hostCall a v => Sys2Proof.Machine.execHostCall a v s
  | .gzReadEnd q missing r => Sys2Proof.Machine.execGzReadEnd q missing r s
  | .gzRescan v => Sys2Proof.Machine.execGzRescan v s
  | .gzAccept v => Sys2Proof.Machine.execGzAccept v s
  | .spiWrite addr ws part => Sys2Proof.Machine.execSpiWrite addr ws part s
  | .spiStatus => Sys2Proof.Machine.execSpiStatus s
  | .spiIdent => Sys2Proof.Machine.execSpiIdent s
  | .spiUnknownCmd code => Sys2Proof.Machine.execSpiUnknownCmd code s
  | .mbxInWrite a v => Sys2Proof.Machine.execMbxInWrite a v s
  | .mbxOutWrite a v => Sys2Proof.Machine.execMbxOutWrite a v s
  | .infullClear a => Sys2Proof.Machine.execInfullClear a s
  | .outfullClear a => Sys2Proof.Machine.execOutfullClear a s
  | .snapTrig a v => Sys2Proof.Machine.execSnapTrig a v s
  | .snapRearm v => Sys2Proof.Machine.execSnapRearm v s
  | .tapReset => Sys2Proof.Machine.execTapReset s
  | .extest => Sys2Proof.Machine.execExtest s
  | .samplePreload v => Sys2Proof.Machine.execSamplePreload v s
  | .idcode => Sys2Proof.Machine.execIdcode s
  | .bypass => Sys2Proof.Machine.execBypass s
  | .dbgchal => Sys2Proof.Machine.execDbgchal s
  | .dbgresp v => Sys2Proof.Machine.execDbgresp v s
  | .dbgHalt v => Sys2Proof.Machine.execDbgHalt v s
  | .dbgResume v => Sys2Proof.Machine.execDbgResume v s
  | .dbgStep v => Sys2Proof.Machine.execDbgStep v s
  | .dbgBken v => Sys2Proof.Machine.execDbgBken v s
  | .dbgResetL1 v => Sys2Proof.Machine.execDbgResetL1 v s
  | .dbgResetL2 v => Sys2Proof.Machine.execDbgResetL2 v s
  | .dbgaddrUpdate v => Sys2Proof.Machine.execDbgaddrUpdate v s
  | .dbgdataCapture => Sys2Proof.Machine.execDbgdataCapture s
  | .dbgdataUpdate v => Sys2Proof.Machine.execDbgdataUpdate v s
  | .sweepEnd laps temps => Sys2Proof.Machine.execSweepEnd laps temps s
  | .remeasure laps temps => Sys2Proof.Machine.execRemeasure laps temps s
  | .fwErase a slot => Sys2Proof.Machine.execFwErase a slot s
  | .fwProgram a slot page => Sys2Proof.Machine.execFwProgram a slot page s
  | .fwStage a slot => Sys2Proof.Machine.execFwStage a slot s
  | .fwDlcmdBadOp a op slot page => Sys2Proof.Machine.execFwDlcmdBadOp a op slot page s
  | .fwAct a key slot => Sys2Proof.Machine.execFwAct a key slot s
  | .fwConfirm a key => Sys2Proof.Machine.execFwConfirm a key s
  | .fwTrialWrite v => Sys2Proof.Machine.execFwTrialWrite v s
  | .fwSetput a addr => Sys2Proof.Machine.execFwSetput a addr s
  | .meterSample p vraw iraw => Sys2Proof.Machine.execMeterSample p vraw iraw s
  | .guardMonitorSample p idx vbs va vb t => Sys2Proof.Machine.execGuardMonitorSample p idx vbs va vb t s
  | .xokChange ok => Sys2Proof.Machine.execXokChange ok s
  | .tempBlockClear p t => Sys2Proof.Machine.execTempBlockClear p t s

end Sys2Proof.Machine
end

