-- ==== Sys2Proof/Machine/Tick.lean ====
section
/-!
DEFINITION. Sys2Proof/Machine/Tick.lean: what one Meridian tick brings when no command waits: TB counts (R130, R131), the
compare channels that match, the timers that run out, and the conditions that start an engine's next action. Each becomes a
command of the table; no command is a tick.
-/
namespace Sys2Proof.Machine

/-- An index of a field, as an operand. -/
def ix (n i : Nat) [NeZero n] : Fin n := Fin.ofNat n i

/-- The command with which timer k of the timer list ends, for instance i. The HPM pilot check ends with what it measures, so its
end comes from outside. -/
def timerCmd (k i : Nat) : Option Instr :=
  match k with
  | 0 => some (.waitTimeout (ix 6 i))
  | 1 => some (.cmpPulseEnd (ix 8 i))
  | 2 => some (.capStuckTimeout (ix 12 i))
  | 3 => some (.admEvalDone)
  | 4 => some (.meterSettleEnd (ix 24 i))
  | 5 => some (.segmentFull (ix 24 i))
  | 6 => some (.bankedWake none)
  | 7 => some (.snapoutPulseEnd)
  | 8 => some (.blockAgeExpiry)
  | 9 => some (.blockSigned)
  | 10 => some (.commitDeadline)
  | 11 => some (.identityEstablished (ix 24 i))
  | 12 => some (.releaseEraseDone)
  | 13 => some (.formatDone)
  | 14 => some (.turnOnGrant (ix 24 i))
  | 15 => some (.tripSoa (ix 24 i) true 0 0)
  | 16 => some (.stopComplete (ix 24 i))
  | 17 => some (.disRelease (ix 24 i))
  | 18 => some (.disTimeout (ix 24 i))
  | 19 => some (.disRetry (ix 24 i))
  | 20 => some (.tripI2t (ix 24 i))
  | 21 => some (.tripPath (ix 24 i))
  | 22 => some (.contourRecompute)
  | 23 => some (.revocation (ix 24 i))
  | 24 => some (.contourRenegotiation (ix 24 i))
  | 25 => some (.ownCeilingSend (ix 24 i))
  | 26 => some (.togglePhaseEnd (ix 24 i))
  | 27 => some (.bankedToggleRestEnd (ix 24 i))
  | 28 => some (.ccDebounceExpiry (ix 24 i))
  | 29 => some (.pdDebounceExpiry (ix 24 i))
  | 30 => some (.drpTryExpiry (ix 24 i))
  | 31 => some (.tryCcDebounceExpiry (ix 24 i))
  | 32 => some (.errorRecoveryExpiry (ix 24 i))
  | 33 => some (.chatterHoldExpiry (ix 24 i))
  | 34 => some (.lineFree (ix 24 i))
  | 35 => some (.treceiveExpiry (ix 24 i))
  | 36 => some (.tsenderResponseExpiry (ix 24 i))
  | 37 => some (.tsinktxExpiry (ix 24 i))
  | 38 => some (.sourceCapsReady (ix 24 i))
  | 39 => some (.ttypecSendSourceCapExpiry (ix 24 i))
  | 40 => some (.ttypecSinkWaitCapExpiry (ix 24 i))
  | 41 => some (.tsrcTransitionExpiry (ix 24 i))
  | 42 => some (.rampEnd (ix 24 i))
  | 43 => some (.pgtoExpiry (ix 24 i))
  | 44 => some (.tpsTransitionExpiry (ix 24 i))
  | 45 => some (.tsinkRequestExpiry (ix 24 i))
  | 46 => some (.tppsRequestExpiry (ix 24 i))
  | 47 => some (.tppsTimeoutExpiry (ix 24 i))
  | 48 => some (.tenterEprExpiry (ix 24 i))
  | 49 => some (.tsinkEprKeepaliveExpiry (ix 24 i))
  | 50 => some (.tsourceEprKeepaliveExpiry (ix 24 i))
  | 51 => some (.tchunkExpiry (ix 24 i))
  | 52 => some (.tpsHardResetExpiry (ix 24 i))
  | 53 => some (.tsafe0vExpiry (ix 24 i))
  | 54 => some (.tsrcRecoverExpiry (ix 24 i))
  | 55 => some (.tnoResponseExpiry (ix 24 i))
  | 56 => some (.tbistContModeExpiry (ix 24 i))
  | 57 => some (.askDeadline (ix 24 i))
  | 58 => some (.cmdStart (ix 24 i))
  | 59 => some (.cmdDeadlineMiss (ix 24 i))
  | 60 => some (.tprSwapWaitExpiry (ix 24 i))
  | 61 => some (.backOffExpiry (ix 24 i))
  | 62 => some (.swapGatesOffDelay (ix 24 i))
  | 63 => some (.tpsSourceOffExpiry (ix 24 i))
  | 64 => some (.tpsSourceOnExpiry (ix 24 i))
  | 65 => some (.swapVbsTimeout (ix 24 i))
  | 66 => some (.tswapSourceStartExpiry (ix 24 i))
  | 67 => some (.tvdmBusyExpiry (ix 24 i))
  | 68 => some (.tvdmSenderResponseExpiry (ix 24 i))
  | 69 => some (.tdiscoverIdentityExpiry (ix 24 i))
  | 70 => some (.tvdmWaitModeExpiry (ix 24 i))
  | 71 => some (.hpmEntryConditions (ix 24 i))
  | 73 => some (.thpmOfferExpiry (ix 24 i))
  | 74 => some (.thpmTransExpiry (ix 24 i))
  | 75 => some (.thpmReadyExpiry (ix 24 i))
  | 76 => some (.hpmRepeatRequestExpiry (ix 24 i))
  | 77 => some (.telemetryPoll (ix 24 i))
  | 78 => some (.tvdmSenderResponseExpiry (ix 24 i))
  | 79 => some (.twControllerStart (ix 4 i))
  | 80 => some (.brstRetryExpiry (ix 4 i))
  | 81 => some (.gzRetryExpiry (ix 6 i))
  | 82 => some (.gzProbeExpiry (ix 6 i))
  | 83 => some (.sweepStart)
  | 84 => some (.dayEnd)
  | 85 => some (.vcoreStep)
  | 86 => some (.watchdogExpiry (ix 6 i))
  | 87 => some (.bankedUnsettledTimeout)
  | 88 => some (.kindlingTimeout)
  | 89 => some (.flushTimeout)
  | 90 => some (.holdTimerExpiry)
  | 91 => some (.fwEraseDone none)
  | 92 => some (.fwProgramDone true)
  | 93 => some (.fwStageDone true)
  | 94 => some (.activationPoint)
  | 95 => some (.trialExpiry)
  | 96 => some (.activationComplete true)
  | 97 => some (.dbgResponseVerified)
  | 98 => some (.hardResetSignallingSent (ix 24 i))
  | 99 => some (.ownCeilingSend (ix 24 i))
  | _ => none

/-- Timer number and instance of a key of the field table; the timers' variables are numbered from 2000. -/
def timerOf (key : Nat) : Option (Nat × Nat) :=
  if hkey 2000 0 0 ≤ key then some (key / 16384 - 4194304 - 2000, key / 4 % 4096) else none

/-- The timers that run out by now, in the order of their list. -/
def Dev.dueTimers (d : Dev) : List Instr :=
  d.regs.filterMap (fun e => if e.2 ≤ d.now + 1 then (timerOf e.1).bind (fun t => timerCmd t.1 t.2) else none)

/-- The lap ends at this tick (R131, R147). -/
def Dev.lapDue (d : Dev) : Bool := decide (d.get F.TB_COUNT_COUNT ≥ d.get F.TB_RLD_RLD) || d.bit H.lapEnd

/-- Channels armed with the value that TB takes (R150). -/
def Dev.cmpDue (d : Dev) (tb : Nat) : List Instr :=
  ((List.finRange 64).filter (fun i : Fin 64 => d.bit (F.CMP_STAT_ARMED i) && d.get (F.CMP_VAL_VALUE i) == tb)).map Instr.cmpFire

/-- A core in WAIT has a message on its wait set. -/
def Dev.wakeDue (d : Dev) (n : Nat) : Bool :=
  d.coreState n == 2 && (d.setWaiting (d.get (H.waitLo n)) (d.get (H.waitHi n))).isSome

/-- A held event message finds credit (R479). -/
def Dev.eventDue (d : Dev) (s : Nat) : Bool :=
  d.bit (H.evHeld s) && decide (0 < d.hwCredit (d.get (H.rteCh s)))

/-- A meter may post its next segment, 6.25 µs after the close (R387, R388). -/
def Dev.segDue (d : Dev) (p : Nat) : Bool :=
  let c := d.get F.MTR_CFG_SEGCH
  match (d.segs p).find? (fun g => !g.posted) with
  | none => false
  | some g => decide (g.tick + 400 ≤ d.now) && decide (postedCount (d.segs p) < 4) &&
      (if d.get (H.chDst c) = 9 then decide (0 < d.hwCredit c) else !d.bit (H.chRefused c))

/-- The Ledger engine may take the next segment (R399, R423). -/
def Dev.takeDue (d : Dev) : Bool :=
  let c := d.get F.MTR_CFG_SEGCH
  !d.bit H.lgrIdle && d.get (H.chDst c) == 9 && !(d.chan c).isEmpty &&
    (decide (d.stagedCount + 5 ≤ 512) || !d.bit F.LGR_EVT_STAGEFULL)

/-- The next latch of the SPI READ in progress (R537). -/
def Dev.spiDue (d : Dev) : List Instr :=
  if d.get H.spiAt = d.now + 1 then
    [.spiRead (BitVec.ofNat 24 (d.get H.spiAddr)) (d.get H.spiMore) (d.bit H.spiPart)]
  else []

/-- The conditions that hold at this tick, each with the command it brings. -/
def Dev.conditions (d : Dev) : List Instr :=
  d.spiDue ++ ((List.finRange 64).filter (fun c : Fin 64 => d.lateDue c)).map Instr.takeDeadline ++
  ((List.finRange 24).filter (fun p : Fin 24 => d.segDue p)).map Instr.segmentPost ++
  (if d.takeDue then [.ledgerTakeSegment] else []) ++
  ((List.finRange 256).filter (fun s : Fin 256 => d.eventDue s)).map Instr.eventPost ++
  ((List.finRange 6).filter (fun n : Fin 6 => d.wakeDue n)).map Instr.waitMessageWake ++
  (if d.bit H.bankReq && (d.bit H.bankStage || d.bankAllOk || d.bankBarred) then [.bankedEntry] else []) ++
  (if d.mode == 1 && d.kindleDone then [.kindlingCompletion] else []) ++
  (if d.bit H.bootWait && !d.admNowFails then [.activationComplete true] else [])

/-- Candidates of capture inputs that reach their FILTN-th sample (R157). -/
def Dev.capDueNow (d : Dev) : List Instr :=
  ((List.finRange 12).filter (fun i : Fin 12 => d.get (H.capDue i.val) = d.now + 1)).map
    (fun i => .capEdgeAccepted i (d.bit (F.CAP_STAT_RAW i.val)))

/-- The candidate of SNAPIN that reaches its FILTN-th sample (R157, R544). -/
def Dev.snapDueNow (d : Dev) : List Instr := if d.get H.snapDue = d.now + 1 then [.snapinEdge (d.bit H.snapRaw)] else []

/-- Candidates of CC lines that reach their FILTN-th sample (R167). -/
def Dev.ccDueNow (d : Dev) : List Instr :=
  ((List.finRange 24).filter (fun p : Fin 24 => d.get (H.ccDue p.val 0) = d.now + 1)).map
    (fun p => .ccLevelAccepted p 0 (ix 6 (d.get (H.ccCand p.val 0)))) ++
  ((List.finRange 24).filter (fun p : Fin 24 => d.get (H.ccDue p.val 1) = d.now + 1)).map
    (fun p => .ccLevelAccepted p 1 (ix 6 (d.get (H.ccCand p.val 1))))

/-- Accepted Rp codes that become the recognised level (R183). -/
def Dev.rpDueNow (d : Dev) : List Instr :=
  ((List.finRange 24).filter (fun p : Fin 24 => d.get (H.rpDue p.val) = d.now + 1)).map
    (fun p => .rpLevelRecognised p (ix 3 (d.activeLine p.val - 3)))

/-- One tick: the writes of Meridian registers that commit at the present one commit; the tick count advances; TB counts, unless the lap ends, which LAP_WRAP performs, or Meridian stands in a reset;
and what the tick brings waits in order. -/
def State.tick (s : State) : State :=
  let s := s.commitDue
  let d := s.dev.dayLate.snapEnd
  let d := { d with now := d.now + 1 }
  if 2 ≤ d.get H.rstHeld then { s with dev := d, pending := s.pending ++ d.dueTimers }
  else
    let lap := d.lapDue
    let tb := if lap then 0 else d.get F.TB_COUNT_COUNT + 1
    let e := if lap then d else d.put F.TB_COUNT_COUNT tb
    { s with dev := (e.when e.storeDue (·.pump)).snapGuard,
             pending := s.pending ++ ((if lap then [.lapWrap] else []) ++ d.cmpDue tb ++ d.capDueNow ++ d.snapDueNow ++ d.ccDueNow ++ d.rpDueNow ++ d.dueTimers ++ d.conditions) }

end Sys2Proof.Machine
end

