-- ==== Sys2Proof/Safety.lean ====
section
/-!
DEFINITION. Sys2Proof/Safety.lean: what counts as a safe run, in the terms that claims use.
-/
namespace Sys2Proof.Machine

/-- The form every reachable state has: the word memories and the field table in canonical form. -/
def State.wf (s : State) : Bool := Memory.wf s.mem && sortedKeys s.dev.regs

/-- The command ends in a next state with the waiting commands as they were, of which P holds. -/
def Ends (c : Instr) (s : State) (P : State → Prop) : Prop :=
  ∃ t, exec c s = .next t ∧ t.pending = s.pending ∧ P t

/-- The command ends in a next state with the waiting commands and both memories as they were, of whose device part P holds. -/
def EndsDev (c : Instr) (s : State) (P : Dev → Prop) : Prop :=
  ∃ t, exec c s = .next t ∧ t.pending = s.pending ∧ t.mem = s.mem ∧ t.bad = s.bad ∧ P t.dev

/-- No field but those of a list differs between two device parts. -/
def OnlyFields (d e : Dev) (l : List Fld) : Prop := ∀ f : Fld, (∀ g ∈ l, f.key ≠ g.key) → e.get f = d.get f

/-- A field that no raise of an event, wake, LOG entry or deadline miss writes: neither EVT_PEND, FAB_DLM, SYS_WAKE_STAT or
STO_EVT.LOGDROP, nor the router's counts, stamps, held marks and raises of a tick, the channels' SENT counts, or the wake
sources. -/
def Fld.quiet (f : Fld) : Bool :=
  let a := f.key / 4096
  let n := f.key / 16384 - 4194304
  !(decide (0x200A08 ≤ a) && decide (a ≤ 0x200A0F)) && a != 0x200905 && a != 0x200023 && f.key != F.STO_EVT_LOGDROP.key &&
    !(decide (4194304 ≤ f.key / 16384) && [6, 10, 11, 12, 18, 66, 408, 409, 2006].contains n)

/-- What raises, event bits and wakes leave alone of a device part: everything but the fields, the channel queues, and the
notes of what hardware has set on this tick. -/
def OnlyRouter (d e : Dev) : Prop := { e with regs := d.regs, chq := d.chq, setAt := d.setAt, setKeys := d.setKeys } = d

/-! ### What the instructions of a core rest on -/

/-- Core n fetches the instruction at its P: it runs, P may be fetched from (R428), and the word there is without error. -/
def State.fetches (s : State) (n : Fin 6) : Bool :=
  s.dev.coreRuns n && mayFetch (s.dev.pcOf n) && !s.isBad (.core n) (s.dev.pcOf n)

/-- The operand of format M and the state that its read leaves (R432). -/
def State.operand (s : State) (n : Fin 6) (mode : BitVec 2) (field : BitVec 22) : Word × State :=
  if mode = 3 then (field.signExtend 36, s) else s.busRead (.core n) (s.dev.ea n mode field)

/-- The operand of format M is immediate, or its word is without error. -/
def State.operandOk (s : State) (n : Fin 6) (mode : BitVec 2) (field : BitVec 22) : Bool :=
  mode == 3 || !s.isBad (.core n) (s.dev.ea n mode field)

/-- The operand of format B and the state that its read leaves (R433). -/
def State.operandB (s : State) (n : Fin 6) (bmode : BitVec 2) (operand : BitVec 12) : Word × State :=
  if bmode = 3 then (operand.signExtend 36, s) else s.busRead (.core n) (s.dev.eaB n bmode operand)

/-- The operand of format B is immediate, or its word is without error. -/
def State.operandBOk (s : State) (n : Fin 6) (bmode : BitVec 2) (operand : BitVec 12) : Bool :=
  bmode == 3 || !s.isBad (.core n) (s.dev.eaB n bmode operand)

/-- The operand is immediate, or a word of core-local memory or shared SRAM without error: its read has no effect. -/
def State.operandPlain (s : State) (n : Fin 6) (mode : BitVec 2) (field : BitVec 22) : Bool :=
  mode == 3 || (mayHoldMessage (s.dev.ea n mode field) && !s.isBad (.core n) (s.dev.ea n mode field))

/-- The key under which core n's word at an address of core-local memory or shared SRAM is stored. -/
def wordKey (n : Fin 6) (a : Nat) : Nat := if inLocal a then localKey n a else a

/-- Core n's access to a word stands alone on its tick: the word is in its own local memory, or no write of it is noted, and no
command waits that R30 puts before it. -/
def State.alone (s : State) (n : Fin 6) (addr : Nat) : Bool :=
  inLocal addr || (s.dev.notes.all (fun e => e / 2 ^ 40 != addr) && !s.accessAhead (.core n) addr)

/-- Nothing of the block itself happens at the end of this tick: no register write commits (R138), no day's end is held back, no
snapshot ends (R546), no guard trip is to trigger one (R544), and no page program may start (R422). -/
def State.betweenTicks (s : State) : Bool :=
  s.dev.commits.all (fun c => decide (s.dev.now < c.due)) && !s.dev.bit H.dayHeld && !s.dev.bit H.snapGrd && !s.dev.storeDue &&
    !(s.dev.bit F.SNAP_STAT_FULL && s.dev.get H.snapTick == s.dev.now + 1)

/-- What a command leaves: the device part with only the named fields changed, and every other table as it was, but for the note of
what hardware has set on this tick. -/
def OnlyRegs (d e : Dev) (l : List Fld) : Prop :=
  OnlyFields d e l ∧ { e with regs := d.regs, setAt := d.setAt, setKeys := d.setKeys } = d

/-- OnlyRegs, but for the levels noted of the pads that follow after two ticks (R67, R154). -/
def OnlyRegsPads (d e : Dev) (l : List Fld) : Prop :=
  OnlyFields d e l ∧ { e with regs := d.regs, setAt := d.setAt, setKeys := d.setKeys, hist := d.hist } = d

/-- OnlyRegs, and nothing noted as set by hardware. -/
def OnlyRegsSoft (d e : Dev) (l : List Fld) : Prop := OnlyFields d e l ∧ { e with regs := d.regs } = d

/-- A run of n steps that meets no fault and no refusal ends in a state. -/
def runs : Nat → State → Option State
  | 0, s => some s
  | n + 1, s =>
    match step s with
    | .next t => runs n t
    | _ => none

/-! ### What a port's commands rest on -/

/-- No emergency detach of the port waits among the commands of this tick, to come before a step of it (R187). -/
def State.calm (s : State) (p : Nat) : Bool :=
  !s.pending.any (s.dev.emergencyOf p)

/-- Neither an emergency detach nor an ordinary one of the port waits among the commands of this tick (R187, R228, R237). -/
def State.keepsPort (s : State) (p : Nat) : Bool :=
  s.calm p && !s.pending.any (s.dev.detachOf p)

/-- The port takes a message on SOP now: its partner's revision is known, none of its own exchanges stands in a wait before its
start, and it is neither in an accepted swap nor in NO_PD. -/
def Dev.listens (d : Dev) (p : Nat) : Bool :=
  d.rxOn p && !d.bit (H.swAcc p) && d.pe p != 19 && !d.bit (H.ownWait p) && d.get (F.PRT_PE_STAT_REV p) != 0

/-- The port takes a message with this header as a new one: it listens, no emergency detach comes first, the message is no repeat of
the last one, it is not in the Test Data mode of BIST, and no first message of its own has still to begin. -/
def State.hears (s : State) (p hdr : Nat) : Bool :=
  s.calm p && s.dev.listens p && !s.dev.rxRepeat p 0 hdr && !s.dev.bit (H.bistData p) && !s.dev.ownUnbegun p (bits hdr 12 3)

/-- The fields that the reception of a message writes by itself: its GoodCRC, the use of the line and what that does to the
candidates of the comparators, and what is kept of the header. -/
def rxFields (p : Nat) : List Fld :=
  [H.gcSent p, H.lineBusy p, H.hrTry p, H.gcTo p, H.blankTo p, H.rpDue p, H.ccDue p 0, H.ccDue p 1, H.rxHdr p 0, H.rxAt p 0, T.lineFree p,
    H.wakeBits, T.bankedWake]

/-- The fields that the use of the line writes when the transmitter of a port takes up its next frame. -/
def txFields (p : Nat) : List Fld :=
  [H.txFrom p, H.firstKind p, H.txMid p 0, H.txMid p 1, H.txMid p 2, H.lineBusy p, H.blankTo p, H.rpDue p, H.ccDue p 0, H.ccDue p 1,
    T.lineFree p, T.rx p, T.ceilEop p]

/-- One more frame stands among those the port has to send. -/
def Dev.sends (d e : Dev) (p : Nat) (f : TxFrame) : Prop := e.txs p = d.txs p ++ [f]

/-- A command has left the queue with an outcome (R239), DLMISS where its deadline had passed. -/
def completed (e : Dev) (p : Nat) (c : Cmd) (l : List Cmd) (outcome : Nat) : Prop :=
  e.cmds p = l ∧ e.get (F.PRT_CMD_DONE_TICKET p) = c.ticket % 4096 ∧
    e.get (F.PRT_CMD_DONE_OUTCOME p) = (if c.late then 8 else outcome) ∧ e.get (F.PRT_CMD_DONE_CODE p) = c.code % 64 ∧
    e.get (F.PRT_PE_EVT_CMDDONE p) = 1

/-- A Hard_Reset has begun (R219): the signalling is to be sent within tHardResetComplete, the contract is void, and it is counted. -/
def hardResetBegun (d e : Dev) (p : Nat) : Prop :=
  e.get (H.hrPhase p) = 1 ∧ e.pe p = 17 ∧ e.get (F.PRT_PE_EVT_HARDRST p) = 1 ∧ e.get (F.PRT_CONTRACT_VALID p) = 0 ∧
    e.get (F.PRT_PE_STAT_HRCNT p) = min 3 (d.get (F.PRT_PE_STAT_HRCNT p) + 1) ∧
    e.get (T.hrDone p) = (d.now + 288001) % 2 ^ 64

/-- The port looks for its next exchange and the head of its queue may have its turn: nothing of its own is in progress, wanted
or held back. -/
def Dev.turnFree (d : Dev) (p : Nat) : Bool :=
  d.attached p && !d.engaged p && d.pe p != 17 && d.pe p != 18 && d.mode != 2 && !d.bit (H.hpmPend p) && !d.eprCond p &&
    !d.bit (H.want p) && !d.bit (H.ceilCmdRun p) && !d.bit (H.cmdHeld p) && !d.bit (H.cmdRun p) &&
    !d.bit (H.reqHeld p) && decide (d.get (H.gcTo p) ≤ d.now) && d.permitted p

/-- Gates of port p are off (R315): neither gate is driven, and no stop is in progress. -/
def Dev.gatesOff (d : Dev) (p : Nat) : Bool := d.gates p == 0

end Sys2Proof.Machine
end

