-- ==== Sys2Proof/WellFormed.lean ====
section
/-!
DEFINITION. Sys2Proof/WellFormed.lean: the commands whose operands what stands outside the block can present. Operand types
leave only lists and one code to check.
-/
namespace Sys2Proof

/-- Lists have the lengths that messages, records and gates give them, and no known SPI command byte is called unknown. -/
def Instr.wellFormed : Instr → Bool
  | .rxVdmAck _ _ _ _ v => decide (v.length ≤ 6)
  | .rxSourceCapabilities _ _ _ objs => decide (objs.length ≤ 11)
  | .rxReplyStored _ _ _ ws => decide (ws.length ≤ 65)
  | .gzReadEnd _ missing r => missing || decide (r.length = 136)
  | .sweepEnd laps temps => decide (laps.length = 8) && decide (temps.length = 8)
  | .remeasure laps temps => decide (laps.length = 8) && decide (temps.length = 8)
  | .spiUnknownCmd code => !(code == 0x02 || code == 0x0B || code == 0x05 || code == 0x9F)
  | _ => true

end Sys2Proof
end

