-- ==== Sys2Proof/Certificates/Slice0/Obligations.lean ====
section
/-!
DEFINITION. Sys2Proof/Certificates/Slice0/Obligations.lean: the statements for the provers.
-/
open Sys2Proof Sys2Proof.Machine

/-- With command c at the front of its queue, a step is exec of c at the state whose queue is the rest. -/
def Obligations.StepRunsTheFrontCommand : Prop :=
  ∀ (s : State) (c : Instr) (rest : List Instr),
    step { s with pending := c :: rest } = exec c { s with pending := rest }

/-- The model's choice (DESIGN CHOICE, log entry 1): on an empty queue a step is one Meridian tick. Where no register write is due
to commit, no day's end is held back, no snapshot ends with the tick, no guard trip of the tick before is to trigger one and
no page program may start, it answers a next state; the tick count rises by one; TB takes its next value, or 0 where the lap
ends, unless an L2 or L3 is asserted; and no other field, table or memory changes. A write of CMPnn_VAL of a channel with MODE
0 that arrived at the tick before has committed when the tick has passed (R138). -/
def Obligations.EmptyQueueLetsATickPass : Prop :=
  (∀ (s : State), s.pending = [] → s.betweenTicks = true → ∃ t, step s = .next t ∧ t.dev.now = s.dev.now + 1 ∧ t.mem = s.mem ∧
    t.bad = s.bad ∧
    (2 ≤ s.dev.get H.rstHeld → t.dev = { s.dev with now := s.dev.now + 1 }) ∧
    (s.dev.get H.rstHeld < 2 → s.dev.lapDue = false →
      t.dev.tb = (s.dev.tb + 1) % 2 ^ 36 ∧ t.dev = { s.dev with now := s.dev.now + 1, regs := t.dev.regs } ∧
      OnlyFields s.dev t.dev [F.TB_COUNT_COUNT]) ∧
    (s.dev.get H.rstHeld < 2 → s.dev.lapDue = true → t.dev = { s.dev with now := s.dev.now + 1 } ∧ .lapWrap ∈ t.pending)) ∧
  (∀ (s : State) (a : Agent) (i : Fin 64) (v : Word), s.pending = [] →
    s.dev.commits = [⟨s.dev.now, a, 0x200100 + i.val, v.toNat⟩] → s.dev.get (F.CMP_CTRL_MODE i.val) = 0 →
    ({ s with dev := { s.dev with commits := [] } } : State).betweenTicks = true →
    ∃ t, step s = .next t ∧ t.dev.commits = [] ∧ t.dev.now = s.dev.now + 1 ∧ t.dev.get (F.CMP_VAL_VALUE i.val) = v.toNat)

/-- Every command of the table, on every operand and in every state, ends in a next state, in which the commands that wait are
those that waited before: the model raises no fault and refuses nothing (log entry 3 lists the open values that this rests
on). A command that no well-formed word of the outside spells runs too. -/
def Obligations.EveryCommandEndsInANextState : Prop :=
  ∀ (c : Instr) (s : State), ∃ t, exec c s = .next t ∧ t.pending = s.pending

/-- From every state whose word memory is in canonical form, a step that answers a next state answers one whose word memory is in
canonical form. -/
def Obligations.StepKeepsMemoryForm : Prop :=
  ∀ (s t : State), Memory.wf s.mem = true → step s = .next t → Memory.wf t.mem = true

/-- A word of core m's local memory differs after a command only where the command is a store, a RECV or a TAS of core m itself,
an update of a debug register of the TAP, a reset release, or the completion of an activation. -/
def Obligations.LocalMemoryIsolation : Prop :=
  ∀ (m : Fin 6) (c : Instr) (s t : State) (a : Nat), a < 0x8000 → exec c s = .next t →
    t.memRead (localKey m.val a) ≠ s.memRead (localKey m.val a) →
    (∃ (mode : BitVec 2) (aux : BitVec 6) (field : BitVec 22), c = .sta m mode aux field ∨ c = .stx m mode aux field ∨
      c = .sty m mode aux field ∨ c = .recv m mode aux field ∨ c = .tas m mode aux field) ∨
    (∃ v : BitVec 16, c = .dbgHalt v ∨ c = .dbgResume v ∨ c = .dbgStep v ∨ c = .dbgBken v ∨ c = .dbgResetL1 v ∨
      c = .dbgResetL2 v) ∨
    (∃ v : BitVec 37, c = .dbgdataUpdate v) ∨
    (∃ (m0 m1 m2 m3 : BitVec 6) (o x : Bool), c = .resetRelease m0 m1 m2 m3 o x) ∨
    (∃ ok : Bool, c = .activationComplete ok)

/-- After the release of a power-on L3 no command waits, every word of memory reads 0, no reset is asserted, the count of resets
is 1 and the newest cause record names power-on at level L3; C0 runs from 0x01_0000 and C1 to C5 are not started; every
channel is empty and disabled but CH63, which carries segments from the hardware to the Ledger engine with a depth of 32;
every port is Disabled with its gates off; TB and its epoch read 0; and every field but those of the list resetFields stands
at the reset value of its descriptor. The STRAP code 0 and the unprogrammed OTP behind MODE = Kindling are the model's choice
(log entries 13 and 14), as is a value of 0 where the spec gives none (log entry 2). -/
def Obligations.ResetState : Prop :=
  State.reset.pending = [] ∧ (∀ k, State.reset.memRead k = 0) ∧ State.reset.bad = [] ∧
  (∀ f : Fld, (∀ e ∈ State.resetFields, e.1.key ≠ f.key) → State.reset.dev.get f = f.rst % 2 ^ f.w) ∧
  State.reset.dev.get H.rstHeld = 0 ∧ State.reset.dev.get F.RST_CNT_COUNT = 1 ∧
  State.reset.dev.get (F.RST_CAUSE_SOURCE 0) = 1 ∧ State.reset.dev.get (F.RST_CAUSE_LEVEL 0) = 3 ∧
  State.reset.dev.coreState 0 = 1 ∧ State.reset.dev.pcOf 0 = 0x10000 ∧
  (∀ n : Fin 6, n.val ≠ 0 → State.reset.dev.coreState n.val = 0) ∧
  (∀ c, State.reset.dev.chan c = []) ∧ (∀ c : Fin 64, State.reset.dev.get (H.chEn c.val) = (if c.val = 63 then 1 else 0)) ∧
  State.reset.dev.get (H.chSrc 63) = 8 ∧ State.reset.dev.get (H.chDst 63) = 9 ∧ State.reset.dev.get (H.chDepth 63) = 32 ∧
  (∀ p : Fin 24, State.reset.dev.att p.val = 0 ∧ State.reset.dev.gatesOff p.val = true) ∧
  State.reset.dev.tb = 0 ∧ State.reset.dev.epoch = 0 ∧ State.reset.dev.mode = 1

/-- The state after reset has its word memory in canonical form and the keys of its field table rising. -/
def Obligations.ResetMemoryForm : Prop :=
  State.reset.wf = true

/-- A core that fetches LDA, ADD, SUB, RSB, AND, OR, XOR or BIC with an operand that reads without error, in each of the modes D,
X, Y and I, ends in the state that the operand read leaves, with A the result of R435 modulo 2^36 and P advanced; LDAU gives A
its 18 bits above a low half-word of 0; NOP changes P alone. -/
def Obligations.AccumulatorInstructionsComplete : Prop :=
  ∀ (s : State) (n : Fin 6) (mode : BitVec 2) (field : BitVec 22), s.fetches n = true →
    (s.operandOk n mode field = true →
      ∀ (o : Word × State), o = s.operand n mode field →
      ∀ (done : Word → State), done = (fun w => o.2.onDev (fun d => (d.setA n w).advance n)) →
        exec (.lda n mode 0 field) s = .next (done o.1) ∧
        exec (.add n mode 0 field) s = .next (done (o.2.dev.accA n + o.1)) ∧
        exec (.sub n mode 0 field) s = .next (done (o.2.dev.accA n - o.1)) ∧
        exec (.rsb n mode 0 field) s = .next (done (o.1 - o.2.dev.accA n)) ∧
        exec (.and n mode 0 field) s = .next (done (o.2.dev.accA n &&& o.1)) ∧
        exec (.or n mode 0 field) s = .next (done (o.2.dev.accA n ||| o.1)) ∧
        exec (.xor n mode 0 field) s = .next (done (o.2.dev.accA n ^^^ o.1)) ∧
        exec (.bic n mode 0 field) s = .next (done (o.2.dev.accA n &&& ~~~o.1))) ∧
    exec (.ldau n 3 0 field) s =
      .next (s.onDev (fun d => (d.setA n (field.extractLsb' 0 18 ++ 0#18)).advance n)) ∧
    exec (.nop n 0 0 0) s = .next (s.onDev (fun d => d.advance n))

/-- SH with aux 0, 1, 2 or 3 and an operand that reads without error gives A its left, logical right, arithmetic right or rotated
value for an amount s below 36, and for s of 36 or more 0, 0, every bit equal to bit 35, and the rotation by s modulo 36; P
advances. -/
def Obligations.ShiftsFollowR439 : Prop :=
  ∀ (s : State) (n : Fin 6) (mode : BitVec 2) (field : BitVec 22), s.fetches n = true → s.operandOk n mode field = true →
    ∀ (o : Word × State), o = s.operand n mode field →
    ∀ (done : Word → State), done = (fun w => o.2.onDev (fun d => (d.setA n w).advance n)) →
    ∀ (a : Word), a = o.2.dev.accA n →
      exec (.sh n mode 0 field) s = .next (done (if o.1.toNat < 36 then a <<< o.1.toNat else 0)) ∧
      exec (.sh n mode 1 field) s = .next (done (if o.1.toNat < 36 then a >>> o.1.toNat else 0)) ∧
      exec (.sh n mode 2 field) s = .next (done (if o.1.toNat < 36 then a.sshiftRight o.1.toNat
        else if a.msb then BitVec.allOnes 36 else 0)) ∧
      exec (.sh n mode 3 field) s = .next (done (a.rotateLeft (o.1.toNat % 36)))

/-- MUL with an operand that reads without error gives A bits 35:0 of the product for aux 0, bits 71:36 of the signed 72-bit
product for aux 1 and of the unsigned one for aux 2, and P advances; aux 3 is ILLEGAL. -/
def Obligations.ProductsFollowR440 : Prop :=
  ∀ (s : State) (n : Fin 6) (mode : BitVec 2) (field : BitVec 22), s.fetches n = true →
    (s.operandOk n mode field = true →
      ∀ (o : Word × State), o = s.operand n mode field →
      ∀ (done : Word → State), done = (fun w => o.2.onDev (fun d => (d.setA n w).advance n)) →
      ∀ (a : Word), a = o.2.dev.accA n →
        exec (.mul n mode 0 field) s = .next (done ((a.signExtend 72 * o.1.signExtend 72).extractLsb' 0 36)) ∧
        exec (.mul n mode 1 field) s = .next (done ((a.signExtend 72 * o.1.signExtend 72).extractLsb' 36 36)) ∧
        exec (.mul n mode 2 field) s = .next (done ((a.setWidth 72 * o.1.setWidth 72).extractLsb' 36 36))) ∧
    exec (.mul n mode 3 field) s = exec (.illegal n) s

/-- DIV with an operand that reads without error gives A the signed quotient rounded toward zero, the unsigned quotient, the
signed remainder with the sign of A, or the unsigned remainder; a zero divisor gives a quotient of all ones and leaves A as
the remainder; −2^35 divided by −1 gives −2^35 and 0; P advances and no exception arises. -/
def Obligations.QuotientsFollowR441 : Prop :=
  ∀ (s : State) (n : Fin 6) (mode : BitVec 2) (field : BitVec 22), s.fetches n = true → s.operandOk n mode field = true →
    ∀ (o : Word × State), o = s.operand n mode field →
    ∀ (done : Word → State), done = (fun w => o.2.onDev (fun d => (d.setA n w).advance n)) →
    ∀ (a : Word), a = o.2.dev.accA n →
      exec (.div n mode 0 field) s =
        .next (done (if o.1 = 0 then BitVec.allOnes 36 else BitVec.ofInt 36 (a.toInt.tdiv o.1.toInt))) ∧
      exec (.div n mode 1 field) s =
        .next (done (if o.1 = 0 then BitVec.allOnes 36 else BitVec.ofNat 36 (a.toNat / o.1.toNat))) ∧
      exec (.div n mode 2 field) s = .next (done (if o.1 = 0 then a else BitVec.ofInt 36 (a.toInt.tmod o.1.toInt))) ∧
      exec (.div n mode 3 field) s = .next (done (if o.1 = 0 then a else BitVec.ofNat 36 (a.toNat % o.1.toNat)))

/-- With an operand that is immediate, or a word of core-local memory or shared SRAM without error, each of LDA, LDAU, ADD, SUB,
RSB, AND, OR, XOR, BIC, SH, MUL and DIV, where its mode and aux are allowed, ends in a next state in which P has advanced by 1
modulo 2^22, every field but A and P reads as before, every table of the device part is as before, both memories are as
before, and the waiting commands are as before. -/
def Obligations.AccumulatorInstructionsFrame : Prop :=
  ∀ (s : State) (n : Fin 6) (mode : BitVec 2) (aux : BitVec 6) (field : BitVec 22) (c : Instr), s.fetches n = true →
    s.operandPlain n mode field = true →
    (aux = 0 ∧ c ∈ [.lda n mode aux field, .add n mode aux field, .sub n mode aux field, .rsb n mode aux field,
        .and n mode aux field, .or n mode aux field, .xor n mode aux field, .bic n mode aux field, .ldau n 3 aux field]) ∨
      (aux.toNat ≤ 3 ∧ c ∈ [.sh n mode aux field, .div n mode aux field]) ∨ (aux.toNat ≤ 2 ∧ c = .mul n mode aux field) →
    ∃ t, exec c s = .next t ∧ t.pending = s.pending ∧ t.mem = s.mem ∧ t.bad = s.bad ∧
      t.dev.pcOf n = (s.dev.pcOf n + 1) % 2 ^ 22 ∧
      OnlyRegsSoft s.dev t.dev [H.coreA n, F.CORE_P_P n]

/-- With an operand that reads without error LDX and LDY give X and Y bits 21:0 of it; LEAX and LEAY give them the effective
address, or the field for mode I; MOVR makes the seven transfers of R438; P advances. MOVR with another aux is ILLEGAL. -/
def Obligations.IndexInstructionsComplete : Prop :=
  ∀ (s : State) (n : Fin 6) (mode : BitVec 2) (field : BitVec 22), s.fetches n = true →
    (s.operandOk n mode field = true →
      ∀ (o : Word × State), o = s.operand n mode field →
        exec (.ldx n mode 0 field) s = .next (o.2.onDev (fun d => (d.put (H.coreX n) (o.1.toNat % 2 ^ 22)).advance n)) ∧
        exec (.ldy n mode 0 field) s = .next (o.2.onDev (fun d => (d.put (H.coreY n) (o.1.toNat % 2 ^ 22)).advance n))) ∧
    exec (.leax n mode 0 field) s = .next (s.onDev (fun d => (d.put (H.coreX n) (d.ea n mode field)).advance n)) ∧
    exec (.leay n mode 0 field) s = .next (s.onDev (fun d => (d.put (H.coreY n) (d.ea n mode field)).advance n)) ∧
    s.dev.ea n 0 field = field.toNat ∧ s.dev.ea n 3 field = field.toNat ∧
    s.dev.ea n 1 field = (s.dev.idxX n + field.toNat) % 2 ^ 22 ∧ s.dev.ea n 2 field = (s.dev.idxY n + field.toNat) % 2 ^ 22 ∧
    (∀ (done : (Dev → Dev) → State), done = (fun f => s.onDev (fun d => (f d).advance n)) →
      exec (.movr n 0 0 0) s = .next (done (fun d => d.setA n (BitVec.ofNat 36 (d.idxX n)))) ∧
      exec (.movr n 0 1 0) s = .next (done (fun d => d.setA n (BitVec.ofNat 36 (d.idxY n)))) ∧
      exec (.movr n 0 2 0) s = .next (done (fun d => d.put (H.coreX n) ((d.accA n).toNat % 2 ^ 22))) ∧
      exec (.movr n 0 3 0) s = .next (done (fun d => d.put (H.coreY n) ((d.accA n).toNat % 2 ^ 22))) ∧
      exec (.movr n 0 4 0) s = .next (done (fun d => (d.put (H.coreX n) (d.idxY n)).put (H.coreY n) (d.idxX n))) ∧
      exec (.movr n 0 5 0) s = .next (done (fun d => d.setA n (BitVec.ofNat 36 n.val))) ∧
      exec (.movr n 0 6 0) s = .next (done (fun d => d.setA n (BitVec.ofNat 36 (d.rstack n).length)))) ∧
    ∀ aux : BitVec 6, 7 ≤ aux.toNat → exec (.movr n 0 aux 0) s = exec (.illegal n) s

/-- A store to core-local memory or shared SRAM, with no other access of the word on its tick, writes A, or X or Y zero-extended,
to the word at the effective address; every other word of memory reads as before, P advances by 1 modulo 2^22, and no other
field, table or waiting command changes. To a register it is the bus write of R435, and to the boot ROM or the staging range
it raises ACCESS with the address. Where two cores store to one word of shared SRAM on one tick, the word of the core with the
higher number stands, in whichever order the two commands wait (R454, R30). -/
def Obligations.StoresComplete : Prop :=
  ∀ (s : State) (n : Fin 6) (mode : BitVec 2) (field : BitVec 22), s.fetches n = true → mode ≠ 3 →
    ∀ (c : Instr) (w : Word),
      ((c = .sta n mode 0 field ∧ w = s.dev.accA n) ∨ (c = .stx n mode 0 field ∧ w = BitVec.ofNat 36 (s.dev.idxX n)) ∨
        (c = .sty n mode 0 field ∧ w = BitVec.ofNat 36 (s.dev.idxY n))) →
      (mayHoldMessage (s.dev.ea n mode field) = true → s.alone n (s.dev.ea n mode field) = true →
        ∃ t, exec c s = .next t ∧ t.pending = s.pending ∧ t.memRead (wordKey n (s.dev.ea n mode field)) = w ∧
          (∀ k, k ≠ wordKey n (s.dev.ea n mode field) → t.memRead k = s.memRead k) ∧
          t.dev.pcOf n = (s.dev.pcOf n + 1) % 2 ^ 22 ∧ OnlyRegsSoft s.dev t.dev [F.CORE_P_P n]) ∧
      (mayStore (s.dev.ea n mode field) = true →
        exec c s = .next ((s.busWrite (.core n) (s.dev.ea n mode field) w).onDev (fun d => d.advance n))) ∧
      (mayStore (s.dev.ea n mode field) = false →
        exec c s = .next (s.onDev (fun d => d.exception n 3 (d.ea n mode field)))) ∧
      (∀ (m : Fin 6) (mode2 : BitVec 2) (field2 : BitVec 22) (b : Instr), n.val < m.val → s.fetches m = true → mode2 ≠ 3 →
        b = .sta m mode2 0 field2 → inSram (s.dev.ea n mode field) = true → s.dev.ea m mode2 field2 = s.dev.ea n mode field →
        s.dev.notes = [] → ∀ t u,
          (exec c { s with pending := [b] } = .next t → exec b { t with pending := [] } = .next u →
            u.memRead (s.dev.ea n mode field) = s.dev.accA m) ∧
          (exec b { s with pending := [c] } = .next t → exec c { t with pending := [] } = .next u →
            u.memRead (s.dev.ea n mode field) = s.dev.accA m))

/-- JMP goes to the effective address, or with aux 1 to bits 21:0 of the word there; CALL goes to the same target and pushes P + 1
while fewer than 16 entries stand; RET pops the last entry; CALL with 16 entries and RET with none raise STACK and do nothing
else. A CALL and a RET that follows it at its target return to the instruction after the CALL with the return stack as it was.
-/
def Obligations.ControlTransfersComplete : Prop :=
  ∀ (s : State) (n : Fin 6) (mode : BitVec 2) (field : BitVec 22), s.fetches n = true →
    exec (.jmp n mode 0 field) s = .next (s.onDev (fun d => d.setPc n (d.ea n mode field))) ∧
    (mode ≠ 3 → s.operandOk n mode field = true → ∀ o, o = s.operand n mode field →
      exec (.jmp n mode 1 field) s = .next (o.2.onDev (fun d => d.setPc n (o.1.toNat % 2 ^ 22)))) ∧
    ((s.dev.rstack n).length < 16 →
      exec (.call n mode 0 field) s = .next (s.onDev (fun d =>
        (d.setRstack n ((d.pcOf n + 1) % 2 ^ 22 :: d.rstack n)).setPc n (d.ea n mode field)))) ∧
    ((s.dev.rstack n).length < 16 → ∀ t, exec (.call n mode 0 field) s = .next t → t.fetches n = true →
      ∃ u, exec (.ret n 0 0 0) t = .next u ∧ u.dev.pcOf n = (s.dev.pcOf n + 1) % 2 ^ 22 ∧ u.dev.rstack n = s.dev.rstack n) ∧
    (∀ p l, s.dev.rstack n = p :: l → exec (.ret n 0 0 0) s = .next (s.onDev (fun d => (d.setRstack n l).setPc n p))) ∧
    (16 ≤ (s.dev.rstack n).length → exec (.call n mode 0 field) s = .next (s.onDev (fun d => d.exception n 4 0))) ∧
    (s.dev.rstack n = [] → exec (.ret n 0 0 0) s = .next (s.onDev (fun d => d.exception n 4 0)))

/-- CB with an operand that reads without error goes to P + 1 + offset modulo 2^22, the offset sign-extended from bit 11, where
its condition holds between A and the operand, and to P + 1 otherwise; cond 10 branches always and reads no operand; cond 11
to 15 is ILLEGAL. -/
def Obligations.BranchesFollowR444 : Prop :=
  ∀ (s : State) (n : Fin 6) (bmode : BitVec 2) (operand offset : BitVec 12), s.fetches n = true →
    (s.operandBOk n bmode operand = true →
      ∀ (o : Word × State), o = s.operandB n bmode operand → o.2.dev.coreRuns n = true →
      ∀ (a : Word), a = o.2.dev.accA n →
      ∀ (goes : Prop → State → Prop), goes = (fun b t =>
          t.mem = o.2.mem ∧ OnlyRegsSoft o.2.dev t.dev [F.CORE_P_P n] ∧
          (b → (t.dev.pcOf n : Int) = ((o.2.dev.pcOf n : Int) + 1 + offset.toInt) % 2 ^ 22) ∧
          (¬b → t.dev.pcOf n = (o.2.dev.pcOf n + 1) % 2 ^ 22)) →
        (∃ t, exec (.cb n 0 bmode operand offset) s = .next t ∧ goes (a = o.1) t) ∧
        (∃ t, exec (.cb n 1 bmode operand offset) s = .next t ∧ goes (a ≠ o.1) t) ∧
        (∃ t, exec (.cb n 2 bmode operand offset) s = .next t ∧ goes (a.toInt < o.1.toInt) t) ∧
        (∃ t, exec (.cb n 3 bmode operand offset) s = .next t ∧ goes (o.1.toInt ≤ a.toInt) t) ∧
        (∃ t, exec (.cb n 4 bmode operand offset) s = .next t ∧ goes (a.toNat < o.1.toNat) t) ∧
        (∃ t, exec (.cb n 5 bmode operand offset) s = .next t ∧ goes (o.1.toNat ≤ a.toNat) t) ∧
        (∃ t, exec (.cb n 6 bmode operand offset) s = .next t ∧ goes (o.1.toNat < 36 ∧ a.getLsbD o.1.toNat = true) t) ∧
        (∃ t, exec (.cb n 7 bmode operand offset) s = .next t ∧ goes (36 ≤ o.1.toNat ∨ a.getLsbD o.1.toNat = false) t) ∧
        (∃ t, exec (.cb n 8 bmode operand offset) s = .next t ∧ goes (a.extractLsb' 32 4 = o.1.extractLsb' 0 4) t) ∧
        (∃ t, exec (.cb n 9 bmode operand offset) s = .next t ∧ goes (a.extractLsb' 32 4 ≠ o.1.extractLsb' 0 4) t)) ∧
    exec (.cb n 10 bmode operand offset) s = .next (s.onDev (fun d => d.branch n true offset)) ∧
    ∀ cond : BitVec 4, 11 ≤ cond.toNat → exec (.cb n cond bmode operand offset) s = exec (.illegal n) s

/-- SEND by the channel's sender, from words of core-local memory or shared SRAM without error and with credit, appends the n =
A[3:0] + 1 words as one message stamped now, behind the channel's messages, sets A to 0 and changes no memory; with no credit,
and no RECV of the same tick to give a slot back (R469), it sets A to −1 and REFUSED. RECV by the receiver with no message
that entered before this tick sets A to 0; with one it removes the oldest, sets A to its length, and changes no memory word
outside its buffer, or, with a double-bit error in the message, leaves it there and raises MEMERR with an address of the
channel's storage. POLL by the sender or receiver sets A to credit × 2^18 + messages waiting. P advances, and every other
channel keeps its messages. -/
def Obligations.ChannelInstructionsComplete : Prop :=
  ∀ (s : State) (n : Fin 6) (mode : BitVec 2) (aux : BitVec 6) (field : BitVec 22), s.fetches n = true →
    (mode ≠ 3 → s.dev.get (H.chSrc aux.toNat) = n.val →
      ∀ (l : List Nat), l = addrsFrom (s.dev.ea n mode field) ((s.dev.accA n).toNat % 16 + 1) →
      (∀ a ∈ l, mayHoldMessage a = true) →
        (0 < s.dev.chCredit aux.toNat ∨ (s.dev.chOpen aux.toNat = true ∧ s.pending.any (s.recvBehind aux.toNat) = true) →
          (∀ a ∈ l, s.isBad (.core n) a = false ∧ s.alone n a = true) →
          ∃ t, exec (.send n mode aux field) s = .next t ∧ t.mem = s.mem ∧ t.pending = s.pending ∧
            t.dev.chan aux.toNat = s.dev.chan aux.toNat ++ [⟨l.map (fun a => s.memRead (wordKey n a)), s.dev.now, false, false⟩] ∧
            (∀ c, c ≠ aux.toNat → t.dev.chan c = s.dev.chan c) ∧ t.dev.accA n = 0 ∧
            t.dev.pcOf n = (s.dev.pcOf n + 1) % 2 ^ 22 ∧
            OnlyFields s.dev t.dev [H.coreA n, F.CORE_P_P n, H.chSent aux.toNat]) ∧
        (s.dev.chCredit aux.toNat = 0 → s.pending.any (s.recvBehind aux.toNat) = false →
          ∃ t, exec (.send n mode aux field) s = .next t ∧ t.mem = s.mem ∧ t.dev.chq = s.dev.chq ∧
            t.dev.accA n = BitVec.allOnes 36 ∧ t.dev.get (H.chRefused aux.toNat) = 1 ∧
            t.dev.pcOf n = (s.dev.pcOf n + 1) % 2 ^ 22 ∧
            OnlyFields s.dev t.dev [H.coreA n, F.CORE_P_P n, H.chRefused aux.toNat])) ∧
    (mode ≠ 3 → s.dev.get (H.chDst aux.toNat) = n.val →
      ((∀ m ∈ s.dev.chan aux.toNat, s.dev.now ≤ m.enq) →
        exec (.recv n mode aux field) s = .next (s.onDev (fun d => (d.setA n 0).advance n))) ∧
      (∀ m q, s.dev.chan aux.toNat = m :: q → m.enq < s.dev.now →
        (∀ a ∈ addrsFrom (s.dev.ea n mode field) m.words.length, mayHoldMessage a = true) →
        (m.bad = true → s.dev.get (F.CORE_EXC_ACTIVE n) = 0 →
          ∃ t, exec (.recv n mode aux field) s = .next t ∧ t.mem = s.mem ∧ t.dev.chan aux.toNat = m :: q ∧
            t.dev.get (F.CORE_EXC_CAUSE n) = 5 ∧ t.dev.get (F.CORE_EPC_EPC n) = s.dev.pcOf n ∧
            ∃ k, k < 512 ∧ t.dev.get (F.CORE_EXC_INFO n) = 0x100000 + aux.toNat * 512 + k) ∧
        (m.bad = false → ∃ t, exec (.recv n mode aux field) s = .next t ∧ t.dev.chan aux.toNat = q ∧ t.pending = s.pending ∧
          (∀ c, c ≠ aux.toNat → t.dev.chan c = s.dev.chan c) ∧
          t.dev.accA n = BitVec.ofNat 36 m.words.length ∧ t.dev.pcOf n = (s.dev.pcOf n + 1) % 2 ^ 22 ∧
          (∀ k, (∀ a ∈ addrsFrom (s.dev.ea n mode field) m.words.length, k ≠ wordKey n a) → t.memRead k = s.memRead k) ∧
          OnlyFields s.dev t.dev [H.coreA n, F.CORE_P_P n]))) ∧
    ((s.dev.get (H.chSrc aux.toNat) = n.val ∨ s.dev.get (H.chDst aux.toNat) = n.val) →
      exec (.poll n 0 aux 0) s = .next (s.onDev (fun d => (d.setA n (BitVec.ofNat 36
        ((if d.get (H.chSrc aux.toNat) = n.val then d.chCredit aux.toNat else 0) * 2 ^ 18 +
          (if d.get (H.chDst aux.toNat) = n.val then (d.chan aux.toNat).length else 0)))).advance n)))

/-- On a channel with no message, whose sender is core n, a SEND by n that finds credit, followed in any later state in which the
channel still holds what the SEND left by a RECV of its receiver m, ends in a next state in which A of m is the number of
words sent and the i-th word of m's buffer is the word that stood at the i-th address of n's message when it was sent, for
every i, and the channel is empty again. Neither core shares a word with another access of its tick. -/
def Obligations.ChannelMessagesKeptWhole : Prop :=
  ∀ (s t u : State) (n m : Fin 6) (mode mode' : BitVec 2) (aux : BitVec 6) (field field' : BitVec 22) (len : Nat),
    s.fetches n = true → mode ≠ 3 → mode' ≠ 3 → s.dev.get (H.chSrc aux.toNat) = n.val → s.dev.chan aux.toNat = [] →
    0 < s.dev.chCredit aux.toNat → len = (s.dev.accA n).toNat % 16 + 1 →
    (∀ i, i < len → mayHoldMessage ((s.dev.ea n mode field + i) % 2 ^ 22) = true ∧
      s.isBad (.core n) ((s.dev.ea n mode field + i) % 2 ^ 22) = false ∧
      s.alone n ((s.dev.ea n mode field + i) % 2 ^ 22) = true) →
    exec (.send n mode aux field) s = .next t → t.dev.now < u.dev.now → u.dev.chan aux.toNat = t.dev.chan aux.toNat →
    u.fetches m = true → u.dev.get (H.chDst aux.toNat) = m.val →
    (∀ i, i < len → mayHoldMessage ((u.dev.ea m mode' field' + i) % 2 ^ 22) = true ∧
      u.alone m ((u.dev.ea m mode' field' + i) % 2 ^ 22) = true) →
    ∃ v, exec (.recv m mode' aux field') u = .next v ∧ v.dev.accA m = BitVec.ofNat 36 len ∧ v.dev.chan aux.toNat = [] ∧
      ∀ i, i < len → v.memRead (wordKey m ((u.dev.ea m mode' field' + i) % 2 ^ 22)) =
        s.memRead (wordKey n ((s.dev.ea n mode field + i) % 2 ^ 22))

/-- WAIT with an immediate channel that the core receives ends at once with A the channel where a message waits, and otherwise
leaves the core in WAIT with its wait set held and, for A other than 0, its timeout armed for min(A, 2^35 − 1) ticks. WAIT on
a set of channels in memory ends at once with A the lowest channel of the set on which a message waits. A message on the wait
set of a waiting core ends its WAIT with the lowest such channel in A, and the timeout of a waiting core ends it with −1; P
advances past the WAIT, and the core runs. -/
def Obligations.WaitsComplete : Prop :=
  (∀ (s : State) (n : Fin 6) (c : Fin 64), s.fetches n = true → s.dev.get (H.chDst c.val) = n.val →
    (s.dev.chan c.val ≠ [] →
      ∃ t, exec (.wait n 3 0 (BitVec.ofNat 22 c.val)) s = .next t ∧ t.mem = s.mem ∧ t.dev.accA n = BitVec.ofNat 36 c.val ∧
        t.dev.pcOf n = (s.dev.pcOf n + 1) % 2 ^ 22 ∧ t.dev.coreState n = 1) ∧
    (s.dev.chan c.val = [] →
      ∃ t, exec (.wait n 3 0 (BitVec.ofNat 22 c.val)) s = .next t ∧ t.mem = s.mem ∧ t.dev.coreState n = 2 ∧
        t.dev.accA n = s.dev.accA n ∧ t.dev.pcOf n = s.dev.pcOf n ∧ c.val ∈ setChans (t.dev.get (H.waitLo n)) (t.dev.get (H.waitHi n)) ∧
        (s.dev.accA n ≠ 0 → t.dev.get (T.waitOut n) =
          (s.dev.now + min (s.dev.accA n).toNat (2 ^ 35 - 1) + 1) % 2 ^ 64))) ∧
  (∀ (s : State) (n : Fin 6) (mode : BitVec 2) (field : BitVec 22) (c : Nat), s.fetches n = true → mode ≠ 3 →
    mayHoldMessage (s.dev.ea n mode field) = true → mayHoldMessage (s.dev.ea n mode field + 1) = true →
    s.isBad (.core n) (s.dev.ea n mode field) = false → s.isBad (.core n) (s.dev.ea n mode field + 1) = false →
    s.alone n (s.dev.ea n mode field) = true → s.alone n (s.dev.ea n mode field + 1) = true →
    ∀ (set : List Nat), set = setChans ((s.memRead (wordKey n (s.dev.ea n mode field))).toNat % 2 ^ 32)
        ((s.memRead (wordKey n (s.dev.ea n mode field + 1))).toNat % 2 ^ 32) →
    (∀ k ∈ set, s.dev.get (H.chDst k) = n.val) → c ∈ set → s.dev.chan c ≠ [] → (∀ k ∈ set, k < c → s.dev.chan k = []) →
      ∃ t, exec (.wait n mode 0 field) s = .next t ∧ t.mem = s.mem ∧ t.dev.accA n = BitVec.ofNat 36 c ∧
        t.dev.pcOf n = (s.dev.pcOf n + 1) % 2 ^ 22) ∧
  (∀ (s : State) (n : Fin 6), s.dev.coreState n = 2 → s.dev.get H.rstHeld = 0 →
    (∀ c, s.dev.setWaiting (s.dev.get (H.waitLo n)) (s.dev.get (H.waitHi n)) = some c → c < 64 →
      ∃ t, exec (.waitMessageWake n) s = .next t ∧ t.mem = s.mem ∧ t.dev.accA n = BitVec.ofNat 36 c ∧
        t.dev.pcOf n = (s.dev.pcOf n + 1) % 2 ^ 22 ∧ t.dev.coreState n = 1 ∧ t.dev.get (T.waitOut n) = 0) ∧
    (s.dev.get (T.waitOut n) ≠ 0 →
      ∃ t, exec (.waitTimeout n) s = .next t ∧ t.mem = s.mem ∧ t.dev.accA n = BitVec.allOnes 36 ∧
        t.dev.pcOf n = (s.dev.pcOf n + 1) % 2 ^ 22 ∧ t.dev.coreState n = 1 ∧ t.dev.get (T.waitOut n) = 0))

/-- ILLEGAL, and BRK where debug is not unlocked or breakpoints are not enabled, take an exception: with ACTIVE 0, EPC takes P,
CAUSE and INFO are set, COUNT increments, ACTIVE sets, P takes VEC and no other field, memory word or return stack of any core
changes but those of the event router; with ACTIVE 1 the core stops with STATE 5 and DOUBLE, and CAUSE, INFO and EPC stay. BRK
with debug unlocked and breakpoints enabled halts the core past the BRK. -/
def Obligations.ExceptionsFollowR458 : Prop :=
  ∀ (s : State) (n : Fin 6), s.fetches n = true → ∀ (c : Instr) (cause : Nat),
    ((c = .illegal n ∧ cause = 1) ∨
      (c = .brk n 0 0 0 ∧ cause = 6 ∧ (s.dev.get F.DBG_STAT_UNLOCKED = 0 ∨ s.dev.get F.DBG_STAT_BKEN = 0))) →
    (s.dev.get (F.CORE_EXC_ACTIVE n) = 0 →
      ∃ t, exec c s = .next t ∧ t.mem = s.mem ∧ t.bad = s.bad ∧ t.pending = s.pending ∧ t.dev.rstk = s.dev.rstk ∧
        t.dev.get (F.CORE_EPC_EPC n) = s.dev.pcOf n ∧ t.dev.get (F.CORE_EXC_CAUSE n) = cause ∧
        t.dev.get (F.CORE_EXC_INFO n) = 0 ∧
        t.dev.get (F.CORE_EXC_COUNT n) = (s.dev.get (F.CORE_EXC_COUNT n) + 1) % 2 ^ (F.CORE_EXC_COUNT n).w ∧
        t.dev.get (F.CORE_EXC_ACTIVE n) = 1 ∧ t.dev.pcOf n = s.dev.get (F.CORE_VEC_VEC n) ∧
        ∀ f : Fld, f.quiet = true → (∀ g ∈ [F.CORE_EPC_EPC n, F.CORE_EXC_CAUSE n, F.CORE_EXC_INFO n, F.CORE_EXC_COUNT n,
          F.CORE_EXC_ACTIVE n, F.CORE_P_P n], f.key ≠ g.key) → t.dev.get f = s.dev.get f) ∧
    (s.dev.get (F.CORE_EXC_ACTIVE n) = 1 →
      ∃ t, exec c s = .next t ∧ t.mem = s.mem ∧ t.dev.coreState n = 5 ∧ t.dev.get (F.CORE_EXC_DOUBLE n) = 1 ∧
        t.dev.get (F.CORE_EXC_CAUSE n) = s.dev.get (F.CORE_EXC_CAUSE n) ∧
        t.dev.get (F.CORE_EXC_INFO n) = s.dev.get (F.CORE_EXC_INFO n) ∧
        t.dev.get (F.CORE_EPC_EPC n) = s.dev.get (F.CORE_EPC_EPC n)) ∧
    (s.dev.get F.DBG_STAT_UNLOCKED = 1 → s.dev.get F.DBG_STAT_BKEN = 1 →
      ∃ t, exec (.brk n 0 0 0) s = .next t ∧ t.mem = s.mem ∧ t.dev.coreState n = 4 ∧
        t.dev.pcOf n = (s.dev.pcOf n + 1) % 2 ^ 22 ∧ t.dev.accA n = s.dev.accA n)

/-- FENCE with aux 1 to 15 changes P alone. TAS on a word of shared SRAM without error, that no other access of the tick comes
before, gives A the word and sets its bit 35, and leaves every other word of memory alone; on any other address it raises
ACCESS with that address. Two TAS of two cores on one word on one tick never both return bit 35 clear, in whichever order they
wait (R454). A write of 1 to COREn_EXC.ACTIVE clears ACTIVE where core n itself writes it, and from any other agent changes
nothing but what the wake by a host access does (R45). -/
def Obligations.FenceTasAndExceptionEndComplete : Prop :=
  (∀ (s : State) (n : Fin 6) (aux : BitVec 6), s.fetches n = true → 1 ≤ aux.toNat → aux.toNat ≤ 15 →
    exec (.fence n 0 aux 0) s = .next (s.onDev (fun d => d.setPc n (d.pcOf n + 1)))) ∧
  (∀ (s : State) (n : Fin 6) (mode : BitVec 2) (field : BitVec 22), s.fetches n = true → mode ≠ 3 →
    ∀ (ea : Nat), ea = s.dev.ea n mode field →
    (inSram ea = true → s.isBad (.core n) ea = false → s.alone n ea = true →
      ∃ t, exec (.tas n mode 0 field) s = .next t ∧ t.pending = s.pending ∧ t.dev.accA n = s.memRead ea ∧
        (t.memRead ea).getLsbD 35 = true ∧ (∀ i, i < 35 → (t.memRead ea).getLsbD i = (s.memRead ea).getLsbD i) ∧
        (∀ k, k ≠ ea → t.memRead k = s.memRead k) ∧ t.dev.pcOf n = (s.dev.pcOf n + 1) % 2 ^ 22 ∧
        OnlyRegsSoft s.dev t.dev [H.coreA n, F.CORE_P_P n]) ∧
    (inSram ea = true → s.dev.notes = [] → s.isBad (.core n) ea = false →
      ∀ (m : Fin 6) (mode2 : BitVec 2) (field2 : BitVec 22), m ≠ n → s.fetches m = true → mode2 ≠ 3 →
        s.dev.ea m mode2 field2 = ea →
        ∃ t u, exec (.tas n mode 0 field) { s with pending := [.tas m mode2 0 field2] } = .next t ∧
          exec (.tas m mode2 0 field2) { t with pending := [] } = .next u ∧
          ((u.dev.accA n).getLsbD 35 = true ∨ (u.dev.accA m).getLsbD 35 = true)) ∧
    (inSram ea = false → exec (.tas n mode 0 field) s = .next (s.onDev (fun d => d.exception n 3 ea)))) ∧
  (∀ (s : State) (a : Agent) (n : Fin 6),
    ∃ t, exec (.excClear a n) s = .next t ∧ t.mem = s.mem ∧ t.pending = s.pending ∧
      t.dev.get (F.CORE_EXC_ACTIVE n) = (if a = .core n then 0 else s.dev.get (F.CORE_EXC_ACTIVE n)) ∧
      OnlyRegs (s.dev.touch a) t.dev [F.CORE_EXC_ACTIVE n])

/-- A write of FAB_CHCFG by C0 or the host with a SRC and DST of R466 and a DEPTH from 1 to 32, to a selected channel that is not
enabled, gives that channel its four fields and, beside the wake by a host access, changes no other field or table; from
another agent it only sets CFGBAD. A write of EVT_RTE by a core or the host gives the selected source its route, and withdraws
a held message where CHEN becomes 0. Neither touches memory. -/
def Obligations.ChannelConfigurationAndRoutesComplete : Prop :=
  (∀ (a : Agent) (v : Word) (s : State) (c : Nat), c = s.dev.selChan a → a.isC0orHost = true →
    mayBeSrc (bits v.toNat 0 4) = true → mayBeDst (bits v.toNat 4 4) = true → 1 ≤ bits v.toNat 8 6 → bits v.toNat 8 6 ≤ 32 →
    s.dev.get (H.chEn c) = 0 →
    EndsDev (.fabChcfgWrite a v) s (fun e =>
      e.get (H.chSrc c) = bits v.toNat 0 4 ∧ e.get (H.chDst c) = bits v.toNat 4 4 ∧ e.get (H.chDepth c) = bits v.toNat 8 6 ∧
        e.get (H.chEn c) = bits v.toNat 14 1 ∧
        OnlyRegs (s.dev.touch a) e [H.chSrc c, H.chDst c, H.chDepth c, H.chEn c])) ∧
  (∀ (a : Agent) (v : Word) (s : State), a.isC0orHost = false →
    EndsDev (.fabChcfgWrite a v) s (fun e => e.get F.FAB_EVT_CFGBAD = 1 ∧
      ∀ f : Fld, f.quiet = true → f.key ≠ F.FAB_EVT_CFGBAD.key → e.get f = s.dev.get f)) ∧
  (∀ (a : Agent) (v : Word) (s : State) (r : Nat), r = s.dev.selSrc a → (a.isCore || a.isHost) = true →
    EndsDev (.evtRteWrite a v) s (fun e =>
      e.get (H.rteIrq1 r) = bits v.toNat 8 1 ∧ e.get (H.rteIrq0 r) = bits v.toNat 7 1 ∧ e.get (H.rteChen r) = bits v.toNat 6 1 ∧
        e.get (H.rteCh r) = bits v.toNat 0 6 ∧ (bits v.toNat 6 1 = 0 → e.get (H.evHeld r) = 0) ∧
        OnlyRegs (s.dev.touch a) e [H.rteIrq1 r, H.rteIrq0 r, H.rteChen r, H.rteCh r, H.evHeld r, H.rteWritten]))

/-- A software event of a core or the host, on a source 240 + i that is not pending, sets its PEND bit with a count of 1 and the
stamp of TB; on a pending source it adds 1 to the count, at most 4095, and posts nothing. A held event message, with no lower
source held for the same channel, a route and credit, is posted behind the channel's messages as the two words of R481 and is
held no longer. A write of EVT_PENDk clears exactly the bits written 1, of the sources not raised on its tick; a source raised
on its tick keeps PEND (R480). -/
def Obligations.EventRouterComplete : Prop :=
  (∀ (a : Agent) (s : State) (i : Fin 16), (a.isCore || a.isHost) = true → s.dev.get H.rstHeld < 2 →
    (s.dev.pend (240 + i.val) = false →
      EndsDev (.evtSwset a (BitVec.ofNat 36 (2 ^ i.val))) s (fun e => e.pend (240 + i.val) = true ∧
        e.get (H.evCount (240 + i.val)) = 1 ∧ e.get (H.evStamp (240 + i.val)) = s.dev.tb ∧
        (∀ f : Fld, f.quiet = true → e.get f = s.dev.get f))) ∧
    (s.dev.pend (240 + i.val) = true →
      EndsDev (.evtSwset a (BitVec.ofNat 36 (2 ^ i.val))) s (fun e =>
        e.get (H.evCount (240 + i.val)) = min 4095 (s.dev.get (H.evCount (240 + i.val)) + 1) ∧
        OnlyRegs (s.dev.touch a) e [H.evCount (240 + i.val), H.evRaise (240 + i.val)]))) ∧
  (∀ (s : State) (r : Fin 256) (c : Nat), c = s.dev.get (H.rteCh r.val) → s.dev.get (H.evHeld r.val) = 1 →
    s.dev.heldBefore r.val = false → s.dev.get (H.rteChen r.val) = 1 → 0 < s.dev.hwCredit c →
    EndsDev (.eventPost r) s (fun e => e.chan c = s.dev.chan c ++ [⟨s.dev.eventWords r.val, s.dev.now, false, false⟩] ∧
      (∀ k, k ≠ c → e.chan k = s.dev.chan k) ∧ e.get (H.evHeld r.val) = 0 ∧
      OnlyFields s.dev e [H.evHeld r.val, H.chSent c])) ∧
  (∀ (s : State) (k : Fin 8) (v : Word) (i : Fin 32),
    EndsDev (.evtPendClear k v) s (fun e =>
      (s.dev.get (H.evSetAt (32 * k.val + i.val)) ≠ s.dev.now + 1 → s.dev.raisesNow (32 * k.val + i.val) = 0 →
        e.pend (32 * k.val + i.val) = (s.dev.pend (32 * k.val + i.val) && !v.toNat.testBit i.val)) ∧
      (s.dev.raisesNow (32 * k.val + i.val) ≠ 0 → s.dev.pend (32 * k.val + i.val) = true →
        e.pend (32 * k.val + i.val) = true) ∧
      (∀ f : Fld, f.quiet = true → e.get f = s.dev.get f)))

/-- A write of FAB_ADMLOAD by C0 running boot ROM code stores the word at 0x10_8000 + PTR and advances PTR; a write of FAB_ADMPTR
with RUN = 1 from there starts an evaluation with the floor certified now, BUSY = 1 and its end armed for 100 µs. From any
other source both only set FAB_EVT.ADMWR beside what the event router records. The end of an evaluation clears BUSY. A take
deadline of a channel that no shedding has closed, with TAKEDL other than 0 and a message not yet late that has stood for
TAKEDL µs, sets LATE of the channel and marks the first such message, and no message leaves the queue; otherwise it changes
nothing. -/
def Obligations.AdmissionCommandsComplete : Prop :=
  (∀ (a : Agent) (v : Word) (s : State), s.dev.isRom a = true → s.dev.get F.FAB_ADMPTR_PTR < 1023 →
    EndsDev (.admLoad a v) s (fun e => e.stgRead (admBase + s.dev.get F.FAB_ADMPTR_PTR) = v.toNat ∧
      (∀ k, k ≠ admBase + s.dev.get F.FAB_ADMPTR_PTR → e.stgRead k = s.dev.stgRead k) ∧
      e.get F.FAB_ADMPTR_PTR = s.dev.get F.FAB_ADMPTR_PTR + 1 ∧ OnlyFields s.dev e [F.FAB_ADMPTR_PTR])) ∧
  (∀ (a : Agent) (v : Word) (s : State), s.dev.isRom a = true → v.toNat.testBit 35 = true →
    s.dev.get F.FAB_ADMF_BUSY = 0 → s.dev.get F.SVY_SHED_LEVEL = 255 →
    EndsDev (.admRun a v) s (fun e => e.get F.FAB_ADMPTR_PTR = bits v.toNat 0 10 ∧ e.get F.FAB_ADMF_BUSY = 1 ∧
      e.get F.FAB_ADMF_FLOOR = s.dev.get F.SVY_FLOOR_FLOOR ∧ e.get T.admEval = (s.dev.now + 6400 + 1) % 2 ^ 64 ∧
      e.stg = s.dev.stg)) ∧
  (∀ (a : Agent) (v : Word) (s : State) (c : Instr), s.dev.isRom a = false → (c = .admLoad a v ∨ c = .admRun a v) →
    EndsDev c s (fun e => e.get F.FAB_EVT_ADMWR = 1 ∧ e.stg = s.dev.stg ∧
      ∀ f : Fld, f.quiet = true → f.key ≠ F.FAB_EVT_ADMWR.key → e.get f = s.dev.get f)) ∧
  (∀ (s : State) (c : Fin 64),
    (s.dev.lateDue c.val = true →
      EndsDev (.takeDeadline c) s (fun e => e.get (H.chLate c.val) = 1 ∧ e.get F.FAB_EVT_LATE = 1 ∧
        ∃ l, e.chan c.val = markLate (s.dev.chan c.val) ++ l)) ∧
    (s.dev.lateDue c.val = false → exec (.takeDeadline c) s = .next s)) ∧
  (∀ (l : List Msg), (markLate l).map (·.words) = l.map (·.words) ∧ (markLate l).length = l.length)

/-- For a core whose handlers after shedding are not none, all with a period T of at least 1, and a floor above 0, the admission
result UFAIL is 0 exactly when the sum over the handlers of C_h / (100 µs × T_h), as a rational number, is at most 7/10; and
DFAIL is 0 exactly when for every handler h the sum over every handler j of (⌊D_h / T_j⌋ + 1) × C_j is at most D_h. -/
def Obligations.UtilisationIsTheExactSum : Prop :=
  ∀ (d : Dev) (tbl hs : List Handler) (floor level core : Nat),
    hs = (tbl.filter (fun h => h.core == core)).filter (fun h => !h.isShed level) → hs ≠ [] → 0 < floor →
    (∀ h ∈ hs, 1 ≤ h.t) →
      ((d.admOf tbl floor level core).getD 2 0 = 0 ↔
        (hs.map (fun h => (h.cost floor : ℚ) / (100000 * (h.t : ℚ)))).sum ≤ 7 / 10) ∧
      ((d.admOf tbl floor level core).getD 3 0 = 0 ↔
        ∀ h ∈ hs, (hs.map (fun j => (⌊(h.dl : ℚ) / (100 * (j.t : ℚ))⌋ + 1) * (j.cost floor : ℤ))).sum ≤ 1000 * (h.dl : ℤ))

/-- A read of TB_COUNT returns TB to its reader and copies TBEPOCH into that reader's own latch, and, beside the wake by a host
access, changes nothing else. The writes are those of a tick on which no decision of Meridian waits; where one waits, the
write is kept to commit after it (R139). A first write of TB_EPSET by C0 or the host holds the value and sets EPPEND; while
EPPEND or EPDONE is 1 it only sets EPBAD. A write of TB_RLD or TB_EPSET by another agent only sets WRBAD; a TB_RLD below
63,999 from C0 or the host only sets RLDBAD; an accepted TB_RLD is the composition of R147: the value, a TIME record of the
new and the old value, the end of the lap where TB has reached it, the check of every armed channel, the close of every
segment with reason 9, and the Meridian event. XOK follows the crystal. -/
def Obligations.TimeBaseWritesComplete : Prop :=
  (∀ (s : State) (a : Agent),
    EndsDev (.tbCountRead a) s (fun e => e.get (H.rdata a.copy) = s.dev.get F.TB_COUNT_COUNT ∧
      e.get (F.TB_EPL_EPL a.copy) = s.dev.get F.TB_EPOCH_EPOCH ∧ OnlyRegs (s.dev.touch a) e [H.rdata a.copy, F.TB_EPL_EPL a.copy])) ∧
  (∀ (s : State) (a : Agent) (v : Word), s.pending.any meridianDecision = false → a.isC0orHost = true →
    (s.dev.get F.TB_STAT_EPPEND = 0 → s.dev.get F.TB_STAT_EPDONE = 0 →
      EndsDev (.tbEpsetWrite a v) s (fun e => e.get F.TB_EPSET_VALUE = v.toNat ∧ e.get F.TB_STAT_EPPEND = 1 ∧
        OnlyRegs (s.dev.touch a) e [F.TB_EPSET_VALUE, F.TB_STAT_EPPEND])) ∧
    (s.dev.get F.TB_STAT_EPPEND = 1 ∨ s.dev.get F.TB_STAT_EPDONE = 1 →
      EndsDev (.tbEpsetWrite a v) s (fun e => e.get F.TB_STAT_EPBAD = 1 ∧ OnlyRegs (s.dev.touch a) e [F.TB_STAT_EPBAD]))) ∧
  (∀ (s : State) (a : Agent) (v : Word) (c : Instr), s.pending.any meridianDecision = false → a.isC0orHost = false →
    (c = .tbEpsetWrite a v ∨ c = .tbRldWrite a v) →
    EndsDev c s (fun e => e.get F.TB_STAT_WRBAD = 1 ∧ OnlyRegs s.dev e [F.TB_STAT_WRBAD])) ∧
  (∀ (s : State) (a : Agent) (v : Word), s.pending.any meridianDecision = false → a.isC0orHost = true →
    v.toNat < 63999 →
    EndsDev (.tbRldWrite a v) s (fun e => e.get F.TB_STAT_RLDBAD = 1 ∧ OnlyRegs (s.dev.touch a) e [F.TB_STAT_RLDBAD])) ∧
  (∀ (s : State) (a : Agent) (v : Word), s.pending.any meridianDecision = false → a.isC0orHost = true →
    63999 ≤ v.toNat →
    EndsDev (.tbRldWrite a v) s (fun e => ∃ d1 d2 : Dev,
      d1 = ((s.dev.touch a).put F.TB_RLD_RLD v.toNat).devRecord 3 s.dev.epoch s.dev.tb s.dev.epoch s.dev.tb
        (beBytes 5 v.toNat ++ beBytes 5 (s.dev.get F.TB_RLD_RLD)) ∧
      d2 = Dev.forN 64 (fun i x => if x.bit (F.CMP_STAT_ARMED i) && !x.cmpValid i then
        x.puts [(F.CMP_STAT_ARMED i, 0), (F.CMP_STAT_RANGE i, 1)] else x) (if v.toNat ≤ d1.tb then d1.set1 H.lapEnd else d1) ∧
      e = (d2.segCloseAll 9 true).merEvt F.TB_CTRL_RLDIE)) ∧
  (∀ (s : State) (a : Agent) (v : Word), s.pending.any meridianDecision = true →
    exec (.tbRldWrite a v) s = .next (s.onDev (fun d =>
      { d.touch a with commits := d.commits ++ [⟨d.now, a, 0x200083, v.toNat⟩] })) ∧
    exec (.tbEpsetWrite a v) s = .next (s.onDev (fun d =>
      { d.touch a with commits := d.commits ++ [⟨d.now, a, 0x200084, v.toNat⟩] }))) ∧
  (∀ (s : State) (ok : Bool), EndsDev (.xokChange ok) s (fun e => e.get F.TB_STAT_XOK = b2n ok ∧ OnlyRegs s.dev e [F.TB_STAT_XOK]))

/-- With TB at or above TBRLD, or the lap to end under a reload change, LAP_WRAP makes TB 0 and TBEPOCH the next value modulo
2^36, or the pending value, with which EPPEND clears and EPDONE sets; where the new epoch is no multiple of 60 × IVAL no
segment closes and, beside the event router, only TB, TBEPOCH, the lap mark and EPWRAP can change; EPWRAP sets when TBEPOCH
wraps. With TB below TBRLD and no reload change pending it changes nothing. -/
def Obligations.LapsWrap : Prop :=
  ∀ (s : State),
    (s.dev.lapDue = true → EndsDev .lapWrap s (fun e => e.get F.TB_COUNT_COUNT = 0 ∧ e.get H.lapEnd = 0 ∧
      e.get F.TB_EPOCH_EPOCH = (if s.dev.get F.TB_STAT_EPPEND = 0 then (s.dev.get F.TB_EPOCH_EPOCH + 1) % 2 ^ 36
        else s.dev.get F.TB_EPSET_VALUE) ∧
      (s.dev.get F.TB_STAT_EPPEND = 1 → e.get F.TB_STAT_EPPEND = 0 ∧ e.get F.TB_STAT_EPDONE = 1))) ∧
    (s.dev.get F.TB_RLD_RLD ≤ s.dev.get F.TB_COUNT_COUNT → s.dev.get F.TB_STAT_EPPEND = 0 →
      (s.dev.get F.TB_EPOCH_EPOCH + 1) % 2 ^ 36 % (60 * s.dev.get F.MTR_IVAL_IVAL) ≠ 0 →
      EndsDev .lapWrap s (fun e => e.get F.TB_COUNT_COUNT = 0 ∧
        e.get F.TB_EPOCH_EPOCH = (s.dev.get F.TB_EPOCH_EPOCH + 1) % 2 ^ 36 ∧
        (s.dev.get F.TB_EPOCH_EPOCH = 2 ^ 36 - 1 → e.get F.TB_STAT_EPWRAP = 1) ∧
        ∀ f : Fld, f.quiet = true → (∀ g ∈ [F.TB_COUNT_COUNT, F.TB_EPOCH_EPOCH, H.lapEnd, F.TB_STAT_EPWRAP], f.key ≠ g.key) →
          e.get f = s.dev.get f)) ∧
    (s.dev.get F.TB_COUNT_COUNT < s.dev.get F.TB_RLD_RLD → s.dev.get H.lapEnd = 0 → exec .lapWrap s = .next s)

/-- On a tick on which no decision of Meridian waits: a write of CMPnn_VAL stores the value, and with MODE other than 0 arms the
channel where the value passes R151 and otherwise disarms it and sets RANGE; a write of CMPnn_CTRL stores its fields, and MODE
0 disarms; a write of CMP_OUT commands every ball on which the hardware has not acted on this tick. Where a decision waits,
each is kept to commit after it (R139). A firing sets FIRED, adds 1 to FCNT modulo 256, sets OVR where FIRED stood, and
disarms in mode 1, keeps armed in mode 2 and steps the value in mode 3, where it stays armed if the new value passes R151; its
action commands the ball unless a channel has acted on the ball on this tick, when COLL sets; with no action, event or
snapshot it changes nothing else. The end of a pulse commands the ball low. A ball takes the level commanded 2 ticks later. -/
def Obligations.CompareChannelsComplete : Prop :=
  (∀ (s : State) (i : Fin 64) (v : Word), s.pending.any meridianDecision = false →
    (s.dev.get (F.CMP_CTRL_MODE i.val) = 0 →
      EndsDev (.cmpValWrite i v) s (fun e => e.get (F.CMP_VAL_VALUE i.val) = v.toNat ∧ OnlyRegs s.dev e [F.CMP_VAL_VALUE i.val])) ∧
    (s.dev.get (F.CMP_CTRL_MODE i.val) ≠ 0 →
      EndsDev (.cmpValWrite i v) s (fun e => e.get (F.CMP_VAL_VALUE i.val) = v.toNat ∧
        (e.get (F.CMP_STAT_ARMED i.val) = 1 ↔ v.toNat ≤ s.dev.get F.TB_RLD_RLD ∧ (s.dev.get (F.CMP_CTRL_MODE i.val) = 3 →
          1 ≤ s.dev.get (F.CMP_CTRL_STEP i.val) ∧ s.dev.get (F.CMP_CTRL_STEP i.val) ≤ s.dev.get F.TB_RLD_RLD)) ∧
        e.get (F.CMP_STAT_RANGE i.val) = 1 - e.get (F.CMP_STAT_ARMED i.val) ∧
        OnlyRegs s.dev e [F.CMP_VAL_VALUE i.val, F.CMP_STAT_ARMED i.val, F.CMP_STAT_RANGE i.val, H.cmpArm i.val]))) ∧
  (∀ (s : State) (i : Fin 64) (v : Word), s.pending.any meridianDecision = false →
    EndsDev (.cmpCtrlWrite i v) s (fun e => e.get (F.CMP_CTRL_MODE i.val) = bits v.toNat 0 2 ∧
      e.get (F.CMP_CTRL_STEP i.val) = bits v.toNat 12 24 ∧ e.get (F.CMP_CTRL_ACTION i.val) = bits v.toNat 7 3 ∧
      e.get (F.CMP_CTRL_OUTSEL i.val) = bits v.toNat 4 3 ∧ e.get (F.CMP_CTRL_IE i.val) = bits v.toNat 10 1 ∧
      e.get (F.CMP_CTRL_SNAP i.val) = bits v.toNat 11 1 ∧ (bits v.toNat 0 2 = 0 → e.get (F.CMP_STAT_ARMED i.val) = 0))) ∧
  (∀ (s : State) (i : Fin 64) (v : Word), s.pending.any meridianDecision = true →
    ∀ (late : Nat → State), late = (fun addr => { s with dev := { s.dev with
      commits := s.dev.commits ++ [⟨s.dev.now, .tap, addr, v.toNat⟩] } }) →
      exec (.cmpValWrite i v) s = .next (late (0x200100 + i.val)) ∧
      exec (.cmpCtrlWrite i v) s = .next (late (0x200140 + i.val)) ∧ exec (.cmpOutWrite v) s = .next (late 0x2001C2)) ∧
  (∀ (s : State) (i : Fin 64) (o : Nat), s.dev.get (F.CMP_STAT_ARMED i.val) = 1 →
    s.dev.tb = s.dev.get (F.CMP_VAL_VALUE i.val) → s.dev.get (H.cmpArm i.val) ≠ s.dev.now + 1 →
    o = s.dev.get (F.CMP_CTRL_OUTSEL i.val) →
    EndsDev (.cmpFire i) s (fun e => e.get (F.CMP_STAT_FIRED i.val) = 1 ∧
      e.get (F.CMP_STAT_FCNT i.val) = (s.dev.get (F.CMP_STAT_FCNT i.val) + 1) % 256 ∧
      (s.dev.get (F.CMP_STAT_FIRED i.val) = 1 → e.get (F.CMP_STAT_OVR i.val) = 1) ∧
      (s.dev.get (F.CMP_CTRL_MODE i.val) = 1 → e.get (F.CMP_STAT_ARMED i.val) = 0) ∧
      (s.dev.get (F.CMP_CTRL_MODE i.val) = 2 → e.get (F.CMP_STAT_ARMED i.val) = 1) ∧
      (s.dev.get (F.CMP_CTRL_MODE i.val) = 3 → e.get (F.CMP_VAL_VALUE i.val) = s.dev.cmpStep i.val % 2 ^ 36 ∧
        (e.get (F.CMP_STAT_ARMED i.val) = 1 ↔ s.dev.cmpStep i.val % 2 ^ 36 ≤ s.dev.get F.TB_RLD_RLD ∧
          1 ≤ s.dev.get (F.CMP_CTRL_STEP i.val) ∧ s.dev.get (F.CMP_CTRL_STEP i.val) ≤ s.dev.get F.TB_RLD_RLD)) ∧
      (s.dev.get (F.CMP_CTRL_MODE i.val) ≠ 3 → e.get (F.CMP_VAL_VALUE i.val) = s.dev.get (F.CMP_VAL_VALUE i.val)) ∧
      (1 ≤ s.dev.get (F.CMP_CTRL_ACTION i.val) → s.dev.get (F.CMP_CTRL_ACTION i.val) ≤ 4 →
        (s.dev.get (H.cmpoTick o) = s.dev.now + 1 → e.get (F.CMP_STAT_COLL i.val) = 1 ∧
          e.getBit F.CMP_OUT_LEVEL o = s.dev.getBit F.CMP_OUT_LEVEL o) ∧
        (s.dev.get (H.cmpoTick o) ≠ s.dev.now + 1 →
          e.getBit F.CMP_OUT_LEVEL o = (match s.dev.get (F.CMP_CTRL_ACTION i.val) with
            | 2 => false
            | 3 => !s.dev.getBit F.CMP_OUT_LEVEL o
            | _ => true) ∧
          (s.dev.get (F.CMP_CTRL_ACTION i.val) = 4 → e.get (T.cmpoPulse o) = (s.dev.now + 16 + 1) % 2 ^ 64))) ∧
      (s.dev.get (F.CMP_CTRL_ACTION i.val) = 0 → s.dev.get (F.CMP_CTRL_IE i.val) = 0 → s.dev.get (F.CMP_CTRL_SNAP i.val) = 0 →
        OnlyRegs s.dev e [F.CMP_STAT_FIRED i.val, F.CMP_STAT_FCNT i.val, F.CMP_STAT_OVR i.val, F.CMP_STAT_ARMED i.val,
          F.CMP_STAT_RANGE i.val, F.CMP_VAL_VALUE i.val, H.cmpArm i.val, H.cmpPrev i.val, H.cmpFireAt i.val]))) ∧
  (∀ (s : State) (o : Fin 8), s.dev.get (T.cmpoPulse o.val) ≠ 0 → s.dev.get (H.cmpoTick o.val) ≠ s.dev.now + 1 →
    EndsDev (.cmpPulseEnd o) s (fun e => e.getBit F.CMP_OUT_LEVEL o.val = false ∧ e.get (T.cmpoPulse o.val) = 0 ∧
      (∀ k : Fin 8, k ≠ o → e.getBit F.CMP_OUT_LEVEL k.val = s.dev.getBit F.CMP_OUT_LEVEL k.val) ∧
      ({ e with now := e.now + 2 } : Dev).cmpoBalls = e.get F.CMP_OUT_LEVEL ∧
      OnlyRegsPads s.dev e [F.CMP_OUT_LEVEL, T.cmpoPulse o.val])) ∧
  (∀ (s : State) (v : Word), s.pending.any meridianDecision = false →
    EndsDev (.cmpOutWrite v) s (fun e => (∀ o : Fin 8, e.getBit F.CMP_OUT_LEVEL o.val =
        (if s.dev.marked F.CMP_OUT_LEVEL o.val then s.dev.getBit F.CMP_OUT_LEVEL o.val else v.toNat.testBit o.val)) ∧
      OnlyRegsPads s.dev e [F.CMP_OUT_LEVEL]))

/-- A level that changes at the sample at which FILTN samples can have differed is accepted, and before that sample it stands as
the candidate, due at that sample. A first accepted level only makes LEVEL valid. A selected edge with the prescaler at its
end captures TB and TBEPOCH and sets FULL, and OVR where FULL stood and no read of the capture falls on the tick. A return to
the accepted level rejects the candidate. A read of CAPnn_TB returns the captured TB, clears FULL and copies the held epoch to
the reader's own latch; on the tick of a capture it comes before it, returns the capture before and leaves FULL 1 (R159). The
eighth rejected candidate sets ACT. A stuck time that ends sets STUCK. A write of CAPnn_CTRL with FILTN 0 is ignored as a
whole, and otherwise stores its fields; where a decision of Meridian waits on its tick it is kept to commit after it (R139).
-/
def Obligations.CaptureInputsComplete : Prop :=
  (∀ (s : State) (i : Fin 12) (level : Bool), s.dev.get (F.CAP_STAT_VALID i.val) = 0 → s.dev.get (H.capDue i.val) = 0 →
    s.dev.capEarliest i.val = s.dev.now →
    EndsDev (.capEdgeAccepted i level) s (fun e => e.get (F.CAP_STAT_VALID i.val) = 1 ∧
      e.get (F.CAP_STAT_LEVEL i.val) = b2n level ∧ e.get (F.CAP_STAT_ECNT i.val) = s.dev.get (F.CAP_STAT_ECNT i.val) ∧
      e.get (F.CAP_STAT_FULL i.val) = s.dev.get (F.CAP_STAT_FULL i.val))) ∧
  (∀ (s : State) (i : Fin 12) (level : Bool), s.dev.get (F.CAP_STAT_VALID i.val) = 1 →
    level ≠ s.dev.bit (F.CAP_STAT_LEVEL i.val) → s.dev.get (H.capDue i.val) = 0 →
    (s.dev.capEarliest i.val ≠ s.dev.now →
      EndsDev (.capEdgeAccepted i level) s (fun e => e.get (F.CAP_STAT_RAW i.val) = b2n level ∧
        e.get (H.capDue i.val) = (s.dev.capEarliest i.val + 1) % 2 ^ 64 ∧
        OnlyRegs s.dev e [F.CAP_STAT_RAW i.val, H.capDue i.val])) ∧
    (s.dev.capEarliest i.val = s.dev.now → s.dev.getBit (F.CAP_CTRL_EDGE i.val) (if level then 0 else 1) = true →
      s.dev.get (F.CAP_CTRL_PRESC i.val) ≤ s.dev.get (H.capPresc i.val) →
      EndsDev (.capEdgeAccepted i level) s (fun e => e.get (F.CAP_TB_TB i.val) = s.dev.tb ∧
        e.get (F.CAP_STAT_LEVEL i.val) = b2n level ∧
        e.get (H.capEpoch i.val) = s.dev.epoch ∧ e.get (F.CAP_STAT_FULL i.val) = 1 ∧
        (s.dev.get (F.CAP_STAT_FULL i.val) = 1 → s.pending.any (s.readBy (0x200220 + i.val)) = false →
          e.get (F.CAP_STAT_OVR i.val) = 1) ∧
        (s.dev.get (F.CAP_STAT_FULL i.val) = 0 → e.get (F.CAP_STAT_OVR i.val) = s.dev.get (F.CAP_STAT_OVR i.val)) ∧
        e.get (F.CAP_STAT_ECNT i.val) = (s.dev.get (F.CAP_STAT_ECNT i.val) + 1) % 256))) ∧
  (∀ (s : State) (i : Fin 12) (level : Bool), s.dev.get (F.CAP_STAT_VALID i.val) = 1 →
    level = s.dev.bit (F.CAP_STAT_LEVEL i.val) → s.dev.get (H.capDue i.val) ≠ 0 →
    EndsDev (.capEdgeAccepted i level) s (fun e => e.get (H.capDue i.val) = 0 ∧
      e.get (F.CAP_STAT_LEVEL i.val) = s.dev.get (F.CAP_STAT_LEVEL i.val) ∧
      e.get (H.capRej i.val) = min 8 (s.dev.get (H.capRej i.val) + 1))) ∧
  (∀ (s : State) (a : Agent) (i : Fin 12),
    (s.dev.get (H.capNewAt i.val) ≠ s.dev.now + 1 →
      EndsDev (.capTbRead a i) s (fun e => e.get (H.rdata a.copy) = s.dev.get (F.CAP_TB_TB i.val) ∧
        e.get (F.CAP_STAT_FULL i.val) = 0 ∧ e.get (F.CAP_EP_EPOCH i.val a.copy) = s.dev.get (H.capEpoch i.val) ∧
        OnlyRegs (s.dev.touch a) e [H.rdata a.copy, F.CAP_STAT_FULL i.val, F.CAP_EP_EPOCH i.val a.copy])) ∧
    (s.dev.get (H.capNewAt i.val) = s.dev.now + 1 →
      EndsDev (.capTbRead a i) s (fun e => e.get (H.rdata a.copy) = s.dev.get (H.capOldTb i.val) ∧
        e.get (F.CAP_EP_EPOCH i.val a.copy) = s.dev.get (H.capOldEp i.val) ∧
        OnlyRegs (s.dev.touch a) e [H.rdata a.copy, F.CAP_EP_EPOCH i.val a.copy]))) ∧
  (∀ (s : State) (i : Fin 36), i.val < 12 → s.dev.get (H.capRej i.val) = 7 →
    EndsDev (.capCandidateRejected i) s (fun e => e.get (F.CAP_STAT_ACT i.val) = 1 ∧ e.get (H.capRej i.val) = 8)) ∧
  (∀ (s : State) (i : Fin 12), s.dev.get (T.capStuck i.val) ≠ 0 →
    EndsDev (.capStuckTimeout i) s (fun e => e.get (F.CAP_STAT_STUCK i.val) = 1 ∧ e.get (T.capStuck i.val) = 0 ∧
      ∀ f : Fld, f.quiet = true → (∀ g ∈ [F.CAP_STAT_STUCK i.val, T.capStuck i.val, H.capStuckDone i.val], f.key ≠ g.key) →
        e.get f = s.dev.get f)) ∧
  (∀ (s : State) (i : Fin 12) (v : Word),
    (s.pending.any meridianDecision = false → bits v.toNat 8 8 = 0 → exec (.capCtrlWrite i v) s = .next s) ∧
    (s.pending.any meridianDecision = false → bits v.toNat 8 8 ≠ 0 →
      EndsDev (.capCtrlWrite i v) s (fun e => e.get (F.CAP_CTRL_FILTN i.val) = bits v.toNat 8 8 ∧
        e.get (F.CAP_CTRL_EDGE i.val) = bits v.toNat 3 2 ∧ e.get (F.CAP_CTRL_PRESC i.val) = bits v.toNat 16 8 ∧
        e.get (F.CAP_CTRL_STUCKTO i.val) = bits v.toNat 24 12 ∧ e.get (F.CAP_CTRL_IE i.val) = bits v.toNat 1 1 ∧
        e.get (F.CAP_STAT_LEVEL i.val) = s.dev.get (F.CAP_STAT_LEVEL i.val) ∧
        OnlyRegs s.dev e [F.CAP_CTRL_STUCKTO i.val, F.CAP_CTRL_PRESC i.val, F.CAP_CTRL_FILTN i.val, F.CAP_CTRL_SI i.val,
          F.CAP_CTRL_EDGE i.val, F.CAP_CTRL_STATIE i.val, F.CAP_CTRL_IE i.val, H.capPresc i.val, H.capSince i.val,
          H.capDue i.val, T.capStuck i.val])) ∧
    (s.pending.any meridianDecision = true → exec (.capCtrlWrite i v) s = .next { s with dev := { s.dev with
      commits := s.dev.commits ++ [⟨s.dev.now, .tap, 0x200200 + i.val, v.toNat⟩] } }))

/-- With FULL 0, TRIG written by a core or the host with FILTN other than 0, and a selected edge of SNAPIN accepted by its filter,
each set FULL with CAUSE TRIG or SNAPIN and record TB and TBEPOCH of now, and TRIG SYS_MODE; with FULL 1 from an earlier tick
a selected edge only counts LOST. A level of SNAPIN that its filter cannot accept yet stands as the candidate, due at the
sample of R157. A write of 1 to FULL rearms and changes nothing else, unless a snapshot was taken on its tick, which stays, or
a trigger was refused on its tick, which is then taken (R545). The end of the pulse stops SNAPOUT. -/
def Obligations.SnapshotsComplete : Prop :=
  (∀ (s : State) (a : Agent) (v : Word), (a.isCore || a.isHost) = true → bits v.toNat 16 8 ≠ 0 → v.toNat.testBit 0 = true →
    s.dev.get F.SNAP_STAT_FULL = 0 →
    EndsDev (.snapTrig a v) s (fun e => e.get F.SNAP_STAT_FULL = 1 ∧ e.get F.SNAP_STAT_CAUSE = 1 ∧
      e.get F.SNAP_TB_VALUE = s.dev.tb ∧ e.get F.SNAP_EP_VALUE = s.dev.epoch ∧ e.get F.SNAP_SYS_MODE = s.dev.modeWord % 2 ^ F.SNAP_SYS_MODE.w)) ∧
  (∀ (s : State) (rising : Bool), s.dev.getBit F.SNAP_CTRL_EDGE (if rising then 0 else 1) = true →
    ∀ (d : Dev), d = s.dev.snapBase rising → d.bit H.snapLvl ≠ rising →
    (d.snapEarliest ≠ s.dev.now →
      EndsDev (.snapinEdge rising) s (fun e => e.get H.snapRaw = b2n rising ∧ e.get H.snapDue = (d.snapEarliest + 1) % 2 ^ 64 ∧
        OnlyRegs s.dev e [H.snapRaw, H.snapDue, H.snapValid, H.snapLvl, H.snapSince])) ∧
    (d.snapEarliest = s.dev.now → s.dev.get F.SNAP_STAT_FULL = 0 →
      EndsDev (.snapinEdge rising) s (fun e => e.get F.SNAP_STAT_FULL = 1 ∧ e.get F.SNAP_STAT_CAUSE = 2 ∧
        e.get F.SNAP_TB_VALUE = s.dev.tb ∧ e.get F.SNAP_EP_VALUE = s.dev.epoch)) ∧
    (d.snapEarliest = s.dev.now → s.dev.get F.SNAP_STAT_FULL = 1 → s.dev.get H.snapTick ≠ s.dev.now + 1 →
      EndsDev (.snapinEdge rising) s (fun e => e.get F.SNAP_STAT_LOST = min 4095 (s.dev.get F.SNAP_STAT_LOST + 1) ∧
        OnlyRegs s.dev e [F.SNAP_STAT_LOST, H.snapLostAt, H.snapLostWas, H.snapLostCause, H.snapLostCh, H.snapLostPort,
          H.snapValid, H.snapLvl, H.snapDue, H.snapSince]))) ∧
  (∀ (s : State) (v : Word), v.toNat.testBit 0 = true →
    (s.dev.get H.snapTick = s.dev.now + 1 → exec (.snapRearm v) s = .next s) ∧
    (s.dev.get H.snapTick ≠ s.dev.now + 1 → s.dev.get H.snapLostAt ≠ s.dev.now + 1 →
      EndsDev (.snapRearm v) s (fun e => e.get F.SNAP_STAT_FULL = 0 ∧ OnlyRegs s.dev e [F.SNAP_STAT_FULL])) ∧
    (s.dev.get H.snapTick ≠ s.dev.now + 1 → s.dev.get H.snapLostAt = s.dev.now + 1 → s.dev.get F.SNAP_STAT_FULL = 1 →
      EndsDev (.snapRearm v) s (fun e => e.get F.SNAP_STAT_FULL = 1 ∧ e.get F.SNAP_STAT_LOST = s.dev.get H.snapLostWas ∧
        e.get F.SNAP_STAT_CAUSE = s.dev.get H.snapLostCause ∧ e.get F.SNAP_TB_VALUE = s.dev.tb))) ∧
  (∀ (s : State), s.dev.get T.snapOut ≠ 0 →
    EndsDev .snapoutPulseEnd s (fun e => e.snapOutLevel = false ∧ OnlyRegs s.dev e [T.snapOut, H.snapOutFrom]))

/-- With a segment open that was not opened this tick, fewer than 8 segments queued and none of them closed this tick, CLOSE, and
a full segment's time with its timer running, append to the meter's queue exactly one segment: reason 11 or 10, the serial,
the start stamp and the contract summary of the open segment, the end stamp of now, not yet posted; the serial counter
advances, a new segment is open with the start stamp of now, and no other meter's queue changes; with 8 queued and the newest
not posted, the closed segment is merged into that one and MERGE sets. With no segment open, and none closed on this tick,
CLOSE changes nothing. -/
def Obligations.SegmentClosesComplete : Prop :=
  ∀ (s : State) (p : Fin 24),
    (s.dev.get (F.MTR_STAT_OPEN p.val) = 0 → s.dev.segJust p.val = none → exec (.mtrClose p) s = .next s) ∧
    ∀ (c : Instr) (reason : Nat),
      ((c = .mtrClose p ∧ reason = 11) ∨ (c = .segmentFull p ∧ reason = 10 ∧ s.dev.get (T.mtrFull p.val) ≠ 0)) →
      s.dev.get (F.MTR_STAT_OPEN p.val) = 1 → s.dev.get (H.mtrSegTick p.val) ≠ s.dev.now + 1 →
      (∀ l : Seg, 8 ≤ (s.dev.segs p.val).length → (s.dev.segs p.val).getLast? = some l → l.posted = false →
        EndsDev c s (fun e => e.get (F.MTR_STAT_OPEN p.val) = 1 ∧ e.get (F.MTR_EVT_MERGE p.val) = 1 ∧
          ∃ g : Seg, g.reason = reason ∧ g.e1 = s.dev.epoch ∧ g.t1 = s.dev.tb ∧
            e.segs p.val = replaceLast (s.dev.segs p.val) (mergeSeg l g))) ∧
      ((s.dev.segs p.val).length < 8 →
      EndsDev c s (fun e => ∃ g : Seg, e.segs p.val = s.dev.segs p.val ++ [g] ∧ g.reason = reason ∧
        g.serial = s.dev.get (F.MTR_STAT_SER p.val) ∧ g.e0 = s.dev.get (H.mtrSegE0 p.val) ∧
        g.t0 = s.dev.get (H.mtrSegT0 p.val) ∧ g.e1 = s.dev.epoch ∧ g.t1 = s.dev.tb ∧ g.sum = s.dev.get (H.mtrSum p.val) ∧
        g.posted = false ∧ e.get (F.MTR_STAT_SER p.val) = (s.dev.get (F.MTR_STAT_SER p.val) + 1) % 2 ^ 12 ∧
        e.get (F.MTR_STAT_OPEN p.val) = 1 ∧ e.get (H.mtrSegE0 p.val) = s.dev.epoch ∧ e.get (H.mtrSegT0 p.val) = s.dev.tb ∧
        ∀ q, q ≠ p.val → e.segs q = s.dev.segs q))

/-- A sample of a running meter with a segment open adds v × |i| to the import energy for a negative i and to the export energy
for a positive i, counted as whole millijoules and a remainder that together conserve it exactly, where v and i are the
converted sample of R374 and R375 with i taken as 0 below CREEP, where a write of CREEP on the tick of the sample does not
count yet (R381); a sample of a meter that does not run changes nothing. -/
def Obligations.SamplesConserveEnergy : Prop :=
  ∀ (s : State) (p : Fin 24) (vraw iraw : Int) (v : Nat) (i0 i : Int),
    (s.dev.get (H.mtrRun p.val) = 0 → exec (.meterSample p vraw iraw) s = .next s) ∧
    (v = (((max (-8388608) (min 8388607 vraw) - sgn 24 (s.dev.get (F.MTR_CALVO_VO p.val))) *
        (s.dev.get (F.MTR_CALVG_VG p.val) : Int)).fdiv 1048576).toNat →
      i0 = ((max (-8388608) (min 8388607 iraw) - sgn 24 (s.dev.get (F.MTR_CALIO_IO p.val))) *
        (s.dev.get (F.MTR_CALIG_IG p.val) : Int)).tdiv 1048576 →
      i = (if i0.natAbs < (if s.dev.get (H.mtrCreepAt p.val) = s.dev.now + 1 then s.dev.get (H.mtrCreepOld p.val)
        else s.dev.get (F.MTR_CTRL_CREEP p.val)) * 10000 then 0 else i0) →
      s.dev.get (H.mtrRun p.val) = 1 → s.dev.get (F.MTR_STAT_OPEN p.val) = 1 →
      s.dev.get (H.mtrImp p.val) * 16000000000000 + s.dev.get (H.mtrImpR p.val) + v * i.natAbs < 2 ^ 72 →
      s.dev.get (H.mtrExp p.val) * 16000000000000 + s.dev.get (H.mtrExpR p.val) + v * i.natAbs < 2 ^ 72 →
      EndsDev (.meterSample p vraw iraw) s (fun e =>
        e.get (H.mtrImp p.val) * 16000000000000 + e.get (H.mtrImpR p.val) =
          s.dev.get (H.mtrImp p.val) * 16000000000000 + s.dev.get (H.mtrImpR p.val) + (if i < 0 then v * i.natAbs else 0) ∧
        e.get (H.mtrExp p.val) * 16000000000000 + e.get (H.mtrExpR p.val) =
          s.dev.get (H.mtrExp p.val) * 16000000000000 + s.dev.get (H.mtrExpR p.val) + (if 0 < i then v * i.natAbs else 0) ∧
        e.segq = s.dev.segq))

/-- The oldest unposted segment, 400 ticks after its close or later, is posted as the eight words of R387, behind every message of
an earlier tick and in its place among those of this one, where fewer than 4 stand posted, SEGCH has DST 9 and it has credit;
with another DST only REFUSED of the channel sets. The end of the settle sets SETTLED and opens a segment. Reads of the low
accumulator words, SEGSTT and LSEGW0 return them and latch their companions for the reader. After the RWL lock a write of a
calibration register changes nothing but what the wake by a host access does (R45); before it, with no segment open, it stores
the value, and a new value sets CALCHG. -/
def Obligations.MeterCommandsComplete : Prop :=
  (∀ (s : State) (p : Fin 24) (c : Nat) (g : Seg), c = s.dev.get F.MTR_CFG_SEGCH →
    (s.dev.segs p.val).find? (fun g => !g.posted) = some g → postedCount (s.dev.segs p.val) < 4 →
    g.tick + 400 ≤ s.dev.now →
    (s.dev.get (H.chDst c) = 9 → 0 < s.dev.hwCredit c →
      EndsDev (.segmentPost p) s (fun e =>
        e.chan c = (hwInsert ⟨g.words p.val, s.dev.now, false, false⟩ (s.dev.chan c).reverse).reverse ∧
        ((∀ x ∈ s.dev.chan c, x.enq < s.dev.now) → e.chan c = s.dev.chan c ++ [⟨g.words p.val, s.dev.now, false, false⟩]) ∧
        e.segs p.val = markPosted (s.dev.segs p.val) ∧ postedCount (e.segs p.val) = postedCount (s.dev.segs p.val) + 1 ∧
        (∀ k, k ≠ c → e.chan k = s.dev.chan k) ∧ OnlyFields s.dev e [H.chSent c])) ∧
    (s.dev.get (H.chDst c) ≠ 9 →
      EndsDev (.segmentPost p) s (fun e => e.get (H.chRefused c) = 1 ∧ OnlyRegs s.dev e [H.chRefused c]))) ∧
  (∀ (s : State) (p : Fin 24), s.dev.get (T.mtrSettle p.val) ≠ 0 →
    EndsDev (.meterSettleEnd p) s (fun e => e.get (F.MTR_STAT_SETTLED p.val) = 1 ∧ e.get (F.MTR_STAT_OPEN p.val) = 1 ∧
      e.get (T.mtrSettle p.val) = 0 ∧ e.get (H.mtrSegE0 p.val) = s.dev.epoch ∧ e.get (H.mtrSegT0 p.val) = s.dev.tb ∧
      e.segq = s.dev.segq)) ∧
  (∀ (s : State) (a : Agent) (p : Fin 24),
    EndsDev (.mtrAccRead a p false) s (fun e => e.get (H.rdata a.copy) = s.dev.impNow p.val % 2 ^ 36 ∧
      e.get (F.MTR_IMPH_HIGH p.val a.copy) = s.dev.impNow p.val / 2 ^ 36 % 2 ^ (F.MTR_IMPH_HIGH p.val a.copy).w ∧
      OnlyRegs (s.dev.touch a) e [H.rdata a.copy, F.MTR_IMPH_HIGH p.val a.copy]) ∧
    EndsDev (.mtrAccRead a p true) s (fun e => e.get (H.rdata a.copy) = s.dev.expNow p.val % 2 ^ 36 ∧
      e.get (F.MTR_EXPH_HIGH p.val a.copy) = s.dev.expNow p.val / 2 ^ 36 % 2 ^ (F.MTR_EXPH_HIGH p.val a.copy).w ∧
      OnlyRegs (s.dev.touch a) e [H.rdata a.copy, F.MTR_EXPH_HIGH p.val a.copy]) ∧
    EndsDev (.mtrSegsttRead a p) s (fun e => e.get (H.rdata a.copy) = s.dev.get (H.mtrSegT0 p.val) ∧
      e.get (F.MTR_SEGSTE_START p.val a.copy) = s.dev.get (H.mtrSegE0 p.val) ∧
      OnlyRegs (s.dev.touch a) e [H.rdata a.copy, F.MTR_SEGSTE_START p.val a.copy]) ∧
    EndsDev (.mtrLsegw0Read a p) s (fun e => e.get (H.rdata a.copy) = s.dev.get (F.MTR_LSEGW0_WORD0 p.val) ∧
      e.get (F.MTR_LSEGI_ENERGY p.val a.copy) = s.dev.get (H.mtrLI p.val) ∧
      e.get (F.MTR_LSEGE_ENERGY p.val a.copy) = s.dev.get (H.mtrLE p.val) ∧
      OnlyRegs (s.dev.touch a) e [H.rdata a.copy, F.MTR_LSEGI_ENERGY p.val a.copy, F.MTR_LSEGE_ENERGY p.val a.copy])) ∧
  (∀ (s : State) (a : Agent) (p : Fin 24) (k : Fin 4) (v : Word),
    (s.dev.get H.rwlLock = 1 → exec (.mtrCalWrite a p k v) s = .next (s.onDev (fun d => d.touch a))) ∧
    (s.dev.get H.rwlLock = 0 → s.dev.get (F.MTR_STAT_OPEN p.val) = 0 →
      EndsDev (.mtrCalWrite a p k v) s (fun e =>
        e.get (calFld p.val k.val) = v.toNat % 2 ^ (calFld p.val k.val).w ∧
        (v.toNat % 2 ^ (calFld p.val k.val).w ≠ s.dev.get (calFld p.val k.val) → e.get (F.MTR_EVT_CALCHG p.val) = 1))))

/-- With a block open, a page program running and the staging not full, LEDGER_TAKE_SEGMENT removes the oldest message of the
segment channel, whose segment is none of the last 8 of its port, stages one slot that passes R398 and holds the segment's
record and the first 7 bytes of the chain value, extends the chain by SHA-256 over the old value and the slot, counts NREC,
and drops the segment from its meter's queue. A block age that ends closes the block: trailer A in the signing queue, BSEQ one
higher, and, where a program runs, three slots staged. A signature leaves the signing queue and fills the two empty slots with
trailers B and C; SIGNING stays until a page holds them. An identity that completes is bytes 0 to 15 of the SHA-256 of the
record. A write of LGR_RELEASE in range starts the release, or joins the one that runs with the higher BSEQ (the model's
choice, log entry 136); any other sets RELBAD. -/
def Obligations.LedgerRecordsComplete : Prop :=
  (∀ (s : State) (c : Nat) (m : Msg) (rest : List Msg) (p : Nat) (g : Seg), c = s.dev.get F.MTR_CFG_SEGCH →
    s.dev.get H.lgrIdle = 0 → s.dev.get (H.chDst c) = 9 → s.dev.chan c = m :: rest →
    s.dev.stagedCount + 5 ≤ 512 → s.dev.get F.LGR_STAT_OPEN = 1 → s.dev.get H.progOn ≠ 0 →
    s.dev.get F.LGR_STAT_NREC + 1 < 16 → (p, g) = s.dev.segOfMsg (m.words.map (·.toNat)) →
    (tget [] s.dev.seen p).contains g.serial = false →
    EndsDev .ledgerTakeSegment s (fun e => (∃ l, e.chan c = rest ++ l ∧ (m.bad = false → l = [])) ∧
      (∃ body : List Nat, body = s.dev.segRecord p g ++ (beBytes 32 (s.dev.get H.lgrChain)).take 7 ∧
        e.staged = s.dev.staged ++ [⟨s.dev.now, slotOf body⟩] ∧
        e.get H.lgrChain = beNat (sha256 (beBytes 32 (s.dev.get H.lgrChain) ++ body)) % 2 ^ 256) ∧
      e.get F.LGR_STAT_NREC = s.dev.get F.LGR_STAT_NREC + 1 ∧
      e.segs p = (s.dev.segs p).filter (fun x => !(x.posted && x.serial == g.serial)))) ∧
  (∀ (s : State), s.dev.get T.blkAge ≠ 0 → s.dev.get F.LGR_STAT_OPEN = 1 →
    EndsDev .blockAgeExpiry s (fun e => e.get F.LGR_STAT_OPEN = 0 ∧ e.get T.blkAge = 0 ∧
      e.get F.LGR_BSEQ_BSEQ = (s.dev.get F.LGR_BSEQ_BSEQ + 1) % 2 ^ 32 ∧ e.get F.LGR_STAT_SIGNING = 1 ∧
      e.sigq = s.dev.sigq ++ [s.dev.trailerA 2 false] ∧
      (s.dev.get H.progOn ≠ 0 →
        e.staged = s.dev.staged ++ [⟨s.dev.now, slotOf (s.dev.trailerA 2 false)⟩, ⟨s.dev.now, []⟩, ⟨s.dev.now, []⟩]))) ∧
  (∀ (s : State) (a : List Nat) (rest : List (List Nat)), s.dev.sigq = a :: rest →
    EndsDev .blockSigned s (fun e => e.sigq = rest ∧ e.get F.LGR_STAT_SIGNING = s.dev.get F.LGR_STAT_SIGNING ∧
      (rest = [] → e.get T.sign = 0) ∧
      (s.dev.get H.progOn ≠ 0 → e.staged = fillSig
        (slotOf ([0x82, 0] ++ (a.drop 2).take 4 ++ beBytes 32 (ecdsaSign Config.devKey a).1 ++ List.replicate 22 0))
        (slotOf ([0x83, 0] ++ (a.drop 2).take 4 ++ beBytes 32 (ecdsaSign Config.devKey a).2 ++ List.replicate 22 0))
        s.dev.staged))) ∧
  (∀ (s : State) (p : Fin 24), s.dev.get (T.identity p.val) ≠ 0 → s.dev.get (F.MTR_STAT_OPEN p.val) = 0 →
    s.dev.segJust p.val = none →
    EndsDev (.identityEstablished p) s (fun e => e.get (H.idValid p.val) = 1 ∧ e.get (T.identity p.val) = 0 ∧
      e.get (H.idHash p.val) = beNat ((sha256 (tget [] s.dev.idrec p.val)).take 16) % 2 ^ 128 ∧
      OnlyRegs s.dev e [H.idValid p.val, H.idHash p.val, T.identity p.val])) ∧
  (∀ (s : State) (a : Agent) (v : Word),
    (a.isC0orHost = true ∧ s.dev.get F.LGR_TAILSEQ_BSEQ < bits v.toNat 0 32 ∧ bits v.toNat 0 32 ≤ s.dev.get F.LGR_BSEQ_BSEQ →
      EndsDev (.lgrRelease a v) s (fun e => 
        (s.dev.get T.relErase = 0 → e.get H.relB = bits v.toNat 0 32 ∧ e.get T.relErase = (s.dev.now + 64000000 + 1) % 2 ^ 64) ∧
        (s.dev.get T.relErase ≠ 0 → e.get H.relB = max (bits v.toNat 0 32) (s.dev.get H.relB) ∧
          e.get T.relErase = s.dev.get T.relErase))) ∧
    (¬(a.isC0orHost = true ∧ s.dev.get F.LGR_TAILSEQ_BSEQ < bits v.toNat 0 32 ∧
        bits v.toNat 0 32 ≤ s.dev.get F.LGR_BSEQ_BSEQ) →
      EndsDev (.lgrRelease a v) s (fun e => e.get F.LGR_EVT_RELBAD = 1 ∧
        ∀ f : Fld, f.quiet = true → f.key ≠ F.LGR_EVT_RELBAD.key → e.get f = s.dev.get f)))

/-- A slot built from 60 bytes whose first is not 0xFF carries the CRC-32 of bytes 0 to 59 in bytes 60 to 63 and reads as
committed, its first 60 bytes are the given ones, and a slot that reads as committed with any one other value in its commit
word does not. -/
def Obligations.SlotsCommit : Prop :=
  ∀ (body : List Nat), body.length = 60 → body.headD 255 ≠ 255 →
    slotCommitted (slotOf body) = true ∧ (slotOf body).take 60 = body ∧ (slotOf body).length = 64 ∧
    ∀ w, w < 2 ^ 32 → w ≠ crc32 body → slotCommitted (body ++ beBytes 4 w) = false

/-- A page program that succeeds, with nothing more staged, leaves the page holding the slots assembled for it and the Store not
BUSY, and a page with a trailer C sets BLOCK; one that fails retires the block and goes on. A commit limit that passes stops
its timer and wants every ready slot, and with no program running the program of the first page of them starts. A write of
STO_FMT with its key from C0 or the host on a blank Store makes it BUSY and starts the format; its end leaves every page
erased and the Store READY. A write of STO_RD starts the read of a page inside the partition, and for a page outside sets
RDERR; a read ends with RDDONE and, where it could be corrected, the page, erased bytes as 0xFF, in the read buffer; corrected
bits at the threshold set ECCHI, an uncorrectable read ECCFAIL. STO_LOGT stages one LOG entry, or with 256 staged sets
LOGDROP. LGR_CERTDAT returns four bytes and advances the pointer. The scan reports the chips found and sets SCANNED; an erase
for a release ends with TAILSEQ at B. -/
def Obligations.StoreCommandsComplete : Prop :=
  (∀ (s : State) (part : Nat), part = s.dev.get H.progOn → part ≠ 0 → s.dev.staged = [] → s.dev.logs = [] →
    EndsDev (.pageProgramDone true) s (fun e => e.page part (s.dev.get H.progPage) = s.dev.prog.flatMap id ∧
      e.get H.progOn = 0 ∧ e.get F.STO_STAT_BUSY = 0 ∧ e.prog = [] ∧
      (part = 5 → e.get F.LGR_STAT_SIGNING = b2n (!s.dev.sigq.isEmpty) ∧
        (s.dev.prog.any (fun b => b.headD 0 == 0x83) = true → e.get F.LGR_EVT_BLOCK = 1)))) ∧
  (∀ (s : State), s.dev.get H.progOn ≠ 0 →
    EndsDev (.pageProgramDone false) s (fun e => e.get F.STO_EVT_PGMFAIL = 1 ∧ e.get H.progOn = s.dev.get H.progOn ∧
      e.get F.STO_BADCNT_BAD = (s.dev.get F.STO_BADCNT_BAD + 1) % 2 ^ F.STO_BADCNT_BAD.w ∧ e.prog = s.dev.prog ∧
      e.nand = s.dev.nand)) ∧
  (∀ (s : State), s.dev.get T.commit ≠ 0 →
    (s.dev.get H.progOn ≠ 0 →
      EndsDev .commitDeadline s (fun e => e.get T.commit = 0 ∧ e.get H.logWant = 1 ∧
        e.get H.cmtWant = (readySlots s.dev.staged).length % 2 ^ 16 ∧ OnlyRegs s.dev e [T.commit, H.logWant, H.cmtWant])) ∧
    (s.dev.get H.progOn = 0 → s.dev.get F.STO_STAT_READY = 1 → s.dev.get H.lgrIdle = 0 → s.dev.get F.LGR_STAT_FULL = 0 →
      readySlots s.dev.staged ≠ [] → (readySlots s.dev.staged).length < 2 ^ 16 →
      ∀ (n : Nat), n = min s.dev.slotsPerPage (readySlots s.dev.staged).length →
      EndsDev .commitDeadline s (fun e => e.get T.commit = 0 ∧ e.get H.progOn = 5 ∧ e.get F.STO_STAT_BUSY = 1 ∧
        e.get H.progPage = s.dev.get F.LGR_HEAD_PAGES % 2 ^ H.progPage.w ∧
        e.prog = ((readySlots s.dev.staged).take n).map (·.bytes) ∧ e.staged = s.dev.staged.drop n ∧ e.nand = s.dev.nand))) ∧
  (∀ (s : State) (a : Agent) (v : Word), a.isC0orHost = true → bits v.toNat 0 8 = 0xC3 → s.dev.get F.STO_STAT_BLANK = 1 →
    s.dev.get T.fmt = 0 →
    EndsDev (.stoFmt a v) s (fun e => e.get F.STO_STAT_BUSY = 1 ∧ e.get T.fmt = (s.dev.now + 7680000000 + 1) % 2 ^ 64 ∧
      OnlyRegs (s.dev.touch a) e [F.STO_STAT_BUSY, T.fmt])) ∧
  (∀ (s : State), s.dev.get T.fmt ≠ 0 →
    EndsDev .formatDone s (fun e => e.nand = [] ∧ e.get F.STO_STAT_READY = 1 ∧ e.get F.STO_STAT_BLANK = 0 ∧
      e.get T.fmt = 0 ∧ e.get H.nandFmt = 1 ∧ (s.dev.staged = [] → s.dev.logs = [] → e.get F.STO_STAT_BUSY = 0))) ∧
  (∀ (s : State) (a : Agent) (v : Word), (a.isCore || a.isHost) = true → s.dev.get F.STO_STAT_RDBUSY = 0 →
    (bits v.toNat 0 32 < s.dev.partPages (bits v.toNat 32 4) →
      EndsDev (.stoRd a v) s (fun e => e.get F.STO_STAT_RDBUSY = 1 ∧ e.get H.rdPart = bits v.toNat 32 4 ∧
        e.get H.rdPage = bits v.toNat 0 32 ∧ OnlyRegs (s.dev.touch a) e [H.rdPart, H.rdPage, F.STO_STAT_RDBUSY, F.STO_STAT_RDERR])) ∧
    (s.dev.partPages (bits v.toNat 32 4) ≤ bits v.toNat 0 32 →
      EndsDev (.stoRd a v) s (fun e => e.get F.STO_STAT_RDERR = 1 ∧ OnlyRegs (s.dev.touch a) e [F.STO_STAT_RDERR]))) ∧
  (∀ (s : State), s.dev.get F.STO_STAT_RDBUSY = 1 →
    EndsDev (.pageReadDone 0) s (fun e => e.get F.STO_STAT_RDBUSY = 0 ∧ e.get F.STO_EVT_RDDONE = 1 ∧ e.nand = s.dev.nand ∧
      ∀ i, i < s.dev.get F.STO_GEOM_PAGE / 4 → e.stgRead (rdBase + i) =
        beNat (((s.dev.pageImage (s.dev.get H.rdPart) (s.dev.get H.rdPage)).drop (4 * i)).take 4)) ∧
    EndsDev (.pageReadDone 1) s (fun e => e.get F.STO_STAT_RDBUSY = 0 ∧ e.get F.STO_EVT_RDDONE = 1 ∧ e.nand = s.dev.nand ∧
      e.get F.STO_EVT_ECCHI = 1 ∧ ∀ i, i < s.dev.get F.STO_GEOM_PAGE / 4 → e.stgRead (rdBase + i) =
        beNat (((s.dev.pageImage (s.dev.get H.rdPart) (s.dev.get H.rdPage)).drop (4 * i)).take 4)) ∧
    EndsDev (.pageReadDone 2) s (fun e => e.get F.STO_STAT_RDBUSY = 0 ∧ e.get F.STO_EVT_RDDONE = 1 ∧ e.nand = s.dev.nand ∧
      e.get F.STO_EVT_ECCFAIL = 1)) ∧
  (∀ (s : State) (a : Agent) (v : Word), (a.isCore || a.isHost) = true → 0x80 ≤ bits v.toNat 0 8 → bits v.toNat 0 8 ≤ 0xFE →
    s.dev.get H.progOn ≠ 0 →
    (s.dev.logs.length < 256 →
      EndsDev (.stoLogt a v) s (fun e => ∃ g : LogEntry, e.logs = s.dev.logs ++ [g] ∧ g.typ = bits v.toNat 0 8 ∧
        g.source = a.copy ∧ g.epoch = s.dev.epoch ∧ g.tb = s.dev.tb)) ∧
    (256 ≤ s.dev.logs.length → EndsDev (.stoLogt a v) s (fun e => e.logs = s.dev.logs ∧ e.get F.STO_EVT_LOGDROP = 1))) ∧
  (∀ (s : State) (a : Agent),
    EndsDev (.certdatRead a) s (fun e => e.get (F.LGR_CERTPTR_PTR a.copy) =
        (s.dev.get (F.LGR_CERTPTR_PTR a.copy) + 1) % 2 ^ (F.LGR_CERTPTR_PTR a.copy).w ∧
      OnlyRegs (s.dev.touch a) e [F.LGR_CERTPTR_PTR a.copy, H.rdata a.copy])) ∧
  (∀ (s : State) (chips gib : Fin 3) (page4k good : Bool), s.dev.get F.STO_STAT_SCANNED = 0 →
    EndsDev (.recoveryScanEnd chips gib page4k good) s (fun e => e.get F.STO_STAT_SCANNED = 1 ∧ e.get F.LGR_STAT_SCANNED = 1 ∧
      e.get F.STO_STAT_CHIPS = chips.val ∧
      (e.get F.STO_STAT_READY = 1 ↔ good = true ∧ 1 ≤ gib.val ∧ 1 ≤ chips.val ∧ s.dev.get H.nandFmt = 1) ∧
      (e.get F.STO_STAT_FMTBAD = 1 ↔ 1 ≤ chips.val ∧ (good = false ∨ gib.val = 0)))) ∧
  (∀ (s : State), s.dev.get T.relErase ≠ 0 →
    EndsDev .releaseEraseDone s (fun e => e.get F.LGR_TAILSEQ_BSEQ = s.dev.get H.relB ∧ e.get F.LGR_EVT_RELDONE = 1 ∧
      e.get T.relErase = 0))

/-- With no L2 or L3 asserted, and no access of another agent noted on the tick: an SPI WRITE of words into shared SRAM stores
exactly these words; an SPI READ of shared SRAM without an error latches the word at its address now and leaves the next
address, due 94 ticks later or more, to be latched; an address of 2^22 and above sets SPIADDR and nothing else happens; a
transaction that ends inside a word sets SPIPART; STATUS and IDENT return their words; and an unknown command byte sets
SPICMD. A word written over TW0 goes to the word that the pointer selects, a word read returns it, both advance the pointer
modulo 256; an incomplete word sets PARTIAL, and an incomplete read word takes the advance back. With an L2 or L3 asserted
none of them has an effect. A write of a register stores the writable fields; of two writes of one retention word on one tick
the one that R30 puts last stands; an address without a register takes none, and a write of a Meridian register is kept to
commit a tick later. That a known command byte said to be unknown does what its command does is the model's choice (log entry
3). -/
def Obligations.HostAccessesComplete : Prop :=
  (∀ (s : State) (addr : BitVec 24) (ws : List Word) (part : Bool), s.dev.hostDown = false →
    (0x40000 ≤ addr.toNat → addr.toNat + ws.length ≤ 0x100000 → s.dev.notes = [] → s.dev.get H.spiReq = 0 →
      Ends (.spiWrite addr ws part) s (fun t =>
        (∀ i w, ws[i]? = some w → t.memRead (addr.toNat + i) = w) ∧
        (∀ k, (k < addr.toNat ∨ addr.toNat + ws.length ≤ k) → t.memRead k = s.memRead k) ∧
        (part = true → t.dev.get F.HOST_EVT_SPIPART = 1) ∧
        ∀ f : Fld, f.quiet = true → (∀ g ∈ [F.HOST_EVT_SPIPART, H.spiAt, H.hostXfer], f.key ≠ g.key) → t.dev.get f = s.dev.get f)) ∧
    (2 ^ 22 ≤ addr.toNat → ∀ more : Nat,
      EndsDev (.spiWrite addr ws part) s (fun e => e.get F.HOST_EVT_SPIADDR = 1 ∧
        ∀ f : Fld, f.quiet = true → f.key ≠ F.HOST_EVT_SPIADDR.key → f.key ≠ H.spiAt.key → e.get f = s.dev.get f) ∧
      EndsDev (.spiRead addr more part) s (fun e => e.get F.HOST_EVT_SPIADDR = 1 ∧
        ∀ f : Fld, f.quiet = true → f.key ≠ F.HOST_EVT_SPIADDR.key → f.key ≠ H.spiAt.key → e.get f = s.dev.get f))) ∧
  (∀ (s : State) (addr : BitVec 24) (more : Nat) (part : Bool) (w : Nat), s.dev.hostDown = false →
    0x40000 ≤ addr.toNat → addr.toNat < 0x100000 → s.bad.contains addr.toNat = false → s.dev.notes = [] →
    w = (s.memRead addr.toNat).toNat →
      EndsDev (.spiRead addr more part) s (fun e =>
        tget [] e.hist 210 = (if s.dev.spiGoesOn addr.toNat then tget [] s.dev.hist 210 else []) ++ [w] ∧
        e.get (H.rdata 6) = w ∧ (more = 0 → part = true → e.get F.HOST_EVT_SPIPART = 1) ∧
        (0 < more → e.get H.spiAddr = (addr.toNat + 1) % 2 ^ 22 ∧ e.get H.spiMore = (more - 1) % 2 ^ 32 ∧
          e.get H.spiPart = b2n part ∧ ∃ g, g < 2 ^ 16 ∧ e.get H.spiAt = (s.dev.now + 94 + g) % 2 ^ 64) ∧
        ∀ f : Fld, f.quiet = true → (∀ g ∈ [F.HOST_EVT_SPIPART, H.rdata 6, H.spiAt, H.spiAddr, H.spiMore, H.spiPart], f.key ≠ g.key) →
          e.get f = s.dev.get f)) ∧
  (∀ (s : State), s.dev.hostDown = false →
    EndsDev .spiStatus s (fun e => e.get (H.rdata 6) = s.dev.hostStat % 2 ^ 36 ∧
      ∀ f : Fld, f.quiet = true → f.key ≠ (H.rdata 6).key → f.key ≠ H.spiAt.key → e.get f = s.dev.get f) ∧
    EndsDev .spiIdent s (fun e => e.get (H.rdata 6) = 0x1246056B ∧
      ∀ f : Fld, f.quiet = true → f.key ≠ (H.rdata 6).key → f.key ≠ H.spiAt.key → e.get f = s.dev.get f) ∧
    (∀ code : BitVec 8, code ∉ [0x02, 0x0B, 0x05, 0x9F] →
      EndsDev (.spiUnknownCmd code) s (fun e => e.get F.HOST_EVT_SPICMD = 1 ∧ OnlyRegs s.dev e [F.HOST_EVT_SPICMD])) ∧
    exec (.spiUnknownCmd 0x05) s = exec .spiStatus s ∧ exec (.spiUnknownCmd 0x9F) s = exec .spiIdent s ∧
    exec (.spiUnknownCmd 0x02) s = .next (s.onDev (fun d => d.spiAccess)) ∧
    exec (.spiUnknownCmd 0x0B) s = .next (s.onDev (fun d => d.spiAccess))) ∧
  (∀ (s : State) (v : Word) (a : Nat), s.dev.hostDown = false → a = s.dev.windowAddr (s.dev.get (F.TW_STAT_PTR 0)) →
    0x40000 ≤ a → a < 0x100000 → s.bad = [] → s.dev.notes = [] → s.accessAhead .tw0 a = false →
      Ends (.tw0WordWrite v) s (fun t => t.memRead a = v ∧ (∀ k, k ≠ a → t.memRead k = s.memRead k) ∧
        t.dev.get (F.TW_STAT_PTR 0) = (s.dev.get (F.TW_STAT_PTR 0) + 1) % 256) ∧
      EndsDev .tw0WordRead s (fun e => e.get (H.rdata 7) = (s.memRead a).toNat ∧
        e.get (F.TW_STAT_PTR 0) = (s.dev.get (F.TW_STAT_PTR 0) + 1) % 256)) ∧
  (∀ (s : State) (v : BitVec 8), s.dev.hostDown = false →
    EndsDev (.tw0PointerWrite v) s (fun e => e.get (F.TW_STAT_PTR 0) = v.toNat ∧
      ∀ f : Fld, f.quiet = true → (∀ g ∈ [F.TW_STAT_PTR 0, F.TW_STAT_ROLE 0, F.TW_STAT_FREE 0], f.key ≠ g.key) → e.get f = s.dev.get f) ∧
    (s.dev.get H.twReq = 0 →
      EndsDev (.tw0PartialEnd true) s (fun e => e.get (F.TW_EVT_PARTIAL 0) = 1 ∧
        e.get (F.TW_STAT_PTR 0) = (s.dev.get (F.TW_STAT_PTR 0) + 255) % 256) ∧
      EndsDev (.tw0PartialEnd false) s (fun e => e.get (F.TW_EVT_PARTIAL 0) = 1 ∧
        e.get (F.TW_STAT_PTR 0) = s.dev.get (F.TW_STAT_PTR 0)))) ∧
  (∀ (s : State) (v : Word) (b : BitVec 8) (addr : BitVec 24) (ws : List Word) (part : Bool) (more : Nat) (a : Agent)
      (x : BitVec 22), s.dev.hostDown = true →
    exec (.spiWrite addr ws part) s = .next s ∧ exec (.spiRead addr more part) s = .next s ∧ exec .spiStatus s = .next s ∧
    exec .spiIdent s = .next s ∧ exec (.spiUnknownCmd b) s = .next s ∧ exec (.tw0WordWrite v) s = .next s ∧
    exec .tw0WordRead s = .next s ∧ exec (.tw0PointerWrite b) s = .next s ∧ exec (.tw0PartialEnd part) s = .next s ∧
    exec (.registerWrite a x v) s = .next s) ∧
  (∀ (s : State) (a : Agent) (addr : BitVec 22) (v : Word), s.dev.hostDown = false →
    (addr = 0x200060 → s.dev.notes = [] → s.writeAhead a 0x200060 (fun _ => true) = false →
      EndsDev (.registerWrite a addr v) s (fun e => e.get F.PIN_GPIO_OUT = bits v.toNat 0 8 ∧
        e.get F.PIN_GPIO_OE = bits v.toNat 8 8 ∧ OnlyRegsPads (s.dev.touch a) e [F.PIN_GPIO_OUT, F.PIN_GPIO_OE])) ∧
    (∀ i : Fin 16, addr.toNat = 0x200030 + i.val → s.dev.notes = [] →
      (s.writeAhead a addr.toNat (fun _ => true) = false →
        EndsDev (.registerWrite a addr v) s (fun e => e.get (F.SYS_BAK_RET_DATA i.val) = v.toNat ∧
          OnlyRegs (s.dev.touch a) e [F.SYS_BAK_RET_DATA i.val])) ∧
      (∀ (b : Agent) (w : Word) (t u : State), a.rank < b.rank →
        (exec (.registerWrite a addr v) { s with pending := [.registerWrite b addr w] } = .next t →
          exec (.registerWrite b addr w) { t with pending := [] } = .next u → u.dev.get (F.SYS_BAK_RET_DATA i.val) = w.toNat) ∧
        (exec (.registerWrite b addr w) { s with pending := [.registerWrite a addr v] } = .next t →
          exec (.registerWrite a addr v) { t with pending := [] } = .next u → u.dev.get (F.SYS_BAK_RET_DATA i.val) = w.toNat))) ∧
    (isReg (unalias a addr.toNat) = false → lateWrite addr.toNat = false →
      exec (.registerWrite a addr v) s = .next (s.onDev (fun d => d.touch a))) ∧
    (lateWrite addr.toNat = true →
      exec (.registerWrite a addr v) s = .next (s.onDev (fun d => (d.touch a).commitLater a addr.toNat v.toNat))))

/-- The host's write of HOST_MBX1 that finds INFULL 0, with no other host's write of it before on the tick, stores the word and
sets INFULL, and otherwise only sets INOVR; a core's write of HOST_MBX3 that finds OUTFULL 0, or finds it 1 with the host's
clear of the same tick still to come, stores it and sets OUTFULL, and otherwise only sets OUTOVR; a write from the wrong side
changes nothing but what the wake by a host access does. A core clears INFULL; the host clears OUTFULL, unless a core has set
it on the tick, after the clear (R543). -/
def Obligations.MailboxesComplete : Prop :=
  ∀ (s : State) (a : Agent) (v : Word),
    (a.isHost = true → s.dev.get H.inClrAt ≠ s.dev.now + 1 → s.dev.get F.HOST_EVT_INFULL = 0 →
      s.writeAhead a 0x200C03 (fun _ => true) = false →
      EndsDev (.mbxInWrite a v) s (fun e => e.get (F.HOST_MBX_DATA 1) = v.toNat ∧ e.get F.HOST_EVT_INFULL = 1 ∧
        ∀ f : Fld, f.quiet = true → f.key ≠ (F.HOST_MBX_DATA 1).key → f.key ≠ F.HOST_EVT_INFULL.key → e.get f = s.dev.get f)) ∧
    (a.isHost = true → (s.dev.inFound = true ∨ s.writeAhead a 0x200C03 (fun _ => true) = true) →
      EndsDev (.mbxInWrite a v) s (fun e => e.get F.HOST_EVT_INOVR = 1 ∧ OnlyRegs (s.dev.touch a) e [F.HOST_EVT_INOVR])) ∧
    (a.isHost = false → exec (.mbxInWrite a v) s = .next s) ∧
    (a.isCore = true → s.writeAhead a 0x200C06 (fun w => w.testBit 1) = false →
      (s.dev.get F.HOST_EVT_OUTFULL = 0 → s.writeAhead a 0x200C05 (fun _ => true) = false →
        EndsDev (.mbxOutWrite a v) s (fun e => e.get (F.HOST_MBX_DATA 3) = v.toNat ∧ e.get F.HOST_EVT_OUTFULL = 1 ∧
          OnlyRegs s.dev e [F.HOST_MBX_DATA 3, F.HOST_EVT_OUTFULL])) ∧
      (s.dev.get F.HOST_EVT_OUTFULL = 1 ∨ s.writeAhead a 0x200C05 (fun _ => true) = true →
        EndsDev (.mbxOutWrite a v) s (fun e => e.get F.HOST_EVT_OUTOVR = 1 ∧ OnlyRegs s.dev e [F.HOST_EVT_OUTOVR]))) ∧
    (a.isCore = true → s.writeAhead a 0x200C06 (fun w => w.testBit 1) = true → s.dev.get F.HOST_EVT_OUTFULL = 1 →
      s.dev.marked F.HOST_EVT_OUTFULL 0 = false → s.writeAhead a 0x200C05 (fun _ => true) = false →
      EndsDev (.mbxOutWrite a v) s (fun e => e.get (F.HOST_MBX_DATA 3) = v.toNat ∧ e.get F.HOST_EVT_OUTFULL = 1 ∧
        ∀ f : Fld, f.quiet = true → f.key ≠ (F.HOST_MBX_DATA 3).key → f.key ≠ F.HOST_EVT_OUTFULL.key → e.get f = s.dev.get f)) ∧
    (a.isCore = false → exec (.mbxOutWrite a v) s = .next (s.onDev (fun d => d.touch a))) ∧
    (a.isCore = true →
      EndsDev (.infullClear a) s (fun e => e.get F.HOST_EVT_INFULL = 0 ∧
        OnlyRegs s.dev e [F.HOST_EVT_INFULL, H.inClrWas, H.inClrAt])) ∧
    (a.isHost = true → s.dev.marked F.HOST_EVT_OUTFULL 0 = false →
      EndsDev (.outfullClear a) s (fun e => e.get F.HOST_EVT_OUTFULL = 0 ∧
        ∀ f : Fld, f.quiet = true → f.key ≠ F.HOST_EVT_OUTFULL.key → e.get f = s.dev.get f)) ∧
    (a.isHost = true → s.dev.marked F.HOST_EVT_OUTFULL 0 = true →
      EndsDev (.outfullClear a) s (fun e => ∀ f : Fld, f.quiet = true → e.get f = s.dev.get f))

/-- Outside Tinder a write of RST_CORE_EN by C0 with bit i set, for a core i of 1 to 5 that is not enabled, starts the core:
running, P at its loader entry, A, X and Y 0 and its return stack empty; a core whose bit is not set, or that is enabled
already, keeps its state and P; from another agent the write changes nothing but what the wake by a host access does. A kick
with 0xA5 by a monitored core that runs, waits or stands stopped by a double fault reloads its counter to PERIOD; a kick with
another value, or by no core, changes nothing but that. RST_WDT_CTRL takes LOCK, MASK and PERIOD while LOCK is 0, and ignores
the write while LOCK is 1 or with PERIOD 0. -/
def Obligations.CoresAndWatchdogComplete : Prop :=
  (∀ (s : State) (a : Agent) (v : Word),
    (a.isC0 = true → s.dev.mode ≠ 4 →
      EndsDev (.coreStart a v) s (fun e => ∀ n : Fin 6, n.val ≠ 0 →
        (v.toNat.testBit n.val = true → s.dev.getBit F.RST_CORE_EN_EN (n.val - 1) = false →
          e.coreState n.val = 1 ∧ e.pcOf n.val = s.dev.get (H.coreEntry n.val) ∧ e.accA n.val = 0 ∧ e.idxX n.val = 0 ∧
          e.idxY n.val = 0 ∧ e.rstack n.val = [] ∧ e.getBit F.RST_CORE_EN_EN (n.val - 1) = true) ∧
        ((v.toNat.testBit n.val = false ∨ s.dev.getBit F.RST_CORE_EN_EN (n.val - 1) = true) →
          e.coreState n.val = s.dev.coreState n.val ∧ e.pcOf n.val = s.dev.pcOf n.val ∧
          e.getBit F.RST_CORE_EN_EN (n.val - 1) = s.dev.getBit F.RST_CORE_EN_EN (n.val - 1)))) ∧
    (a.isC0 = false ∨ s.dev.mode = 4 → exec (.coreStart a v) s = .next (s.onDev (fun d => d.touch a)))) ∧
  (∀ (s : State) (n : Fin 6) (a : Agent) (key : BitVec 8),
    (s.dev.getBit F.RST_WDT_CTRL_MASK n.val = true →
      (s.dev.coreState n.val = 1 ∨ s.dev.coreState n.val = 2 ∨ s.dev.coreState n.val = 5) →
      EndsDev (.wdtKick (.core n) 0xA5) s (fun e =>
        e.get (T.wdt n.val) = (s.dev.now + msTicks (s.dev.get F.RST_WDT_CTRL_PERIOD) + 1) % 2 ^ 64 ∧
        OnlyRegs s.dev e [T.wdt n.val])) ∧
    (key ≠ 0xA5 ∨ a.isCore = false → exec (.wdtKick a key) s = .next (s.onDev (fun d => d.touch a)))) ∧
  (∀ (s : State) (v : Word),
    (s.dev.get F.RST_WDT_CTRL_LOCK = 0 → bits v.toNat 0 12 ≠ 0 →
      EndsDev (.wdtCtrlWrite v) s (fun e => e.get F.RST_WDT_CTRL_PERIOD = bits v.toNat 0 12 ∧
        e.get F.RST_WDT_CTRL_MASK = bits v.toNat 16 6 ∧ e.get F.RST_WDT_CTRL_LOCK = bits v.toNat 35 1 ∧
        OnlyRegs s.dev e [F.RST_WDT_CTRL_PERIOD, F.RST_WDT_CTRL_MASK, F.RST_WDT_CTRL_LOCK, T.wdt 0, T.wdt 1, T.wdt 2,
          T.wdt 3, T.wdt 4, T.wdt 5])) ∧
    (s.dev.get F.RST_WDT_CTRL_LOCK = 1 ∨ bits v.toNat 0 12 = 0 → exec (.wdtCtrlWrite v) s = .next s))

/-- A write of TWn_MCMD that is legal, with no transfer waiting and the bus not stuck, is accepted: RESULT 1 in the writer's latch
and BUSY; otherwise RESULT is 9, 10 or 11 in that order. A host call starts from a core with GO while none is open. On a free
bus that is idle a start takes a record read first, then the TWn_MCMD transfer, then the host call. The end of a TWn_MCMD
transfer gives RESULT 2 to 4, NBYTE, the bytes received and MDONE, of a host call STATE 3 or 4 and CALLDONE. With an L2 or L3
asserted no event of the bus has an effect. A lost arbitration counts in ARBCNT and sets ARBLOST, and the request stays while
the losses do not exceed ARBMAX, and else ends with RESULT 5; a misplaced condition as controller counts in ERRCNT and ends
the transfer with RESULT 6; as target it is recorded with KIND 3. A target transfer of TW1 to TW3 that moved bytes leaves them
in SRX with SRXN. A bus that becomes free shows FREE, unless the block is controller on it or recovers it. -/
def Obligations.TwoWireTransfersComplete : Prop :=
  (∀ (s : State) (n : Fin 4) (a : Agent) (v : Word),
    (a = .tap → exec (.twMcmd n a v) s = .next s) ∧
    (a ≠ .tap →
      let bad := 8 < bits v.toNat 20 4 ∨ 8 < bits v.toNat 16 4 ∨ twReserved (bits v.toNat 0 7) = true ∨
        (s.dev.twOwnEn n.val = true ∧ bits v.toNat 0 7 = s.dev.twOwnAddr n.val)
      (bad → EndsDev (.twMcmd n a v) s (fun e => e.get (F.TW_MRES_RESULT n.val a.copy) = 9 ∧
        OnlyRegs (s.dev.touch a) e [F.TW_MRES_RESULT n.val a.copy, F.TW_MRES_NBYTE n.val a.copy])) ∧
      (¬bad → s.dev.get (H.twMcmd n.val) = 1 → EndsDev (.twMcmd n a v) s (fun e =>
        e.get (F.TW_MRES_RESULT n.val a.copy) = 10 ∧
        OnlyRegs (s.dev.touch a) e [F.TW_MRES_RESULT n.val a.copy, F.TW_MRES_NBYTE n.val a.copy])) ∧
      (¬bad → s.dev.get (H.twMcmd n.val) = 0 → s.dev.get (F.TW_STAT_STUCK n.val) = 1 → EndsDev (.twMcmd n a v) s (fun e =>
        e.get (F.TW_MRES_RESULT n.val a.copy) = 11 ∧
        OnlyRegs (s.dev.touch a) e [F.TW_MRES_RESULT n.val a.copy, F.TW_MRES_NBYTE n.val a.copy])) ∧
      (¬bad → s.dev.get (H.twMcmd n.val) = 0 → s.dev.get (F.TW_STAT_STUCK n.val) = 0 → EndsDev (.twMcmd n a v) s (fun e =>
        e.get (F.TW_MRES_RESULT n.val a.copy) = 1 ∧ e.get (H.twMcmd n.val) = 1 ∧ e.get (H.twWho n.val) = a.copy ∧
        e.get (F.TW_STAT_BUSY n.val) = 1 ∧ e.get (T.twStart n.val) = (s.dev.now + 1) % 2 ^ 64 ∧
        OnlyRegs (s.dev.touch a) e [F.TW_MRES_RESULT n.val a.copy, F.TW_MRES_NBYTE n.val a.copy, H.twMcmd n.val, H.twWho n.val,
          H.twLen n.val, H.twAddr n.val, H.twTx n.val, F.TW_STAT_BUSY n.val, T.twStart n.val])))) ∧
  (∀ (s : State) (a : Agent) (v : Word),
    (a.isCore = true → v.toNat.testBit 7 = true → s.dev.callOpen = false →
      EndsDev (.hostCall a v) s (fun e => e.get F.HOST_CALL_STATE = 1 ∧ e.get F.HOST_CALL_CODE = bits v.toNat 12 8 ∧
        e.get F.HOST_CALL_HADDR = bits v.toNat 0 7 ∧ e.get (F.TW_STAT_BUSY 0) = 1)) ∧
    (a.isCore = false → exec (.hostCall a v) s = .next (s.onDev (fun d => d.touch a)))) ∧
  (∀ (s : State) (n : Fin 4), s.dev.hostDown = false → s.dev.get (F.TW_STAT_FREE n.val) = 1 → s.dev.get (F.TW_STAT_ROLE n.val) = 0 →
    s.dev.get (F.TW_STAT_RECOV n.val) = 0 → s.dev.get (F.TW_STAT_STUCK n.val) = 0 →
    (∀ q, s.dev.scanNext n.val = some q → EndsDev (.twControllerStart n) s (fun e => e.get (H.twOp n.val) = 1 ∧
      e.get (H.gzScan q) = 2 ∧ e.get (F.TW_STAT_ROLE n.val) = 1 ∧ e.get (F.TW_STAT_FREE n.val) = 0)) ∧
    (s.dev.scanNext n.val = none → s.dev.get (H.twMcmd n.val) = 1 → EndsDev (.twControllerStart n) s (fun e =>
      e.get (H.twOp n.val) = 2 ∧ e.get (F.TW_STAT_ROLE n.val) = 1 ∧ e.get (F.TW_STAT_FREE n.val) = 0)) ∧
    (n = 0 → s.dev.get (H.twMcmd 0) = 0 → s.dev.get F.HOST_CALL_STATE = 1 → EndsDev (.twControllerStart n) s (fun e =>
      e.get (H.twOp 0) = 3 ∧ e.get F.HOST_CALL_STATE = 2 ∧ e.get (F.TW_STAT_ROLE 0) = 1))) ∧
  (∀ (s : State) (n : Fin 4) (outcome : Fin 3) (nbyte : BitVec 4) (rx : BitVec 64) (len k : Nat), s.dev.hostDown = false →
    len = s.dev.get (H.twLen n.val) / 16 → k = len + s.dev.get (H.twLen n.val) % 16 →
    (s.dev.get (H.twOp n.val) = 2 → EndsDev (.twTransferEnd n outcome nbyte rx) s (fun e =>
      e.get (F.TW_MRES_RESULT n.val (s.dev.get (H.twWho n.val))) = outcome.val + 2 ∧
      e.get (F.TW_MRES_NBYTE n.val (s.dev.get (H.twWho n.val))) =
        (if outcome.val = 0 then k else min nbyte.toNat k) % 16 ∧
      (outcome.val = 0 → 0 < len → len ≤ 8 → e.get (F.TW_MDAT0_DATA n.val (s.dev.get (H.twWho n.val))) * 2 ^ 32 +
        e.get (F.TW_MDAT1_DATA n.val (s.dev.get (H.twWho n.val))) = rx.toNat / 256 ^ (8 - len) * 256 ^ (8 - len)) ∧ e.get (F.TW_EVT_MDONE n.val) = 1 ∧
      e.get (H.twMcmd n.val) = 0 ∧ e.get (H.twOp n.val) = 0 ∧ e.get (F.TW_STAT_ROLE n.val) = 0 ∧
      (outcome.val ≠ 0 → e.get (F.TW_EVT_NACK n.val) = 1))) ∧
    (s.dev.get (H.twOp n.val) = 3 → EndsDev (.twTransferEnd n outcome nbyte rx) s (fun e =>
      e.get F.HOST_CALL_STATE = (if outcome.val = 0 then 3 else 4) ∧ e.get (F.TW_EVT_CALLDONE 0) = 1 ∧
      e.get (H.twOp n.val) = 0))) ∧
  (∀ (s : State) (n : Fin 4) (own : Bool), s.dev.hostDown = false → s.dev.get (H.twOp n.val) = 2 →
    (s.dev.get (H.twArb n.val) + 1 ≤ s.dev.get (H.twArbMax n.val) →
    EndsDev (.arbLost n own) s (fun e => e.get (F.TW_EVT_ARBLOST n.val) = 1 ∧
      e.get (F.TW_CNT_ARBCNT n.val) = (s.dev.get (F.TW_CNT_ARBCNT n.val) + 1) % 2 ^ 12 ∧
      e.get (H.twOp n.val) = 0 ∧ e.get (H.twMcmd n.val) = s.dev.get (H.twMcmd n.val) ∧
      (own = true → s.dev.twOwnEn n.val = true → e.get (F.TW_STAT_ROLE n.val) = 2 ∧ e.get (F.TW_EVT_ROLESW n.val) = 1) ∧
      (own = false → e.get (F.TW_STAT_ROLE n.val) = 0))) ∧
    (s.dev.get (H.twArbMax n.val) ≤ s.dev.get (H.twArb n.val) → s.dev.get (H.twArb n.val) < 31 →
      EndsDev (.arbLost n own) s (fun e => e.get (F.TW_EVT_ARBLOST n.val) = 1 ∧ e.get (F.TW_EVT_MDONE n.val) = 1 ∧
        e.get (F.TW_MRES_RESULT n.val (s.dev.get (H.twWho n.val))) = 5 ∧ e.get (H.twMcmd n.val) = 0 ∧
        e.get (H.twOp n.val) = 0))) ∧
  (∀ (s : State) (n : Fin 4) (ack : Bool) (bit : Fin 9) (byte addr : BitVec 7), s.dev.hostDown = false →
    s.dev.get (H.twOp n.val) = 2 →
    EndsDev (.twBusError n ack bit byte addr) s (fun e => e.get (F.TW_EVT_BUSERR n.val) = 1 ∧
      e.get (F.TW_CNT_ERRCNT n.val) = (s.dev.get (F.TW_CNT_ERRCNT n.val) + 1) % 2 ^ 12 ∧
      e.get (F.TW_ERR_KIND n.val) = (if ack then 1 else 2) ∧ e.get (F.TW_ERR_BIT n.val) = bit.val ∧
      e.get (F.TW_ERR_BYTE n.val) = byte.toNat ∧ e.get (F.TW_ERR_ADDR n.val) = addr.toNat ∧
      e.get (F.TW_MRES_RESULT n.val (s.dev.get (H.twWho n.val))) = 6 ∧ e.get (H.twOp n.val) = 0 ∧
      e.get (F.TW_STAT_ROLE n.val) = 0)) ∧
  (∀ (s : State) (n : Fin 4) (inWord read : Bool) (bit : Fin 9) (byte addr : BitVec 7) (count : Fin 9) (data : BitVec 64),
    s.dev.hostDown = false → (n = 0 → s.dev.get H.twReq = 0) →
    EndsDev (.twTargetMisplaced n inWord read bit byte addr count data) s (fun e => e.get (F.TW_ERR_KIND n.val) = 3 ∧
      e.get (F.TW_ERR_ROLE n.val) = 2 ∧ e.get (F.TW_ERR_BIT n.val) = bit.val ∧ e.get (F.TW_ERRTB_TB n.val) = s.dev.tb ∧
      e.get (F.TW_STAT_ROLE n.val) = 0) ∧
    (n ≠ 0 → count ≠ 0 → s.dev.twOwnEn n.val = true →
      EndsDev (.twTargetTransferEnd n count data) s (fun e => e.get (F.TW_STAT_SRXN n.val) = count.val ∧
        e.get (F.TW_EVT_SRX n.val) = 1 ∧ e.get (F.TW_STAT_ROLE n.val) = 0 ∧
        e.get (F.TW_SRX0_DATA n.val) * 2 ^ 32 + e.get (F.TW_SRX1_DATA n.val) =
          data.toNat / 256 ^ (8 - count.val) * 256 ^ (8 - count.val) ∧
        (s.dev.get (F.TW_EVT_SRX n.val) = 1 → e.get (F.TW_EVT_SRXOVR n.val) = 1)))) ∧
  (∀ (s : State) (n : Fin 4), s.dev.hostDown = false → (n = 0 → s.dev.get H.twReq = 0) →
    (s.dev.get (F.TW_STAT_ROLE n.val) ≠ 1 → s.dev.get (F.TW_STAT_RECOV n.val) = 0 →
      EndsDev (.busFree n) s (fun e => e.get (F.TW_STAT_FREE n.val) = 1 ∧ e.get (F.TW_STAT_SCL n.val) = 1 ∧
        e.get (F.TW_STAT_SDA n.val) = 1 ∧ (s.dev.get (T.twRetry n.val) ≠ 0 → e.get (H.twPulse n.val) = 0 ∧
          e.get (T.twRetry n.val) = 0) ∧
        (s.dev.get (T.twRetry n.val) = 0 → OnlyRegs s.dev e [F.TW_STAT_FREE n.val, F.TW_STAT_SCL n.val, F.TW_STAT_SDA n.val,
          F.TW_STAT_ROLE n.val, H.twCfg n.val, F.TW_STAT_BUSY n.val, T.twStart n.val]))) ∧
    (s.dev.get (F.TW_STAT_ROLE n.val) = 1 ∨ s.dev.get (F.TW_STAT_RECOV n.val) = 1 → exec (.busFree n) s = .next s)) ∧
  (∀ (s : State) (n : Fin 4) (own ack inWord read : Bool) (outcome : Fin 3) (nbyte : BitVec 4) (rx data : BitVec 64)
      (bit count : Fin 9) (byte addr : BitVec 7), s.dev.hostDown = true →
    exec (.twControllerStart n) s = .next s ∧ exec (.twTransferEnd n outcome nbyte rx) s = .next s ∧
    exec (.arbLost n own) s = .next s ∧ exec (.twBusError n ack bit byte addr) s = .next s ∧
    exec (.twTargetMisplaced n inWord read bit byte addr count data) s = .next s ∧
    exec (.twTargetTransferEnd n count data) s = .next s ∧ exec (.busFree n) s = .next s)

/-- With SCLTO set, no recovery in progress and the block engaged on the bus, SCL low for its time sets SCLTO and on TW1 to TW3
begins a BRSTn pulse, on TW0 leaves the bus stuck; where the block itself holds SCL it starts nothing. SDA low sets SDATO and
begins a nine-pulse recovery. Nine pulses that free the bus, after the first at the earliest, count in RECCNT and set RECOVER;
ones that do not begin a BRSTn pulse. After a BRSTn pulse that frees the bus it shows FREE; otherwise a further pulse follows
1 s after the start of this one, until the third leaves it stuck with KIND 6. TWn_CTRL.RECOVER clears STUCK and begins a
recovery. -/
def Obligations.TwoWireRecoveryCompletes : Prop :=
  (∀ (s : State) (n : Fin 4) (self inWord read : Bool) (bit : Fin 9) (byte addr : BitVec 7),
    s.dev.hostDown = false → (n = 0 → s.dev.get H.twReq = 0) →
    s.dev.get (F.TW_STAT_RECOV n.val) = 0 → s.dev.get (F.TW_STAT_STUCK n.val) = 0 →
    (s.dev.get (F.TW_TOUT_SCLTO n.val) ≠ 0 → s.dev.twEngaged n.val = true →
      EndsDev (.sclTimeout n self inWord read bit byte addr) s (fun e => e.get (F.TW_EVT_SCLTO n.val) = 1 ∧
        e.get (F.TW_ERR_KIND n.val) = 4 ∧ e.get (H.twOp n.val) = 0 ∧
        (self = false → n ≠ 0 → e.get (H.twBrst n.val) = 1 ∧ e.get (F.TW_STAT_RECOV n.val) = 1 ∧
          e.get (F.TW_STAT_ROLE n.val) = 3) ∧
        (self = false → n = 0 → e.get (F.TW_STAT_STUCK 0) = 1 ∧ e.get (F.TW_STAT_RECOV 0) = 0) ∧
        (self = true → e.get (F.TW_STAT_RECOV n.val) = 0 ∧ e.get (F.TW_STAT_STUCK n.val) = 0))) ∧
    (s.dev.get (F.TW_TOUT_SDATO n.val) ≠ 0 →
      EndsDev (.sdaTimeout n inWord read bit byte addr) s (fun e => e.get (F.TW_EVT_SDATO n.val) = 1 ∧
        e.get (F.TW_ERR_KIND n.val) = 5 ∧ e.get (H.twOp n.val) = 0 ∧ e.get (H.twNine n.val) = 1 ∧
        e.get (F.TW_STAT_RECOV n.val) = 1 ∧ e.get (F.TW_STAT_ROLE n.val) = 3 ∧ e.get (F.TW_STAT_FREE n.val) = 0))) ∧
  (∀ (s : State) (n : Fin 4), s.dev.hostDown = false → s.dev.get (H.twNine n.val) = 1 →
    (s.dev.get (H.twNineAt n.val) + s.dev.pulseTicks n.val 1 ≤ s.dev.now → EndsDev (.ninePulseRecoveryEnd n true) s (fun e => e.get (H.twNine n.val) = 0 ∧ e.get (F.TW_STAT_RECOV n.val) = 0 ∧
      e.get (F.TW_CNT_RECCNT n.val) = (s.dev.get (F.TW_CNT_RECCNT n.val) + 1) % 2 ^ 12 ∧ e.get (F.TW_EVT_RECOVER n.val) = 1)) ∧
    (s.dev.get (H.twNineAt n.val) + s.dev.pulseTicks n.val 9 ≤ s.dev.now → n ≠ 0 → EndsDev (.ninePulseRecoveryEnd n false) s (fun e => e.get (H.twNine n.val) = 0 ∧ e.get (H.twBrst n.val) = 1 ∧
      e.get (F.TW_STAT_RECOV n.val) = 1)) ∧
    (s.dev.get (H.twNineAt n.val) + s.dev.pulseTicks n.val 9 ≤ s.dev.now → n = 0 → EndsDev (.ninePulseRecoveryEnd n false) s (fun e => e.get (H.twNine n.val) = 0 ∧
      e.get (F.TW_STAT_STUCK n.val) = 1))) ∧
  (∀ (s : State) (n : Fin 4), s.dev.hostDown = false → s.dev.get (H.twBrst n.val) = 1 →
    s.dev.get (H.twBrstAt n.val) + msTicks (s.dev.get (H.twBrstW n.val) + 5) ≤ s.dev.now →
    (s.dev.get (H.twBrstAt n.val) + msTicks (s.dev.get (H.twBrstW n.val) + 5) + 6400 ≤ s.dev.now →
      EndsDev (.brstPulseEnd n true) s (fun e => e.get (H.twBrst n.val) = 0 ∧ e.get (F.TW_STAT_RECOV n.val) = 0 ∧
      e.get (F.TW_EVT_BRST n.val) = 1 ∧ e.get (F.TW_STAT_FREE n.val) = 1 ∧ e.get (H.twPulse n.val) = 0)) ∧
    (s.dev.get (H.twPulse n.val) < 3 → EndsDev (.brstPulseEnd n false) s (fun e => e.get (H.twBrst n.val) = 0 ∧
      e.get (F.TW_EVT_BRST n.val) = 1 ∧ e.get (T.twRetry n.val) =
        max (s.dev.now + 1) (s.dev.get (H.twBrstAt n.val) + 64000001) % 2 ^ 64)) ∧
    (s.dev.get (H.twPulse n.val) = 3 → EndsDev (.brstPulseEnd n false) s (fun e => e.get (F.TW_STAT_STUCK n.val) = 1 ∧
      e.get (F.TW_ERR_KIND n.val) = 6 ∧ e.get (H.twPulse n.val) = 0))) ∧
  (∀ (s : State) (n : Fin 4), s.dev.hostDown = false → n ≠ 0 → s.dev.get (T.twRetry n.val) ≠ 0 →
    EndsDev (.brstRetryExpiry n) s (fun e => e.get (H.twBrst n.val) = 1 ∧ e.get (F.TW_STAT_RECOV n.val) = 1 ∧
      e.get (H.twPulse n.val) = (s.dev.get (H.twPulse n.val) + 1) % 4 ∧ e.get (T.twRetry n.val) = 0)) ∧
  (∀ (s : State) (n : Fin 4) (v : Word), twCtrlOk v.toNat = true → v.toNat.testBit 24 = true →
    s.dev.get (F.TW_STAT_RECOV n.val) = 0 →
    EndsDev (.twRecover n v) s (fun e => e.get (F.TW_STAT_STUCK n.val) = 0 ∧ e.get (H.twNine n.val) = 1 ∧
      e.get (F.TW_STAT_RECOV n.val) = 1 ∧ e.get (F.TW_CTRL_ARBMAX n.val) = bits v.toNat 20 4))

/-- A read that is not acknowledged sets NACK and, up to the second retry, leaves LAST 2 and a retry 10 ms later; a record whose
CRC or form is wrong leaves LAST 3 or 4. A valid record of a quad without a bound board, whose ports software keeps Disabled,
is bound and in force: BTYPE, FITTED and the serial are its own, LAST is 1, each fitted port takes its limits and shunt, and
cause 1 of DISWHY clears. A retry and a probe that fall due want a new read; SYS_GZ_CTRL.RESCAN wants one, and ACCEPT, with no
read of the quad to end on its tick, binds the record that a mismatch left pending. -/
def Obligations.GazetteerCommandsComplete : Prop :=
  (∀ (s : State) (q : Fin 6) (r : List (BitVec 8)) (l : List Nat), s.dev.hostDown = false →
    s.dev.get (H.gzScan q.val) = 2 → l = recBytes (r.map (fun b => b.toNat)) →
    (s.dev.get (H.gzTry q.val) < 2 →
      EndsDev (.gzReadEnd q true r) s (fun e => e.get (F.SYS_GZQ_STAT_LAST q.val) = 2 ∧ e.get (H.gzScan q.val) = 1 ∧
        e.get (H.gzTry q.val) = s.dev.get (H.gzTry q.val) + 1 ∧ e.get (F.TW_EVT_NACK (quadBus q.val)) = 1 ∧
        e.get (T.gzRetry q.val) = (s.dev.now + 640001) % 2 ^ 64) ∧
      (recCrcOk l = false →
        EndsDev (.gzReadEnd q false r) s (fun e => e.get (F.SYS_GZQ_STAT_LAST q.val) = 3 ∧ e.get (H.gzScan q.val) = 1 ∧
          e.get (H.gzTry q.val) = s.dev.get (H.gzTry q.val) + 1)) ∧
      (recCrcOk l = true → recFormOk l = false →
        EndsDev (.gzReadEnd q false r) s (fun e => e.get (F.SYS_GZQ_STAT_LAST q.val) = 4 ∧ e.get (H.gzScan q.val) = 1 ∧
          e.get (H.gzTry q.val) = s.dev.get (H.gzTry q.val) + 1))) ∧
    (recCrcOk l = true → recFormOk l = true →
      s.dev.get (F.SYS_GZQ_STAT_BOUND q.val) = 0 → s.dev.get (H.gzAgain q.val) = 0 →
      (∀ k : Fin 4, s.dev.att (4 * q.val + k.val) = 0 ∧ s.dev.getBit (F.PRT_ATT_STAT_DISWHY (4 * q.val + k.val)) 0 = true ∧
        s.dev.get (H.dis1Held (4 * q.val + k.val)) = 0) →
      EndsDev (.gzReadEnd q false r) s (fun e => e.get (F.SYS_GZQ_STAT_LAST q.val) = 1 ∧
        e.get (F.SYS_GZQ_STAT_BOUND q.val) = 1 ∧ e.get (F.SYS_GZQ_STAT_BTYPE q.val) = recBtype l ∧
        e.get (F.SYS_GZQ_STAT_FITTED q.val) = recFitted l ∧ e.get (F.SYS_GZQ_SERH_SERIAL q.val) = recNat l 6 4 ∧
        e.get (F.SYS_GZQ_SERL_SERIAL q.val) = recNat l 10 4 ∧ e.get (H.gzValid q.val) = 1 ∧ e.get (H.gzScan q.val) = 0 ∧
        e.get (F.SYS_GZQ_STAT_DONE q.val) = 1 ∧
        ∀ k : Fin 4, (recFitted l).testBit k.val = true →
          e.get (F.GRD_GZB0_ILIM (4 * q.val + k.val)) = bits (recNat l 20 5) 15 12 ∧
          e.get (F.GRD_GZB1_OVABS (4 * q.val + k.val)) = bits (recNat l 25 5) 26 10 ∧
          e.get (H.gzShunt (4 * q.val + k.val)) = secNat l k.val 0 2 ∧
          e.getBit (F.PRT_ATT_STAT_DISWHY (4 * q.val + k.val)) 1 = false ∧
          e.getBit (F.PRT_ATT_STAT_DISWHY (4 * q.val + k.val)) 0 = true))) ∧
  (∀ (s : State) (q : Fin 6), s.dev.get (T.gzRetry q.val) ≠ 0 →
    EndsDev (.gzRetryExpiry q) s (fun e => e.get (T.gzRetry q.val) = 0 ∧
      e.get (T.twStart (quadBus q.val)) = (s.dev.now + 1) % 2 ^ 64)) ∧
  (∀ (s : State) (q : Fin 6), s.dev.get (T.gzProbe q.val) ≠ 0 → s.dev.get (H.gzScan q.val) = 0 →
    (s.dev.mode ≠ 3 → EndsDev (.gzProbeExpiry q) s (fun e => e.get (F.SYS_GZQ_STAT_SCAN q.val) = 1 ∧
      e.get (H.gzScan q.val) = 1 ∧ e.get (T.gzProbe q.val) = 0)) ∧
    (s.dev.mode = 3 → EndsDev (.gzProbeExpiry q) s (fun e => e.get (H.gzDue q.val) = 1 ∧ e.get (T.gzProbe q.val) = 0 ∧
      OnlyRegs s.dev e [H.gzDue q.val, T.gzProbe q.val]))) ∧
  (∀ (s : State) (v : Word) (q : Fin 6), bits v.toNat 0 6 = 0 → v.toNat.testBit (8 + q.val) = true →
    s.dev.get (H.gzScan q.val) = 0 →
    EndsDev (.gzRescan v) s (fun e => e.get (F.SYS_GZQ_STAT_SCAN q.val) = 1 ∧ e.get (H.gzScan q.val) = 1)) ∧
  (∀ (s : State) (v : Word) (q : Fin 6) (l : List Nat), v.toNat = 2 ^ q.val → l = tget [] s.dev.gzrec q.val →
    s.scanFirst v.toNat = s →
    s.dev.get (F.SYS_GZQ_STAT_PEND q.val) = 1 →
    (∀ k : Fin 4, s.dev.att (4 * q.val + k.val) = 0 ∧ s.dev.getBit (F.PRT_ATT_STAT_DISWHY (4 * q.val + k.val)) 0 = true) →
    EndsDev (.gzAccept v) s (fun e => e.get (F.SYS_GZQ_STAT_PEND q.val) = 0 ∧ e.get (F.SYS_GZQ_STAT_BOUND q.val) = 1 ∧
      e.get (F.SYS_GZQ_STAT_BTYPE q.val) = recBtype l % 2 ^ 16 ∧ e.get (H.gzValid q.val) = 1))

/-- A request over the TAP is none. Otherwise a request while one is busy, one behind which a request that R30 puts first or a
hardware cause of a mode change waits on the same tick, and one that such a request of its tick has passed by, set REQERR 1,
one that no path allows from the mode in force REQERR 2 (Kindling always), Blaze or Tinder from a core REQERR 6, Blaze with a
contract held or Banked with a port barred REQERR 3; the mode stays. A request that is taken clears REQERR: Steady ends
Kindling (MODE 0, PREV 1, CAUSE 1 from the host and 2 from a core), Tinder is entered with C0 in the boot ROM and C1 to C5
held, Blaze is entered with CAUSE 1 and C0 in the boot ROM, and Banked sets TRANS and gives the ports 50 ms. TARGET codes 5 to
15 change nothing but that a host access wakes the device. -/
def Obligations.ModeRequestsComplete : Prop :=
  (∀ (s : State) (a : Agent) (code : BitVec 4), exec (.modeReqIgnoredCode a code) s = .next (s.onDev (·.touch a))) ∧
  (∀ (s : State) (c : Instr) (a : Agent) (allowed hostOnly held : Bool),
    ((c = .modeReqSteady a ∧ allowed = (s.dev.mode == 1) ∧ hostOnly = false ∧ held = false) ∨
     (c = .modeReqKindling a ∧ allowed = false ∧ hostOnly = false ∧ held = false) ∨
     (c = .modeReqBlaze a ∧ allowed = (s.dev.mode == 0 || s.dev.mode == 1) ∧ hostOnly = true ∧ held = s.dev.anyContract) ∨
     (c = .modeReqBanked a ∧ allowed = (s.dev.mode == 0) ∧ hostOnly = false ∧ held = s.dev.bankBarred) ∨
     (c = .modeReqTinder a ∧ allowed = (s.dev.mode == 0) ∧ hostOnly = true ∧ held = false)) →
    (a = .tap → exec c s = .next s) ∧
    ∀ err : Nat, a ≠ .tap →
      ((s.reqBehind a = true ∧ err = 1) ∨
       (s.reqBehind a = false ∧ s.dev.get H.reqLow ≠ s.dev.now + 1 ∧
         (((s.dev.touch a).reqBusy = true ∧ err = 1) ∨ ((s.dev.touch a).reqBusy = false ∧ allowed = false ∧ err = 2) ∨
          ((s.dev.touch a).reqBusy = false ∧ allowed = true ∧ hostOnly = true ∧ a.isHost = false ∧ err = 6) ∨
          ((s.dev.touch a).reqBusy = false ∧ allowed = true ∧ (hostOnly = false ∨ a.isHost = true) ∧ held = true ∧
            err = 3)))) →
      EndsDev c s (fun e => e.get F.SYS_MODE_REQERR = err ∧ e.mode = s.dev.mode ∧
        ∀ f : Fld, f.quiet = true → f.key ≠ F.SYS_MODE_REQERR.key → f.key ≠ H.reqTick.key → f.key ≠ H.reqLow.key →
          e.get f = s.dev.get f)) ∧
  (∀ (s : State) (a : Agent), a ≠ .tap → s.reqBehind a = false → s.dev.get H.reqLow ≠ s.dev.now + 1 →
    (s.dev.touch a).reqBusy = false →
    (s.dev.mode = 1 → s.dev.get H.fallPend = 0 →
      EndsDev (.modeReqSteady a) s (fun e => e.mode = 0 ∧ e.get F.SYS_MODE_PREV = 1 ∧ e.get F.SYS_MODE_REQERR = 0 ∧
        e.get F.SYS_MODE_TRANS = 0 ∧ e.get F.SYS_MODE_CAUSE = (if a.isHost then 1 else 2) ∧ e.get H.kindleStart = 0 ∧
        e.get T.kindle = 0)) ∧
    (s.dev.mode = 0 → s.dev.bankBarred = false →
      EndsDev (.modeReqBanked a) s (fun e => e.mode = 0 ∧ e.get F.SYS_MODE_TRANS = 1 ∧ e.get F.SYS_MODE_REQERR = 0 ∧
        e.get H.bankReq = 1 ∧ e.get H.bankCause = (if a.isHost then 1 else 2) ∧
        e.get T.bank50 = (s.dev.now + 3200001) % 2 ^ 64)) ∧
    (a.isHost = true → s.dev.mode = 0 →
      EndsDev (.modeReqTinder a) s (fun e => e.mode = 4 ∧ e.get F.SYS_MODE_PREV = 0 ∧ e.get F.SYS_MODE_CAUSE = 1 ∧
        e.get F.SYS_MODE_REQERR = 0 ∧ e.coreState 0 = 1 ∧ e.pcOf 0 = 0x10000 ∧
        ∀ n : Fin 6, n ≠ 0 → e.coreState n.val = 6)) ∧
    (a.isHost = true → (s.dev.mode = 0 ∨ s.dev.mode = 1) → s.dev.anyContract = false →
      EndsDev (.modeReqBlaze a) s (fun e => e.mode = 2 ∧ e.get F.SYS_MODE_CAUSE = 1 ∧ e.get F.SYS_MODE_TRANS = 0 ∧
        e.get F.SYS_BLAZE_RESULT_DONE = 0 ∧ e.coreState 0 = 1 ∧ e.pcOf 0 = 0x10000 ∧
        ∀ n : Fin 6, n ≠ 0 → e.coreState n.val = 0)))

/-- A Banked request begins the steps of R43 once no port is barred and all have settled: the segments close and the 50 ms end,
then no core runs or waits, then every meter stops, then MODE is 3 (one step at a tick is a choice of the model, log entry
31); with a port barred it is given up with REQERR 3, and after 50 ms with one still in a sequence with REQERR 4. A wake of a
Banked device enters Steady with CAUSE 5; a wake inside the steps gives the entry up with REQERR 5, the meters running, and
shows in SYS_WAKE_STAT; outside both a wake changes no mode. Kindling ends in Steady with CAUSE 3 once every port, meter and
scan is done and with CAUSE 4 at its timeout. A Blaze result with an area bit of [17:11] 0 keeps the device in Blaze with DONE
1; one with all of them 1, and every port kept Disabled, enters Kindling with CAUSE 6 and C0 in the boot ROM. -/
def Obligations.BankedAndKindlingComplete : Prop :=
  (∀ (s : State), s.dev.get H.bankReq = 1 →
    (s.dev.get H.bankStage = 0 → s.dev.bankBarred = false → s.dev.bankAllOk = true →
      EndsDev .bankedEntry s (fun e => e.get H.bankStage = 1 ∧ e.get T.bank50 = 0 ∧ e.mode = s.dev.mode ∧
        ∀ p : Fin 24, e.get (F.MTR_STAT_OPEN p.val) = 0)) ∧
    (s.dev.get H.bankStage = 1 → EndsDev .bankedEntry s (fun e => e.get H.bankStage = 2 ∧ e.mode = s.dev.mode ∧
      ∀ n : Fin 6, e.coreState n.val ≠ 1 ∧ e.coreState n.val ≠ 2)) ∧
    (s.dev.get H.bankStage = 2 → EndsDev .bankedEntry s (fun e => e.get H.bankStage = 3 ∧ e.mode = s.dev.mode ∧
      ∀ p : Fin 24, e.get (H.mtrRun p.val) = 0)) ∧
    (s.dev.get H.bankStage = 3 → EndsDev .bankedEntry s (fun e => e.mode = 3 ∧ e.get F.SYS_MODE_TRANS = 0 ∧
      e.get H.bankReq = 0 ∧ e.get H.bankStage = 0 ∧ e.get H.lgrIdle = 1 ∧ e.get F.SYS_MODE_CAUSE = s.dev.get H.bankCause % 16)) ∧
    (s.dev.get H.bankStage = 0 → s.dev.bankBarred = true →
      EndsDev .bankedEntry s (fun e => e.get F.SYS_MODE_REQERR = 3 ∧ e.get F.SYS_MODE_TRANS = 0 ∧ e.get H.bankReq = 0 ∧
        e.get T.bank50 = 0 ∧ e.mode = s.dev.mode)) ∧
    (s.dev.get H.bankStage = 0 → s.dev.bankBarred = false → s.dev.bankAllOk = false →
      exec .bankedEntry s = .next s ∧
      (s.dev.get T.bank50 ≠ 0 →
        EndsDev .bankedUnsettledTimeout s (fun e => e.get F.SYS_MODE_REQERR = 4 ∧ e.get F.SYS_MODE_TRANS = 0 ∧
          e.get H.bankReq = 0 ∧ e.get T.bank50 = 0 ∧ e.mode = s.dev.mode)))) ∧
  (∀ (s : State) (b : Fin 16), 12 ≤ b.val → s.dev.get H.bankStage ≠ 0 → s.dev.get H.wakeTick ≠ s.dev.now + 1 →
    EndsDev (.bankedWake (some b)) s (fun e => e.get F.SYS_MODE_REQERR = 5 ∧ e.get F.SYS_MODE_TRANS = 0 ∧
      e.get H.bankReq = 0 ∧ e.get H.bankStage = 0 ∧ e.getBit F.SYS_WAKE_STAT_FIXED (b.val - 12) = true ∧
      e.mode = s.dev.mode ∧ (∀ n : Fin 6, e.coreState n.val ≠ 3 ∨ s.dev.get (H.coreWas n.val) = 3) ∧
      ∀ p : Fin 24, e.get (H.mtrRun p.val) = 1)) ∧
  (∀ (s : State) (b : Fin 16), s.dev.mode ≠ 3 → s.dev.get H.bankStage = 0 →
    EndsDev (.bankedWake (some b)) s (fun e => e.mode = s.dev.mode ∧ ∀ f : Fld, f.quiet = true → e.get f = s.dev.get f)) ∧
  (∀ (s : State) (b : Fin 16), s.dev.mode = 3 → s.dev.get H.bankStage = 0 → s.dev.get H.wakeTick ≠ s.dev.now + 1 →
    (12 ≤ b.val ∨ s.dev.getBit F.SYS_WAKE_EN_EN b.val = true) →
    EndsDev (.bankedWake (some b)) s (fun e => e.mode = 0 ∧ e.get F.SYS_MODE_CAUSE = 5 ∧ e.get H.lgrIdle = 0)) ∧
  (∀ (s : State), s.dev.mode = 1 → s.dev.get H.fallPend = 0 →
    (s.dev.kindleDone = true → EndsDev .kindlingCompletion s (fun e => e.mode = 0 ∧ e.get F.SYS_MODE_PREV = 1 ∧
      e.get F.SYS_MODE_CAUSE = 3 ∧ e.get H.kindleStart = 0)) ∧
    (s.dev.kindleDone = false → s.dev.get T.kindle ≠ 0 → EndsDev .kindlingTimeout s (fun e => e.mode = 0 ∧
      e.get F.SYS_MODE_PREV = 1 ∧ e.get F.SYS_MODE_CAUSE = 4 ∧ e.get H.kindleStart = 0))) ∧
  (∀ (s : State) (v : Word), s.dev.mode = 2 → s.dev.get F.SYS_BLAZE_RESULT_DONE = 0 →
    (bits v.toNat 11 7 ≠ 127 → EndsDev (.blazeCompletion v) s (fun e => e.mode = 2 ∧ e.get F.SYS_BLAZE_RESULT_DONE = 1 ∧
      e.get F.SYS_BLAZE_RESULT_GUARDQ = bits v.toNat 30 6 ∧ e.get F.SYS_BLAZE_RESULT_METERQ = bits v.toNat 24 6 ∧
      e.get F.SYS_BLAZE_RESULT_CCQ = bits v.toNat 18 6 ∧ e.get F.SYS_BLAZE_RESULT_STORE = bits v.toNat 16 1)) ∧
    (bits v.toNat 11 7 = 127 → (∀ p : Fin 24, s.dev.get (F.PRT_ATT_STAT_DISWHY p.val) ≠ 0) →
      EndsDev (.blazeCompletion v) s (fun e => e.mode = 1 ∧ e.get F.SYS_MODE_CAUSE = 6 ∧ e.get F.SYS_MODE_PREV = 2 ∧
        e.get H.lgrIdle = 0 ∧ e.get H.booting = 1 ∧ e.coreState 0 = 1 ∧ e.pcOf 0 = 0x10000)))

/-- With no flush in progress, no ask outstanding and snapshots at resets off, a source whose level is above that of the reset in
progress makes it that level, sets its bit among the sources of that level, empties every channel, and leaves every field that
the level restores at its reset value. A source whose level does not exceed it only joins. A software request written inside a
host transfer waits for the end of the transfer. A request whose flush times out, or whose flush finds nothing left to commit,
asserts likewise. -/
def Obligations.ResetSourcesAssertTheirLevel : Prop :=
  (∀ (s : State) (c : Instr) (src lvl : Nat) (d : Dev),
    ((c = .powerUp ∧ src = 0 ∧ lvl = 3 ∧ d = s.dev) ∨ (∃ b, c = .vsysBrownout b ∧ src = 0 ∧ lvl = 3 ∧ d = s.dev) ∨
     (c = .vcoreBrownout ∧ src = 1 ∧ lvl = 2 ∧ d = s.dev) ∨ (c = .clockFailure ∧ src = 6 ∧ lvl = 2 ∧ d = s.dev) ∨
     (c = .rstnAssert ∧ src = 2 ∧ d = s.dev ∧
       lvl = if s.dev.get (if 2 ≤ s.dev.get H.rstHeld then H.otpRstnl3 else F.RST_CFG_RSTNL3) = 1 then 3 else 2) ∨
     (∃ a, a ≠ .tap ∧ s.dev.get H.hostXfer = 0 ∧ c = .rstReqL1 a false ∧ src = 4 ∧ lvl = 1 ∧ d = s.dev.touch a) ∨
     (∃ a, a ≠ .tap ∧ s.dev.get H.hostXfer = 0 ∧ c = .rstReqL2 a false ∧ src = 4 ∧ lvl = 2 ∧ d = s.dev.touch a)) →
    s.dev.get H.flushLvl = 0 → lvl ≤ s.dev.get H.rstHeld →
    EndsDev c s (fun e => e.getBit (H.rstSrc lvl) src = true ∧ e.get H.rstHeld = s.dev.get H.rstHeld ∧
      OnlyRegs d e [H.rstSrc lvl, H.por])) ∧
  (∀ (s : State) (c : Instr) (src lvl : Nat),
    ((c = .powerUp ∧ src = 0 ∧ lvl = 3) ∨ (∃ b, c = .vsysBrownout b ∧ src = 0 ∧ lvl = 3) ∨
     (c = .vcoreBrownout ∧ src = 1 ∧ lvl = 2) ∨ (c = .clockFailure ∧ src = 6 ∧ lvl = 2) ∨
     (c = .rstnAssert ∧ src = 2 ∧
       lvl = if s.dev.get (if 2 ≤ s.dev.get H.rstHeld then H.otpRstnl3 else F.RST_CFG_RSTNL3) = 1 then 3 else 2) ∨
     (∃ a, a ≠ .tap ∧ s.dev.get H.hostXfer = 0 ∧ c = .rstReqL1 a false ∧ src = 4 ∧ lvl = 1) ∨
     (∃ a, a ≠ .tap ∧ s.dev.get H.hostXfer = 0 ∧ c = .rstReqL2 a false ∧ src = 4 ∧ lvl = 2) ∨
     (∃ i, c = .lockupTimeout i ∧ s.dev.coreState i.val = 1 ∧ s.dev.get H.rstHeld = 0 ∧ src = 7 ∧ lvl = 1) ∨
     (∃ i, c = .watchdogExpiry i ∧ s.dev.get (T.wdt i.val) ≠ 0 ∧ src = 3 ∧
       lvl = if 2 ≤ (s.dev.wdTimes.filter (fun t => decide (t < s.dev.now))).length then 2 else 1)) →
    s.dev.get H.flushLvl = 0 → s.dev.get H.rstHeld < lvl → s.dev.get F.SNAP_CTRL_RSTEN = 0 →
    (∀ p : Fin 24, s.dev.askOut p.val = false) →
    EndsDev c s (fun e => e.get H.rstHeld = lvl ∧ e.getBit (H.rstSrc lvl) src = true ∧ (∀ k : Fin 64, e.chan k.val = []) ∧
      (∀ f : Fld, f.key % 4 ≠ 0 → f.key % 4 ≤ lvl → e.get f = f.rst % 2 ^ f.w) ∧
      (∀ i, c = .watchdogExpiry i → e.getBit F.RST_FAULT_WDOG i.val = true) ∧
      (∀ i, c = .lockupTimeout i → e.getBit F.RST_FAULT_LOCKUP i.val = true))) ∧
  (∀ (s : State) (c : Instr) (lvl : Nat), lvl = s.dev.get H.flushLvl → 1 ≤ lvl → s.dev.get H.rstHeld < lvl →
    s.dev.get F.SNAP_CTRL_RSTEN = 0 → (∀ p : Fin 24, s.dev.askOut p.val = false) →
    ((c = .flushTimeout ∧ s.dev.get T.flush ≠ 0) ∨
     (c = .flushDone ∧ s.dev.segq = [] ∧ s.dev.get F.LGR_STAT_OPEN = 0 ∧ s.dev.sigq = [] ∧ s.dev.staged = [] ∧
       s.dev.logs = [] ∧ s.dev.get H.progOn = 0)) →
    EndsDev c s (fun e => e.get H.rstHeld = lvl ∧ e.getBit (H.rstSrc lvl) 4 = true ∧
      (∀ f : Fld, f.key % 4 ≠ 0 → f.key % 4 ≤ lvl → e.get f = f.rst % 2 ^ f.w))) ∧
  (∀ (s : State) (a : Agent) (v : Word), a ≠ .tap →
    ((bits v.toNat 8 8 ≠ 0x5A ∨ bits v.toNat 0 2 = 0 ∨ bits v.toNat 0 2 = 3) →
      EndsDev (.rstReqBad a v) s (fun e => e.get F.RST_STAT_REQBAD = 1 ∧ OnlyRegs (s.dev.touch a) e [F.RST_STAT_REQBAD])) ∧
    (∀ l : Nat, s.dev.get H.hostXfer = 1 → (l = 1 ∨ l = 2) →
      EndsDev (if l = 1 then .rstReqL1 a false else .rstReqL2 a false) s (fun e => e.get H.rstHeld = s.dev.get H.rstHeld ∧
        e.get (if a = .spi then H.spiReq else H.twReq) = max l (s.dev.get (if a = .spi then H.spiReq else H.twReq)) ∧
        OnlyRegs (s.dev.touch a) e [if a = .spi then H.spiReq else H.twReq])) ∧
    (s.dev.get H.flushLvl = 0 → (∀ p : Fin 24, s.dev.get (F.MTR_STAT_OPEN p.val) = 0 ∧ s.dev.segJust p.val = none) →
      EndsDev (.rstReqL1 a true) s (fun e => e.get H.flushLvl = 1 ∧ e.get T.flush = (s.dev.now + 6400001) % 2 ^ 64 ∧
        OnlyRegs (s.dev.touch a) e [H.flushLvl, T.flush]) ∧
      EndsDev (.rstReqL2 a true) s (fun e => e.get H.flushLvl = 2 ∧ e.get T.flush = (s.dev.now + 6400001) % 2 ^ 64 ∧
        OnlyRegs (s.dev.touch a) e [H.flushLvl, T.flush])))

/-- The release of an L1 outside Banked ends the reset, counts it, writes the newest cause record and moves the older ones down,
and starts C0 in the boot ROM with memory kept; the release of an L2 or L3 sets every memory word to 0; with no reset in
progress a release changes nothing. While an L2 holds, the hold timer, an emergency detach above 1 A, and a Hard_Reset make a
soft stop on a held port or are latched. A supply status that changes follows its rail, with its sticky bit and event 213;
VCONNLOW opens every VCONN switch. The loss of the backup domain clears it and sets BAKLOST and TAMPER; a glitch sets TAMPER.
-/
def Obligations.ReleaseHoldAndSuppliesComplete : Prop :=
  (∀ (s : State) (m0 m1 m2 m3 : BitVec 6) (o x : Bool),
    (s.dev.get H.rstHeld = 0 → exec (.resetRelease m0 m1 m2 m3 o x) s = .next s) ∧
    (s.dev.get H.rstHeld = 1 → s.dev.mode ≠ 3 →
      EndsDev (.resetRelease m0 m1 m2 m3 o x) s (fun e => e.get H.rstHeld = 0 ∧ e.coreState 0 = 1 ∧ e.pcOf 0 = 0x10000 ∧
        e.get F.RST_CNT_COUNT = min 16777215 (s.dev.get F.RST_CNT_COUNT + 1) ∧ e.get (F.RST_CAUSE_LEVEL 0) = 1 ∧
        e.get (F.RST_CAUSE_SOURCE 0) = s.dev.rstCode ∧ e.get (F.RST_CAUSE_ALSO 0) = s.dev.rstAlso ∧
        ∀ i : Fin 3, e.get (F.RST_CAUSE_SOURCE (i.val + 1)) = s.dev.get (F.RST_CAUSE_SOURCE i.val) ∧
          e.get (F.RST_CAUSE_LEVEL (i.val + 1)) = s.dev.get (F.RST_CAUSE_LEVEL i.val) ∧
          e.get (F.RST_CAUSE_ALSO (i.val + 1)) = s.dev.get (F.RST_CAUSE_ALSO i.val) ∧
          e.get (F.RST_CAUSE_CNT (i.val + 1)) = s.dev.get (F.RST_CAUSE_CNT i.val))) ∧
    (2 ≤ s.dev.get H.rstHeld → Ends (.resetRelease m0 m1 m2 m3 o x) s (fun t => t.mem = [] ∧ t.bad = []))) ∧
  (∀ (s : State) (p : Fin 24), s.dev.get H.rstHeld = 2 →
    (s.dev.get T.hold ≠ 0 → EndsDev .holdTimerExpiry s (fun e => e.get T.hold = 0 ∧ ∀ q : Fin 24,
      (s.dev.get (H.padGates q.val) = 1 ∨ s.dev.get (H.padGates q.val) = 2 →
        e.get (H.padGates q.val) = 3 ∧ e.get (H.holdWhy q.val) = 22 ∧ e.get (H.holdKind q.val) = 1 ∧
        e.get (H.padOff q.val) = (s.dev.now + stopTicks (s.dev.get (H.padSlew q.val)) + 1) % 2 ^ 64 ∧
        e.getBit F.RST_HOLDSTOP_STOPPED q.val = true) ∧
      (s.dev.get (H.padGates q.val) ≠ 1 → s.dev.get (H.padGates q.val) ≠ 2 →
        e.get (H.padGates q.val) = s.dev.get (H.padGates q.val) ∧ e.get (H.holdWhy q.val) = s.dev.get (H.holdWhy q.val)))) ∧
    (∀ i : Nat, (s.dev.get (H.padGates p.val) = 1 ∨ s.dev.get (H.padGates p.val) = 2) → 1000 < i →
      EndsDev (.holdEmergencyDetach p i) s (fun e => e.get (H.padGates p.val) = 3 ∧ e.get (H.holdWhy p.val) = 23 ∧
        e.get (H.holdKind p.val) = 1 ∧ e.getBit F.RST_HOLDSTOP_STOPPED p.val = true ∧
        OnlyRegs s.dev e [H.padGates p.val, H.padOff p.val, H.holdWhy p.val, H.holdKind p.val, F.RST_HOLDSTOP_STOPPED])) ∧
    (∀ i : Nat, i ≤ 1000 → exec (.holdEmergencyDetach p i) s = .next s) ∧
    EndsDev (.holdHardResetLatch p) s (fun e => e.get (H.holdHr p.val) = 1 ∧ OnlyRegs s.dev e [H.holdHr p.val])) ∧
  (∀ (s : State) (low : Bool), s.dev.get H.rstHeld < 2 →
    (s.dev.get F.SYS_SUPPLY_VINLOW ≠ b2n low → EndsDev (.vinlowChange low) s (fun e => e.get F.SYS_SUPPLY_VINLOW = b2n low ∧
      e.get H.vinLow = b2n low ∧ e.pend 213 = true ∧ (low = true → e.get F.SYS_SUPPLY_VINLOW_S = 1))) ∧
    (s.dev.get F.SYS_SUPPLY_VIOLOW ≠ b2n low → EndsDev (.violowChange low) s (fun e => e.get F.SYS_SUPPLY_VIOLOW = b2n low ∧
      e.get H.vioLow = b2n low ∧ e.pend 213 = true ∧ (low = true → e.get F.SYS_SUPPLY_VIOLOW_S = 1))) ∧
    ((∀ p : Fin 24, ((s.dev.txs p.val).map (·.sop)).headD 0 = 0) →
      EndsDev (.vconnlowChange true) s (fun e => e.get F.SYS_SUPPLY_VCONNLOW = 1 ∧ e.get H.vconnLow = 1 ∧
        ∀ p : Fin 24, e.get (F.PRT_ATT_STAT_VCONNON p.val) = 0 ∧ e.get (F.PRT_PE_STAT_VCSRC p.val) = 0))) ∧
  (∀ (s : State),
    EndsDev .backupPowerLoss s (fun e => e.get F.RST_CNT_COUNT = 0 ∧ e.get F.SYS_BAK_STAT_BAKLOST = 1 ∧
      e.get F.SYS_BAK_STAT_TAMPER = 1 ∧ (∀ i : Fin 16, e.get (F.SYS_BAK_RET_DATA i.val) = 0) ∧
      ∀ i : Fin 4, e.get (F.RST_CAUSE_SOURCE i.val) = 0 ∧ e.get (F.RST_CAUSE_LEVEL i.val) = 0 ∧
        e.get (F.RST_CAUSE_ALSO i.val) = 0 ∧ e.get (F.RST_CAUSE_CNT i.val) = 0) ∧
    EndsDev .backupGlitch s (fun e => e.get F.SYS_BAK_STAT_TAMPER = 1 ∧ OnlyRegs s.dev e [F.SYS_BAK_STAT_TAMPER]))

/-- A VCORE step moves PLAN by one code where the Surveyor asks for it and R566 does not pause it, and otherwise SET by one code
toward its target. A sweep outside Banked starts a gate and the next second; in Banked it waits. The end of a gate stores the
eight lap counts and temperatures, and a first sweep certifies the floor of the slowest island; while R566 applies, only a
candidate below the floor is certified. A re-measurement that is due certifies whatever it gives. An admission evaluation that
ends writes NH, BAD, UFAIL, DFAIL and U of every core. The end of a day on whose tick a restore write waits is held back to
the end of the tick; that of a day of at least 43,200 sweeps writes DAYMEAN and one more day of the trend, that of a shorter
one does not, and the day's counts begin anew. -/
def Obligations.SurveyorCommandsComplete : Prop :=
  (∀ (s : State), s.dev.get T.vcore ≠ 0 →
    (s.dev.get H.svyMove = 1 → s.dev.get F.SYS_VCORE_PLAN < 46 → s.dev.svyPaused = false → EndsDev .vcoreStep s (fun e =>
      e.get F.SYS_VCORE_PLAN = s.dev.get F.SYS_VCORE_PLAN + 1 ∧ e.get F.SYS_VCORE_SET = s.dev.get F.SYS_VCORE_SET ∧
      e.get F.SVY_EVT_VUP = 1 ∧ e.get H.svyRe = 1)) ∧
    (s.dev.get H.svyMove = 2 → s.dev.get F.SVY_CFG_VLO < s.dev.get F.SYS_VCORE_PLAN → s.dev.svyPaused = false → EndsDev .vcoreStep s (fun e =>
      e.get F.SYS_VCORE_PLAN + 1 = s.dev.get F.SYS_VCORE_PLAN ∧ e.get F.SYS_VCORE_SET = s.dev.get F.SYS_VCORE_SET ∧
      e.get H.svyTrial = 1)) ∧
    ((s.dev.get H.svyMove = 0 ∨ s.dev.svyPaused = true) → s.dev.get F.SYS_VCORE_SET < s.dev.vcoreTarget → s.dev.get F.SYS_VCORE_SET < 63 →
      EndsDev .vcoreStep s (fun e => e.get F.SYS_VCORE_SET = s.dev.get F.SYS_VCORE_SET + 1 ∧
        e.get F.SYS_VCORE_PLAN = s.dev.get F.SYS_VCORE_PLAN)) ∧
    ((s.dev.get H.svyMove = 0 ∨ s.dev.svyPaused = true) → s.dev.vcoreTarget < s.dev.get F.SYS_VCORE_SET → EndsDev .vcoreStep s (fun e =>
      e.get F.SYS_VCORE_SET + 1 = s.dev.get F.SYS_VCORE_SET ∧ e.get F.SYS_VCORE_PLAN = s.dev.get F.SYS_VCORE_PLAN))) ∧
  (∀ (s : State), s.dev.get T.svySweep ≠ 0 →
    (s.dev.mode ≠ 3 → EndsDev .sweepStart s (fun e => e.get H.svyGate = 1 ∧ e.get H.svyTgt = s.dev.get F.SVY_CTRL_TARGET ∧
      e.get T.svySweep = (s.dev.now + 64000001) % 2 ^ 64 ∧ e.get H.svyGateAt = s.dev.now % 2 ^ 64 ∧
      OnlyRegs s.dev e [H.svyGate, H.svyGateAt, H.svyGateP, H.svyTgt, T.svySweep])) ∧
    (s.dev.mode = 3 → EndsDev .sweepStart s (fun e => e.get H.svyDue = 1 ∧ e.get T.svySweep = 0 ∧
      OnlyRegs s.dev e [H.svyDue, T.svySweep]))) ∧
  (∀ (s : State) (laps : List (BitVec 16)) (temps : List (BitVec 8)) (fc : Nat), laps.length = 8 → temps.length = 8 →
    fc = s.dev.svyFc (lowestLap (laps.map (·.toNat))).1 →
    (s.dev.get H.svyGate = 1 → s.dev.get H.svyGateAt + gateTicks ≤ s.dev.now → EndsDev (.sweepEnd laps temps) s (fun e =>
      (∀ i l, laps[i]? = some l → e.get (F.SVY_BENCH_LAPS i) = l.toNat) ∧
      (∀ i t, temps[i]? = some t → e.get (F.SVY_BENCH_TEMP i) = t.toNat) ∧ e.get H.svyGate = 0 ∧
      (s.dev.get F.SVY_STAT_CERT = 1 → s.dev.svyPaused = true ∨ s.dev.get H.svyGateP = 1 →
        e.get F.SVY_FLOOR_FLOOR = (if fc < s.dev.get F.SVY_FLOOR_FLOOR then fc else s.dev.get F.SVY_FLOOR_FLOOR)) ∧
      (s.dev.get F.SVY_STAT_CERT = 0 → s.dev.svyPaused = false → s.dev.get H.svyGateP = 0 → e.get F.SVY_STAT_CERT = 1 ∧ e.get F.SVY_FLOOR_FLOOR = fc % 2 ^ 24 ∧
        e.get F.SVY_FLOOR_ISLAND = (lowestLap (laps.map (·.toNat))).2 ∧ e.get F.SVY_EVT_CERT = 1))) ∧
    (s.dev.get H.svyGate = 0 ∨ s.dev.now < s.dev.get H.svyGateAt + gateTicks → exec (.sweepEnd laps temps) s = .next s) ∧
    (s.dev.get H.svyRe = 1 → s.dev.get H.svyReAt ≠ 0 → s.dev.get H.svyReAt + gateTicks ≤ s.dev.now + 1 →
      EndsDev (.remeasure laps temps) s (fun e => (∀ i l, laps[i]? = some l → e.get (F.SVY_BENCH_LAPS i) = l.toNat) ∧
        e.get F.SVY_STAT_CERT = 1 ∧ e.get F.SVY_FLOOR_FLOOR = fc % 2 ^ 24 ∧ e.get F.SVY_EVT_CERT = 1))) ∧
  (∀ (s : State), s.dev.get F.FAB_ADMF_BUSY = 1 →
    EndsDev .admEvalDone s (fun e => ∀ n : Fin 6, ∀ r : List Nat,
      r = s.dev.admCore (s.dev.get F.FAB_ADMF_FLOOR) (s.dev.get F.SVY_SHED_LEVEL) n.val →
      e.get (F.FAB_ADM_NH n.val) = r.getD 0 0 % 2 ^ (F.FAB_ADM_NH n.val).w ∧ e.get (F.FAB_ADM_BAD n.val) = r.getD 1 0 % 2 ∧
      e.get (F.FAB_ADM_UFAIL n.val) = r.getD 2 0 % 2 ∧ e.get (F.FAB_ADM_DFAIL n.val) = r.getD 3 0 % 2 ∧
      e.get (F.FAB_ADM_U n.val) = r.getD 4 0 % 2 ^ (F.FAB_ADM_U n.val).w)) ∧
  (∀ (s : State), s.dev.get T.dayEnd ≠ 0 → s.restoreWaits = true →
    EndsDev .dayEnd s (fun e => e.get H.dayHeld = 1 ∧ e.get T.dayEnd = 0 ∧ OnlyRegs s.dev e [H.dayHeld, T.dayEnd])) ∧
  (∀ (s : State), s.dev.get T.dayEnd ≠ 0 → s.restoreWaits = false →
    EndsDev .dayEnd s (fun e => e.get H.dayDone = 1 ∧ e.get H.dayCnt = 0 ∧ e.get H.daySum = 0 ∧ e.get T.dayEnd = 0 ∧
      (43200 ≤ s.dev.get H.dayCnt →
        e.get F.SVY_AGE_DAYMEAN = s.dev.get H.daySum / s.dev.get H.dayCnt % 2 ^ 16 ∧
        e.get F.SVY_TRN0_N = min 65535 (s.dev.get F.SVY_TRN0_N + 1) ∧ e.get F.SVY_EVT_DAY = 1) ∧
      (s.dev.get H.dayCnt < 43200 → e.get F.SVY_AGE_DAYMEAN = s.dev.get F.SVY_AGE_DAYMEAN ∧
        e.get F.SVY_TRN0_N = s.dev.get F.SVY_TRN0_N)))

/-- An operation from a source that FW_DLCMD takes, with a free slot, the Store READY and none in progress, sets DLBUSY, clears
the slot's result (not for STAGE) and starts its bound; a source that it does not take sets REFUSED with ERR 3, and an OP or
SLOT without a meaning ERR 9. An erase leaves every page of the slot erased, a program that succeeds leaves the page holding
the words of the buffer, four bytes to a word, and raises the event of R21 where one of them stands with a double-bit error,
one that fails retires the block and is repeated, and a STAGE leaves the slot's result; each then ends with DLBUSY 0 and
DLDONE. -/
def Obligations.DownloadsComplete : Prop :=
  (∀ (s : State) (a : Agent) (slot : BitVec 2) (page : BitVec 15), s.dev.dlSource a = true →
    (slot = 1 ∨ slot = 2) → s.dev.get F.STO_STAT_READY = 1 → s.dev.get F.FW_STAT_DLBUSY = 0 →
    (s.dev.slotFree slot.toNat = true →
      EndsDev (.fwErase a slot) s (fun e => e.get F.FW_STAT_DLBUSY = 1 ∧ e.get H.dlOp = 1 ∧ e.get H.dlSlot = slot.toNat ∧
        e.slotResNow slot.toNat = 0 ∧ e.get T.fwErase = (s.dev.now + 128000001) % 2 ^ 64)) ∧
    (s.dev.slotFree slot.toNat = true → page.toNat < s.dev.slotPages → s.dev.page slot.toNat page.toNat = [] →
      0x40000 ≤ s.dev.get (F.FW_DLARG_BUF a.copy) → s.dev.get (F.FW_DLARG_BUF a.copy) + 1023 ≤ 0xFFFFF →
      EndsDev (.fwProgram a slot page) s (fun e => e.get F.FW_STAT_DLBUSY = 1 ∧ e.get H.dlOp = 2 ∧
        e.get H.dlSlot = slot.toNat ∧ e.get H.dlPage = page.toNat ∧ e.get H.dlBuf = s.dev.get (F.FW_DLARG_BUF a.copy) ∧
        e.get T.fwProg = (s.dev.now + 64001) % 2 ^ 64)) ∧
    EndsDev (.fwStage a slot) s (fun e => e.get F.FW_STAT_DLBUSY = 1 ∧ e.get H.dlOp = 3 ∧ e.get H.dlSlot = slot.toNat ∧
      e.slotResNow slot.toNat = s.dev.slotResNow slot.toNat ∧
      e.get T.fwStage = (s.dev.now + s.dev.stageBound slot.toNat + 1) % 2 ^ 64)) ∧
  (∀ (s : State) (a : Agent) (op : BitVec 4) (slot : BitVec 2) (page : BitVec 15),
    (s.dev.dlSource a = false → EndsDev (.fwDlcmdBadOp a op slot page) s (fun e => e.get F.FW_STAT_ERR = 3 ∧
      e.get F.FW_EVT_REFUSED = 1 ∧ e.get F.FW_STAT_DLBUSY = s.dev.get F.FW_STAT_DLBUSY)) ∧
    (s.dev.dlSource a = true → (op = 0 ∨ 3 < op.toNat ∨ slot = 0 ∨ slot = 3) →
      EndsDev (.fwDlcmdBadOp a op slot page) s (fun e => e.get F.FW_STAT_ERR = 9 ∧ e.get F.FW_EVT_REFUSED = 1 ∧
        ∀ f : Fld, f.quiet = true → f.key ≠ F.FW_STAT_ERR.key → f.key ≠ F.FW_EVT_REFUSED.key → e.get f = s.dev.get f))) ∧
  (∀ (s : State) (slot : Nat), slot = s.dev.get H.dlSlot →
    (s.dev.get H.dlOp = 1 → s.dev.slotBad slot = false → (slot = 1 ∨ slot = 2) →
      EndsDev (.fwEraseDone none) s (fun e => e.get F.FW_STAT_DLBUSY = 0 ∧ e.get F.FW_EVT_DLDONE = 1 ∧ e.get H.dlOp = 0 ∧
        ∀ pg, pg < 64 * s.dev.physBlocks slot → e.page slot pg = [])) ∧
    (s.dev.get H.dlOp = 2 →
      EndsDev (.fwProgramDone true) s (fun e => e.page slot (s.dev.get H.dlPage) =
          s.bufBytes (s.dev.get H.dlBuf) (s.dev.get F.STO_GEOM_PAGE) ∧ e.get F.FW_STAT_DLBUSY = 0 ∧
        e.get F.FW_EVT_DLDONE = 1 ∧ (s.dev.get H.rstHeld < 2 → (∃ i, i < s.dev.get F.STO_GEOM_PAGE / 4 ∧
          s.bad.contains (s.dev.get H.dlBuf + i) = true) → e.pend 232 = true)) ∧
      EndsDev (.fwProgramDone false) s (fun e => e.get F.FW_STAT_DLBUSY = s.dev.get F.FW_STAT_DLBUSY ∧ e.get H.dlOp = 2 ∧
        e.get F.STO_EVT_PGMFAIL = 1 ∧ e.get T.fwProg = (s.dev.now + 64001) % 2 ^ 64)) ∧
    (s.dev.get H.dlOp = 3 → ∀ ok : Bool,
      EndsDev (.fwStageDone ok) s (fun e => e.slotResNow slot =
        (if s.dev.get F.STO_STAT_READY = 1 then s.dev.slotRes slot ok true else 10) ∧ e.get F.FW_EVT_STAGED = 1 ∧
        e.get F.FW_STAT_DLBUSY = 0 ∧ e.get F.FW_EVT_DLDONE = 1)))

/-- FW_ACT from the host or from C0 of the running image, with its key, the device in Steady and idle, a staged and admitted slot
that does not run, and a certified floor, begins the activation (TRANS, 5 ms to the activation point); without a source, a key
or a mode that allows it, it is refused with ERR 3, 4 or 2. The activation point writes the record with STATE 3, and asserts
an L1 10 µs later. An activation, a start and a restart that end complete by the state of the image: in Steady with CAUSE 9
and the slot ACTIVE where it verifies; a device that waits for an evaluation starts the image once no check fails, or enters
Tinder with CAUSE 12 after its 100 ms; with none of them in progress nothing happens. A start from reset with both slots
blank, the Store scanned and a floor certified ends in Tinder with CAUSE 8, the slots' results 2. A confirmation of a running
trial with its key in time makes STATE 1; without a trial, key or time it is refused with ERR 8, 4 or 11. A trial that expires
without AUTOFALL ends in Tinder with CAUSE 7; with it, one that expires in Kindling waits for Kindling to end. FW_TRIAL takes
1 to 60 minutes. A setting record of the running image's format is appended and sets SETDONE; with the Store not READY it sets
SETBAD. -/
def Obligations.ActivationsAndTrialsComplete : Prop :=
  (∀ (s : State) (a : Agent) (key : BitVec 8) (slot : BitVec 2),
    ((a.isHost = true ∨ (a.isC0 = true ∧ s.dev.imageRuns = true)) → key = 0xA7 → s.dev.mode = 0 → s.dev.get F.SYS_MODE_TRANS = 0 → s.dev.trialRuns = false →
      s.dev.get F.FW_STAT_DLBUSY = 0 → (slot = 1 ∨ slot = 2) → s.dev.runSlot ≠ slot.toNat → s.dev.slotResNow slot.toNat = 1 →
      s.dev.slotAdmok slot.toNat = true → s.dev.get F.SVY_STAT_CERT = 1 →
      EndsDev (.fwAct a key slot) s (fun e => e.get F.SYS_MODE_TRANS = 1 ∧ e.get H.actSlot = slot.toNat ∧
        e.get H.actFall = 0 ∧ e.get T.act = (s.dev.now + 320001) % 2 ^ 64 ∧
        OnlyRegs (s.dev.touch a) e [F.SYS_MODE_TRANS, H.actSlot, H.actFall, H.actStage, T.trial, T.act])) ∧
    (∀ err : Nat, ((a = .tap ∧ err = 3) ∨ (a.isHost = true ∧ key ≠ 0xA7 ∧ err = 4) ∨
        (a.isHost = true ∧ key = 0xA7 ∧ s.dev.mode ≠ 0 ∧ s.dev.mode ≠ 4 ∧ err = 2)) →
      EndsDev (.fwAct a key slot) s (fun e => e.get F.FW_STAT_ERR = err ∧ e.get F.FW_EVT_REFUSED = 1 ∧
        ∀ f : Fld, f.quiet = true → f.key ≠ F.FW_STAT_ERR.key → f.key ≠ F.FW_EVT_REFUSED.key → e.get f = s.dev.get f))) ∧
  (∀ (s : State), s.dev.get T.act ≠ 0 →
    (s.dev.get H.actStage = 0 → EndsDev .activationPoint s (fun e => e.get F.FW_STAT_STATE = 3 ∧ e.get H.actStage = 1 ∧
      e.get T.act = (s.dev.now + 641) % 2 ^ 64 ∧ e.get H.rstHeld = s.dev.get H.rstHeld ∧
      e.get F.FW_STAT_ACTIVE = s.dev.get H.actSlot % 4 ∧
      e.get F.FW_STAT_PREV = (if s.dev.get H.actFall = 0 then s.dev.confSlot else s.dev.get H.actSlot) % 4)) ∧
    (s.dev.get H.actStage ≠ 0 → s.dev.get H.rstHeld = 0 → s.dev.get H.flushLvl = 0 → s.dev.get F.SNAP_CTRL_RSTEN = 0 →
      (∀ p : Fin 24, s.dev.askOut p.val = false) →
      EndsDev .activationPoint s (fun e => e.get H.rstHeld = 1 ∧ e.getBit (H.rstSrc 1) 4 = true ∧
        e.get F.FW_STAT_STATE = s.dev.get F.FW_STAT_STATE ∧ e.get H.booting = 2))) ∧
  (∀ (s : State) (ok : Bool),
    ((s.dev.get H.rstHeld ≠ 0 ∨ s.dev.mode = 2 ∨ s.dev.mode = 3 ∨ s.dev.get H.booting = 0 ∨
        (s.dev.get H.booting = 1 ∧ (s.dev.get F.STO_STAT_SCANNED = 0 ∨ s.dev.get F.SVY_STAT_CERT = 0))) →
      exec (.activationComplete ok) s = .next s) ∧
    (s.dev.get H.rstHeld = 0 → s.dev.mode ≠ 2 → s.dev.mode ≠ 3 →
      (s.dev.get H.booting = 2 → Ends (.activationComplete ok) s (fun t =>
        (s.dev.slotRes (s.dev.get H.actSlot) ok false = 1 → t.dev.mode = 0 ∧ t.dev.get F.SYS_MODE_CAUSE = 9 ∧
          t.dev.get F.SYS_MODE_TRANS = 0 ∧ t.dev.get F.FW_STAT_ACTIVE = s.dev.get H.actSlot % 4 ∧
          t.dev.get F.FW_STAT_STATE = (if s.dev.get H.actFall = 0 then 2 else 1) ∧ t.dev.get F.FW_EVT_ACT = 1) ∧
        (s.dev.slotRes (s.dev.get H.actSlot) ok false ≠ 1 → s.dev.get H.actFall ≠ 0 → t.dev.mode = 4 ∧
          t.dev.get F.SYS_MODE_CAUSE = 7 ∧ t.dev.get F.FW_STAT_STATE = 0))) ∧
      (s.dev.get H.booting = 3 → Ends (.activationComplete ok) s (fun t =>
        (s.dev.slotRes (s.dev.get F.FW_STAT_ACTIVE) ok false = 1 → t.dev.get H.booting = 0 ∧
          t.dev.get F.FW_STAT_STATE = s.dev.get F.FW_STAT_STATE ∧ t.dev.get F.FW_STAT_ACTIVE = s.dev.get F.FW_STAT_ACTIVE) ∧
        (s.dev.slotRes (s.dev.get F.FW_STAT_ACTIVE) ok false ≠ 1 → t = s))) ∧
      (s.dev.get H.booting = 1 → s.dev.get F.STO_STAT_SCANNED = 1 → s.dev.get F.SVY_STAT_CERT = 1 →
        s.dev.get H.bootWait ≠ 0 →
        (s.dev.admNowFails = false → EndsDev (.activationComplete ok) s (fun e => e.get H.booting = 0 ∧
          e.get H.bootWait = 0 ∧ e.get F.FW_STAT_ACTIVE = s.dev.get H.actSlot % 4 ∧
          e.get F.FW_STAT_STATE = s.dev.bootRec.state % 8)) ∧
        (s.dev.admNowFails = true → s.dev.now + 1 < s.dev.get T.boot → exec (.activationComplete ok) s = .next s) ∧
        (s.dev.admNowFails = true → s.dev.get T.boot ≤ s.dev.now + 1 → EndsDev (.activationComplete ok) s (fun e =>
          e.mode = 4 ∧ e.get F.SYS_MODE_CAUSE = 12 ∧ e.get H.bootWait = 0 ∧ e.get F.FW_STAT_STATE = 0))))) ∧
  (∀ (s : State) (ok : Bool), s.dev.get H.rstHeld = 0 → s.dev.mode = 1 → s.dev.get H.booting = 1 →
    s.dev.get H.bootWait = 0 → s.dev.get F.STO_STAT_SCANNED = 1 → s.dev.get F.SVY_STAT_CERT = 1 → s.dev.nand = [] →
    EndsDev (.activationComplete ok) s (fun e => e.mode = 4 ∧ e.get F.SYS_MODE_CAUSE = 8 ∧ e.slotResNow 1 = 2 ∧
      e.slotResNow 2 = 2 ∧ e.coreState 0 = 1 ∧ e.pcOf 0 = 0x10000 ∧ ∀ n : Fin 6, n ≠ 0 → e.coreState n.val = 6)) ∧
  (∀ (s : State) (a : Agent) (key : BitVec 8), a ≠ .tap →
    (s.dev.trialSeen = true → key = 0x3C → s.dev.trialEnds = false →
      EndsDev (.fwConfirm a key) s (fun e => e.get F.FW_STAT_STATE = 1 ∧ e.get T.trial = 0 ∧ e.get F.FW_EVT_CONFIRMED = 1 ∧
        e.get H.rbcnt = max (s.dev.get H.rbcnt) s.dev.bootRec.secver % 2 ^ H.rbcnt.w)) ∧
    (∀ err : Nat, ((s.dev.trialSeen = false ∧ err = 8) ∨ (s.dev.trialSeen = true ∧ key ≠ 0x3C ∧ err = 4) ∨
        (s.dev.trialSeen = true ∧ key = 0x3C ∧ s.dev.trialEnds = true ∧ err = 11)) →
      EndsDev (.fwConfirm a key) s (fun e => e.get F.FW_STAT_ERR = err ∧ e.get F.FW_EVT_REFUSED = 1 ∧
        e.get F.FW_STAT_STATE = s.dev.get F.FW_STAT_STATE))) ∧
  (∀ (s : State), s.dev.get T.trial ≠ 0 → s.dev.mode ≠ 3 → s.dev.get H.bankStage = 0 → s.dev.trialRuns = true → s.dev.get H.trialOver = 0 →
    (s.dev.get F.FW_COMPAT_AUTOFALL = 1 → s.dev.mode = 1 → EndsDev .trialExpiry s (fun e => e.get H.fallPend = 1 ∧
      e.get F.FW_EVT_TRIALEXP = 1 ∧ e.get T.trial = 0 ∧ e.mode = 1)) ∧
    (s.dev.get F.FW_COMPAT_AUTOFALL = 0 → EndsDev .trialExpiry s (fun e => e.mode = 4 ∧ e.get F.SYS_MODE_CAUSE = 7 ∧ e.get F.FW_EVT_TRIALEXP = 1 ∧
      e.get F.FW_STAT_STATE = 0 ∧ e.get T.trial = 0))) ∧
  (∀ (s : State) (v : Word),
    (bits v.toNat 0 6 = 0 ∨ 60 < bits v.toNat 0 6 → exec (.fwTrialWrite v) s = .next s) ∧
    (1 ≤ bits v.toNat 0 6 → bits v.toNat 0 6 ≤ 60 → s.dev.get T.trial = 0 →
      EndsDev (.fwTrialWrite v) s (fun e => e.get F.FW_TRIAL_MIN = bits v.toNat 0 6 ∧ OnlyRegs s.dev e [F.FW_TRIAL_MIN])) ∧
    (1 ≤ bits v.toNat 0 6 → bits v.toNat 0 6 ≤ 60 → s.dev.get T.trial ≠ 0 →
      s.dev.now < s.dev.get H.trialStart + bits v.toNat 0 6 * 3840000000 →
      EndsDev (.fwTrialWrite v) s (fun e => e.get F.FW_TRIAL_MIN = bits v.toNat 0 6 ∧
        e.get T.trial = (s.dev.get H.trialStart + bits v.toNat 0 6 * 3840000000 + 1) % 2 ^ 64 ∧
        OnlyRegs s.dev e [F.FW_TRIAL_MIN, T.trial]))) ∧
  (∀ (s : State) (a : Agent) (addr : BitVec 22) (b : List Nat),
    (s.dev.get F.STO_STAT_READY = 0 → EndsDev (.fwSetput a addr) s (fun e => e.get F.FW_EVT_SETBAD = 1 ∧ e.nand = s.dev.nand)) ∧
    (b = (List.range 15).flatMap (fun i => beBytes 4 (if 0x40000 ≤ addr.toNat + i ∧ addr.toNat + i ≤ 0xFFFFF then
        (s.memRead (addr.toNat + i)).toNat % 2 ^ 32 else 0)) →
      b.headD 0 = 0x53 → setLen b ≤ 52 → setFmt b ≠ 0 → setFmt b = s.dev.get F.FW_STAT_SETFMT → s.dev.imageRuns = true →
      s.dev.mode = 0 → s.dev.get F.STO_STAT_READY = 1 → s.dev.setHead < s.dev.partPages 3 →
      EndsDev (.fwSetput a addr) s (fun e => e.get F.FW_EVT_SETDONE = 1 ∧
        e.page 3 s.dev.setHead = slotOf (b.take 5 ++ beBytes 3 s.dev.nextSeq ++ b.drop 8))))

/-- Test-Logic-Reset selects IDCODE; EXTEST drives the pads while debug is unlocked and acts as BYPASS while it is locked;
SAMPLE/PRELOAD takes the cells; IDCODE, BYPASS and DBGCHAL shift out their values. A response below level 2 with fewer than
three refused is verified after 50 ms; a response that verifies unlocks and sets TAMPER, one that does not sets RESPBAD and
leaves debug as it was. While unlocked, an update of DBGCTRL halts, resumes or steps the selected core, sets BKEN, or asserts
an L1 or L2; a step of a NOP advances P by one and leaves the core halted. DBGADDR, and DBGDATA reads and writes of shared
SRAM with AUTOINC, act while unlocked; while locked a write does nothing and a read is 0. -/
def Obligations.DebugCommandsComplete : Prop :=
  (∀ (s : State),
    EndsDev .tapReset s (fun e => e.get H.tapIr = 2 ∧ e.get F.DBG_STAT_TAPACT = 0 ∧ e.get H.bsDrive = 0 ∧
      OnlyRegs s.dev e [H.tapIr, F.DBG_STAT_TAPACT, H.bsDrive]) ∧
    (s.dev.unlocked = true → EndsDev .extest s (fun e => e.get H.tapIr = 0 ∧ e.get H.bsDrive = 1)) ∧
    (s.dev.unlocked = false → EndsDev .extest s (fun e => e.get H.tapIr = 0x1F ∧ e.get H.bsDrive = 0 ∧ e.get H.tapOut = 0)) ∧
    (∀ v : BitVec 65, EndsDev (.samplePreload v) s (fun e => e.get H.tapIr = 1 ∧ e.get H.bscan = v.toNat ∧
      e.free = s.dev.free + 2)) ∧
    EndsDev .idcode s (fun e => e.get H.tapIr = 2 ∧ e.get H.tapOut = 0x1246056B) ∧
    EndsDev .bypass s (fun e => e.get H.tapIr = 0x1F ∧ e.get H.tapOut = 0) ∧
    EndsDev .dbgchal s (fun e => e.get H.tapIr = 0x0B ∧ e.get H.tapOut = beNat s.dev.chalBytes % 2 ^ 256) ∧
    (∀ v : BitVec 1024, s.dev.get F.DBG_STAT_LEVEL < 2 → s.dev.get H.dbgTries < 3 →
      EndsDev (.dbgresp v) s (fun e => e.get H.dbgResp = v.toNat ∧ e.get T.dbgVer = (s.dev.now + 3200001) % 2 ^ 64)) ∧
    (∀ v : BitVec 1024, 2 ≤ s.dev.get F.DBG_STAT_LEVEL → EndsDev (.dbgresp v) s (fun e =>
      e.get H.dbgResp = s.dev.get H.dbgResp ∧ e.get T.dbgVer = s.dev.get T.dbgVer)) ∧
    (s.dev.get T.dbgVer ≠ 0 → EndsDev .dbgResponseVerified s (fun e => e.get T.dbgVer = 0 ∧
      (s.dev.respOk = true → e.unlocked = true ∧ e.get F.SYS_BAK_STAT_TAMPER = 1) ∧
      (s.dev.respOk = false → e.unlocked = s.dev.unlocked ∧ e.get F.DBG_STAT_RESPBAD = 1 ∧
        e.get H.dbgTries = (s.dev.get H.dbgTries + 1) % 4)))) ∧
  (∀ (s : State) (v : BitVec 16) (n : Fin 6), s.dev.unlocked = true → bits v.toNat 13 3 = n.val → bits v.toNat 7 5 = 0 →
    (v.toNat.testBit 12 = false → (s.dev.coreState n.val = 1 ∨ s.dev.coreState n.val = 2) →
      EndsDev (.dbgHalt v) s (fun e => e.coreState n.val = 4 ∧ e.get (H.coreWas n.val) = s.dev.coreState n.val ∧
        e.pcOf n.val = s.dev.pcOf n.val ∧ e.get H.dbgSel = n.val)) ∧
    (v.toNat.testBit 12 = false → s.dev.coreState n.val = 4 → s.dev.get (H.coreWas n.val) = 1 → s.dev.mode ≠ 3 →
      s.dev.get (H.waitDue n.val) = 0 →
      EndsDev (.dbgResume v) s (fun e => e.coreState n.val = 1 ∧ e.pcOf n.val = s.dev.pcOf n.val)) ∧
    (v.toNat.testBit 12 = false → s.dev.coreState n.val = 4 → s.dev.get (H.coreWas n.val) = 1 → s.dev.get H.rstHeld = 0 →
      0x40000 ≤ s.dev.pcOf n.val → s.dev.pcOf n.val < 0x100000 - 1 → s.memRead (s.dev.pcOf n.val) = BitVec.ofNat 36 (2 ^ 30) →
      s.bad = [] → s.alone n (s.dev.pcOf n.val) = true →
      EndsDev (.dbgStep v) s (fun e => e.coreState n.val = 4 ∧ e.pcOf n.val = s.dev.pcOf n.val + 1)) ∧
    (v.toNat.testBit 12 = false → EndsDev (.dbgBken v) s (fun e => e.get F.DBG_STAT_BKEN = 0 ∧ e.get H.dbgSel = n.val ∧
      e.get H.dbgAuto = bits v.toNat 6 1)) ∧
    (v.toNat.testBit 12 = false → ∀ (c : Instr) (lvl : Nat), ((c = .dbgResetL1 v ∧ lvl = 1) ∨ (c = .dbgResetL2 v ∧ lvl = 2)) →
      s.dev.get H.rstHeld < lvl → s.dev.get H.flushLvl = 0 → s.dev.get F.SNAP_CTRL_RSTEN = 0 →
      (∀ p : Fin 24, s.dev.askOut p.val = false) →
      EndsDev c s (fun e => e.get H.rstHeld = lvl ∧ e.getBit (H.rstSrc lvl) 5 = true))) ∧
  (∀ (s : State) (a : BitVec 22) (v : BitVec 37),
    (s.dev.unlocked = false → EndsDev (.dbgaddrUpdate a) s (fun e => e.get H.dbgAddr = s.dev.get H.dbgAddr) ∧
      EndsDev .dbgdataCapture s (fun e => e.get H.tapOut = 0) ∧
      EndsDev (.dbgdataUpdate v) s (fun e => OnlyRegs s.dev e [H.tapIr, F.DBG_STAT_TAPACT, H.bsDrive])) ∧
    (s.dev.unlocked = true → EndsDev (.dbgaddrUpdate a) s (fun e => e.get H.dbgAddr = a.toNat)) ∧
    (s.dev.unlocked = true → s.bad = [] → 0x40000 ≤ s.dev.get H.dbgAddr → s.dev.get H.dbgAddr < 0x100000 →
      s.dev.notes.all (fun e => e / 2 ^ 40 != s.dev.get H.dbgAddr) = true → s.accessAhead .tap (s.dev.get H.dbgAddr) = false →
      EndsDev .dbgdataCapture s (fun e => e.get H.tapOut = (s.memRead (s.dev.get H.dbgAddr)).toNat) ∧
      (v.getLsbD 36 = true → Ends (.dbgdataUpdate v) s (fun t => t.memRead (s.dev.get H.dbgAddr) = v.setWidth 36 ∧
        (∀ k, k ≠ s.dev.get H.dbgAddr → t.memRead k = s.memRead k) ∧
        t.dev.get H.dbgAddr = s.dev.get H.dbgAddr + s.dev.get H.dbgAuto))))

/-- With no L2 or L3 asserted and the gates on, every trip of R330 whose condition stands sets its latch bit, begins a stop with
its own code as STOPWHY and its kind of stop, and where its row says so sets LOCKOUT; a port that is not Disabled enters
ErrorRecovery with its contract void. Off current with both gates off sets LOCKOUT and STOPWHY 4 with no gate to stop. During
the hold of an L2 an armed trip begins its stop at the gate pads and records its code. -/
def Obligations.GuardTripsStopThePort : Prop :=
  (∀ (s : State) (p : Fin 24) (i vpair vbs : Nat) (j t : Int) (c : Instr) (code : Nat) (hard lock : Bool),
    (s.dev.gates p.val = 1 ∨ s.dev.gates p.val = 2) → s.dev.get H.rstHeld < 2 →
    ((c = .tripFast p i ∧ s.dev.effIfast p.val * 500 < i ∧ (code, hard, lock) = (1, true, false)) ∨
     (c = .tripGate p ∧ s.dev.gates p.val = 2 ∧ (code, hard, lock) = (2, true, true)) ∨
     (c = .tripSoa p true vpair i ∧ s.dev.gates p.val = 1 ∧ s.dev.get (T.tsoa p.val) ≠ 0 ∧
       (code, hard, lock) = (3, true, false)) ∨
     (c = .tripSoa p false vpair i ∧ s.dev.gates p.val = 1 ∧ s.dev.get (F.GRD_GZI_PSOA p.val) * 5000000 < vpair * i ∧
       (code, hard, lock) = (3, true, false)) ∨
     (c = .tripOv p vbs ∧ s.dev.ovLimit p.val < vbs ∧ (code, hard, lock) = (5, false, false)) ∨
     (c = .tripI2t p ∧ s.dev.get (F.GRD_STAT_VALID p.val) = 1 ∧ s.dev.effI2t p.val * i2tUnit < s.dev.get (H.grdQ p.val) ∧
       (code, hard, lock) = (6, false, false)) ∨
     (c = .tripRev p j ∧ s.dev.gates p.val = 2 ∧ s.dev.effIrev p.val * 100 < s.dev.reverse p.val j ∧
       (code, hard, lock) = (7, false, false)) ∨
     (c = .tripOt p t ∧ s.dev.get (F.GRD_STAT_VALID p.val) = 1 ∧ (s.dev.effTtrip p.val : Int) ≤ t ∧
       (code, hard, lock) = (8, false, false)) ∨
     (c = .tripNtc p t ∧ s.dev.get (F.GRD_STAT_VALID p.val) = 1 ∧ (t < -50 ∨ 180 < t) ∧
       (code, hard, lock) = (9, false, true)) ∨
     (c = .tripUv p vbs ∧ s.dev.isSrc p.val = true ∧ s.dev.get (F.GRD_CTRL_UVEN p.val) = 1 ∧ s.dev.gates p.val = 2 ∧
       s.dev.get (H.xferOn p.val) = 0 ∧ vbs < s.dev.vLevel p.val * 8 ∧ (code, hard, lock) = (10, false, false)) ∨
     (c = .tripPath p ∧ 2 ≤ s.dev.get (H.pathOver p.val) ∧ s.dev.get (F.GRD_CTRL_PATHEN p.val) = 1 ∧ s.dev.gates p.val = 2 ∧
       (code, hard, lock) = (11, false, true))) →
    EndsDev c s (fun e => e.getBit (F.GRD_TRIP_LATCH p.val) (code - 1) = true ∧ e.gates p.val = 3 ∧
      e.get (F.GRD_STAT_STOPWHY p.val) = code ∧ e.get (F.GRD_STAT_STOPKIND p.val) = (if hard then 2 else 1) ∧
      e.get (F.GRD_TRIP_STOP p.val) = 1 ∧ e.get (F.GRD_STAT_PEND p.val) = 0 ∧
      (lock = true → e.get (F.GRD_TRIP_LOCKOUT p.val) = 1) ∧
      (s.dev.att p.val ≠ 0 → e.att p.val = 9 ∧ e.get (F.PRT_CONTRACT_VALID p.val) = 0))) ∧
  (∀ (s : State) (p : Fin 24) (i : Nat), s.dev.gates p.val = 0 → s.dev.get H.rstHeld < 2 →
    s.dev.get (F.GRD_STAT_VALID p.val) = 1 → 500 < i →
    EndsDev (.tripOffcur p i) s (fun e => e.getBit (F.GRD_TRIP_LATCH p.val) 3 = true ∧ e.gates p.val = 0 ∧
      e.get (F.GRD_STAT_STOPWHY p.val) = 4 ∧ e.get (F.GRD_STAT_STOPKIND p.val) = 3 ∧ e.get (F.GRD_TRIP_LOCKOUT p.val) = 1 ∧
      (s.dev.att p.val ≠ 0 → e.att p.val = 9))) ∧
  (∀ (s : State) (p : Fin 24) (i : Nat), s.dev.get H.rstHeld = 2 →
    (s.dev.get (H.padGates p.val) = 1 ∨ s.dev.get (H.padGates p.val) = 2) → s.dev.get (H.effEver p.val) = 1 →
    s.dev.effIfast p.val * 500 < i →
    EndsDev (.tripFast p i) s (fun e => e.getBit (F.GRD_TRIP_LATCH p.val) 0 = true ∧ e.get (H.padGates p.val) = 3 ∧
      e.get (H.padOff p.val) = (s.dev.now + 14) % 2 ^ 64 ∧ e.get (H.holdWhy p.val) = 1 ∧ e.get (H.holdKind p.val) = 2 ∧ e.gates p.val = s.dev.gates p.val))

/-- A pending turn-on request that meets R317 is granted with the inrush bounded by TSOA; the end of the inrush turns both gates
fully on; the end of a stop turns them off and turns the discharge on, and a detaching source whose VBS is low goes on to an
Unattached state. A monitor sample updates the I2t accumulator, the VBS levels and the standing conditions of LOCKOUT. The
temperature warning sets and clears. A write of GRDnn_TRIP clears the bits it names that hardware has not set on its tick;
LOCKOUT sets again while its condition holds. A write of a SET register is taken only where every field is at or below each
layer of its bound or holds all ones, one of a CAP register only from C0 in boot ROM code before the lock. The discharge ends
with VBS low or after 1 s, and starts again while the port waits for VBS to fall. -/
def Obligations.GuardCommandsComplete : Prop :=
  (∀ (s : State) (p : Fin 24), s.dev.get (F.GRD_STAT_PEND p.val) = 1 → s.dev.gates p.val = 0 → s.dev.turnOnOk p.val = true →
    EndsDev (.turnOnGrant p) s (fun e => e.gates p.val = 1 ∧ e.get (F.GRD_STAT_PEND p.val) = 0 ∧
      e.get (F.GRD_STAT_DISON p.val) = 0 ∧ e.get (H.grdQ p.val) = 0 ∧ e.get (F.GRD_STAT_Q p.val) = 0 ∧
      e.get (H.inrushRate p.val) = s.dev.inrushR p.val % 1024 ∧
      e.get (T.tsoa p.val) = (s.dev.now + 640 + s.dev.get (F.GRD_GZI_TSOA p.val) * 320000 + 1) % 2 ^ 64 ∧
      OnlyRegs s.dev e [F.GRD_STAT_PEND p.val, F.GRD_STAT_GATES p.val, F.GRD_STAT_DISON p.val, F.GRD_STAT_Q p.val,
        H.grdQ p.val, H.inrushRate p.val, H.inrushDone p.val, H.padDis p.val, T.disAgain p.val, T.disMax p.val,
        T.disLow p.val, T.turnOn p.val, T.tsoa p.val])) ∧
  (∀ (s : State) (p : Fin 24) (vbs : Nat), s.dev.gates p.val = 1 →
    (s.dev.isSnk p.val = true → s.dev.explicit p.val = false → s.dev.hpmCon p.val = false → s.dev.get (H.swAcc p.val) = 0 →
      EndsDev (.inrushEnd p vbs) s (fun e => e.gates p.val = 2 ∧ e.get (T.tsoa p.val) = 0 ∧
        e.get (H.iset p.val) = (if s.dev.pe p.val = 19 then s.dev.rpCurrent p.val else 50) % 2 ^ (H.iset p.val).w ∧
        OnlyRegs s.dev e [F.GRD_STAT_GATES p.val, T.tsoa p.val, H.snkInrush p.val, H.iset p.val, H.imode p.val,
          H.iDur p.val])) ∧
    (s.dev.isSrc p.val = true → s.dev.get (H.vsafe5 p.val) = 0 → 4750 ≤ vbs → vbs ≤ 5500 →
      EndsDev (.inrushEnd p vbs) s (fun e => e.gates p.val = 2 ∧ e.get (T.tsoa p.val) = 0 ∧ e.get (H.vsafe5 p.val) = 1 ∧
        e.get (T.capsReady p.val) = (s.dev.now + 1) % 2 ^ 64 ∧
        OnlyRegs s.dev e [F.GRD_STAT_GATES p.val, T.tsoa p.val, H.snkInrush p.val, H.vsafe5 p.val, T.capsReady p.val]))) ∧
  (∀ (s : State) (p : Fin 24), s.calm p.val = true → s.dev.gates p.val = 3 → s.dev.get (H.swAcc p.val) = 0 →
    (s.dev.get (F.PRT_ATT_STAT_VBS0 p.val) = 0 →
      EndsDev (.stopComplete p) s (fun e => e.gates p.val = 0 ∧ e.get (F.GRD_STAT_DISON p.val) = 1 ∧
        e.get (T.gateOff p.val) = 0 ∧
        (s.dev.get (F.GRD_STAT_PEND p.val) = 1 → e.get (T.turnOn p.val) = (s.dev.now + 1) % 2 ^ 64) ∧
        OnlyRegs s.dev e [F.GRD_STAT_GATES p.val, T.gateOff p.val, F.GRD_STAT_DISON p.val, H.padDis p.val, T.disMax p.val,
          T.turnOn p.val])) ∧
    (s.dev.get (F.PRT_ATT_STAT_VBS0 p.val) = 1 → s.dev.get (H.detaching p.val) = 1 → s.dev.get (H.hrPhase p.val) = 0 →
      EndsDev (.stopComplete p) s (fun e => e.gates p.val = 0 ∧ e.get (F.GRD_STAT_DISON p.val) = 1 ∧
        e.get (H.detaching p.val) = 0 ∧ (e.att p.val = 1 ∨ e.att p.val = 2 ∨ e.att p.val = 4 ∨ e.att p.val = 5)))) ∧
  (∀ (s : State) (p : Fin 24) (t : Int),
    (s.dev.get (F.GRD_STAT_VALID p.val) = 1 → (s.dev.effTtrip p.val : Int) - 10 ≤ t →
      s.dev.get (F.GRD_STAT_WARNNOW p.val) = 0 →
      EndsDev (.tempWarn p t) s (fun e => e.get (F.GRD_STAT_WARNNOW p.val) = 1 ∧ e.get (F.GRD_TRIP_WARN p.val) = 1 ∧
        e.gates p.val = s.dev.gates p.val)) ∧
    (s.dev.get H.rstHeld ≠ 2 → t < (s.dev.effTtrip p.val : Int) - 15 →
      EndsDev (.tempBlockClear p t) s (fun e => e.get (F.GRD_STAT_WARNNOW p.val) = 0 ∧ e.get (F.GRD_STAT_OTBLK p.val) = 0 ∧
        (s.dev.get (F.GRD_STAT_PEND p.val) = 1 → e.get (T.turnOn p.val) = (s.dev.now + 1) % 2 ^ 64) ∧
        OnlyRegs s.dev e [F.GRD_STAT_WARNNOW p.val, F.GRD_STAT_OTBLK p.val, T.turnOn p.val]))) ∧
  (∀ (s : State) (p : Fin 24) (i : Int) (vbs va vb : Nat) (t : Int) (q : Nat), s.dev.get H.rstHeld < 2 →
    q = (if s.dev.get (F.GRD_STAT_VALID p.val) = 1 then
      s.dev.get (H.grdQ p.val) + i.natAbs * i.natAbs - (s.dev.effIlim p.val * 50) * (s.dev.effIlim p.val * 50) else 0) →
    EndsDev (.guardMonitorSample p i vbs va vb t) s (fun e => e.get (H.grdQ p.val) = q % 2 ^ 64 ∧
      e.get (F.GRD_STAT_Q p.val) = min 4095 (q / i2tUnit) ∧
      e.get (F.PRT_ATT_STAT_VBSOK p.val) = (if 4000 ≤ vbs then 1 else 0) ∧
      e.get (F.PRT_ATT_STAT_VBS0 p.val) = (if vbs < 800 then 1 else 0) ∧
      e.get (H.ntcBad p.val) = (if t < -50 ∨ 180 < t then 1 else 0) ∧
      e.get (H.offCur p.val) = (if s.dev.gates p.val = 0 ∧ 500 < i.natAbs then 1 else 0) ∧
      (s.dev.gates p.val ≠ 0 → s.dev.effI2t p.val * i2tUnit < q → e.get (T.tripI2t p.val) = (s.dev.now + 1) % 2 ^ 64) ∧
      e.gates p.val = s.dev.gates p.val)) ∧
  (∀ (s : State) (p : Fin 24) (v : Word),
    EndsDev (.lockoutClear p v) s (fun e =>
      (∀ b : Nat, s.dev.marked (F.GRD_TRIP_LATCH p.val) b = true → e.getBit (F.GRD_TRIP_LATCH p.val) b =
        s.dev.getBit (F.GRD_TRIP_LATCH p.val) b) ∧
      (s.dev.marked (F.GRD_TRIP_LOCKOUT p.val) 0 = true → e.get (F.GRD_TRIP_LOCKOUT p.val) = s.dev.get (F.GRD_TRIP_LOCKOUT p.val))) ∧
    (s.dev.setNow = [] → EndsDev (.lockoutClear p v) s (fun e =>
      e.get (F.GRD_TRIP_LATCH p.val) =
        s.dev.get (F.GRD_TRIP_LATCH p.val) - (s.dev.get (F.GRD_TRIP_LATCH p.val) &&& bits v.toNat 1 11) ∧
      e.get (F.GRD_TRIP_WARN p.val) = (if v.toNat.testBit 13 then 0 else s.dev.get (F.GRD_TRIP_WARN p.val)) ∧
      e.get (F.GRD_TRIP_DISTO p.val) = (if v.toNat.testBit 14 then 0 else s.dev.get (F.GRD_TRIP_DISTO p.val)) ∧
      e.get (F.GRD_TRIP_LIMHI p.val) = (if v.toNat.testBit 15 then 0 else s.dev.get (F.GRD_TRIP_LIMHI p.val)) ∧
      e.get (F.GRD_TRIP_LIMWR p.val) = (if v.toNat.testBit 16 then 0 else s.dev.get (F.GRD_TRIP_LIMWR p.val)) ∧
      e.get (F.GRD_TRIP_STOP p.val) = (if v.toNat.testBit 17 then 0 else s.dev.get (F.GRD_TRIP_STOP p.val)) ∧
      e.get (F.GRD_STAT_TRIPCNT p.val) = (if v.toNat.testBit 12 then 0 else s.dev.get (F.GRD_STAT_TRIPCNT p.val)) ∧
      e.get (F.GRD_TRIP_LOCKOUT p.val) = (if v.toNat.testBit 12 then
        (if s.dev.get (H.ntcBad p.val) = 1 ∨ s.dev.get (H.offCur p.val) = 1 then 1 else 0)
        else s.dev.get (F.GRD_TRIP_LOCKOUT p.val))))) ∧
  (∀ (s : State) (p : Fin 24) (k : Fin 2) (v : Word) (lay : List (Nat × Nat)) (f : Fld),
    lay = (if k.val = 0 then layout0 else layout1) →
    f = (if k.val = 0 then F.GRD_SET0_LIMITS p.val else F.GRD_SET1_LIMITS p.val) →
    ((∀ g ∈ lay, bits v.toNat g.1 g.2 = 2 ^ g.2 - 1 ∨
        ∀ x ∈ s.dev.setBound p.val k.val, bits v.toNat g.1 g.2 ≤ bits x g.1 g.2) →
      EndsDev (.grdSetWrite p k v) s (fun e => e.get f = layoutWord k.val v.toNat)) ∧
    (∀ g ∈ lay, ∀ x ∈ s.dev.setBound p.val k.val, bits v.toNat g.1 g.2 ≠ 2 ^ g.2 - 1 →
      bits x g.1 g.2 < bits v.toNat g.1 g.2 →
      EndsDev (.grdSetWrite p k v) s (fun e => e.get f = s.dev.get f ∧ e.get (F.GRD_TRIP_LIMHI p.val) = 1))) ∧
  (∀ (s : State) (a : Agent) (p : Fin 24) (k : Fin 2) (v : Word) (f : Fld),
    f = (if k.val = 0 then F.GRD_CAP0_LIMITS p.val else F.GRD_CAP1_LIMITS p.val) →
    (s.dev.isRom a = true → s.dev.get H.rwlLock = 0 →
      EndsDev (.grdCapWrite a p k v) s (fun e => e.get f = layoutWord k.val v.toNat)) ∧
    ((s.dev.isRom a = false ∨ s.dev.get H.rwlLock = 1) →
      EndsDev (.grdCapWrite a p k v) s (fun e => e.get f = s.dev.get f ∧ e.get (F.GRD_TRIP_LIMWR p.val) = 1))) ∧
  (∀ (s : State) (p : Fin 24),
    (s.dev.get (T.disLow p.val) ≠ 0 →
      EndsDev (.disRelease p) s (fun e => e.get (F.GRD_STAT_DISON p.val) = 0 ∧
        OnlyRegs s.dev e [F.GRD_STAT_DISON p.val, H.padDis p.val, T.disMax p.val, T.disLow p.val, T.disAgain p.val])) ∧
    (s.dev.get (T.disMax p.val) ≠ 0 →
      EndsDev (.disTimeout p) s (fun e => e.get (F.GRD_STAT_DISON p.val) = 0 ∧ e.get (F.GRD_TRIP_DISTO p.val) = 1 ∧
        ((s.dev.get (H.detaching p.val) = 1 ∨ s.dev.att p.val = 11) → s.dev.get (F.PRT_ATT_STAT_VBS0 p.val) = 0 →
          e.get (T.disAgain p.val) = (s.dev.now + 576000001) % 2 ^ 64))) ∧
    (s.dev.get (T.disAgain p.val) ≠ 0 → (s.dev.get (H.detaching p.val) = 1 ∨ s.dev.att p.val = 11) →
      s.dev.get (F.PRT_ATT_STAT_VBS0 p.val) = 0 →
      EndsDev (.disRetry p) s (fun e => e.get (F.GRD_STAT_DISON p.val) = 1 ∧ e.get (T.disAgain p.val) = 0 ∧
        OnlyRegs s.dev e [F.GRD_STAT_DISON p.val, H.padDis p.val, T.disMax p.val, T.disAgain p.val])))

/-- With HOLD = 0 an accepted input takes effect and a recompute follows; with HOLD = 1 it is stored and STAGED reads 1; a
BUDnn_LIM with CEIL above 72,000 or FLOOR above CEIL only sets INBAD. Clearing HOLD makes the stored values take effect. A
write of BUD_ACK that matches a pending notice in time clears it, any other for ports 0-23 sets ACKLATE, one for ports 24-31
does nothing. A deadline that arrives with the notice pending revokes the port. A recompute gives every port its new cap and
the budgets their allocations. A slot load stores an object that meets the rule for its slot, or 0; any other sets SLOTBAD. -/
def Obligations.ContourCommandsComplete : Prop :=
  (∀ (s : State) (v : Word), s.dev.get F.BUD_CTRL_HOLD = 0 →
    EndsDev (.budChgWrite v) s (fun e => e.get F.BUD_CHG_BUDGET = v.toNat % 2 ^ 24 ∧ e.get H.budChg = v.toNat % 2 ^ 24 ∧
      e.get F.BUD_STAT_CHGW = 1 ∧ e.get F.BUD_STAT_BUSY = 1 ∧ e.get T.contour = (s.dev.now + 1) % 2 ^ 64) ∧
    EndsDev (.budDisWrite v) s (fun e => e.get F.BUD_DIS_BUDGET = v.toNat % 2 ^ 24 ∧ e.get H.budDis = v.toNat % 2 ^ 24 ∧
      e.get F.BUD_STAT_DISW = 1 ∧ e.get F.BUD_STAT_BUSY = 1 ∧ e.get T.contour = (s.dev.now + 1) % 2 ^ 64)) ∧
  (∀ (s : State) (v : Word), s.dev.get F.BUD_CTRL_HOLD = 1 →
    EndsDev (.budChgWrite v) s (fun e => e.get F.BUD_CHG_BUDGET = v.toNat % 2 ^ 24 ∧ e.get F.BUD_STAT_STAGED = 1 ∧
      e.get H.budChgS = 1 ∧ e.get F.BUD_STAT_CHGW = 1 ∧
      OnlyRegs s.dev e [F.BUD_CHG_BUDGET, F.BUD_STAT_CHGW, F.BUD_STAT_STAGED, H.budChgS]) ∧
    EndsDev (.budDisWrite v) s (fun e => e.get F.BUD_DIS_BUDGET = v.toNat % 2 ^ 24 ∧ e.get F.BUD_STAT_STAGED = 1 ∧
      e.get H.budDisS = 1 ∧ e.get F.BUD_STAT_DISW = 1 ∧
      OnlyRegs s.dev e [F.BUD_DIS_BUDGET, F.BUD_STAT_DISW, F.BUD_STAT_STAGED, H.budDisS])) ∧
  (∀ (s : State) (p : Fin 24) (v : Word) (ceil floor : Nat), ceil = v.toNat / 2 ^ 18 → floor = v.toNat % 2 ^ 18 →
    (ceil ≤ 72000 → floor ≤ ceil → s.dev.get F.BUD_CTRL_HOLD = 0 →
      EndsDev (.budLimWrite p v) s (fun e => e.get (F.BUDP_LIM_CEIL p.val) = ceil ∧ e.get (F.BUDP_LIM_FLOOR p.val) = floor ∧
        e.get (H.budLim p.val) = ceil * 2 ^ 18 + floor ∧ e.get (F.BUDP_STAT_REVOKED p.val) = 0 ∧
        e.getBit F.BUD_REVOKED_REVOKED p.val = false ∧ e.get F.BUD_STAT_BUSY = 1)) ∧
    (ceil ≤ 72000 → floor ≤ ceil → s.dev.get F.BUD_CTRL_HOLD = 1 →
      EndsDev (.budLimWrite p v) s (fun e => e.get (F.BUDP_LIM_CEIL p.val) = ceil ∧ e.get (F.BUDP_LIM_FLOOR p.val) = floor ∧
        e.get (H.budLimS p.val) = 1 ∧ OnlyRegs s.dev e [F.BUDP_LIM_CEIL p.val, F.BUDP_LIM_FLOOR p.val, F.BUD_STAT_STAGED,
          H.budLimS p.val])) ∧
    (72000 < ceil ∨ ceil < floor →
      EndsDev (.budLimWrite p v) s (fun e => e.get F.BUD_EVT_INBAD = 1 ∧
        ∀ f : Fld, f.quiet = true → f.key ≠ F.BUD_EVT_INBAD.key → e.get f = s.dev.get f))) ∧
  (∀ (s : State) (p : Fin 24) (v : Word), 
    EndsDev (.budnnCtrlWrite p v) s (fun e => e.get (F.BUDP_CTRL_WEIGHT p.val) = bits v.toNat 8 8 ∧
      e.get (F.BUDP_CTRL_CLASS p.val) = bits v.toNat 4 2 ∧ e.get (F.BUDP_CTRL_RENEGUP p.val) = bits v.toNat 1 1 ∧
      e.get (F.BUDP_CTRL_ACKEN p.val) = bits v.toNat 0 1 ∧
      (s.dev.get F.BUD_CTRL_HOLD = 0 → e.get F.BUD_STAT_BUSY = 1 ∧ e.get (H.budCtl p.val) =
        bits v.toNat 8 8 * 256 + bits v.toNat 4 2 * 16 + bits v.toNat 1 1 * 2 + bits v.toNat 0 1) ∧
      (s.dev.get F.BUD_CTRL_HOLD = 1 → e.get F.BUD_STAT_STAGED = 1 ∧ e.get (H.budCtl p.val) = s.dev.get (H.budCtl p.val)))) ∧
  (∀ (s : State) (v : Word),
    (2 ≤ bits v.toNat 8 8 → bits v.toNat 8 8 ≤ 50 → v.toNat.testBit 0 = false → s.dev.get F.BUD_CTRL_HOLD = 1 →
      EndsDev (.holdClear v) s (fun e => e.get F.BUD_CTRL_HOLD = 0 ∧ e.get F.BUD_CTRL_ACKDL = bits v.toNat 8 8 ∧
        e.get F.BUD_STAT_STAGED = 0 ∧ e.get F.BUD_STAT_BUSY = 1 ∧
        e.get H.budChg = (if s.dev.get H.budChgS = 1 then s.dev.get F.BUD_CHG_BUDGET else s.dev.get H.budChg) ∧
        e.get H.budDis = (if s.dev.get H.budDisS = 1 then s.dev.get F.BUD_DIS_BUDGET else s.dev.get H.budDis) ∧
        ∀ p : Fin 24, e.get (H.budLim p.val) = (if s.dev.get (H.budLimS p.val) = 1 then
          s.dev.get (F.BUDP_LIM_CEIL p.val) * 2 ^ 18 + s.dev.get (F.BUDP_LIM_FLOOR p.val) else s.dev.get (H.budLim p.val)))) ∧
    ((bits v.toNat 8 8 < 2 ∨ 50 < bits v.toNat 8 8) → exec (.holdClear v) s = .next s)) ∧
  (∀ (s : State) (v : Word) (p : Nat), p = bits v.toNat 16 5 →
    (p < 24 → s.dev.get (F.BUDP_STAT_NOTEPEND p) = 1 → s.dev.get (F.BUDP_STAT_SERIAL p) = bits v.toNat 24 12 →
      s.dev.now < s.dev.get (H.budDl p) →
      EndsDev (.budAck v) s (fun e => e.get (F.BUDP_STAT_NOTEPEND p) = 0 ∧ e.get (T.revoke p) = 0 ∧
        OnlyRegs s.dev e [F.BUDP_STAT_NOTEPEND p, T.revoke p])) ∧
    (p < 24 → (s.dev.get (F.BUDP_STAT_NOTEPEND p) = 0 ∨ s.dev.get (F.BUDP_STAT_SERIAL p) ≠ bits v.toNat 24 12 ∨
      s.dev.get (H.budDl p) ≤ s.dev.now) →
      EndsDev (.budAck v) s (fun e => e.get F.BUD_EVT_ACKLATE = 1 ∧
        e.get (F.BUDP_STAT_NOTEPEND p) = s.dev.get (F.BUDP_STAT_NOTEPEND p))) ∧
    (24 ≤ p → exec (.budAck v) s = .next s)) ∧
  (∀ (s : State) (p : Fin 24), s.dev.get (T.revoke p.val) ≠ 0 → s.dev.get (F.BUDP_STAT_NOTEPEND p.val) = 1 →
    EndsDev (.revocation p) s (fun e => e.get (F.BUDP_STAT_REVOKED p.val) = 1 ∧ e.get (F.BUDP_STAT_NOTEPEND p.val) = 0 ∧
      e.getBit F.BUD_REVOKED_REVOKED p.val = true ∧ e.get F.BUD_EVT_REVOKE = 1 ∧ e.get F.BUD_STAT_BUSY = 1 ∧
      e.get (T.revoke p.val) = 0)) ∧
  (∀ (s : State) (c1 c2 : Nat × Bool × List Share), s.dev.get F.BUD_STAT_BUSY = 1 →
    c1 = allocate (s.dev.get H.budChg) (s.dev.shares 1) → c2 = allocate (s.dev.get H.budDis) (s.dev.shares 2) →
    EndsDev .contourRecompute s (fun e => e.get F.BUD_STAT_BUSY = 0 ∧ e.get T.contour = 0 ∧
      e.get F.BUD_ALLOCC_ALLOC = s.dev.get H.budChg - c1.1 ∧ e.get F.BUD_ALLOCD_ALLOC = s.dev.get H.budDis - c2.1 ∧
      e.get F.BUD_STAT_CSHORT = (if c1.2.1 then 1 else 0) ∧ e.get F.BUD_STAT_DSHORT = (if c2.2.1 then 1 else 0) ∧
      ∀ p : Fin 24, e.get (F.BUDP_STAT_CAP p.val) = (s.dev.newCap c1.2.2 c2.2.2 p.val).1 % 2 ^ 18 ∧
        e.get (F.BUDP_STAT_NOCAP p.val) = (if (s.dev.newCap c1.2.2 c2.2.2 p.val).2 then 1 else 0))) ∧
  (∀ (s : State) (p : Fin 24) (v : Word) (i o : Nat), i = bits v.toNat 32 4 → o = v.toNat % 2 ^ 32 →
    (i ≤ 10 → (o = 0 ∨ slotOk i o = true) →
      EndsDev (.srcLoad p v) s (fun e => e.pstg p.val i = o ∧ OnlyRegs s.dev { e with stg := s.dev.stg } []) ∧
      EndsDev (.snkLoad p v) s (fun e => e.pstg p.val (16 + i) = o ∧ OnlyRegs s.dev { e with stg := s.dev.stg } [])) ∧
    ((10 < i ∨ (o ≠ 0 ∧ slotOk i o = false)) →
      EndsDev (.srcLoad p v) s (fun e => e.get (F.PRT_PE_EVT_SLOTBAD p.val) = 1 ∧ e.stg = s.dev.stg) ∧
      EndsDev (.snkLoad p v) s (fun e => e.get (F.PRT_PE_EVT_SLOTBAD p.val) = 1 ∧ e.stg = s.dev.stg)))

/-- For every budget and every list of shares that have nothing yet, what a run leaves and what it gives out add up to the budget;
where no floor lies above its top, no port gets more than its top; and where no floor fell short, every port of classes 0 to 3
gets at least its floor. -/
def Obligations.AllocationStaysWithinTheBudget : Prop :=
  ∀ (budget : Nat) (l : List Share), (∀ x ∈ l, x.alloc = 0) →
    (allocate budget l).1 + (((allocate budget l).2.2).map (·.alloc)).sum = budget ∧
    ((allocate budget l).2.2).map (·.port) = l.map (·.port) ∧
    ((∀ x ∈ l, x.floor ≤ x.top) → ∀ x ∈ (allocate budget l).2.2, x.alloc ≤ x.top) ∧
    ((allocate budget l).2.1 = false → ∀ x ∈ (allocate budget l).2.2, x.cls ≤ 3 → x.floor ≤ x.alloc)

/-- A code that the termination does not give is ignored, the accepted one rejects a candidate, and another is accepted with the
FILTN-th sample that no blanking touches. An end seen in an Unattached state gives AttachWait with its orientation and
debounce; the debounces, Try.SRC and TryWait.SNK go on to the states of R171; toggling alternates by ROLE and rests in Banked.
An attach counts and sets ATTACH, or, with 15 in the window, disables the port for chatter. A sink disconnect, an open line of
a source and an emergency detach end the connection, the last with EMCNT, EMERG and a stop of cause 16. CC overvoltage opens
VCONN and gives ErrorRecovery, VCONN overcurrent opens VCONN, and a recognised Rp level sets TXNG. ERREC, ENABLE and CCFILT
writes act as written. An emergency detach that waits on the same tick comes before a detach. Each VBS level is reported, and
completes an AttachWait or TryWait that waited for it. -/
def Obligations.TypeCCommandsComplete : Prop :=
  (∀ (s : State) (p : Fin 24) (cc : Fin 2) (code : Fin 6),
    (s.dev.mode = 2 → exec (.ccLevelAccepted p cc code) s = .next s) ∧
    (s.dev.mode ≠ 2 → codeFits (s.dev.ccTerm p.val (cc.val + 1)) code.val = false →
      EndsDev (.ccLevelAccepted p cc code) s (fun e => e.get (H.ccDue p.val cc.val) = 0 ∧
        OnlyRegs s.dev e [H.ccDue p.val cc.val])) ∧
    (s.dev.mode ≠ 2 → codeFits (s.dev.ccTerm p.val (cc.val + 1)) code.val = true → code.val = s.dev.ccCode p.val cc.val →
      (s.dev.get (H.ccDue p.val cc.val) = 0 → exec (.ccLevelAccepted p cc code) s = .next s) ∧
      (s.dev.get (H.ccDue p.val cc.val) ≠ 0 → EndsDev (.ccLevelAccepted p cc code) s (fun e =>
        e.get (H.ccDue p.val cc.val) = 0 ∧ e.get (H.ccSince p.val cc.val) = (s.dev.now + 1) % 2 ^ 64 ∧
        e.get (H.ccRej p.val) = min 8 (s.dev.get (H.ccRej p.val) + 1) ∧
        (7 ≤ s.dev.get (H.ccRej p.val) → e.get (F.PRT_ATT_EVT_ACT p.val) = 1)))) ∧
    (s.dev.mode ≠ 2 → codeFits (s.dev.ccTerm p.val (cc.val + 1)) code.val = true → code.val ≠ s.dev.ccCode p.val cc.val →
      s.dev.ccEarliest p.val cc.val ≠ s.dev.now →
      EndsDev (.ccLevelAccepted p cc code) s (fun e => e.get (H.ccCand p.val cc.val) = code.val ∧
        e.get (H.ccDue p.val cc.val) = (s.dev.ccEarliest p.val cc.val + 1) % 2 ^ 64 ∧
        OnlyRegs s.dev e [H.ccCand p.val cc.val, H.ccDue p.val cc.val])) ∧
    (s.dev.mode ≠ 2 → codeFits (s.dev.ccTerm p.val (cc.val + 1)) code.val = true → code.val ≠ s.dev.ccCode p.val cc.val →
      s.dev.ccEarliest p.val cc.val = s.dev.now →
      (s.dev.att p.val = 0 → EndsDev (.ccLevelAccepted p cc code) s (fun e =>
        e.get (if cc.val = 0 then F.PRT_ATT_STAT_CC1LVL p.val else F.PRT_ATT_STAT_CC2LVL p.val) = code.val ∧
        OnlyRegs s.dev e [if cc.val = 0 then F.PRT_ATT_STAT_CC1LVL p.val else F.PRT_ATT_STAT_CC2LVL p.val, H.ccRej p.val,
          H.ccov p.val, F.PRT_ATT_STAT_RAPRES p.val, H.ccDue p.val 0, H.ccDue p.val 1, H.ccSince p.val cc.val])) ∧
      (s.dev.att p.val = 1 → cc.val = 0 → 3 ≤ code.val → s.dev.cc2 p.val ≤ 1 →
        EndsDev (.ccLevelAccepted p cc code) s (fun e => e.att p.val = 2 ∧ e.get (F.PRT_ATT_STAT_ORIENT p.val) = 1 ∧
          e.get (F.PRT_ATT_EVT_RECOG p.val) = 1 ∧ e.get (T.ccDb p.val) = (s.dev.now + s.dev.tccdb p.val + 1) % 2 ^ 64 ∧
          e.get (T.toggle p.val) = 0)) ∧
      (s.dev.att p.val = 4 → cc.val = 1 → code.val = 2 → s.dev.cc1 p.val ≤ 1 →
        EndsDev (.ccLevelAccepted p cc code) s (fun e => e.att p.val = 5 ∧ e.get (F.PRT_ATT_STAT_ORIENT p.val) = 2 ∧
          e.get (F.PRT_ATT_EVT_RECOG p.val) = 1 ∧ e.get (T.ccDb p.val) = (s.dev.now + s.dev.tccdb p.val + 1) % 2 ^ 64)) ∧
      (s.dev.seesRp p.val = true → s.dev.get (F.PRT_ATT_STAT_ORIENT p.val) = cc.val + 1 → 3 ≤ code.val →
        code.val ≠ s.dev.get (H.rpLevel p.val) →
        EndsDev (.ccLevelAccepted p cc code) s (fun e => e.get (H.rpDue p.val) = (s.dev.now + 64001) % 2 ^ 64 ∧
          e.get (H.rpLevel p.val) = s.dev.get (H.rpLevel p.val))))) ∧
  (∀ (s : State) (p : Fin 24) (i : Fin 36), i.val = p.val + 12 → s.dev.get (H.blankTo p.val) ≤ s.dev.now → s.dev.mode ≠ 2 →
    EndsDev (.capCandidateRejected i) s (fun e =>
      e.get (H.ccDue p.val (if s.dev.get (H.ccDue p.val 0) = 0 then 1 else 0)) = 0 ∧
      e.get (H.ccRej p.val) = min 8 (s.dev.get (H.ccRej p.val) + 1) ∧
      (7 ≤ s.dev.get (H.ccRej p.val) → e.get (F.PRT_ATT_EVT_ACT p.val) = 1))) ∧
  (∀ (s : State) (p : Fin 24), s.dev.att p.val = 1 ∨ s.dev.att p.val = 4 →
    (s.dev.get (T.toggle p.val) ≠ 0 → s.dev.rdSeen p.val = 0 → s.dev.rpSeen p.val = 0 →
      (∀ role, role = (if s.dev.get (H.rolePend p.val) = 1 ∨ s.dev.get (H.rolePend p.val) = 2 then s.dev.get (H.rolePend p.val)
          else s.dev.get (F.PRT_CTRL_ROLE p.val)) →
        (s.dev.get (H.toggleSrc p.val) = 0 → EndsDev (.togglePhaseEnd p) s (fun e => e.att p.val = (if role = 2 then 1 else 4) ∧
          e.get (H.rolePend p.val) = role ∧
          e.get (H.toggleSrc p.val) = 1 ∧ e.get (T.toggle p.val) = (s.dev.now + s.dev.get (H.togSrcLen p.val) + 1) % 2 ^ 64)) ∧
        (s.dev.get (H.toggleSrc p.val) = 1 → EndsDev (.togglePhaseEnd p) s (fun e => e.att p.val = (if role = 1 then 4 else 1) ∧
          e.get (H.rolePend p.val) = role ∧ e.get (H.toggleSrc p.val) = 0 ∧
          (s.dev.mode = 3 → s.dev.get (H.restLen p.val) ≠ 0 → e.get (T.toggle p.val) = 0 ∧
            e.get (T.rest p.val) = (s.dev.now + s.dev.get (H.restLen p.val) * 640000 + 1) % 2 ^ 64) ∧
          ((s.dev.mode ≠ 3 ∨ s.dev.get (H.restLen p.val) = 0) →
            e.get (T.toggle p.val) = (s.dev.now + s.dev.phaseTicks p.val false + 1) % 2 ^ 64))))) ∧
    (s.dev.get (T.rest p.val) ≠ 0 →
      EndsDev (.bankedToggleRestEnd p) s (fun e => e.get (T.rest p.val) = 0 ∧
        e.get (T.toggle p.val) = (s.dev.now + s.dev.phaseTicks p.val false + 1) % 2 ^ 64 ∧
        OnlyRegs s.dev e [T.rest p.val, T.toggle p.val, H.togSrcLen p.val, H.restLen p.val, H.ccDue p.val 0, H.ccDue p.val 1]))) ∧
  (∀ (s : State) (p : Fin 24), s.dev.get (T.ccDb p.val) ≠ 0 →
    (s.dev.att p.val = 5 → s.dev.get (F.PRT_ATT_STAT_VBS0 p.val) = 0 → EndsDev (.ccDebounceExpiry p) s (fun e =>
      e.get (H.ccSettle p.val) = 1 ∧ OnlyRegs s.dev e [H.ccSettle p.val, T.ccDb p.val])) ∧
    (s.dev.att p.val = 5 → s.dev.get (F.PRT_ATT_STAT_VBS0 p.val) = 1 → (s.dev.attachTimes p.val).length < 15 →
      EndsDev (.ccDebounceExpiry p) s (fun e => e.att p.val = 8 ∧ e.get (F.PRT_ATT_EVT_ATTACH p.val) = 1 ∧
        e.get (F.PRT_ATT_CNT_ATTCNT p.val) = (s.dev.get (F.PRT_ATT_CNT_ATTCNT p.val) + 1) % 65536)) ∧
    (s.dev.att p.val = 5 → s.dev.get (F.PRT_ATT_STAT_VBS0 p.val) = 1 → 15 ≤ (s.dev.attachTimes p.val).length →
      EndsDev (.ccDebounceExpiry p) s (fun e => e.att p.val = 0 ∧ e.get (F.PRT_ATT_EVT_CHATTER p.val) = 1 ∧
        e.getBit (F.PRT_ATT_STAT_DISWHY p.val) 3 = true ∧ e.get (T.chatter p.val) = (s.dev.now + 64000001) % 2 ^ 64)) ∧
    (s.dev.att p.val = 2 → s.dev.get (H.tryPend p.val) = 1 → s.dev.get (H.deadBat p.val) = 0 →
      EndsDev (.ccDebounceExpiry p) s (fun e => e.att p.val = 6 ∧ e.get (F.PRT_ATT_STAT_RPOWN p.val) = 2 ∧
        e.get (T.drpTry p.val) = (s.dev.now + 6400001) % 2 ^ 64)) ∧
    ((s.dev.att p.val = 2 ∧ s.dev.get (H.tryPend p.val) = 0 ∨ s.dev.att p.val = 7) → s.dev.get (F.PRT_ATT_STAT_VBSOK p.val) = 1 →
      (s.dev.attachTimes p.val).length < 15 → EndsDev (.ccDebounceExpiry p) s (fun e => e.att p.val = 3 ∧
        e.get (F.PRT_ATT_EVT_ATTACH p.val) = 1))) ∧
  (∀ (s : State) (p : Fin 24), s.calm p.val = true → s.dev.get (T.pdDb p.val) ≠ 0 →
    ((s.dev.att p.val = 2 ∨ s.dev.att p.val = 5 ∨ s.dev.att p.val = 7) → s.dev.rdSeen p.val = 0 → s.dev.rpSeen p.val = 0 →
      EndsDev (.pdDebounceExpiry p) s (fun e => e.att p.val = (if s.dev.get (F.PRT_CTRL_ROLE p.val) = 1 then 4 else 1) ∧
        e.get (F.PRT_ATT_STAT_ORIENT p.val) = 0)) ∧
    (s.dev.att p.val = 8 → s.dev.isSrc p.val = true → s.dev.get (H.swAcc p.val) = 0 →
      EndsDev (.pdDebounceExpiry p) s (fun e => e.get (F.PRT_ATT_EVT_DETACH p.val) = 1 ∧
        e.get (F.PRT_CONTRACT_VALID p.val) = 0 ∧ ((s.dev.gates p.val = 1 ∨ s.dev.gates p.val = 2) →
          e.gates p.val = 3 ∧ e.get (F.GRD_STAT_STOPWHY p.val) = 19)))) ∧
  (∀ (s : State) (p : Fin 24), s.dev.att p.val = 6 →
    (s.dev.get (T.drpTry p.val) ≠ 0 → s.dev.rdSeen p.val = 0 → EndsDev (.drpTryExpiry p) s (fun e => e.att p.val = 7 ∧
      e.get (F.PRT_ATT_EVT_TRYFAIL p.val) = 1 ∧
      (s.dev.rpSeen p.val = 0 → e.get (T.pdDb p.val) = (s.dev.now + s.dev.tpddb p.val + 1) % 2 ^ 64) ∧
      (s.dev.rpSeen p.val ≠ 0 → e.get (T.ccDb p.val) = (s.dev.now + s.dev.tccdb p.val + 1) % 2 ^ 64))) ∧
    (s.dev.get (T.tryDb p.val) ≠ 0 → (s.dev.attachTimes p.val).length < 15 → EndsDev (.tryCcDebounceExpiry p) s (fun e =>
      e.att p.val = 8 ∧ e.get (F.PRT_ATT_EVT_ATTACH p.val) = 1))) ∧
  (∀ (s : State) (p : Fin 24), s.dev.get (T.errRec p.val) ≠ 0 → s.dev.att p.val = 9 →
    (s.dev.get (F.PRT_ATT_STAT_DISWHY p.val) ≠ 0 → EndsDev (.errorRecoveryExpiry p) s (fun e => e.att p.val = 0)) ∧
    (s.dev.get (F.PRT_ATT_STAT_DISWHY p.val) = 0 → s.dev.cc1 p.val ≠ 6 → s.dev.cc2 p.val ≠ 6 →
      EndsDev (.errorRecoveryExpiry p) s (fun e => e.get (T.errRec p.val) = 0 ∧
        (e.att p.val = 1 ∨ e.att p.val = 2 ∨ e.att p.val = 4 ∨ e.att p.val = 5)))) ∧
  (∀ (s : State) (p : Fin 24), s.dev.get (T.chatter p.val) ≠ 0 → EndsDev (.chatterHoldExpiry p) s (fun e =>
    (∀ b, e.getBit (F.PRT_ATT_STAT_DISWHY p.val) b = (b != 3 && s.dev.getBit (F.PRT_ATT_STAT_DISWHY p.val) b)) ∧
    e.get (T.chatter p.val) = 0 ∧ e.attachTimes p.val = [] ∧
    (s.dev.get (F.PRT_ATT_STAT_DISWHY p.val) = 8 → s.dev.att p.val = 0 → s.dev.mode ≠ 2 →
      e.att p.val = 1 ∨ e.att p.val = 2 ∨ e.att p.val = 4 ∨ e.att p.val = 5))) ∧
  (∀ (s : State) (p : Fin 24) (i vbs : Nat),
    (s.calm p.val = true → s.dev.att p.val = 3 → s.dev.masked p.val = false → vbs <
        (if s.dev.heldExplicit p.val = true ∧ s.dev.heldV p.val ≠ 500 then s.dev.heldV p.val * 8 else 3670) →
      EndsDev (.sinkDisconnect p vbs) s (fun e => e.get (F.PRT_ATT_EVT_DETACH p.val) = 1 ∧
        e.get (F.PRT_CONTRACT_VALID p.val) = 0 ∧
        (e.att p.val = 1 ∨ e.att p.val = 2 ∨ e.att p.val = 4 ∨ e.att p.val = 5))) ∧
    (s.dev.emergencyCond p.val i vbs = true → EndsDev (.emergencyDetach p i vbs) s (fun e =>
      e.get (F.PRT_ATT_EVT_EMERG p.val) = 1 ∧ e.get (F.PRT_ATT_EVT_DETACH p.val) = 1 ∧
      e.get (F.PRT_ATT_CNT_EMCNT p.val) = (s.dev.get (F.PRT_ATT_CNT_EMCNT p.val) + 1) % 256 ∧
      e.get (F.PRT_CONTRACT_VALID p.val) = 0 ∧ ((s.dev.gates p.val = 1 ∨ s.dev.gates p.val = 2) →
        e.att p.val = (if s.dev.get (H.swAcc p.val) = 0 then 11 else 9) ∧ e.gates p.val = 3 ∧
          e.get (F.GRD_STAT_STOPWHY p.val) = 16) ∧
      (s.dev.get (H.swAcc p.val) ≠ 0 → e.att p.val = 9 ∧ e.get (F.PRT_SWAP_STAT_LASTEND p.val) = 14))) ∧
    (s.dev.emergencyCond p.val i vbs = false → exec (.emergencyDetach p i vbs) s = .next s) ∧
    (∀ v, s.pending.head? = some (.emergencyDetach p i vbs) → s.dev.emergencyCond p.val i vbs = true →
      EndsDev (.sinkDisconnect p v) s (fun e => e.get (F.PRT_ATT_EVT_EMERG p.val) = 1 ∧ e.att p.val ≠ 3 ∧
        e.get (F.PRT_ATT_CNT_EMCNT p.val) = (s.dev.get (F.PRT_ATT_CNT_EMCNT p.val) + 1) % 256))) ∧
  (∀ (s : State) (p : Fin 24) (cc : Fin 2), s.dev.mode ≠ 2 → EndsDev (.ccOvervoltage p cc) s (fun e =>
    e.get (if cc.val = 0 then F.PRT_ATT_STAT_CC1LVL p.val else F.PRT_ATT_STAT_CC2LVL p.val) = 6 ∧
    e.get (F.PRT_ATT_EVT_CCOV p.val) = 1 ∧ e.get (F.PRT_ATT_STAT_VCONNON p.val) = 0 ∧
    e.att p.val = (if s.dev.att p.val = 0 then 0 else 9))) ∧
  (∀ (s : State) (p : Fin 24), s.dev.get (F.PRT_ATT_STAT_VCONNON p.val) = 1 → EndsDev (.vconnOvercurrent p) s (fun e =>
    e.get (F.PRT_ATT_STAT_VCONNON p.val) = 0 ∧ e.get (H.vconnOc p.val) = 1 ∧ e.get (F.PRT_ATT_EVT_VCONNOC p.val) = 1 ∧
    e.att p.val = s.dev.att p.val)) ∧
  (∀ (s : State) (p : Fin 24) (code : Fin 3), s.dev.seesRp p.val = true →
    s.dev.activeLine p.val = code.val + 3 → s.dev.get (H.rpDue p.val) ≠ 0 → s.dev.get (H.rpDue p.val) ≤ s.dev.now + 1 → EndsDev (.rpLevelRecognised p code) s (fun e =>
    e.get (H.rpLevel p.val) = code.val + 3 ∧ e.get (F.PRT_PE_STAT_TXNG p.val) = (if code.val = 1 then 1 else 0) ∧
    e.get (T.cmdStart p.val) = (s.dev.now + 1) % 2 ^ 64 ∧
    OnlyRegs s.dev e [H.rpLevel p.val, F.PRT_PE_STAT_TXNG p.val, H.iset p.val, H.imode p.val, H.iDur p.val, H.rpDue p.val,
      T.cmdStart p.val])) ∧
  (∀ (s : State) (p : Fin 24) (v : Word), s.calm p.val = true →
    (s.dev.att p.val ≠ 0 → s.dev.get (H.emTick p.val) ≠ s.dev.now + 1 → v.toNat.testBit 0 = true →
      EndsDev (.prtErrec p v) s (fun e => e.att p.val = 9 ∧ e.get (T.errRec p.val) = (s.dev.now + 1920001) % 2 ^ 64 ∧
        e.get (F.PRT_CTRL_ENABLE p.val) = 1 ∧ e.get (F.PRT_CONTRACT_VALID p.val) = 0)) ∧
    (v.toNat.testBit 0 = false → EndsDev (.prtEnable p v) s (fun e => e.att p.val = 0 ∧
      e.getBit (F.PRT_ATT_STAT_DISWHY p.val) 0 = true ∧ e.get (F.PRT_CTRL_ENABLE p.val) = 0)) ∧
    (v.toNat.testBit 0 = true → v.toNat.testBit 2 = false → s.dev.get (F.PRT_ATT_STAT_DISWHY p.val) = 1 →
      s.dev.att p.val = 0 → s.dev.mode ≠ 2 →
      EndsDev (.prtEnable p v) s (fun e => e.get (F.PRT_ATT_STAT_DISWHY p.val) = 0 ∧ e.get (F.PRT_CTRL_ENABLE p.val) = 1 ∧
        (e.att p.val = 1 ∨ e.att p.val = 2 ∨ e.att p.val = 4 ∨ e.att p.val = 5))) ∧
    (1 ≤ bits v.toNat 8 8 → bits v.toNat 8 8 * 4 ^ bits v.toNat 5 3 ≤ 64000 → EndsDev (.ccfiltWrite p v) s (fun e =>
      e.get (F.PRT_CCFILT_FILTN p.val) = bits v.toNat 8 8 ∧ e.get (F.PRT_CCFILT_SI p.val) = bits v.toNat 5 3 ∧
      e.get (H.ccSince p.val 0) = (s.dev.now + 1) % 2 ^ 64 ∧ e.get (H.ccSince p.val 1) = (s.dev.now + 1) % 2 ^ 64 ∧
      OnlyRegs s.dev e [F.PRT_CCFILT_FILTN p.val, F.PRT_CCFILT_SI p.val, H.ccSince p.val 0, H.ccSince p.val 1, H.ccDue p.val 0,
        H.ccDue p.val 1])) ∧
    ((bits v.toNat 8 8 = 0 ∨ 64000 < bits v.toNat 8 8 * 4 ^ bits v.toNat 5 3) →
      exec (.ccfiltWrite p v) s = .next s)) ∧
  (∀ (s : State) (p : Fin 24), s.calm p.val = true →
    (s.dev.get (H.swAcc p.val) = 0 → s.dev.get (H.hrPhase p.val) = 0 → s.dev.get (H.detaching p.val) = 0 →
      s.dev.att p.val ≠ 5 → s.dev.att p.val ≠ 11 →
      EndsDev (.vbsDischarged p) s (fun e => e.get (F.PRT_ATT_STAT_VBS0 p.val) = 1 ∧
        e.get (F.PRT_ATT_STAT_VBSOK p.val) = 0 ∧
        OnlyRegs s.dev e [F.PRT_ATT_STAT_VBS0 p.val, F.PRT_ATT_STAT_VBSOK p.val, T.disLow p.val])) ∧
    (s.dev.get (H.swAcc p.val) = 0 → s.dev.get (H.hrPhase p.val) = 0 → s.dev.att p.val ≠ 2 → s.dev.att p.val ≠ 7 →
      EndsDev (.vbsPresent p) s (fun e => e.get (F.PRT_ATT_STAT_VBS0 p.val) = 0 ∧
        e.get (F.PRT_ATT_STAT_VBSOK p.val) = 1 ∧
        OnlyRegs s.dev e [F.PRT_ATT_STAT_VBS0 p.val, F.PRT_ATT_STAT_VBSOK p.val, T.disLow p.val])) ∧
    (s.dev.att p.val = 5 → s.dev.get (H.ccSettle p.val) = 1 → s.dev.get (H.detaching p.val) = 0 →
      (s.dev.attachTimes p.val).length < 15 →
      EndsDev (.vbsDischarged p) s (fun e => e.att p.val = 8 ∧ e.get (F.PRT_ATT_EVT_ATTACH p.val) = 1)) ∧
    (s.dev.att p.val = 2 → s.dev.get (H.ccSettle p.val) = 1 → (s.dev.attachTimes p.val).length < 15 →
      EndsDev (.vbsPresent p) s (fun e => e.att p.val = 3 ∧ e.get (F.PRT_ATT_EVT_ATTACH p.val) = 1)) ∧
    (s.dev.att p.val = 11 → s.dev.get (F.GRD_STAT_GATES p.val) = 0 → EndsDev (.vbsDischarged p) s (fun e =>
      e.att p.val = 1 ∨ e.att p.val = 2 ∨ e.att p.val = 4 ∨ e.att p.val = 5)))

/-- To a port that takes messages: a Ping only marks the line busy; a message the device does not support, or that the role or the
revision does not have, is answered Not_Supported, or Reject to a PD 2.0 partner, and sets RXUNSUP; capabilities, source
information, status and revision requests are answered with the objects of R194, or, to a source asked for its capabilities,
with the SRC_OFFER ask; Alerts and replies are stored in the receive area; a reply that a command awaits completes it; an
unchunked reply of more than 26 bytes is a protocol error; BIST Carrier and Test Data act at 5 V of an explicit contract only;
an unstructured VDM sets RXUVDM; a chunk request is answered with the rest of the message. A repeat of the last message, and
any message in the Test Data mode, gets its GoodCRC alone. A first message gives the partner's revision, and one in an
accepted swap gives ErrorRecovery. -/
def Obligations.InformationRequestsAreAnswered : Prop :=
  (∀ (s : State) (p : Fin 24) (hdr : BitVec 16), s.hears p.val hdr.toNat = true →
    EndsDev (.rxPing p hdr) s (fun e => e.get (H.lineBusy p.val) = 1 ∧ OnlyRegs s.dev e (rxFields p.val))) ∧
  (∀ (s : State) (p : Fin 24) (hdr : BitVec 16), s.calm p.val = true → s.dev.rxRepeat p.val 0 hdr.toNat = false →
    s.dev.get (H.bistData p.val) = 0 → s.dev.rxOn p.val = true → s.dev.get (H.swAcc p.val) = 0 →
    s.dev.pe p.val ≠ 19 → s.dev.get (F.PRT_PE_STAT_REV p.val) = 0 →
    EndsDev (.rxPing p hdr) s (fun e => e.get (F.PRT_PE_STAT_REV p.val) = (if bits hdr.toNat 6 2 ≤ 1 then 1 else 2))) ∧
  (∀ (s : State) (p : Fin 24) (hdr : BitVec 16), s.calm p.val = true → s.dev.rxRepeat p.val 0 hdr.toNat = false →
    s.dev.get (H.bistData p.val) = 0 → s.dev.rxOn p.val = true → s.dev.get (H.swAcc p.val) = 1 →
    s.dev.pe p.val ≠ 19 →
    EndsDev (.rxPing p hdr) s (fun e => e.att p.val = 9 ∧ e.get (F.PRT_SWAP_STAT_LASTEND p.val) = 13)) ∧
  (∀ (s : State) (p : Fin 24) (hdr : BitVec 16) (c : Instr), s.calm p.val = true → s.dev.rxOn p.val = true →
    (s.dev.rxRepeat p.val 0 hdr.toNat = true ∨ s.dev.get (H.bistData p.val) = 1) →
    (c = .rxPing p hdr ∨ c = .rxGotomin p hdr ∨ c = .rxUnsupportedMessage p hdr ∨ c = .rxUnstructuredVdm p hdr ∨
      c = .rxSoftReset p hdr) →
    EndsDev c s (fun e => e.txs p.val = s.dev.txs p.val ∧ OnlyRegs s.dev e (rxFields p.val))) ∧
  (∀ (s : State) (p : Fin 24) (hdr : BitVec 16) (c : Instr), s.hears p.val hdr.toNat = true →
    (c = .rxGotomin p hdr ∨ c = .rxUnsupportedMessage p hdr ∨
      (c = .rxGetSourceCap p hdr true ∧ (s.dev.isSrc p.val = false ∨ s.dev.pd2 p.val = true)) ∨
      (c = .rxGetSinkCap p hdr true ∧ s.dev.pd2 p.val = true) ∨
      (∃ k : Fin 3, c = .rxGetSourceInfo p hdr k ∧ s.dev.isSrc p.val = false) ∨
      (∃ k : Fin 3, c = .rxGetStatus p hdr k ∧ k.val ≤ 1 ∧ s.dev.pd2 p.val = true)) →
    EndsDev c s (fun e => e.get (F.PRT_PE_EVT_RXUNSUP p.val) = 1 ∧
      s.dev.sends e p.val ⟨0, if s.dev.pd2 p.val then 4 else 16, false, [], 0, 0⟩)) ∧
  (∀ (s : State) (p : Fin 24) (hdr : BitVec 16) (c : Instr) (f : TxFrame), s.hears p.val hdr.toNat = true →
    ((c = .rxGetSourceCap p hdr false ∧ s.dev.isSrc p.val = false ∧ f = ⟨0, 33, false, s.dev.infoCaps p.val, 36, 0⟩) ∨
      (c = .rxGetSinkCap p hdr false ∧ f = ⟨0, 36, false, s.dev.sinkCaps p.val false, 0, 0⟩) ∨
      (c = .rxGetSinkCap p hdr true ∧ s.dev.pd2 p.val = false ∧ f = ⟨0, 82, true, extObjs 44 0 (s.dev.sinkCaps p.val true), 37, 0⟩) ∨
      (c = .rxGetSourceInfo p hdr 0 ∧ s.dev.isSrc p.val = true ∧ s.dev.pd2 p.val = false ∧
        f = ⟨0, 65, true, extObjs 25 0 (s.dev.srcCapExt p.val), 0, 0⟩) ∨
      (c = .rxGetSourceInfo p hdr 1 ∧ s.dev.isSrc p.val = true ∧ f = ⟨0, 43, false, [s.dev.srcInfo p.val], 0, 0⟩) ∨
      (c = .rxGetStatus p hdr 0 ∧ s.dev.pd2 p.val = false ∧ f = ⟨0, 79, true, extObjs 24 0 (s.dev.snkCapExt p.val), 0, 0⟩) ∨
      (c = .rxGetStatus p hdr 1 ∧ s.dev.pd2 p.val = false ∧ f = ⟨0, 66, true, extObjs 7 0 (s.dev.statusWords p.val), 0, 0⟩) ∨
      (c = .rxGetStatus p hdr 2 ∧ f = ⟨0, 44, false, [0x32100000], 0, 0⟩) ∨
      (c = .rxEprKeepalive p hdr ∧ s.dev.isSrc p.val = true ∧ s.dev.epr p.val = true ∧ s.dev.pd2 p.val = false ∧
        f = ⟨0, 80, true, extObjs 2 0 [4], 0, 0⟩)) →
    EndsDev c s (fun e => s.dev.sends e p.val f ∧
      OnlyRegs s.dev { e with txq := s.dev.txq } ([T.srcKeep p.val, H.exOn p.val, H.exOwn p.val, H.exStart p.val,
        H.exS p.val, H.prevState p.val, H.lookEx p.val, H.exAns p.val] ++ txFields p.val ++ rxFields p.val))) ∧
  (∀ (s : State) (p : Fin 24) (hdr : BitVec 16), s.hears p.val hdr.toNat = true → s.dev.isSrc p.val = true →
    (s.dev.get (F.PRT_CONTRACT_VALID p.val) = 1 → s.dev.conKind p.val = 3 → s.dev.pd2 p.val = false →
      EndsDev (.rxGetSourceInfo p hdr 2) s (fun e => ∃ r, s.dev.sends e p.val ⟨0, 76, true, extObjs 4 0 [r], 0, 0⟩)) ∧
    EndsDev (.rxGetSourceCap p hdr false) s (fun e => e.get (H.offerDue p.val) = 1 ∧ e.get (H.offerEpr p.val) = 0 ∧
      e.get (H.exOn p.val) = 1 ∧ e.get (F.PRT_PE_STAT_ASKCODE p.val) = 0 ∧
      e.get (F.PRT_PE_STAT_ASKSER p.val) = s.dev.get (H.askNext p.val))) ∧
  (∀ (s : State) (p : Fin 24) (hdr ext : BitVec 16) (ado : Obj) (ws : List Obj), s.hears p.val hdr.toNat = true →
    EndsDev (.rxAlert p hdr ado) s (fun e => e.pstg p.val 0x41 = ado.toNat ∧ e.get (F.PRT_PE_EVT_RXALERT p.val) = 1) ∧
    ((hdr.toNat.testBit 15 = true ∧ ext.toNat.testBit 15 = false ∧ 26 < bits ext.toNat 0 9) → s.dev.get (H.hpmVerd p.val) = 0 →
      EndsDev (.rxReplyStored p hdr ext ws) s (fun e => e.pe p.val = 16 ∧ e.txs p.val = [⟨0, 13, false, [], 5, 0⟩] ∧
        e.get (F.PRT_PE_EVT_PROTERR p.val) = 1 ∧ e.stg = s.dev.stg)) ∧
    ((hdr.toNat.testBit 15 = false ∨ ext.toNat.testBit 15 = true ∨ bits ext.toNat 0 9 ≤ 26) → s.dev.get (H.await p.val) ≠ 6 →
      EndsDev (.rxReplyStored p hdr ext ws) s (fun e =>
        (∀ i w, i < 65 → ws[i]? = some w → e.pstg p.val (0x41 + i) = w.toNat) ∧
        e.pstg p.val 0x40 = (bits (s.dev.pstg p.val 0x40) 32 4 + 1) % 16 * 2 ^ 32 + hdr.toNat * 65536 + ext.toNat ∧
        OnlyRegs s.dev { e with stg := s.dev.stg } (H.crSent p.val :: rxFields p.val))) ∧
    (∀ (c : Cmd) (l : List Cmd), (hdr.toNat.testBit 15 = false ∨ ext.toNat.testBit 15 = true ∨ bits ext.toNat 0 9 ≤ 26) → s.dev.get (H.await p.val) = 6 → s.dev.get (H.cmdRun p.val) = 1 →
      s.dev.get (H.ceilCmdRun p.val) = 0 → s.dev.cmds p.val = c :: l → replyOf c.code = msgOf hdr.toNat →
      EndsDev (.rxReplyStored p hdr ext ws) s (fun e => completed e p.val c l 0 ∧ e.get (H.exOn p.val) = 0))) ∧
  (∀ (s : State) (p : Fin 24) (hdr : BitVec 16) (mode : BitVec 4), s.hears p.val hdr.toNat = true →
    (s.dev.explicit p.val = true → s.dev.conVolt p.val = 500 → mode = 5 → EndsDev (.rxBist p hdr mode) s (fun e =>
      e.get (H.bist p.val) = 1 ∧ e.get (T.bist p.val) = (s.dev.now + 2880001) % 2 ^ 64 ∧
      OnlyRegs s.dev e ([H.bist p.val, T.bist p.val] ++ rxFields p.val))) ∧
    (s.dev.explicit p.val = true → s.dev.conVolt p.val = 500 → mode = 8 → EndsDev (.rxBist p hdr mode) s (fun e =>
      e.get (H.bistData p.val) = 1 ∧ OnlyRegs s.dev e (H.bistData p.val :: rxFields p.val))) ∧
    (s.dev.explicit p.val = false ∨ s.dev.conVolt p.val ≠ 500 ∨ (mode ≠ 5 ∧ mode ≠ 8) → EndsDev (.rxBist p hdr mode) s (fun e =>
      OnlyRegs s.dev e (rxFields p.val))) ∧
    EndsDev (.rxUnstructuredVdm p hdr) s (fun e => e.get (F.PRT_PE_EVT_RXUVDM p.val) = 1 ∧ e.txs p.val = s.dev.txs p.val) ∧
    (s.dev.get (T.chunk p.val) ≠ 0 → s.dev.get (H.chunkNo p.val) = 1 → EndsDev (.rxChunkRequest p hdr) s (fun e =>
      e.get (H.chunkNo p.val) = 0 ∧ e.get (T.chunk p.val) = 0 ∧
      s.dev.sends e p.val ⟨0, 81, true, extObjs 44 1 (s.dev.offerKept p.val), 35, 0⟩)) ∧
    (s.dev.get (T.chunk p.val) ≠ 0 → s.dev.get (H.chunkNo p.val) = 2 → EndsDev (.rxChunkRequest p hdr) s (fun e =>
      e.get (H.chunkNo p.val) = 0 ∧ e.get (T.chunk p.val) = 0 ∧
      s.dev.sends e p.val ⟨0, 82, true, extObjs 44 1 (s.dev.sinkCaps p.val true), 0, 0⟩)) ∧
    (s.dev.isSnk p.val = true → s.dev.epr p.val = true → s.dev.hpmCon p.val = false →
      EndsDev (.rxEprKeepaliveAck p hdr) s (fun e => e.get (T.snkKeep p.val) = (s.dev.now + 24000001) % 2 ^ 64 ∧
        OnlyRegs s.dev e (T.snkKeep p.val :: rxFields p.val))))

/-- A GoodCRC takes the message on its way from the line, and tReceive repeats it up to twice. Capabilities go out when every
condition stands, and again while unacknowledged. A sink stores capabilities and has SNK_SELECT posted, an accepted Request
begins its power transition, PS_RDY makes its contract take effect once the GoodCRC to it has gone out, a Wait gives
tSinkRequest, and a refusal or silence completes a query command with its outcome. A source posts SRC_REQUEST for a valid
Request and rejects one for a position that does not exist. EPR mode is entered, refused and kept alive. The timers that
R204-R220 end with Hard_Reset begin one; a missing chunk and a received Soft_Reset begin a Soft_Reset exchange; a received
Hard_Reset begins the recovery of the role. An ask ends with its deadline or its answer, which a detach, another cancellation
or an answer that R30 puts first on the same tick makes late, and a default table entry is stored from boot ROM code alone. -/
def Obligations.NegotiationAndProtocolTimersComplete : Prop :=
  (∀ (s : State) (p : Fin 24) (f : TxFrame) (l : List TxFrame), s.calm p.val = true → s.dev.txs p.val = f :: l →
    (f.kind = 0 → EndsDev (.rxGoodcrc p) s (fun e => e.txs p.val = l ∧ (f.sop ≤ 2 →
      e.get (H.txMid p.val f.sop) = (s.dev.get (H.txMid p.val f.sop) + 1) % 8))) ∧
    (f.kind = 4 → EndsDev (.rxGoodcrc p) s (fun e => e.txs p.val = l ∧ e.get (H.await p.val) = 2 ∧
      e.get (T.senderResp p.val) = (s.dev.now + 1920001) % 2 ^ 64)) ∧
    (s.dev.get (T.rx p.val) ≠ 0 → f.tries < 2 → (f.sop = 0 ∨ s.dev.get F.SYS_SUPPLY_VCONNLOW = 0) →
      EndsDev (.treceiveExpiry p) s (fun e => e.txs p.val = { f with tries := f.tries + 1 } :: l ∧
        OnlyRegs s.dev { e with txq := s.dev.txq } (txFields p.val))) ∧
    (s.dev.get (T.rx p.val) ≠ 0 → 2 ≤ f.tries → f.kind = 1 → s.dev.get (H.capsCnt p.val) < 49 →
      EndsDev (.treceiveExpiry p) s (fun e => e.txs p.val = l ∧ e.get (H.capsCnt p.val) = s.dev.get (H.capsCnt p.val) + 1 ∧
        e.get (T.sendCaps p.val) = (s.dev.now + 9600001) % 2 ^ 64))) ∧
  (∀ (s : State) (p : Fin 24) (g : Dev → TxFrame), s.calm p.val = true → s.dev.isSrc p.val = true →
    g = (fun d => if s.dev.get (H.offerEpr p.val) = 0 then ⟨0, 33, false, (d.offerObjs p.val).1, 1, 0⟩
      else ⟨0, 81, true, extObjs 44 0 (padTo 11 (d.offerObjs p.val).1), 1, 0⟩) →
    (s.dev.get (H.offerDue p.val) = 1 → s.dev.get (H.offerOk p.val) = 1 → s.dev.get (H.vsafe5 p.val) = 1 →
      s.dev.get (H.discDone p.val) = 1 → s.dev.get (H.swCapWait p.val) = 0 → s.dev.txs p.val = [] →
      s.dev.get (H.await p.val) = 0 → s.dev.get (T.sinkTx p.val) = 0 → s.dev.get (H.offerOwn p.val) = 0 →
      EndsDev (.sourceCapsReady p) s (fun e => e.pe p.val = 2 ∧ e.get (H.offerDue p.val) = 0 ∧
        s.dev.sends e p.val (g (s.dev.stop (T.capsReady p.val))))) ∧
    (s.dev.get (T.sendCaps p.val) ≠ 0 →
      EndsDev (.ttypecSendSourceCapExpiry p) s (fun e => e.pe p.val = 2 ∧
        s.dev.sends e p.val (g (s.dev.stop (T.sendCaps p.val)))))) ∧
  (∀ (s : State) (p : Fin 24) (hdr : BitVec 16) (epr : Bool) (objs : List Obj), s.hears p.val hdr.toNat = true →
    s.dev.isSnk p.val = true → s.dev.get (H.xferOn p.val) = 0 → s.dev.get (H.await p.val) ≠ 6 →
    s.dev.get (H.resume p.val) = 0 →
    EndsDev (.rxSourceCapabilities p hdr epr objs) s (fun e =>
      e.pstg p.val 0x40 = (bits (s.dev.pstg p.val 0x40) 32 4 + 1) % 16 * 2 ^ 32 + hdr.toNat * 65536 +
        (if epr then (2 ^ 15 + 4 * objs.length) % 65536 else 0) ∧
      (∀ i : Fin 11, e.pstg p.val (0x20 + i.val) = (match objs[i.val]? with | some w => w.toNat | none => 0)) ∧
      e.get (F.PRT_PE_STAT_ASKCODE p.val) = 2 ∧ e.get (T.waitCap p.val) = 0)) ∧
  (∀ (s : State) (p : Fin 24) (hdr : BitVec 16), s.hears p.val hdr.toNat = true →
    (s.dev.get (H.await p.val) = 2 → EndsDev (.rxAccept p hdr) s (fun e => e.pe p.val = 10 ∧
      e.get (H.await p.val) = 0 ∧ e.get (H.snkMask p.val) = 1 ∧ e.get (H.xferOn p.val) = 1 ∧
      e.get (T.psTrans p.val) = (s.dev.now + (if s.dev.epr p.val then 925 else 500) * 64000 + 1) % 2 ^ 64)) ∧
    (s.dev.get (H.await p.val) = 2 → s.dev.get (H.waits p.val) < 2 → EndsDev (.rxWait p hdr) s (fun e =>
      e.get (H.await p.val) = 0 ∧ e.get (H.waits p.val) = s.dev.get (H.waits p.val) + 1 ∧
      e.get (T.sinkReq p.val) = (s.dev.now + 7040001) % 2 ^ 64)) ∧
    (s.dev.isSnk p.val = true → s.dev.get (T.psTrans p.val) ≠ 0 → s.dev.get (H.psDone p.val) = 0 →
      EndsDev (.rxPsRdy p hdr) s (fun e => e.get (H.psDone p.val) = 1 ∧ e.get (H.xferOn p.val) = 0 ∧
        e.get (H.maskEnd p.val) = (s.dev.now + 1280001) % 2 ^ 64 ∧
        e.get (T.psTrans p.val) = (s.dev.now + goodCrcTicks + 1) % 2 ^ 64 ∧
        e.get (F.PRT_HOLDSUM_SUM p.val) = s.dev.get (F.PRT_HOLDSUM_SUM p.val)))) ∧
  (∀ (s : State) (p : Fin 24), s.calm p.val = true →
    (s.dev.get (T.psTrans p.val) ≠ 0 → s.dev.get (H.psDone p.val) = 1 → s.dev.get (H.swAcc p.val) = 0 →
      bits (s.dev.get (H.newCon p.val)) 31 3 ≠ 6 →
      EndsDev (.tpsTransitionExpiry p) s (fun e => e.get (F.PRT_HOLDSUM_SUM p.val) = s.dev.get (H.newCon p.val) ∧
        e.get (F.PRT_CONTRACT_VALID p.val) = bits (s.dev.get (H.newCon p.val)) 35 1 ∧
        e.get (F.PRT_CONTRACT_KIND p.val) = bits (s.dev.get (H.newCon p.val)) 31 3 ∧
        e.get (F.PRT_CONTRACT_POS p.val) = bits (s.dev.get (H.newCon p.val)) 27 4 ∧
        e.get (F.PRT_CONTRACT_VOLT p.val) = bits (s.dev.get (H.newCon p.val)) 14 13 ∧
        e.get (F.PRT_CONTRACT_CURR p.val) = bits (s.dev.get (H.newCon p.val)) 0 14 ∧
        e.get (F.PRT_PE_EVT_CONTRACT p.val) = 1))) ∧
  (∀ (s : State) (p : Fin 24) (hdr : BitVec 16) (c : Cmd) (l : List Cmd) (i : Instr) (o : Nat),
    s.dev.get (H.await p.val) = 6 → s.dev.get (H.cmdRun p.val) = 1 → s.dev.get (H.ceilCmdRun p.val) = 0 →
    s.dev.cmds p.val = c :: l →
    ((s.hears p.val hdr.toNat = true ∧ ((i = .rxReject p hdr ∧ o = 1) ∨ (i = .rxNotSupported p hdr ∧ o = 2) ∨
      (i = .rxWait p hdr ∧ o = 4))) ∨ (s.dev.get (T.senderResp p.val) ≠ 0 ∧ i = .tsenderResponseExpiry p ∧ o = 3 ∧ s.calm p.val = true)) →
    EndsDev i s (fun e => completed e p.val c l o ∧ e.get (H.exOn p.val) = 0 ∧ e.get (H.await p.val) = 0)) ∧
  (∀ (s : State) (p : Fin 24) (hdr : BitVec 16) (rdo copy : Obj), s.hears p.val hdr.toNat = true → s.dev.isSrc p.val = true →
    s.dev.get (H.xferOn p.val) = 0 → s.dev.pe p.val ≠ 4 →
    ((rdoPos rdo.toNat = 0 ∨ 12 ≤ rdoPos rdo.toNat) → ∀ epr, EndsDev (.rxRequest p hdr epr rdo copy) s (fun e =>
      s.dev.sends e p.val ⟨0, 4, false, [], 39, 0⟩)) ∧
    (s.dev.requestOk p.val false rdo.toNat copy.toNat = true → s.dev.explicit p.val = false →
      s.dev.get (H.resume p.val) = 0 → EndsDev (.rxRequest p hdr false rdo copy) s (fun e =>
        e.get (H.rdoNew p.val) = rdo.toNat ∧ e.get (F.PRT_PE_STAT_ASKCODE p.val) = 1 ∧ e.pe p.val = 3))) ∧
  (∀ (s : State) (p : Fin 24) (hdr : BitVec 16) (data : BitVec 8), s.hears p.val hdr.toNat = true →
    s.dev.pd2 p.val = false →
    (s.dev.isSrc p.val = true → s.dev.get (F.PRT_PE_CTRL_EPREN p.val) = 0 →
      EndsDev (.rxEprMode p hdr 1 data) s (fun e => s.dev.sends e p.val ⟨0, 42, false, eprMode 4 4, 34, 0⟩ ∧ e.pe p.val = 13)) ∧
    (s.dev.get (T.enterEpr p.val) ≠ 0 → s.dev.isSnk p.val = true → EndsDev (.rxEprMode p hdr 3 data) s (fun e =>
      e.get (F.PRT_PE_STAT_EPR p.val) = 1 ∧ e.get (F.PRT_PE_EVT_EPRCHG p.val) = 1 ∧ e.get (T.enterEpr p.val) = 0 ∧
      e.get (T.snkKeep p.val) = (s.dev.now + 24000001) % 2 ^ 64 ∧ e.pe p.val = 7))) ∧
  (∀ (s : State) (p : Fin 24) (i : Instr), s.calm p.val = true → s.dev.attached p.val = true →
    ((i = .tsenderResponseExpiry p ∧ s.dev.get (T.senderResp p.val) ≠ 0 ∧ s.dev.get (H.await p.val) = 2) ∨
      (i = .ttypecSinkWaitCapExpiry p ∧ s.dev.get (T.waitCap p.val) ≠ 0 ∧ s.dev.get (H.hrTry p.val) < 2) ∨
      (i = .tpsTransitionExpiry p ∧ s.dev.get (T.psTrans p.val) ≠ 0 ∧ s.dev.get (H.psDone p.val) = 0) ∨
      (i = .tppsTimeoutExpiry p ∧ s.dev.get (T.ppsTo p.val) ≠ 0) ∨
      (i = .tsourceEprKeepaliveExpiry p ∧ s.dev.get (T.srcKeep p.val) ≠ 0)) →
    EndsDev i s (fun e => hardResetBegun s.dev e p.val)) ∧
  (∀ (s : State) (p : Fin 24) (hdr : BitVec 16), s.dev.get (H.hpmVerd p.val) = 0 →
    (s.calm p.val = true → s.dev.listens p.val = true → s.dev.rxRepeat p.val 0 hdr.toNat = false →
      s.dev.get (H.bistData p.val) = 0 → EndsDev (.rxSoftReset p hdr) s (fun e => e.pe p.val = 16 ∧
      e.txs p.val = [⟨0, 3, false, [], 6, 0⟩] ∧ e.get (F.PRT_PE_EVT_SOFTRST p.val) = 1)) ∧
    (s.calm p.val = true → s.dev.get (H.swAcc p.val) = 0 → s.dev.get (T.chunk p.val) ≠ 0 → EndsDev (.tchunkExpiry p) s (fun e =>
      e.pe p.val = 16 ∧ e.txs p.val = [⟨0, 13, false, [], 5, 0⟩] ∧ e.get (F.PRT_PE_EVT_PROTERR p.val) = 1))) ∧
  (∀ (s : State) (p : Fin 24), s.calm p.val = true → s.dev.mode ≠ 2 → s.dev.attached p.val = true → s.dev.get (H.pdOn p.val) = 1 →
    s.dev.get (H.swAcc p.val) = 0 → EndsDev (.rxHardReset p) s (fun e => e.pe p.val = 17 ∧
      e.get (F.PRT_PE_EVT_HARDRST p.val) = 1 ∧ e.get (F.PRT_CONTRACT_VALID p.val) = 0 ∧
      (s.dev.isSrc p.val = true → e.get (H.hrPhase p.val) = 2 ∧ e.get (T.psHr p.val) = (s.dev.now + 1920001) % 2 ^ 64) ∧
      (s.dev.isSnk p.val = true → e.get (H.iset p.val) = 0 ∧
        e.get (H.hrPhase p.val) = (if s.dev.get (F.PRT_ATT_STAT_VBS0 p.val) = 1 then 6 else 5)))) ∧
  (∀ (s : State) (p : Fin 24), s.calm p.val = true →
    (s.dev.get (T.sinkReq p.val) ≠ 0 → s.dev.permitted p.val = false → EndsDev (.tsinkRequestExpiry p) s (fun e =>
      e.get (H.reqHeld p.val) = 1 ∧ OnlyRegs s.dev e [H.reqHeld p.val, T.sinkReq p.val])) ∧
    (s.dev.get (T.sinkReq p.val) ≠ 0 → s.dev.permitted p.val = true → s.dev.pe p.val = 12 → EndsDev (.tsinkRequestExpiry p) s (fun e =>
      s.dev.sends e p.val ⟨0, 11, false, [], 11, 0⟩)) ∧
    (s.dev.get (T.ppsReq p.val) ≠ 0 → EndsDev (.tppsRequestExpiry p) s (fun e => e.getBit (H.want p.val) 2 = true ∧
      e.get (T.ppsReq p.val) = (s.dev.now + 320000001) % 2 ^ 64 ∧
      OnlyRegs s.dev e [H.want p.val, T.cmdStart p.val, T.ppsReq p.val])) ∧
    (s.dev.get (T.snkKeep p.val) ≠ 0 → EndsDev (.tsinkEprKeepaliveExpiry p) s (fun e => e.getBit (H.want p.val) 1 = true ∧
      e.get (T.snkKeep p.val) = (s.dev.now + 24000001) % 2 ^ 64 ∧
      OnlyRegs s.dev e [H.want p.val, T.cmdStart p.val, T.snkKeep p.val])) ∧
    (∀ (c : Cmd) (l : List Cmd), s.dev.get (T.enterEpr p.val) ≠ 0 → s.dev.get (H.cmdRun p.val) = 1 →
      s.dev.get (H.ceilCmdRun p.val) = 0 → s.dev.cmds p.val = c :: l →
      EndsDev (.tenterEprExpiry p) s (fun e => completed e p.val c l 3 ∧ e.get (T.enterEpr p.val) = 0)) ∧
    EndsDev (.tnoResponseExpiry p) s (fun e => e.get (T.noResp p.val) = 0 ∧ OnlyRegs s.dev e [T.noResp p.val]) ∧
    (s.dev.get (T.bist p.val) ≠ 0 → EndsDev (.tbistContModeExpiry p) s (fun e => e.get (H.bist p.val) = 0 ∧
      e.get (T.bist p.val) = 0 ∧ OnlyRegs s.dev e [H.bist p.val, T.bist p.val])) ∧
    EndsDev (.lineFree p) s (fun e => e.get (H.lineBusy p.val) = 0 ∧ e.get (T.lineFree p.val) = 0 ∧
      (s.dev.get (H.hpmPend p.val) = 1 → e.get (T.hpmCond p.val) = (s.dev.now + 1) % 2 ^ 64) ∧
      OnlyRegs s.dev e [H.lineBusy p.val, T.lineFree p.val, T.hpmCond p.val, H.ceilTick p.val, T.ownCeil p.val])) ∧
  (∀ (s : State) (p : Fin 24), s.calm p.val = true → s.dev.get (T.ask p.val) ≠ 0 → s.dev.get (F.PRT_PE_STAT_ASKPEND p.val) = 1 →
    s.dev.get (F.PRT_PE_STAT_ASKCODE p.val) = 0 → (s.dev.pstg p.val 0x30).testBit 31 = false →
    EndsDev (.askDeadline p) s (fun e => e.get (F.PRT_PE_STAT_ASKPEND p.val) = 0 ∧ e.get (T.ask p.val) = 0 ∧
      e.get (F.PRT_PE_EVT_ASKDEF p.val) = 1 ∧ e.get (H.offerOk p.val) = 1 ∧ e.get (H.offerMask p.val) = 2047 ∧
      (s.dev.get (T.ask p.val) < s.dev.now + 1 → s.dev.get H.dlmTick ≠ s.dev.now + 1 →
        e.get F.FAB_DLM_KIND = 2 ∧ e.get F.FAB_DLM_INDEX = p.val))) ∧
  (∀ (s : State) (a : Agent) (p : Fin 24) (v : Word) (act : Nat) (u : State), act = bits v.toNat 16 3 →
    u = s.onDev (fun d => d.touch a) →
    (u.keepsPort p.val = true → u.answerLate a p.val = false → u.dev.get (F.PRT_PE_STAT_ASKPEND p.val) = 1 → bits v.toNat 24 12 = u.dev.get (F.PRT_PE_STAT_ASKSER p.val) →
      bits v.toNat 20 4 = 0 → u.dev.get (F.PRT_PE_STAT_ASKCODE p.val) = 0 → u.dev.now + 1 < u.dev.get (T.ask p.val) →
      act ≤ 1 → EndsDev (.askAnswer a p v) s (fun e => e.get (F.PRT_PE_STAT_ASKPEND p.val) = 0 ∧
        e.get (H.offerOk p.val) = 1 ∧ e.get (H.offerMask p.val) = (if act = 1 then
          u.dev.get (F.PRT_ASK_ARG_ARG p.val a.copy) % 2048 ||| 1 else 2047) ∧
        OnlyRegs u.dev e [F.PRT_PE_STAT_ASKPEND p.val, T.ask p.val, H.offerOk p.val, H.offerMask p.val,
          T.capsReady p.val])) ∧
    (u.keepsPort p.val = true → (u.answerLate a p.val = true ∨ u.dev.get (F.PRT_PE_STAT_ASKPEND p.val) = 0 ∨ bits v.toNat 24 12 ≠ u.dev.get (F.PRT_PE_STAT_ASKSER p.val) ∨
      u.dev.get (T.ask p.val) ≤ u.dev.now + 1) → EndsDev (.askAnswer a p v) s (fun e =>
        e.get (F.PRT_PE_EVT_ANSLATE p.val) = 1 ∧
        ∀ f : Fld, f.quiet = true → f.key ≠ (F.PRT_PE_EVT_ANSLATE p.val).key → e.get f = u.dev.get f)) ∧
    (u.dev.isRom a = true → (8 < bits v.toNat 32 4 ∨ actAllowed (bits v.toNat 32 4) (bits v.toNat 28 3) = true) →
      EndsDev (.ddtLoad a p v) s (fun e => e.pstg p.val (0x30 + bits v.toNat 32 4) = v.toNat % 2 ^ 32 ∧
        OnlyRegs u.dev { e with stg := u.dev.stg } [])) ∧
    (u.dev.isRom a = false → EndsDev (.ddtLoad a p v) s (fun e => e.get (F.PRT_PE_EVT_DDTWR p.val) = 1 ∧
      e.stg = u.dev.stg)))

/-- The end of tSrcTransition begins the ramp to the negotiated voltage, the end of the ramp the settling that the PGTO of its
start bounds, or the Request that waited for it, and the settled converter sends the closing message of its transition; PGTO
and a lost PnnPG give XFERFAIL or PGLOST with a Hard_Reset, and a sink's setpoint follows PnnPG. The measured current of a PPS
source moves its setpoint by 20 mV. A Hard_Reset goes through tPSHardReset, the fall to 0 V and tSrcRecover. In a swap each
wait, gate stop, failure and start acts as its step says, a failure with its code in LASTEND; a PR_Swap received is answered
Wait, Reject, or with the ask. -/
def Obligations.TransitionsRecoveriesAndSwapsComplete : Prop :=
  (∀ (s : State) (p : Fin 24) (v : Nat), s.calm p.val = true → s.dev.get (T.srcTrans p.val) ≠ 0 → v = bits (s.dev.get (H.newCon p.val)) 14 13 →
    (s.dev.get (H.swAcc p.val) = 0 → s.dev.get (H.resume p.val) = 0 → EndsDev (.tsrcTransitionExpiry p) s (fun e =>
      e.get (H.xferOn p.val) = 1 ∧ e.get (H.xferKind p.val) = 1 ∧ e.get (H.vset p.val) = v ∧
      e.get (H.vexp p.val) = max (s.dev.get (H.vexp p.val)) v ∧
      e.get (T.ramp p.val) = (s.dev.now + cdiv ((max v (s.dev.vLevel p.val) - min v (s.dev.vLevel p.val)) * 640)
        (max 1 (s.dev.get (F.PRT_XFER_SLEW p.val))) + 1) % 2 ^ 64 ∧
      OnlyRegs s.dev e [T.srcTrans p.val, H.xferOn p.val, H.xferKind p.val, H.vexp p.val, H.vfrom p.val, H.vset p.val,
        H.vnow p.val, H.vStart p.val, H.vDur p.val, H.pgtoLat p.val, H.imode p.val, H.settleOn p.val, T.ramp p.val])) ∧
    (s.dev.get (H.swAcc p.val) = 1 → EndsDev (.tsrcTransitionExpiry p) s (fun e => e.get (H.vset p.val) = 0 ∧
      e.get (T.safe0v p.val) = (s.dev.now + 41600001) % 2 ^ 64))) ∧
  (∀ (s : State) (p : Fin 24), s.calm p.val = true → s.dev.get (T.ramp p.val) ≠ 0 → s.dev.get (H.hrPhase p.val) = 0 →
    s.dev.get (H.swAcc p.val) = 0 →
    (s.dev.get (H.rampReq p.val) = 0 → s.dev.get (H.imode p.val) = 0 → s.dev.get (H.xferOn p.val) = 1 →
      EndsDev (.rampEnd p) s (fun e => e.get (H.settleOn p.val) = 1 ∧
        e.get (T.pgto p.val) = (s.dev.now + s.dev.get (H.pgtoLat p.val) * 64000 + 1) % 2 ^ 64 ∧
        OnlyRegs s.dev e [T.ramp p.val, H.settleOn p.val, T.pgto p.val])) ∧
    (s.dev.get (H.rampReq p.val) = 1 → s.dev.epr p.val = false → EndsDev (.rampEnd p) s (fun e =>
      s.dev.sends e p.val ⟨0, 34, false, [s.dev.get (H.rdoNew p.val)], 4, 0⟩ ∧ e.get (H.rampReq p.val) = 0))) ∧
  (∀ (s : State) (p : Fin 24), s.calm p.val = true →
    (s.dev.get (H.settleOn p.val) = 1 → s.dev.get (H.snkMask p.val) ≠ 1 →
      (s.dev.get (H.xferKind p.val) = 1 ∨ s.dev.get (H.xferKind p.val) = 3) → EndsDev (.transitionSettled p) s (fun e =>
        s.dev.sends e p.val ⟨0, 6, false, [], if s.dev.get (H.xferKind p.val) = 1 then 3 else 10, 0⟩ ∧
        e.get (T.pgto p.val) = 0)) ∧
    (s.dev.isSnk p.val = true → s.dev.get (H.snkMask p.val) = 1 → s.dev.get (H.maskEnd p.val) ≠ 0 →
      EndsDev (.transitionSettled p) s (fun e => e.get (H.snkMask p.val) = 0 ∧ OnlyRegs s.dev e [H.snkMask p.val])) ∧
    (s.dev.get (T.pgto p.val) ≠ 0 → s.dev.get (H.swAcc p.val) = 0 → s.dev.attached p.val = true →
      s.dev.get (H.xferKind p.val) ≠ 2 → EndsDev (.pgtoExpiry p) s (fun e =>
        e.get (F.PRT_PE_EVT_XFERFAIL p.val) = 1 ∧ hardResetBegun s.dev e p.val)) ∧
    (s.dev.get (H.swAcc p.val) = 0 → s.dev.isSrc p.val = true → s.dev.get (F.PRT_CONTRACT_VALID p.val) = 1 →
      EndsDev (.pgLost p) s (fun e => e.get (H.pg p.val) = 0 ∧ e.get (F.PRT_PE_EVT_PGLOST p.val) = 1 ∧
        hardResetBegun s.dev e p.val)) ∧
    (s.dev.get (H.swAcc p.val) = 0 → s.dev.isSnk p.val = true → EndsDev (.pgLost p) s (fun e =>
      e.get (H.pg p.val) = 0 ∧ e.get (F.PRT_PE_EVT_PGLOST p.val) = 1 ∧ e.get (H.iset p.val) = 0 ∧
      e.get (F.PRT_CONTRACT_VALID p.val) = s.dev.get (F.PRT_CONTRACT_VALID p.val))) ∧
    (s.dev.get (H.pg p.val) = 0 → s.dev.get (H.swAcc p.val) = 0 → s.dev.isSnk p.val = true → s.dev.gatesOn p.val = true →
      s.dev.get (H.rampReq p.val) = 0 → EndsDev (.pgRestored p) s (fun e => e.get (H.pg p.val) = 1 ∧ e.get (H.iset p.val) = s.dev.sinkPoint p.val % 65536 ∧
        e.get (T.ramp p.val) = (s.dev.now + 64001) % 2 ^ 64 ∧ OnlyRegs s.dev e [H.pg p.val, H.iset p.val, H.imode p.val, H.ifrom p.val,
          H.iStart p.val, H.iDur p.val, T.ramp p.val]))) ∧
  (∀ (s : State) (p : Fin 24) (i : Nat), s.calm p.val = true → s.dev.isSrc p.val = true → s.dev.get (F.PRT_CONTRACT_VALID p.val) = 1 →
    s.dev.conKind p.val = 3 → s.dev.get (H.xferOn p.val) = 0 → EndsDev (.ppsCurrentStep p i) s (fun e =>
      (s.dev.conCurr p.val * 10 + 50 < i →
        apdoMin (s.dev.offered p.val (s.dev.get (H.rdo p.val))) + 2 ≤ s.dev.vLevel p.val →
        e.vLevel p.val + 2 = s.dev.vLevel p.val) ∧
      (s.dev.conCurr p.val * 10 ≤ i → i ≤ s.dev.conCurr p.val * 10 + 50 →
        e.vLevel p.val = s.dev.vLevel p.val) ∧
      (i < s.dev.conCurr p.val * 10 → e.vLevel p.val = min (s.dev.vLevel p.val + 2) (s.dev.conVolt p.val)) ∧
      OnlyRegs s.dev e [H.vnow p.val, H.vDur p.val])) ∧
  (∀ (s : State) (p : Fin 24), s.calm p.val = true → s.dev.get (H.hrPhase p.val) = 1 →
    (s.dev.isSnk p.val = false → s.dev.get (H.cmdRun p.val) = 0 → EndsDev (.hardResetSignallingSent p) s (fun e =>
      e.get (H.hrPhase p.val) = 2 ∧ e.get (T.psHr p.val) = (s.dev.now + 1920001) % 2 ^ 64 ∧
      OnlyRegs s.dev e [H.hrPhase p.val, T.psHr p.val, T.hrDone p.val])) ∧
    (s.dev.isSnk p.val = true → EndsDev (.hardResetSignallingSent p) s (fun e => e.get (H.iset p.val) = 0 ∧
      e.get (H.hrPhase p.val) = (if s.dev.get (F.PRT_ATT_STAT_VBS0 p.val) = 1 then 6 else 5) ∧
      ((s.dev.gates p.val = 1 ∨ s.dev.gates p.val = 2) → e.gates p.val = 3 ∧ e.get (F.GRD_STAT_STOPWHY p.val) = 20))) ∧
    (∀ (c : Cmd) (l : List Cmd), s.dev.get (H.cmdRun p.val) = 1 → s.dev.cmds p.val = c :: l →
      EndsDev (.hardResetSignallingSent p) s (fun e => completed e p.val c l 0))) ∧
  (∀ (s : State) (p : Fin 24), s.calm p.val = true →
    (s.dev.get (T.psHr p.val) ≠ 0 → s.dev.get (H.hrPhase p.val) = 2 → EndsDev (.tpsHardResetExpiry p) s (fun e =>
      e.get (H.hrPhase p.val) = 3 ∧ e.get (H.vset p.val) = 0 ∧ e.get (F.GRD_STAT_DISON p.val) = 1 ∧
      e.get (T.safe0v p.val) = (s.dev.now + 41600001) % 2 ^ 64)) ∧
    (s.dev.get (T.safe0v p.val) ≠ 0 → s.dev.get (H.swAcc p.val) = 0 → s.dev.get (H.hrPhase p.val) = 3 →
      s.dev.att p.val ≠ 0 → EndsDev (.tsafe0vExpiry p) s (fun e => e.att p.val = 9)) ∧
    (s.dev.get (T.srcRec p.val) ≠ 0 → s.dev.get (H.hrPhase p.val) = 4 → s.dev.get (H.pdOn p.val) = 1 →
      EndsDev (.tsrcRecoverExpiry p) s (fun e => e.get (H.hrPhase p.val) = 0 ∧ e.get (H.vset p.val) = 500 ∧
        e.pe p.val = 1 ∧ e.get (F.PRT_PE_STAT_ASKCODE p.val) = 0 ∧ e.get (H.offerDue p.val) = 1))) ∧
  (∀ (s : State) (p : Fin 24), s.calm p.val = true → s.dev.get (F.PRT_SWAP_STAT_STEP p.val) = 3 →
    ((s.dev.get (T.backOff p.val) ≠ 0 → 4 < s.dev.get (H.swBack p.val) → EndsDev (.backOffExpiry p) s (fun e =>
      e.get (F.PRT_SWAP_STAT_STEP p.val) = 0 ∧ e.get (F.PRT_SWAP_STAT_LASTEND p.val) = 4))) ∧
    (s.dev.get (T.prWait p.val) ≠ 0 → s.dev.get (H.swBack p.val) ≤ 4 → EndsDev (.tprSwapWaitExpiry p) s (fun e =>
      e.get (F.PRT_SWAP_STAT_STEP p.val) = 1 ∧ e.get (T.cmdStart p.val) = (s.dev.now + 1) % 2 ^ 64 ∧
      OnlyRegs s.dev e [F.PRT_SWAP_STAT_STEP p.val, T.cmdStart p.val, T.prWait p.val])) ∧
    (s.dev.get (T.backOff p.val) ≠ 0 → s.dev.get (H.swBack p.val) ≤ 4 → EndsDev (.backOffExpiry p) s (fun e =>
      e.get (F.PRT_SWAP_STAT_STEP p.val) = 1 ∧ e.get (T.cmdStart p.val) = (s.dev.now + 1) % 2 ^ 64 ∧
      OnlyRegs s.dev e [F.PRT_SWAP_STAT_STEP p.val, T.cmdStart p.val, T.backOff p.val]))) ∧
  (∀ (s : State) (p : Fin 24), s.calm p.val = true → s.dev.get (T.swGates p.val) ≠ 0 → (s.dev.gates p.val = 1 ∨ s.dev.gates p.val = 2) →
    EndsDev (.swapGatesOffDelay p) s (fun e => e.gates p.val = 3 ∧ e.get (F.GRD_STAT_STOPWHY p.val) = 21 ∧
      e.get (H.grdSink p.val) = 0 ∧ e.get (H.vexp p.val) = 500)) ∧
  (∀ (s : State) (p : Fin 24) (i : Instr) (code : Nat), s.calm p.val = true → s.dev.get (H.swAcc p.val) = 1 → s.dev.att p.val ≠ 0 →
    ((i = .tpsSourceOffExpiry p ∧ s.dev.get (T.psOff p.val) ≠ 0 ∧ code = 8) ∨
      (i = .tpsSourceOnExpiry p ∧ s.dev.get (T.psOn p.val) ≠ 0 ∧ s.dev.get (F.PRT_SWAP_STAT_STEP p.val) = 7 ∧ code = 9) ∨
      (i = .tpsSourceOnExpiry p ∧ s.dev.get (T.psOn p.val) ≠ 0 ∧ s.dev.get (F.PRT_SWAP_STAT_STEP p.val) = 9 ∧
        s.dev.txs p.val = [] ∧ code = 11) ∨
      (i = .swapVbsTimeout p ∧ s.dev.get (T.swVbs p.val) ≠ 0 ∧ code = 10) ∨
      (i = .tsafe0vExpiry p ∧ s.dev.get (T.safe0v p.val) ≠ 0 ∧ code = 10) ∨
      (i = .pgtoExpiry p ∧ s.dev.get (T.pgto p.val) ≠ 0 ∧ code = 11) ∨ (i = .rxHardReset p ∧ s.dev.mode ≠ 2 ∧
        s.dev.attached p.val = true ∧ s.dev.get (H.pdOn p.val) = 1 ∧ code = 12)) →
    EndsDev i s (fun e => e.att p.val = 9 ∧ e.get (F.PRT_SWAP_STAT_LASTEND p.val) = code ∧
      e.get (F.PRT_SWAP_STAT_STEP p.val) = 0 ∧ e.get (F.PRT_SWAP_STAT_FAIL p.val) = 1 ∧
      e.get (F.PRT_SWAP_STAT_SWCNT p.val) = s.dev.get (F.PRT_SWAP_STAT_SWCNT p.val))) ∧
  (∀ (s : State) (p : Fin 24), s.calm p.val = true → s.dev.get (T.swStart p.val) ≠ 0 → EndsDev (.tswapSourceStartExpiry p) s (fun e =>
    e.get (H.swCapWait p.val) = 0 ∧ e.get (T.capsReady p.val) = (s.dev.now + 1) % 2 ^ 64 ∧ e.get (T.swStart p.val) = 0 ∧
    OnlyRegs s.dev e [H.swCapWait p.val, T.capsReady p.val, T.swStart p.val])) ∧
  (∀ (s : State) (p : Fin 24) (hdr : BitVec 16), s.hears p.val hdr.toNat = true →
    (s.dev.get (F.PRT_SWAP_STAT_STEP p.val) = 2 → EndsDev (.rxPrSwap p hdr) s (fun e =>
      s.dev.sends e p.val ⟨0, 12, false, [], 0, 0⟩ ∧ e.get (F.PRT_SWAP_STAT_COLL p.val) = 1)) ∧
    (s.dev.get (F.PRT_SWAP_STAT_STEP p.val) ≠ 2 → s.dev.ownAwaits p.val = true → EndsDev (.rxPrSwap p hdr) s (fun e =>
      s.dev.sends e p.val ⟨0, 12, false, [], 38, 0⟩ ∧ e.get (H.swAns p.val) = 1)) ∧
    (s.dev.get (F.PRT_SWAP_STAT_STEP p.val) ≠ 2 → s.dev.get (H.exOn p.val) = 0 →
      (s.dev.explicit p.val = false ∨ s.dev.epr p.val = true ∨ s.dev.get (F.PRT_SWAP_CTRL_RXEN p.val) = 0 ∨
        (s.dev.get (F.PRT_CTRL_ROLE p.val) = 1 ∧ s.dev.isSrc p.val = true) ∨
        (s.dev.get (F.PRT_CTRL_ROLE p.val) = 2 ∧ s.dev.isSrc p.val = false)) →
      EndsDev (.rxPrSwap p hdr) s (fun e => s.dev.sends e p.val ⟨0, 4, false, [], 38, 0⟩ ∧ e.get (H.swAns p.val) = 1 ∧
        e.get (F.PRT_SWAP_STAT_LASTEND p.val) = 2 ∧ e.get (F.PRT_SWAP_STAT_INIT p.val) = 0)) ∧
    (s.dev.get (F.PRT_SWAP_STAT_STEP p.val) = 0 → s.dev.get (H.exOn p.val) = 0 → s.dev.explicit p.val = true →
      s.dev.epr p.val = false → s.dev.get (F.PRT_SWAP_CTRL_RXEN p.val) = 1 → s.dev.get (F.PRT_CTRL_ROLE p.val) = 0 →
      s.dev.cmds p.val = [] → EndsDev (.rxPrSwap p hdr) s (fun e => e.get (F.PRT_PE_STAT_ASKCODE p.val) = 5 ∧
        e.get (F.PRT_SWAP_STAT_INIT p.val) = 0 ∧ e.get (H.exOn p.val) = 1)))

/-- An answer that belongs to the request in progress takes it on: identity objects and telemetry are stored with their status, a
NAK to Enter Mode records failure 4, a BUSY repeats the request after tVDMBusy, up to three times; silence repeats Discover
Identity on SOP'. Requests are answered with ACK or NAK. The pilot check runs once while the line is free, and its end records
failure 1 or has HPM_TRY posted. The ACK to Enter Mode enters when the GoodCRC to it has gone out. In HPM an offer, a request,
an accept, a transition, a ready and a ceiling act in their steps, outside it they are answered NAK; a wait that ends records
its failure code. The own ceiling goes out with a new SEQ, and telemetry is polled. Profiles are loaded from boot ROM code
alone. -/
def Obligations.HeavyPortModeCommandsComplete : Prop :=
  (∀ (s : State) (p : Fin 24) (hdr : BitVec 16) (h : Obj) (v : List Obj), s.hears p.val hdr.toNat = true →
    s.dev.vdmMatches p.val 0 h.toNat = true →
    (s.dev.get (H.vdmWhat p.val) = 1 → (v.map (·.toNat)).headD 0 / 2 ^ 26 % 2 = 0 → s.dev.pe p.val ≠ 1 →
      s.dev.get (H.hpmOn p.val) = 0 →
      EndsDev (.rxVdmAck p 0 hdr h v) s (fun e => e.get (F.PRT_VDM_STAT_PTNID p.val) = 1 ∧
        e.get (F.PRT_VDM_STAT_PTNRES p.val) = 1 ∧ e.pstg p.val 0x82 = (v.map (·.toNat)).getD 0 0 ∧
        e.get (F.PRT_HPM_EVT_DISC p.val) = 1)) ∧
    (s.dev.get (H.vdmWhat p.val) = 7 → EndsDev (.rxVdmAck p 0 hdr h v) s (fun e =>
      (∀ i : Fin 3, e.pstg p.val (0xB0 + i.val) = (v.map (·.toNat)).getD i.val 0) ∧
      e.get (F.PRT_HPM_EVT_TELEM p.val) = 1 ∧ e.get (H.vdmWhat p.val) = 0)) ∧
    (s.dev.get (H.vdmWhat p.val) = 4 → EndsDev (.rxVdmAck p 0 hdr h v) s (fun e => e.get (H.enterAck p.val) = 1 ∧
      e.get (T.vdmMode p.val) = (s.dev.now + goodCrcTicks + 1) % 2 ^ 64 ∧
      OnlyRegs s.dev e ([H.enterAck p.val, T.vdmMode p.val, T.vdmResp p.val] ++ rxFields p.val))) ∧
    (s.dev.get (H.vdmWhat p.val) = 4 → EndsDev (.rxVdmNak p 0 hdr h) s (fun e =>
      e.get (F.PRT_HPM_STAT_FAILWHY p.val) = 4 ∧ e.get (F.PRT_HPM_EVT_FAIL p.val) = 1 ∧
      e.get (F.PRT_HPM_STAT_STATE p.val) = 0 ∧ e.get (H.exOn p.val) = 0)) ∧
    (s.dev.get (H.vdmBusyN p.val) < 3 → EndsDev (.rxVdmBusy p 0 hdr h) s (fun e =>
      e.get (H.vdmBusyN p.val) = s.dev.get (H.vdmBusyN p.val) + 1 ∧
      e.get (T.vdmBusy p.val) = (s.dev.now + 3200001) % 2 ^ 64 ∧
      OnlyRegs s.dev e ([H.vdmBusyN p.val, T.vdmBusy p.val, T.vdmResp p.val, T.vdmMode p.val] ++ rxFields p.val)))) ∧
  (∀ (s : State) (p : Fin 24) (v : List Obj) (hdr : BitVec 16) (h : Obj), s.calm p.val = true → s.dev.rxOn p.val = true →
    s.dev.rxRepeat p.val 1 hdr.toNat = false →
    s.dev.vdmMatches p.val 1 h.toNat = true → s.dev.get (H.vdmWhat p.val) = 1 →
    bits ((v.map (·.toNat)).getD 0 0) 26 4 = 6 → s.dev.pe p.val ≠ 1 → 
    EndsDev (.rxVdmAck p 1 hdr h v) s (fun e => e.get (F.PRT_VDM_STAT_CBLID p.val) = 1 ∧
      e.get (F.PRT_VDM_STAT_CBLACT p.val) = 0 ∧ e.get (F.PRT_VDM_STAT_CBLRES p.val) = 1 ∧
      e.get (F.PRT_VDM_STAT_CBL5A p.val) = (if bits ((v.map (·.toNat)).getD 3 0) 5 2 = 2 then 1 else 0) ∧
      e.get (F.PRT_VDM_STAT_CBLEPR p.val) = bits ((v.map (·.toNat)).getD 3 0) 17 1)) ∧
  (∀ (s : State) (p : Fin 24), s.calm p.val = true →
    (s.dev.get (T.vdmBusy p.val) ≠ 0 → s.dev.get (H.vdmWhat p.val) = 7 → EndsDev (.tvdmBusyExpiry p) s (fun e =>
      s.dev.sends e p.val ⟨s.dev.get (H.vdmTgt p.val), 47, false, [s.dev.vdmHdr p.val 0x3C5A 1 0 0x17], 19, 0⟩ ∧
      e.get (T.vdmBusy p.val) = 0)) ∧
    (s.dev.get (T.ceilResp p.val) ≠ 0 → s.dev.get (T.vdmResp p.val) = 0 → EndsDev (.tvdmSenderResponseExpiry p) s
      (fun e => e.get (F.PRT_HPM_EVT_CEILNOACK p.val) = 1 ∧ e.get (T.ceilResp p.val) = 0)) ∧
    (s.dev.get (T.ceilResp p.val) = 0 → s.dev.get (T.vdmResp p.val) ≠ 0 → s.dev.get (H.vdmWhat p.val) = 1 →
      s.dev.get (H.vdmTgt p.val) = 1 → s.dev.get (H.vdmCmd p.val) = 0 → s.dev.get F.SYS_SUPPLY_VCONNLOW = 0 →
      s.dev.get (H.vdmCnt p.val) < 20 → EndsDev (.tvdmSenderResponseExpiry p) s (fun e =>
        e.get (H.vdmCnt p.val) = s.dev.get (H.vdmCnt p.val) + 1 ∧
        e.get (T.discId p.val) = (s.dev.now + 2880001) % 2 ^ 64 ∧
        OnlyRegs s.dev e [H.vdmCnt p.val, T.discId p.val, T.vdmResp p.val])) ∧
    (s.dev.get (T.discId p.val) ≠ 0 → EndsDev (.tdiscoverIdentityExpiry p) s (fun e =>
      s.dev.sends e p.val ⟨1, 47, false, [s.dev.vdmHdr p.val 0xFF00 0 0 1], 19, 0⟩ ∧ e.get (H.vdmWhat p.val) = 1 ∧
      e.get (H.vdmTgt p.val) = 1 ∧ e.get (T.discId p.val) = 0)) ∧
    (s.dev.get (T.vdmMode p.val) ≠ 0 → s.dev.get (H.enterAck p.val) = 1 → EndsDev (.tvdmWaitModeExpiry p) s (fun e =>
      e.get (H.hpmOn p.val) = 1 ∧ e.get (F.PRT_HPM_EVT_ENTER p.val) = 1 ∧ e.get (H.enterAck p.val) = 0)) ∧
    (s.dev.get (T.vdmMode p.val) ≠ 0 → s.dev.get (H.enterAck p.val) = 0 → s.dev.get (H.vdmWhat p.val) = 4 → EndsDev (.tvdmWaitModeExpiry p) s (fun e =>
      e.get (F.PRT_HPM_STAT_FAILWHY p.val) = 4 ∧ e.get (F.PRT_HPM_EVT_FAIL p.val) = 1 ∧
      e.get (F.PRT_HPM_STAT_STATE p.val) = 0))) ∧
  (∀ (s : State) (p : Fin 24) (hdr : BitVec 16) (h vdo : Obj), s.hears p.val hdr.toNat = true →
    EndsDev (.rxDiscoverIdentity p hdr) s (fun e => s.dev.sends e p.val
      ⟨0, 47, false, s.dev.vdmHdr p.val 0xFF00 0 1 1 :: identVdos p.val, 0, 0⟩) ∧
    EndsDev (.rxModeVdmReq p hdr h) s (fun e => s.dev.sends e p.val
      ⟨0, 47, false, [s.dev.vdmHdr p.val (bits h.toNat 16 16) (bits h.toNat 8 3) 2 (bits h.toNat 0 5)], 0, 0⟩) ∧
    (s.dev.get (H.hpmOn p.val) = 1 → bits h.toNat 16 16 = 0x3C5A → EndsDev (.rxAttention p hdr h vdo) s (fun e =>
      e.pstg p.val 0x8E = h.toNat ∧ e.pstg p.val 0x8F = vdo.toNat ∧ e.get (F.PRT_HPM_EVT_ATTN p.val) = 1)) ∧
    ((s.dev.get (H.hpmOn p.val) = 0 ∨ bits h.toNat 16 16 ≠ 0x3C5A) → EndsDev (.rxAttention p hdr h vdo) s (fun e =>
      OnlyRegs s.dev e (rxFields p.val)))) ∧
  (∀ (s : State) (p : Fin 24), s.calm p.val = true → s.dev.hpmCond15 p.val = true → s.dev.get (H.hpmNo p.val) = 0 →
    s.dev.get (H.pilot p.val) = 0 →
    (s.dev.get (H.lineBusy p.val) = 0 → EndsDev (.hpmEntryConditions p) s (fun e => e.get (H.pilot p.val) = 1 ∧
      e.get (T.pilot p.val) = (s.dev.now + 129) % 2 ^ 64 ∧
      OnlyRegs s.dev e [T.hpmCond p.val, H.hpmPend p.val, H.pilot p.val, T.pilot p.val])) ∧
    (s.dev.get (H.lineBusy p.val) = 1 → EndsDev (.hpmEntryConditions p) s (fun e => e.get (H.hpmPend p.val) = 1 ∧
      OnlyRegs s.dev e [T.hpmCond p.val, H.hpmPend p.val]))) ∧
  (∀ (s : State) (p : Fin 24) (o c : Bool), s.calm p.val = true → s.dev.get (T.pilot p.val) ≠ 0 → s.dev.get (H.hpmCmd p.val) = 0 →
    ((o && c) = false → EndsDev (.pilotCheckEnd p o c) s (fun e => e.get (H.pilot p.val) = 3 ∧
      e.get (F.PRT_HPM_STAT_FAILWHY p.val) = 1 ∧ e.get (F.PRT_HPM_EVT_FAIL p.val) = 1)) ∧
    (s.dev.get (H.hpmNo p.val) = 0 → s.dev.get (F.PRT_PE_STAT_ASKPEND p.val) = 0 →
      s.dev.get (F.PRT_HPM_STAT_STATE p.val) = 0 →
      EndsDev (.pilotCheckEnd p true true) s (fun e => e.get (H.pilot p.val) = 2 ∧
        e.get (F.PRT_PE_STAT_ASKCODE p.val) = 6))) ∧
  (∀ (s : State) (p : Fin 24) (hdr : BitVec 16) (i : Instr) (k : Nat) (x y : Obj), s.hears p.val hdr.toNat = true →
    s.dev.hpmActive p.val = false →
    ((i = .rxHpmOffer p hdr x y ∧ k = 0x10) ∨ (i = .rxHpmRequest p hdr x ∧ k = 0x11) ∨ (i = .rxHpmAccept p hdr x ∧ k = 0x12) ∨
      (i = .rxHpmTransition p hdr x ∧ k = 0x13) ∨ (i = .rxHpmReady p hdr x ∧ k = 0x14) ∨
      (i = .rxHpmCeiling p hdr x ∧ k = 0x15)) →
    EndsDev i s (fun e => s.dev.sends e p.val ⟨0, 47, false, [s.dev.vdmHdr p.val 0x3C5A 1 2 k], 0, 0⟩)) ∧
  (∀ (s : State) (p : Fin 24) (hdr : BitVec 16) (x y : Obj), s.hears p.val hdr.toNat = true → s.dev.hpmActive p.val = true →
    (s.dev.isSrc p.val = false → s.dev.get (H.hpmVerd p.val) = 0 → s.dev.get (H.await p.val) ≠ 8 → offerOk x.toNat y.toNat = true → s.dev.get (H.hpmHeld p.val) = 0 →
      EndsDev (.rxHpmOffer p hdr x y) s (fun e => e.get (H.hpmV1 p.val) = x.toNat ∧ e.get (H.hpmV2 p.val) = y.toNat ∧
        e.get (F.PRT_PE_STAT_ASKCODE p.val) = 8 ∧ e.get (T.hpmOffer p.val) = 0)) ∧
    (s.dev.isSrc p.val = true → s.dev.get (H.hpmVerd p.val) = 0 → s.dev.get (H.await p.val) = 7 → bits x.toNat 23 9 = 0 → bits x.toNat 12 11 ≤ 2000 →
      bits x.toNat 0 12 ≤ 2400 → s.dev.get (H.hpmHeld p.val) = 0 → s.dev.hpmIsRepeat p.val x.toNat = false →
      s.dev.hpmReqFits p.val x.toNat = true → EndsDev (.rxHpmRequest p hdr x) s (fun e =>
        e.get (H.hpmReq p.val) = x.toNat ∧ e.get (F.PRT_PE_STAT_ASKCODE p.val) = 7 ∧
        e.get (F.PRT_HPM_STAT_STATE p.val) = 6)) ∧
    (s.dev.get (H.await p.val) = 8 → bits x.toNat 23 7 = 0 → bits x.toNat 30 2 = 0 →
      EndsDev (.rxHpmAccept p hdr x) s (fun e => e.get (H.hpmVerd p.val) = 1 ∧ e.get (H.snkMask p.val) = 1 ∧
        e.get (F.PRT_HPM_STAT_STATE p.val) = 7 ∧ e.get (H.iset p.val) = 100 ∧ e.get (H.xferKind p.val) = 2 ∧
        e.get (T.hpmTrans p.val) = (s.dev.now + 640001) % 2 ^ 64)) ∧
    (s.dev.get (H.await p.val) = 8 → bits x.toNat 23 7 = 0 → bits x.toNat 30 2 = 2 → s.dev.get (H.hpmWaits p.val) < 2 →
      EndsDev (.rxHpmAccept p hdr x) s (fun e => e.get (H.hpmWaits p.val) = s.dev.get (H.hpmWaits p.val) + 1 ∧
        e.get (T.sinkReq p.val) = (s.dev.now + 7040001) % 2 ^ 64)) ∧
    (s.dev.get (T.hpmTrans p.val) ≠ 0 → bits x.toNat 20 12 = 0 → EndsDev (.rxHpmTransition p hdr x) s (fun e =>
      e.get (T.hpmTrans p.val) = 0 ∧
      e.get (T.hpmReady p.val) = (s.dev.now + bits x.toNat 0 20 * 64 + 19200001) % 2 ^ 64 ∧
      OnlyRegs s.dev e ([T.hpmTrans p.val, T.hpmReady p.val] ++ rxFields p.val))) ∧
    (s.dev.get (T.hpmReady p.val) ≠ 0 → bits x.toNat 23 9 = 0 → bits x.toNat 12 11 ≤ 2000 → bits x.toNat 0 12 ≤ 2400 →
      EndsDev (.rxHpmReady p hdr x) s (fun e => e.get (H.psDone p.val) = 1 ∧ e.get (T.hpmReady p.val) = 0 ∧
        e.get (H.maskEnd p.val) = (s.dev.now + 1280001) % 2 ^ 64 ∧
        e.get (T.psTrans p.val) = (s.dev.now + goodCrcTicks + 1) % 2 ^ 64 ∧
        OnlyRegs s.dev e ([T.hpmReady p.val, H.psDone p.val, H.xferOn p.val, H.maskEnd p.val, T.psTrans p.val] ++
          rxFields p.val))) ∧
    (bits x.toNat 12 12 = 0 → bits x.toNat 0 12 ≤ 2400 → s.dev.get (F.PRT_HPM_CTRL_RXCEIL p.val) = 1 →
      EndsDev (.rxHpmCeiling p hdr x) s (fun e => e.get (F.PRT_HPM_CEIL_PCEIL p.val) = bits x.toNat 0 12 ∧
        e.get (F.PRT_HPM_EVT_CEILRX p.val) = 1 ∧
        s.dev.sends e p.val ⟨0, 47, false, [s.dev.vdmHdr p.val 0x3C5A 1 1 0x15, x.toNat], 0, 0⟩ ∧
        (s.dev.hpmCon p.val = true →
          e.get (F.PRT_HPM_CEIL_CEIL p.val) = min (s.dev.get (H.ownCeil p.val)) (bits x.toNat 0 12))))) ∧
  (∀ (s : State) (p : Fin 24), s.calm p.val = true → s.dev.get (T.psTrans p.val) ≠ 0 → s.dev.get (H.psDone p.val) = 1 →
    s.dev.get (H.swAcc p.val) = 0 → bits (s.dev.get (H.newCon p.val)) 31 3 = 6 → EndsDev (.tpsTransitionExpiry p) s (fun e =>
        e.get (F.PRT_HOLDSUM_SUM p.val) = s.dev.get (H.newCon p.val) ∧ e.get (F.PRT_CONTRACT_KIND p.val) = 6 ∧
        e.get (F.PRT_CONTRACT_VOLT p.val) = bits (s.dev.get (H.newCon p.val)) 14 13 ∧
        e.get (F.PRT_CONTRACT_CURR p.val) = bits (s.dev.get (H.newCon p.val)) 0 14 ∧
        e.get (F.PRT_HPM_STAT_STATE p.val) = 8 ∧ e.get (F.PRT_HPM_EVT_CONTRACT p.val) = 1)) ∧
  (∀ (s : State) (p : Fin 24) (i : Instr) (why : Nat), s.calm p.val = true → s.dev.get (H.hpmVerd p.val) = 0 → s.dev.hpmCon p.val = true →
    ((i = .thpmOfferExpiry p ∧ s.dev.get (T.hpmOffer p.val) ≠ 0 ∧ why = 5) ∨
      (i = .thpmTransExpiry p ∧ s.dev.get (T.hpmTrans p.val) ≠ 0 ∧ why = 10) ∨
      (i = .thpmReadyExpiry p ∧ s.dev.get (T.hpmReady p.val) ≠ 0 ∧ why = 10) ∨
      (i = .hpmRepeatRequestExpiry p ∧ s.dev.get (T.hpmRpt p.val) ≠ 0 ∧ why = 6)) →
    EndsDev i s (fun e => e.get (F.PRT_HPM_STAT_FAILWHY p.val) = why ∧ e.get (F.PRT_HPM_EVT_FAIL p.val) = 1 ∧
      e.get (F.PRT_HPM_STAT_STATE p.val) = 8 ∧ e.get (H.exOn p.val) = 0 ∧
      e.get (F.PRT_CONTRACT_VALID p.val) = 1)) ∧
  (∀ (s : State) (p : Fin 24), s.calm p.val = true → s.dev.hpmCon p.val = true →
    (s.dev.get (T.ownCeil p.val) ≠ 0 → s.dev.get (H.hpmVerd p.val) = 0 → s.dev.get (F.PRT_HPM_STAT_STATE p.val) = 8 →
      s.dev.get (H.lineBusy p.val) = 0 → s.dev.get (T.ceilEop p.val) = 0 → s.dev.get (H.ownCeil p.val) ≠ s.dev.get (H.ceilSent p.val) →
      EndsDev (.ownCeilingSend p) s (fun e => e.get (H.ceilSent p.val) = s.dev.get (H.ownCeil p.val) ∧
        e.get (F.PRT_HPM_STAT_SEQ p.val) = (s.dev.get (F.PRT_HPM_STAT_SEQ p.val) + 1) % 256 ∧
        s.dev.sends e p.val ⟨0, 47, false, [s.dev.vdmHdr p.val 0x3C5A 1 0 0x15,
          (s.dev.get (F.PRT_HPM_STAT_SEQ p.val) + 1) % 256 * 2 ^ 24 + s.dev.get (H.ownCeil p.val)], 27, 0⟩)) ∧
    (s.dev.get (T.ceilEop p.val) ≠ 0 → s.dev.get (T.ownCeil p.val) = 0 → EndsDev (.ownCeilingSend p) s (fun e =>
      e.get (F.PRT_HPM_EVT_CEIL p.val) = 1 ∧ e.get (T.ceilEop p.val) = 0)) ∧
    (s.dev.get (T.tpoll p.val) ≠ 0 → s.dev.get (F.PRT_HPM_CTRL_TPOLL p.val) ≠ 0 → s.dev.mode ≠ 3 →
      EndsDev (.telemetryPoll p) s (fun e => e.getBit (H.want p.val) 3 = true ∧
        e.get (T.tpoll p.val) = (s.dev.now + s.dev.get (F.PRT_HPM_CTRL_TPOLL p.val) * 64000000 + 1) % 2 ^ 64 ∧
        OnlyRegs s.dev e [H.want p.val, T.cmdStart p.val, T.tpoll p.val]))) ∧
  (∀ (s : State) (a : Agent) (p : Fin 24) (v : Word) (k : Nat) (u : State), k = bits v.toNat 32 4 →
    u = s.onDev (fun d => d.touch a) →
    (u.dev.isRom a = true →
      EndsDev (.hpmPloada a p v) s (fun e => (∀ w, w = v.toNat % 2 ^ 32 &&& 0x803FFFFF →
        e.pstg p.val (0x90 + 2 * k) = (if bits w 0 11 ≤ bits w 11 11 ∧ bits w 11 11 ≤ 2000 then w else w % 2 ^ 31)) ∧
        OnlyRegs u.dev { e with stg := u.dev.stg } []) ∧
      EndsDev (.hpmPloadb a p v) s (fun e => e.pstg p.val (0x91 + 2 * k) = v.toNat % 2 ^ 24 ∧
        e.pstg p.val (0x90 + 2 * k) = (if bits (u.dev.profA p.val k) 0 11 ≤ bits (u.dev.profA p.val k) 11 11 ∧
          bits (u.dev.profA p.val k) 11 11 ≤ 2000 ∧ bits v.toNat 12 12 ≤ 2400 ∧ bits v.toNat 0 12 ≤ 2400 then
          u.dev.profA p.val k else u.dev.profA p.val k % 2 ^ 31) ∧ OnlyRegs u.dev { e with stg := u.dev.stg } [])) ∧
    (u.dev.isRom a = false →
      EndsDev (.hpmPloada a p v) s (fun e => e.get (F.PRT_HPM_EVT_PLWR p.val) = 1 ∧ e.stg = u.dev.stg) ∧
      EndsDev (.hpmPloadb a p v) s (fun e => e.get (F.PRT_HPM_EVT_PLWR p.val) = 1 ∧ e.stg = u.dev.stg)))

/-- A write of PRTnn_CMD by an agent with latches either returns a RESULT of R237 and sets CMDREF, or takes the next ticket and is
queued behind the others while an exchange is in progress, and otherwise starts as cmdStart says; the TAP writes nothing. At
its turn a query command on a PD 2.0 or sink port sends its message at once, a PD 3.x source first presents SinkTxNG for
tSinkTx; a command whose time no longer suffices completes PREEMPTED, one whose needs no longer hold ABORTED. The ticket
deadline marks the started command and is a miss of kind 1, and a renegotiation request of Contour is started, late as a miss
of kind 3. -/
def Obligations.PortCommandsComplete : Prop :=
  (∀ (s : State) (a : Agent) (p : Fin 24) (param : BitVec 16) (k : BitVec 6) (c : Instr) (code : Nat),
    (c, code) ∈ [(Instr.getSrcCap a p param, 0x01), (.getSnkCap a p param, 0x02), (.getSrcCapExt a p param, 0x03),
      (.getSnkCapExt a p param, 0x04), (.getStatus a p param, 0x05), (.getBattCap a p param, 0x06),
      (.getBattStatus a p param, 0x07), (.getRevision a p param, 0x08), (.sendAlert a p param, 0x09),
      (.renegotiate a p param, 0x10), (.eprEnter a p param, 0x11), (.eprExit a p param, 0x12), (.prSwap a p param, 0x18),
      (.vconnSwap a p param, 0x19), (.softReset a p param, 0x1C), (.hardReset a p param, 0x1D), (.discover a p param, 0x20),
      (.enterMode a p param, 0x21), (.exitMode a p param, 0x22), (.hpmEnter a p param, 0x28), (.hpmExit a p param, 0x29),
      (.hpmCeiling a p param, 0x2A), (.hpmRecord a p param, 0x2B), (.hpmTelemetry a p param, 0x2C),
      (.cmdUnknownCode a p k param, k.toNat)] →
    ∀ (u : State), u = s.onDev (fun d => d.touch a) → s.keepsPort p.val = true → u.calm p.val = true →
    (∀ (r : Nat), a ≠ .tap →
      r = u.dev.cmdResult a p.val code param.toNat (u.dev.get (F.PRT_CMD_ARG_ARG p.val a.copy)) →
      (r ≠ 0 → EndsDev c s (fun e => e.get (F.PRT_CMD_LAST_RESULT p.val a.copy) = r ∧
        e.get (F.PRT_CMD_LAST_DL p.val a.copy) = 0 ∧ e.get (F.PRT_PE_EVT_CMDREF p.val) = 1 ∧ e.cmdq = u.dev.cmdq ∧
        e.txq = u.dev.txq)) ∧
      (r = 0 → u.dev.get (H.exOn p.val) = 1 → u.dev.get (H.reqHeld p.val) = 0 →
        (∀ x ∈ u.dev.unstarted p.val, u.dev.now ≤ u.dev.lastStart x) → EndsDev c s (fun e =>
        e.get (F.PRT_CMD_LAST_RESULT p.val a.copy) = 0 ∧
        e.get (F.PRT_CMD_LAST_TICKET p.val a.copy) = u.dev.get (H.ticketNext p.val) ∧
        e.get (H.ticketNext p.val) = (u.dev.get (H.ticketNext p.val) + 1) % 4096 ∧
        e.cmds p.val = u.dev.cmds p.val ++ [⟨code, u.dev.cmdParam p.val code param.toNat,
          u.dev.get (F.PRT_CMD_ARG_ARG p.val a.copy), u.dev.get (H.ticketNext p.val),
          u.dev.cmdDeadline p.val ((cmdClass code).getD (0, 0)).1, false, false⟩] ∧
        OnlyRegs u.dev { e with cmdq := u.dev.cmdq } [F.PRT_CMD_LAST_RESULT p.val a.copy,
          F.PRT_CMD_LAST_TICKET p.val a.copy, F.PRT_CMD_LAST_DL p.val a.copy, H.ticketNext p.val,
          F.PRT_PE_STAT_QDEPTH p.val, T.cmdStart p.val])) ∧
      (r = 0 → exec c s = .next (u.onDev (fun d => (d.cmdQueue a p.val code param.toNat).startNext p.val)) ∧
        exec (.cmdStart p) u = .next (u.onDev (fun d => d.startNext p.val)))) ∧
    (a = .tap → exec c s = .next u) ∧
    (cmdClass code = none → a ≠ .tap → u.dev.mode ≠ 2 → u.dev.mode ≠ 3 → u.dev.mode ≠ 4 → u.dev.get H.bankReq = 0 →
      EndsDev c s (fun e => e.get (F.PRT_CMD_LAST_RESULT p.val a.copy) = 4))) ∧
  (∀ (s : State) (p : Fin 24), s.calm p.val = true → s.dev.attached p.val = false → s.dev.cmds p.val = [] →
    EndsDev (.cmdStart p) s (fun e => e.get (T.cmdStart p.val) = 0 ∧ OnlyRegs s.dev e [T.cmdStart p.val])) ∧
  (∀ (s : State) (p : Fin 24) (c : Cmd) (l : List Cmd) (msg : Nat), s.calm p.val = true → s.dev.turnFree p.val = true →
    (∀ x ∈ l, s.dev.now ≤ s.dev.lastStart x) →
    s.dev.cmds p.val = c :: l → c.joined = false →
    (c.code, msg) ∈ [(0x01, 7), (0x02, 8), (0x03, 17), (0x04, 22), (0x05, 18)] →
    (s.dev.now ≤ s.dev.lastStart c → s.dev.get (F.PRT_PE_STAT_REV p.val) ≠ 0 →
      (s.dev.isSnk p.val = true ∧ s.dev.lineWait p.val = 0 ∨ s.dev.pd3 p.val = false) → EndsDev (.cmdStart p) s (fun e =>
        e.get (H.cmdRun p.val) = 1 ∧ e.get (T.cmdMiss p.val) = (c.due + 1) % 2 ^ 64 ∧ e.get (H.exOn p.val) = 1 ∧
        e.cmds p.val = c :: l ∧ s.dev.sends e p.val ⟨0, msg, false, [], 17, 0⟩)) ∧
    (s.dev.now ≤ s.dev.lastStart c → s.dev.isSrc p.val = true → s.dev.pd3 p.val = true →
      EndsDev (.cmdStart p) s (fun e => e.get (H.cmdRun p.val) = 1 ∧ e.get (H.ownWait p.val) = 17 ∧
        e.get (F.PRT_PE_STAT_TXNG p.val) = 1 ∧ e.get (T.sinkTx p.val) = (s.dev.now + 1152001) % 2 ^ 64 ∧
        e.txs p.val = s.dev.txs p.val)) ∧
    (s.dev.isSnk p.val = true → s.dev.pd3 p.val = true → s.dev.lineWait p.val ≠ 0 → s.dev.now ≤ s.dev.lastStart c →
      EndsDev (.cmdStart p) s (fun e => e.get (H.cmdRun p.val) = 1 ∧ e.get (H.ownWait p.val) = 17 ∧
        e.get (T.sinkTx p.val) = (s.dev.now + s.dev.lineWait p.val + 1) % 2 ^ 64 ∧ e.txs p.val = s.dev.txs p.val)) ∧
    (s.dev.lastStart c < s.dev.now → l = [] →
      EndsDev (.cmdStart p) s (fun e => completed e p.val c l 5)) ∧
    (s.dev.now ≤ s.dev.lastStart c → s.dev.get (F.PRT_PE_STAT_REV p.val) = 0 →
      EndsDev (.cmdStart p) s (fun e => completed e p.val c l 6))) ∧
  (∀ (s : State) (p : Fin 24) (c : Cmd) (l : List Cmd), s.calm p.val = true → s.dev.cmds p.val = c :: l →
    (∀ msg, (c.code, msg) ∈ [(0x01, 7), (0x02, 8), (0x03, 17), (0x04, 22), (0x05, 18)] → s.dev.get (T.sinkTx p.val) ≠ 0 →
      s.dev.get (H.ownWait p.val) = 17 → EndsDev (.tsinktxExpiry p) s (fun e => e.get (H.ownWait p.val) = 0 ∧
        e.get (T.sinkTx p.val) = 0 ∧ s.dev.sends e p.val ⟨0, msg, false, [], 17, 0⟩)) ∧
    (s.dev.get (T.cmdMiss p.val) ≠ 0 → s.dev.get (H.cmdRun p.val) = 1 → EndsDev (.cmdDeadlineMiss p) s (fun e =>
      e.cmds p.val = { c with late := true } :: l ∧ e.get (T.cmdMiss p.val) = 0 ∧
      e.get F.FAB_DLM_COUNT = (s.dev.get F.FAB_DLM_COUNT + 1) % 2 ^ F.FAB_DLM_COUNT.w ∧
      (s.dev.get H.dlmTick ≠ s.dev.now + 1 → e.get F.FAB_DLM_KIND = 1 ∧ e.get F.FAB_DLM_INDEX = p.val)))) ∧
  (∀ (s : State) (p : Fin 24), s.calm p.val = true → s.dev.get (H.reneg p.val) = 1 → EndsDev (.contourRenegotiation p) s (fun e =>
    e.get (H.reneg p.val) = 0 ∧ e.getBit (H.want p.val) 0 = true ∧ e.get (T.cmdStart p.val) = (s.dev.now + 1) % 2 ^ 64 ∧
    (s.dev.engaged p.val = true → e.get (H.renegUp p.val) = 0) ∧
    (s.dev.get (H.renegTin p.val) + 2 * s.dev.stretch * 64000 < s.dev.now → s.dev.get H.dlmTick ≠ s.dev.now + 1 →
      e.get F.FAB_DLM_KIND = 3 ∧ e.get F.FAB_DLM_INDEX = 0 ∧ e.get F.BUD_EVT_LATE = 1)))
end

