-- ==== Sys2Proof/Decode.lean ====
section
/-!
DEFINITION. Sys2Proof/Decode.lean: the commands that words spell by the table's bits. No row of spec/opcode_table.json gives
bits, so there are none. (The instruction words of the policy cores, R431, are decoded by `runWord` of Machine/Ebzia.lean.)
-/
namespace Sys2Proof

def decodeTableWord (_nbits _w : Nat) : Option Instr := none

end Sys2Proof
end

