-- ==== Sys2Proof/Laws/State.lean ====
section
/-!
SUPPORT. Sys2Proof/Laws/State.lean: reads after writes of tables, fields and memory, what each update leaves alone, and the
canonical form that every memory operation keeps.
-/
namespace Sys2Proof.Machine

/-! ### Tables -/

section Tables
variable {α : Type} [DecidableEq α] (dflt : α)

omit [DecidableEq α] in
theorem tget_tins_same (t : Tab α) (k : Nat) (v : α) : tget dflt (tins t k v) k = v := by
  induction t with
  | nil => simp [tins, tget]
  | cons e l ih =>
    unfold tins
    split
    · simp [tget]
    · split
      · simp [tget]
      · next h => simp [tget, h, ih]

omit [DecidableEq α] in
theorem tget_tins_ne (t : Tab α) {k j : Nat} (v : α) (h : j ≠ k) : tget dflt (tins t k v) j = tget dflt t j := by
  induction t with
  | nil => simp [tins, tget, Ne.symm h]
  | cons e l ih =>
    unfold tins
    split
    · simp [tget, Ne.symm h]
    · split
      · next hk => subst hk; simp [tget, Ne.symm h]
      · simp [tget, ih]

omit [DecidableEq α] in
theorem tget_tdel_same (t : Tab α) (k : Nat) : tget dflt (tdel t k) k = dflt := by
  induction t with
  | nil => rfl
  | cons e l ih =>
    by_cases h : e.1 = k
    · simpa [tdel, h] using ih
    · simpa [tdel, tget, h] using ih

omit [DecidableEq α] in
theorem tget_tdel_ne (t : Tab α) {k j : Nat} (h : j ≠ k) : tget dflt (tdel t k) j = tget dflt t j := by
  induction t with
  | nil => rfl
  | cons e l ih =>
    by_cases he : e.1 = k
    · subst he; simpa [tdel, tget, Ne.symm h] using ih
    · simp only [tdel] at ih; simp [tdel, tget, he, ih]

@[simp] theorem tget_tput_same (t : Tab α) (k : Nat) (v : α) : tget dflt (tput dflt t k v) k = v := by
  unfold tput
  split
  · next h => rw [tget_tdel_same, h]
  · exact tget_tins_same dflt t k v

theorem tget_tput_ne (t : Tab α) {k j : Nat} (v : α) (h : j ≠ k) : tget dflt (tput dflt t k v) j = tget dflt t j := by
  unfold tput
  split
  · exact tget_tdel_ne dflt t h
  · exact tget_tins_ne dflt t v h

/-- A key at or below a bound is below every key of the table. -/
def keysAbove (b : Nat) (t : Tab α) : Prop := ∀ e ∈ t, b < e.1

omit [DecidableEq α] in
theorem sortedKeys_cons (e : Nat × α) (t : Tab α) : sortedKeys (e :: t) = true ↔ keysAbove e.1 t ∧ sortedKeys t = true := by
  induction t generalizing e with
  | nil => simp [sortedKeys, keysAbove]
  | cons f l ih =>
    simp only [sortedKeys, Bool.and_eq_true, decide_eq_true_eq]
    constructor
    · rintro ⟨h, hs⟩
      refine ⟨?_, hs⟩
      intro g hg
      rcases List.mem_cons.1 hg with rfl | hg
      · exact h
      · exact Nat.lt_trans h (((ih f).1 hs).1 g hg)
    · rintro ⟨h, hs⟩
      exact ⟨h f (by simp), hs⟩

omit [DecidableEq α] in
theorem mem_tins {t : Tab α} {k : Nat} {v : α} {e : Nat × α} (h : e ∈ tins t k v) : e = (k, v) ∨ e ∈ t := by
  induction t with
  | nil => simpa [tins] using h
  | cons f l ih =>
    unfold tins at h
    split at h
    · simpa using h
    · split at h
      · rcases List.mem_cons.1 h with h | h
        · exact .inl h
        · exact .inr (List.mem_cons_of_mem _ h)
      · rcases List.mem_cons.1 h with h | h
        · exact .inr (by simp [h])
        · rcases ih h with h | h
          · exact .inl h
          · exact .inr (List.mem_cons_of_mem _ h)

omit [DecidableEq α] in
theorem sortedKeys_tins (t : Tab α) (k : Nat) (v : α) (h : sortedKeys t = true) : sortedKeys (tins t k v) = true := by
  induction t with
  | nil => simp [tins, sortedKeys]
  | cons e l ih =>
    obtain ⟨ha, hs⟩ := (sortedKeys_cons e l).1 h
    unfold tins
    split
    · next hk =>
      refine (sortedKeys_cons _ _).2 ⟨?_, h⟩
      intro g hg
      rcases List.mem_cons.1 hg with rfl | hg
      · exact hk
      · exact Nat.lt_trans hk (ha g hg)
    · split
      · next hk => subst hk; exact (sortedKeys_cons _ _).2 ⟨ha, hs⟩
      · next h1 h2 =>
        refine (sortedKeys_cons _ _).2 ⟨?_, ih hs⟩
        intro g hg
        rcases mem_tins hg with rfl | hg
        · show e.1 < k
          omega
        · exact ha g hg

omit [DecidableEq α] in
theorem sortedKeys_filter (t : Tab α) (p : Nat × α → Bool) (h : sortedKeys t = true) : sortedKeys (t.filter p) = true := by
  induction t with
  | nil => rfl
  | cons e l ih =>
    obtain ⟨ha, hs⟩ := (sortedKeys_cons e l).1 h
    rw [List.filter_cons]
    split
    · exact (sortedKeys_cons _ _).2 ⟨fun g hg => ha g (List.mem_filter.1 hg).1, ih hs⟩
    · exact ih hs

theorem sortedKeys_tput (t : Tab α) (k : Nat) (v : α) (h : sortedKeys t = true) : sortedKeys (tput dflt t k v) = true := by
  unfold tput
  split
  · exact sortedKeys_filter t _ h
  · exact sortedKeys_tins t k v h

/-- A write keeps the canonical form. -/
theorem Tab.wf_tput (t : Tab α) (k : Nat) (v : α) (h : Tab.wf dflt t = true) : Tab.wf dflt (tput dflt t k v) = true := by
  simp only [Tab.wf, Bool.and_eq_true, List.all_eq_true, decide_eq_true_eq] at h ⊢
  refine ⟨sortedKeys_tput dflt t k v h.1, ?_⟩
  intro e he
  unfold tput at he
  split at he
  · exact h.2 e (List.mem_filter.1 he).1
  · next hv =>
    rcases mem_tins he with rfl | he
    · exact hv
    · exact h.2 e he

end Tables

/-! ### Fields of the device -/

@[simp] theorem Dev.get_put_self (d : Dev) (f : Fld) (v : Nat) : (d.put f v).get f = v % 2 ^ f.w := by
  simp [Dev.get, Dev.put]

theorem Dev.get_lt (d : Dev) (f : Fld) : d.get f < 2 ^ f.w := Nat.mod_lt _ (Nat.two_pow_pos _)

theorem Dev.get_put_ne (d : Dev) {f g : Fld} (v : Nat) (h : g.key ≠ f.key) : (d.put f v).get g = d.get g := by
  simp only [Dev.get, Dev.put]
  rw [show tget g.rst (tput f.rst d.regs f.key (v % 2 ^ f.w)) g.key = tget g.rst d.regs g.key from ?_]
  unfold tput
  split
  · exact tget_tdel_ne g.rst d.regs h
  · exact tget_tins_ne g.rst d.regs _ h

/-- Several fields written leave a field alone that is none of them. -/
theorem Dev.get_puts_ne (d : Dev) (l : List (Fld × Nat)) {g : Fld} (h : ∀ e ∈ l, g.key ≠ e.1.key) :
    (d.puts l).get g = d.get g := by
  induction l generalizing d with
  | nil => rfl
  | cons e l ih =>
    rw [Dev.puts, ih _ (fun x hx => h x (List.mem_cons_of_mem _ hx)), Dev.get_put_ne _ _ (h e (by simp))]

@[simp] theorem Dev.puts_nil (d : Dev) : d.puts [] = d := rfl
@[simp] theorem Dev.puts_cons (d : Dev) (e : Fld × Nat) (l : List (Fld × Nat)) : d.puts (e :: l) = (d.put e.1 e.2).puts l := rfl

/-- A field write keeps the field table sorted. -/
theorem Dev.put_sorted (d : Dev) (f : Fld) (v : Nat) (h : sortedKeys d.regs = true) : sortedKeys (d.put f v).regs = true :=
  sortedKeys_tput f.rst d.regs f.key _ h

@[simp] theorem Dev.put_setAt (d : Dev) (f : Fld) (v : Nat) : (d.put f v).setAt = d.setAt := rfl
@[simp] theorem Dev.put_setKeys (d : Dev) (f : Fld) (v : Nat) : (d.put f v).setKeys = d.setKeys := rfl
@[simp] theorem Dev.put_commits (d : Dev) (f : Fld) (v : Nat) : (d.put f v).commits = d.commits := rfl
@[simp] theorem Dev.put_now (d : Dev) (f : Fld) (v : Nat) : (d.put f v).now = d.now := rfl
@[simp] theorem Dev.put_free (d : Dev) (f : Fld) (v : Nat) : (d.put f v).free = d.free := rfl
@[simp] theorem Dev.put_chq (d : Dev) (f : Fld) (v : Nat) : (d.put f v).chq = d.chq := rfl
@[simp] theorem Dev.put_rstk (d : Dev) (f : Fld) (v : Nat) : (d.put f v).rstk = d.rstk := rfl
@[simp] theorem Dev.put_txq (d : Dev) (f : Fld) (v : Nat) : (d.put f v).txq = d.txq := rfl
@[simp] theorem Dev.put_segq (d : Dev) (f : Fld) (v : Nat) : (d.put f v).segq = d.segq := rfl
@[simp] theorem Dev.put_mwin (d : Dev) (f : Fld) (v : Nat) : (d.put f v).mwin = d.mwin := rfl
@[simp] theorem Dev.put_stg (d : Dev) (f : Fld) (v : Nat) : (d.put f v).stg = d.stg := rfl
@[simp] theorem Dev.put_logs (d : Dev) (f : Fld) (v : Nat) : (d.put f v).logs = d.logs := rfl
@[simp] theorem Dev.put_staged (d : Dev) (f : Fld) (v : Nat) : (d.put f v).staged = d.staged := rfl
@[simp] theorem Dev.put_prog (d : Dev) (f : Fld) (v : Nat) : (d.put f v).prog = d.prog := rfl
@[simp] theorem Dev.put_sigq (d : Dev) (f : Fld) (v : Nat) : (d.put f v).sigq = d.sigq := rfl
@[simp] theorem Dev.put_seen (d : Dev) (f : Fld) (v : Nat) : (d.put f v).seen = d.seen := rfl
@[simp] theorem Dev.put_idrec (d : Dev) (f : Fld) (v : Nat) : (d.put f v).idrec = d.idrec := rfl
@[simp] theorem Dev.put_nand (d : Dev) (f : Fld) (v : Nat) : (d.put f v).nand = d.nand := rfl
@[simp] theorem Dev.put_bmap (d : Dev) (f : Fld) (v : Nat) : (d.put f v).bmap = d.bmap := rfl
@[simp] theorem Dev.put_retired (d : Dev) (f : Fld) (v : Nat) : (d.put f v).retired = d.retired := rfl
@[simp] theorem Dev.put_erases (d : Dev) (f : Fld) (v : Nat) : (d.put f v).erases = d.erases := rfl
@[simp] theorem Dev.put_hist (d : Dev) (f : Fld) (v : Nat) : (d.put f v).hist = d.hist := rfl
@[simp] theorem Dev.put_gzrec (d : Dev) (f : Fld) (v : Nat) : (d.put f v).gzrec = d.gzrec := rfl
@[simp] theorem Dev.put_cmdq (d : Dev) (f : Fld) (v : Nat) : (d.put f v).cmdq = d.cmdq := rfl

/-! ### Hardware settings of a tick -/

@[simp] theorem Dev.mark_get (d : Dev) (f g : Fld) (b : Nat) : (d.mark f b).get g = d.get g := rfl
@[simp] theorem Dev.mark_now (d : Dev) (f : Fld) (b : Nat) : (d.mark f b).now = d.now := rfl
@[simp] theorem Dev.mark_free (d : Dev) (f : Fld) (b : Nat) : (d.mark f b).free = d.free := rfl
@[simp] theorem Dev.mark_regs (d : Dev) (f : Fld) (b : Nat) : (d.mark f b).regs = d.regs := rfl
@[simp] theorem Dev.mark_chq (d : Dev) (f : Fld) (b : Nat) : (d.mark f b).chq = d.chq := rfl
@[simp] theorem Dev.mark_rstk (d : Dev) (f : Fld) (b : Nat) : (d.mark f b).rstk = d.rstk := rfl
@[simp] theorem Dev.mark_txq (d : Dev) (f : Fld) (b : Nat) : (d.mark f b).txq = d.txq := rfl
@[simp] theorem Dev.mark_segq (d : Dev) (f : Fld) (b : Nat) : (d.mark f b).segq = d.segq := rfl
@[simp] theorem Dev.mark_mwin (d : Dev) (f : Fld) (b : Nat) : (d.mark f b).mwin = d.mwin := rfl
@[simp] theorem Dev.mark_stg (d : Dev) (f : Fld) (b : Nat) : (d.mark f b).stg = d.stg := rfl
@[simp] theorem Dev.mark_logs (d : Dev) (f : Fld) (b : Nat) : (d.mark f b).logs = d.logs := rfl
@[simp] theorem Dev.mark_staged (d : Dev) (f : Fld) (b : Nat) : (d.mark f b).staged = d.staged := rfl
@[simp] theorem Dev.mark_prog (d : Dev) (f : Fld) (b : Nat) : (d.mark f b).prog = d.prog := rfl
@[simp] theorem Dev.mark_sigq (d : Dev) (f : Fld) (b : Nat) : (d.mark f b).sigq = d.sigq := rfl
@[simp] theorem Dev.mark_seen (d : Dev) (f : Fld) (b : Nat) : (d.mark f b).seen = d.seen := rfl
@[simp] theorem Dev.mark_idrec (d : Dev) (f : Fld) (b : Nat) : (d.mark f b).idrec = d.idrec := rfl
@[simp] theorem Dev.mark_nand (d : Dev) (f : Fld) (b : Nat) : (d.mark f b).nand = d.nand := rfl
@[simp] theorem Dev.mark_bmap (d : Dev) (f : Fld) (b : Nat) : (d.mark f b).bmap = d.bmap := rfl
@[simp] theorem Dev.mark_retired (d : Dev) (f : Fld) (b : Nat) : (d.mark f b).retired = d.retired := rfl
@[simp] theorem Dev.mark_erases (d : Dev) (f : Fld) (b : Nat) : (d.mark f b).erases = d.erases := rfl
@[simp] theorem Dev.mark_hist (d : Dev) (f : Fld) (b : Nat) : (d.mark f b).hist = d.hist := rfl
@[simp] theorem Dev.mark_gzrec (d : Dev) (f : Fld) (b : Nat) : (d.mark f b).gzrec = d.gzrec := rfl
@[simp] theorem Dev.mark_commits (d : Dev) (f : Fld) (b : Nat) : (d.mark f b).commits = d.commits := rfl
@[simp] theorem Dev.mark_cmdq (d : Dev) (f : Fld) (b : Nat) : (d.mark f b).cmdq = d.cmdq := rfl

@[simp] theorem Dev.hwSet_self (d : Dev) (f : Fld) : (d.hwSet f).get f = 1 % 2 ^ f.w := Dev.get_put_self d f 1
theorem Dev.hwSet_get_ne (d : Dev) {f g : Fld} (h : g.key ≠ f.key) : (d.hwSet f).get g = d.get g := Dev.get_put_ne d 1 h
@[simp] theorem Dev.hwPut_self (d : Dev) (f : Fld) (v : Nat) : (d.hwPut f v).get f = v % 2 ^ f.w := Dev.get_put_self d f v
theorem Dev.hwPut_get_ne (d : Dev) {f g : Fld} (v : Nat) (h : g.key ≠ f.key) : (d.hwPut f v).get g = d.get g :=
  Dev.get_put_ne d v h
@[simp] theorem Dev.hwBit_self (d : Dev) (f : Fld) (b : Nat) : (d.hwBit f b).get f = withBit (d.get f) b true % 2 ^ f.w :=
  Dev.get_put_self d f _
theorem Dev.hwBit_get_ne (d : Dev) {f g : Fld} (b : Nat) (h : g.key ≠ f.key) : (d.hwBit f b).get g = d.get g :=
  Dev.get_put_ne d _ h

/-- What hardware has set on a tick stays noted on that tick. -/
theorem Dev.marked_mark (d : Dev) (f : Fld) (b : Nat) : (d.mark f b).marked f b = true := by
  simp [Dev.marked, Dev.setNow, Dev.mark]

/-- A note of another bit changes none. -/
theorem Dev.marked_mono (d : Dev) (f g : Fld) (b c : Nat) (h : d.marked f b = true) : (d.mark g c).marked f b = true := by
  have h : f.key * 64 + b ∈ d.setNow := by simpa [Dev.marked] using h
  have hk : (d.mark g c).setNow = (g.key * 64 + c) :: d.setNow := by simp [Dev.setNow, Dev.mark]
  simp [Dev.marked, hk, h]

/-! ### The whole state -/

@[simp] theorem State.onDev_dev (s : State) (f : Dev → Dev) : (s.onDev f).dev = f s.dev := rfl
@[simp] theorem State.onDev_mem (s : State) (f : Dev → Dev) : (s.onDev f).mem = s.mem := rfl
@[simp] theorem State.onDev_bad (s : State) (f : Dev → Dev) : (s.onDev f).bad = s.bad := rfl
@[simp] theorem State.onDev_pending (s : State) (f : Dev → Dev) : (s.onDev f).pending = s.pending := rfl
@[simp] theorem State.memWrite_dev (s : State) (k : Nat) (w : Word) : (s.memWrite k w).dev = s.dev := rfl
@[simp] theorem State.memWrite_pending (s : State) (k : Nat) (w : Word) : (s.memWrite k w).pending = s.pending := rfl
@[simp] theorem State.memWrite_mem (s : State) (k : Nat) (w : Word) : (s.memWrite k w).mem = Memory.write s.mem k w := rfl

@[simp] theorem State.memWrites_dev (s : State) (k : Nat) (l : List Word) : (s.memWrites k l).dev = s.dev := by
  induction l generalizing s k with
  | nil => rfl
  | cons w l ih => rw [State.memWrites, ih]; rfl

@[simp] theorem State.memWrites_pending (s : State) (k : Nat) (l : List Word) : (s.memWrites k l).pending = s.pending := by
  induction l generalizing s k with
  | nil => rfl
  | cons w l ih => rw [State.memWrites, ih]; rfl

/-! ### Memory -/

@[simp] theorem Memory.read_write_same (m : Tab Word) (a : Nat) (w : Word) : Memory.read (Memory.write m a w) a = w :=
  tget_tput_same 0 m a w

theorem Memory.read_write_ne (m : Tab Word) {a b : Nat} (w : Word) (h : b ≠ a) :
    Memory.read (Memory.write m a w) b = Memory.read m b :=
  tget_tput_ne 0 m w h

theorem Memory.wf_write (m : Tab Word) (a : Nat) (w : Word) (h : Memory.wf m = true) : Memory.wf (Memory.write m a w) = true :=
  Tab.wf_tput 0 m a w h

theorem State.memWrites_wf (s : State) (k : Nat) (l : List Word) (h : Memory.wf s.mem = true) :
    Memory.wf (s.memWrites k l).mem = true := by
  induction l generalizing s k with
  | nil => exact h
  | cons w l ih => exact ih _ _ (Memory.wf_write s.mem k w h)

/-- A run of words written leaves every word outside the run alone. -/
theorem State.memWrites_read_ne (s : State) (k : Nat) (l : List Word) {b : Nat} (h : b < k ∨ k + l.length ≤ b) :
    (s.memWrites k l).memRead b = s.memRead b := by
  induction l generalizing s k with
  | nil => rfl
  | cons w l ih =>
    have hl : (w :: l).length = l.length + 1 := rfl
    rw [State.memWrites, ih _ _ (by omega)]
    exact Memory.read_write_ne s.mem w (by omega)

end Sys2Proof.Machine
end

