-- ==== Sys2Proof/Laws/Cores.lean ====
section
/-!
SUPPORT. Sys2Proof/Laws/Cores.lean: what the shared operations of the core instructions do once an instruction is fetched and
its operand can be read, how a frame is built from writes of fields, and how a command that changes only the device part ends.
-/
namespace Sys2Proof.Machine

/-! ### Fetch and operands -/

theorem State.coreInstr_fetched {s : State} {n : Fin 6} {legal : Bool} {op : State → State} (h : s.fetches n = true) :
    s.coreInstr n legal op = if legal then op s else s.onDev (·.exception n 1 0) := by
  simp only [State.fetches, Bool.and_eq_true, Bool.not_eq_true'] at h
  simp only [State.coreInstr, h.1.1, h.1.2, h.2, Bool.not_true, Bool.false_eq_true, ite_false]
  cases legal <;> simp

theorem State.coreInstr_stopped {s : State} {n : Fin 6} {legal : Bool} {op : State → State} (h : s.dev.coreRuns n = false) :
    s.coreInstr n legal op = s := by
  simp [State.coreInstr, h]

theorem State.withOperand_ok {s : State} {n : Fin 6} {mode : BitVec 2} {field : BitVec 22} {k : Word → State → State}
    (h : s.operandOk n mode field = true) :
    s.withOperand n mode field k = k (s.operand n mode field).1 (s.operand n mode field).2 := by
  simp only [State.operandOk, Bool.or_eq_true, Bool.not_eq_true', beq_iff_eq] at h
  simp only [State.withOperand, State.operand, State.withLoad]
  by_cases hm : mode = 3
  · simp [hm]
  · have hb : s.isBad (.core n) (s.dev.ea n mode field) = false := h.resolve_left hm
    rw [if_neg hm, if_neg hm, hb]; rfl

theorem State.withOperandB_ok {s : State} {n : Fin 6} {bmode : BitVec 2} {operand : BitVec 12} {k : Word → State → State}
    (h : s.operandBOk n bmode operand = true) :
    s.withOperandB n bmode operand k = k (s.operandB n bmode operand).1 (s.operandB n bmode operand).2 := by
  simp only [State.operandBOk, Bool.or_eq_true, Bool.not_eq_true', beq_iff_eq] at h
  simp only [State.withOperandB, State.operandB, State.withLoad]
  by_cases hm : bmode = 3
  · simp [hm]
  · have hb : s.isBad (.core n) (s.dev.eaB n bmode operand) = false := h.resolve_left hm
    rw [if_neg hm, if_neg hm, hb]; rfl

/-! ### Frames -/

theorem OnlyRegs.refl (d : Dev) (l : List Fld) : OnlyRegs d d l := ⟨fun _ _ => rfl, rfl⟩

theorem OnlyRegs.put {d e : Dev} {l : List Fld} (h : OnlyRegs d e l) (f : Fld) (v : Nat) (hf : f ∈ l) :
    OnlyRegs d (e.put f v) l :=
  ⟨fun g hg => (Dev.get_put_ne e v (hg f hf)).trans (h.1 g hg), h.2⟩

theorem OnlyRegs.puts {d e : Dev} {l : List Fld} (h : OnlyRegs d e l) (ws : List (Fld × Nat)) (hw : ∀ w ∈ ws, w.1 ∈ l) :
    OnlyRegs d (e.puts ws) l := by
  induction ws generalizing e with
  | nil => exact h
  | cons w ws ih =>
    rw [Dev.puts_cons]
    exact ih (h.put w.1 w.2 (hw w (by simp))) fun x hx => hw x (by simp [hx])

/-- A setting by hardware keeps the frame. -/
theorem OnlyRegs.hwSet {d e : Dev} {l : List Fld} (h : OnlyRegs d e l) (f : Fld) (hf : f ∈ l) : OnlyRegs d (e.hwSet f) l :=
  ⟨fun g hg => (Dev.hwSet_get_ne e (hg f hf)).trans (h.1 g hg), h.2⟩

theorem OnlyRegsSoft.refl (d : Dev) (l : List Fld) : OnlyRegsSoft d d l := ⟨fun _ _ => rfl, rfl⟩

theorem OnlyRegsSoft.put {d e : Dev} {l : List Fld} (h : OnlyRegsSoft d e l) (f : Fld) (v : Nat) (hf : f ∈ l) :
    OnlyRegsSoft d (e.put f v) l :=
  ⟨fun g hg => (Dev.get_put_ne e v (hg f hf)).trans (h.1 g hg), h.2⟩

/-- What the strict frame keeps, part by part. -/
theorem OnlyRegsSoft.part {α : Type} {d e : Dev} {l : List Fld} (h : OnlyRegsSoft d e l) (f : Dev → α)
    (hf : f { e with regs := d.regs } = f e) : f e = f d :=
  hf.symm.trans (congrArg f h.2)

theorem OnlyRegsSoft.only {d e : Dev} {l : List Fld} (h : OnlyRegsSoft d e l) : OnlyRegs d e l := by
  refine ⟨h.1, ?_⟩
  rw [← h.part Dev.setAt rfl, ← h.part Dev.setKeys rfl]
  exact h.2

theorem OnlyFields.mono {d e : Dev} {l m : List Fld} (h : OnlyFields d e l) (hs : ∀ f ∈ l, f ∈ m) : OnlyFields d e m :=
  fun f hf => h f fun g hg => hf g (hs g hg)

/-! ### Ends -/

theorem EndsDev.of_ok {c : Instr} {s : State} {P : Dev → Prop} {f : Dev → Dev} (h : exec c s = s.ok f) (hp : P (f s.dev)) :
    EndsDev c s P :=
  ⟨_, h, rfl, rfl, rfl, hp⟩

/-! ### Bits of a word -/

@[simp] theorem bits_mod (x lo w : Nat) : bits x lo w % 2 ^ w = bits x lo w := by simp [bits]

theorem bits_lt (x lo w : Nat) : bits x lo w < 2 ^ w := by
  simpa [bits] using Nat.mod_lt _ (Nat.two_pow_pos w)

end Sys2Proof.Machine
end

