-- ==== Sys2Proof/Laws/Flags.lean ====
section
/-!
SUPPORT. Sys2Proof/Laws/Flags.lean: what the raising of events, wakes, LOG entries and deadline misses leaves alone: every
quiet field (Safety.lean), and every table but the channel queues, the staged LOG entries and the notes of a tick.
-/
namespace Sys2Proof.Machine

/-! ### Quiet fields -/

theorem quiet_ne {f g : Fld} (hf : f.quiet = true) (hg : g.quiet = false) : f.key ≠ g.key := by
  intro h
  have : f.quiet = g.quiet := by simp only [Fld.quiet, h]
  rw [hf, hg] at this
  cases this

theorem Dev.get_put_quiet (d : Dev) {f g : Fld} (v : Nat) (hf : f.quiet = true) (hg : g.quiet = false) :
    (d.put g v).get f = d.get f := Dev.get_put_ne d v (quiet_ne hf hg)

theorem loud_evCount {s : Nat} (h : s < 256) : (H.evCount s).quiet = false := by
  simp only [Fld.quiet, hkey]; simp; omega
theorem loud_evStamp {s : Nat} (h : s < 256) : (H.evStamp s).quiet = false := by
  simp only [Fld.quiet, hkey]; simp; omega
theorem loud_evHeld {s : Nat} (h : s < 256) : (H.evHeld s).quiet = false := by
  simp only [Fld.quiet, hkey]; simp; omega
theorem loud_evRaise {s : Nat} (h : s < 256) : (H.evRaise s).quiet = false := by
  simp only [Fld.quiet, hkey]; simp; omega
theorem loud_evSetAt {s : Nat} (h : s < 256) : (H.evSetAt s).quiet = false := by
  simp only [Fld.quiet, hkey]; simp; omega
theorem loud_chSent {c : Nat} (h : c < 64) : (H.chSent c).quiet = false := by
  simp only [Fld.quiet, hkey]; simp; omega
theorem loud_pend {k : Nat} (h : k < 8) : (F.EVT_PEND_PEND k).quiet = false := by
  simp only [Fld.quiet, fkey]; simp; omega

/-! ### Event messages and raises -/

theorem Dev.rteCh_lt (d : Dev) (s : Nat) : d.get (H.rteCh s) < 64 := d.get_lt (H.rteCh s)

theorem Dev.hwEnqueue_get (d : Dev) {c : Nat} (ws : List Word) {f : Fld} (hc : c < 64) (hf : f.quiet = true) :
    (d.hwEnqueue c ws).get f = d.get f := by
  unfold Dev.hwEnqueue Dev.inc
  rw [Dev.get_put_quiet _ _ hf (loud_chSent hc)]
  rfl

theorem Dev.postEvent_get (d : Dev) {s : Nat} {f : Fld} (hs : s < 256) (hf : f.quiet = true) :
    (d.postEvent s).get f = d.get f := by
  unfold Dev.postEvent Dev.clr Dev.set1
  repeat' split
  all_goals simp only [Dev.get_put_quiet _ _ hf (loud_evHeld hs), Dev.hwEnqueue_get _ _ (d.rteCh_lt s) hf]

theorem Dev.setPend_get (d : Dev) {s : Nat} (on : Bool) {f : Fld} (hs : s < 256) (hf : f.quiet = true) :
    (d.setPend s on).get f = d.get f :=
  Dev.get_put_quiet d _ hf (loud_pend (by omega))

theorem Dev.raiseNew_get (d : Dev) {s : Nat} {f : Fld} (hs : s < 256) (hf : f.quiet = true) :
    (d.raiseNew s).get f = d.get f := by
  unfold Dev.raiseNew
  rw [Dev.postEvent_get _ hs hf]
  simp only [Dev.puts_cons, Dev.puts_nil]
  rw [Dev.get_put_quiet _ _ hf (loud_evSetAt hs), Dev.get_put_quiet _ _ hf (loud_evCount hs),
    Dev.get_put_quiet _ _ hf (loud_evStamp hs), Dev.setPend_get _ _ hs hf]

/-- A raise leaves every quiet field alone. -/
theorem Dev.raise_get (d : Dev) {s : Nat} {f : Fld} (hs : s < 256) (hf : f.quiet = true) : (d.raise s).get f = d.get f := by
  simp only [Dev.raise]
  split
  · rfl
  · split
    · rw [Dev.get_put_quiet _ _ hf (loud_evCount hs), Dev.get_put_quiet _ _ hf (loud_evRaise hs)]
    · rw [Dev.raiseNew_get _ hs hf, Dev.get_put_quiet _ _ hf (loud_evRaise hs)]

/-- An event bit that sets leaves every other quiet field alone. -/
theorem Dev.event_get (d : Dev) (evt ie : Fld) {src : Nat} {f : Fld} (hs : src < 256) (hf : f.quiet = true)
    (hne : f.key ≠ evt.key) : (d.event evt ie src).get f = d.get f := by
  simp only [Dev.event]
  split
  · rw [Dev.raise_get _ hs hf]
    exact Dev.hwSet_get_ne _ hne
  · exact Dev.hwSet_get_ne _ hne

/-- The event bit reads 1 afterwards. -/
theorem Dev.event_self (d : Dev) (evt ie : Fld) {src : Nat} (hs : src < 256) (hq : evt.quiet = true) (hw : evt.w = 1) :
    (d.event evt ie src).get evt = 1 := by
  have h1 : (d.hwSet evt).get evt = 1 := by simp [hw]
  simp only [Dev.event]
  split
  · rw [Dev.raise_get _ hs hq, h1]
  · exact h1

theorem Dev.wakeNote_get (d : Dev) (b : Nat) {f : Fld} (hf : f.quiet = true) : (d.wakeNote b).get f = d.get f := by
  unfold Dev.wakeNote
  split
  · exact Dev.hwBit_get_ne _ _ (quiet_ne hf (by decide))
  · split
    · exact Dev.hwBit_get_ne _ _ (quiet_ne hf (by decide))
    · rfl

theorem Dev.wake_get (d : Dev) (b : Nat) {f : Fld} (hf : f.quiet = true) : (d.wake b).get f = d.get f := by
  unfold Dev.wake Dev.arm Dev.putBit
  repeat' split
  all_goals first
    | rfl
    | exact d.wakeNote_get b hf
    | rw [Dev.get_put_quiet _ _ hf (by decide), Dev.get_put_quiet _ _ hf (by decide)]

theorem Dev.touch_get (d : Dev) (a : Agent) {f : Fld} (hf : f.quiet = true) : (d.touch a).get f = d.get f := by
  unfold Dev.touch
  split
  · exact d.wake_get 12 hf
  · rfl

theorem Dev.logAppend_get (d : Dev) (typ source : Nat) (data : List Nat) {f : Fld} (hf : f.quiet = true) :
    (d.logAppend typ source data).get f = d.get f := by
  unfold Dev.logAppend Dev.stoEvt
  split
  · exact Dev.event_get _ _ _ (by decide) hf (quiet_ne hf (by decide))
  · rfl

theorem Dev.dlMiss_get (d : Dev) (kind index : Nat) {f : Fld} (hf : f.quiet = true) : (d.dlMiss kind index).get f = d.get f := by
  unfold Dev.dlMiss Dev.inc
  rw [Dev.wake_get _ _ hf, Dev.raise_get _ (by decide) hf, Dev.logAppend_get _ _ _ _ hf, Dev.get_put_quiet _ _ hf (by decide)]
  split
  · exact Dev.get_put_quiet _ _ hf (by decide)
  · rw [Dev.get_put_quiet _ _ hf (by decide), Dev.get_put_quiet _ _ hf (by decide), Dev.get_put_quiet _ _ hf (by decide)]

/-! ### Tables -/

theorem OnlyRouter.refl (d : Dev) : OnlyRouter d d := rfl

theorem OnlyRouter.trans {d e g : Dev} (h : OnlyRouter d e) (k : OnlyRouter e g) : OnlyRouter d g := by
  unfold OnlyRouter at *
  rw [← h, ← k]

theorem OnlyRouter.put (d : Dev) (f : Fld) (v : Nat) : OnlyRouter d (d.put f v) := rfl
theorem OnlyRouter.hwSet (d : Dev) (f : Fld) : OnlyRouter d (d.hwSet f) := rfl
theorem OnlyRouter.hwBit (d : Dev) (f : Fld) (b : Nat) : OnlyRouter d (d.hwBit f b) := rfl

theorem Dev.postEvent_rest (d : Dev) (s : Nat) : OnlyRouter d (d.postEvent s) := by
  unfold Dev.postEvent; repeat' split
  all_goals rfl

theorem Dev.raiseNew_rest (d : Dev) (s : Nat) : OnlyRouter d (d.raiseNew s) := by
  unfold Dev.raiseNew
  refine OnlyRouter.trans ?_ (Dev.postEvent_rest _ s)
  rfl

/-- A raise writes only fields, the queue of its route, and nothing else. -/
theorem Dev.raise_rest (d : Dev) (s : Nat) : OnlyRouter d (d.raise s) := by
  simp only [Dev.raise]
  split
  · rfl
  · split
    · rfl
    · exact (OnlyRouter.put d _ _).trans (Dev.raiseNew_rest _ s)

theorem Dev.event_rest (d : Dev) (evt ie : Fld) (s : Nat) : OnlyRouter d (d.event evt ie s) := by
  simp only [Dev.event]
  split
  · exact (OnlyRouter.hwSet d evt).trans (Dev.raise_rest _ s)
  · rfl

theorem Dev.wake_rest (d : Dev) (b : Nat) : OnlyRouter d (d.wake b) := by
  unfold Dev.wake Dev.wakeNote
  repeat' split
  all_goals rfl

theorem Dev.touch_rest (d : Dev) (a : Agent) : OnlyRouter d (d.touch a) := by
  unfold Dev.touch
  split
  · exact d.wake_rest 12
  · rfl

theorem OnlyRouter.keep {α : Type} {d e : Dev} (h : OnlyRouter d e) (f : Dev → α)
    (hf : f { e with regs := d.regs, chq := d.chq, setAt := d.setAt, setKeys := d.setKeys } = f e) : f e = f d :=
  hf.symm.trans (congrArg f (show { e with regs := d.regs, chq := d.chq, setAt := d.setAt, setKeys := d.setKeys } = d from h))

theorem OnlyRouter.now {d e : Dev} (h : OnlyRouter d e) : e.now = d.now := h.keep Dev.now rfl
theorem OnlyRouter.free {d e : Dev} (h : OnlyRouter d e) : e.free = d.free := h.keep Dev.free rfl
theorem OnlyRouter.rstk {d e : Dev} (h : OnlyRouter d e) : e.rstk = d.rstk := h.keep Dev.rstk rfl
theorem OnlyRouter.txq {d e : Dev} (h : OnlyRouter d e) : e.txq = d.txq := h.keep Dev.txq rfl
theorem OnlyRouter.segq {d e : Dev} (h : OnlyRouter d e) : e.segq = d.segq := h.keep Dev.segq rfl
theorem OnlyRouter.mwin {d e : Dev} (h : OnlyRouter d e) : e.mwin = d.mwin := h.keep Dev.mwin rfl
theorem OnlyRouter.stg {d e : Dev} (h : OnlyRouter d e) : e.stg = d.stg := h.keep Dev.stg rfl
theorem OnlyRouter.logs {d e : Dev} (h : OnlyRouter d e) : e.logs = d.logs := h.keep Dev.logs rfl
theorem OnlyRouter.staged {d e : Dev} (h : OnlyRouter d e) : e.staged = d.staged := h.keep Dev.staged rfl
theorem OnlyRouter.prog {d e : Dev} (h : OnlyRouter d e) : e.prog = d.prog := h.keep Dev.prog rfl
theorem OnlyRouter.sigq {d e : Dev} (h : OnlyRouter d e) : e.sigq = d.sigq := h.keep Dev.sigq rfl
theorem OnlyRouter.seen {d e : Dev} (h : OnlyRouter d e) : e.seen = d.seen := h.keep Dev.seen rfl
theorem OnlyRouter.idrec {d e : Dev} (h : OnlyRouter d e) : e.idrec = d.idrec := h.keep Dev.idrec rfl
theorem OnlyRouter.nand {d e : Dev} (h : OnlyRouter d e) : e.nand = d.nand := h.keep Dev.nand rfl
theorem OnlyRouter.bmap {d e : Dev} (h : OnlyRouter d e) : e.bmap = d.bmap := h.keep Dev.bmap rfl
theorem OnlyRouter.retired {d e : Dev} (h : OnlyRouter d e) : e.retired = d.retired := h.keep Dev.retired rfl
theorem OnlyRouter.erases {d e : Dev} (h : OnlyRouter d e) : e.erases = d.erases := h.keep Dev.erases rfl
theorem OnlyRouter.hist {d e : Dev} (h : OnlyRouter d e) : e.hist = d.hist := h.keep Dev.hist rfl
theorem OnlyRouter.gzrec {d e : Dev} (h : OnlyRouter d e) : e.gzrec = d.gzrec := h.keep Dev.gzrec rfl
theorem OnlyRouter.commits {d e : Dev} (h : OnlyRouter d e) : e.commits = d.commits := h.keep Dev.commits rfl
theorem OnlyRouter.cmdq {d e : Dev} (h : OnlyRouter d e) : e.cmdq = d.cmdq := h.keep Dev.cmdq rfl

@[simp] theorem Dev.raise_now (d : Dev) (s : Nat) : (d.raise s).now = d.now := (d.raise_rest s).now
@[simp] theorem Dev.event_now (d : Dev) (evt ie : Fld) (s : Nat) : (d.event evt ie s).now = d.now := (d.event_rest evt ie s).now
@[simp] theorem Dev.wake_now (d : Dev) (b : Nat) : (d.wake b).now = d.now := (d.wake_rest b).now
@[simp] theorem Dev.touch_now (d : Dev) (a : Agent) : (d.touch a).now = d.now := (d.touch_rest a).now
@[simp] theorem Dev.raise_free (d : Dev) (s : Nat) : (d.raise s).free = d.free := (d.raise_rest s).free
@[simp] theorem Dev.event_free (d : Dev) (evt ie : Fld) (s : Nat) : (d.event evt ie s).free = d.free := (d.event_rest evt ie s).free
@[simp] theorem Dev.wake_free (d : Dev) (b : Nat) : (d.wake b).free = d.free := (d.wake_rest b).free
@[simp] theorem Dev.touch_free (d : Dev) (a : Agent) : (d.touch a).free = d.free := (d.touch_rest a).free
@[simp] theorem Dev.raise_rstk (d : Dev) (s : Nat) : (d.raise s).rstk = d.rstk := (d.raise_rest s).rstk
@[simp] theorem Dev.event_rstk (d : Dev) (evt ie : Fld) (s : Nat) : (d.event evt ie s).rstk = d.rstk := (d.event_rest evt ie s).rstk
@[simp] theorem Dev.wake_rstk (d : Dev) (b : Nat) : (d.wake b).rstk = d.rstk := (d.wake_rest b).rstk
@[simp] theorem Dev.touch_rstk (d : Dev) (a : Agent) : (d.touch a).rstk = d.rstk := (d.touch_rest a).rstk
@[simp] theorem Dev.raise_txq (d : Dev) (s : Nat) : (d.raise s).txq = d.txq := (d.raise_rest s).txq
@[simp] theorem Dev.event_txq (d : Dev) (evt ie : Fld) (s : Nat) : (d.event evt ie s).txq = d.txq := (d.event_rest evt ie s).txq
@[simp] theorem Dev.wake_txq (d : Dev) (b : Nat) : (d.wake b).txq = d.txq := (d.wake_rest b).txq
@[simp] theorem Dev.touch_txq (d : Dev) (a : Agent) : (d.touch a).txq = d.txq := (d.touch_rest a).txq
@[simp] theorem Dev.raise_segq (d : Dev) (s : Nat) : (d.raise s).segq = d.segq := (d.raise_rest s).segq
@[simp] theorem Dev.event_segq (d : Dev) (evt ie : Fld) (s : Nat) : (d.event evt ie s).segq = d.segq := (d.event_rest evt ie s).segq
@[simp] theorem Dev.wake_segq (d : Dev) (b : Nat) : (d.wake b).segq = d.segq := (d.wake_rest b).segq
@[simp] theorem Dev.touch_segq (d : Dev) (a : Agent) : (d.touch a).segq = d.segq := (d.touch_rest a).segq
@[simp] theorem Dev.raise_mwin (d : Dev) (s : Nat) : (d.raise s).mwin = d.mwin := (d.raise_rest s).mwin
@[simp] theorem Dev.event_mwin (d : Dev) (evt ie : Fld) (s : Nat) : (d.event evt ie s).mwin = d.mwin := (d.event_rest evt ie s).mwin
@[simp] theorem Dev.wake_mwin (d : Dev) (b : Nat) : (d.wake b).mwin = d.mwin := (d.wake_rest b).mwin
@[simp] theorem Dev.touch_mwin (d : Dev) (a : Agent) : (d.touch a).mwin = d.mwin := (d.touch_rest a).mwin
@[simp] theorem Dev.raise_stg (d : Dev) (s : Nat) : (d.raise s).stg = d.stg := (d.raise_rest s).stg
@[simp] theorem Dev.event_stg (d : Dev) (evt ie : Fld) (s : Nat) : (d.event evt ie s).stg = d.stg := (d.event_rest evt ie s).stg
@[simp] theorem Dev.wake_stg (d : Dev) (b : Nat) : (d.wake b).stg = d.stg := (d.wake_rest b).stg
@[simp] theorem Dev.touch_stg (d : Dev) (a : Agent) : (d.touch a).stg = d.stg := (d.touch_rest a).stg
@[simp] theorem Dev.raise_logs (d : Dev) (s : Nat) : (d.raise s).logs = d.logs := (d.raise_rest s).logs
@[simp] theorem Dev.event_logs (d : Dev) (evt ie : Fld) (s : Nat) : (d.event evt ie s).logs = d.logs := (d.event_rest evt ie s).logs
@[simp] theorem Dev.wake_logs (d : Dev) (b : Nat) : (d.wake b).logs = d.logs := (d.wake_rest b).logs
@[simp] theorem Dev.touch_logs (d : Dev) (a : Agent) : (d.touch a).logs = d.logs := (d.touch_rest a).logs
@[simp] theorem Dev.raise_staged (d : Dev) (s : Nat) : (d.raise s).staged = d.staged := (d.raise_rest s).staged
@[simp] theorem Dev.event_staged (d : Dev) (evt ie : Fld) (s : Nat) : (d.event evt ie s).staged = d.staged := (d.event_rest evt ie s).staged
@[simp] theorem Dev.wake_staged (d : Dev) (b : Nat) : (d.wake b).staged = d.staged := (d.wake_rest b).staged
@[simp] theorem Dev.touch_staged (d : Dev) (a : Agent) : (d.touch a).staged = d.staged := (d.touch_rest a).staged
@[simp] theorem Dev.raise_prog (d : Dev) (s : Nat) : (d.raise s).prog = d.prog := (d.raise_rest s).prog
@[simp] theorem Dev.event_prog (d : Dev) (evt ie : Fld) (s : Nat) : (d.event evt ie s).prog = d.prog := (d.event_rest evt ie s).prog
@[simp] theorem Dev.wake_prog (d : Dev) (b : Nat) : (d.wake b).prog = d.prog := (d.wake_rest b).prog
@[simp] theorem Dev.touch_prog (d : Dev) (a : Agent) : (d.touch a).prog = d.prog := (d.touch_rest a).prog
@[simp] theorem Dev.raise_sigq (d : Dev) (s : Nat) : (d.raise s).sigq = d.sigq := (d.raise_rest s).sigq
@[simp] theorem Dev.event_sigq (d : Dev) (evt ie : Fld) (s : Nat) : (d.event evt ie s).sigq = d.sigq := (d.event_rest evt ie s).sigq
@[simp] theorem Dev.wake_sigq (d : Dev) (b : Nat) : (d.wake b).sigq = d.sigq := (d.wake_rest b).sigq
@[simp] theorem Dev.touch_sigq (d : Dev) (a : Agent) : (d.touch a).sigq = d.sigq := (d.touch_rest a).sigq
@[simp] theorem Dev.raise_seen (d : Dev) (s : Nat) : (d.raise s).seen = d.seen := (d.raise_rest s).seen
@[simp] theorem Dev.event_seen (d : Dev) (evt ie : Fld) (s : Nat) : (d.event evt ie s).seen = d.seen := (d.event_rest evt ie s).seen
@[simp] theorem Dev.wake_seen (d : Dev) (b : Nat) : (d.wake b).seen = d.seen := (d.wake_rest b).seen
@[simp] theorem Dev.touch_seen (d : Dev) (a : Agent) : (d.touch a).seen = d.seen := (d.touch_rest a).seen
@[simp] theorem Dev.raise_idrec (d : Dev) (s : Nat) : (d.raise s).idrec = d.idrec := (d.raise_rest s).idrec
@[simp] theorem Dev.event_idrec (d : Dev) (evt ie : Fld) (s : Nat) : (d.event evt ie s).idrec = d.idrec := (d.event_rest evt ie s).idrec
@[simp] theorem Dev.wake_idrec (d : Dev) (b : Nat) : (d.wake b).idrec = d.idrec := (d.wake_rest b).idrec
@[simp] theorem Dev.touch_idrec (d : Dev) (a : Agent) : (d.touch a).idrec = d.idrec := (d.touch_rest a).idrec
@[simp] theorem Dev.raise_nand (d : Dev) (s : Nat) : (d.raise s).nand = d.nand := (d.raise_rest s).nand
@[simp] theorem Dev.event_nand (d : Dev) (evt ie : Fld) (s : Nat) : (d.event evt ie s).nand = d.nand := (d.event_rest evt ie s).nand
@[simp] theorem Dev.wake_nand (d : Dev) (b : Nat) : (d.wake b).nand = d.nand := (d.wake_rest b).nand
@[simp] theorem Dev.touch_nand (d : Dev) (a : Agent) : (d.touch a).nand = d.nand := (d.touch_rest a).nand
@[simp] theorem Dev.raise_bmap (d : Dev) (s : Nat) : (d.raise s).bmap = d.bmap := (d.raise_rest s).bmap
@[simp] theorem Dev.event_bmap (d : Dev) (evt ie : Fld) (s : Nat) : (d.event evt ie s).bmap = d.bmap := (d.event_rest evt ie s).bmap
@[simp] theorem Dev.wake_bmap (d : Dev) (b : Nat) : (d.wake b).bmap = d.bmap := (d.wake_rest b).bmap
@[simp] theorem Dev.touch_bmap (d : Dev) (a : Agent) : (d.touch a).bmap = d.bmap := (d.touch_rest a).bmap
@[simp] theorem Dev.raise_retired (d : Dev) (s : Nat) : (d.raise s).retired = d.retired := (d.raise_rest s).retired
@[simp] theorem Dev.event_retired (d : Dev) (evt ie : Fld) (s : Nat) : (d.event evt ie s).retired = d.retired := (d.event_rest evt ie s).retired
@[simp] theorem Dev.wake_retired (d : Dev) (b : Nat) : (d.wake b).retired = d.retired := (d.wake_rest b).retired
@[simp] theorem Dev.touch_retired (d : Dev) (a : Agent) : (d.touch a).retired = d.retired := (d.touch_rest a).retired
@[simp] theorem Dev.raise_erases (d : Dev) (s : Nat) : (d.raise s).erases = d.erases := (d.raise_rest s).erases
@[simp] theorem Dev.event_erases (d : Dev) (evt ie : Fld) (s : Nat) : (d.event evt ie s).erases = d.erases := (d.event_rest evt ie s).erases
@[simp] theorem Dev.wake_erases (d : Dev) (b : Nat) : (d.wake b).erases = d.erases := (d.wake_rest b).erases
@[simp] theorem Dev.touch_erases (d : Dev) (a : Agent) : (d.touch a).erases = d.erases := (d.touch_rest a).erases
@[simp] theorem Dev.raise_hist (d : Dev) (s : Nat) : (d.raise s).hist = d.hist := (d.raise_rest s).hist
@[simp] theorem Dev.event_hist (d : Dev) (evt ie : Fld) (s : Nat) : (d.event evt ie s).hist = d.hist := (d.event_rest evt ie s).hist
@[simp] theorem Dev.wake_hist (d : Dev) (b : Nat) : (d.wake b).hist = d.hist := (d.wake_rest b).hist
@[simp] theorem Dev.touch_hist (d : Dev) (a : Agent) : (d.touch a).hist = d.hist := (d.touch_rest a).hist
@[simp] theorem Dev.raise_gzrec (d : Dev) (s : Nat) : (d.raise s).gzrec = d.gzrec := (d.raise_rest s).gzrec
@[simp] theorem Dev.event_gzrec (d : Dev) (evt ie : Fld) (s : Nat) : (d.event evt ie s).gzrec = d.gzrec := (d.event_rest evt ie s).gzrec
@[simp] theorem Dev.wake_gzrec (d : Dev) (b : Nat) : (d.wake b).gzrec = d.gzrec := (d.wake_rest b).gzrec
@[simp] theorem Dev.touch_gzrec (d : Dev) (a : Agent) : (d.touch a).gzrec = d.gzrec := (d.touch_rest a).gzrec
@[simp] theorem Dev.raise_commits (d : Dev) (s : Nat) : (d.raise s).commits = d.commits := (d.raise_rest s).commits
@[simp] theorem Dev.event_commits (d : Dev) (evt ie : Fld) (s : Nat) : (d.event evt ie s).commits = d.commits := (d.event_rest evt ie s).commits
@[simp] theorem Dev.wake_commits (d : Dev) (b : Nat) : (d.wake b).commits = d.commits := (d.wake_rest b).commits
@[simp] theorem Dev.touch_commits (d : Dev) (a : Agent) : (d.touch a).commits = d.commits := (d.touch_rest a).commits
@[simp] theorem Dev.raise_cmdq (d : Dev) (s : Nat) : (d.raise s).cmdq = d.cmdq := (d.raise_rest s).cmdq
@[simp] theorem Dev.event_cmdq (d : Dev) (evt ie : Fld) (s : Nat) : (d.event evt ie s).cmdq = d.cmdq := (d.event_rest evt ie s).cmdq
@[simp] theorem Dev.wake_cmdq (d : Dev) (b : Nat) : (d.wake b).cmdq = d.cmdq := (d.wake_rest b).cmdq
@[simp] theorem Dev.touch_cmdq (d : Dev) (a : Agent) : (d.touch a).cmdq = d.cmdq := (d.touch_rest a).cmdq

end Sys2Proof.Machine
end

