-- ==== Sys2Proof/Laws/Ports.lean ====
section
/-!
SUPPORT. Sys2Proof/Laws/Ports.lean: a step of a port on a tick on which no detach of it waits.
-/
namespace Sys2Proof.Machine

theorem State.find?_of_not_any {p : Instr → Bool} {l : List Instr} (h : l.any p = false) : l.find? p = none := by
  rw [List.find?_eq_none]
  intro x hx hp
  exact absurd (List.any_eq_true.mpr ⟨x, hx, hp⟩) (by simp [h])

/-- With no emergency detach waiting, the state that a step of the port starts from is the state itself. -/
theorem State.emFirst_calm {s : State} {p : Nat} (h : s.calm p = true) : s.emFirst p = s := by
  unfold State.emFirst
  rw [find?_of_not_any (by simpa [State.calm] using h)]

/-- A step of a port with no emergency detach waiting ends in one change of the device part. -/
theorem State.okAt_calm {s : State} {p : Nat} (f : Dev → Dev) (h : s.calm p = true) : s.okAt p f = s.ok f := by
  rw [State.okAt, State.emFirst_calm h]

/-- With no detach of the port waiting, nothing comes before a command or an answer of the tick. -/
theorem State.detachFirst_keepsPort {s : State} {p : Nat} (h : s.keepsPort p = true) : s.detachFirst p = s := by
  simp only [State.keepsPort, Bool.and_eq_true, Bool.not_eq_true'] at h
  simp only [State.detachFirst, State.emFirst_calm h.1, find?_of_not_any h.2]

/-- A message that a port hears finds it calm and listening. -/
theorem State.calm_of_hears {s : State} {p hdr : Nat} (h : s.hears p hdr = true) : s.calm p = true := by
  simp only [State.hears, Bool.and_eq_true] at h
  exact h.1.1.1.1

end Sys2Proof.Machine
end

