-- ==== Sys2Proof/Tests/Slice0.lean ====
section
/-!
SUPPORT. Sys2Proof/Tests/Slice0.lean: states and operands that meet the hypotheses of the statements, the refusals of
WellFormed, and examples that the spec itself works out.
-/
namespace Sys2Proof.Tests

open Sys2Proof.Machine

/-- A block whose clock stands at 1000 ticks and whose every field holds its value after an L3 reset. -/
def small : State where
  dev :=
    { now := 1000, free := 0, regs := [], chq := [], rstk := [], txq := [], segq := [], mwin := [], stg := [], logs := [],
      staged := [], prog := [], sigq := [], seen := [], idrec := [], nand := [], bmap := [], retired := [], erases := [],
      hist := [], gzrec := [], cmdq := [], setAt := 0, setKeys := [],
      commits := [] }
  mem := []
  bad := []
  pending := []

/-- The small block with some fields written. -/
def st (l : List (Fld × Nat)) : State := small.onDev (·.puts l)

/-- Bytes 0-131 of a valid record: board type 5, port 0 fitted. -/
def gazetteerBody : List Nat :=
    [71, 90, 1, 0, 0, 5, 0, 1, 2, 3, 4, 5, 6, 7, 0, 1, 1, 244, 8, 52, 0, 0, 0, 0, 0, 0, 0, 0, 0, 0, 0, 0, 0, 0,
      0, 0, 3, 232, 3, 232, 11, 184, 0, 100, 0, 100, 0, 0, 3, 232, 0, 0, 0, 0, 0, 0, 0, 0, 0, 0, 0, 0, 0, 0, 0,
      0, 0, 0, 0, 0, 0, 0, 0, 0, 0, 0, 0, 0, 0, 0, 0, 0, 0, 0, 0, 0, 0, 0, 0, 0, 0, 0, 0, 0, 0, 0, 0, 0, 0, 0,
      0, 0, 0, 0, 0, 0, 0, 0, 0, 0, 0, 0, 0, 0, 0, 0, 0, 0, 0, 0, 0, 0, 0, 0, 0, 0, 0, 0, 0, 0, 0, 0]

/-- A record of R527 with a format byte of 1 or 2, and its CRC, which crcErr spoils. -/
def gazetteerRecord (format crcErr : Nat) : List (BitVec 8) :=
  let crc : List Nat := if format = 1 then [40, 132, 134, 224] else [98, 64, 118, 4]
  (gazetteerBody.set 2 format ++ crc.set 3 (crc.getD 3 0 ^^^ crcErr)).map (BitVec.ofNat 8)

/-- The state after a command, for a command that ends in one. -/
def after (c : Instr) (s : State) : State :=
  match exec c s with
  | .next t => t
  | _ => s

/-! ### What WellFormed refuses -/

theorem test_wf_vdm_objects : (Instr.rxVdmAck 0 0 0 0 (List.replicate 7 0)).wellFormed = false := by decide
theorem test_wf_source_caps : (Instr.rxSourceCapabilities 0 0 false (List.replicate 12 0)).wellFormed = false := by decide
theorem test_wf_reply_words : (Instr.rxReplyStored 0 0 0 (List.replicate 66 0)).wellFormed = false := by decide
theorem test_wf_record_length : (Instr.gzReadEnd 0 false (List.replicate 135 0)).wellFormed = false := by decide +kernel
theorem test_wf_sweep_gates : (Instr.sweepEnd (List.replicate 7 0) (List.replicate 8 0)).wellFormed = false := by decide
theorem test_wf_remeasure_gates : (Instr.remeasure (List.replicate 8 0) (List.replicate 9 0)).wellFormed = false := by decide
theorem test_wf_spi_code : (Instr.spiUnknownCmd 0x9F).wellFormed = false := by decide

/-! ### Examples that the spec works out -/

/-- R437: LDAU #0x1_4F16 and OR #0x2_0010 leave 0x5_3C5A_0010. -/
theorem test_ldau_or_build_a_constant :
    (after (.or 1 3 0 0x20010) (after (.ldau 1 3 0 0x14F16) (st [(F.CORE_STAT_STATE 1, 1), (F.CORE_P_P 1, 4096)]))).dev.accA 1
      = 0x53C5A0010 := by decide

/-- A watchdog whose counter runs out at a tick, after resets at 2.0 s and 7.5 s. -/
def watchdogAt (tick : Nat) : State :=
  after (.watchdogExpiry 1)
    ((st [(T.wdt 1, 1)]).onDev (fun d => { d with now := tick, hist := [(200, [480000000, 128000000])] }))

/-- Chapter 4: a third watchdog reset at 11.8 s asserts L2; had it fallen at 12.1 s, the window would hold one, and it is L1. -/
theorem test_third_watchdog :
    (watchdogAt 755200000).dev.get H.rstHeld = 2 ∧ (watchdogAt 774400000).dev.get H.rstHeld = 1 := by decide +kernel

/-- Chapter 9: Enter Mode for HPM reads 0x3C5A_A904, HPM_Offer as REQ 0x3C5A_A910. -/
theorem test_vdm_headers :
    (st [(F.PRT_PE_STAT_REV 3, 2)]).dev.vdmHdr 3 0x3C5A 1 0 4 = 0x3C5AA904 ∧
    (st [(F.PRT_PE_STAT_REV 3, 2)]).dev.vdmHdr 3 0x3C5A 1 0 0x10 = 0x3C5AA910 := by decide

/-- Chapter 7: with GET_STATUS due 50 ms after ta, a PR_SWAP written 1 ms later is due 1650 ms after ta. -/
theorem test_command_deadlines :
    (st [(F.SYS_MODE_MODE, 0)]).dev.cmdDeadline 3 50 = 1000 + 50 * 64000 ∧
    ((st [(F.SYS_MODE_MODE, 0)]).onDev (fun d => { d.setCmds 3 [⟨5, 0, 0, 0, 1000 + 50 * 64000, false, false⟩] with now := 65000 })).dev.cmdDeadline 3 1600
      = 1000 + 1650 * 64000 := by decide

/-- Chapter 13: segment 0x02A as a record, its bytes 0-4 and 21-52. -/
theorem test_segment_record :
    let r := (st [(F.SYS_BAK_STAT_TAMPER, 0)]).dev.segRecord 5 ⟨0x02A, 12, 1, 1754380500, 16000000, 1754380800, 0, 0, 0, 1963962000, 0xB05552EE0, true, false, 0, 0⟩
    r.take 5 = [0x01, 0x05, 0x02, 0xAC, 0x01] ∧
    r.drop 21 = [0x06, 0x89, 0x1B, 0x8D, 0x40, 0x00, 0xF4, 0x24, 0x00, 0x06, 0x89, 0x1B, 0xA0, 0x00, 0x00, 0x00, 0x00, 0x00,
      0x00, 0x00, 0x00, 0x00, 0x00, 0x75, 0x0F, 0xAE, 0x90, 0x0B, 0x05, 0x55, 0x2E, 0xE0] := by decide +kernel

/-- Chapter 15: three handlers of C1 at 200 M and at 150 M steps per second: UFAIL, DFAIL and U. -/
theorem test_admission_example :
    let h : List Handler := [⟨1, 10, 0, 38, 120, 5, 4000⟩, ⟨1, 11, 0, 60000, 20000, 20, 4000⟩, ⟨1, 255, 0, 200000, 60000, 30, 3000⟩]
    (small.dev.admOf h 2000 255 1).drop 2 = [0, 0, 2106] ∧ (small.dev.admOf h 1500 255 1).drop 2 = [0, 1, 2766] := by
  decide +kernel

/-- Chapter 11: the charge budget drops to 59 kW: the caps of P04-P07, P08-P14, and of P00-P03 and P15. -/
theorem test_budget_drop :
    let l : List Share := ((List.range 4).map (fun p => ⟨p, 20000, 72000, 0, 2, 0⟩)) ++
      ((List.range 8).map (fun p => ⟨p + 4, 5000, 72000, 1, 1, 0⟩)) ++
      ((List.range 3).map (fun p => ⟨p + 12, 5000, 30000, 1, 1, 0⟩)) ++ [⟨15, 600, 2400, 1, 1, 0⟩]
    (allocate 590000 l).2.2.map (·.alloc) = List.replicate 4 72000 ++ List.replicate 4 27237 ++ List.replicate 7 27236 ++ [2400] ∧
    (allocate 590000 l).1 = 0 ∧ (allocate 1000000 l).1 = 43600 := by decide +kernel

/-- Chapter 16: the host's five bytes 00 00 20 00 80 are the word 0x0_0020_0080; the window's entry 1 is then TB_EPOCH. -/
theorem test_window_entry : (st [(F.HOST_WBASE_BASE, 0x200080)]).dev.windowAddr 1 = 0x200081 := by decide


/-! ### States and operands that meet the hypotheses of the statements -/

theorem witness_EmptyQueueLetsATickPass :
    (∃ (s : State), s.pending = [] ∧ s.betweenTicks = true ∧ 2 ≤ s.dev.get H.rstHeld) ∧
    (∃ (s : State), s.pending = [] ∧ s.betweenTicks = true ∧ s.dev.get H.rstHeld < 2 ∧ s.dev.lapDue = false) ∧
    (∃ (s : State), s.pending = [] ∧ s.betweenTicks = true ∧ s.dev.get H.rstHeld < 2 ∧ s.dev.lapDue = true) ∧
    (∃ (s : State) (a : Agent) (i : Fin 64) (v : Word), s.pending = [] ∧ s.dev.commits = [⟨s.dev.now, a, 0x200100 +
    i.val, v.toNat⟩] ∧ s.dev.get (F.CMP_CTRL_MODE i.val) = 0 ∧ ({ s with dev := { s.dev with commits := [] } } :
    State).betweenTicks = true) :=
  ⟨⟨st [(H.rstHeld, 2)], by decide, by decide, by decide⟩,
   ⟨st [], by decide, by decide, by decide, by decide⟩,
   ⟨st [(F.TB_COUNT_COUNT, 63999999)], by decide, by decide, by decide, by decide⟩,
   ⟨(st [(F.CMP_CTRL_MODE 2, 0)]).onDev (fun d => { d with commits := [⟨1000, .core 0, 0x200102, 0⟩] }), (.core 0), 2,
    0, by decide, by decide, by decide, by decide⟩⟩

theorem witness_StepKeepsMemoryForm :
    ∃ (s : State) (t : State), Memory.wf s.mem = true ∧ step s = .next t :=
  ⟨st [(H.rstHeld, 3)], _, by decide, rfl⟩

theorem witness_LocalMemoryIsolation :
    ∃ (m : Fin 6) (c : Instr) (s : State) (t : State) (a : Nat), a < 0x8000 ∧ exec c s = .next t ∧ t.memRead (localKey
    m.val a) ≠ s.memRead (localKey m.val a) :=
  ⟨2, .sta 2 0 0 64, st [(F.CORE_STAT_STATE 2, 1), (F.CORE_P_P 2, 4096), (H.coreA 2, 7)], _, 64, by decide, rfl, by
    decide⟩

theorem witness_ResetState :
    (∃ (f : Fld), (∀ e ∈ State.resetFields, e.1.key ≠ f.key)) ∧
    (∃ (n : Fin 6), n.val ≠ 0) :=
  ⟨⟨F.TB_COUNT_COUNT, by decide +kernel⟩,
   ⟨1, by decide⟩⟩

theorem witness_AccumulatorInstructionsComplete :
    ∃ (s : State) (n : Fin 6) (mode : BitVec 2) (field : BitVec 22) (o : Word × State) (done : Word → State), s.fetches
    n = true ∧ s.operandOk n mode field = true ∧ o = s.operand n mode field ∧ done = (fun w => o.2.onDev (fun d =>
    (d.setA n w).advance n)) :=
  ⟨st [(F.CORE_STAT_STATE 1, 1), (F.CORE_P_P 1, 4096)], 1, 0, 65600, _, _, by decide, by decide, rfl, rfl⟩

theorem witness_ShiftsFollowR439 :
    ∃ (s : State) (n : Fin 6) (mode : BitVec 2) (field : BitVec 22) (o : Word × State) (done : Word → State) (a :
    Word), s.fetches n = true ∧ s.operandOk n mode field = true ∧ o = s.operand n mode field ∧ done = (fun w =>
    o.2.onDev (fun d => (d.setA n w).advance n)) ∧ a = o.2.dev.accA n :=
  ⟨st [(F.CORE_STAT_STATE 1, 1), (F.CORE_P_P 1, 4096)], 1, 0, 65600, _, _, _, by decide, by decide, rfl, rfl, rfl⟩

theorem witness_ProductsFollowR440 :
    ∃ (s : State) (n : Fin 6) (mode : BitVec 2) (field : BitVec 22) (o : Word × State) (done : Word → State) (a :
    Word), s.fetches n = true ∧ s.operandOk n mode field = true ∧ o = s.operand n mode field ∧ done = (fun w =>
    o.2.onDev (fun d => (d.setA n w).advance n)) ∧ a = o.2.dev.accA n :=
  ⟨st [(F.CORE_STAT_STATE 1, 1), (F.CORE_P_P 1, 4096)], 1, 0, 65600, _, _, _, by decide, by decide, rfl, rfl, rfl⟩

theorem witness_QuotientsFollowR441 :
    ∃ (s : State) (n : Fin 6) (mode : BitVec 2) (field : BitVec 22) (o : Word × State) (done : Word → State) (a :
    Word), s.fetches n = true ∧ s.operandOk n mode field = true ∧ o = s.operand n mode field ∧ done = (fun w =>
    o.2.onDev (fun d => (d.setA n w).advance n)) ∧ a = o.2.dev.accA n :=
  ⟨st [(F.CORE_STAT_STATE 1, 1), (F.CORE_P_P 1, 4096)], 1, 0, 65600, _, _, _, by decide, by decide, rfl, rfl, rfl⟩

theorem witness_AccumulatorInstructionsFrame :
    ∃ (s : State) (n : Fin 6) (mode : BitVec 2) (aux : BitVec 6) (field : BitVec 22) (c : Instr), s.fetches n = true ∧
    s.operandPlain n mode field = true ∧ ((aux = 0 ∧ c ∈ [.lda n mode aux field, .add n mode aux field, .sub n mode aux
    field, .rsb n mode aux field, .and n mode aux field, .or n mode aux field, .xor n mode aux field, .bic n mode aux
    field, .ldau n 3 aux field]) ∨ (aux.toNat ≤ 3 ∧ c ∈ [.sh n mode aux field, .div n mode aux field]) ∨ (aux.toNat ≤ 2
    ∧ c = .mul n mode aux field)) :=
  ⟨st [(F.CORE_STAT_STATE 1, 1), (F.CORE_P_P 1, 4096)], 1, 0, 0, 64, .lda 1 0 0 64, by decide, by decide, by decide⟩

theorem witness_IndexInstructionsComplete :
    (∃ (s : State) (n : Fin 6) (mode : BitVec 2) (field : BitVec 22) (o : Word × State), s.fetches n = true ∧
    s.operandOk n mode field = true ∧ o = s.operand n mode field) ∧
    (∃ (s : State) (n : Fin 6) (done : (Dev → Dev) → State), s.fetches n = true ∧ done = (fun f => s.onDev (fun d => (f
    d).advance n))) ∧
    (∃ (s : State) (n : Fin 6) (aux : BitVec 6), s.fetches n = true ∧ 7 ≤ aux.toNat) :=
  ⟨⟨st [(F.CORE_STAT_STATE 1, 1), (F.CORE_P_P 1, 4096)], 1, 0, 65600, _, by decide, by decide, rfl⟩,
   ⟨st [(F.CORE_STAT_STATE 1, 1), (F.CORE_P_P 1, 4096)], 1, _, by decide, rfl⟩,
   ⟨st [(F.CORE_STAT_STATE 1, 1), (F.CORE_P_P 1, 4096)], 1, 7, by decide, by decide⟩⟩

theorem witness_StoresComplete :
    (∃ (s : State) (n : Fin 6) (mode : BitVec 2) (field : BitVec 22) (c : Instr) (w : Word) (k : _), s.fetches n = true
    ∧ mode ≠ 3 ∧ ((c = .sta n mode 0 field ∧ w = s.dev.accA n) ∨ (c = .stx n mode 0 field ∧ w = BitVec.ofNat 36
    (s.dev.idxX n)) ∨ (c = .sty n mode 0 field ∧ w = BitVec.ofNat 36 (s.dev.idxY n))) ∧ mayHoldMessage (s.dev.ea n mode
    field) = true ∧ s.alone n (s.dev.ea n mode field) = true ∧ k ≠ wordKey n (s.dev.ea n mode field)) ∧
    (∃ (s : State) (n : Fin 6) (mode : BitVec 2) (field : BitVec 22) (c : Instr) (w : Word), s.fetches n = true ∧ mode
    ≠ 3 ∧ ((c = .sta n mode 0 field ∧ w = s.dev.accA n) ∨ (c = .stx n mode 0 field ∧ w = BitVec.ofNat 36 (s.dev.idxX
    n)) ∨ (c = .sty n mode 0 field ∧ w = BitVec.ofNat 36 (s.dev.idxY n))) ∧ mayStore (s.dev.ea n mode field) = true) ∧
    (∃ (s : State) (n : Fin 6) (mode : BitVec 2) (field : BitVec 22) (c : Instr) (w : Word), s.fetches n = true ∧ mode
    ≠ 3 ∧ ((c = .sta n mode 0 field ∧ w = s.dev.accA n) ∨ (c = .stx n mode 0 field ∧ w = BitVec.ofNat 36 (s.dev.idxX
    n)) ∨ (c = .sty n mode 0 field ∧ w = BitVec.ofNat 36 (s.dev.idxY n))) ∧ mayStore (s.dev.ea n mode field) = false) ∧
    (∃ (s : State) (n : Fin 6) (mode : BitVec 2) (field : BitVec 22) (c : Instr) (w : Word) (m : Fin 6) (mode2 : BitVec
    2) (field2 : BitVec 22) (b : Instr) (t : _) (u : _), s.fetches n = true ∧ mode ≠ 3 ∧ ((c = .sta n mode 0 field ∧ w
    = s.dev.accA n) ∨ (c = .stx n mode 0 field ∧ w = BitVec.ofNat 36 (s.dev.idxX n)) ∨ (c = .sty n mode 0 field ∧ w =
    BitVec.ofNat 36 (s.dev.idxY n))) ∧ n.val < m.val ∧ s.fetches m = true ∧ mode2 ≠ 3 ∧ b = .sta m mode2 0 field2 ∧
    inSram (s.dev.ea n mode field) = true ∧ s.dev.ea m mode2 field2 = s.dev.ea n mode field ∧ s.dev.notes = [] ∧ exec c
    { s with pending := [b] } = .next t ∧ exec b { t with pending := [] } = .next u) ∧
    (∃ (s : State) (n : Fin 6) (mode : BitVec 2) (field : BitVec 22) (c : Instr) (w : Word) (m : Fin 6) (mode2 : BitVec
    2) (field2 : BitVec 22) (b : Instr) (t : _) (u : _), s.fetches n = true ∧ mode ≠ 3 ∧ ((c = .sta n mode 0 field ∧ w
    = s.dev.accA n) ∨ (c = .stx n mode 0 field ∧ w = BitVec.ofNat 36 (s.dev.idxX n)) ∨ (c = .sty n mode 0 field ∧ w =
    BitVec.ofNat 36 (s.dev.idxY n))) ∧ n.val < m.val ∧ s.fetches m = true ∧ mode2 ≠ 3 ∧ b = .sta m mode2 0 field2 ∧
    inSram (s.dev.ea n mode field) = true ∧ s.dev.ea m mode2 field2 = s.dev.ea n mode field ∧ s.dev.notes = [] ∧ exec b
    { s with pending := [c] } = .next t ∧ exec c { t with pending := [] } = .next u) :=
  ⟨⟨st [(F.CORE_STAT_STATE 1, 1), (F.CORE_P_P 1, 4096)], 1, 0, 64, .sta 1 0 0 64, 0, 0, by decide, by decide, by
    decide, by decide, by decide, by decide⟩,
   ⟨st [(F.CORE_STAT_STATE 1, 1), (F.CORE_P_P 1, 4096)], 1, 0, 64, .sta 1 0 0 64, 0, by decide, by decide, by decide,
    by decide⟩,
   ⟨st [(F.CORE_STAT_STATE 1, 1), (F.CORE_P_P 1, 4096)], 1, 0, 65600, .sta 1 0 0 65600, 0, by decide, by decide, by
    decide, by decide⟩,
   ⟨st [(F.CORE_STAT_STATE 1, 1), (F.CORE_P_P 1, 4096), (F.CORE_STAT_STATE 2, 1), (F.CORE_P_P 2, 4096)], 1, 0, 262144,
    .sta 1 0 0 262144, 0, 2, 0, 262144, .sta 2 0 0 262144, _, _, by decide, by decide, by decide, by decide, by decide,
    by decide, by decide, by decide, by decide, by decide, rfl, rfl⟩,
   ⟨st [(F.CORE_STAT_STATE 1, 1), (F.CORE_P_P 1, 4096), (F.CORE_STAT_STATE 2, 1), (F.CORE_P_P 2, 4096)], 1, 0, 262144,
    .sta 1 0 0 262144, 0, 2, 0, 262144, .sta 2 0 0 262144, _, _, by decide, by decide, by decide, by decide, by decide,
    by decide, by decide, by decide, by decide, by decide, rfl, rfl⟩⟩

theorem witness_ControlTransfersComplete :
    (∃ (s : State) (n : Fin 6) (mode : BitVec 2) (field : BitVec 22) (o : _), s.fetches n = true ∧ mode ≠ 3 ∧
    s.operandOk n mode field = true ∧ o = s.operand n mode field) ∧
    (∃ (s : State) (n : Fin 6) (mode : BitVec 2) (field : BitVec 22) (t : _), s.fetches n = true ∧ (s.dev.rstack
    n).length < 16 ∧ exec (.call n mode 0 field) s = .next t ∧ t.fetches n = true) ∧
    (∃ (s : State) (n : Fin 6) (p : _) (l : _), s.fetches n = true ∧ s.dev.rstack n = p :: l) ∧
    (∃ (s : State) (n : Fin 6), s.fetches n = true ∧ 16 ≤ (s.dev.rstack n).length) ∧
    (∃ (s : State) (n : Fin 6), s.fetches n = true ∧ s.dev.rstack n = []) :=
  ⟨⟨st [(F.CORE_STAT_STATE 1, 1), (F.CORE_P_P 1, 4096)], 1, 0, 65600, _, by decide, by decide, by decide, rfl⟩,
   ⟨st [(F.CORE_STAT_STATE 1, 1), (F.CORE_P_P 1, 4096)], 1, 0, 64, _, by decide, by decide, rfl, by decide⟩,
   ⟨(st [(F.CORE_STAT_STATE 1, 1), (F.CORE_P_P 1, 4096)]).onDev (·.setRstack 1 [5]), 1, 5, [], by decide, by decide⟩,
   ⟨(st [(F.CORE_STAT_STATE 1, 1), (F.CORE_P_P 1, 4096)]).onDev (·.setRstack 1 (List.range 16)), 1, by decide, by
    decide⟩,
   ⟨st [(F.CORE_STAT_STATE 1, 1), (F.CORE_P_P 1, 4096)], 1, by decide, by decide⟩⟩

theorem witness_BranchesFollowR444 :
    ∃ (s : State) (n : Fin 6) (cond : BitVec 4), s.fetches n = true ∧ 11 ≤ cond.toNat :=
  ⟨st [(F.CORE_STAT_STATE 1, 1), (F.CORE_P_P 1, 4096)], 1, 11, by decide, by decide⟩

theorem witness_ChannelInstructionsComplete :
    (∃ (s : State) (n : Fin 6) (mode : BitVec 2) (aux : BitVec 6) (field : BitVec 22) (l : List Nat) (c : _), s.fetches
    n = true ∧ mode ≠ 3 ∧ s.dev.get (H.chSrc aux.toNat) = n.val ∧ l = addrsFrom (s.dev.ea n mode field) ((s.dev.accA
    n).toNat % 16 + 1) ∧ (∀ a ∈ l, mayHoldMessage a = true) ∧ (0 < s.dev.chCredit aux.toNat ∨ (s.dev.chOpen aux.toNat =
    true ∧ s.pending.any (s.recvBehind aux.toNat) = true)) ∧ (∀ a ∈ l, s.isBad (.core n) a = false ∧ s.alone n a =
    true) ∧ c ≠ aux.toNat) ∧
    (∃ (s : State) (n : Fin 6) (mode : BitVec 2) (aux : BitVec 6) (field : BitVec 22) (l : List Nat), s.fetches n =
    true ∧ mode ≠ 3 ∧ s.dev.get (H.chSrc aux.toNat) = n.val ∧ l = addrsFrom (s.dev.ea n mode field) ((s.dev.accA
    n).toNat % 16 + 1) ∧ (∀ a ∈ l, mayHoldMessage a = true) ∧ s.dev.chCredit aux.toNat = 0 ∧ s.pending.any
    (s.recvBehind aux.toNat) = false) ∧
    (∃ (s : State) (n : Fin 6) (mode : BitVec 2) (aux : BitVec 6), s.fetches n = true ∧ mode ≠ 3 ∧ s.dev.get (H.chDst
    aux.toNat) = n.val ∧ (∀ m ∈ s.dev.chan aux.toNat, s.dev.now ≤ m.enq)) ∧
    (∃ (s : State) (n : Fin 6) (mode : BitVec 2) (aux : BitVec 6) (field : BitVec 22) (m : _) (q : _), s.fetches n =
    true ∧ mode ≠ 3 ∧ s.dev.get (H.chDst aux.toNat) = n.val ∧ s.dev.chan aux.toNat = m :: q ∧ m.enq < s.dev.now ∧ (∀ a
    ∈ addrsFrom (s.dev.ea n mode field) m.words.length, mayHoldMessage a = true) ∧ m.bad = true ∧ s.dev.get
    (F.CORE_EXC_ACTIVE n) = 0) ∧
    (∃ (s : State) (n : Fin 6) (mode : BitVec 2) (aux : BitVec 6) (field : BitVec 22) (m : _) (q : _) (c : _),
    s.fetches n = true ∧ mode ≠ 3 ∧ s.dev.get (H.chDst aux.toNat) = n.val ∧ s.dev.chan aux.toNat = m :: q ∧ m.enq <
    s.dev.now ∧ (∀ a ∈ addrsFrom (s.dev.ea n mode field) m.words.length, mayHoldMessage a = true) ∧ m.bad = false ∧ c ≠
    aux.toNat) ∧
    (∃ (s : State) (n : Fin 6) (mode : BitVec 2) (aux : BitVec 6) (field : BitVec 22) (m : _) (q : _) (k : _),
    s.fetches n = true ∧ mode ≠ 3 ∧ s.dev.get (H.chDst aux.toNat) = n.val ∧ s.dev.chan aux.toNat = m :: q ∧ m.enq <
    s.dev.now ∧ (∀ a ∈ addrsFrom (s.dev.ea n mode field) m.words.length, mayHoldMessage a = true) ∧ m.bad = false ∧ (∀
    a ∈ addrsFrom (s.dev.ea n mode field) m.words.length, k ≠ wordKey n a)) ∧
    (∃ (s : State) (n : Fin 6) (aux : BitVec 6), s.fetches n = true ∧ (s.dev.get (H.chSrc aux.toNat) = n.val ∨
    s.dev.get (H.chDst aux.toNat) = n.val)) :=
  ⟨⟨st [(F.CORE_STAT_STATE 1, 1), (F.CORE_P_P 1, 4096), (H.chSrc 5, 1), (H.chDst 5, 1), (H.chEn 5, 1), (H.chDepth 5,
    4)], 1, 0, 5, 64, _, 6, by decide, by decide, by decide, rfl, by decide, by decide, by decide, by decide⟩,
   ⟨st [(F.CORE_STAT_STATE 1, 1), (F.CORE_P_P 1, 4096), (H.chSrc 5, 1)], 1, 0, 5, 64, _, by decide, by decide, by
    decide, rfl, by decide, by decide, by decide⟩,
   ⟨st [(F.CORE_STAT_STATE 1, 1), (F.CORE_P_P 1, 4096), (H.chSrc 5, 1), (H.chDst 5, 1), (H.chEn 5, 1), (H.chDepth 5,
    4)], 1, 0, 5, by decide, by decide, by decide, by decide⟩,
   ⟨(st [(F.CORE_STAT_STATE 1, 1), (F.CORE_P_P 1, 4096), (F.CORE_EXC_ACTIVE 1, 0), (H.chSrc 5, 0), (H.chDst 5, 1),
    (H.chEn 5, 1), (H.chDepth 5, 4)]).onDev (·.setChan 5 [⟨[7], 900, false, true⟩]), 1, 0, 5, 64, _, _, by decide, by
    decide, by decide, rfl, by decide, by decide, by decide, by decide⟩,
   ⟨(st [(F.CORE_STAT_STATE 1, 1), (F.CORE_P_P 1, 4096), (H.chSrc 5, 1), (H.chDst 5, 1), (H.chEn 5, 1), (H.chDepth 5,
    4)]).onDev (·.setChan 5 [⟨[7, 8], 900, false, false⟩]), 1, 0, 5, 64, ⟨[7, 8], 900, false, false⟩, [], 6, by decide,
    by decide, by decide, by decide, by decide, by decide, by decide, by decide⟩,
   ⟨(st [(F.CORE_STAT_STATE 1, 1), (F.CORE_P_P 1, 4096), (H.chSrc 5, 1), (H.chDst 5, 1), (H.chEn 5, 1), (H.chDepth 5,
    4)]).onDev (·.setChan 5 [⟨[7, 8], 900, false, false⟩]), 1, 0, 5, 64, ⟨[7, 8], 900, false, false⟩, [], 0, by decide,
    by decide, by decide, by decide, by decide, by decide, by decide, by decide⟩,
   ⟨st [(F.CORE_STAT_STATE 1, 1), (F.CORE_P_P 1, 4096), (H.chSrc 5, 1), (H.chDst 5, 1), (H.chEn 5, 1), (H.chDepth 5,
    4)], 1, 5, by decide, by decide⟩⟩

theorem witness_ChannelMessagesKeptWhole :
    ∃ (s : State) (t : State) (u : State) (n : Fin 6) (m : Fin 6) (mode : BitVec 2) (mode' : BitVec 2) (aux : BitVec 6)
    (field : BitVec 22) (field' : BitVec 22) (len : Nat) (i : _), s.fetches n = true ∧ mode ≠ 3 ∧ mode' ≠ 3 ∧ s.dev.get
    (H.chSrc aux.toNat) = n.val ∧ s.dev.chan aux.toNat = [] ∧ 0 < s.dev.chCredit aux.toNat ∧ len = (s.dev.accA n).toNat
    % 16 + 1 ∧ (∀ i, i < len → mayHoldMessage ((s.dev.ea n mode field + i) % 2 ^ 22) = true ∧ s.isBad (.core n)
    ((s.dev.ea n mode field + i) % 2 ^ 22) = false ∧ s.alone n ((s.dev.ea n mode field + i) % 2 ^ 22) = true) ∧ exec
    (.send n mode aux field) s = .next t ∧ t.dev.now < u.dev.now ∧ u.dev.chan aux.toNat = t.dev.chan aux.toNat ∧
    u.fetches m = true ∧ u.dev.get (H.chDst aux.toNat) = m.val ∧ (∀ i, i < len → mayHoldMessage ((u.dev.ea m mode'
    field' + i) % 2 ^ 22) = true ∧ u.alone m ((u.dev.ea m mode' field' + i) % 2 ^ 22) = true) ∧ i < len :=
  ⟨st [(F.CORE_STAT_STATE 1, 1), (F.CORE_P_P 1, 4096), (H.chSrc 5, 1), (H.chDst 5, 2), (H.chEn 5, 1), (H.chDepth 5,
    4), (F.CORE_STAT_STATE 2, 1), (F.CORE_P_P 2, 4096), (H.coreA 1, 1)], _, ((st [(F.CORE_STAT_STATE 1, 1), (F.CORE_P_P
    1, 4096), (H.chSrc 5, 1), (H.chDst 5, 2), (H.chEn 5, 1), (H.chDepth 5, 4), (F.CORE_STAT_STATE 2, 1), (F.CORE_P_P 2,
    4096), (H.coreA 1, 1)]).coreInstr 1 true (·.send 1 5 64)).onDev (fun d => { d with now := 2000 }), 1, 2, 0, 0, 5,
    64, 64, 2, 1, by decide, by decide, by decide, by decide, by decide, by decide, by decide, by decide, rfl, by
    decide, by decide, by decide, by decide, by decide, by decide⟩

theorem witness_WaitsComplete :
    (∃ (s : State) (n : Fin 6) (c : Fin 64), s.fetches n = true ∧ s.dev.get (H.chDst c.val) = n.val ∧ s.dev.chan c.val
    ≠ []) ∧
    (∃ (s : State) (n : Fin 6) (c : Fin 64), s.fetches n = true ∧ s.dev.get (H.chDst c.val) = n.val ∧ s.dev.chan c.val
    = [] ∧ s.dev.accA n ≠ 0) ∧
    (∃ (s : State) (n : Fin 6) (mode : BitVec 2) (field : BitVec 22) (c : Nat) (set : List Nat), s.fetches n = true ∧
    mode ≠ 3 ∧ mayHoldMessage (s.dev.ea n mode field) = true ∧ mayHoldMessage (s.dev.ea n mode field + 1) = true ∧
    s.isBad (.core n) (s.dev.ea n mode field) = false ∧ s.isBad (.core n) (s.dev.ea n mode field + 1) = false ∧ s.alone
    n (s.dev.ea n mode field) = true ∧ s.alone n (s.dev.ea n mode field + 1) = true ∧ set = setChans ((s.memRead
    (wordKey n (s.dev.ea n mode field))).toNat % 2 ^ 32) ((s.memRead (wordKey n (s.dev.ea n mode field + 1))).toNat % 2
    ^ 32) ∧ (∀ k ∈ set, s.dev.get (H.chDst k) = n.val) ∧ c ∈ set ∧ s.dev.chan c ≠ [] ∧ (∀ k ∈ set, k < c → s.dev.chan k
    = [])) ∧
    (∃ (s : State) (n : Fin 6) (c : _), s.dev.coreState n = 2 ∧ s.dev.get H.rstHeld = 0 ∧ s.dev.setWaiting (s.dev.get
    (H.waitLo n)) (s.dev.get (H.waitHi n)) = some c ∧ c < 64) ∧
    (∃ (s : State) (n : Fin 6), s.dev.coreState n = 2 ∧ s.dev.get H.rstHeld = 0 ∧ s.dev.get (T.waitOut n) ≠ 0) :=
  ⟨⟨(st [(F.CORE_STAT_STATE 1, 1), (F.CORE_P_P 1, 4096), (H.chDst 5, 1), (H.chSrc 5, 1), (H.chEn 5, 1), (H.chDepth 5,
    4)]).onDev (·.setChan 5 [⟨[7, 8], 900, false, false⟩]), 1, 5, by decide, by decide, by decide⟩,
   ⟨st [(F.CORE_STAT_STATE 1, 1), (F.CORE_P_P 1, 4096), (H.chDst 5, 1), (H.chSrc 5, 1), (H.chEn 5, 1), (H.chDepth 5,
    4), (H.coreA 1, 5)], 1, 5, by decide, by decide, by decide, by decide⟩,
   ⟨({ st [(F.CORE_STAT_STATE 1, 1), (F.CORE_P_P 1, 4096), (H.chSrc 5, 1), (H.chDst 5, 1), (H.chEn 5, 1), (H.chDepth
    5, 4)] with mem := [(4227136, 32)] }).onDev (·.setChan 5 [⟨[7, 8], 900, false, false⟩]), 1, 0, 64, 5, _, by decide,
    by decide, by decide, by decide, by decide, by decide, by decide, by decide, rfl, by decide, by decide, by decide,
    by decide⟩,
   ⟨(st [(F.CORE_STAT_STATE 1, 2), (H.rstHeld, 0), (H.chSrc 5, 1), (H.chDst 5, 1), (H.chEn 5, 1), (H.chDepth 5, 4),
    (H.waitLo 1, 32)]).onDev (·.setChan 5 [⟨[7, 8], 900, false, false⟩]), 1, 5, by decide, by decide, by decide, by
    decide⟩,
   ⟨st [(F.CORE_STAT_STATE 1, 2), (H.rstHeld, 0), (T.waitOut 1, 1001)], 1, by decide, by decide, by decide⟩⟩

theorem witness_ExceptionsFollowR458 :
    (∃ (s : State) (n : Fin 6) (c : Instr) (cause : Nat) (f : Fld), s.fetches n = true ∧ ((c = .illegal n ∧ cause = 1)
    ∨ (c = .brk n 0 0 0 ∧ cause = 6 ∧ (s.dev.get F.DBG_STAT_UNLOCKED = 0 ∨ s.dev.get F.DBG_STAT_BKEN = 0))) ∧ s.dev.get
    (F.CORE_EXC_ACTIVE n) = 0 ∧ f.quiet = true ∧ (∀ g ∈ [F.CORE_EPC_EPC n, F.CORE_EXC_CAUSE n, F.CORE_EXC_INFO n,
    F.CORE_EXC_COUNT n, F.CORE_EXC_ACTIVE n, F.CORE_P_P n], f.key ≠ g.key)) ∧
    (∃ (s : State) (n : Fin 6) (c : Instr) (cause : Nat) (f : Fld), s.fetches n = true ∧ ((c = .illegal n ∧ cause = 1)
    ∨ (c = .brk n 0 0 0 ∧ cause = 6 ∧ (s.dev.get F.DBG_STAT_UNLOCKED = 0 ∨ s.dev.get F.DBG_STAT_BKEN = 0))) ∧ s.dev.get
    (F.CORE_EXC_ACTIVE n) = 0 ∧ f.quiet = true ∧ (∀ g ∈ [F.CORE_EPC_EPC n, F.CORE_EXC_CAUSE n, F.CORE_EXC_INFO n,
    F.CORE_EXC_COUNT n, F.CORE_EXC_ACTIVE n, F.CORE_P_P n], f.key ≠ g.key)) ∧
    (∃ (s : State) (n : Fin 6) (c : Instr) (cause : Nat), s.fetches n = true ∧ ((c = .illegal n ∧ cause = 1) ∨ (c =
    .brk n 0 0 0 ∧ cause = 6 ∧ (s.dev.get F.DBG_STAT_UNLOCKED = 0 ∨ s.dev.get F.DBG_STAT_BKEN = 0))) ∧ s.dev.get
    (F.CORE_EXC_ACTIVE n) = 1) ∧
    (∃ (s : State) (n : Fin 6) (c : Instr) (cause : Nat), s.fetches n = true ∧ ((c = .illegal n ∧ cause = 1) ∨ (c =
    .brk n 0 0 0 ∧ cause = 6 ∧ (s.dev.get F.DBG_STAT_UNLOCKED = 0 ∨ s.dev.get F.DBG_STAT_BKEN = 0))) ∧ s.dev.get
    F.DBG_STAT_UNLOCKED = 1 ∧ s.dev.get F.DBG_STAT_BKEN = 1) :=
  ⟨⟨st [(F.CORE_STAT_STATE 1, 1), (F.CORE_P_P 1, 4096), (F.CORE_EXC_ACTIVE 1, 0)], 1, .illegal 1, 1, F.TB_COUNT_COUNT,
    by decide, by decide, by decide, by decide, by decide⟩,
   ⟨st [(F.CORE_STAT_STATE 1, 1), (F.CORE_P_P 1, 4096), (F.CORE_EXC_ACTIVE 1, 0), (F.DBG_STAT_UNLOCKED, 0)], 1, .brk 1
    0 0 0, 6, F.TB_COUNT_COUNT, by decide, by decide, by decide, by decide, by decide⟩,
   ⟨st [(F.CORE_STAT_STATE 1, 1), (F.CORE_P_P 1, 4096), (F.CORE_EXC_ACTIVE 1, 1)], 1, .illegal 1, 1, by decide, by
    decide, by decide⟩,
   ⟨st [(F.CORE_STAT_STATE 1, 1), (F.CORE_P_P 1, 4096), (F.DBG_STAT_UNLOCKED, 1), (F.DBG_STAT_BKEN, 1)], 1, .illegal
    1, 1, by decide, by decide, by decide, by decide⟩⟩

theorem witness_FenceTasAndExceptionEndComplete :
    (∃ (s : State) (n : Fin 6) (aux : BitVec 6), s.fetches n = true ∧ 1 ≤ aux.toNat ∧ aux.toNat ≤ 15) ∧
    (∃ (s : State) (n : Fin 6) (mode : BitVec 2) (field : BitVec 22) (ea : Nat) (i : _), s.fetches n = true ∧ mode ≠ 3
    ∧ ea = s.dev.ea n mode field ∧ inSram ea = true ∧ s.isBad (.core n) ea = false ∧ s.alone n ea = true ∧ i < 35) ∧
    (∃ (s : State) (n : Fin 6) (mode : BitVec 2) (field : BitVec 22) (ea : Nat) (k : _), s.fetches n = true ∧ mode ≠ 3
    ∧ ea = s.dev.ea n mode field ∧ inSram ea = true ∧ s.isBad (.core n) ea = false ∧ s.alone n ea = true ∧ k ≠ ea) ∧
    (∃ (s : State) (n : Fin 6) (mode : BitVec 2) (field : BitVec 22) (ea : Nat) (m : Fin 6) (mode2 : BitVec 2) (field2
    : BitVec 22), s.fetches n = true ∧ mode ≠ 3 ∧ ea = s.dev.ea n mode field ∧ inSram ea = true ∧ s.dev.notes = [] ∧
    s.isBad (.core n) ea = false ∧ m ≠ n ∧ s.fetches m = true ∧ mode2 ≠ 3 ∧ s.dev.ea m mode2 field2 = ea) ∧
    (∃ (s : State) (n : Fin 6) (mode : BitVec 2) (field : BitVec 22) (ea : Nat), s.fetches n = true ∧ mode ≠ 3 ∧ ea =
    s.dev.ea n mode field ∧ inSram ea = false) :=
  ⟨⟨st [(F.CORE_STAT_STATE 1, 1), (F.CORE_P_P 1, 4096)], 1, 15, by decide, by decide, by decide⟩,
   ⟨st [(F.CORE_STAT_STATE 1, 1), (F.CORE_P_P 1, 4096)], 1, 0, 262144, _, 34, by decide, by decide, rfl, by decide, by
    decide, by decide, by decide⟩,
   ⟨st [(F.CORE_STAT_STATE 1, 1), (F.CORE_P_P 1, 4096)], 1, 0, 262144, _, 0, by decide, by decide, rfl, by decide, by
    decide, by decide, by decide⟩,
   ⟨st [(F.CORE_STAT_STATE 1, 1), (F.CORE_P_P 1, 4096), (F.CORE_STAT_STATE 2, 1), (F.CORE_P_P 2, 4096)], 1, 0, 262144,
    _, 2, 0, 262144, by decide, by decide, rfl, by decide, by decide, by decide, by decide, by decide, by decide, by
    decide⟩,
   ⟨st [(F.CORE_STAT_STATE 1, 1), (F.CORE_P_P 1, 4096)], 1, 0, 65600, _, by decide, by decide, rfl, by decide⟩⟩

theorem witness_ChannelConfigurationAndRoutesComplete :
    (∃ (a : Agent) (v : Word) (s : State) (c : Nat), c = s.dev.selChan a ∧ a.isC0orHost = true ∧ mayBeSrc (bits v.toNat
    0 4) = true ∧ mayBeDst (bits v.toNat 4 4) = true ∧ 1 ≤ bits v.toNat 8 6 ∧ bits v.toNat 8 6 ≤ 32 ∧ s.dev.get (H.chEn
    c) = 0) ∧
    (∃ (a : Agent), a.isC0orHost = false) ∧
    (∃ (a : Agent) (s : State) (r : Nat), r = s.dev.selSrc a ∧ (a.isCore || a.isHost) = true) :=
  ⟨⟨(.core 0), 0x208, st [], _, rfl, by decide, by decide, by decide, by decide, by decide, by decide⟩,
   ⟨.tap, by decide⟩,
   ⟨(.core 0), st [], _, rfl, by decide⟩⟩

theorem witness_EventRouterComplete :
    (∃ (a : Agent) (s : State) (i : Fin 16), (a.isCore || a.isHost) = true ∧ s.dev.get H.rstHeld < 2 ∧ s.dev.pend (240
    + i.val) = false) ∧
    (∃ (a : Agent) (s : State) (i : Fin 16), (a.isCore || a.isHost) = true ∧ s.dev.get H.rstHeld < 2 ∧ s.dev.pend (240
    + i.val) = true) ∧
    (∃ (s : State) (r : Fin 256) (c : Nat), c = s.dev.get (H.rteCh r.val) ∧ s.dev.get (H.evHeld r.val) = 1 ∧
    s.dev.heldBefore r.val = false ∧ s.dev.get (H.rteChen r.val) = 1 ∧ 0 < s.dev.hwCredit c) :=
  ⟨⟨(.core 0), st [], 2, by decide, by decide, by decide⟩,
   ⟨(.core 0), st [(F.EVT_PEND_PEND 7, 262144)], 2, by decide, by decide, by decide⟩,
   ⟨st [(H.evHeld 7, 1), (H.rteChen 7, 1), (H.rteCh 7, 5), (H.chSrc 5, 8), (H.chEn 5, 1), (H.chDepth 5, 4)], 7, _,
    rfl, by decide, by decide, by decide, by decide⟩⟩

theorem witness_AdmissionCommandsComplete :
    (∃ (a : Agent) (s : State), s.dev.isRom a = true ∧ s.dev.get F.FAB_ADMPTR_PTR < 1023) ∧
    (∃ (a : Agent) (v : Word) (s : State), s.dev.isRom a = true ∧ v.toNat.testBit 35 = true ∧ s.dev.get F.FAB_ADMF_BUSY
    = 0 ∧ s.dev.get F.SVY_SHED_LEVEL = 255) ∧
    (∃ (a : Agent) (v : Word) (s : State) (c : Instr), s.dev.isRom a = false ∧ (c = .admLoad a v ∨ c = .admRun a v)) ∧
    (∃ (s : State) (c : Fin 64), s.dev.lateDue c.val = true) ∧
    (∃ (s : State) (c : Fin 64), s.dev.lateDue c.val = false) :=
  ⟨⟨(.core 0), st [(F.CORE_STAT_STATE 0, 1), (F.CORE_P_P 0, 65536)], by decide, by decide⟩,
   ⟨(.core 0), 0x800000000, st [(F.FAB_ADMF_BUSY, 0), (F.SVY_SHED_LEVEL, 255), (F.CORE_STAT_STATE 0, 1), (F.CORE_P_P
    0, 65536)], by decide, by decide, by decide, by decide⟩,
   ⟨.spi, 0, st [], .admLoad .spi 0, by decide, by decide⟩,
   ⟨(st [(H.chTakedl 5, 1)]).onDev (·.setChan 5 [⟨[7], 900, false, false⟩]), 5, by decide⟩,
   ⟨st [], 5, by decide⟩⟩

theorem witness_UtilisationIsTheExactSum :
    ∃ (tbl : List Handler) (hs : List Handler) (floor : Nat) (level : Nat) (core : Nat), hs = (tbl.filter (fun h =>
    h.core == core)).filter (fun h => !h.isShed level) ∧ hs ≠ [] ∧ 0 < floor ∧ (∀ h ∈ hs, 1 ≤ h.t) :=
  ⟨[⟨0, 1, 0, 10, 0, 100, 200⟩], _, 1, 0, 0, rfl, by decide, by decide, by decide⟩

theorem witness_TimeBaseWritesComplete :
    (∃ (s : State) (a : Agent), s.pending.any meridianDecision = false ∧ a.isC0orHost = true ∧ s.dev.get
    F.TB_STAT_EPPEND = 0 ∧ s.dev.get F.TB_STAT_EPDONE = 0) ∧
    (∃ (s : State) (a : Agent), s.pending.any meridianDecision = false ∧ a.isC0orHost = true ∧ (s.dev.get
    F.TB_STAT_EPPEND = 1 ∨ s.dev.get F.TB_STAT_EPDONE = 1)) ∧
    (∃ (s : State) (a : Agent) (v : Word) (c : Instr), s.pending.any meridianDecision = false ∧ a.isC0orHost = false ∧
    (c = .tbEpsetWrite a v ∨ c = .tbRldWrite a v)) ∧
    (∃ (s : State) (a : Agent) (v : Word), s.pending.any meridianDecision = false ∧ a.isC0orHost = true ∧ v.toNat <
    63999) ∧
    (∃ (s : State) (a : Agent) (v : Word), s.pending.any meridianDecision = false ∧ a.isC0orHost = true ∧ 63999 ≤
    v.toNat) ∧
    (∃ (s : State), s.pending.any meridianDecision = true) :=
  ⟨⟨st [(F.TB_STAT_EPPEND, 0), (F.TB_STAT_EPDONE, 0)], (.core 0), by decide, by decide, by decide, by decide⟩,
   ⟨st [(F.TB_STAT_EPPEND, 1)], (.core 0), by decide, by decide, by decide⟩,
   ⟨st [], .tap, 0, .tbRldWrite .tap 0, by decide, by decide, by decide⟩,
   ⟨st [], (.core 0), 63998, by decide, by decide, by decide⟩,
   ⟨st [], (.core 0), 63999, by decide, by decide, by decide⟩,
   ⟨{ st [] with pending := [.cmpFire 1] }, by decide⟩⟩

theorem witness_LapsWrap :
    (∃ (s : State), s.dev.lapDue = true) ∧
    (∃ (s : State), s.dev.get F.TB_RLD_RLD ≤ s.dev.get F.TB_COUNT_COUNT ∧ s.dev.get F.TB_STAT_EPPEND = 0 ∧ (s.dev.get
    F.TB_EPOCH_EPOCH + 1) % 2 ^ 36 % (60 * s.dev.get F.MTR_IVAL_IVAL) ≠ 0) ∧
    (∃ (s : State), s.dev.get F.TB_COUNT_COUNT < s.dev.get F.TB_RLD_RLD ∧ s.dev.get H.lapEnd = 0) :=
  ⟨⟨st [(H.lapEnd, 1)], by decide⟩,
   ⟨st [(F.TB_STAT_EPPEND, 0), (F.TB_COUNT_COUNT, 63999999)], by decide, by decide, by decide⟩,
   ⟨st [(H.lapEnd, 0), (F.TB_COUNT_COUNT, 63999998)], by decide, by decide⟩⟩

theorem witness_CompareChannelsComplete :
    (∃ (s : State) (i : Fin 64), s.pending.any meridianDecision = false ∧ s.dev.get (F.CMP_CTRL_MODE i.val) = 0) ∧
    (∃ (s : State) (i : Fin 64), s.pending.any meridianDecision = false ∧ s.dev.get (F.CMP_CTRL_MODE i.val) ≠ 0) ∧
    (∃ (s : State) (v : Word) (late : Nat → State), s.pending.any meridianDecision = true ∧ late = (fun addr => { s
    with dev := { s.dev with commits := s.dev.commits ++ [⟨s.dev.now, .tap, addr, v.toNat⟩] } })) ∧
    (∃ (s : State) (i : Fin 64) (o : Nat), s.dev.get (F.CMP_STAT_ARMED i.val) = 1 ∧ s.dev.tb = s.dev.get
    (F.CMP_VAL_VALUE i.val) ∧ s.dev.get (H.cmpArm i.val) ≠ s.dev.now + 1 ∧ o = s.dev.get (F.CMP_CTRL_OUTSEL i.val)) ∧
    (∃ (s : State) (o : Fin 8), s.dev.get (T.cmpoPulse o.val) ≠ 0 ∧ s.dev.get (H.cmpoTick o.val) ≠ s.dev.now + 1) :=
  ⟨⟨st [(F.CMP_CTRL_MODE 2, 0)], 2, by decide, by decide⟩,
   ⟨st [(F.CMP_CTRL_MODE 2, 1)], 2, by decide, by decide⟩,
   ⟨{ st [] with pending := [.cmpFire 1] }, 0, _, by decide, rfl⟩,
   ⟨st [(F.CMP_STAT_ARMED 2, 1)], 2, _, by decide, by decide, by decide, rfl⟩,
   ⟨st [(T.cmpoPulse 2, 1001)], 2, by decide, by decide⟩⟩

theorem witness_CaptureInputsComplete_1 :
    (∃ (s : State) (i : Fin 12), s.dev.get (F.CAP_STAT_VALID i.val) = 0 ∧ s.dev.get (H.capDue i.val) = 0 ∧
    s.dev.capEarliest i.val = s.dev.now) ∧
    (∃ (s : State) (i : Fin 12) (level : Bool), s.dev.get (F.CAP_STAT_VALID i.val) = 1 ∧ level ≠ s.dev.bit
    (F.CAP_STAT_LEVEL i.val) ∧ s.dev.get (H.capDue i.val) = 0 ∧ s.dev.capEarliest i.val ≠ s.dev.now) ∧
    (∃ (s : State) (i : Fin 12) (level : Bool), s.dev.get (F.CAP_STAT_VALID i.val) = 1 ∧ level ≠ s.dev.bit
    (F.CAP_STAT_LEVEL i.val) ∧ s.dev.get (H.capDue i.val) = 0 ∧ s.dev.capEarliest i.val = s.dev.now ∧ s.dev.getBit
    (F.CAP_CTRL_EDGE i.val) (if level then 0 else 1) = true ∧ s.dev.get (F.CAP_CTRL_PRESC i.val) ≤ s.dev.get
    (H.capPresc i.val)) ∧
    (∃ (s : State) (i : Fin 12) (level : Bool), s.dev.get (F.CAP_STAT_VALID i.val) = 1 ∧ level = s.dev.bit
    (F.CAP_STAT_LEVEL i.val) ∧ s.dev.get (H.capDue i.val) ≠ 0) ∧
    (∃ (s : State) (i : Fin 12), s.dev.get (H.capNewAt i.val) ≠ s.dev.now + 1) ∧
    (∃ (s : State) (i : Fin 12), s.dev.get (H.capNewAt i.val) = s.dev.now + 1) ∧
    (∃ (s : State) (i : Fin 36), i.val < 12 ∧ s.dev.get (H.capRej i.val) = 7) ∧
    (∃ (s : State) (i : Fin 12), s.dev.get (T.capStuck i.val) ≠ 0) :=
  ⟨⟨st [(F.CAP_STAT_VALID 2, 0), (H.capDue 2, 0)], 2, by decide, by decide, by decide⟩,
   ⟨st [(F.CAP_STAT_VALID 2, 1), (H.capDue 2, 0), (H.capSince 2, 1002)], 2, true, by decide, by decide, by decide, by
    decide⟩,
   ⟨st [(F.CAP_STAT_VALID 2, 1), (H.capDue 2, 0), (F.CAP_CTRL_EDGE 2, 1)], 2, true, by decide, by decide, by decide,
    by decide, by decide, by decide⟩,
   ⟨st [(F.CAP_STAT_VALID 2, 1), (H.capDue 2, 1)], 2, _, by decide, rfl, by decide⟩,
   ⟨st [], 2, by decide⟩,
   ⟨st [(H.capNewAt 2, 1001)], 2, by decide⟩,
   ⟨st [(H.capRej 2, 7)], 2, by decide, by decide⟩,
   ⟨st [(T.capStuck 2, 1001)], 2, by decide⟩⟩

theorem witness_CaptureInputsComplete_2 :
    (∃ (s : State) (v : Word), s.pending.any meridianDecision = false ∧ bits v.toNat 8 8 = 0) ∧
    (∃ (s : State) (v : Word), s.pending.any meridianDecision = false ∧ bits v.toNat 8 8 ≠ 0) ∧
    (∃ (s : State), s.pending.any meridianDecision = true) :=
  ⟨⟨st [], 0, by decide, by decide⟩,
   ⟨st [], 0x100, by decide, by decide⟩,
   ⟨{ st [] with pending := [.cmpFire 1] }, by decide⟩⟩

theorem witness_SnapshotsComplete :
    (∃ (s : State) (a : Agent) (v : Word), (a.isCore || a.isHost) = true ∧ bits v.toNat 16 8 ≠ 0 ∧ v.toNat.testBit 0 =
    true ∧ s.dev.get F.SNAP_STAT_FULL = 0) ∧
    (∃ (s : State) (rising : Bool) (d : Dev), s.dev.getBit F.SNAP_CTRL_EDGE (if rising then 0 else 1) = true ∧ d =
    s.dev.snapBase rising ∧ d.bit H.snapLvl ≠ rising ∧ d.snapEarliest ≠ s.dev.now) ∧
    (∃ (s : State) (rising : Bool) (d : Dev), s.dev.getBit F.SNAP_CTRL_EDGE (if rising then 0 else 1) = true ∧ d =
    s.dev.snapBase rising ∧ d.bit H.snapLvl ≠ rising ∧ d.snapEarliest = s.dev.now ∧ s.dev.get F.SNAP_STAT_FULL = 0) ∧
    (∃ (s : State) (rising : Bool) (d : Dev), s.dev.getBit F.SNAP_CTRL_EDGE (if rising then 0 else 1) = true ∧ d =
    s.dev.snapBase rising ∧ d.bit H.snapLvl ≠ rising ∧ d.snapEarliest = s.dev.now ∧ s.dev.get F.SNAP_STAT_FULL = 1 ∧
    s.dev.get H.snapTick ≠ s.dev.now + 1) ∧
    (∃ (s : State) (v : Word), v.toNat.testBit 0 = true ∧ s.dev.get H.snapTick = s.dev.now + 1) ∧
    (∃ (s : State) (v : Word), v.toNat.testBit 0 = true ∧ s.dev.get H.snapTick ≠ s.dev.now + 1 ∧ s.dev.get H.snapLostAt
    ≠ s.dev.now + 1) ∧
    (∃ (s : State) (v : Word), v.toNat.testBit 0 = true ∧ s.dev.get H.snapTick ≠ s.dev.now + 1 ∧ s.dev.get H.snapLostAt
    = s.dev.now + 1 ∧ s.dev.get F.SNAP_STAT_FULL = 1) ∧
    (∃ (s : State), s.dev.get T.snapOut ≠ 0) :=
  ⟨⟨st [(F.SNAP_STAT_FULL, 0)], (.core 0), 0x10001, by decide, by decide, by decide, by decide⟩,
   ⟨st [(F.SNAP_CTRL_EDGE, 1), (H.snapValid, 1), (H.snapSince, 1000)], true, _, by decide, rfl, by decide, by decide⟩,
   ⟨st [(F.SNAP_STAT_FULL, 0), (F.SNAP_CTRL_EDGE, 2)], false, _, by decide, rfl, by decide, by decide, by decide⟩,
   ⟨st [(F.SNAP_STAT_FULL, 1), (F.SNAP_CTRL_EDGE, 2)], false, _, by decide, rfl, by decide, by decide, by decide, by
    decide⟩,
   ⟨st [(H.snapTick, 1001)], 1, by decide, by decide⟩,
   ⟨st [], 1, by decide, by decide, by decide⟩,
   ⟨st [(F.SNAP_STAT_FULL, 1), (H.snapLostAt, 1001)], 1, by decide, by decide, by decide, by decide⟩,
   ⟨st [(T.snapOut, 1001)], by decide⟩⟩

theorem witness_SegmentClosesComplete :
    (∃ (s : State) (p : Fin 24), s.dev.get (F.MTR_STAT_OPEN p.val) = 0 ∧ s.dev.segJust p.val = none) ∧
    (∃ (s : State) (p : Fin 24) (c : Instr) (reason : Nat) (l : Seg), ((c = .mtrClose p ∧ reason = 11) ∨ (c =
    .segmentFull p ∧ reason = 10 ∧ s.dev.get (T.mtrFull p.val) ≠ 0)) ∧ s.dev.get (F.MTR_STAT_OPEN p.val) = 1 ∧
    s.dev.get (H.mtrSegTick p.val) ≠ s.dev.now + 1 ∧ 8 ≤ (s.dev.segs p.val).length ∧ (s.dev.segs p.val).getLast? = some
    l ∧ l.posted = false) ∧
    (∃ (s : State) (p : Fin 24) (c : Instr) (reason : Nat), ((c = .mtrClose p ∧ reason = 11) ∨ (c = .segmentFull p ∧
    reason = 10 ∧ s.dev.get (T.mtrFull p.val) ≠ 0)) ∧ s.dev.get (F.MTR_STAT_OPEN p.val) = 1 ∧ s.dev.get (H.mtrSegTick
    p.val) ≠ s.dev.now + 1 ∧ (s.dev.segs p.val).length < 8) ∧
    (∃ (s : State) (p : Fin 24) (c : Instr) (reason : Nat), ((c = .mtrClose p ∧ reason = 11) ∨ (c = .segmentFull p ∧
    reason = 10 ∧ s.dev.get (T.mtrFull p.val) ≠ 0)) ∧ s.dev.get (F.MTR_STAT_OPEN p.val) = 1 ∧ s.dev.get (H.mtrSegTick
    p.val) ≠ s.dev.now + 1 ∧ (s.dev.segs p.val).length < 8) :=
  ⟨⟨st [(F.MTR_STAT_OPEN 3, 0)], 3, by decide, by decide⟩,
   ⟨(st [(F.MTR_STAT_OPEN 3, 1)]).onDev (·.setSegs 3 (List.replicate 8 ⟨4, 11, 0, 0, 100, 0, 900, 600, 5, 0, 0, false,
    false, 0, 0⟩)), 3, .mtrClose 3, 11, ⟨4, 11, 0, 0, 100, 0, 900, 600, 5, 0, 0, false, false, 0, 0⟩, Or.inl (by
    decide), by decide, by decide, by decide, by decide, by decide⟩,
   ⟨st [(F.MTR_STAT_OPEN 3, 1)], 3, .mtrClose 3, 11, by decide, by decide, by decide, by decide⟩,
   ⟨st [(F.MTR_STAT_OPEN 3, 1), (T.mtrFull 3, 1001)], 3, .segmentFull 3, 10, by decide, by decide, by decide, by
    decide⟩⟩

theorem witness_SamplesConserveEnergy :
    (∃ (s : State) (p : Fin 24), s.dev.get (H.mtrRun p.val) = 0) ∧
    (∃ (s : State) (p : Fin 24) (vraw : Int) (iraw : Int) (v : Nat) (i0 : Int) (i : Int), v = (((max (-8388608) (min
    8388607 vraw) - sgn 24 (s.dev.get (F.MTR_CALVO_VO p.val))) * (s.dev.get (F.MTR_CALVG_VG p.val) : Int)).fdiv
    1048576).toNat ∧ i0 = ((max (-8388608) (min 8388607 iraw) - sgn 24 (s.dev.get (F.MTR_CALIO_IO p.val))) * (s.dev.get
    (F.MTR_CALIG_IG p.val) : Int)).tdiv 1048576 ∧ i = (if i0.natAbs < (if s.dev.get (H.mtrCreepAt p.val) = s.dev.now +
    1 then s.dev.get (H.mtrCreepOld p.val) else s.dev.get (F.MTR_CTRL_CREEP p.val)) * 10000 then 0 else i0) ∧ s.dev.get
    (H.mtrRun p.val) = 1 ∧ s.dev.get (F.MTR_STAT_OPEN p.val) = 1 ∧ s.dev.get (H.mtrImp p.val) * 16000000000000 +
    s.dev.get (H.mtrImpR p.val) + v * i.natAbs < 2 ^ 72 ∧ s.dev.get (H.mtrExp p.val) * 16000000000000 + s.dev.get
    (H.mtrExpR p.val) + v * i.natAbs < 2 ^ 72) :=
  ⟨⟨st [(H.mtrRun 3, 0)], 3, by decide⟩,
   ⟨st [(H.mtrRun 3, 1), (F.MTR_STAT_OPEN 3, 1)], 3, 0, 0, _, _, _, rfl, rfl, rfl, by decide, by decide, by decide, by
    decide⟩⟩

theorem witness_MeterCommandsComplete :
    (∃ (s : State) (p : Fin 24) (c : Nat) (g : Seg), c = s.dev.get F.MTR_CFG_SEGCH ∧ (s.dev.segs p.val).find? (fun g =>
    !g.posted) = some g ∧ postedCount (s.dev.segs p.val) < 4 ∧ g.tick + 400 ≤ s.dev.now ∧ s.dev.get (H.chDst c) = 9 ∧ 0
    < s.dev.hwCredit c) ∧
    (∃ (s : State) (p : Fin 24) (c : Nat) (g : Seg), c = s.dev.get F.MTR_CFG_SEGCH ∧ (s.dev.segs p.val).find? (fun g =>
    !g.posted) = some g ∧ postedCount (s.dev.segs p.val) < 4 ∧ g.tick + 400 ≤ s.dev.now ∧ s.dev.get (H.chDst c) ≠ 9) ∧
    (∃ (s : State) (p : Fin 24), s.dev.get (T.mtrSettle p.val) ≠ 0) ∧
    (∃ (s : State), s.dev.get H.rwlLock = 1) ∧
    (∃ (s : State) (p : Fin 24), s.dev.get H.rwlLock = 0 ∧ s.dev.get (F.MTR_STAT_OPEN p.val) = 0) :=
  ⟨⟨(st [(H.chSrc 63, 8), (H.chDst 63, 9), (H.chEn 63, 1), (H.chDepth 63, 4), (F.MTR_CFG_SEGCH, 63)]).onDev (·.setSegs
    3 [⟨4, 11, 0, 0, 100, 0, 900, 600, 5, 0, 0, false, false, 0, 0⟩]), 3, 63, ⟨4, 11, 0, 0, 100, 0, 900, 600, 5, 0, 0,
    false, false, 0, 0⟩, by decide, by decide, by decide, by decide, by decide, by decide⟩,
   ⟨(st [(F.MTR_CFG_SEGCH, 62), (H.chDst 62, 0)]).onDev (·.setSegs 3 [⟨4, 11, 0, 0, 100, 0, 900, 600, 5, 0, 0, false,
    false, 0, 0⟩]), 3, 62, ⟨4, 11, 0, 0, 100, 0, 900, 600, 5, 0, 0, false, false, 0, 0⟩, by decide, by decide, by
    decide, by decide, by decide⟩,
   ⟨st [(T.mtrSettle 3, 1001)], 3, by decide⟩,
   ⟨st [(H.rwlLock, 1)], by decide⟩,
   ⟨st [(H.rwlLock, 0), (F.MTR_STAT_OPEN 3, 0)], 3, by decide, by decide⟩⟩

theorem witness_LedgerRecordsComplete :
    (∃ (s : State) (c : Nat) (m : Msg) (rest : List Msg) (p : Nat) (g : Seg), c = s.dev.get F.MTR_CFG_SEGCH ∧ s.dev.get
    H.lgrIdle = 0 ∧ s.dev.get (H.chDst c) = 9 ∧ s.dev.chan c = m :: rest ∧ s.dev.stagedCount + 5 ≤ 512 ∧ s.dev.get
    F.LGR_STAT_OPEN = 1 ∧ s.dev.get H.progOn ≠ 0 ∧ s.dev.get F.LGR_STAT_NREC + 1 < 16 ∧ (p, g) = s.dev.segOfMsg
    (m.words.map (·.toNat)) ∧ (tget [] s.dev.seen p).contains g.serial = false) ∧
    (∃ (s : State), s.dev.get T.blkAge ≠ 0 ∧ s.dev.get F.LGR_STAT_OPEN = 1) ∧
    (∃ (s : State) (a : List Nat) (rest : List (List Nat)), s.dev.sigq = a :: rest) ∧
    (∃ (s : State) (p : Fin 24), s.dev.get (T.identity p.val) ≠ 0 ∧ s.dev.get (F.MTR_STAT_OPEN p.val) = 0 ∧
    s.dev.segJust p.val = none) ∧
    (∃ (s : State) (a : Agent) (v : Word), a.isC0orHost = true ∧ s.dev.get F.LGR_TAILSEQ_BSEQ < bits v.toNat 0 32 ∧
    bits v.toNat 0 32 ≤ s.dev.get F.LGR_BSEQ_BSEQ) ∧
    (∃ (s : State) (a : Agent) (v : Word), (¬(a.isC0orHost = true ∧ s.dev.get F.LGR_TAILSEQ_BSEQ < bits v.toNat 0 32 ∧
    bits v.toNat 0 32 ≤ s.dev.get F.LGR_BSEQ_BSEQ))) :=
  ⟨⟨(st [(H.lgrIdle, 0), (F.LGR_STAT_OPEN, 1), (H.progOn, 1), (F.MTR_CFG_SEGCH, 63), (H.chDst 63, 9)]).onDev
    (·.setChan 63 [⟨[BitVec.ofNat 36 (3 * 2 ^ 24 + 4 * 4096 + 11 * 256), 0, 100, 0, 900, 5, 0, 0], 900, false,
    false⟩]), _, ⟨[BitVec.ofNat 36 (3 * 2 ^ 24 + 4 * 4096 + 11 * 256), 0, 100, 0, 900, 5, 0, 0], 900, false, false⟩,
    [], _, _, rfl, by decide, by decide, by decide, by decide, by decide, by decide, by decide, rfl, by decide⟩,
   ⟨st [(T.blkAge, 1001), (F.LGR_STAT_OPEN, 1)], by decide, by decide⟩,
   ⟨(st []).onDev (fun d => { d with sigq := [[1]] }), [1], [], by decide⟩,
   ⟨st [(T.identity 3, 1001), (F.MTR_STAT_OPEN 3, 0)], 3, by decide, by decide, by decide⟩,
   ⟨st [(F.LGR_BSEQ_BSEQ, 9)], (.core 0), 9, by decide⟩,
   ⟨st [(F.LGR_BSEQ_BSEQ, 9)], (.core 0), 10, by decide⟩⟩

theorem witness_SlotsCommit :
    ∃ (body : List Nat) (w : _), body.length = 60 ∧ body.headD 255 ≠ 255 ∧ w < 2 ^ 32 ∧ w ≠ crc32 body :=
  ⟨0x80 :: List.replicate 59 0, 0, by decide, by decide, by decide, by decide +kernel⟩

theorem witness_StoreCommandsComplete_1 :
    (∃ (s : State) (part : Nat), part = s.dev.get H.progOn ∧ part ≠ 0 ∧ s.dev.staged = [] ∧ s.dev.logs = []) ∧
    (∃ (s : State), s.dev.get T.commit ≠ 0 ∧ s.dev.get H.progOn ≠ 0) ∧
    (∃ (s : State) (n : Nat), s.dev.get T.commit ≠ 0 ∧ s.dev.get H.progOn = 0 ∧ s.dev.get F.STO_STAT_READY = 1 ∧
    s.dev.get H.lgrIdle = 0 ∧ s.dev.get F.LGR_STAT_FULL = 0 ∧ readySlots s.dev.staged ≠ [] ∧ (readySlots
    s.dev.staged).length < 2 ^ 16 ∧ n = min s.dev.slotsPerPage (readySlots s.dev.staged).length) ∧
    (∃ (s : State) (a : Agent) (v : Word), a.isC0orHost = true ∧ bits v.toNat 0 8 = 0xC3 ∧ s.dev.get F.STO_STAT_BLANK =
    1 ∧ s.dev.get T.fmt = 0) ∧
    (∃ (s : State), s.dev.get T.fmt ≠ 0) ∧
    (∃ (s : State) (a : Agent) (v : Word), (a.isCore || a.isHost) = true ∧ s.dev.get F.STO_STAT_RDBUSY = 0 ∧ bits
    v.toNat 0 32 < s.dev.partPages (bits v.toNat 32 4)) ∧
    (∃ (s : State) (a : Agent) (v : Word), (a.isCore || a.isHost) = true ∧ s.dev.get F.STO_STAT_RDBUSY = 0 ∧
    s.dev.partPages (bits v.toNat 32 4) ≤ bits v.toNat 0 32) ∧
    (∃ (s : State), s.dev.get F.STO_STAT_RDBUSY = 1) :=
  ⟨⟨st [(H.progOn, 5)], 5, by decide, by decide, by decide, by decide⟩,
   ⟨st [(T.commit, 1001), (H.progOn, 1)], by decide, by decide⟩,
   ⟨(st [(T.commit, 1001), (H.progOn, 0), (F.STO_STAT_READY, 1), (H.lgrIdle, 0), (F.LGR_STAT_FULL, 0),
    (F.STO_GEOM_PAGE, 4096), (F.STO_STAT_CAP, 8)]).onDev (fun d => { d with staged := [⟨7, [1]⟩] }), 1, by decide, by
    decide, by decide, by decide, by decide, by decide, by decide, by decide⟩,
   ⟨st [(F.STO_STAT_BLANK, 1), (T.fmt, 0)], (.core 0), 0xC3, by decide, by decide, by decide, by decide⟩,
   ⟨st [(T.fmt, 1001)], by decide⟩,
   ⟨st [(F.STO_STAT_RDBUSY, 0), (F.STO_GEOM_PAGE, 4096), (F.STO_STAT_CAP, 8)], (.core 0), 0x500000000, by decide, by
    decide, by decide⟩,
   ⟨st [(F.STO_STAT_RDBUSY, 0)], (.core 0), 0, by decide, by decide, by decide⟩,
   ⟨st [(F.STO_STAT_RDBUSY, 1)], by decide⟩⟩

theorem witness_StoreCommandsComplete_2 :
    (∃ (s : State) (a : Agent) (v : Word), (a.isCore || a.isHost) = true ∧ 0x80 ≤ bits v.toNat 0 8 ∧ bits v.toNat 0 8 ≤
    0xFE ∧ s.dev.get H.progOn ≠ 0 ∧ s.dev.logs.length < 256) ∧
    (∃ (s : State) (a : Agent) (v : Word), (a.isCore || a.isHost) = true ∧ 0x80 ≤ bits v.toNat 0 8 ∧ bits v.toNat 0 8 ≤
    0xFE ∧ s.dev.get H.progOn ≠ 0 ∧ s.dev.logs.length < 256) ∧
    (∃ (s : State) (a : Agent) (v : Word), (a.isCore || a.isHost) = true ∧ 0x80 ≤ bits v.toNat 0 8 ∧ bits v.toNat 0 8 ≤
    0xFE ∧ s.dev.get H.progOn ≠ 0 ∧ 256 ≤ s.dev.logs.length) ∧
    (∃ (s : State), s.dev.get F.STO_STAT_SCANNED = 0) ∧
    (∃ (s : State), s.dev.get T.relErase ≠ 0) :=
  ⟨⟨st [(H.progOn, 1)], (.core 0), 0x80, by decide, by decide, by decide, by decide, by decide⟩,
   ⟨st [(H.progOn, 1)], (.core 0), 0xFE, by decide, by decide, by decide, by decide, by decide⟩,
   ⟨(st [(H.progOn, 1)]).onDev (fun d => { d with logs := List.replicate 256 ⟨0, 0, 0, 0, []⟩ }), (.core 0), 0x80, by
    decide, by decide, by decide, by decide, by decide +kernel⟩,
   ⟨st [(F.STO_STAT_SCANNED, 0)], by decide⟩,
   ⟨st [(T.relErase, 1001)], by decide⟩⟩

theorem witness_HostAccessesComplete_1 :
    (∃ (s : State) (addr : BitVec 24) (ws : List Word), s.dev.hostDown = false ∧ 0x40000 ≤ addr.toNat ∧ addr.toNat +
    ws.length ≤ 0x100000 ∧ s.dev.notes = [] ∧ s.dev.get H.spiReq = 0) ∧
    (∃ (s : State) (addr : BitVec 24), s.dev.hostDown = false ∧ 2 ^ 22 ≤ addr.toNat) ∧
    (∃ (s : State) (addr : BitVec 24) (w : Nat), s.dev.hostDown = false ∧ 0x40000 ≤ addr.toNat ∧ addr.toNat < 0x100000
    ∧ s.bad.contains addr.toNat = false ∧ s.dev.notes = [] ∧ w = (s.memRead addr.toNat).toNat) ∧
    (∃ (s : State) (code : BitVec 8), s.dev.hostDown = false ∧ code ∉ [0x02, 0x0B, 0x05, 0x9F]) ∧
    (∃ (s : State) (a : Nat), s.dev.hostDown = false ∧ a = s.dev.windowAddr (s.dev.get (F.TW_STAT_PTR 0)) ∧ 0x40000 ≤ a
    ∧ a < 0x100000 ∧ s.bad = [] ∧ s.dev.notes = [] ∧ s.accessAhead .tw0 a = false) ∧
    (∃ (s : State), s.dev.hostDown = false ∧ s.dev.get H.twReq = 0) ∧
    (∃ (s : State), s.dev.hostDown = true) ∧
    (∃ (s : State) (a : Agent) (addr : BitVec 22), s.dev.hostDown = false ∧ addr = 0x200060 ∧ s.dev.notes = [] ∧
    s.writeAhead a 0x200060 (fun _ => true) = false) :=
  ⟨⟨st [(H.spiReq, 0)], 262144, [], by decide, by decide, by decide, by decide, by decide⟩,
   ⟨st [], 0x400000, by decide, by decide⟩,
   ⟨st [], 262144, _, by decide, by decide, by decide, by decide, by decide, rfl⟩,
   ⟨st [], 0, by decide, by decide⟩,
   ⟨st [(F.HOST_WBASE_BASE, 262144)], _, by decide, rfl, by decide, by decide, by decide, by decide, by decide⟩,
   ⟨st [(H.twReq, 0)], by decide, by decide⟩,
   ⟨st [(H.rstHeld, 2)], by decide⟩,
   ⟨st [], (.core 0), 0x200060, by decide, by decide, by decide, by decide⟩⟩

theorem witness_HostAccessesComplete_2 :
    (∃ (s : State) (a : Agent) (addr : BitVec 22) (i : Fin 16), s.dev.hostDown = false ∧ addr.toNat = 0x200030 + i.val
    ∧ s.dev.notes = [] ∧ s.writeAhead a addr.toNat (fun _ => true) = false) ∧
    (∃ (s : State) (a : Agent) (addr : BitVec 22) (v : Word) (i : Fin 16) (b : Agent) (w : Word) (t : State) (u :
    State), s.dev.hostDown = false ∧ addr.toNat = 0x200030 + i.val ∧ s.dev.notes = [] ∧ a.rank < b.rank ∧ exec
    (.registerWrite a addr v) { s with pending := [.registerWrite b addr w] } = .next t ∧ exec (.registerWrite b addr
    w) { t with pending := [] } = .next u) ∧
    (∃ (s : State) (a : Agent) (addr : BitVec 22) (v : Word) (i : Fin 16) (b : Agent) (w : Word) (t : State) (u :
    State), s.dev.hostDown = false ∧ addr.toNat = 0x200030 + i.val ∧ s.dev.notes = [] ∧ a.rank < b.rank ∧ exec
    (.registerWrite b addr w) { s with pending := [.registerWrite a addr v] } = .next t ∧ exec (.registerWrite a addr
    v) { t with pending := [] } = .next u) ∧
    (∃ (s : State) (a : Agent) (addr : BitVec 22), s.dev.hostDown = false ∧ isReg (unalias a addr.toNat) = false ∧
    lateWrite addr.toNat = false) ∧
    (∃ (s : State) (addr : BitVec 22), s.dev.hostDown = false ∧ lateWrite addr.toNat = true) :=
  ⟨⟨st [], (.core 0), 0x200032, 2, by decide, by decide, by decide, by decide⟩,
   ⟨st [], .spi, 0x200032, 0, 2, (.core 0), 0, _, _, by decide, by decide, by decide, by decide, rfl, rfl⟩,
   ⟨st [], .spi, 0x200032, 0, 2, (.core 0), 0, _, _, by decide, by decide, by decide, by decide, rfl, rfl⟩,
   ⟨st [], (.core 0), 0x3FFFFF, by decide, by decide, by decide⟩,
   ⟨st [], 0x200E00, by decide, by decide⟩⟩

theorem witness_MailboxesComplete_1 :
    (∃ (s : State) (a : Agent), a.isHost = true ∧ s.dev.get H.inClrAt ≠ s.dev.now + 1 ∧ s.dev.get F.HOST_EVT_INFULL = 0
    ∧ s.writeAhead a 0x200C03 (fun _ => true) = false) ∧
    (∃ (s : State) (a : Agent), a.isHost = true ∧ (s.dev.inFound = true ∨ s.writeAhead a 0x200C03 (fun _ => true) =
    true)) ∧
    (∃ (a : Agent), a.isHost = false) ∧
    (∃ (s : State) (a : Agent), a.isCore = true ∧ s.writeAhead a 0x200C06 (fun w => w.testBit 1) = false ∧ s.dev.get
    F.HOST_EVT_OUTFULL = 0 ∧ s.writeAhead a 0x200C05 (fun _ => true) = false) ∧
    (∃ (s : State) (a : Agent), a.isCore = true ∧ s.writeAhead a 0x200C06 (fun w => w.testBit 1) = false ∧ (s.dev.get
    F.HOST_EVT_OUTFULL = 1 ∨ s.writeAhead a 0x200C05 (fun _ => true) = true)) ∧
    (∃ (s : State) (a : Agent), a.isCore = true ∧ s.writeAhead a 0x200C06 (fun w => w.testBit 1) = true ∧ s.dev.get
    F.HOST_EVT_OUTFULL = 1 ∧ s.dev.marked F.HOST_EVT_OUTFULL 0 = false ∧ s.writeAhead a 0x200C05 (fun _ => true) =
    false) ∧
    (∃ (a : Agent), a.isCore = false) ∧
    (∃ (s : State) (a : Agent), a.isHost = true ∧ s.dev.marked F.HOST_EVT_OUTFULL 0 = false) :=
  ⟨⟨st [(F.HOST_EVT_INFULL, 0)], .spi, by decide, by decide, by decide, by decide⟩,
   ⟨st [(F.HOST_EVT_INFULL, 1)], .spi, by decide, by decide⟩,
   ⟨(.core 0), by decide⟩,
   ⟨st [(F.HOST_EVT_OUTFULL, 0)], (.core 0), by decide, by decide, by decide, by decide⟩,
   ⟨st [(F.HOST_EVT_OUTFULL, 1)], (.core 0), by decide, by decide, by decide⟩,
   ⟨{ st [(F.HOST_EVT_OUTFULL, 1)] with pending := [.registerWrite .spi 0x200C06 2] }, (.core 0), by decide, by
    decide, by decide, by decide, by decide⟩,
   ⟨.tap, by decide⟩,
   ⟨st [], .spi, by decide, by decide⟩⟩

theorem witness_MailboxesComplete_2 :
    ∃ (s : State) (a : Agent), a.isHost = true ∧ s.dev.marked F.HOST_EVT_OUTFULL 0 = true :=
  ⟨(st []).onDev (fun d => d.hwSet F.HOST_EVT_OUTFULL), .spi, by decide, by decide⟩

theorem witness_CoresAndWatchdogComplete :
    (∃ (s : State) (a : Agent), a.isC0 = true ∧ s.dev.mode ≠ 4) ∧
    (∃ (s : State) (a : Agent), (a.isC0 = false ∨ s.dev.mode = 4)) ∧
    (∃ (s : State) (n : Fin 6), s.dev.getBit F.RST_WDT_CTRL_MASK n.val = true ∧ (s.dev.coreState n.val = 1 ∨
    s.dev.coreState n.val = 2 ∨ s.dev.coreState n.val = 5)) ∧
    (∃ (a : Agent) (key : BitVec 8), (key ≠ 0xA5 ∨ a.isCore = false)) ∧
    (∃ (s : State) (v : Word), s.dev.get F.RST_WDT_CTRL_LOCK = 0 ∧ bits v.toNat 0 12 ≠ 0) ∧
    (∃ (s : State) (v : Word), (s.dev.get F.RST_WDT_CTRL_LOCK = 1 ∨ bits v.toNat 0 12 = 0)) :=
  ⟨⟨st [], (.core 0), by decide, by decide⟩,
   ⟨st [], .tap, by decide⟩,
   ⟨st [(F.RST_WDT_CTRL_MASK, 2), (F.CORE_STAT_STATE 1, 1)], 1, by decide, by decide⟩,
   ⟨.tap, 0, by decide⟩,
   ⟨st [(F.RST_WDT_CTRL_LOCK, 0)], 1, by decide, by decide⟩,
   ⟨st [], 0, by decide⟩⟩

theorem witness_TwoWireTransfersComplete_1 :
    (∃ (a : Agent), a = .tap) ∧
    (∃ (s : State) (n : Fin 4) (a : Agent) (v : Word), a ≠ .tap ∧ (¬(8 < bits v.toNat 20 4 ∨ 8 < bits v.toNat 16 4 ∨
    twReserved (bits v.toNat 0 7) = true ∨ (s.dev.twOwnEn n.val = true ∧ bits v.toNat 0 7 = s.dev.twOwnAddr n.val))) ∧
    s.dev.get (H.twMcmd n.val) = 1) ∧
    (∃ (s : State) (n : Fin 4) (a : Agent) (v : Word), a ≠ .tap ∧ (¬(8 < bits v.toNat 20 4 ∨ 8 < bits v.toNat 16 4 ∨
    twReserved (bits v.toNat 0 7) = true ∨ (s.dev.twOwnEn n.val = true ∧ bits v.toNat 0 7 = s.dev.twOwnAddr n.val))) ∧
    s.dev.get (H.twMcmd n.val) = 0 ∧ s.dev.get (F.TW_STAT_STUCK n.val) = 1) ∧
    (∃ (s : State) (n : Fin 4) (a : Agent) (v : Word), a ≠ .tap ∧ (¬(8 < bits v.toNat 20 4 ∨ 8 < bits v.toNat 16 4 ∨
    twReserved (bits v.toNat 0 7) = true ∨ (s.dev.twOwnEn n.val = true ∧ bits v.toNat 0 7 = s.dev.twOwnAddr n.val))) ∧
    s.dev.get (H.twMcmd n.val) = 0 ∧ s.dev.get (F.TW_STAT_STUCK n.val) = 0) ∧
    (∃ (s : State) (a : Agent) (v : Word), a.isCore = true ∧ v.toNat.testBit 7 = true ∧ s.dev.callOpen = false) ∧
    (∃ (a : Agent), a.isCore = false) ∧
    (∃ (s : State) (n : Fin 4) (q : _), s.dev.hostDown = false ∧ s.dev.get (F.TW_STAT_FREE n.val) = 1 ∧ s.dev.get
    (F.TW_STAT_ROLE n.val) = 0 ∧ s.dev.get (F.TW_STAT_RECOV n.val) = 0 ∧ s.dev.get (F.TW_STAT_STUCK n.val) = 0 ∧
    s.dev.scanNext n.val = some q) ∧
    (∃ (s : State) (n : Fin 4), s.dev.hostDown = false ∧ s.dev.get (F.TW_STAT_FREE n.val) = 1 ∧ s.dev.get
    (F.TW_STAT_ROLE n.val) = 0 ∧ s.dev.get (F.TW_STAT_RECOV n.val) = 0 ∧ s.dev.get (F.TW_STAT_STUCK n.val) = 0 ∧
    s.dev.scanNext n.val = none ∧ s.dev.get (H.twMcmd n.val) = 1) :=
  ⟨⟨.tap, by decide⟩,
   ⟨st [(H.twMcmd 1, 1)], 1, .core 0, 0x810020, by decide, by decide, by decide⟩,
   ⟨st [(H.twMcmd 1, 0), (F.TW_STAT_STUCK 1, 1)], 1, .core 0, 0x810020, by decide, by decide, by decide, by decide⟩,
   ⟨st [(H.twMcmd 1, 0), (F.TW_STAT_STUCK 1, 0)], 1, .core 0, 0x810020, by decide, by decide, by decide, by decide⟩,
   ⟨st [], .core 0, 0x80, by decide, by decide, by decide⟩,
   ⟨.tap, by decide⟩,
   ⟨st [(F.TW_STAT_FREE 1, 1), (F.TW_STAT_ROLE 1, 0), (F.TW_STAT_RECOV 1, 0), (F.TW_STAT_STUCK 1, 0), (H.gzScan 1,
    1)], 1, 1, by decide, by decide, by decide, by decide, by decide, by decide⟩,
   ⟨st [(F.TW_STAT_FREE 1, 1), (F.TW_STAT_ROLE 1, 0), (F.TW_STAT_RECOV 1, 0), (F.TW_STAT_STUCK 1, 0), (H.twMcmd 1,
    1)], 1, by decide, by decide, by decide, by decide, by decide, by decide, by decide⟩⟩

theorem witness_TwoWireTransfersComplete_2 :
    (∃ (s : State) (n : Fin 4), s.dev.hostDown = false ∧ s.dev.get (F.TW_STAT_FREE n.val) = 1 ∧ s.dev.get
    (F.TW_STAT_ROLE n.val) = 0 ∧ s.dev.get (F.TW_STAT_RECOV n.val) = 0 ∧ s.dev.get (F.TW_STAT_STUCK n.val) = 0 ∧ n = 0
    ∧ s.dev.get (H.twMcmd 0) = 0 ∧ s.dev.get F.HOST_CALL_STATE = 1) ∧
    (∃ (s : State) (n : Fin 4) (len : Nat) (k : Nat), s.dev.hostDown = false ∧ len = s.dev.get (H.twLen n.val) / 16 ∧ k
    = len + s.dev.get (H.twLen n.val) % 16 ∧ s.dev.get (H.twOp n.val) = 2) ∧
    (∃ (s : State) (n : Fin 4) (len : Nat) (k : Nat), s.dev.hostDown = false ∧ len = s.dev.get (H.twLen n.val) / 16 ∧ k
    = len + s.dev.get (H.twLen n.val) % 16 ∧ s.dev.get (H.twOp n.val) = 3) ∧
    (∃ (s : State) (n : Fin 4), s.dev.hostDown = false ∧ s.dev.get (H.twOp n.val) = 2 ∧ s.dev.get (H.twArb n.val) + 1 ≤
    s.dev.get (H.twArbMax n.val)) ∧
    (∃ (s : State) (n : Fin 4), s.dev.hostDown = false ∧ s.dev.get (H.twOp n.val) = 2 ∧ s.dev.get (H.twArbMax n.val) ≤
    s.dev.get (H.twArb n.val) ∧ s.dev.get (H.twArb n.val) < 31) ∧
    (∃ (s : State) (n : Fin 4), s.dev.hostDown = false ∧ s.dev.get (H.twOp n.val) = 2) ∧
    (∃ (s : State) (n : Fin 4) (count : Fin 9), s.dev.hostDown = false ∧ (n = 0 → s.dev.get H.twReq = 0) ∧ n ≠ 0 ∧
    count ≠ 0 ∧ s.dev.twOwnEn n.val = true) ∧
    (∃ (s : State) (n : Fin 4), s.dev.hostDown = false ∧ (n = 0 → s.dev.get H.twReq = 0) ∧ s.dev.get (F.TW_STAT_ROLE
    n.val) ≠ 1 ∧ s.dev.get (F.TW_STAT_RECOV n.val) = 0) :=
  ⟨⟨st [(F.TW_STAT_FREE 1, 1), (F.TW_STAT_ROLE 1, 0), (F.TW_STAT_RECOV 1, 0), (F.TW_STAT_STUCK 1, 0), (H.twMcmd 0, 0),
    (F.HOST_CALL_STATE, 1), (F.TW_STAT_FREE 0, 1)], 0, by decide, by decide, by decide, by decide, by decide, by
    decide, by decide, by decide⟩,
   ⟨st [(H.twOp 1, 2)], 1, _, _, by decide, rfl, rfl, by decide⟩,
   ⟨st [(H.twOp 1, 3)], 1, _, _, by decide, rfl, rfl, by decide⟩,
   ⟨st [(H.twOp 1, 2), (H.twArbMax 1, 2)], 1, by decide, by decide, by decide⟩,
   ⟨st [(H.twOp 1, 2)], 1, by decide, by decide, by decide, by decide⟩,
   ⟨st [(H.twOp 1, 2)], 1, by decide, by decide⟩,
   ⟨st [(H.twCfg 1, 29717)], 1, 1, by decide, by decide, by decide, by decide, by decide⟩,
   ⟨st [(F.TW_STAT_RECOV 1, 0)], 1, by decide, by decide, by decide, by decide⟩⟩

theorem witness_TwoWireTransfersComplete_3 :
    (∃ (s : State) (n : Fin 4), s.dev.hostDown = false ∧ (n = 0 → s.dev.get H.twReq = 0) ∧ (s.dev.get (F.TW_STAT_ROLE
    n.val) = 1 ∨ s.dev.get (F.TW_STAT_RECOV n.val) = 1)) ∧
    (∃ (s : State), s.dev.hostDown = true) :=
  ⟨⟨st [(F.TW_STAT_ROLE 1, 1)], 1, by decide, by decide, by decide⟩,
   ⟨st [(H.rstHeld, 2)], by decide⟩⟩

theorem witness_TwoWireRecoveryCompletes_1 :
    (∃ (s : State) (n : Fin 4), s.dev.hostDown = false ∧ (n = 0 → s.dev.get H.twReq = 0) ∧ s.dev.get (F.TW_STAT_RECOV
    n.val) = 0 ∧ s.dev.get (F.TW_STAT_STUCK n.val) = 0 ∧ s.dev.get (F.TW_TOUT_SCLTO n.val) ≠ 0 ∧ s.dev.twEngaged n.val
    = true) ∧
    (∃ (s : State) (n : Fin 4), s.dev.hostDown = false ∧ (n = 0 → s.dev.get H.twReq = 0) ∧ s.dev.get (F.TW_STAT_RECOV
    n.val) = 0 ∧ s.dev.get (F.TW_STAT_STUCK n.val) = 0 ∧ s.dev.get (F.TW_TOUT_SDATO n.val) ≠ 0) ∧
    (∃ (s : State) (n : Fin 4), s.dev.hostDown = false ∧ s.dev.get (H.twNine n.val) = 1 ∧ s.dev.get (H.twNineAt n.val)
    + s.dev.pulseTicks n.val 1 ≤ s.dev.now) ∧
    (∃ (s : State) (n : Fin 4), s.dev.hostDown = false ∧ s.dev.get (H.twNine n.val) = 1 ∧ s.dev.get (H.twNineAt n.val)
    + s.dev.pulseTicks n.val 9 ≤ s.dev.now ∧ n ≠ 0) ∧
    (∃ (s : State) (n : Fin 4), s.dev.hostDown = false ∧ s.dev.get (H.twNine n.val) = 1 ∧ s.dev.get (H.twNineAt n.val)
    + s.dev.pulseTicks n.val 9 ≤ s.dev.now ∧ n = 0) ∧
    (∃ (s : State) (n : Fin 4), s.dev.hostDown = false ∧ s.dev.get (H.twBrst n.val) = 1 ∧ s.dev.get (H.twBrstAt n.val)
    + msTicks (s.dev.get (H.twBrstW n.val) + 5) ≤ s.dev.now ∧ s.dev.get (H.twBrstAt n.val) + msTicks (s.dev.get
    (H.twBrstW n.val) + 5) + 6400 ≤ s.dev.now) ∧
    (∃ (s : State) (n : Fin 4), s.dev.hostDown = false ∧ s.dev.get (H.twBrst n.val) = 1 ∧ s.dev.get (H.twBrstAt n.val)
    + msTicks (s.dev.get (H.twBrstW n.val) + 5) ≤ s.dev.now ∧ s.dev.get (H.twPulse n.val) < 3) ∧
    (∃ (s : State) (n : Fin 4), s.dev.hostDown = false ∧ s.dev.get (H.twBrst n.val) = 1 ∧ s.dev.get (H.twBrstAt n.val)
    + msTicks (s.dev.get (H.twBrstW n.val) + 5) ≤ s.dev.now ∧ s.dev.get (H.twPulse n.val) = 3) :=
  ⟨⟨st [(F.TW_STAT_RECOV 1, 0), (F.TW_STAT_STUCK 1, 0), (F.TW_TOUT_SCLTO 1, 1)], 1, by decide, by decide, by decide,
    by decide, by decide, by decide⟩,
   ⟨st [(F.TW_STAT_RECOV 1, 0), (F.TW_STAT_STUCK 1, 0), (F.TW_TOUT_SDATO 1, 1)], 1, by decide, by decide, by decide,
    by decide, by decide⟩,
   ⟨st [(H.twNine 1, 1)], 1, by decide, by decide, by decide⟩,
   ⟨(st [(H.twNine 1, 1)]).onDev (fun d => { d with now := 100000 }), 1, by decide, by decide, by decide, by decide⟩,
   ⟨(st [(H.twNine 1, 1), (H.twNine 0, 1)]).onDev (fun d => { d with now := 100000 }), 0, by decide, by decide, by
    decide, by decide⟩,
   ⟨(st [(H.twBrst 1, 1)]).onDev (fun d => { d with now := 1000000 }), 1, by decide, by decide, by decide, by decide⟩,
   ⟨(st [(H.twBrst 1, 1)]).onDev (fun d => { d with now := 1000000 }), 1, by decide, by decide, by decide, by decide⟩,
   ⟨(st [(H.twBrst 1, 1), (H.twPulse 1, 3)]).onDev (fun d => { d with now := 1000000 }), 1, by decide, by decide, by
    decide, by decide⟩⟩

theorem witness_TwoWireRecoveryCompletes_2 :
    (∃ (s : State) (n : Fin 4), s.dev.hostDown = false ∧ n ≠ 0 ∧ s.dev.get (T.twRetry n.val) ≠ 0) ∧
    (∃ (s : State) (n : Fin 4) (v : Word), twCtrlOk v.toNat = true ∧ v.toNat.testBit 24 = true ∧ s.dev.get
    (F.TW_STAT_RECOV n.val) = 0) :=
  ⟨⟨st [(T.twRetry 1, 1001)], 1, by decide, by decide, by decide⟩,
   ⟨st [(F.TW_STAT_RECOV 1, 0)], 1, 16777280, by decide, by decide, by decide⟩⟩

theorem witness_GazetteerCommandsComplete :
    (∃ (s : State) (q : Fin 6) (r : List (BitVec 8)) (l : List Nat), s.dev.hostDown = false ∧ s.dev.get (H.gzScan
    q.val) = 2 ∧ l = recBytes (r.map (fun b => b.toNat)) ∧ s.dev.get (H.gzTry q.val) < 2 ∧ recCrcOk l = false) ∧
    (∃ (s : State) (q : Fin 6) (r : List (BitVec 8)) (l : List Nat), s.dev.hostDown = false ∧ s.dev.get (H.gzScan
    q.val) = 2 ∧ l = recBytes (r.map (fun b => b.toNat)) ∧ s.dev.get (H.gzTry q.val) < 2 ∧ recCrcOk l = true ∧
    recFormOk l = false) ∧
    (∃ (s : State) (q : Fin 6) (r : List (BitVec 8)) (l : List Nat), s.dev.hostDown = false ∧ s.dev.get (H.gzScan
    q.val) = 2 ∧ l = recBytes (r.map (fun b => b.toNat)) ∧ recCrcOk l = true ∧ recFormOk l = true ∧ s.dev.get
    (F.SYS_GZQ_STAT_BOUND q.val) = 0 ∧ s.dev.get (H.gzAgain q.val) = 0 ∧ (∀ k : Fin 4, s.dev.att (4 * q.val + k.val) =
    0 ∧ s.dev.getBit (F.PRT_ATT_STAT_DISWHY (4 * q.val + k.val)) 0 = true ∧ s.dev.get (H.dis1Held (4 * q.val + k.val))
    = 0)) ∧
    (∃ (s : State) (q : Fin 6), s.dev.get (T.gzRetry q.val) ≠ 0) ∧
    (∃ (s : State) (q : Fin 6), s.dev.get (T.gzProbe q.val) ≠ 0 ∧ s.dev.get (H.gzScan q.val) = 0 ∧ s.dev.mode ≠ 3) ∧
    (∃ (s : State) (q : Fin 6), s.dev.get (T.gzProbe q.val) ≠ 0 ∧ s.dev.get (H.gzScan q.val) = 0 ∧ s.dev.mode = 3) ∧
    (∃ (s : State) (v : Word) (q : Fin 6), bits v.toNat 0 6 = 0 ∧ v.toNat.testBit (8 + q.val) = true ∧ s.dev.get
    (H.gzScan q.val) = 0) ∧
    (∃ (s : State) (v : Word) (q : Fin 6) (l : List Nat), v.toNat = 2 ^ q.val ∧ l = tget [] s.dev.gzrec q.val ∧
    s.scanFirst v.toNat = s ∧ s.dev.get (F.SYS_GZQ_STAT_PEND q.val) = 1 ∧ (∀ k : Fin 4, s.dev.att (4 * q.val + k.val) =
    0 ∧ s.dev.getBit (F.PRT_ATT_STAT_DISWHY (4 * q.val + k.val)) 0 = true)) :=
  ⟨⟨st [(H.gzScan 1, 2)], 1, gazetteerRecord 1 1, _, by decide, by decide, rfl, by decide, by decide +kernel⟩,
   ⟨st [(H.gzScan 1, 2)], 1, gazetteerRecord 2 0, _, by decide, by decide, rfl, by decide, by decide +kernel, by
    decide +kernel⟩,
   ⟨st [(H.gzScan 1, 2), (F.SYS_GZQ_STAT_BOUND 1, 0), (H.gzAgain 1, 0), (F.PRT_ATT_STAT_DISWHY 4, 1),
    (F.PRT_ATT_STAT_DISWHY 5, 1), (F.PRT_ATT_STAT_DISWHY 6, 1), (F.PRT_ATT_STAT_DISWHY 7, 1)], 1, gazetteerRecord 1 0,
    _, by decide, by decide, rfl, by decide +kernel, by decide +kernel, by decide, by decide, by decide +kernel⟩,
   ⟨st [(T.gzRetry 1, 1001)], 1, by decide⟩,
   ⟨st [(T.gzProbe 1, 1001), (H.gzScan 1, 0)], 1, by decide, by decide, by decide⟩,
   ⟨st [(T.gzProbe 1, 1001), (H.gzScan 1, 0), (F.SYS_MODE_MODE, 3)], 1, by decide, by decide, by decide⟩,
   ⟨st [(H.gzScan 1, 0)], 0x200, 1, by decide, by decide, by decide⟩,
   ⟨st [(F.SYS_GZQ_STAT_PEND 1, 1), (F.PRT_ATT_STAT_DISWHY 4, 1), (F.PRT_ATT_STAT_DISWHY 5, 1), (F.PRT_ATT_STAT_DISWHY
    6, 1), (F.PRT_ATT_STAT_DISWHY 7, 1)], 2, 1, _, by decide, rfl, by decide, by decide, by decide⟩⟩

theorem witness_ModeRequestsComplete :
    (∃ (s : State) (c : Instr) (a : Agent) (allowed : Bool) (hostOnly : Bool) (held : Bool), ((c = .modeReqSteady a ∧
    allowed = (s.dev.mode == 1) ∧ hostOnly = false ∧ held = false) ∨ (c = .modeReqKindling a ∧ allowed = false ∧
    hostOnly = false ∧ held = false) ∨ (c = .modeReqBlaze a ∧ allowed = (s.dev.mode == 0 || s.dev.mode == 1) ∧ hostOnly
    = true ∧ held = s.dev.anyContract) ∨ (c = .modeReqBanked a ∧ allowed = (s.dev.mode == 0) ∧ hostOnly = false ∧ held
    = s.dev.bankBarred) ∨ (c = .modeReqTinder a ∧ allowed = (s.dev.mode == 0) ∧ hostOnly = true ∧ held = false)) ∧ a =
    .tap) ∧
    (∃ (s : State) (c : Instr) (a : Agent) (allowed : Bool) (hostOnly : Bool) (held : Bool) (err : Nat), ((c =
    .modeReqSteady a ∧ allowed = (s.dev.mode == 1) ∧ hostOnly = false ∧ held = false) ∨ (c = .modeReqKindling a ∧
    allowed = false ∧ hostOnly = false ∧ held = false) ∨ (c = .modeReqBlaze a ∧ allowed = (s.dev.mode == 0 ||
    s.dev.mode == 1) ∧ hostOnly = true ∧ held = s.dev.anyContract) ∨ (c = .modeReqBanked a ∧ allowed = (s.dev.mode ==
    0) ∧ hostOnly = false ∧ held = s.dev.bankBarred) ∨ (c = .modeReqTinder a ∧ allowed = (s.dev.mode == 0) ∧ hostOnly =
    true ∧ held = false)) ∧ a ≠ .tap ∧ ((s.reqBehind a = true ∧ err = 1) ∨ (s.reqBehind a = false ∧ s.dev.get H.reqLow
    ≠ s.dev.now + 1 ∧ (((s.dev.touch a).reqBusy = true ∧ err = 1) ∨ ((s.dev.touch a).reqBusy = false ∧ allowed = false
    ∧ err = 2) ∨ ((s.dev.touch a).reqBusy = false ∧ allowed = true ∧ hostOnly = true ∧ a.isHost = false ∧ err = 6) ∨
    ((s.dev.touch a).reqBusy = false ∧ allowed = true ∧ (hostOnly = false ∨ a.isHost = true) ∧ held = true ∧ err =
    3))))) ∧
    (∃ (s : State) (c : Instr) (a : Agent) (allowed : Bool) (hostOnly : Bool) (held : Bool) (err : Nat), ((c =
    .modeReqSteady a ∧ allowed = (s.dev.mode == 1) ∧ hostOnly = false ∧ held = false) ∨ (c = .modeReqKindling a ∧
    allowed = false ∧ hostOnly = false ∧ held = false) ∨ (c = .modeReqBlaze a ∧ allowed = (s.dev.mode == 0 ||
    s.dev.mode == 1) ∧ hostOnly = true ∧ held = s.dev.anyContract) ∨ (c = .modeReqBanked a ∧ allowed = (s.dev.mode ==
    0) ∧ hostOnly = false ∧ held = s.dev.bankBarred) ∨ (c = .modeReqTinder a ∧ allowed = (s.dev.mode == 0) ∧ hostOnly =
    true ∧ held = false)) ∧ a ≠ .tap ∧ ((s.reqBehind a = true ∧ err = 1) ∨ (s.reqBehind a = false ∧ s.dev.get H.reqLow
    ≠ s.dev.now + 1 ∧ (((s.dev.touch a).reqBusy = true ∧ err = 1) ∨ ((s.dev.touch a).reqBusy = false ∧ allowed = false
    ∧ err = 2) ∨ ((s.dev.touch a).reqBusy = false ∧ allowed = true ∧ hostOnly = true ∧ a.isHost = false ∧ err = 6) ∨
    ((s.dev.touch a).reqBusy = false ∧ allowed = true ∧ (hostOnly = false ∨ a.isHost = true) ∧ held = true ∧ err =
    3))))) ∧
    (∃ (s : State) (a : Agent), a ≠ .tap ∧ s.reqBehind a = false ∧ s.dev.get H.reqLow ≠ s.dev.now + 1 ∧ (s.dev.touch
    a).reqBusy = false ∧ s.dev.mode = 1 ∧ s.dev.get H.fallPend = 0) ∧
    (∃ (s : State) (a : Agent), a ≠ .tap ∧ s.reqBehind a = false ∧ s.dev.get H.reqLow ≠ s.dev.now + 1 ∧ (s.dev.touch
    a).reqBusy = false ∧ s.dev.mode = 0 ∧ s.dev.bankBarred = false) ∧
    (∃ (s : State) (a : Agent), a ≠ .tap ∧ s.reqBehind a = false ∧ s.dev.get H.reqLow ≠ s.dev.now + 1 ∧ (s.dev.touch
    a).reqBusy = false ∧ a.isHost = true ∧ s.dev.mode = 0) ∧
    (∃ (s : State) (a : Agent), a ≠ .tap ∧ s.reqBehind a = false ∧ s.dev.get H.reqLow ≠ s.dev.now + 1 ∧ (s.dev.touch
    a).reqBusy = false ∧ a.isHost = true ∧ (s.dev.mode = 0 ∨ s.dev.mode = 1) ∧ s.dev.anyContract = false) :=
  ⟨⟨st [], .modeReqSteady .tap, .tap, true, false, false, by decide, by decide⟩,
   ⟨st [], .modeReqKindling .spi, .spi, false, false, false, 2, by decide, by decide, by decide⟩,
   ⟨st [(F.SYS_MODE_MODE, 0)], .modeReqTinder (.core 0), .core 0, true, true, false, 6, by decide, by decide, by
    decide⟩,
   ⟨st [(F.SYS_MODE_MODE, 1), (H.fallPend, 0)], (.core 0), by decide, by decide, by decide, by decide, by decide, by
    decide⟩,
   ⟨st [(F.SYS_MODE_MODE, 0)], (.core 0), by decide, by decide, by decide, by decide, by decide, by decide⟩,
   ⟨st [(F.SYS_MODE_MODE, 0)], .spi, by decide, by decide, by decide, by decide, by decide, by decide⟩,
   ⟨st [], .spi, by decide, by decide, by decide, by decide, by decide, by decide, by decide⟩⟩

theorem witness_BankedAndKindlingComplete_1 :
    (∃ (s : State), s.dev.get H.bankReq = 1 ∧ s.dev.get H.bankStage = 0 ∧ s.dev.bankBarred = false ∧ s.dev.bankAllOk =
    true) ∧
    (∃ (s : State), s.dev.get H.bankReq = 1 ∧ s.dev.get H.bankStage = 1) ∧
    (∃ (s : State), s.dev.get H.bankReq = 1 ∧ s.dev.get H.bankStage = 2) ∧
    (∃ (s : State), s.dev.get H.bankReq = 1 ∧ s.dev.get H.bankStage = 3) ∧
    (∃ (s : State), s.dev.get H.bankReq = 1 ∧ s.dev.get H.bankStage = 0 ∧ s.dev.bankBarred = true) ∧
    (∃ (s : State), s.dev.get H.bankReq = 1 ∧ s.dev.get H.bankStage = 0 ∧ s.dev.bankBarred = false ∧ s.dev.bankAllOk =
    false ∧ s.dev.get T.bank50 ≠ 0) ∧
    (∃ (s : State) (b : Fin 16), 12 ≤ b.val ∧ s.dev.get H.bankStage ≠ 0 ∧ s.dev.get H.wakeTick ≠ s.dev.now + 1) ∧
    (∃ (s : State), s.dev.mode ≠ 3 ∧ s.dev.get H.bankStage = 0) :=
  ⟨⟨st [(H.bankReq, 1), (H.bankStage, 0)], by decide, by decide, by decide, by decide⟩,
   ⟨st [(H.bankReq, 1), (H.bankStage, 1)], by decide, by decide⟩,
   ⟨st [(H.bankReq, 1), (H.bankStage, 2)], by decide, by decide⟩,
   ⟨st [(H.bankReq, 1), (H.bankStage, 3)], by decide, by decide⟩,
   ⟨st [(H.bankReq, 1), (H.bankStage, 0), (F.PRT_ATT_STAT_STATE 3, 8), (F.PRT_CONTRACT_VALID 3, 1),
    (F.PRT_CONTRACT_KIND 3, 2), (F.PRT_BANK_KEEP 3, 0)], by decide, by decide, by decide⟩,
   ⟨st [(H.bankReq, 1), (H.bankStage, 0), (T.bank50, 1001), (F.PRT_ATT_STAT_STATE 3, 2)], by decide, by decide, by
    decide, by decide, by decide⟩,
   ⟨st [(H.bankStage, 1)], 13, by decide, by decide, by decide⟩,
   ⟨st [(H.bankStage, 0)], by decide, by decide⟩⟩

theorem witness_BankedAndKindlingComplete_2 :
    (∃ (s : State) (b : Fin 16), s.dev.mode = 3 ∧ s.dev.get H.bankStage = 0 ∧ s.dev.get H.wakeTick ≠ s.dev.now + 1 ∧
    (12 ≤ b.val ∨ s.dev.getBit F.SYS_WAKE_EN_EN b.val = true)) ∧
    (∃ (s : State), s.dev.mode = 1 ∧ s.dev.get H.fallPend = 0 ∧ s.dev.kindleDone = true) ∧
    (∃ (s : State), s.dev.mode = 1 ∧ s.dev.get H.fallPend = 0 ∧ s.dev.kindleDone = false ∧ s.dev.get T.kindle ≠ 0) ∧
    (∃ (s : State) (v : Word), s.dev.mode = 2 ∧ s.dev.get F.SYS_BLAZE_RESULT_DONE = 0 ∧ bits v.toNat 11 7 ≠ 127) ∧
    (∃ (s : State) (v : Word), s.dev.mode = 2 ∧ s.dev.get F.SYS_BLAZE_RESULT_DONE = 0 ∧ bits v.toNat 11 7 = 127 ∧ (∀ p
    : Fin 24, s.dev.get (F.PRT_ATT_STAT_DISWHY p.val) ≠ 0)) :=
  ⟨⟨st [(F.SYS_MODE_MODE, 3), (H.bankStage, 0)], 13, by decide, by decide, by decide, by decide⟩,
   ⟨(st [(F.SYS_MODE_MODE, 1), (H.fallPend, 0)]).onDev (fun d => (d.puts ((List.range 24).map (fun p =>
    (F.MTR_STAT_SETTLED p, 1)))).puts ((List.range 6).map (fun q => (F.SYS_GZQ_STAT_DONE q, 1)))), by decide, by
    decide, by decide +kernel⟩,
   ⟨st [(F.SYS_MODE_MODE, 1), (H.fallPend, 0), (T.kindle, 1001)], by decide, by decide, by decide, by decide⟩,
   ⟨st [(F.SYS_MODE_MODE, 2), (F.SYS_BLAZE_RESULT_DONE, 0)], 0, by decide, by decide, by decide⟩,
   ⟨(st [(F.SYS_MODE_MODE, 2)]).onDev (·.puts ((List.range 24).map (fun p => (F.PRT_ATT_STAT_DISWHY p, 1)))), 260096,
    by decide, by decide, by decide, by decide +kernel⟩⟩

theorem witness_ResetSourcesAssertTheirLevel :
    (∃ (s : State) (c : Instr) (src : Nat) (lvl : Nat) (d : Dev), ((c = .powerUp ∧ src = 0 ∧ lvl = 3 ∧ d = s.dev) ∨ (∃
    b, c = .vsysBrownout b ∧ src = 0 ∧ lvl = 3 ∧ d = s.dev) ∨ (c = .vcoreBrownout ∧ src = 1 ∧ lvl = 2 ∧ d = s.dev) ∨ (c
    = .clockFailure ∧ src = 6 ∧ lvl = 2 ∧ d = s.dev) ∨ (c = .rstnAssert ∧ src = 2 ∧ d = s.dev ∧ lvl = if s.dev.get (if
    2 ≤ s.dev.get H.rstHeld then H.otpRstnl3 else F.RST_CFG_RSTNL3) = 1 then 3 else 2) ∨ (∃ a, a ≠ .tap ∧ s.dev.get
    H.hostXfer = 0 ∧ c = .rstReqL1 a false ∧ src = 4 ∧ lvl = 1 ∧ d = s.dev.touch a) ∨ (∃ a, a ≠ .tap ∧ s.dev.get
    H.hostXfer = 0 ∧ c = .rstReqL2 a false ∧ src = 4 ∧ lvl = 2 ∧ d = s.dev.touch a)) ∧ s.dev.get H.flushLvl = 0 ∧ lvl ≤
    s.dev.get H.rstHeld) ∧
    (∃ (s : State) (c : Instr) (src : Nat) (lvl : Nat), ((c = .powerUp ∧ src = 0 ∧ lvl = 3) ∨ (∃ b, c = .vsysBrownout b
    ∧ src = 0 ∧ lvl = 3) ∨ (c = .vcoreBrownout ∧ src = 1 ∧ lvl = 2) ∨ (c = .clockFailure ∧ src = 6 ∧ lvl = 2) ∨ (c =
    .rstnAssert ∧ src = 2 ∧ lvl = if s.dev.get (if 2 ≤ s.dev.get H.rstHeld then H.otpRstnl3 else F.RST_CFG_RSTNL3) = 1
    then 3 else 2) ∨ (∃ a, a ≠ .tap ∧ s.dev.get H.hostXfer = 0 ∧ c = .rstReqL1 a false ∧ src = 4 ∧ lvl = 1) ∨ (∃ a, a ≠
    .tap ∧ s.dev.get H.hostXfer = 0 ∧ c = .rstReqL2 a false ∧ src = 4 ∧ lvl = 2) ∨ (∃ i, c = .lockupTimeout i ∧
    s.dev.coreState i.val = 1 ∧ s.dev.get H.rstHeld = 0 ∧ src = 7 ∧ lvl = 1) ∨ (∃ i, c = .watchdogExpiry i ∧ s.dev.get
    (T.wdt i.val) ≠ 0 ∧ src = 3 ∧ lvl = if 2 ≤ (s.dev.wdTimes.filter (fun t => decide (t < s.dev.now))).length then 2
    else 1)) ∧ s.dev.get H.flushLvl = 0 ∧ s.dev.get H.rstHeld < lvl ∧ s.dev.get F.SNAP_CTRL_RSTEN = 0 ∧ (∀ p : Fin 24,
    s.dev.askOut p.val = false)) ∧
    (∃ (s : State) (c : Instr) (lvl : Nat), lvl = s.dev.get H.flushLvl ∧ 1 ≤ lvl ∧ s.dev.get H.rstHeld < lvl ∧
    s.dev.get F.SNAP_CTRL_RSTEN = 0 ∧ (∀ p : Fin 24, s.dev.askOut p.val = false) ∧ ((c = .flushTimeout ∧ s.dev.get
    T.flush ≠ 0) ∨ (c = .flushDone ∧ s.dev.segq = [] ∧ s.dev.get F.LGR_STAT_OPEN = 0 ∧ s.dev.sigq = [] ∧ s.dev.staged =
    [] ∧ s.dev.logs = [] ∧ s.dev.get H.progOn = 0))) ∧
    (∃ (a : Agent) (v : Word), a ≠ .tap ∧ (bits v.toNat 8 8 ≠ 0x5A ∨ bits v.toNat 0 2 = 0 ∨ bits v.toNat 0 2 = 3)) ∧
    (∃ (s : State) (a : Agent) (l : Nat), a ≠ .tap ∧ s.dev.get H.hostXfer = 1 ∧ (l = 1 ∨ l = 2)) ∧
    (∃ (s : State) (a : Agent), a ≠ .tap ∧ s.dev.get H.flushLvl = 0 ∧ (∀ p : Fin 24, s.dev.get (F.MTR_STAT_OPEN p.val)
    = 0 ∧ s.dev.segJust p.val = none)) :=
  ⟨⟨st [(H.rstHeld, 3)], .powerUp, 0, 3, (st [(H.rstHeld, 3)]).dev, Or.inl (by decide), by decide, by decide⟩,
   ⟨st [(H.flushLvl, 0), (F.SNAP_CTRL_RSTEN, 0), (H.rstHeld, 0)], .powerUp, 0, 3, Or.inl (by decide), by decide, by
    decide, by decide, by decide⟩,
   ⟨st [(F.SNAP_CTRL_RSTEN, 0), (H.flushLvl, 1), (T.flush, 1001)], .flushTimeout, 1, by decide, by decide, by decide,
    by decide, by decide, by decide⟩,
   ⟨(.core 0), 0, by decide, by decide⟩,
   ⟨st [(H.hostXfer, 1)], (.core 0), 1, by decide, by decide, by decide⟩,
   ⟨st [(H.flushLvl, 0)], (.core 0), by decide, by decide, by decide⟩⟩

theorem witness_ReleaseHoldAndSuppliesComplete_1 :
    (∃ (s : State), s.dev.get H.rstHeld = 0) ∧
    (∃ (s : State), s.dev.get H.rstHeld = 1 ∧ s.dev.mode ≠ 3) ∧
    (∃ (s : State), 2 ≤ s.dev.get H.rstHeld) ∧
    (∃ (s : State), s.dev.get H.rstHeld = 2 ∧ s.dev.get T.hold ≠ 0) ∧
    (∃ (s : State) (p : Fin 24) (i : Nat), s.dev.get H.rstHeld = 2 ∧ (s.dev.get (H.padGates p.val) = 1 ∨ s.dev.get
    (H.padGates p.val) = 2) ∧ 1000 < i) ∧
    (∃ (s : State) (i : Nat), s.dev.get H.rstHeld = 2 ∧ i ≤ 1000) ∧
    (∃ (s : State) (low : Bool), s.dev.get H.rstHeld < 2 ∧ s.dev.get F.SYS_SUPPLY_VINLOW ≠ b2n low) ∧
    (∃ (s : State) (low : Bool), s.dev.get H.rstHeld < 2 ∧ s.dev.get F.SYS_SUPPLY_VIOLOW ≠ b2n low) :=
  ⟨⟨st [(H.rstHeld, 0)], by decide⟩,
   ⟨st [(H.rstHeld, 1)], by decide, by decide⟩,
   ⟨st [(H.rstHeld, 2)], by decide⟩,
   ⟨st [(H.rstHeld, 2), (T.hold, 1001)], by decide, by decide⟩,
   ⟨st [(H.rstHeld, 2), (H.padGates 3, 1)], 3, 1001, by decide, by decide, by decide⟩,
   ⟨st [(H.rstHeld, 2)], 0, by decide, by decide⟩,
   ⟨st [], true, by decide, by decide⟩,
   ⟨st [], true, by decide, by decide⟩⟩

theorem witness_ReleaseHoldAndSuppliesComplete_2 :
    ∃ (s : State), s.dev.get H.rstHeld < 2 ∧ (∀ p : Fin 24, ((s.dev.txs p.val).map (·.sop)).headD 0 = 0) :=
  ⟨st [], by decide, by decide⟩

theorem witness_SurveyorCommandsComplete_1 :
    (∃ (s : State), s.dev.get T.vcore ≠ 0 ∧ s.dev.get H.svyMove = 1 ∧ s.dev.get F.SYS_VCORE_PLAN < 46 ∧ s.dev.svyPaused
    = false) ∧
    (∃ (s : State), s.dev.get T.vcore ≠ 0 ∧ s.dev.get H.svyMove = 2 ∧ s.dev.get F.SVY_CFG_VLO < s.dev.get
    F.SYS_VCORE_PLAN ∧ s.dev.svyPaused = false) ∧
    (∃ (s : State), s.dev.get T.vcore ≠ 0 ∧ (s.dev.get H.svyMove = 0 ∨ s.dev.svyPaused = true) ∧ s.dev.get
    F.SYS_VCORE_SET < s.dev.vcoreTarget ∧ s.dev.get F.SYS_VCORE_SET < 63) ∧
    (∃ (s : State), s.dev.get T.vcore ≠ 0 ∧ (s.dev.get H.svyMove = 0 ∨ s.dev.svyPaused = true) ∧ s.dev.vcoreTarget <
    s.dev.get F.SYS_VCORE_SET) ∧
    (∃ (s : State), s.dev.get T.svySweep ≠ 0 ∧ s.dev.mode ≠ 3) ∧
    (∃ (s : State), s.dev.get T.svySweep ≠ 0 ∧ s.dev.mode = 3) ∧
    (∃ (s : State) (laps : List (BitVec 16)) (temps : List (BitVec 8)) (fc : Nat), laps.length = 8 ∧ temps.length = 8 ∧
    fc = s.dev.svyFc (lowestLap (laps.map (·.toNat))).1 ∧ s.dev.get H.svyGate = 1 ∧ s.dev.get H.svyGateAt + gateTicks ≤
    s.dev.now) ∧
    (∃ (s : State) (laps : List (BitVec 16)) (temps : List (BitVec 8)) (fc : Nat), laps.length = 8 ∧ temps.length = 8 ∧
    fc = s.dev.svyFc (lowestLap (laps.map (·.toNat))).1 ∧ (s.dev.get H.svyGate = 0 ∨ s.dev.now < s.dev.get H.svyGateAt
    + gateTicks)) :=
  ⟨⟨st [(T.vcore, 1001), (H.svyMove, 1)], by decide, by decide, by decide, by decide⟩,
   ⟨st [(T.vcore, 1001), (H.svyMove, 2)], by decide, by decide, by decide, by decide⟩,
   ⟨st [(T.vcore, 1001), (F.SYS_MODE_MODE, 0), (F.SYS_VCORE_PLAN, 40)], by decide, by decide, by decide, by decide⟩,
   ⟨st [(T.vcore, 1001), (F.SYS_MODE_MODE, 0), (F.SYS_VCORE_PLAN, 30)], by decide, by decide, by decide⟩,
   ⟨st [(T.svySweep, 1001)], by decide, by decide⟩,
   ⟨st [(T.svySweep, 1001), (F.SYS_MODE_MODE, 3)], by decide, by decide⟩,
   ⟨(st [(H.svyGate, 1)]).onDev (fun d => { d with now := 100000 }), List.replicate 8 1000, List.replicate 8 25, _, by
    decide, by decide, rfl, by decide, by decide⟩,
   ⟨st [], List.replicate 8 1000, List.replicate 8 25, _, by decide, by decide, rfl, by decide⟩⟩

theorem witness_SurveyorCommandsComplete_2 :
    (∃ (s : State) (laps : List (BitVec 16)) (temps : List (BitVec 8)) (fc : Nat), laps.length = 8 ∧ temps.length = 8 ∧
    fc = s.dev.svyFc (lowestLap (laps.map (·.toNat))).1 ∧ s.dev.get H.svyRe = 1 ∧ s.dev.get H.svyReAt ≠ 0 ∧ s.dev.get
    H.svyReAt + gateTicks ≤ s.dev.now + 1) ∧
    (∃ (s : State), s.dev.get F.FAB_ADMF_BUSY = 1) ∧
    (∃ (s : State), s.dev.get T.dayEnd ≠ 0 ∧ s.restoreWaits = true) ∧
    (∃ (s : State), s.dev.get T.dayEnd ≠ 0 ∧ s.restoreWaits = false) :=
  ⟨⟨(st [(H.svyRe, 1), (H.svyReAt, 1001)]).onDev (fun d => { d with now := 100000 }), List.replicate 8 1000,
    List.replicate 8 25, _, by decide, by decide, rfl, by decide, by decide, by decide⟩,
   ⟨st [(F.FAB_ADMF_BUSY, 1)], by decide⟩,
   ⟨{ st [(T.dayEnd, 1001)] with pending := [.registerWrite (.core 0) 0x200F11 0] }, by decide, by decide⟩,
   ⟨st [(T.dayEnd, 1001)], by decide, by decide⟩⟩

theorem witness_DownloadsComplete :
    (∃ (s : State) (a : Agent) (slot : BitVec 2) (page : BitVec 15), s.dev.dlSource a = true ∧ (slot = 1 ∨ slot = 2) ∧
    s.dev.get F.STO_STAT_READY = 1 ∧ s.dev.get F.FW_STAT_DLBUSY = 0 ∧ s.dev.slotFree slot.toNat = true ∧ page.toNat <
    s.dev.slotPages ∧ s.dev.page slot.toNat page.toNat = [] ∧ 0x40000 ≤ s.dev.get (F.FW_DLARG_BUF a.copy) ∧ s.dev.get
    (F.FW_DLARG_BUF a.copy) + 1023 ≤ 0xFFFFF) ∧
    (∃ (s : State) (a : Agent), s.dev.dlSource a = false) ∧
    (∃ (s : State) (a : Agent) (op : BitVec 4) (slot : BitVec 2), s.dev.dlSource a = true ∧ (op = 0 ∨ 3 < op.toNat ∨
    slot = 0 ∨ slot = 3)) ∧
    (∃ (s : State) (slot : Nat), slot = s.dev.get H.dlSlot ∧ s.dev.get H.dlOp = 1 ∧ s.dev.slotBad slot = false ∧ (slot
    = 1 ∨ slot = 2)) ∧
    (∃ (s : State) (slot : Nat), slot = s.dev.get H.dlSlot ∧ s.dev.get H.dlOp = 2) ∧
    (∃ (s : State) (slot : Nat), slot = s.dev.get H.dlSlot ∧ s.dev.get H.dlOp = 3) :=
  ⟨⟨st [(F.STO_STAT_READY, 1), (F.FW_STAT_DLBUSY, 0), (F.STO_GEOM_PAGE, 4096), (F.STO_STAT_CAP, 8), (F.FW_DLARG_BUF 6,
    262144)], .spi, 1, 0, by decide, by decide, by decide, by decide, by decide, by decide, by decide, by decide, by
    decide⟩,
   ⟨st [], (.core 0), by decide⟩,
   ⟨st [], .spi, 0, 0, by decide, by decide⟩,
   ⟨st [(H.dlOp, 1), (H.dlSlot, 1)], _, rfl, by decide, by decide, by decide⟩,
   ⟨st [(H.dlOp, 2)], _, rfl, by decide⟩,
   ⟨st [(H.dlOp, 3)], _, rfl, by decide⟩⟩

theorem witness_ActivationsAndTrialsComplete_1 :
    (∃ (s : State) (a : Agent) (key : BitVec 8) (slot : BitVec 2), (a.isHost = true ∨ (a.isC0 = true ∧ s.dev.imageRuns
    = true)) ∧ key = 0xA7 ∧ s.dev.mode = 0 ∧ s.dev.get F.SYS_MODE_TRANS = 0 ∧ s.dev.trialRuns = false ∧ s.dev.get
    F.FW_STAT_DLBUSY = 0 ∧ (slot = 1 ∨ slot = 2) ∧ s.dev.runSlot ≠ slot.toNat ∧ s.dev.slotResNow slot.toNat = 1 ∧
    s.dev.slotAdmok slot.toNat = true ∧ s.dev.get F.SVY_STAT_CERT = 1) ∧
    (∃ (s : State) (a : Agent) (key : BitVec 8) (err : Nat), ((a = .tap ∧ err = 3) ∨ (a.isHost = true ∧ key ≠ 0xA7 ∧
    err = 4) ∨ (a.isHost = true ∧ key = 0xA7 ∧ s.dev.mode ≠ 0 ∧ s.dev.mode ≠ 4 ∧ err = 2))) ∧
    (∃ (s : State) (a : Agent) (key : BitVec 8) (err : Nat), ((a = .tap ∧ err = 3) ∨ (a.isHost = true ∧ key ≠ 0xA7 ∧
    err = 4) ∨ (a.isHost = true ∧ key = 0xA7 ∧ s.dev.mode ≠ 0 ∧ s.dev.mode ≠ 4 ∧ err = 2))) ∧
    (∃ (s : State), s.dev.get T.act ≠ 0 ∧ s.dev.get H.actStage = 0) ∧
    (∃ (s : State), s.dev.get T.act ≠ 0 ∧ s.dev.get H.actStage ≠ 0 ∧ s.dev.get H.rstHeld = 0 ∧ s.dev.get H.flushLvl = 0
    ∧ s.dev.get F.SNAP_CTRL_RSTEN = 0 ∧ (∀ p : Fin 24, s.dev.askOut p.val = false)) ∧
    (∃ (s : State), (s.dev.get H.rstHeld ≠ 0 ∨ s.dev.mode = 2 ∨ s.dev.mode = 3 ∨ s.dev.get H.booting = 0 ∨ (s.dev.get
    H.booting = 1 ∧ (s.dev.get F.STO_STAT_SCANNED = 0 ∨ s.dev.get F.SVY_STAT_CERT = 0)))) ∧
    (∃ (s : State), s.dev.get H.rstHeld = 0 ∧ s.dev.mode ≠ 2 ∧ s.dev.mode ≠ 3 ∧ s.dev.get H.booting = 2) ∧
    (∃ (s : State), s.dev.get H.rstHeld = 0 ∧ s.dev.mode ≠ 2 ∧ s.dev.mode ≠ 3 ∧ s.dev.get H.booting = 3) :=
  ⟨⟨st [(F.SYS_MODE_MODE, 0), (F.SYS_MODE_TRANS, 0), (F.FW_STAT_DLBUSY, 0), (F.SVY_STAT_CERT, 1), (F.FW_STAT_STATE,
    1), (F.FW_STAT_ACTIVE, 2), (F.FW_SLOTA_RES, 1), (F.FW_SLOTA_ADMOK, 1)], .spi, 0xA7, 1, by decide, by decide, by
    decide, by decide, by decide, by decide, by decide, by decide, by decide, by decide, by decide⟩,
   ⟨st [], .spi, 0, 4, by decide⟩,
   ⟨st [(F.SYS_MODE_MODE, 1)], .spi, 0xA7, 2, by decide⟩,
   ⟨st [(T.act, 1001), (H.actStage, 0)], by decide, by decide⟩,
   ⟨st [(T.act, 1001), (H.actStage, 1), (H.rstHeld, 0), (H.flushLvl, 0), (F.SNAP_CTRL_RSTEN, 0)], by decide, by
    decide, by decide, by decide, by decide, by decide⟩,
   ⟨st [], by decide⟩,
   ⟨st [(H.rstHeld, 0), (H.booting, 2)], by decide, by decide, by decide, by decide⟩,
   ⟨st [(H.rstHeld, 0), (H.booting, 3)], by decide, by decide, by decide, by decide⟩⟩

theorem witness_ActivationsAndTrialsComplete_2 :
    (∃ (s : State), s.dev.get H.rstHeld = 0 ∧ s.dev.mode ≠ 2 ∧ s.dev.mode ≠ 3 ∧ s.dev.get H.booting = 1 ∧ s.dev.get
    F.STO_STAT_SCANNED = 1 ∧ s.dev.get F.SVY_STAT_CERT = 1 ∧ s.dev.get H.bootWait ≠ 0 ∧ s.dev.admNowFails = false) ∧
    (∃ (s : State), s.dev.get H.rstHeld = 0 ∧ s.dev.mode ≠ 2 ∧ s.dev.mode ≠ 3 ∧ s.dev.get H.booting = 1 ∧ s.dev.get
    F.STO_STAT_SCANNED = 1 ∧ s.dev.get F.SVY_STAT_CERT = 1 ∧ s.dev.get H.bootWait ≠ 0 ∧ s.dev.admNowFails = true ∧
    s.dev.now + 1 < s.dev.get T.boot) ∧
    (∃ (s : State), s.dev.get H.rstHeld = 0 ∧ s.dev.mode ≠ 2 ∧ s.dev.mode ≠ 3 ∧ s.dev.get H.booting = 1 ∧ s.dev.get
    F.STO_STAT_SCANNED = 1 ∧ s.dev.get F.SVY_STAT_CERT = 1 ∧ s.dev.get H.bootWait ≠ 0 ∧ s.dev.admNowFails = true ∧
    s.dev.get T.boot ≤ s.dev.now + 1) ∧
    (∃ (s : State), s.dev.get H.rstHeld = 0 ∧ s.dev.mode = 1 ∧ s.dev.get H.booting = 1 ∧ s.dev.get H.bootWait = 0 ∧
    s.dev.get F.STO_STAT_SCANNED = 1 ∧ s.dev.get F.SVY_STAT_CERT = 1 ∧ s.dev.nand = []) ∧
    (∃ (s : State) (a : Agent) (key : BitVec 8), a ≠ .tap ∧ s.dev.trialSeen = true ∧ key = 0x3C ∧ s.dev.trialEnds =
    false) ∧
    (∃ (s : State) (a : Agent) (key : BitVec 8) (err : Nat), a ≠ .tap ∧ ((s.dev.trialSeen = false ∧ err = 8) ∨
    (s.dev.trialSeen = true ∧ key ≠ 0x3C ∧ err = 4) ∨ (s.dev.trialSeen = true ∧ key = 0x3C ∧ s.dev.trialEnds = true ∧
    err = 11))) ∧
    (∃ (s : State) (a : Agent) (key : BitVec 8) (err : Nat), a ≠ .tap ∧ ((s.dev.trialSeen = false ∧ err = 8) ∨
    (s.dev.trialSeen = true ∧ key ≠ 0x3C ∧ err = 4) ∨ (s.dev.trialSeen = true ∧ key = 0x3C ∧ s.dev.trialEnds = true ∧
    err = 11))) ∧
    (∃ (s : State) (a : Agent) (key : BitVec 8) (err : Nat), a ≠ .tap ∧ ((s.dev.trialSeen = false ∧ err = 8) ∨
    (s.dev.trialSeen = true ∧ key ≠ 0x3C ∧ err = 4) ∨ (s.dev.trialSeen = true ∧ key = 0x3C ∧ s.dev.trialEnds = true ∧
    err = 11))) :=
  ⟨⟨st [(H.rstHeld, 0), (H.booting, 1), (F.STO_STAT_SCANNED, 1), (F.SVY_STAT_CERT, 1), (H.bootWait, 1)], by decide, by
    decide, by decide, by decide, by decide, by decide, by decide, by decide⟩,
   ⟨(st [(H.rstHeld, 0), (H.booting, 1), (F.STO_STAT_SCANNED, 1), (F.SVY_STAT_CERT, 1), (H.bootWait, 1), (T.boot,
    100000)]).onDev (fun d => d.stgWrite 0x108000 (10 * 2 ^ 32 + 255 * 256)), by decide, by decide, by decide, by
    decide, by decide, by decide, by decide, by decide, by decide⟩,
   ⟨(st [(H.rstHeld, 0), (H.booting, 1), (F.STO_STAT_SCANNED, 1), (F.SVY_STAT_CERT, 1), (H.bootWait, 1), (T.boot,
    1001)]).onDev (fun d => d.stgWrite 0x108000 (10 * 2 ^ 32 + 255 * 256)), by decide, by decide, by decide, by decide,
    by decide, by decide, by decide, by decide, by decide⟩,
   ⟨st [(H.rstHeld, 0), (F.SYS_MODE_MODE, 1), (H.booting, 1), (H.bootWait, 0), (F.STO_STAT_SCANNED, 1),
    (F.SVY_STAT_CERT, 1)], by decide, by decide, by decide, by decide, by decide, by decide, by decide⟩,
   ⟨st [(F.FW_STAT_STATE, 2)], (.core 0), 0x3C, by decide, by decide, by decide, by decide⟩,
   ⟨st [], (.core 0), 0, 8, by decide, by decide⟩,
   ⟨st [(F.FW_STAT_STATE, 2)], (.core 0), 0, 4, by decide, by decide⟩,
   ⟨st [(F.FW_STAT_STATE, 2), (T.trial, 1001)], (.core 0), 0x3C, 11, by decide, by decide⟩⟩

theorem witness_ActivationsAndTrialsComplete_3 :
    (∃ (s : State), s.dev.get T.trial ≠ 0 ∧ s.dev.mode ≠ 3 ∧ s.dev.get H.bankStage = 0 ∧ s.dev.trialRuns = true ∧
    s.dev.get H.trialOver = 0 ∧ s.dev.get F.FW_COMPAT_AUTOFALL = 1 ∧ s.dev.mode = 1) ∧
    (∃ (s : State), s.dev.get T.trial ≠ 0 ∧ s.dev.mode ≠ 3 ∧ s.dev.get H.bankStage = 0 ∧ s.dev.trialRuns = true ∧
    s.dev.get H.trialOver = 0 ∧ s.dev.get F.FW_COMPAT_AUTOFALL = 0) ∧
    (∃ (v : Word), (bits v.toNat 0 6 = 0 ∨ 60 < bits v.toNat 0 6)) ∧
    (∃ (s : State) (v : Word), 1 ≤ bits v.toNat 0 6 ∧ bits v.toNat 0 6 ≤ 60 ∧ s.dev.get T.trial = 0) ∧
    (∃ (s : State) (v : Word), 1 ≤ bits v.toNat 0 6 ∧ bits v.toNat 0 6 ≤ 60 ∧ s.dev.get T.trial ≠ 0 ∧ s.dev.now <
    s.dev.get H.trialStart + bits v.toNat 0 6 * 3840000000) ∧
    (∃ (s : State), s.dev.get F.STO_STAT_READY = 0) ∧
    (∃ (s : State) (addr : BitVec 22) (b : List Nat), b = (List.range 15).flatMap (fun i => beBytes 4 (if 0x40000 ≤
    addr.toNat + i ∧ addr.toNat + i ≤ 0xFFFFF then (s.memRead (addr.toNat + i)).toNat % 2 ^ 32 else 0)) ∧ b.headD 0 =
    0x53 ∧ setLen b ≤ 52 ∧ setFmt b ≠ 0 ∧ setFmt b = s.dev.get F.FW_STAT_SETFMT ∧ s.dev.imageRuns = true ∧ s.dev.mode =
    0 ∧ s.dev.get F.STO_STAT_READY = 1 ∧ s.dev.setHead < s.dev.partPages 3) :=
  ⟨⟨st [(T.trial, 1001), (H.bankStage, 0), (H.trialOver, 0), (F.FW_COMPAT_AUTOFALL, 1), (F.SYS_MODE_MODE, 1),
    (F.FW_STAT_STATE, 2)], by decide, by decide, by decide, by decide, by decide, by decide, by decide⟩,
   ⟨st [(T.trial, 1001), (H.bankStage, 0), (H.trialOver, 0), (F.FW_COMPAT_AUTOFALL, 0), (F.FW_STAT_STATE, 2)], by
    decide, by decide, by decide, by decide, by decide, by decide⟩,
   ⟨61, by decide⟩,
   ⟨st [(T.trial, 0)], 60, by decide, by decide, by decide⟩,
   ⟨st [(T.trial, 5000), (H.trialStart, 1000)], 1, by decide, by decide, by decide, by decide⟩,
   ⟨st [(F.STO_STAT_READY, 0)], by decide⟩,
   ⟨{ st [(F.SYS_MODE_MODE, 0), (F.STO_STAT_READY, 1), (F.STO_GEOM_PAGE, 4096), (F.STO_STAT_CAP, 8),
    (F.FW_STAT_SETFMT, 1), (F.FW_STAT_STATE, 1)] with mem := [(0x40000, 0x53010000)] }, 0x40000, _, rfl, by decide, by
    decide, by decide, by decide, by decide, by decide, by decide, by decide⟩⟩

theorem witness_DebugCommandsComplete_1 :
    (∃ (s : State), s.dev.get F.DBG_STAT_LEVEL < 2 ∧ s.dev.get H.dbgTries < 3) ∧
    (∃ (s : State), 2 ≤ s.dev.get F.DBG_STAT_LEVEL) ∧
    (∃ (s : State), s.dev.get T.dbgVer ≠ 0) ∧
    (∃ (s : State) (v : BitVec 16) (n : Fin 6), s.dev.unlocked = true ∧ bits v.toNat 13 3 = n.val ∧ bits v.toNat 7 5 =
    0 ∧ v.toNat.testBit 12 = false ∧ (s.dev.coreState n.val = 1 ∨ s.dev.coreState n.val = 2)) ∧
    (∃ (s : State) (v : BitVec 16) (n : Fin 6), s.dev.unlocked = true ∧ bits v.toNat 13 3 = n.val ∧ bits v.toNat 7 5 =
    0 ∧ v.toNat.testBit 12 = false ∧ s.dev.coreState n.val = 4 ∧ s.dev.get (H.coreWas n.val) = 1 ∧ s.dev.mode ≠ 3 ∧
    s.dev.get (H.waitDue n.val) = 0) ∧
    (∃ (s : State) (v : BitVec 16) (n : Fin 6), s.dev.unlocked = true ∧ bits v.toNat 13 3 = n.val ∧ bits v.toNat 7 5 =
    0 ∧ v.toNat.testBit 12 = false ∧ s.dev.coreState n.val = 4 ∧ s.dev.get (H.coreWas n.val) = 1 ∧ s.dev.get H.rstHeld
    = 0 ∧ 0x40000 ≤ s.dev.pcOf n.val ∧ s.dev.pcOf n.val < 0x100000 - 1 ∧ s.memRead (s.dev.pcOf n.val) = BitVec.ofNat 36
    (2 ^ 30) ∧ s.bad = [] ∧ s.alone n (s.dev.pcOf n.val) = true) ∧
    (∃ (s : State) (v : BitVec 16) (n : Fin 6) (c : Instr) (lvl : Nat), s.dev.unlocked = true ∧ bits v.toNat 13 3 =
    n.val ∧ bits v.toNat 7 5 = 0 ∧ v.toNat.testBit 12 = false ∧ ((c = .dbgResetL1 v ∧ lvl = 1) ∨ (c = .dbgResetL2 v ∧
    lvl = 2)) ∧ s.dev.get H.rstHeld < lvl ∧ s.dev.get H.flushLvl = 0 ∧ s.dev.get F.SNAP_CTRL_RSTEN = 0 ∧ (∀ p : Fin 24,
    s.dev.askOut p.val = false)) ∧
    (∃ (s : State), s.dev.unlocked = false) :=
  ⟨⟨st [], by decide, by decide⟩,
   ⟨st [(F.DBG_STAT_LEVEL, 2)], by decide⟩,
   ⟨st [(T.dbgVer, 1001)], by decide⟩,
   ⟨st [(F.DBG_STAT_UNLOCKED, 1), (F.CORE_STAT_STATE 1, 1)], 0x2000, 1, by decide, by decide, by decide, by decide, by
    decide⟩,
   ⟨st [(F.CORE_STAT_STATE 1, 4), (H.coreWas 1, 1), (H.waitDue 1, 0), (F.DBG_STAT_UNLOCKED, 1)], 0x2000, 1, by decide,
    by decide, by decide, by decide, by decide, by decide, by decide, by decide⟩,
   ⟨{ st [(F.CORE_STAT_STATE 1, 4), (H.coreWas 1, 1), (H.rstHeld, 0), (F.DBG_STAT_UNLOCKED, 1), (F.CORE_P_P 1,
    262144)] with mem := [(0x40000, 0x40000000)] }, 0x2000, 1, by decide, by decide, by decide, by decide, by decide,
    by decide, by decide, by decide, by decide, by decide, by decide, by decide⟩,
   ⟨st [(H.flushLvl, 0), (F.SNAP_CTRL_RSTEN, 0), (F.DBG_STAT_UNLOCKED, 1)], 0x2000, 1, .dbgResetL2 0x2000, 2, by
    decide, by decide, by decide, by decide, by decide, by decide, by decide, by decide, by decide⟩,
   ⟨st [], by decide⟩⟩

theorem witness_DebugCommandsComplete_2 :
    ∃ (s : State) (v : BitVec 37), s.dev.unlocked = true ∧ s.bad = [] ∧ 0x40000 ≤ s.dev.get H.dbgAddr ∧ s.dev.get
    H.dbgAddr < 0x100000 ∧ s.dev.notes.all (fun e => e / 2 ^ 40 != s.dev.get H.dbgAddr) = true ∧ s.accessAhead .tap
    (s.dev.get H.dbgAddr) = false ∧ v.getLsbD 36 = true :=
  ⟨st [(F.DBG_STAT_UNLOCKED, 1), (H.dbgAddr, 262144)], 68719476736, by decide, by decide, by decide, by decide, by
    decide, by decide, by decide⟩

theorem witness_GuardTripsStopThePort_1 :
    (∃ (s : State) (p : Fin 24) (i : Nat) (vpair : Nat) (vbs : Nat) (j : Int) (t : Int) (c : Instr) (code : Nat) (hard
    : Bool) (lock : Bool), (s.dev.gates p.val = 1 ∨ s.dev.gates p.val = 2) ∧ s.dev.get H.rstHeld < 2 ∧ ((c = .tripFast
    p i ∧ s.dev.effIfast p.val * 500 < i ∧ (code, hard, lock) = (1, true, false)) ∨ (c = .tripGate p ∧ s.dev.gates
    p.val = 2 ∧ (code, hard, lock) = (2, true, true)) ∨ (c = .tripSoa p true vpair i ∧ s.dev.gates p.val = 1 ∧
    s.dev.get (T.tsoa p.val) ≠ 0 ∧ (code, hard, lock) = (3, true, false)) ∨ (c = .tripSoa p false vpair i ∧ s.dev.gates
    p.val = 1 ∧ s.dev.get (F.GRD_GZI_PSOA p.val) * 5000000 < vpair * i ∧ (code, hard, lock) = (3, true, false)) ∨ (c =
    .tripOv p vbs ∧ s.dev.ovLimit p.val < vbs ∧ (code, hard, lock) = (5, false, false)) ∨ (c = .tripI2t p ∧ s.dev.get
    (F.GRD_STAT_VALID p.val) = 1 ∧ s.dev.effI2t p.val * i2tUnit < s.dev.get (H.grdQ p.val) ∧ (code, hard, lock) = (6,
    false, false)) ∨ (c = .tripRev p j ∧ s.dev.gates p.val = 2 ∧ s.dev.effIrev p.val * 100 < s.dev.reverse p.val j ∧
    (code, hard, lock) = (7, false, false)) ∨ (c = .tripOt p t ∧ s.dev.get (F.GRD_STAT_VALID p.val) = 1 ∧
    (s.dev.effTtrip p.val : Int) ≤ t ∧ (code, hard, lock) = (8, false, false)) ∨ (c = .tripNtc p t ∧ s.dev.get
    (F.GRD_STAT_VALID p.val) = 1 ∧ (t < -50 ∨ 180 < t) ∧ (code, hard, lock) = (9, false, true)) ∨ (c = .tripUv p vbs ∧
    s.dev.isSrc p.val = true ∧ s.dev.get (F.GRD_CTRL_UVEN p.val) = 1 ∧ s.dev.gates p.val = 2 ∧ s.dev.get (H.xferOn
    p.val) = 0 ∧ vbs < s.dev.vLevel p.val * 8 ∧ (code, hard, lock) = (10, false, false)) ∨ (c = .tripPath p ∧ 2 ≤
    s.dev.get (H.pathOver p.val) ∧ s.dev.get (F.GRD_CTRL_PATHEN p.val) = 1 ∧ s.dev.gates p.val = 2 ∧ (code, hard, lock)
    = (11, false, true)))) ∧
    (∃ (s : State) (p : Fin 24) (i : Nat) (vpair : Nat) (vbs : Nat) (j : Int) (t : Int) (c : Instr) (code : Nat) (hard
    : Bool) (lock : Bool), (s.dev.gates p.val = 1 ∨ s.dev.gates p.val = 2) ∧ s.dev.get H.rstHeld < 2 ∧ ((c = .tripFast
    p i ∧ s.dev.effIfast p.val * 500 < i ∧ (code, hard, lock) = (1, true, false)) ∨ (c = .tripGate p ∧ s.dev.gates
    p.val = 2 ∧ (code, hard, lock) = (2, true, true)) ∨ (c = .tripSoa p true vpair i ∧ s.dev.gates p.val = 1 ∧
    s.dev.get (T.tsoa p.val) ≠ 0 ∧ (code, hard, lock) = (3, true, false)) ∨ (c = .tripSoa p false vpair i ∧ s.dev.gates
    p.val = 1 ∧ s.dev.get (F.GRD_GZI_PSOA p.val) * 5000000 < vpair * i ∧ (code, hard, lock) = (3, true, false)) ∨ (c =
    .tripOv p vbs ∧ s.dev.ovLimit p.val < vbs ∧ (code, hard, lock) = (5, false, false)) ∨ (c = .tripI2t p ∧ s.dev.get
    (F.GRD_STAT_VALID p.val) = 1 ∧ s.dev.effI2t p.val * i2tUnit < s.dev.get (H.grdQ p.val) ∧ (code, hard, lock) = (6,
    false, false)) ∨ (c = .tripRev p j ∧ s.dev.gates p.val = 2 ∧ s.dev.effIrev p.val * 100 < s.dev.reverse p.val j ∧
    (code, hard, lock) = (7, false, false)) ∨ (c = .tripOt p t ∧ s.dev.get (F.GRD_STAT_VALID p.val) = 1 ∧
    (s.dev.effTtrip p.val : Int) ≤ t ∧ (code, hard, lock) = (8, false, false)) ∨ (c = .tripNtc p t ∧ s.dev.get
    (F.GRD_STAT_VALID p.val) = 1 ∧ (t < -50 ∨ 180 < t) ∧ (code, hard, lock) = (9, false, true)) ∨ (c = .tripUv p vbs ∧
    s.dev.isSrc p.val = true ∧ s.dev.get (F.GRD_CTRL_UVEN p.val) = 1 ∧ s.dev.gates p.val = 2 ∧ s.dev.get (H.xferOn
    p.val) = 0 ∧ vbs < s.dev.vLevel p.val * 8 ∧ (code, hard, lock) = (10, false, false)) ∨ (c = .tripPath p ∧ 2 ≤
    s.dev.get (H.pathOver p.val) ∧ s.dev.get (F.GRD_CTRL_PATHEN p.val) = 1 ∧ s.dev.gates p.val = 2 ∧ (code, hard, lock)
    = (11, false, true)))) ∧
    (∃ (s : State) (p : Fin 24) (i : Nat) (vpair : Nat) (vbs : Nat) (j : Int) (t : Int) (c : Instr) (code : Nat) (hard
    : Bool) (lock : Bool), (s.dev.gates p.val = 1 ∨ s.dev.gates p.val = 2) ∧ s.dev.get H.rstHeld < 2 ∧ ((c = .tripFast
    p i ∧ s.dev.effIfast p.val * 500 < i ∧ (code, hard, lock) = (1, true, false)) ∨ (c = .tripGate p ∧ s.dev.gates
    p.val = 2 ∧ (code, hard, lock) = (2, true, true)) ∨ (c = .tripSoa p true vpair i ∧ s.dev.gates p.val = 1 ∧
    s.dev.get (T.tsoa p.val) ≠ 0 ∧ (code, hard, lock) = (3, true, false)) ∨ (c = .tripSoa p false vpair i ∧ s.dev.gates
    p.val = 1 ∧ s.dev.get (F.GRD_GZI_PSOA p.val) * 5000000 < vpair * i ∧ (code, hard, lock) = (3, true, false)) ∨ (c =
    .tripOv p vbs ∧ s.dev.ovLimit p.val < vbs ∧ (code, hard, lock) = (5, false, false)) ∨ (c = .tripI2t p ∧ s.dev.get
    (F.GRD_STAT_VALID p.val) = 1 ∧ s.dev.effI2t p.val * i2tUnit < s.dev.get (H.grdQ p.val) ∧ (code, hard, lock) = (6,
    false, false)) ∨ (c = .tripRev p j ∧ s.dev.gates p.val = 2 ∧ s.dev.effIrev p.val * 100 < s.dev.reverse p.val j ∧
    (code, hard, lock) = (7, false, false)) ∨ (c = .tripOt p t ∧ s.dev.get (F.GRD_STAT_VALID p.val) = 1 ∧
    (s.dev.effTtrip p.val : Int) ≤ t ∧ (code, hard, lock) = (8, false, false)) ∨ (c = .tripNtc p t ∧ s.dev.get
    (F.GRD_STAT_VALID p.val) = 1 ∧ (t < -50 ∨ 180 < t) ∧ (code, hard, lock) = (9, false, true)) ∨ (c = .tripUv p vbs ∧
    s.dev.isSrc p.val = true ∧ s.dev.get (F.GRD_CTRL_UVEN p.val) = 1 ∧ s.dev.gates p.val = 2 ∧ s.dev.get (H.xferOn
    p.val) = 0 ∧ vbs < s.dev.vLevel p.val * 8 ∧ (code, hard, lock) = (10, false, false)) ∨ (c = .tripPath p ∧ 2 ≤
    s.dev.get (H.pathOver p.val) ∧ s.dev.get (F.GRD_CTRL_PATHEN p.val) = 1 ∧ s.dev.gates p.val = 2 ∧ (code, hard, lock)
    = (11, false, true)))) ∧
    (∃ (s : State) (p : Fin 24) (i : Nat) (vpair : Nat) (vbs : Nat) (j : Int) (t : Int) (c : Instr) (code : Nat) (hard
    : Bool) (lock : Bool), (s.dev.gates p.val = 1 ∨ s.dev.gates p.val = 2) ∧ s.dev.get H.rstHeld < 2 ∧ ((c = .tripFast
    p i ∧ s.dev.effIfast p.val * 500 < i ∧ (code, hard, lock) = (1, true, false)) ∨ (c = .tripGate p ∧ s.dev.gates
    p.val = 2 ∧ (code, hard, lock) = (2, true, true)) ∨ (c = .tripSoa p true vpair i ∧ s.dev.gates p.val = 1 ∧
    s.dev.get (T.tsoa p.val) ≠ 0 ∧ (code, hard, lock) = (3, true, false)) ∨ (c = .tripSoa p false vpair i ∧ s.dev.gates
    p.val = 1 ∧ s.dev.get (F.GRD_GZI_PSOA p.val) * 5000000 < vpair * i ∧ (code, hard, lock) = (3, true, false)) ∨ (c =
    .tripOv p vbs ∧ s.dev.ovLimit p.val < vbs ∧ (code, hard, lock) = (5, false, false)) ∨ (c = .tripI2t p ∧ s.dev.get
    (F.GRD_STAT_VALID p.val) = 1 ∧ s.dev.effI2t p.val * i2tUnit < s.dev.get (H.grdQ p.val) ∧ (code, hard, lock) = (6,
    false, false)) ∨ (c = .tripRev p j ∧ s.dev.gates p.val = 2 ∧ s.dev.effIrev p.val * 100 < s.dev.reverse p.val j ∧
    (code, hard, lock) = (7, false, false)) ∨ (c = .tripOt p t ∧ s.dev.get (F.GRD_STAT_VALID p.val) = 1 ∧
    (s.dev.effTtrip p.val : Int) ≤ t ∧ (code, hard, lock) = (8, false, false)) ∨ (c = .tripNtc p t ∧ s.dev.get
    (F.GRD_STAT_VALID p.val) = 1 ∧ (t < -50 ∨ 180 < t) ∧ (code, hard, lock) = (9, false, true)) ∨ (c = .tripUv p vbs ∧
    s.dev.isSrc p.val = true ∧ s.dev.get (F.GRD_CTRL_UVEN p.val) = 1 ∧ s.dev.gates p.val = 2 ∧ s.dev.get (H.xferOn
    p.val) = 0 ∧ vbs < s.dev.vLevel p.val * 8 ∧ (code, hard, lock) = (10, false, false)) ∨ (c = .tripPath p ∧ 2 ≤
    s.dev.get (H.pathOver p.val) ∧ s.dev.get (F.GRD_CTRL_PATHEN p.val) = 1 ∧ s.dev.gates p.val = 2 ∧ (code, hard, lock)
    = (11, false, true)))) ∧
    (∃ (s : State) (p : Fin 24) (i : Nat) (vpair : Nat) (vbs : Nat) (j : Int) (t : Int) (c : Instr) (code : Nat) (hard
    : Bool) (lock : Bool), (s.dev.gates p.val = 1 ∨ s.dev.gates p.val = 2) ∧ s.dev.get H.rstHeld < 2 ∧ ((c = .tripFast
    p i ∧ s.dev.effIfast p.val * 500 < i ∧ (code, hard, lock) = (1, true, false)) ∨ (c = .tripGate p ∧ s.dev.gates
    p.val = 2 ∧ (code, hard, lock) = (2, true, true)) ∨ (c = .tripSoa p true vpair i ∧ s.dev.gates p.val = 1 ∧
    s.dev.get (T.tsoa p.val) ≠ 0 ∧ (code, hard, lock) = (3, true, false)) ∨ (c = .tripSoa p false vpair i ∧ s.dev.gates
    p.val = 1 ∧ s.dev.get (F.GRD_GZI_PSOA p.val) * 5000000 < vpair * i ∧ (code, hard, lock) = (3, true, false)) ∨ (c =
    .tripOv p vbs ∧ s.dev.ovLimit p.val < vbs ∧ (code, hard, lock) = (5, false, false)) ∨ (c = .tripI2t p ∧ s.dev.get
    (F.GRD_STAT_VALID p.val) = 1 ∧ s.dev.effI2t p.val * i2tUnit < s.dev.get (H.grdQ p.val) ∧ (code, hard, lock) = (6,
    false, false)) ∨ (c = .tripRev p j ∧ s.dev.gates p.val = 2 ∧ s.dev.effIrev p.val * 100 < s.dev.reverse p.val j ∧
    (code, hard, lock) = (7, false, false)) ∨ (c = .tripOt p t ∧ s.dev.get (F.GRD_STAT_VALID p.val) = 1 ∧
    (s.dev.effTtrip p.val : Int) ≤ t ∧ (code, hard, lock) = (8, false, false)) ∨ (c = .tripNtc p t ∧ s.dev.get
    (F.GRD_STAT_VALID p.val) = 1 ∧ (t < -50 ∨ 180 < t) ∧ (code, hard, lock) = (9, false, true)) ∨ (c = .tripUv p vbs ∧
    s.dev.isSrc p.val = true ∧ s.dev.get (F.GRD_CTRL_UVEN p.val) = 1 ∧ s.dev.gates p.val = 2 ∧ s.dev.get (H.xferOn
    p.val) = 0 ∧ vbs < s.dev.vLevel p.val * 8 ∧ (code, hard, lock) = (10, false, false)) ∨ (c = .tripPath p ∧ 2 ≤
    s.dev.get (H.pathOver p.val) ∧ s.dev.get (F.GRD_CTRL_PATHEN p.val) = 1 ∧ s.dev.gates p.val = 2 ∧ (code, hard, lock)
    = (11, false, true)))) ∧
    (∃ (s : State) (p : Fin 24) (i : Nat) (vpair : Nat) (vbs : Nat) (j : Int) (t : Int) (c : Instr) (code : Nat) (hard
    : Bool) (lock : Bool), (s.dev.gates p.val = 1 ∨ s.dev.gates p.val = 2) ∧ s.dev.get H.rstHeld < 2 ∧ ((c = .tripFast
    p i ∧ s.dev.effIfast p.val * 500 < i ∧ (code, hard, lock) = (1, true, false)) ∨ (c = .tripGate p ∧ s.dev.gates
    p.val = 2 ∧ (code, hard, lock) = (2, true, true)) ∨ (c = .tripSoa p true vpair i ∧ s.dev.gates p.val = 1 ∧
    s.dev.get (T.tsoa p.val) ≠ 0 ∧ (code, hard, lock) = (3, true, false)) ∨ (c = .tripSoa p false vpair i ∧ s.dev.gates
    p.val = 1 ∧ s.dev.get (F.GRD_GZI_PSOA p.val) * 5000000 < vpair * i ∧ (code, hard, lock) = (3, true, false)) ∨ (c =
    .tripOv p vbs ∧ s.dev.ovLimit p.val < vbs ∧ (code, hard, lock) = (5, false, false)) ∨ (c = .tripI2t p ∧ s.dev.get
    (F.GRD_STAT_VALID p.val) = 1 ∧ s.dev.effI2t p.val * i2tUnit < s.dev.get (H.grdQ p.val) ∧ (code, hard, lock) = (6,
    false, false)) ∨ (c = .tripRev p j ∧ s.dev.gates p.val = 2 ∧ s.dev.effIrev p.val * 100 < s.dev.reverse p.val j ∧
    (code, hard, lock) = (7, false, false)) ∨ (c = .tripOt p t ∧ s.dev.get (F.GRD_STAT_VALID p.val) = 1 ∧
    (s.dev.effTtrip p.val : Int) ≤ t ∧ (code, hard, lock) = (8, false, false)) ∨ (c = .tripNtc p t ∧ s.dev.get
    (F.GRD_STAT_VALID p.val) = 1 ∧ (t < -50 ∨ 180 < t) ∧ (code, hard, lock) = (9, false, true)) ∨ (c = .tripUv p vbs ∧
    s.dev.isSrc p.val = true ∧ s.dev.get (F.GRD_CTRL_UVEN p.val) = 1 ∧ s.dev.gates p.val = 2 ∧ s.dev.get (H.xferOn
    p.val) = 0 ∧ vbs < s.dev.vLevel p.val * 8 ∧ (code, hard, lock) = (10, false, false)) ∨ (c = .tripPath p ∧ 2 ≤
    s.dev.get (H.pathOver p.val) ∧ s.dev.get (F.GRD_CTRL_PATHEN p.val) = 1 ∧ s.dev.gates p.val = 2 ∧ (code, hard, lock)
    = (11, false, true)))) ∧
    (∃ (s : State) (p : Fin 24) (i : Nat) (vpair : Nat) (vbs : Nat) (j : Int) (t : Int) (c : Instr) (code : Nat) (hard
    : Bool) (lock : Bool), (s.dev.gates p.val = 1 ∨ s.dev.gates p.val = 2) ∧ s.dev.get H.rstHeld < 2 ∧ ((c = .tripFast
    p i ∧ s.dev.effIfast p.val * 500 < i ∧ (code, hard, lock) = (1, true, false)) ∨ (c = .tripGate p ∧ s.dev.gates
    p.val = 2 ∧ (code, hard, lock) = (2, true, true)) ∨ (c = .tripSoa p true vpair i ∧ s.dev.gates p.val = 1 ∧
    s.dev.get (T.tsoa p.val) ≠ 0 ∧ (code, hard, lock) = (3, true, false)) ∨ (c = .tripSoa p false vpair i ∧ s.dev.gates
    p.val = 1 ∧ s.dev.get (F.GRD_GZI_PSOA p.val) * 5000000 < vpair * i ∧ (code, hard, lock) = (3, true, false)) ∨ (c =
    .tripOv p vbs ∧ s.dev.ovLimit p.val < vbs ∧ (code, hard, lock) = (5, false, false)) ∨ (c = .tripI2t p ∧ s.dev.get
    (F.GRD_STAT_VALID p.val) = 1 ∧ s.dev.effI2t p.val * i2tUnit < s.dev.get (H.grdQ p.val) ∧ (code, hard, lock) = (6,
    false, false)) ∨ (c = .tripRev p j ∧ s.dev.gates p.val = 2 ∧ s.dev.effIrev p.val * 100 < s.dev.reverse p.val j ∧
    (code, hard, lock) = (7, false, false)) ∨ (c = .tripOt p t ∧ s.dev.get (F.GRD_STAT_VALID p.val) = 1 ∧
    (s.dev.effTtrip p.val : Int) ≤ t ∧ (code, hard, lock) = (8, false, false)) ∨ (c = .tripNtc p t ∧ s.dev.get
    (F.GRD_STAT_VALID p.val) = 1 ∧ (t < -50 ∨ 180 < t) ∧ (code, hard, lock) = (9, false, true)) ∨ (c = .tripUv p vbs ∧
    s.dev.isSrc p.val = true ∧ s.dev.get (F.GRD_CTRL_UVEN p.val) = 1 ∧ s.dev.gates p.val = 2 ∧ s.dev.get (H.xferOn
    p.val) = 0 ∧ vbs < s.dev.vLevel p.val * 8 ∧ (code, hard, lock) = (10, false, false)) ∨ (c = .tripPath p ∧ 2 ≤
    s.dev.get (H.pathOver p.val) ∧ s.dev.get (F.GRD_CTRL_PATHEN p.val) = 1 ∧ s.dev.gates p.val = 2 ∧ (code, hard, lock)
    = (11, false, true)))) ∧
    (∃ (s : State) (p : Fin 24) (i : Nat) (vpair : Nat) (vbs : Nat) (j : Int) (t : Int) (c : Instr) (code : Nat) (hard
    : Bool) (lock : Bool), (s.dev.gates p.val = 1 ∨ s.dev.gates p.val = 2) ∧ s.dev.get H.rstHeld < 2 ∧ ((c = .tripFast
    p i ∧ s.dev.effIfast p.val * 500 < i ∧ (code, hard, lock) = (1, true, false)) ∨ (c = .tripGate p ∧ s.dev.gates
    p.val = 2 ∧ (code, hard, lock) = (2, true, true)) ∨ (c = .tripSoa p true vpair i ∧ s.dev.gates p.val = 1 ∧
    s.dev.get (T.tsoa p.val) ≠ 0 ∧ (code, hard, lock) = (3, true, false)) ∨ (c = .tripSoa p false vpair i ∧ s.dev.gates
    p.val = 1 ∧ s.dev.get (F.GRD_GZI_PSOA p.val) * 5000000 < vpair * i ∧ (code, hard, lock) = (3, true, false)) ∨ (c =
    .tripOv p vbs ∧ s.dev.ovLimit p.val < vbs ∧ (code, hard, lock) = (5, false, false)) ∨ (c = .tripI2t p ∧ s.dev.get
    (F.GRD_STAT_VALID p.val) = 1 ∧ s.dev.effI2t p.val * i2tUnit < s.dev.get (H.grdQ p.val) ∧ (code, hard, lock) = (6,
    false, false)) ∨ (c = .tripRev p j ∧ s.dev.gates p.val = 2 ∧ s.dev.effIrev p.val * 100 < s.dev.reverse p.val j ∧
    (code, hard, lock) = (7, false, false)) ∨ (c = .tripOt p t ∧ s.dev.get (F.GRD_STAT_VALID p.val) = 1 ∧
    (s.dev.effTtrip p.val : Int) ≤ t ∧ (code, hard, lock) = (8, false, false)) ∨ (c = .tripNtc p t ∧ s.dev.get
    (F.GRD_STAT_VALID p.val) = 1 ∧ (t < -50 ∨ 180 < t) ∧ (code, hard, lock) = (9, false, true)) ∨ (c = .tripUv p vbs ∧
    s.dev.isSrc p.val = true ∧ s.dev.get (F.GRD_CTRL_UVEN p.val) = 1 ∧ s.dev.gates p.val = 2 ∧ s.dev.get (H.xferOn
    p.val) = 0 ∧ vbs < s.dev.vLevel p.val * 8 ∧ (code, hard, lock) = (10, false, false)) ∨ (c = .tripPath p ∧ 2 ≤
    s.dev.get (H.pathOver p.val) ∧ s.dev.get (F.GRD_CTRL_PATHEN p.val) = 1 ∧ s.dev.gates p.val = 2 ∧ (code, hard, lock)
    = (11, false, true)))) :=
  ⟨⟨st [(F.GRD_STAT_GATES 3, 2)], 3, 1, 0, 0, 0, 0, .tripFast 3 1, 1, true, false, by decide, by decide, Or.inl (by
    decide)⟩,
   ⟨st [(F.GRD_STAT_GATES 3, 2)], 3, 0, 0, 0, 0, 0, .tripGate 3, 2, true, true, by decide, by decide, Or.inr (Or.inl
    (by decide))⟩,
   ⟨st [(F.GRD_STAT_GATES 3, 1), (T.tsoa 3, 1001)], 3, 0, 0, 0, 0, 0, .tripSoa 3 true 0 0, 3, true, false, by decide,
    by decide, Or.inr (Or.inr (Or.inl (by decide)))⟩,
   ⟨st [(F.GRD_STAT_GATES 3, 1), (F.GRD_GZI_PSOA 3, 1)], 3, 1, 5000001, 0, 0, 0, .tripSoa 3 false 5000001 1, 3, true,
    false, by decide, by decide, Or.inr (Or.inr (Or.inr (Or.inl (by decide))))⟩,
   ⟨st [(F.GRD_STAT_GATES 3, 2)], 3, 0, 0, 63001, 0, 0, .tripOv 3 63001, 5, false, false, by decide, by decide, Or.inr
    (Or.inr (Or.inr (Or.inr (Or.inl (by decide)))))⟩,
   ⟨st [(F.GRD_STAT_GATES 3, 2), (F.GRD_STAT_VALID 3, 1), (H.grdQ 3, 1)], 3, 0, 0, 0, 0, 0, .tripI2t 3, 6, false,
    false, by decide, by decide, Or.inr (Or.inr (Or.inr (Or.inr (Or.inr (Or.inl (by decide))))))⟩,
   ⟨st [(F.GRD_STAT_GATES 3, 2)], 3, 0, 0, 0, -1, 0, .tripRev 3 (-1), 7, false, false, by decide, by decide, Or.inr
    (Or.inr (Or.inr (Or.inr (Or.inr (Or.inr (Or.inl (by decide)))))))⟩,
   ⟨st [(F.GRD_STAT_GATES 3, 2), (F.GRD_STAT_VALID 3, 1)], 3, 0, 0, 0, 0, 0, .tripOt 3 0, 8, false, false, by decide,
    by decide, Or.inr (Or.inr (Or.inr (Or.inr (Or.inr (Or.inr (Or.inr (Or.inl (by decide))))))))⟩⟩

theorem witness_GuardTripsStopThePort_2 :
    (∃ (s : State) (p : Fin 24) (i : Nat) (vpair : Nat) (vbs : Nat) (j : Int) (t : Int) (c : Instr) (code : Nat) (hard
    : Bool) (lock : Bool), (s.dev.gates p.val = 1 ∨ s.dev.gates p.val = 2) ∧ s.dev.get H.rstHeld < 2 ∧ ((c = .tripFast
    p i ∧ s.dev.effIfast p.val * 500 < i ∧ (code, hard, lock) = (1, true, false)) ∨ (c = .tripGate p ∧ s.dev.gates
    p.val = 2 ∧ (code, hard, lock) = (2, true, true)) ∨ (c = .tripSoa p true vpair i ∧ s.dev.gates p.val = 1 ∧
    s.dev.get (T.tsoa p.val) ≠ 0 ∧ (code, hard, lock) = (3, true, false)) ∨ (c = .tripSoa p false vpair i ∧ s.dev.gates
    p.val = 1 ∧ s.dev.get (F.GRD_GZI_PSOA p.val) * 5000000 < vpair * i ∧ (code, hard, lock) = (3, true, false)) ∨ (c =
    .tripOv p vbs ∧ s.dev.ovLimit p.val < vbs ∧ (code, hard, lock) = (5, false, false)) ∨ (c = .tripI2t p ∧ s.dev.get
    (F.GRD_STAT_VALID p.val) = 1 ∧ s.dev.effI2t p.val * i2tUnit < s.dev.get (H.grdQ p.val) ∧ (code, hard, lock) = (6,
    false, false)) ∨ (c = .tripRev p j ∧ s.dev.gates p.val = 2 ∧ s.dev.effIrev p.val * 100 < s.dev.reverse p.val j ∧
    (code, hard, lock) = (7, false, false)) ∨ (c = .tripOt p t ∧ s.dev.get (F.GRD_STAT_VALID p.val) = 1 ∧
    (s.dev.effTtrip p.val : Int) ≤ t ∧ (code, hard, lock) = (8, false, false)) ∨ (c = .tripNtc p t ∧ s.dev.get
    (F.GRD_STAT_VALID p.val) = 1 ∧ (t < -50 ∨ 180 < t) ∧ (code, hard, lock) = (9, false, true)) ∨ (c = .tripUv p vbs ∧
    s.dev.isSrc p.val = true ∧ s.dev.get (F.GRD_CTRL_UVEN p.val) = 1 ∧ s.dev.gates p.val = 2 ∧ s.dev.get (H.xferOn
    p.val) = 0 ∧ vbs < s.dev.vLevel p.val * 8 ∧ (code, hard, lock) = (10, false, false)) ∨ (c = .tripPath p ∧ 2 ≤
    s.dev.get (H.pathOver p.val) ∧ s.dev.get (F.GRD_CTRL_PATHEN p.val) = 1 ∧ s.dev.gates p.val = 2 ∧ (code, hard, lock)
    = (11, false, true)))) ∧
    (∃ (s : State) (p : Fin 24) (i : Nat) (vpair : Nat) (vbs : Nat) (j : Int) (t : Int) (c : Instr) (code : Nat) (hard
    : Bool) (lock : Bool), (s.dev.gates p.val = 1 ∨ s.dev.gates p.val = 2) ∧ s.dev.get H.rstHeld < 2 ∧ ((c = .tripFast
    p i ∧ s.dev.effIfast p.val * 500 < i ∧ (code, hard, lock) = (1, true, false)) ∨ (c = .tripGate p ∧ s.dev.gates
    p.val = 2 ∧ (code, hard, lock) = (2, true, true)) ∨ (c = .tripSoa p true vpair i ∧ s.dev.gates p.val = 1 ∧
    s.dev.get (T.tsoa p.val) ≠ 0 ∧ (code, hard, lock) = (3, true, false)) ∨ (c = .tripSoa p false vpair i ∧ s.dev.gates
    p.val = 1 ∧ s.dev.get (F.GRD_GZI_PSOA p.val) * 5000000 < vpair * i ∧ (code, hard, lock) = (3, true, false)) ∨ (c =
    .tripOv p vbs ∧ s.dev.ovLimit p.val < vbs ∧ (code, hard, lock) = (5, false, false)) ∨ (c = .tripI2t p ∧ s.dev.get
    (F.GRD_STAT_VALID p.val) = 1 ∧ s.dev.effI2t p.val * i2tUnit < s.dev.get (H.grdQ p.val) ∧ (code, hard, lock) = (6,
    false, false)) ∨ (c = .tripRev p j ∧ s.dev.gates p.val = 2 ∧ s.dev.effIrev p.val * 100 < s.dev.reverse p.val j ∧
    (code, hard, lock) = (7, false, false)) ∨ (c = .tripOt p t ∧ s.dev.get (F.GRD_STAT_VALID p.val) = 1 ∧
    (s.dev.effTtrip p.val : Int) ≤ t ∧ (code, hard, lock) = (8, false, false)) ∨ (c = .tripNtc p t ∧ s.dev.get
    (F.GRD_STAT_VALID p.val) = 1 ∧ (t < -50 ∨ 180 < t) ∧ (code, hard, lock) = (9, false, true)) ∨ (c = .tripUv p vbs ∧
    s.dev.isSrc p.val = true ∧ s.dev.get (F.GRD_CTRL_UVEN p.val) = 1 ∧ s.dev.gates p.val = 2 ∧ s.dev.get (H.xferOn
    p.val) = 0 ∧ vbs < s.dev.vLevel p.val * 8 ∧ (code, hard, lock) = (10, false, false)) ∨ (c = .tripPath p ∧ 2 ≤
    s.dev.get (H.pathOver p.val) ∧ s.dev.get (F.GRD_CTRL_PATHEN p.val) = 1 ∧ s.dev.gates p.val = 2 ∧ (code, hard, lock)
    = (11, false, true)))) ∧
    (∃ (s : State) (p : Fin 24) (i : Nat) (vpair : Nat) (vbs : Nat) (j : Int) (t : Int) (c : Instr) (code : Nat) (hard
    : Bool) (lock : Bool), (s.dev.gates p.val = 1 ∨ s.dev.gates p.val = 2) ∧ s.dev.get H.rstHeld < 2 ∧ ((c = .tripFast
    p i ∧ s.dev.effIfast p.val * 500 < i ∧ (code, hard, lock) = (1, true, false)) ∨ (c = .tripGate p ∧ s.dev.gates
    p.val = 2 ∧ (code, hard, lock) = (2, true, true)) ∨ (c = .tripSoa p true vpair i ∧ s.dev.gates p.val = 1 ∧
    s.dev.get (T.tsoa p.val) ≠ 0 ∧ (code, hard, lock) = (3, true, false)) ∨ (c = .tripSoa p false vpair i ∧ s.dev.gates
    p.val = 1 ∧ s.dev.get (F.GRD_GZI_PSOA p.val) * 5000000 < vpair * i ∧ (code, hard, lock) = (3, true, false)) ∨ (c =
    .tripOv p vbs ∧ s.dev.ovLimit p.val < vbs ∧ (code, hard, lock) = (5, false, false)) ∨ (c = .tripI2t p ∧ s.dev.get
    (F.GRD_STAT_VALID p.val) = 1 ∧ s.dev.effI2t p.val * i2tUnit < s.dev.get (H.grdQ p.val) ∧ (code, hard, lock) = (6,
    false, false)) ∨ (c = .tripRev p j ∧ s.dev.gates p.val = 2 ∧ s.dev.effIrev p.val * 100 < s.dev.reverse p.val j ∧
    (code, hard, lock) = (7, false, false)) ∨ (c = .tripOt p t ∧ s.dev.get (F.GRD_STAT_VALID p.val) = 1 ∧
    (s.dev.effTtrip p.val : Int) ≤ t ∧ (code, hard, lock) = (8, false, false)) ∨ (c = .tripNtc p t ∧ s.dev.get
    (F.GRD_STAT_VALID p.val) = 1 ∧ (t < -50 ∨ 180 < t) ∧ (code, hard, lock) = (9, false, true)) ∨ (c = .tripUv p vbs ∧
    s.dev.isSrc p.val = true ∧ s.dev.get (F.GRD_CTRL_UVEN p.val) = 1 ∧ s.dev.gates p.val = 2 ∧ s.dev.get (H.xferOn
    p.val) = 0 ∧ vbs < s.dev.vLevel p.val * 8 ∧ (code, hard, lock) = (10, false, false)) ∨ (c = .tripPath p ∧ 2 ≤
    s.dev.get (H.pathOver p.val) ∧ s.dev.get (F.GRD_CTRL_PATHEN p.val) = 1 ∧ s.dev.gates p.val = 2 ∧ (code, hard, lock)
    = (11, false, true)))) ∧
    (∃ (s : State) (p : Fin 24) (i : Nat), s.dev.gates p.val = 0 ∧ s.dev.get H.rstHeld < 2 ∧ s.dev.get
    (F.GRD_STAT_VALID p.val) = 1 ∧ 500 < i) ∧
    (∃ (s : State) (p : Fin 24) (i : Nat), s.dev.get H.rstHeld = 2 ∧ (s.dev.get (H.padGates p.val) = 1 ∨ s.dev.get
    (H.padGates p.val) = 2) ∧ s.dev.get (H.effEver p.val) = 1 ∧ s.dev.effIfast p.val * 500 < i) :=
  ⟨⟨st [(F.GRD_STAT_GATES 3, 2), (F.GRD_STAT_VALID 3, 1)], 3, 0, 0, 0, 0, 181, .tripNtc 3 181, 9, false, true, by
    decide, by decide, Or.inr (Or.inr (Or.inr (Or.inr (Or.inr (Or.inr (Or.inr (Or.inr (Or.inl (by decide)))))))))⟩,
   ⟨st [(F.PRT_ATT_STAT_STATE 3, 8), (F.GRD_STAT_GATES 3, 2), (F.GRD_CTRL_UVEN 3, 1), (H.vnow 3, 500)], 3, 0, 0, 3999,
    0, 0, .tripUv 3 3999, 10, false, false, by decide, by decide, Or.inr (Or.inr (Or.inr (Or.inr (Or.inr (Or.inr
    (Or.inr (Or.inr (Or.inr (Or.inl (by decide))))))))))⟩,
   ⟨st [(F.GRD_STAT_GATES 3, 2), (H.pathOver 3, 2), (F.GRD_CTRL_PATHEN 3, 1)], 3, 0, 0, 0, 0, 0, .tripPath 3, 11,
    false, true, by decide, by decide, Or.inr (Or.inr (Or.inr (Or.inr (Or.inr (Or.inr (Or.inr (Or.inr (Or.inr (Or.inr
    (by decide))))))))))⟩,
   ⟨st [(F.GRD_STAT_GATES 3, 0), (F.GRD_STAT_VALID 3, 1)], 3, 501, by decide, by decide, by decide, by decide⟩,
   ⟨st [(H.rstHeld, 2), (H.effEver 3, 1), (H.padGates 3, 1)], 3, 100000000, by decide, by decide, by decide, by
    decide⟩⟩

theorem witness_GuardCommandsComplete_1 :
    (∃ (s : State) (p : Fin 24), s.dev.get (F.GRD_STAT_PEND p.val) = 1 ∧ s.dev.gates p.val = 0 ∧ s.dev.turnOnOk p.val =
    true) ∧
    (∃ (s : State) (p : Fin 24), s.dev.gates p.val = 1 ∧ s.dev.isSnk p.val = true ∧ s.dev.explicit p.val = false ∧
    s.dev.hpmCon p.val = false ∧ s.dev.get (H.swAcc p.val) = 0) ∧
    (∃ (s : State) (p : Fin 24) (vbs : Nat), s.dev.gates p.val = 1 ∧ s.dev.isSrc p.val = true ∧ s.dev.get (H.vsafe5
    p.val) = 0 ∧ 4750 ≤ vbs ∧ vbs ≤ 5500) ∧
    (∃ (s : State) (p : Fin 24) (vbs : Nat), s.dev.gates p.val = 1 ∧ s.dev.isSrc p.val = true ∧ s.dev.get (H.vsafe5
    p.val) = 0 ∧ 4750 ≤ vbs ∧ vbs ≤ 5500) ∧
    (∃ (s : State) (p : Fin 24), s.calm p.val = true ∧ s.dev.gates p.val = 3 ∧ s.dev.get (H.swAcc p.val) = 0 ∧
    s.dev.get (F.PRT_ATT_STAT_VBS0 p.val) = 0) ∧
    (∃ (s : State) (p : Fin 24), s.calm p.val = true ∧ s.dev.gates p.val = 3 ∧ s.dev.get (H.swAcc p.val) = 0 ∧
    s.dev.get (F.PRT_ATT_STAT_VBS0 p.val) = 1 ∧ s.dev.get (H.detaching p.val) = 1 ∧ s.dev.get (H.hrPhase p.val) = 0) ∧
    (∃ (s : State) (p : Fin 24) (t : Int), s.dev.get (F.GRD_STAT_VALID p.val) = 1 ∧ (s.dev.effTtrip p.val : Int) - 10 ≤
    t ∧ s.dev.get (F.GRD_STAT_WARNNOW p.val) = 0) ∧
    (∃ (s : State) (p : Fin 24) (t : Int), s.dev.get H.rstHeld ≠ 2 ∧ t < (s.dev.effTtrip p.val : Int) - 15) :=
  ⟨⟨st [(F.GRD_STAT_PEND 3, 1), (F.GRD_STAT_GATES 3, 0), (F.GRD_STAT_VALID 3, 1), (F.GRD_GZI_IINR 3, 1),
    (F.GRD_GZI_RBASE 3, 1), (F.GRD_GZI_RMAX 3, 1), (F.GRD_GZI_PSOA 3, 1), (F.GRD_GZI_TSOA 3, 1)], 3, by decide, by
    decide, by decide⟩,
   ⟨st [(F.GRD_STAT_GATES 3, 1), (F.PRT_ATT_STAT_STATE 3, 3), (H.swAcc 3, 0)], 3, by decide, by decide, by decide, by
    decide, by decide⟩,
   ⟨st [(F.GRD_STAT_GATES 3, 1), (F.PRT_ATT_STAT_STATE 3, 8), (H.vsafe5 3, 0)], 3, 4750, by decide, by decide, by
    decide, by decide, by decide⟩,
   ⟨st [(F.GRD_STAT_GATES 3, 1), (F.PRT_ATT_STAT_STATE 3, 8), (H.vsafe5 3, 0)], 3, 5500, by decide, by decide, by
    decide, by decide, by decide⟩,
   ⟨st [(F.GRD_STAT_GATES 3, 3), (H.swAcc 3, 0), (F.PRT_ATT_STAT_VBS0 3, 0)], 3, by decide, by decide, by decide, by
    decide⟩,
   ⟨st [(F.GRD_STAT_GATES 3, 3), (H.swAcc 3, 0), (F.PRT_ATT_STAT_VBS0 3, 1), (H.detaching 3, 1), (H.hrPhase 3, 0)], 3,
    by decide, by decide, by decide, by decide, by decide, by decide⟩,
   ⟨st [(F.GRD_STAT_VALID 3, 1), (F.GRD_STAT_WARNNOW 3, 0)], 3, 0, by decide, by decide, by decide⟩,
   ⟨st [], 3, -16, by decide, by decide⟩⟩

theorem witness_GuardCommandsComplete_2 :
    (∃ (s : State) (p : Fin 24) (i : Int) (q : Nat), s.dev.get H.rstHeld < 2 ∧ q = (if s.dev.get (F.GRD_STAT_VALID
    p.val) = 1 then s.dev.get (H.grdQ p.val) + i.natAbs * i.natAbs - (s.dev.effIlim p.val * 50) * (s.dev.effIlim p.val
    * 50) else 0)) ∧
    (∃ (s : State), s.dev.setNow = []) ∧
    (∃ (s : State) (p : Fin 24) (k : Fin 2) (v : Word) (lay : List (Nat × Nat)) (f : Fld), lay = (if k.val = 0 then
    layout0 else layout1) ∧ f = (if k.val = 0 then F.GRD_SET0_LIMITS p.val else F.GRD_SET1_LIMITS p.val) ∧ (∀ g ∈ lay,
    bits v.toNat g.1 g.2 = 2 ^ g.2 - 1 ∨ ∀ x ∈ s.dev.setBound p.val k.val, bits v.toNat g.1 g.2 ≤ bits x g.1 g.2)) ∧
    (∃ (s : State) (a : Agent) (p : Fin 24) (k : Fin 2) (f : Fld), f = (if k.val = 0 then F.GRD_CAP0_LIMITS p.val else
    F.GRD_CAP1_LIMITS p.val) ∧ s.dev.isRom a = true ∧ s.dev.get H.rwlLock = 0) ∧
    (∃ (s : State) (a : Agent) (p : Fin 24) (k : Fin 2) (f : Fld), f = (if k.val = 0 then F.GRD_CAP0_LIMITS p.val else
    F.GRD_CAP1_LIMITS p.val) ∧ (s.dev.isRom a = false ∨ s.dev.get H.rwlLock = 1)) ∧
    (∃ (s : State) (p : Fin 24), s.dev.get (T.disLow p.val) ≠ 0) ∧
    (∃ (s : State) (p : Fin 24), s.dev.get (T.disMax p.val) ≠ 0) ∧
    (∃ (s : State) (p : Fin 24), s.dev.get (T.disAgain p.val) ≠ 0 ∧ (s.dev.get (H.detaching p.val) = 1 ∨ s.dev.att
    p.val = 11) ∧ s.dev.get (F.PRT_ATT_STAT_VBS0 p.val) = 0) :=
  ⟨⟨st [], 3, 0, _, by decide, rfl⟩,
   ⟨st [], by decide⟩,
   ⟨st [], 3, 1, 0, _, _, rfl, rfl, by decide⟩,
   ⟨st [(H.rwlLock, 0), (F.CORE_STAT_STATE 0, 1), (F.CORE_P_P 0, 65536)], (.core 0), 3, 1, _, rfl, by decide, by
    decide⟩,
   ⟨st [], (.core 0), 3, 1, _, rfl, by decide⟩,
   ⟨st [(T.disLow 3, 1001)], 3, by decide⟩,
   ⟨st [(T.disMax 3, 1001)], 3, by decide⟩,
   ⟨st [(T.disAgain 3, 1001), (F.PRT_ATT_STAT_VBS0 3, 0), (H.detaching 3, 1)], 3, by decide, by decide, by decide⟩⟩

theorem witness_ContourCommandsComplete_1 :
    (∃ (s : State) (v : Word) (ceil : Nat) (floor : Nat), ceil = v.toNat / 2 ^ 18 ∧ floor = v.toNat % 2 ^ 18 ∧ ceil ≤
    72000 ∧ floor ≤ ceil ∧ s.dev.get F.BUD_CTRL_HOLD = 0) ∧
    (∃ (s : State) (v : Word) (ceil : Nat) (floor : Nat), ceil = v.toNat / 2 ^ 18 ∧ floor = v.toNat % 2 ^ 18 ∧ ceil ≤
    72000 ∧ floor ≤ ceil ∧ s.dev.get F.BUD_CTRL_HOLD = 1) ∧
    (∃ (v : Word) (ceil : Nat) (floor : Nat), ceil = v.toNat / 2 ^ 18 ∧ floor = v.toNat % 2 ^ 18 ∧ (72000 < ceil ∨ ceil
    < floor)) ∧
    (∃ (s : State) (v : Word), 2 ≤ bits v.toNat 8 8 ∧ bits v.toNat 8 8 ≤ 50 ∧ v.toNat.testBit 0 = false ∧ s.dev.get
    F.BUD_CTRL_HOLD = 1) ∧
    (∃ (s : State) (v : Word), 2 ≤ bits v.toNat 8 8 ∧ bits v.toNat 8 8 ≤ 50 ∧ v.toNat.testBit 0 = false ∧ s.dev.get
    F.BUD_CTRL_HOLD = 1) ∧
    (∃ (v : Word), (bits v.toNat 8 8 < 2 ∨ 50 < bits v.toNat 8 8)) ∧
    (∃ (s : State) (v : Word) (p : Nat), p = bits v.toNat 16 5 ∧ p < 24 ∧ s.dev.get (F.BUDP_STAT_NOTEPEND p) = 1 ∧
    s.dev.get (F.BUDP_STAT_SERIAL p) = bits v.toNat 24 12 ∧ s.dev.now < s.dev.get (H.budDl p)) ∧
    (∃ (s : State) (v : Word) (p : Nat), p = bits v.toNat 16 5 ∧ p < 24 ∧ (s.dev.get (F.BUDP_STAT_NOTEPEND p) = 0 ∨
    s.dev.get (F.BUDP_STAT_SERIAL p) ≠ bits v.toNat 24 12 ∨ s.dev.get (H.budDl p) ≤ s.dev.now)) :=
  ⟨⟨st [(F.BUD_CTRL_HOLD, 0)], 0, _, _, rfl, rfl, by decide, by decide, by decide⟩,
   ⟨st [(F.BUD_CTRL_HOLD, 1)], 0, _, _, rfl, rfl, by decide, by decide, by decide⟩,
   ⟨1, _, _, rfl, rfl, by decide⟩,
   ⟨st [(F.BUD_CTRL_HOLD, 1)], 0x200, by decide, by decide, by decide, by decide⟩,
   ⟨st [(F.BUD_CTRL_HOLD, 1)], 12800, by decide, by decide, by decide, by decide⟩,
   ⟨0, by decide⟩,
   ⟨st [(F.BUDP_STAT_NOTEPEND 3, 1), (H.budDl 3, 1001)], 0x30000, 3, by decide, by decide, by decide, by decide, by
    decide⟩,
   ⟨st [], 0, _, rfl, by decide, by decide⟩⟩

theorem witness_ContourCommandsComplete_2 :
    (∃ (v : Word) (p : Nat), p = bits v.toNat 16 5 ∧ 24 ≤ p) ∧
    (∃ (s : State) (p : Fin 24), s.dev.get (T.revoke p.val) ≠ 0 ∧ s.dev.get (F.BUDP_STAT_NOTEPEND p.val) = 1) ∧
    (∃ (s : State) (c1 : Nat × Bool × List Share) (c2 : Nat × Bool × List Share), s.dev.get F.BUD_STAT_BUSY = 1 ∧ c1 =
    allocate (s.dev.get H.budChg) (s.dev.shares 1) ∧ c2 = allocate (s.dev.get H.budDis) (s.dev.shares 2)) ∧
    (∃ (v : Word) (i : Nat) (o : Nat), i = bits v.toNat 32 4 ∧ o = v.toNat % 2 ^ 32 ∧ i ≤ 10 ∧ (o = 0 ∨ slotOk i o =
    true)) ∧
    (∃ (v : Word) (i : Nat) (o : Nat), i = bits v.toNat 32 4 ∧ o = v.toNat % 2 ^ 32 ∧ (10 < i ∨ (o ≠ 0 ∧ slotOk i o =
    false))) :=
  ⟨⟨0x180000, _, rfl, by decide⟩,
   ⟨st [(T.revoke 3, 1001), (F.BUDP_STAT_NOTEPEND 3, 1)], 3, by decide, by decide⟩,
   ⟨st [(F.BUD_STAT_BUSY, 1)], _, _, by decide, rfl, rfl⟩,
   ⟨0, _, _, rfl, rfl, by decide, by decide⟩,
   ⟨47244640256, _, _, rfl, rfl, by decide⟩⟩

theorem witness_AllocationStaysWithinTheBudget :
    (∃ (l : List Share), (∀ x ∈ l, x.alloc = 0) ∧ (∀ x ∈ l, x.floor ≤ x.top)) ∧
    (∃ (budget : Nat) (l : List Share), (∀ x ∈ l, x.alloc = 0) ∧ (allocate budget l).2.1 = false) :=
  ⟨⟨[⟨3, 100, 500, 1, 4, 0⟩, ⟨4, 200, 900, 2, 4, 0⟩], by decide, by decide⟩,
   ⟨600, [⟨3, 100, 500, 1, 4, 0⟩, ⟨4, 200, 900, 2, 4, 0⟩], by decide, by decide⟩⟩

theorem witness_TypeCCommandsComplete_1 :
    (∃ (s : State), s.dev.mode = 2) ∧
    (∃ (s : State) (p : Fin 24) (cc : Fin 2) (code : Fin 6), s.dev.mode ≠ 2 ∧ codeFits (s.dev.ccTerm p.val (cc.val +
    1)) code.val = false) ∧
    (∃ (s : State) (p : Fin 24) (cc : Fin 2) (code : Fin 6), s.dev.mode ≠ 2 ∧ codeFits (s.dev.ccTerm p.val (cc.val +
    1)) code.val = true ∧ code.val = s.dev.ccCode p.val cc.val ∧ s.dev.get (H.ccDue p.val cc.val) = 0) ∧
    (∃ (s : State) (p : Fin 24) (cc : Fin 2) (code : Fin 6), s.dev.mode ≠ 2 ∧ codeFits (s.dev.ccTerm p.val (cc.val +
    1)) code.val = true ∧ code.val = s.dev.ccCode p.val cc.val ∧ s.dev.get (H.ccDue p.val cc.val) ≠ 0) ∧
    (∃ (s : State) (p : Fin 24) (cc : Fin 2) (code : Fin 6), s.dev.mode ≠ 2 ∧ codeFits (s.dev.ccTerm p.val (cc.val +
    1)) code.val = true ∧ code.val ≠ s.dev.ccCode p.val cc.val ∧ s.dev.ccEarliest p.val cc.val ≠ s.dev.now) ∧
    (∃ (s : State) (p : Fin 24) (cc : Fin 2) (code : Fin 6), s.dev.mode ≠ 2 ∧ codeFits (s.dev.ccTerm p.val (cc.val +
    1)) code.val = true ∧ code.val ≠ s.dev.ccCode p.val cc.val ∧ s.dev.ccEarliest p.val cc.val = s.dev.now ∧ s.dev.att
    p.val = 0) ∧
    (∃ (s : State) (p : Fin 24) (cc : Fin 2) (code : Fin 6), s.dev.mode ≠ 2 ∧ codeFits (s.dev.ccTerm p.val (cc.val +
    1)) code.val = true ∧ code.val ≠ s.dev.ccCode p.val cc.val ∧ s.dev.ccEarliest p.val cc.val = s.dev.now ∧ s.dev.att
    p.val = 1 ∧ cc.val = 0 ∧ 3 ≤ code.val ∧ s.dev.cc2 p.val ≤ 1) ∧
    (∃ (s : State) (p : Fin 24) (cc : Fin 2) (code : Fin 6), s.dev.mode ≠ 2 ∧ codeFits (s.dev.ccTerm p.val (cc.val +
    1)) code.val = true ∧ code.val ≠ s.dev.ccCode p.val cc.val ∧ s.dev.ccEarliest p.val cc.val = s.dev.now ∧ s.dev.att
    p.val = 4 ∧ cc.val = 1 ∧ code.val = 2 ∧ s.dev.cc1 p.val ≤ 1) :=
  ⟨⟨st [(F.SYS_MODE_MODE, 2)], by decide⟩,
   ⟨st [(F.PRT_ATT_STAT_STATE 3, 4)], 3, 0, 4, by decide, by decide⟩,
   ⟨st [(H.ccDue 3 0, 0)], 3, 0, 0, by decide, by decide, by decide, by decide⟩,
   ⟨st [(H.ccDue 3 0, 1)], 3, 0, 0, by decide, by decide, by decide, by decide⟩,
   ⟨st [(H.ccSince 3 0, 1000), (F.PRT_CCFILT_SI 3, 0)], 3, 0, 3, by decide, by decide, by decide, by decide⟩,
   ⟨st [(F.PRT_ATT_STAT_STATE 3, 0), (F.PRT_CCFILT_SI 3, 0)], 3, 0, 3, by decide, by decide, by decide, by decide, by
    decide⟩,
   ⟨st [(F.PRT_ATT_STAT_STATE 3, 1), (F.PRT_CCFILT_SI 3, 0)], 3, 0, 3, by decide, by decide, by decide, by decide, by
    decide, by decide, by decide, by decide⟩,
   ⟨st [(F.PRT_ATT_STAT_STATE 3, 4), (F.PRT_CCFILT_SI 3, 0)], 3, 1, 2, by decide, by decide, by decide, by decide, by
    decide, by decide, by decide, by decide⟩⟩

theorem witness_TypeCCommandsComplete_2 :
    (∃ (s : State) (p : Fin 24) (cc : Fin 2) (code : Fin 6), s.dev.mode ≠ 2 ∧ codeFits (s.dev.ccTerm p.val (cc.val +
    1)) code.val = true ∧ code.val ≠ s.dev.ccCode p.val cc.val ∧ s.dev.ccEarliest p.val cc.val = s.dev.now ∧
    s.dev.seesRp p.val = true ∧ s.dev.get (F.PRT_ATT_STAT_ORIENT p.val) = cc.val + 1 ∧ 3 ≤ code.val ∧ code.val ≠
    s.dev.get (H.rpLevel p.val)) ∧
    (∃ (s : State) (p : Fin 24) (i : Fin 36), i.val = p.val + 12 ∧ s.dev.get (H.blankTo p.val) ≤ s.dev.now ∧ s.dev.mode
    ≠ 2) ∧
    (∃ (s : State) (p : Fin 24) (role : _), (s.dev.att p.val = 1 ∨ s.dev.att p.val = 4) ∧ s.dev.get (T.toggle p.val) ≠
    0 ∧ s.dev.rdSeen p.val = 0 ∧ s.dev.rpSeen p.val = 0 ∧ (role = (if s.dev.get (H.rolePend p.val) = 1 ∨ s.dev.get
    (H.rolePend p.val) = 2 then s.dev.get (H.rolePend p.val) else s.dev.get (F.PRT_CTRL_ROLE p.val))) ∧ s.dev.get
    (H.toggleSrc p.val) = 0) ∧
    (∃ (s : State) (p : Fin 24) (role : _), (s.dev.att p.val = 1 ∨ s.dev.att p.val = 4) ∧ s.dev.get (T.toggle p.val) ≠
    0 ∧ s.dev.rdSeen p.val = 0 ∧ s.dev.rpSeen p.val = 0 ∧ (role = (if s.dev.get (H.rolePend p.val) = 1 ∨ s.dev.get
    (H.rolePend p.val) = 2 then s.dev.get (H.rolePend p.val) else s.dev.get (F.PRT_CTRL_ROLE p.val))) ∧ s.dev.get
    (H.toggleSrc p.val) = 1) ∧
    (∃ (s : State) (p : Fin 24), (s.dev.att p.val = 1 ∨ s.dev.att p.val = 4) ∧ s.dev.get (T.rest p.val) ≠ 0) ∧
    (∃ (s : State) (p : Fin 24), s.dev.get (T.ccDb p.val) ≠ 0 ∧ s.dev.att p.val = 5 ∧ s.dev.get (F.PRT_ATT_STAT_VBS0
    p.val) = 0) ∧
    (∃ (s : State) (p : Fin 24), s.dev.get (T.ccDb p.val) ≠ 0 ∧ s.dev.att p.val = 5 ∧ s.dev.get (F.PRT_ATT_STAT_VBS0
    p.val) = 1 ∧ (s.dev.attachTimes p.val).length < 15) ∧
    (∃ (s : State) (p : Fin 24), s.dev.get (T.ccDb p.val) ≠ 0 ∧ s.dev.att p.val = 5 ∧ s.dev.get (F.PRT_ATT_STAT_VBS0
    p.val) = 1 ∧ 15 ≤ (s.dev.attachTimes p.val).length) :=
  ⟨⟨st [(F.PRT_ATT_STAT_STATE 3, 3), (F.PRT_CCFILT_SI 3, 0), (F.PRT_ATT_STAT_ORIENT 3, 1)], 3, 0, 3, by decide, by
    decide, by decide, by decide, by decide, by decide, by decide, by decide⟩,
   ⟨st [], 3, 15, by decide, by decide, by decide⟩,
   ⟨st [(T.toggle 3, 1001), (H.toggleSrc 3, 0), (F.PRT_ATT_STAT_STATE 3, 1)], 3, _, by decide, by decide, by decide,
    by decide, rfl, by decide⟩,
   ⟨st [(T.toggle 3, 1001), (H.toggleSrc 3, 1), (F.PRT_ATT_STAT_STATE 3, 1)], 3, _, by decide, by decide, by decide,
    by decide, rfl, by decide⟩,
   ⟨st [(T.rest 3, 1001), (F.PRT_ATT_STAT_STATE 3, 1)], 3, by decide, by decide⟩,
   ⟨st [(T.ccDb 3, 1001), (F.PRT_ATT_STAT_STATE 3, 5), (F.PRT_ATT_STAT_VBS0 3, 0)], 3, by decide, by decide, by
    decide⟩,
   ⟨st [(T.ccDb 3, 1001), (F.PRT_ATT_STAT_STATE 3, 5), (F.PRT_ATT_STAT_VBS0 3, 1)], 3, by decide, by decide, by
    decide, by decide⟩,
   ⟨(st [(T.ccDb 3, 1001), (F.PRT_ATT_STAT_STATE 3, 5), (F.PRT_ATT_STAT_VBS0 3, 1)]).onDev (·.setAttachTimes 3
    (List.replicate 15 900)), 3, by decide, by decide, by decide, by decide⟩⟩

theorem witness_TypeCCommandsComplete_3 :
    (∃ (s : State) (p : Fin 24), s.dev.get (T.ccDb p.val) ≠ 0 ∧ s.dev.att p.val = 2 ∧ s.dev.get (H.tryPend p.val) = 1 ∧
    s.dev.get (H.deadBat p.val) = 0) ∧
    (∃ (s : State) (p : Fin 24), s.dev.get (T.ccDb p.val) ≠ 0 ∧ (s.dev.att p.val = 2 ∧ s.dev.get (H.tryPend p.val) = 0
    ∨ s.dev.att p.val = 7) ∧ s.dev.get (F.PRT_ATT_STAT_VBSOK p.val) = 1 ∧ (s.dev.attachTimes p.val).length < 15) ∧
    (∃ (s : State) (p : Fin 24), s.calm p.val = true ∧ s.dev.get (T.pdDb p.val) ≠ 0 ∧ (s.dev.att p.val = 2 ∨ s.dev.att
    p.val = 5 ∨ s.dev.att p.val = 7) ∧ s.dev.rdSeen p.val = 0 ∧ s.dev.rpSeen p.val = 0) ∧
    (∃ (s : State) (p : Fin 24), s.calm p.val = true ∧ s.dev.get (T.pdDb p.val) ≠ 0 ∧ s.dev.att p.val = 8 ∧ s.dev.isSrc
    p.val = true ∧ s.dev.get (H.swAcc p.val) = 0) ∧
    (∃ (s : State) (p : Fin 24), s.dev.att p.val = 6 ∧ s.dev.get (T.drpTry p.val) ≠ 0 ∧ s.dev.rdSeen p.val = 0) ∧
    (∃ (s : State) (p : Fin 24), s.dev.att p.val = 6 ∧ s.dev.get (T.tryDb p.val) ≠ 0 ∧ (s.dev.attachTimes p.val).length
    < 15) ∧
    (∃ (s : State) (p : Fin 24), s.dev.get (T.errRec p.val) ≠ 0 ∧ s.dev.att p.val = 9 ∧ s.dev.get
    (F.PRT_ATT_STAT_DISWHY p.val) ≠ 0) ∧
    (∃ (s : State) (p : Fin 24), s.dev.get (T.errRec p.val) ≠ 0 ∧ s.dev.att p.val = 9 ∧ s.dev.get
    (F.PRT_ATT_STAT_DISWHY p.val) = 0 ∧ s.dev.cc1 p.val ≠ 6 ∧ s.dev.cc2 p.val ≠ 6) :=
  ⟨⟨st [(T.ccDb 3, 1001), (F.PRT_ATT_STAT_STATE 3, 2), (H.tryPend 3, 1), (H.deadBat 3, 0)], 3, by decide, by decide,
    by decide, by decide⟩,
   ⟨st [(T.ccDb 3, 1001), (F.PRT_ATT_STAT_VBSOK 3, 1), (F.PRT_ATT_STAT_STATE 3, 7)], 3, by decide, by decide, by
    decide, by decide⟩,
   ⟨st [(T.pdDb 3, 1001), (F.PRT_ATT_STAT_STATE 3, 2)], 3, by decide, by decide, by decide, by decide, by decide⟩,
   ⟨st [(T.pdDb 3, 1001), (F.PRT_ATT_STAT_STATE 3, 8), (H.swAcc 3, 0)], 3, by decide, by decide, by decide, by decide,
    by decide⟩,
   ⟨st [(F.PRT_ATT_STAT_STATE 3, 6), (T.drpTry 3, 1001)], 3, by decide, by decide, by decide⟩,
   ⟨st [(F.PRT_ATT_STAT_STATE 3, 6), (T.tryDb 3, 1001)], 3, by decide, by decide, by decide⟩,
   ⟨st [(T.errRec 3, 1001), (F.PRT_ATT_STAT_STATE 3, 9), (F.PRT_ATT_STAT_DISWHY 3, 1)], 3, by decide, by decide, by
    decide⟩,
   ⟨st [(T.errRec 3, 1001), (F.PRT_ATT_STAT_STATE 3, 9), (F.PRT_ATT_STAT_DISWHY 3, 0)], 3, by decide, by decide, by
    decide, by decide, by decide⟩⟩

theorem witness_TypeCCommandsComplete_4 :
    (∃ (s : State) (p : Fin 24), s.dev.get (T.chatter p.val) ≠ 0) ∧
    (∃ (s : State) (p : Fin 24) (vbs : Nat), s.calm p.val = true ∧ s.dev.att p.val = 3 ∧ s.dev.masked p.val = false ∧
    vbs < (if s.dev.heldExplicit p.val = true ∧ s.dev.heldV p.val ≠ 500 then s.dev.heldV p.val * 8 else 3670)) ∧
    (∃ (s : State) (p : Fin 24) (i : Nat) (vbs : Nat), s.dev.emergencyCond p.val i vbs = false) ∧
    (∃ (s : State) (p : Fin 24) (i : Nat) (vbs : Nat), s.pending.head? = some (.emergencyDetach p i vbs) ∧
    s.dev.emergencyCond p.val i vbs = true) ∧
    (∃ (s : State) (p : Fin 24), s.dev.get (F.PRT_ATT_STAT_VCONNON p.val) = 1) ∧
    (∃ (s : State) (p : Fin 24) (code : Fin 3), s.dev.seesRp p.val = true ∧ s.dev.activeLine p.val = code.val + 3 ∧
    s.dev.get (H.rpDue p.val) ≠ 0 ∧ s.dev.get (H.rpDue p.val) ≤ s.dev.now + 1) ∧
    (∃ (s : State) (p : Fin 24) (v : Word), s.calm p.val = true ∧ s.dev.att p.val ≠ 0 ∧ s.dev.get (H.emTick p.val) ≠
    s.dev.now + 1 ∧ v.toNat.testBit 0 = true) ∧
    (∃ (s : State) (p : Fin 24) (v : Word), s.calm p.val = true ∧ v.toNat.testBit 0 = false) :=
  ⟨⟨st [(T.chatter 3, 1001)], 3, by decide⟩,
   ⟨st [(F.PRT_ATT_STAT_STATE 3, 3)], 3, 0, by decide, by decide, by decide, by decide⟩,
   ⟨st [], 3, 0, 0, by decide⟩,
   ⟨{ st [(F.PRT_ATT_STAT_STATE 3, 8), (H.vnow 3, 500)] with pending := [.emergencyDetach 3 0 0] }, 3, 0, 0, by
    decide, by decide⟩,
   ⟨st [(F.PRT_ATT_STAT_VCONNON 3, 1)], 3, by decide⟩,
   ⟨st [(F.PRT_ATT_STAT_STATE 3, 3), (H.rpDue 3, 1001), (F.PRT_ATT_STAT_ORIENT 3, 1), (F.PRT_ATT_STAT_CC1LVL 3, 3)],
    3, 0, by decide, by decide, by decide, by decide⟩,
   ⟨st [(F.PRT_ATT_STAT_STATE 3, 8)], 3, 1, by decide, by decide, by decide, by decide⟩,
   ⟨st [], 3, 0, by decide, by decide⟩⟩

theorem witness_TypeCCommandsComplete_5 :
    (∃ (s : State) (p : Fin 24) (v : Word), s.calm p.val = true ∧ v.toNat.testBit 0 = true ∧ v.toNat.testBit 2 = false
    ∧ s.dev.get (F.PRT_ATT_STAT_DISWHY p.val) = 1 ∧ s.dev.att p.val = 0 ∧ s.dev.mode ≠ 2) ∧
    (∃ (s : State) (p : Fin 24) (v : Word), s.calm p.val = true ∧ 1 ≤ bits v.toNat 8 8 ∧ bits v.toNat 8 8 * 4 ^ bits
    v.toNat 5 3 ≤ 64000) ∧
    (∃ (s : State) (p : Fin 24) (v : Word), s.calm p.val = true ∧ 1 ≤ bits v.toNat 8 8 ∧ bits v.toNat 8 8 * 4 ^ bits
    v.toNat 5 3 ≤ 64000) ∧
    (∃ (s : State) (p : Fin 24) (v : Word), s.calm p.val = true ∧ (bits v.toNat 8 8 = 0 ∨ 64000 < bits v.toNat 8 8 * 4
    ^ bits v.toNat 5 3)) ∧
    (∃ (s : State) (p : Fin 24), s.calm p.val = true ∧ s.dev.get (H.swAcc p.val) = 0 ∧ s.dev.get (H.hrPhase p.val) = 0
    ∧ s.dev.get (H.detaching p.val) = 0 ∧ s.dev.att p.val ≠ 5 ∧ s.dev.att p.val ≠ 11) ∧
    (∃ (s : State) (p : Fin 24), s.calm p.val = true ∧ s.dev.get (H.swAcc p.val) = 0 ∧ s.dev.get (H.hrPhase p.val) = 0
    ∧ s.dev.att p.val ≠ 2 ∧ s.dev.att p.val ≠ 7) ∧
    (∃ (s : State) (p : Fin 24), s.calm p.val = true ∧ s.dev.att p.val = 5 ∧ s.dev.get (H.ccSettle p.val) = 1 ∧
    s.dev.get (H.detaching p.val) = 0 ∧ (s.dev.attachTimes p.val).length < 15) ∧
    (∃ (s : State) (p : Fin 24), s.calm p.val = true ∧ s.dev.att p.val = 2 ∧ s.dev.get (H.ccSettle p.val) = 1 ∧
    (s.dev.attachTimes p.val).length < 15) :=
  ⟨⟨st [(F.PRT_ATT_STAT_DISWHY 3, 1), (F.PRT_ATT_STAT_STATE 3, 0)], 3, 1, by decide, by decide, by decide, by decide,
    by decide, by decide⟩,
   ⟨st [], 3, 0x100, by decide, by decide, by decide⟩,
   ⟨st [], 3, 0xfa80, by decide, by decide, by decide⟩,
   ⟨st [], 3, 0xfb80, by decide, by decide⟩,
   ⟨st [(H.swAcc 3, 0), (H.hrPhase 3, 0), (H.detaching 3, 0)], 3, by decide, by decide, by decide, by decide, by
    decide, by decide⟩,
   ⟨st [(H.swAcc 3, 0), (H.hrPhase 3, 0)], 3, by decide, by decide, by decide, by decide, by decide⟩,
   ⟨st [(F.PRT_ATT_STAT_STATE 3, 5), (H.ccSettle 3, 1), (H.detaching 3, 0)], 3, by decide, by decide, by decide, by
    decide, by decide⟩,
   ⟨st [(F.PRT_ATT_STAT_STATE 3, 2), (H.ccSettle 3, 1)], 3, by decide, by decide, by decide, by decide⟩⟩

theorem witness_TypeCCommandsComplete_6 :
    ∃ (s : State) (p : Fin 24), s.calm p.val = true ∧ s.dev.att p.val = 11 ∧ s.dev.get (F.GRD_STAT_GATES p.val) = 0 :=
  ⟨st [(F.PRT_ATT_STAT_STATE 3, 11), (F.GRD_STAT_GATES 3, 0)], 3, by decide, by decide, by decide⟩

theorem witness_InformationRequestsAreAnswered_1 :
    (∃ (s : State) (p : Fin 24) (hdr : BitVec 16), s.calm p.val = true ∧ s.dev.rxRepeat p.val 0 hdr.toNat = false ∧
    s.dev.get (H.bistData p.val) = 0 ∧ s.dev.rxOn p.val = true ∧ s.dev.get (H.swAcc p.val) = 0 ∧ s.dev.pe p.val ≠ 19 ∧
    s.dev.get (F.PRT_PE_STAT_REV p.val) = 0) ∧
    (∃ (s : State) (p : Fin 24) (hdr : BitVec 16), s.calm p.val = true ∧ s.dev.rxRepeat p.val 0 hdr.toNat = false ∧
    s.dev.get (H.bistData p.val) = 0 ∧ s.dev.rxOn p.val = true ∧ s.dev.get (H.swAcc p.val) = 1 ∧ s.dev.pe p.val ≠ 19) ∧
    (∃ (s : State) (p : Fin 24) (hdr : BitVec 16) (c : Instr), s.calm p.val = true ∧ s.dev.rxOn p.val = true ∧
    (s.dev.rxRepeat p.val 0 hdr.toNat = true ∨ s.dev.get (H.bistData p.val) = 1) ∧ (c = .rxPing p hdr ∨ c = .rxGotomin
    p hdr ∨ c = .rxUnsupportedMessage p hdr ∨ c = .rxUnstructuredVdm p hdr ∨ c = .rxSoftReset p hdr)) ∧
    (∃ (s : State) (p : Fin 24) (hdr : BitVec 16) (c : Instr), s.hears p.val hdr.toNat = true ∧ (c = .rxGotomin p hdr ∨
    c = .rxUnsupportedMessage p hdr ∨ (c = .rxGetSourceCap p hdr true ∧ (s.dev.isSrc p.val = false ∨ s.dev.pd2 p.val =
    true)) ∨ (c = .rxGetSinkCap p hdr true ∧ s.dev.pd2 p.val = true) ∨ (∃ k : Fin 3, c = .rxGetSourceInfo p hdr k ∧
    s.dev.isSrc p.val = false) ∨ (∃ k : Fin 3, c = .rxGetStatus p hdr k ∧ k.val ≤ 1 ∧ s.dev.pd2 p.val = true))) ∧
    (∃ (s : State) (p : Fin 24) (hdr : BitVec 16) (c : Instr) (f : TxFrame), s.hears p.val hdr.toNat = true ∧ ((c =
    .rxGetSourceCap p hdr false ∧ s.dev.isSrc p.val = false ∧ f = ⟨0, 33, false, s.dev.infoCaps p.val, 36, 0⟩) ∨ (c =
    .rxGetSinkCap p hdr false ∧ f = ⟨0, 36, false, s.dev.sinkCaps p.val false, 0, 0⟩) ∨ (c = .rxGetSinkCap p hdr true ∧
    s.dev.pd2 p.val = false ∧ f = ⟨0, 82, true, extObjs 44 0 (s.dev.sinkCaps p.val true), 37, 0⟩) ∨ (c =
    .rxGetSourceInfo p hdr 0 ∧ s.dev.isSrc p.val = true ∧ s.dev.pd2 p.val = false ∧ f = ⟨0, 65, true, extObjs 25 0
    (s.dev.srcCapExt p.val), 0, 0⟩) ∨ (c = .rxGetSourceInfo p hdr 1 ∧ s.dev.isSrc p.val = true ∧ f = ⟨0, 43, false,
    [s.dev.srcInfo p.val], 0, 0⟩) ∨ (c = .rxGetStatus p hdr 0 ∧ s.dev.pd2 p.val = false ∧ f = ⟨0, 79, true, extObjs 24
    0 (s.dev.snkCapExt p.val), 0, 0⟩) ∨ (c = .rxGetStatus p hdr 1 ∧ s.dev.pd2 p.val = false ∧ f = ⟨0, 66, true, extObjs
    7 0 (s.dev.statusWords p.val), 0, 0⟩) ∨ (c = .rxGetStatus p hdr 2 ∧ f = ⟨0, 44, false, [0x32100000], 0, 0⟩) ∨ (c =
    .rxEprKeepalive p hdr ∧ s.dev.isSrc p.val = true ∧ s.dev.epr p.val = true ∧ s.dev.pd2 p.val = false ∧ f = ⟨0, 80,
    true, extObjs 2 0 [4], 0, 0⟩))) ∧
    (∃ (s : State) (p : Fin 24) (hdr : BitVec 16), s.hears p.val hdr.toNat = true ∧ s.dev.isSrc p.val = true ∧
    s.dev.get (F.PRT_CONTRACT_VALID p.val) = 1 ∧ s.dev.conKind p.val = 3 ∧ s.dev.pd2 p.val = false) ∧
    (∃ (s : State) (p : Fin 24) (hdr : BitVec 16) (ext : BitVec 16), s.hears p.val hdr.toNat = true ∧
    (hdr.toNat.testBit 15 = true ∧ ext.toNat.testBit 15 = false ∧ 26 < bits ext.toNat 0 9) ∧ s.dev.get (H.hpmVerd
    p.val) = 0) ∧
    (∃ (s : State) (p : Fin 24) (hdr : BitVec 16) (ext : BitVec 16), s.hears p.val hdr.toNat = true ∧
    (hdr.toNat.testBit 15 = false ∨ ext.toNat.testBit 15 = true ∨ bits ext.toNat 0 9 ≤ 26) ∧ s.dev.get (H.await p.val)
    ≠ 6) :=
  ⟨⟨st [(H.bistData 3, 0), (H.pdOn 3, 1), (F.PRT_ATT_STAT_STATE 3, 8), (H.swAcc 3, 0), (F.PRT_PE_STAT_REV 3, 0)], 3,
    0, by decide, by decide, by decide, by decide, by decide, by decide, by decide⟩,
   ⟨st [(H.bistData 3, 0), (H.pdOn 3, 1), (F.PRT_ATT_STAT_STATE 3, 8), (H.swAcc 3, 1)], 3, 0, by decide, by decide, by
    decide, by decide, by decide, by decide⟩,
   ⟨st [(H.pdOn 3, 1), (F.PRT_ATT_STAT_STATE 3, 8), (H.bistData 3, 1)], 3, 0, .rxPing 3 0, by decide, by decide, by
    decide, Or.inl rfl⟩,
   ⟨st [(H.pdOn 3, 1), (F.PRT_PE_STAT_REV 3, 2), (F.PRT_ATT_STAT_STATE 3, 8)], 3, 0, .rxGotomin 3 0, by decide, Or.inl
    (by decide)⟩,
   ⟨st [(H.pdOn 3, 1), (F.PRT_PE_STAT_REV 3, 2), (F.PRT_ATT_STAT_STATE 3, 3), (F.PRT_PE_STAT_EPR 3, 1)], 3, 0,
    .rxGetStatus 3 0 2, ⟨0, 44, false, [0x32100000], 0, 0⟩, by decide, by decide⟩,
   ⟨st [(H.pdOn 3, 1), (F.PRT_PE_STAT_REV 3, 2), (F.PRT_ATT_STAT_STATE 3, 8), (F.PRT_CONTRACT_VALID 3, 1),
    (F.PRT_CONTRACT_KIND 3, 3)], 3, 0, by decide, by decide, by decide, by decide, by decide⟩,
   ⟨st [(H.pdOn 3, 1), (F.PRT_PE_STAT_REV 3, 2), (F.PRT_ATT_STAT_STATE 3, 8), (H.hpmVerd 3, 0)], 3, 0x8000, 27, by
    decide, by decide, by decide⟩,
   ⟨st [(H.pdOn 3, 1), (F.PRT_PE_STAT_REV 3, 2), (F.PRT_ATT_STAT_STATE 3, 8)], 3, 0, 0, by decide, by decide, by
    decide⟩⟩

theorem witness_InformationRequestsAreAnswered_2 :
    (∃ (s : State) (p : Fin 24) (hdr : BitVec 16) (ext : BitVec 16) (c : Cmd) (l : List Cmd), s.hears p.val hdr.toNat =
    true ∧ (hdr.toNat.testBit 15 = false ∨ ext.toNat.testBit 15 = true ∨ bits ext.toNat 0 9 ≤ 26) ∧ s.dev.get (H.await
    p.val) = 6 ∧ s.dev.get (H.cmdRun p.val) = 1 ∧ s.dev.get (H.ceilCmdRun p.val) = 0 ∧ s.dev.cmds p.val = c :: l ∧
    replyOf c.code = msgOf hdr.toNat) ∧
    (∃ (s : State) (p : Fin 24) (hdr : BitVec 16) (mode : BitVec 4), s.hears p.val hdr.toNat = true ∧ s.dev.explicit
    p.val = true ∧ s.dev.conVolt p.val = 500 ∧ mode = 5) ∧
    (∃ (s : State) (p : Fin 24) (hdr : BitVec 16) (mode : BitVec 4), s.hears p.val hdr.toNat = true ∧ s.dev.explicit
    p.val = true ∧ s.dev.conVolt p.val = 500 ∧ mode = 8) ∧
    (∃ (s : State) (p : Fin 24) (hdr : BitVec 16) (mode : BitVec 4), s.hears p.val hdr.toNat = true ∧ (s.dev.explicit
    p.val = false ∨ s.dev.conVolt p.val ≠ 500 ∨ (mode ≠ 5 ∧ mode ≠ 8))) ∧
    (∃ (s : State) (p : Fin 24) (hdr : BitVec 16), s.hears p.val hdr.toNat = true ∧ s.dev.get (T.chunk p.val) ≠ 0 ∧
    s.dev.get (H.chunkNo p.val) = 1) ∧
    (∃ (s : State) (p : Fin 24) (hdr : BitVec 16), s.hears p.val hdr.toNat = true ∧ s.dev.get (T.chunk p.val) ≠ 0 ∧
    s.dev.get (H.chunkNo p.val) = 2) ∧
    (∃ (s : State) (p : Fin 24) (hdr : BitVec 16), s.hears p.val hdr.toNat = true ∧ s.dev.isSnk p.val = true ∧
    s.dev.epr p.val = true ∧ s.dev.hpmCon p.val = false) :=
  ⟨⟨(st [(H.pdOn 3, 1), (F.PRT_PE_STAT_REV 3, 2), (F.PRT_ATT_STAT_STATE 3, 8), (H.await 3, 6), (H.cmdRun 3, 1),
    (H.ceilCmdRun 3, 0)]).onDev (·.setCmds 3 [⟨1, 0, 0, 5, 100000000, false, false⟩]), 3, 0x1001, 0, ⟨1, 0, 0, 5,
    100000000, false, false⟩, [], by decide, by decide, by decide, by decide, by decide, by decide, by decide⟩,
   ⟨st [(H.pdOn 3, 1), (F.PRT_PE_STAT_REV 3, 2), (F.PRT_ATT_STAT_STATE 3, 8), (F.PRT_CONTRACT_VALID 3, 1),
    (F.PRT_CONTRACT_KIND 3, 2), (F.PRT_CONTRACT_VOLT 3, 500)], 3, 0, 5, by decide, by decide, by decide, by decide⟩,
   ⟨st [(H.pdOn 3, 1), (F.PRT_PE_STAT_REV 3, 2), (F.PRT_ATT_STAT_STATE 3, 8), (F.PRT_CONTRACT_VALID 3, 1),
    (F.PRT_CONTRACT_KIND 3, 2), (F.PRT_CONTRACT_VOLT 3, 500)], 3, 0, 8, by decide, by decide, by decide, by decide⟩,
   ⟨st [(H.pdOn 3, 1), (F.PRT_PE_STAT_REV 3, 2), (F.PRT_ATT_STAT_STATE 3, 8)], 3, 0, 0, by decide, by decide⟩,
   ⟨st [(H.pdOn 3, 1), (F.PRT_PE_STAT_REV 3, 2), (F.PRT_ATT_STAT_STATE 3, 8), (T.chunk 3, 1001), (H.chunkNo 3, 1)], 3,
    0, by decide, by decide, by decide⟩,
   ⟨st [(H.pdOn 3, 1), (F.PRT_PE_STAT_REV 3, 2), (F.PRT_ATT_STAT_STATE 3, 8), (T.chunk 3, 1001), (H.chunkNo 3, 2)], 3,
    0, by decide, by decide, by decide⟩,
   ⟨st [(H.pdOn 3, 1), (F.PRT_PE_STAT_REV 3, 2), (F.PRT_ATT_STAT_STATE 3, 3), (F.PRT_PE_STAT_EPR 3, 1)], 3, 0, by
    decide, by decide, by decide, by decide⟩⟩

theorem witness_NegotiationAndProtocolTimersComplete_1 :
    (∃ (s : State) (p : Fin 24) (f : TxFrame) (l : List TxFrame), s.calm p.val = true ∧ s.dev.txs p.val = f :: l ∧
    f.kind = 0) ∧
    (∃ (s : State) (p : Fin 24) (f : TxFrame) (l : List TxFrame), s.calm p.val = true ∧ s.dev.txs p.val = f :: l ∧
    f.kind = 4) ∧
    (∃ (s : State) (p : Fin 24) (f : TxFrame) (l : List TxFrame), s.calm p.val = true ∧ s.dev.txs p.val = f :: l ∧
    s.dev.get (T.rx p.val) ≠ 0 ∧ f.tries < 2 ∧ (f.sop = 0 ∨ s.dev.get F.SYS_SUPPLY_VCONNLOW = 0)) ∧
    (∃ (s : State) (p : Fin 24) (f : TxFrame) (l : List TxFrame), s.calm p.val = true ∧ s.dev.txs p.val = f :: l ∧
    s.dev.get (T.rx p.val) ≠ 0 ∧ 2 ≤ f.tries ∧ f.kind = 1 ∧ s.dev.get (H.capsCnt p.val) < 49) ∧
    (∃ (s : State) (p : Fin 24) (g : Dev → TxFrame), s.calm p.val = true ∧ s.dev.isSrc p.val = true ∧ g = (fun d => if
    s.dev.get (H.offerEpr p.val) = 0 then ⟨0, 33, false, (d.offerObjs p.val).1, 1, 0⟩ else ⟨0, 81, true, extObjs 44 0
    (padTo 11 (d.offerObjs p.val).1), 1, 0⟩) ∧ s.dev.get (H.offerDue p.val) = 1 ∧ s.dev.get (H.offerOk p.val) = 1 ∧
    s.dev.get (H.vsafe5 p.val) = 1 ∧ s.dev.get (H.discDone p.val) = 1 ∧ s.dev.get (H.swCapWait p.val) = 0 ∧ s.dev.txs
    p.val = [] ∧ s.dev.get (H.await p.val) = 0 ∧ s.dev.get (T.sinkTx p.val) = 0 ∧ s.dev.get (H.offerOwn p.val) = 0) ∧
    (∃ (s : State) (p : Fin 24) (g : Dev → TxFrame), s.calm p.val = true ∧ s.dev.isSrc p.val = true ∧ g = (fun d => if
    s.dev.get (H.offerEpr p.val) = 0 then ⟨0, 33, false, (d.offerObjs p.val).1, 1, 0⟩ else ⟨0, 81, true, extObjs 44 0
    (padTo 11 (d.offerObjs p.val).1), 1, 0⟩) ∧ s.dev.get (T.sendCaps p.val) ≠ 0) ∧
    (∃ (s : State) (p : Fin 24) (hdr : BitVec 16), s.hears p.val hdr.toNat = true ∧ s.dev.isSnk p.val = true ∧
    s.dev.get (H.xferOn p.val) = 0 ∧ s.dev.get (H.await p.val) ≠ 6 ∧ s.dev.get (H.resume p.val) = 0) ∧
    (∃ (s : State) (p : Fin 24) (hdr : BitVec 16), s.hears p.val hdr.toNat = true ∧ s.dev.get (H.await p.val) = 2 ∧
    s.dev.get (H.waits p.val) < 2) :=
  ⟨⟨(st []).onDev (·.setTxs 3 [⟨0, 3, false, [], 0, 0⟩]), 3, ⟨0, 3, false, [], 0, 0⟩, [], by decide, by decide, by
    decide⟩,
   ⟨(st []).onDev (·.setTxs 3 [⟨0, 3, false, [], 4, 0⟩]), 3, ⟨0, 3, false, [], 4, 0⟩, [], by decide, by decide, by
    decide⟩,
   ⟨(st [(T.rx 3, 1001)]).onDev (·.setTxs 3 [⟨0, 3, false, [], 0, 0⟩]), 3, ⟨0, 3, false, [], 0, 0⟩, [], by decide, by
    decide, by decide, by decide, by decide⟩,
   ⟨(st [(T.rx 3, 1001)]).onDev (·.setTxs 3 [⟨0, 1, false, [], 1, 2⟩]), 3, ⟨0, 1, false, [], 1, 2⟩, [], by decide, by
    decide, by decide, by decide, by decide, by decide⟩,
   ⟨st [(F.PRT_ATT_STAT_STATE 3, 8), (H.offerDue 3, 1), (H.offerOk 3, 1), (H.vsafe5 3, 1), (H.discDone 3, 1),
    (H.swCapWait 3, 0), (H.await 3, 0), (T.sinkTx 3, 0), (H.offerOwn 3, 0)], 3, _, by decide, by decide, rfl, by
    decide, by decide, by decide, by decide, by decide, by decide, by decide, by decide, by decide⟩,
   ⟨st [(F.PRT_ATT_STAT_STATE 3, 8), (T.sendCaps 3, 1001)], 3, _, by decide, by decide, rfl, by decide⟩,
   ⟨st [(H.pdOn 3, 1), (F.PRT_PE_STAT_REV 3, 2), (F.PRT_ATT_STAT_STATE 3, 3), (H.xferOn 3, 0), (H.resume 3, 0)], 3, 0,
    by decide, by decide, by decide, by decide, by decide⟩,
   ⟨st [(H.pdOn 3, 1), (F.PRT_PE_STAT_REV 3, 2), (F.PRT_ATT_STAT_STATE 3, 8), (H.await 3, 2)], 3, 0, by decide, by
    decide, by decide⟩⟩

theorem witness_NegotiationAndProtocolTimersComplete_2 :
    (∃ (s : State) (p : Fin 24) (hdr : BitVec 16), s.hears p.val hdr.toNat = true ∧ s.dev.isSnk p.val = true ∧
    s.dev.get (T.psTrans p.val) ≠ 0 ∧ s.dev.get (H.psDone p.val) = 0) ∧
    (∃ (s : State) (p : Fin 24), s.calm p.val = true ∧ s.dev.get (T.psTrans p.val) ≠ 0 ∧ s.dev.get (H.psDone p.val) = 1
    ∧ s.dev.get (H.swAcc p.val) = 0 ∧ bits (s.dev.get (H.newCon p.val)) 31 3 ≠ 6) ∧
    (∃ (s : State) (p : Fin 24) (hdr : BitVec 16) (c : Cmd) (l : List Cmd) (i : Instr) (o : Nat), s.dev.get (H.await
    p.val) = 6 ∧ s.dev.get (H.cmdRun p.val) = 1 ∧ s.dev.get (H.ceilCmdRun p.val) = 0 ∧ s.dev.cmds p.val = c :: l ∧
    ((s.hears p.val hdr.toNat = true ∧ ((i = .rxReject p hdr ∧ o = 1) ∨ (i = .rxNotSupported p hdr ∧ o = 2) ∨ (i =
    .rxWait p hdr ∧ o = 4))) ∨ (s.dev.get (T.senderResp p.val) ≠ 0 ∧ i = .tsenderResponseExpiry p ∧ o = 3 ∧ s.calm
    p.val = true))) ∧
    (∃ (s : State) (p : Fin 24) (hdr : BitVec 16) (c : Cmd) (l : List Cmd) (i : Instr) (o : Nat), s.dev.get (H.await
    p.val) = 6 ∧ s.dev.get (H.cmdRun p.val) = 1 ∧ s.dev.get (H.ceilCmdRun p.val) = 0 ∧ s.dev.cmds p.val = c :: l ∧
    ((s.hears p.val hdr.toNat = true ∧ ((i = .rxReject p hdr ∧ o = 1) ∨ (i = .rxNotSupported p hdr ∧ o = 2) ∨ (i =
    .rxWait p hdr ∧ o = 4))) ∨ (s.dev.get (T.senderResp p.val) ≠ 0 ∧ i = .tsenderResponseExpiry p ∧ o = 3 ∧ s.calm
    p.val = true))) ∧
    (∃ (s : State) (p : Fin 24) (hdr : BitVec 16) (rdo : Obj), s.hears p.val hdr.toNat = true ∧ s.dev.isSrc p.val =
    true ∧ s.dev.get (H.xferOn p.val) = 0 ∧ s.dev.pe p.val ≠ 4 ∧ (rdoPos rdo.toNat = 0 ∨ 12 ≤ rdoPos rdo.toNat)) ∧
    (∃ (s : State) (p : Fin 24) (hdr : BitVec 16) (rdo : Obj), s.hears p.val hdr.toNat = true ∧ s.dev.isSrc p.val =
    true ∧ s.dev.get (H.xferOn p.val) = 0 ∧ s.dev.pe p.val ≠ 4 ∧ (rdoPos rdo.toNat = 0 ∨ 12 ≤ rdoPos rdo.toNat)) ∧
    (∃ (s : State) (p : Fin 24) (hdr : BitVec 16) (rdo : Obj) (copy : Obj), s.hears p.val hdr.toNat = true ∧
    s.dev.isSrc p.val = true ∧ s.dev.get (H.xferOn p.val) = 0 ∧ s.dev.pe p.val ≠ 4 ∧ s.dev.requestOk p.val false
    rdo.toNat copy.toNat = true ∧ s.dev.explicit p.val = false ∧ s.dev.get (H.resume p.val) = 0) ∧
    (∃ (s : State) (p : Fin 24) (hdr : BitVec 16), s.hears p.val hdr.toNat = true ∧ s.dev.pd2 p.val = false ∧
    s.dev.isSrc p.val = true ∧ s.dev.get (F.PRT_PE_CTRL_EPREN p.val) = 0) :=
  ⟨⟨st [(H.pdOn 3, 1), (F.PRT_PE_STAT_REV 3, 2), (F.PRT_ATT_STAT_STATE 3, 3), (T.psTrans 3, 1001), (H.psDone 3, 0)],
    3, 0, by decide, by decide, by decide, by decide⟩,
   ⟨st [(T.psTrans 3, 1001), (H.psDone 3, 1), (H.swAcc 3, 0)], 3, by decide, by decide, by decide, by decide, by
    decide⟩,
   ⟨(st [(H.await 3, 6), (H.cmdRun 3, 1), (H.ceilCmdRun 3, 0), (H.pdOn 3, 1), (F.PRT_PE_STAT_REV 3, 2),
    (F.PRT_ATT_STAT_STATE 3, 8), (T.senderResp 3, 1001)]).onDev (·.setCmds 3 [⟨1, 0, 0, 5, 100000000, false, false⟩]),
    3, 0, ⟨1, 0, 0, 5, 100000000, false, false⟩, [], .rxReject 3 0, 1, by decide, by decide, by decide, by decide, by
    decide⟩,
   ⟨(st [(H.await 3, 6), (H.cmdRun 3, 1), (H.ceilCmdRun 3, 0), (H.pdOn 3, 1), (F.PRT_PE_STAT_REV 3, 2),
    (F.PRT_ATT_STAT_STATE 3, 8), (T.senderResp 3, 1001)]).onDev (·.setCmds 3 [⟨1, 0, 0, 5, 100000000, false, false⟩]),
    3, 0, ⟨1, 0, 0, 5, 100000000, false, false⟩, [], .tsenderResponseExpiry 3, 3, by decide, by decide, by decide, by
    decide, by decide⟩,
   ⟨st [(H.pdOn 3, 1), (F.PRT_PE_STAT_REV 3, 2), (F.PRT_ATT_STAT_STATE 3, 8), (H.xferOn 3, 0)], 3, 0, 0, by decide, by
    decide, by decide, by decide, by decide⟩,
   ⟨st [(H.pdOn 3, 1), (F.PRT_PE_STAT_REV 3, 2), (F.PRT_ATT_STAT_STATE 3, 8), (H.xferOn 3, 0)], 3, 0, 0xc0000000, by
    decide, by decide, by decide, by decide, by decide⟩,
   ⟨st [(H.pdOn 3, 1), (F.PRT_PE_STAT_REV 3, 2), (F.PRT_ATT_STAT_STATE 3, 8), (H.xferOn 3, 0), (H.resume 3, 0),
    (F.PRT_CONTRACT_VALID 3, 0), (F.PRT_CONTRACT_KIND 3, 0), (H.offer 3 1, 102700)], 3, 0, 0x1004b12c, 0, by decide, by
    decide, by decide, by decide, by decide, by decide, by decide⟩,
   ⟨st [(H.pdOn 3, 1), (F.PRT_PE_STAT_REV 3, 2), (F.PRT_ATT_STAT_STATE 3, 8), (F.PRT_PE_CTRL_EPREN 3, 0)], 3, 0, by
    decide, by decide, by decide, by decide⟩⟩

theorem witness_NegotiationAndProtocolTimersComplete_3 :
    (∃ (s : State) (p : Fin 24) (hdr : BitVec 16), s.hears p.val hdr.toNat = true ∧ s.dev.pd2 p.val = false ∧ s.dev.get
    (T.enterEpr p.val) ≠ 0 ∧ s.dev.isSnk p.val = true) ∧
    (∃ (s : State) (p : Fin 24) (i : Instr), s.calm p.val = true ∧ s.dev.attached p.val = true ∧ ((i =
    .tsenderResponseExpiry p ∧ s.dev.get (T.senderResp p.val) ≠ 0 ∧ s.dev.get (H.await p.val) = 2) ∨ (i =
    .ttypecSinkWaitCapExpiry p ∧ s.dev.get (T.waitCap p.val) ≠ 0 ∧ s.dev.get (H.hrTry p.val) < 2) ∨ (i =
    .tpsTransitionExpiry p ∧ s.dev.get (T.psTrans p.val) ≠ 0 ∧ s.dev.get (H.psDone p.val) = 0) ∨ (i =
    .tppsTimeoutExpiry p ∧ s.dev.get (T.ppsTo p.val) ≠ 0) ∨ (i = .tsourceEprKeepaliveExpiry p ∧ s.dev.get (T.srcKeep
    p.val) ≠ 0))) ∧
    (∃ (s : State) (p : Fin 24) (i : Instr), s.calm p.val = true ∧ s.dev.attached p.val = true ∧ ((i =
    .tsenderResponseExpiry p ∧ s.dev.get (T.senderResp p.val) ≠ 0 ∧ s.dev.get (H.await p.val) = 2) ∨ (i =
    .ttypecSinkWaitCapExpiry p ∧ s.dev.get (T.waitCap p.val) ≠ 0 ∧ s.dev.get (H.hrTry p.val) < 2) ∨ (i =
    .tpsTransitionExpiry p ∧ s.dev.get (T.psTrans p.val) ≠ 0 ∧ s.dev.get (H.psDone p.val) = 0) ∨ (i =
    .tppsTimeoutExpiry p ∧ s.dev.get (T.ppsTo p.val) ≠ 0) ∨ (i = .tsourceEprKeepaliveExpiry p ∧ s.dev.get (T.srcKeep
    p.val) ≠ 0))) ∧
    (∃ (s : State) (p : Fin 24) (i : Instr), s.calm p.val = true ∧ s.dev.attached p.val = true ∧ ((i =
    .tsenderResponseExpiry p ∧ s.dev.get (T.senderResp p.val) ≠ 0 ∧ s.dev.get (H.await p.val) = 2) ∨ (i =
    .ttypecSinkWaitCapExpiry p ∧ s.dev.get (T.waitCap p.val) ≠ 0 ∧ s.dev.get (H.hrTry p.val) < 2) ∨ (i =
    .tpsTransitionExpiry p ∧ s.dev.get (T.psTrans p.val) ≠ 0 ∧ s.dev.get (H.psDone p.val) = 0) ∨ (i =
    .tppsTimeoutExpiry p ∧ s.dev.get (T.ppsTo p.val) ≠ 0) ∨ (i = .tsourceEprKeepaliveExpiry p ∧ s.dev.get (T.srcKeep
    p.val) ≠ 0))) ∧
    (∃ (s : State) (p : Fin 24) (i : Instr), s.calm p.val = true ∧ s.dev.attached p.val = true ∧ ((i =
    .tsenderResponseExpiry p ∧ s.dev.get (T.senderResp p.val) ≠ 0 ∧ s.dev.get (H.await p.val) = 2) ∨ (i =
    .ttypecSinkWaitCapExpiry p ∧ s.dev.get (T.waitCap p.val) ≠ 0 ∧ s.dev.get (H.hrTry p.val) < 2) ∨ (i =
    .tpsTransitionExpiry p ∧ s.dev.get (T.psTrans p.val) ≠ 0 ∧ s.dev.get (H.psDone p.val) = 0) ∨ (i =
    .tppsTimeoutExpiry p ∧ s.dev.get (T.ppsTo p.val) ≠ 0) ∨ (i = .tsourceEprKeepaliveExpiry p ∧ s.dev.get (T.srcKeep
    p.val) ≠ 0))) ∧
    (∃ (s : State) (p : Fin 24) (i : Instr), s.calm p.val = true ∧ s.dev.attached p.val = true ∧ ((i =
    .tsenderResponseExpiry p ∧ s.dev.get (T.senderResp p.val) ≠ 0 ∧ s.dev.get (H.await p.val) = 2) ∨ (i =
    .ttypecSinkWaitCapExpiry p ∧ s.dev.get (T.waitCap p.val) ≠ 0 ∧ s.dev.get (H.hrTry p.val) < 2) ∨ (i =
    .tpsTransitionExpiry p ∧ s.dev.get (T.psTrans p.val) ≠ 0 ∧ s.dev.get (H.psDone p.val) = 0) ∨ (i =
    .tppsTimeoutExpiry p ∧ s.dev.get (T.ppsTo p.val) ≠ 0) ∨ (i = .tsourceEprKeepaliveExpiry p ∧ s.dev.get (T.srcKeep
    p.val) ≠ 0))) ∧
    (∃ (s : State) (p : Fin 24) (hdr : BitVec 16), s.dev.get (H.hpmVerd p.val) = 0 ∧ s.calm p.val = true ∧
    s.dev.listens p.val = true ∧ s.dev.rxRepeat p.val 0 hdr.toNat = false ∧ s.dev.get (H.bistData p.val) = 0) ∧
    (∃ (s : State) (p : Fin 24), s.dev.get (H.hpmVerd p.val) = 0 ∧ s.calm p.val = true ∧ s.dev.get (H.swAcc p.val) = 0
    ∧ s.dev.get (T.chunk p.val) ≠ 0) :=
  ⟨⟨st [(H.pdOn 3, 1), (F.PRT_PE_STAT_REV 3, 2), (F.PRT_ATT_STAT_STATE 3, 3), (T.enterEpr 3, 1001)], 3, 0, by decide,
    by decide, by decide, by decide⟩,
   ⟨st [(F.PRT_ATT_STAT_STATE 3, 8), (T.senderResp 3, 1001), (H.await 3, 2)], 3, .tsenderResponseExpiry 3, by decide,
    by decide, by decide⟩,
   ⟨st [(F.PRT_ATT_STAT_STATE 3, 8), (T.waitCap 3, 1001)], 3, .ttypecSinkWaitCapExpiry 3, by decide, by decide, by
    decide⟩,
   ⟨st [(F.PRT_ATT_STAT_STATE 3, 8), (T.psTrans 3, 1001)], 3, .tpsTransitionExpiry 3, by decide, by decide, by decide⟩,
   ⟨st [(F.PRT_ATT_STAT_STATE 3, 8), (T.ppsTo 3, 1001)], 3, .tppsTimeoutExpiry 3, by decide, by decide, by decide⟩,
   ⟨st [(F.PRT_ATT_STAT_STATE 3, 8), (T.srcKeep 3, 1001)], 3, .tsourceEprKeepaliveExpiry 3, by decide, by decide, by
    decide⟩,
   ⟨st [(H.hpmVerd 3, 0), (H.pdOn 3, 1), (F.PRT_PE_STAT_REV 3, 2), (F.PRT_ATT_STAT_STATE 3, 8), (H.bistData 3, 0)], 3,
    0, by decide, by decide, by decide, by decide, by decide⟩,
   ⟨st [(H.hpmVerd 3, 0), (H.swAcc 3, 0), (T.chunk 3, 1001)], 3, by decide, by decide, by decide, by decide⟩⟩

theorem witness_NegotiationAndProtocolTimersComplete_4 :
    (∃ (s : State) (p : Fin 24), s.calm p.val = true ∧ s.dev.mode ≠ 2 ∧ s.dev.attached p.val = true ∧ s.dev.get (H.pdOn
    p.val) = 1 ∧ s.dev.get (H.swAcc p.val) = 0) ∧
    (∃ (s : State) (p : Fin 24), s.calm p.val = true ∧ s.dev.get (T.sinkReq p.val) ≠ 0 ∧ s.dev.permitted p.val = false) ∧
    (∃ (s : State) (p : Fin 24), s.calm p.val = true ∧ s.dev.get (T.sinkReq p.val) ≠ 0 ∧ s.dev.permitted p.val = true ∧
    s.dev.pe p.val = 12) ∧
    (∃ (s : State) (p : Fin 24), s.calm p.val = true ∧ s.dev.get (T.ppsReq p.val) ≠ 0) ∧
    (∃ (s : State) (p : Fin 24), s.calm p.val = true ∧ s.dev.get (T.snkKeep p.val) ≠ 0) ∧
    (∃ (s : State) (p : Fin 24) (c : Cmd) (l : List Cmd), s.calm p.val = true ∧ s.dev.get (T.enterEpr p.val) ≠ 0 ∧
    s.dev.get (H.cmdRun p.val) = 1 ∧ s.dev.get (H.ceilCmdRun p.val) = 0 ∧ s.dev.cmds p.val = c :: l) ∧
    (∃ (s : State) (p : Fin 24), s.calm p.val = true ∧ s.dev.get (T.bist p.val) ≠ 0) ∧
    (∃ (s : State) (p : Fin 24), s.calm p.val = true ∧ s.dev.get (T.ask p.val) ≠ 0 ∧ s.dev.get (F.PRT_PE_STAT_ASKPEND
    p.val) = 1 ∧ s.dev.get (F.PRT_PE_STAT_ASKCODE p.val) = 0 ∧ (s.dev.pstg p.val 0x30).testBit 31 = false) :=
  ⟨⟨st [(F.PRT_ATT_STAT_STATE 3, 8), (H.pdOn 3, 1), (H.swAcc 3, 0)], 3, by decide, by decide, by decide, by decide, by
    decide⟩,
   ⟨st [(T.sinkReq 3, 1001), (F.PRT_ATT_STAT_STATE 3, 3), (F.PRT_PE_STAT_REV 3, 2), (H.rpLevel 3, 4)], 3, by decide,
    by decide, by decide⟩,
   ⟨st [(T.sinkReq 3, 1001), (F.PRT_PE_STAT_STATE 3, 12)], 3, by decide, by decide, by decide, by decide⟩,
   ⟨st [(T.ppsReq 3, 1001)], 3, by decide, by decide⟩,
   ⟨st [(T.snkKeep 3, 1001)], 3, by decide, by decide⟩,
   ⟨(st [(T.enterEpr 3, 1001), (H.cmdRun 3, 1), (H.ceilCmdRun 3, 0)]).onDev (·.setCmds 3 [⟨1, 0, 0, 5, 100000000,
    false, false⟩]), 3, ⟨1, 0, 0, 5, 100000000, false, false⟩, [], by decide, by decide, by decide, by decide, by
    decide⟩,
   ⟨st [(T.bist 3, 1001)], 3, by decide, by decide⟩,
   ⟨st [(T.ask 3, 1001), (F.PRT_PE_STAT_ASKPEND 3, 1), (F.PRT_PE_STAT_ASKCODE 3, 0)], 3, by decide, by decide, by
    decide, by decide, by decide⟩⟩

theorem witness_NegotiationAndProtocolTimersComplete_5 :
    (∃ (s : State) (a : Agent) (p : Fin 24) (v : Word) (act : Nat) (u : State), act = bits v.toNat 16 3 ∧ u = s.onDev
    (fun d => d.touch a) ∧ u.keepsPort p.val = true ∧ u.answerLate a p.val = false ∧ u.dev.get (F.PRT_PE_STAT_ASKPEND
    p.val) = 1 ∧ bits v.toNat 24 12 = u.dev.get (F.PRT_PE_STAT_ASKSER p.val) ∧ bits v.toNat 20 4 = 0 ∧ u.dev.get
    (F.PRT_PE_STAT_ASKCODE p.val) = 0 ∧ u.dev.now + 1 < u.dev.get (T.ask p.val) ∧ act ≤ 1) ∧
    (∃ (s : State) (a : Agent) (p : Fin 24) (v : Word) (act : Nat) (u : State), act = bits v.toNat 16 3 ∧ u = s.onDev
    (fun d => d.touch a) ∧ u.keepsPort p.val = true ∧ (u.answerLate a p.val = true ∨ u.dev.get (F.PRT_PE_STAT_ASKPEND
    p.val) = 0 ∨ bits v.toNat 24 12 ≠ u.dev.get (F.PRT_PE_STAT_ASKSER p.val) ∨ u.dev.get (T.ask p.val) ≤ u.dev.now +
    1)) ∧
    (∃ (s : State) (a : Agent) (v : Word) (act : Nat) (u : State), act = bits v.toNat 16 3 ∧ u = s.onDev (fun d =>
    d.touch a) ∧ u.dev.isRom a = true ∧ (8 < bits v.toNat 32 4 ∨ actAllowed (bits v.toNat 32 4) (bits v.toNat 28 3) =
    true)) ∧
    (∃ (s : State) (a : Agent) (v : Word) (act : Nat) (u : State), act = bits v.toNat 16 3 ∧ u = s.onDev (fun d =>
    d.touch a) ∧ u.dev.isRom a = false) :=
  ⟨⟨st [(F.PRT_PE_STAT_ASKPEND 3, 1), (F.PRT_PE_STAT_ASKCODE 3, 0), (T.ask 3, 5000)], (.core 0), 3, 0x10000, 1, _, by
    decide, rfl, by decide, by decide, by decide, by decide, by decide, by decide, by decide, by decide⟩,
   ⟨st [], (.core 0), 3, 0, _, _, rfl, rfl, by decide, by decide⟩,
   ⟨st [(F.CORE_STAT_STATE 0, 1), (F.CORE_P_P 0, 65536)], (.core 0), 0, _, _, rfl, rfl, by decide, by decide⟩,
   ⟨st [], (.core 0), 0, _, _, rfl, rfl, by decide⟩⟩

theorem witness_TransitionsRecoveriesAndSwapsComplete_1 :
    (∃ (s : State) (p : Fin 24) (v : Nat), s.calm p.val = true ∧ s.dev.get (T.srcTrans p.val) ≠ 0 ∧ v = bits (s.dev.get
    (H.newCon p.val)) 14 13 ∧ s.dev.get (H.swAcc p.val) = 0 ∧ s.dev.get (H.resume p.val) = 0) ∧
    (∃ (s : State) (p : Fin 24) (v : Nat), s.calm p.val = true ∧ s.dev.get (T.srcTrans p.val) ≠ 0 ∧ v = bits (s.dev.get
    (H.newCon p.val)) 14 13 ∧ s.dev.get (H.swAcc p.val) = 1) ∧
    (∃ (s : State) (p : Fin 24), s.calm p.val = true ∧ s.dev.get (T.ramp p.val) ≠ 0 ∧ s.dev.get (H.hrPhase p.val) = 0 ∧
    s.dev.get (H.swAcc p.val) = 0 ∧ s.dev.get (H.rampReq p.val) = 0 ∧ s.dev.get (H.imode p.val) = 0 ∧ s.dev.get
    (H.xferOn p.val) = 1) ∧
    (∃ (s : State) (p : Fin 24), s.calm p.val = true ∧ s.dev.get (T.ramp p.val) ≠ 0 ∧ s.dev.get (H.hrPhase p.val) = 0 ∧
    s.dev.get (H.swAcc p.val) = 0 ∧ s.dev.get (H.rampReq p.val) = 1 ∧ s.dev.epr p.val = false) ∧
    (∃ (s : State) (p : Fin 24), s.calm p.val = true ∧ s.dev.get (H.settleOn p.val) = 1 ∧ s.dev.get (H.snkMask p.val) ≠
    1 ∧ (s.dev.get (H.xferKind p.val) = 1 ∨ s.dev.get (H.xferKind p.val) = 3)) ∧
    (∃ (s : State) (p : Fin 24), s.calm p.val = true ∧ s.dev.isSnk p.val = true ∧ s.dev.get (H.snkMask p.val) = 1 ∧
    s.dev.get (H.maskEnd p.val) ≠ 0) ∧
    (∃ (s : State) (p : Fin 24), s.calm p.val = true ∧ s.dev.get (T.pgto p.val) ≠ 0 ∧ s.dev.get (H.swAcc p.val) = 0 ∧
    s.dev.attached p.val = true ∧ s.dev.get (H.xferKind p.val) ≠ 2) ∧
    (∃ (s : State) (p : Fin 24), s.calm p.val = true ∧ s.dev.get (H.swAcc p.val) = 0 ∧ s.dev.isSrc p.val = true ∧
    s.dev.get (F.PRT_CONTRACT_VALID p.val) = 1) :=
  ⟨⟨st [(T.srcTrans 3, 1001), (H.swAcc 3, 0), (H.resume 3, 0)], 3, _, by decide, by decide, rfl, by decide, by decide⟩,
   ⟨st [(T.srcTrans 3, 1001), (H.swAcc 3, 1)], 3, _, by decide, by decide, rfl, by decide⟩,
   ⟨st [(T.ramp 3, 1001), (H.hrPhase 3, 0), (H.swAcc 3, 0), (H.rampReq 3, 0), (H.imode 3, 0), (H.xferOn 3, 1)], 3, by
    decide, by decide, by decide, by decide, by decide, by decide, by decide⟩,
   ⟨st [(T.ramp 3, 1001), (H.hrPhase 3, 0), (H.swAcc 3, 0), (H.rampReq 3, 1)], 3, by decide, by decide, by decide, by
    decide, by decide, by decide⟩,
   ⟨st [(H.settleOn 3, 1), (H.xferKind 3, 1)], 3, by decide, by decide, by decide, by decide⟩,
   ⟨st [(F.PRT_ATT_STAT_STATE 3, 3), (H.snkMask 3, 1), (H.maskEnd 3, 1)], 3, by decide, by decide, by decide, by
    decide⟩,
   ⟨st [(T.pgto 3, 1001), (H.swAcc 3, 0), (F.PRT_ATT_STAT_STATE 3, 8)], 3, by decide, by decide, by decide, by decide,
    by decide⟩,
   ⟨st [(H.swAcc 3, 0), (F.PRT_ATT_STAT_STATE 3, 8), (F.PRT_CONTRACT_VALID 3, 1)], 3, by decide, by decide, by decide,
    by decide⟩⟩

theorem witness_TransitionsRecoveriesAndSwapsComplete_2 :
    (∃ (s : State) (p : Fin 24), s.calm p.val = true ∧ s.dev.get (H.pg p.val) = 0 ∧ s.dev.get (H.swAcc p.val) = 0 ∧
    s.dev.isSnk p.val = true ∧ s.dev.gatesOn p.val = true ∧ s.dev.get (H.rampReq p.val) = 0) ∧
    (∃ (s : State) (p : Fin 24), s.calm p.val = true ∧ s.dev.isSrc p.val = true ∧ s.dev.get (F.PRT_CONTRACT_VALID
    p.val) = 1 ∧ s.dev.conKind p.val = 3 ∧ s.dev.get (H.xferOn p.val) = 0) ∧
    (∃ (s : State) (p : Fin 24), s.calm p.val = true ∧ s.dev.get (H.hrPhase p.val) = 1 ∧ s.dev.isSnk p.val = false ∧
    s.dev.get (H.cmdRun p.val) = 0) ∧
    (∃ (s : State) (p : Fin 24), s.calm p.val = true ∧ s.dev.get (H.hrPhase p.val) = 1 ∧ s.dev.isSnk p.val = true) ∧
    (∃ (s : State) (p : Fin 24) (c : Cmd) (l : List Cmd), s.calm p.val = true ∧ s.dev.get (H.hrPhase p.val) = 1 ∧
    s.dev.get (H.cmdRun p.val) = 1 ∧ s.dev.cmds p.val = c :: l) ∧
    (∃ (s : State) (p : Fin 24), s.calm p.val = true ∧ s.dev.get (T.psHr p.val) ≠ 0 ∧ s.dev.get (H.hrPhase p.val) = 2) ∧
    (∃ (s : State) (p : Fin 24), s.calm p.val = true ∧ s.dev.get (T.safe0v p.val) ≠ 0 ∧ s.dev.get (H.swAcc p.val) = 0 ∧
    s.dev.get (H.hrPhase p.val) = 3 ∧ s.dev.att p.val ≠ 0) ∧
    (∃ (s : State) (p : Fin 24), s.calm p.val = true ∧ s.dev.get (T.srcRec p.val) ≠ 0 ∧ s.dev.get (H.hrPhase p.val) = 4
    ∧ s.dev.get (H.pdOn p.val) = 1) :=
  ⟨⟨st [(H.pg 3, 0), (H.swAcc 3, 0), (F.PRT_ATT_STAT_STATE 3, 3), (H.rampReq 3, 0), (F.GRD_STAT_GATES 3, 2)], 3, by
    decide, by decide, by decide, by decide, by decide, by decide⟩,
   ⟨st [(F.PRT_ATT_STAT_STATE 3, 8), (F.PRT_CONTRACT_VALID 3, 1), (F.PRT_CONTRACT_KIND 3, 3), (H.xferOn 3, 0)], 3, by
    decide, by decide, by decide, by decide, by decide⟩,
   ⟨st [(H.hrPhase 3, 1), (H.cmdRun 3, 0)], 3, by decide, by decide, by decide, by decide⟩,
   ⟨st [(H.hrPhase 3, 1), (F.PRT_ATT_STAT_STATE 3, 3)], 3, by decide, by decide, by decide⟩,
   ⟨(st [(H.hrPhase 3, 1), (H.cmdRun 3, 1)]).onDev (·.setCmds 3 [⟨1, 0, 0, 5, 100000000, false, false⟩]), 3, ⟨1, 0, 0,
    5, 100000000, false, false⟩, [], by decide, by decide, by decide, by decide⟩,
   ⟨st [(T.psHr 3, 1001), (H.hrPhase 3, 2)], 3, by decide, by decide, by decide⟩,
   ⟨st [(T.safe0v 3, 1001), (H.swAcc 3, 0), (H.hrPhase 3, 3), (F.PRT_ATT_STAT_STATE 3, 8)], 3, by decide, by decide,
    by decide, by decide, by decide⟩,
   ⟨st [(T.srcRec 3, 1001), (H.hrPhase 3, 4), (H.pdOn 3, 1)], 3, by decide, by decide, by decide, by decide⟩⟩

theorem witness_TransitionsRecoveriesAndSwapsComplete_3 :
    (∃ (s : State) (p : Fin 24), s.calm p.val = true ∧ s.dev.get (F.PRT_SWAP_STAT_STEP p.val) = 3 ∧ s.dev.get
    (T.backOff p.val) ≠ 0 ∧ 4 < s.dev.get (H.swBack p.val)) ∧
    (∃ (s : State) (p : Fin 24), s.calm p.val = true ∧ s.dev.get (F.PRT_SWAP_STAT_STEP p.val) = 3 ∧ s.dev.get (T.prWait
    p.val) ≠ 0 ∧ s.dev.get (H.swBack p.val) ≤ 4) ∧
    (∃ (s : State) (p : Fin 24), s.calm p.val = true ∧ s.dev.get (F.PRT_SWAP_STAT_STEP p.val) = 3 ∧ s.dev.get
    (T.backOff p.val) ≠ 0 ∧ s.dev.get (H.swBack p.val) ≤ 4) ∧
    (∃ (s : State) (p : Fin 24), s.calm p.val = true ∧ s.dev.get (T.swGates p.val) ≠ 0 ∧ (s.dev.gates p.val = 1 ∨
    s.dev.gates p.val = 2)) ∧
    (∃ (s : State) (p : Fin 24) (i : Instr) (code : Nat), s.calm p.val = true ∧ s.dev.get (H.swAcc p.val) = 1 ∧
    s.dev.att p.val ≠ 0 ∧ ((i = .tpsSourceOffExpiry p ∧ s.dev.get (T.psOff p.val) ≠ 0 ∧ code = 8) ∨ (i =
    .tpsSourceOnExpiry p ∧ s.dev.get (T.psOn p.val) ≠ 0 ∧ s.dev.get (F.PRT_SWAP_STAT_STEP p.val) = 7 ∧ code = 9) ∨ (i =
    .tpsSourceOnExpiry p ∧ s.dev.get (T.psOn p.val) ≠ 0 ∧ s.dev.get (F.PRT_SWAP_STAT_STEP p.val) = 9 ∧ s.dev.txs p.val
    = [] ∧ code = 11) ∨ (i = .swapVbsTimeout p ∧ s.dev.get (T.swVbs p.val) ≠ 0 ∧ code = 10) ∨ (i = .tsafe0vExpiry p ∧
    s.dev.get (T.safe0v p.val) ≠ 0 ∧ code = 10) ∨ (i = .pgtoExpiry p ∧ s.dev.get (T.pgto p.val) ≠ 0 ∧ code = 11) ∨ (i =
    .rxHardReset p ∧ s.dev.mode ≠ 2 ∧ s.dev.attached p.val = true ∧ s.dev.get (H.pdOn p.val) = 1 ∧ code = 12))) ∧
    (∃ (s : State) (p : Fin 24) (i : Instr) (code : Nat), s.calm p.val = true ∧ s.dev.get (H.swAcc p.val) = 1 ∧
    s.dev.att p.val ≠ 0 ∧ ((i = .tpsSourceOffExpiry p ∧ s.dev.get (T.psOff p.val) ≠ 0 ∧ code = 8) ∨ (i =
    .tpsSourceOnExpiry p ∧ s.dev.get (T.psOn p.val) ≠ 0 ∧ s.dev.get (F.PRT_SWAP_STAT_STEP p.val) = 7 ∧ code = 9) ∨ (i =
    .tpsSourceOnExpiry p ∧ s.dev.get (T.psOn p.val) ≠ 0 ∧ s.dev.get (F.PRT_SWAP_STAT_STEP p.val) = 9 ∧ s.dev.txs p.val
    = [] ∧ code = 11) ∨ (i = .swapVbsTimeout p ∧ s.dev.get (T.swVbs p.val) ≠ 0 ∧ code = 10) ∨ (i = .tsafe0vExpiry p ∧
    s.dev.get (T.safe0v p.val) ≠ 0 ∧ code = 10) ∨ (i = .pgtoExpiry p ∧ s.dev.get (T.pgto p.val) ≠ 0 ∧ code = 11) ∨ (i =
    .rxHardReset p ∧ s.dev.mode ≠ 2 ∧ s.dev.attached p.val = true ∧ s.dev.get (H.pdOn p.val) = 1 ∧ code = 12))) ∧
    (∃ (s : State) (p : Fin 24) (i : Instr) (code : Nat), s.calm p.val = true ∧ s.dev.get (H.swAcc p.val) = 1 ∧
    s.dev.att p.val ≠ 0 ∧ ((i = .tpsSourceOffExpiry p ∧ s.dev.get (T.psOff p.val) ≠ 0 ∧ code = 8) ∨ (i =
    .tpsSourceOnExpiry p ∧ s.dev.get (T.psOn p.val) ≠ 0 ∧ s.dev.get (F.PRT_SWAP_STAT_STEP p.val) = 7 ∧ code = 9) ∨ (i =
    .tpsSourceOnExpiry p ∧ s.dev.get (T.psOn p.val) ≠ 0 ∧ s.dev.get (F.PRT_SWAP_STAT_STEP p.val) = 9 ∧ s.dev.txs p.val
    = [] ∧ code = 11) ∨ (i = .swapVbsTimeout p ∧ s.dev.get (T.swVbs p.val) ≠ 0 ∧ code = 10) ∨ (i = .tsafe0vExpiry p ∧
    s.dev.get (T.safe0v p.val) ≠ 0 ∧ code = 10) ∨ (i = .pgtoExpiry p ∧ s.dev.get (T.pgto p.val) ≠ 0 ∧ code = 11) ∨ (i =
    .rxHardReset p ∧ s.dev.mode ≠ 2 ∧ s.dev.attached p.val = true ∧ s.dev.get (H.pdOn p.val) = 1 ∧ code = 12))) ∧
    (∃ (s : State) (p : Fin 24) (i : Instr) (code : Nat), s.calm p.val = true ∧ s.dev.get (H.swAcc p.val) = 1 ∧
    s.dev.att p.val ≠ 0 ∧ ((i = .tpsSourceOffExpiry p ∧ s.dev.get (T.psOff p.val) ≠ 0 ∧ code = 8) ∨ (i =
    .tpsSourceOnExpiry p ∧ s.dev.get (T.psOn p.val) ≠ 0 ∧ s.dev.get (F.PRT_SWAP_STAT_STEP p.val) = 7 ∧ code = 9) ∨ (i =
    .tpsSourceOnExpiry p ∧ s.dev.get (T.psOn p.val) ≠ 0 ∧ s.dev.get (F.PRT_SWAP_STAT_STEP p.val) = 9 ∧ s.dev.txs p.val
    = [] ∧ code = 11) ∨ (i = .swapVbsTimeout p ∧ s.dev.get (T.swVbs p.val) ≠ 0 ∧ code = 10) ∨ (i = .tsafe0vExpiry p ∧
    s.dev.get (T.safe0v p.val) ≠ 0 ∧ code = 10) ∨ (i = .pgtoExpiry p ∧ s.dev.get (T.pgto p.val) ≠ 0 ∧ code = 11) ∨ (i =
    .rxHardReset p ∧ s.dev.mode ≠ 2 ∧ s.dev.attached p.val = true ∧ s.dev.get (H.pdOn p.val) = 1 ∧ code = 12))) :=
  ⟨⟨st [(F.PRT_SWAP_STAT_STEP 3, 3), (T.backOff 3, 1001), (H.swBack 3, 5)], 3, by decide, by decide, by decide, by
    decide⟩,
   ⟨st [(F.PRT_SWAP_STAT_STEP 3, 3), (T.prWait 3, 1001)], 3, by decide, by decide, by decide, by decide⟩,
   ⟨st [(F.PRT_SWAP_STAT_STEP 3, 3), (T.backOff 3, 1001)], 3, by decide, by decide, by decide, by decide⟩,
   ⟨st [(T.swGates 3, 1001), (F.GRD_STAT_GATES 3, 2)], 3, by decide, by decide, by decide⟩,
   ⟨st [(H.swAcc 3, 1), (F.PRT_ATT_STAT_STATE 3, 8), (T.psOff 3, 1001)], 3, .tpsSourceOffExpiry 3, 8, by decide, by
    decide, by decide, by decide⟩,
   ⟨st [(H.swAcc 3, 1), (F.PRT_ATT_STAT_STATE 3, 8), (T.psOn 3, 1001), (F.PRT_SWAP_STAT_STEP 3, 7)], 3,
    .tpsSourceOnExpiry 3, 9, by decide, by decide, by decide, by decide⟩,
   ⟨st [(H.swAcc 3, 1), (F.PRT_ATT_STAT_STATE 3, 8), (T.swVbs 3, 1001)], 3, .swapVbsTimeout 3, 10, by decide, by
    decide, by decide, by decide⟩,
   ⟨st [(H.swAcc 3, 1), (F.PRT_ATT_STAT_STATE 3, 8), (T.safe0v 3, 1001)], 3, .tsafe0vExpiry 3, 10, by decide, by
    decide, by decide, by decide⟩⟩

theorem witness_TransitionsRecoveriesAndSwapsComplete_4 :
    (∃ (s : State) (p : Fin 24) (i : Instr) (code : Nat), s.calm p.val = true ∧ s.dev.get (H.swAcc p.val) = 1 ∧
    s.dev.att p.val ≠ 0 ∧ ((i = .tpsSourceOffExpiry p ∧ s.dev.get (T.psOff p.val) ≠ 0 ∧ code = 8) ∨ (i =
    .tpsSourceOnExpiry p ∧ s.dev.get (T.psOn p.val) ≠ 0 ∧ s.dev.get (F.PRT_SWAP_STAT_STEP p.val) = 7 ∧ code = 9) ∨ (i =
    .tpsSourceOnExpiry p ∧ s.dev.get (T.psOn p.val) ≠ 0 ∧ s.dev.get (F.PRT_SWAP_STAT_STEP p.val) = 9 ∧ s.dev.txs p.val
    = [] ∧ code = 11) ∨ (i = .swapVbsTimeout p ∧ s.dev.get (T.swVbs p.val) ≠ 0 ∧ code = 10) ∨ (i = .tsafe0vExpiry p ∧
    s.dev.get (T.safe0v p.val) ≠ 0 ∧ code = 10) ∨ (i = .pgtoExpiry p ∧ s.dev.get (T.pgto p.val) ≠ 0 ∧ code = 11) ∨ (i =
    .rxHardReset p ∧ s.dev.mode ≠ 2 ∧ s.dev.attached p.val = true ∧ s.dev.get (H.pdOn p.val) = 1 ∧ code = 12))) ∧
    (∃ (s : State) (p : Fin 24) (i : Instr) (code : Nat), s.calm p.val = true ∧ s.dev.get (H.swAcc p.val) = 1 ∧
    s.dev.att p.val ≠ 0 ∧ ((i = .tpsSourceOffExpiry p ∧ s.dev.get (T.psOff p.val) ≠ 0 ∧ code = 8) ∨ (i =
    .tpsSourceOnExpiry p ∧ s.dev.get (T.psOn p.val) ≠ 0 ∧ s.dev.get (F.PRT_SWAP_STAT_STEP p.val) = 7 ∧ code = 9) ∨ (i =
    .tpsSourceOnExpiry p ∧ s.dev.get (T.psOn p.val) ≠ 0 ∧ s.dev.get (F.PRT_SWAP_STAT_STEP p.val) = 9 ∧ s.dev.txs p.val
    = [] ∧ code = 11) ∨ (i = .swapVbsTimeout p ∧ s.dev.get (T.swVbs p.val) ≠ 0 ∧ code = 10) ∨ (i = .tsafe0vExpiry p ∧
    s.dev.get (T.safe0v p.val) ≠ 0 ∧ code = 10) ∨ (i = .pgtoExpiry p ∧ s.dev.get (T.pgto p.val) ≠ 0 ∧ code = 11) ∨ (i =
    .rxHardReset p ∧ s.dev.mode ≠ 2 ∧ s.dev.attached p.val = true ∧ s.dev.get (H.pdOn p.val) = 1 ∧ code = 12))) ∧
    (∃ (s : State) (p : Fin 24), s.calm p.val = true ∧ s.dev.get (T.swStart p.val) ≠ 0) ∧
    (∃ (s : State) (p : Fin 24) (hdr : BitVec 16), s.hears p.val hdr.toNat = true ∧ s.dev.get (F.PRT_SWAP_STAT_STEP
    p.val) = 2) ∧
    (∃ (s : State) (p : Fin 24) (hdr : BitVec 16), s.hears p.val hdr.toNat = true ∧ s.dev.get (F.PRT_SWAP_STAT_STEP
    p.val) ≠ 2 ∧ s.dev.ownAwaits p.val = true) ∧
    (∃ (s : State) (p : Fin 24) (hdr : BitVec 16), s.hears p.val hdr.toNat = true ∧ s.dev.get (F.PRT_SWAP_STAT_STEP
    p.val) ≠ 2 ∧ s.dev.get (H.exOn p.val) = 0 ∧ (s.dev.explicit p.val = false ∨ s.dev.epr p.val = true ∨ s.dev.get
    (F.PRT_SWAP_CTRL_RXEN p.val) = 0 ∨ (s.dev.get (F.PRT_CTRL_ROLE p.val) = 1 ∧ s.dev.isSrc p.val = true) ∨ (s.dev.get
    (F.PRT_CTRL_ROLE p.val) = 2 ∧ s.dev.isSrc p.val = false))) ∧
    (∃ (s : State) (p : Fin 24) (hdr : BitVec 16), s.hears p.val hdr.toNat = true ∧ s.dev.get (F.PRT_SWAP_STAT_STEP
    p.val) = 0 ∧ s.dev.get (H.exOn p.val) = 0 ∧ s.dev.explicit p.val = true ∧ s.dev.epr p.val = false ∧ s.dev.get
    (F.PRT_SWAP_CTRL_RXEN p.val) = 1 ∧ s.dev.get (F.PRT_CTRL_ROLE p.val) = 0 ∧ s.dev.cmds p.val = []) :=
  ⟨⟨st [(H.swAcc 3, 1), (F.PRT_ATT_STAT_STATE 3, 8), (T.pgto 3, 1001)], 3, .pgtoExpiry 3, 11, by decide, by decide, by
    decide, by decide⟩,
   ⟨st [(H.swAcc 3, 1), (F.PRT_ATT_STAT_STATE 3, 8), (H.pdOn 3, 1)], 3, .rxHardReset 3, 12, by decide, by decide, by
    decide, by decide⟩,
   ⟨st [(T.swStart 3, 1001)], 3, by decide, by decide⟩,
   ⟨st [(H.pdOn 3, 1), (F.PRT_PE_STAT_REV 3, 2), (F.PRT_ATT_STAT_STATE 3, 8), (F.PRT_SWAP_STAT_STEP 3, 2)], 3, 0, by
    decide, by decide⟩,
   ⟨st [(H.pdOn 3, 1), (F.PRT_PE_STAT_REV 3, 2), (F.PRT_ATT_STAT_STATE 3, 8), (H.exOn 3, 1), (H.exOwn 3, 1), (H.await
    3, 1)], 3, 0, by decide, by decide, by decide⟩,
   ⟨st [(H.pdOn 3, 1), (F.PRT_PE_STAT_REV 3, 2), (F.PRT_ATT_STAT_STATE 3, 8), (H.exOn 3, 0), (F.PRT_PE_STAT_EPR 3,
    1)], 3, 0, by decide, by decide, by decide, by decide⟩,
   ⟨st [(H.pdOn 3, 1), (F.PRT_PE_STAT_REV 3, 2), (F.PRT_ATT_STAT_STATE 3, 8), (F.PRT_SWAP_STAT_STEP 3, 0), (H.exOn 3,
    0), (F.PRT_CONTRACT_VALID 3, 1), (F.PRT_CONTRACT_KIND 3, 2), (F.PRT_SWAP_CTRL_RXEN 3, 1), (F.PRT_CTRL_ROLE 3, 0)],
    3, 0, by decide, by decide, by decide, by decide, by decide, by decide, by decide, by decide⟩⟩

theorem witness_HeavyPortModeCommandsComplete_1 :
    (∃ (s : State) (p : Fin 24) (hdr : BitVec 16) (h : Obj) (v : List Obj), s.hears p.val hdr.toNat = true ∧
    s.dev.vdmMatches p.val 0 h.toNat = true ∧ s.dev.get (H.vdmWhat p.val) = 1 ∧ (v.map (·.toNat)).headD 0 / 2 ^ 26 % 2
    = 0 ∧ s.dev.pe p.val ≠ 1 ∧ s.dev.get (H.hpmOn p.val) = 0) ∧
    (∃ (s : State) (p : Fin 24) (hdr : BitVec 16) (h : Obj), s.hears p.val hdr.toNat = true ∧ s.dev.vdmMatches p.val 0
    h.toNat = true ∧ s.dev.get (H.vdmWhat p.val) = 7) ∧
    (∃ (s : State) (p : Fin 24) (hdr : BitVec 16) (h : Obj), s.hears p.val hdr.toNat = true ∧ s.dev.vdmMatches p.val 0
    h.toNat = true ∧ s.dev.get (H.vdmWhat p.val) = 4) ∧
    (∃ (s : State) (p : Fin 24) (hdr : BitVec 16) (h : Obj), s.hears p.val hdr.toNat = true ∧ s.dev.vdmMatches p.val 0
    h.toNat = true ∧ s.dev.get (H.vdmBusyN p.val) < 3) ∧
    (∃ (s : State) (p : Fin 24) (v : List Obj) (hdr : BitVec 16) (h : Obj), s.calm p.val = true ∧ s.dev.rxOn p.val =
    true ∧ s.dev.rxRepeat p.val 1 hdr.toNat = false ∧ s.dev.vdmMatches p.val 1 h.toNat = true ∧ s.dev.get (H.vdmWhat
    p.val) = 1 ∧ bits ((v.map (·.toNat)).getD 0 0) 26 4 = 6 ∧ s.dev.pe p.val ≠ 1) ∧
    (∃ (s : State) (p : Fin 24), s.calm p.val = true ∧ s.dev.get (T.vdmBusy p.val) ≠ 0 ∧ s.dev.get (H.vdmWhat p.val) =
    7) ∧
    (∃ (s : State) (p : Fin 24), s.calm p.val = true ∧ s.dev.get (T.ceilResp p.val) ≠ 0 ∧ s.dev.get (T.vdmResp p.val) =
    0) ∧
    (∃ (s : State) (p : Fin 24), s.calm p.val = true ∧ s.dev.get (T.ceilResp p.val) = 0 ∧ s.dev.get (T.vdmResp p.val) ≠
    0 ∧ s.dev.get (H.vdmWhat p.val) = 1 ∧ s.dev.get (H.vdmTgt p.val) = 1 ∧ s.dev.get (H.vdmCmd p.val) = 0 ∧ s.dev.get
    F.SYS_SUPPLY_VCONNLOW = 0 ∧ s.dev.get (H.vdmCnt p.val) < 20) :=
  ⟨⟨st [(H.pdOn 3, 1), (F.PRT_PE_STAT_REV 3, 2), (F.PRT_ATT_STAT_STATE 3, 8), (H.vdmWhat 3, 1), (H.hpmOn 3, 0)], 3, 0,
    0xFF000001, [], by decide, by decide, by decide, by decide, by decide, by decide⟩,
   ⟨st [(H.pdOn 3, 1), (F.PRT_PE_STAT_REV 3, 2), (F.PRT_ATT_STAT_STATE 3, 8), (H.vdmWhat 3, 7)], 3, 0, 0x3C5A0017, by
    decide, by decide, by decide⟩,
   ⟨st [(H.pdOn 3, 1), (F.PRT_PE_STAT_REV 3, 2), (F.PRT_ATT_STAT_STATE 3, 8), (H.vdmWhat 3, 4)], 3, 0, 0x3C5A0004, by
    decide, by decide, by decide⟩,
   ⟨st [(H.pdOn 3, 1), (F.PRT_PE_STAT_REV 3, 2), (F.PRT_ATT_STAT_STATE 3, 8), (H.vdmWhat 3, 1)], 3, 0, 0xFF000001, by
    decide, by decide, by decide⟩,
   ⟨st [(H.pdOn 3, 1), (F.PRT_ATT_STAT_STATE 3, 8), (H.vdmWhat 3, 1), (H.vdmTgt 3, 1)], 3, [BitVec.ofNat 32 (6 * 2 ^
    26)], 0, 0xFF000001, by decide, by decide, by decide, by decide, by decide, by decide, by decide⟩,
   ⟨st [(T.vdmBusy 3, 1001), (H.vdmWhat 3, 7)], 3, by decide, by decide, by decide⟩,
   ⟨st [(T.ceilResp 3, 1001), (T.vdmResp 3, 0)], 3, by decide, by decide, by decide⟩,
   ⟨st [(T.ceilResp 3, 0), (T.vdmResp 3, 1001), (H.vdmWhat 3, 1), (H.vdmTgt 3, 1), (H.vdmCmd 3, 0),
    (F.SYS_SUPPLY_VCONNLOW, 0)], 3, by decide, by decide, by decide, by decide, by decide, by decide, by decide, by
    decide⟩⟩

theorem witness_HeavyPortModeCommandsComplete_2 :
    (∃ (s : State) (p : Fin 24), s.calm p.val = true ∧ s.dev.get (T.discId p.val) ≠ 0) ∧
    (∃ (s : State) (p : Fin 24), s.calm p.val = true ∧ s.dev.get (T.vdmMode p.val) ≠ 0 ∧ s.dev.get (H.enterAck p.val) =
    1) ∧
    (∃ (s : State) (p : Fin 24), s.calm p.val = true ∧ s.dev.get (T.vdmMode p.val) ≠ 0 ∧ s.dev.get (H.enterAck p.val) =
    0 ∧ s.dev.get (H.vdmWhat p.val) = 4) ∧
    (∃ (s : State) (p : Fin 24) (hdr : BitVec 16) (h : Obj), s.hears p.val hdr.toNat = true ∧ s.dev.get (H.hpmOn p.val)
    = 1 ∧ bits h.toNat 16 16 = 0x3C5A) ∧
    (∃ (s : State) (p : Fin 24) (hdr : BitVec 16) (h : Obj), s.hears p.val hdr.toNat = true ∧ (s.dev.get (H.hpmOn
    p.val) = 0 ∨ bits h.toNat 16 16 ≠ 0x3C5A)) ∧
    (∃ (s : State) (p : Fin 24), s.calm p.val = true ∧ s.dev.hpmCond15 p.val = true ∧ s.dev.get (H.hpmNo p.val) = 0 ∧
    s.dev.get (H.pilot p.val) = 0 ∧ s.dev.get (H.lineBusy p.val) = 0) ∧
    (∃ (s : State) (p : Fin 24), s.calm p.val = true ∧ s.dev.hpmCond15 p.val = true ∧ s.dev.get (H.hpmNo p.val) = 0 ∧
    s.dev.get (H.pilot p.val) = 0 ∧ s.dev.get (H.lineBusy p.val) = 1) ∧
    (∃ (s : State) (p : Fin 24) (o : Bool) (c : Bool), s.calm p.val = true ∧ s.dev.get (T.pilot p.val) ≠ 0 ∧ s.dev.get
    (H.hpmCmd p.val) = 0 ∧ (o && c) = false) :=
  ⟨⟨st [(T.discId 3, 1001)], 3, by decide, by decide⟩,
   ⟨st [(T.vdmMode 3, 1001), (H.enterAck 3, 1)], 3, by decide, by decide, by decide⟩,
   ⟨st [(T.vdmMode 3, 1001), (H.enterAck 3, 0), (H.vdmWhat 3, 4)], 3, by decide, by decide, by decide, by decide⟩,
   ⟨st [(H.pdOn 3, 1), (F.PRT_PE_STAT_REV 3, 2), (F.PRT_ATT_STAT_STATE 3, 8), (H.hpmOn 3, 1)], 3, 0, 0x3C5A0000, by
    decide, by decide, by decide⟩,
   ⟨st [(H.pdOn 3, 1), (F.PRT_PE_STAT_REV 3, 2), (F.PRT_ATT_STAT_STATE 3, 8)], 3, 0, 0, by decide, by decide⟩,
   ⟨(st [(H.hpmNo 3, 0), (H.pilot 3, 0), (H.lineBusy 3, 0), (F.PRT_ATT_STAT_STATE 3, 8), (F.PRT_PE_CTRL_HPMEN 3, 1),
    (F.PRT_PE_STAT_REV 3, 2), (F.PRT_CONTRACT_VALID 3, 1), (F.PRT_CONTRACT_KIND 3, 2), (F.PRT_VDM_STAT_CBLID 3, 1),
    (F.SYS_GZQ_STAT_HC 0, 1)]).onDev (fun d => (d.pstgPut 3 0x85 0x18010000).pstgPut 3 0x88 0x10002818), 3, by decide,
    by decide, by decide, by decide, by decide⟩,
   ⟨(st [(H.hpmNo 3, 0), (H.pilot 3, 0), (H.lineBusy 3, 1), (F.PRT_ATT_STAT_STATE 3, 8), (F.PRT_PE_CTRL_HPMEN 3, 1),
    (F.PRT_PE_STAT_REV 3, 2), (F.PRT_CONTRACT_VALID 3, 1), (F.PRT_CONTRACT_KIND 3, 2), (F.PRT_VDM_STAT_CBLID 3, 1),
    (F.SYS_GZQ_STAT_HC 0, 1)]).onDev (fun d => (d.pstgPut 3 0x85 0x18010000).pstgPut 3 0x88 0x10002818), 3, by decide,
    by decide, by decide, by decide, by decide⟩,
   ⟨st [(T.pilot 3, 1001), (H.hpmCmd 3, 0)], 3, false, false, by decide, by decide, by decide, by decide⟩⟩

theorem witness_HeavyPortModeCommandsComplete_3 :
    (∃ (s : State) (p : Fin 24), s.calm p.val = true ∧ s.dev.get (T.pilot p.val) ≠ 0 ∧ s.dev.get (H.hpmCmd p.val) = 0 ∧
    s.dev.get (H.hpmNo p.val) = 0 ∧ s.dev.get (F.PRT_PE_STAT_ASKPEND p.val) = 0 ∧ s.dev.get (F.PRT_HPM_STAT_STATE
    p.val) = 0) ∧
    (∃ (s : State) (p : Fin 24) (hdr : BitVec 16) (i : Instr) (k : Nat) (x : Obj) (y : Obj), s.hears p.val hdr.toNat =
    true ∧ s.dev.hpmActive p.val = false ∧ ((i = .rxHpmOffer p hdr x y ∧ k = 0x10) ∨ (i = .rxHpmRequest p hdr x ∧ k =
    0x11) ∨ (i = .rxHpmAccept p hdr x ∧ k = 0x12) ∨ (i = .rxHpmTransition p hdr x ∧ k = 0x13) ∨ (i = .rxHpmReady p hdr
    x ∧ k = 0x14) ∨ (i = .rxHpmCeiling p hdr x ∧ k = 0x15))) ∧
    (∃ (s : State) (p : Fin 24) (hdr : BitVec 16) (i : Instr) (k : Nat) (x : Obj) (y : Obj), s.hears p.val hdr.toNat =
    true ∧ s.dev.hpmActive p.val = false ∧ ((i = .rxHpmOffer p hdr x y ∧ k = 0x10) ∨ (i = .rxHpmRequest p hdr x ∧ k =
    0x11) ∨ (i = .rxHpmAccept p hdr x ∧ k = 0x12) ∨ (i = .rxHpmTransition p hdr x ∧ k = 0x13) ∨ (i = .rxHpmReady p hdr
    x ∧ k = 0x14) ∨ (i = .rxHpmCeiling p hdr x ∧ k = 0x15))) ∧
    (∃ (s : State) (p : Fin 24) (hdr : BitVec 16) (i : Instr) (k : Nat) (x : Obj) (y : Obj), s.hears p.val hdr.toNat =
    true ∧ s.dev.hpmActive p.val = false ∧ ((i = .rxHpmOffer p hdr x y ∧ k = 0x10) ∨ (i = .rxHpmRequest p hdr x ∧ k =
    0x11) ∨ (i = .rxHpmAccept p hdr x ∧ k = 0x12) ∨ (i = .rxHpmTransition p hdr x ∧ k = 0x13) ∨ (i = .rxHpmReady p hdr
    x ∧ k = 0x14) ∨ (i = .rxHpmCeiling p hdr x ∧ k = 0x15))) ∧
    (∃ (s : State) (p : Fin 24) (hdr : BitVec 16) (i : Instr) (k : Nat) (x : Obj) (y : Obj), s.hears p.val hdr.toNat =
    true ∧ s.dev.hpmActive p.val = false ∧ ((i = .rxHpmOffer p hdr x y ∧ k = 0x10) ∨ (i = .rxHpmRequest p hdr x ∧ k =
    0x11) ∨ (i = .rxHpmAccept p hdr x ∧ k = 0x12) ∨ (i = .rxHpmTransition p hdr x ∧ k = 0x13) ∨ (i = .rxHpmReady p hdr
    x ∧ k = 0x14) ∨ (i = .rxHpmCeiling p hdr x ∧ k = 0x15))) ∧
    (∃ (s : State) (p : Fin 24) (hdr : BitVec 16) (i : Instr) (k : Nat) (x : Obj) (y : Obj), s.hears p.val hdr.toNat =
    true ∧ s.dev.hpmActive p.val = false ∧ ((i = .rxHpmOffer p hdr x y ∧ k = 0x10) ∨ (i = .rxHpmRequest p hdr x ∧ k =
    0x11) ∨ (i = .rxHpmAccept p hdr x ∧ k = 0x12) ∨ (i = .rxHpmTransition p hdr x ∧ k = 0x13) ∨ (i = .rxHpmReady p hdr
    x ∧ k = 0x14) ∨ (i = .rxHpmCeiling p hdr x ∧ k = 0x15))) ∧
    (∃ (s : State) (p : Fin 24) (hdr : BitVec 16) (i : Instr) (k : Nat) (x : Obj) (y : Obj), s.hears p.val hdr.toNat =
    true ∧ s.dev.hpmActive p.val = false ∧ ((i = .rxHpmOffer p hdr x y ∧ k = 0x10) ∨ (i = .rxHpmRequest p hdr x ∧ k =
    0x11) ∨ (i = .rxHpmAccept p hdr x ∧ k = 0x12) ∨ (i = .rxHpmTransition p hdr x ∧ k = 0x13) ∨ (i = .rxHpmReady p hdr
    x ∧ k = 0x14) ∨ (i = .rxHpmCeiling p hdr x ∧ k = 0x15))) ∧
    (∃ (s : State) (p : Fin 24) (hdr : BitVec 16) (x : Obj) (y : Obj), s.hears p.val hdr.toNat = true ∧ s.dev.hpmActive
    p.val = true ∧ s.dev.isSrc p.val = false ∧ s.dev.get (H.hpmVerd p.val) = 0 ∧ s.dev.get (H.await p.val) ≠ 8 ∧
    offerOk x.toNat y.toNat = true ∧ s.dev.get (H.hpmHeld p.val) = 0) :=
  ⟨⟨st [(T.pilot 3, 1001), (H.hpmCmd 3, 0), (H.hpmNo 3, 0), (F.PRT_PE_STAT_ASKPEND 3, 0), (F.PRT_HPM_STAT_STATE 3,
    0)], 3, by decide, by decide, by decide, by decide, by decide, by decide⟩,
   ⟨st [(H.pdOn 3, 1), (F.PRT_PE_STAT_REV 3, 2), (F.PRT_ATT_STAT_STATE 3, 8)], 3, 0, .rxHpmOffer 3 0 0 0, 0x10, 0, 0,
    by decide, by decide, by decide⟩,
   ⟨st [(H.pdOn 3, 1), (F.PRT_PE_STAT_REV 3, 2), (F.PRT_ATT_STAT_STATE 3, 8)], 3, 0, .rxHpmRequest 3 0 0, 0x11, 0, 0,
    by decide, by decide, by decide⟩,
   ⟨st [(H.pdOn 3, 1), (F.PRT_PE_STAT_REV 3, 2), (F.PRT_ATT_STAT_STATE 3, 8)], 3, 0, .rxHpmAccept 3 0 0, 0x12, 0, 0,
    by decide, by decide, by decide⟩,
   ⟨st [(H.pdOn 3, 1), (F.PRT_PE_STAT_REV 3, 2), (F.PRT_ATT_STAT_STATE 3, 8)], 3, 0, .rxHpmTransition 3 0 0, 0x13, 0,
    0, by decide, by decide, by decide⟩,
   ⟨st [(H.pdOn 3, 1), (F.PRT_PE_STAT_REV 3, 2), (F.PRT_ATT_STAT_STATE 3, 8)], 3, 0, .rxHpmReady 3 0 0, 0x14, 0, 0, by
    decide, by decide, by decide⟩,
   ⟨st [(H.pdOn 3, 1), (F.PRT_PE_STAT_REV 3, 2), (F.PRT_ATT_STAT_STATE 3, 8)], 3, 0, .rxHpmCeiling 3 0 0, 0x15, 0, 0,
    by decide, by decide, by decide⟩,
   ⟨st [(H.pdOn 3, 1), (F.PRT_PE_STAT_REV 3, 2), (F.PRT_ATT_STAT_STATE 3, 3), (H.hpmOn 3, 1), (H.hpmVerd 3, 0),
    (H.hpmHeld 3, 0)], 3, 0, 0, 0, by decide, by decide, by decide, by decide, by decide, by decide, by decide⟩⟩

theorem witness_HeavyPortModeCommandsComplete_4 :
    (∃ (s : State) (p : Fin 24) (hdr : BitVec 16) (x : Obj), s.hears p.val hdr.toNat = true ∧ s.dev.hpmActive p.val =
    true ∧ s.dev.isSrc p.val = true ∧ s.dev.get (H.hpmVerd p.val) = 0 ∧ s.dev.get (H.await p.val) = 7 ∧ bits x.toNat 23
    9 = 0 ∧ bits x.toNat 12 11 ≤ 2000 ∧ bits x.toNat 0 12 ≤ 2400 ∧ s.dev.get (H.hpmHeld p.val) = 0 ∧ s.dev.hpmIsRepeat
    p.val x.toNat = false ∧ s.dev.hpmReqFits p.val x.toNat = true) ∧
    (∃ (s : State) (p : Fin 24) (hdr : BitVec 16) (x : Obj), s.hears p.val hdr.toNat = true ∧ s.dev.hpmActive p.val =
    true ∧ s.dev.get (H.await p.val) = 8 ∧ bits x.toNat 23 7 = 0 ∧ bits x.toNat 30 2 = 0) ∧
    (∃ (s : State) (p : Fin 24) (hdr : BitVec 16) (x : Obj), s.hears p.val hdr.toNat = true ∧ s.dev.hpmActive p.val =
    true ∧ s.dev.get (H.await p.val) = 8 ∧ bits x.toNat 23 7 = 0 ∧ bits x.toNat 30 2 = 2 ∧ s.dev.get (H.hpmWaits p.val)
    < 2) ∧
    (∃ (s : State) (p : Fin 24) (hdr : BitVec 16) (x : Obj), s.hears p.val hdr.toNat = true ∧ s.dev.hpmActive p.val =
    true ∧ s.dev.get (T.hpmTrans p.val) ≠ 0 ∧ bits x.toNat 20 12 = 0) ∧
    (∃ (s : State) (p : Fin 24) (hdr : BitVec 16) (x : Obj), s.hears p.val hdr.toNat = true ∧ s.dev.hpmActive p.val =
    true ∧ s.dev.get (T.hpmReady p.val) ≠ 0 ∧ bits x.toNat 23 9 = 0 ∧ bits x.toNat 12 11 ≤ 2000 ∧ bits x.toNat 0 12 ≤
    2400) ∧
    (∃ (s : State) (p : Fin 24) (hdr : BitVec 16) (x : Obj), s.hears p.val hdr.toNat = true ∧ s.dev.hpmActive p.val =
    true ∧ bits x.toNat 12 12 = 0 ∧ bits x.toNat 0 12 ≤ 2400 ∧ s.dev.get (F.PRT_HPM_CTRL_RXCEIL p.val) = 1) ∧
    (∃ (s : State) (p : Fin 24), s.calm p.val = true ∧ s.dev.get (T.psTrans p.val) ≠ 0 ∧ s.dev.get (H.psDone p.val) = 1
    ∧ s.dev.get (H.swAcc p.val) = 0 ∧ bits (s.dev.get (H.newCon p.val)) 31 3 = 6) ∧
    (∃ (s : State) (p : Fin 24) (i : Instr) (why : Nat), s.calm p.val = true ∧ s.dev.get (H.hpmVerd p.val) = 0 ∧
    s.dev.hpmCon p.val = true ∧ ((i = .thpmOfferExpiry p ∧ s.dev.get (T.hpmOffer p.val) ≠ 0 ∧ why = 5) ∨ (i =
    .thpmTransExpiry p ∧ s.dev.get (T.hpmTrans p.val) ≠ 0 ∧ why = 10) ∨ (i = .thpmReadyExpiry p ∧ s.dev.get (T.hpmReady
    p.val) ≠ 0 ∧ why = 10) ∨ (i = .hpmRepeatRequestExpiry p ∧ s.dev.get (T.hpmRpt p.val) ≠ 0 ∧ why = 6))) :=
  ⟨⟨st [(H.pdOn 3, 1), (F.PRT_PE_STAT_REV 3, 2), (F.PRT_ATT_STAT_STATE 3, 8), (H.hpmOn 3, 1), (H.hpmVerd 3, 0),
    (H.await 3, 7), (H.hpmHeld 3, 0)], 3, 0, 0, by decide, by decide, by decide, by decide, by decide, by decide, by
    decide, by decide, by decide, by decide, by decide⟩,
   ⟨st [(H.pdOn 3, 1), (F.PRT_PE_STAT_REV 3, 2), (F.PRT_ATT_STAT_STATE 3, 8), (H.hpmOn 3, 1), (H.await 3, 8)], 3, 0,
    0, by decide, by decide, by decide, by decide, by decide⟩,
   ⟨st [(H.pdOn 3, 1), (F.PRT_PE_STAT_REV 3, 2), (F.PRT_ATT_STAT_STATE 3, 8), (H.hpmOn 3, 1), (H.await 3, 8)], 3, 0,
    0x80000000, by decide, by decide, by decide, by decide, by decide, by decide⟩,
   ⟨st [(H.pdOn 3, 1), (F.PRT_PE_STAT_REV 3, 2), (F.PRT_ATT_STAT_STATE 3, 8), (H.hpmOn 3, 1), (T.hpmTrans 3, 1001)],
    3, 0, 0, by decide, by decide, by decide, by decide⟩,
   ⟨st [(H.pdOn 3, 1), (F.PRT_PE_STAT_REV 3, 2), (F.PRT_ATT_STAT_STATE 3, 8), (H.hpmOn 3, 1), (T.hpmReady 3, 1001)],
    3, 0, 0, by decide, by decide, by decide, by decide, by decide, by decide⟩,
   ⟨st [(H.pdOn 3, 1), (F.PRT_PE_STAT_REV 3, 2), (F.PRT_ATT_STAT_STATE 3, 8), (H.hpmOn 3, 1), (F.PRT_HPM_CTRL_RXCEIL
    3, 1)], 3, 0, 0, by decide, by decide, by decide, by decide, by decide⟩,
   ⟨st [(T.psTrans 3, 1001), (H.psDone 3, 1), (H.swAcc 3, 0), (H.newCon 3, 12884901888)], 3, by decide, by decide, by
    decide, by decide, by decide⟩,
   ⟨st [(H.hpmVerd 3, 0), (F.PRT_CONTRACT_VALID 3, 1), (F.PRT_CONTRACT_KIND 3, 6), (T.hpmOffer 3, 1001)], 3,
    .thpmOfferExpiry 3, 5, by decide, by decide, by decide, by decide⟩⟩

theorem witness_HeavyPortModeCommandsComplete_5 :
    (∃ (s : State) (p : Fin 24) (i : Instr) (why : Nat), s.calm p.val = true ∧ s.dev.get (H.hpmVerd p.val) = 0 ∧
    s.dev.hpmCon p.val = true ∧ ((i = .thpmOfferExpiry p ∧ s.dev.get (T.hpmOffer p.val) ≠ 0 ∧ why = 5) ∨ (i =
    .thpmTransExpiry p ∧ s.dev.get (T.hpmTrans p.val) ≠ 0 ∧ why = 10) ∨ (i = .thpmReadyExpiry p ∧ s.dev.get (T.hpmReady
    p.val) ≠ 0 ∧ why = 10) ∨ (i = .hpmRepeatRequestExpiry p ∧ s.dev.get (T.hpmRpt p.val) ≠ 0 ∧ why = 6))) ∧
    (∃ (s : State) (p : Fin 24) (i : Instr) (why : Nat), s.calm p.val = true ∧ s.dev.get (H.hpmVerd p.val) = 0 ∧
    s.dev.hpmCon p.val = true ∧ ((i = .thpmOfferExpiry p ∧ s.dev.get (T.hpmOffer p.val) ≠ 0 ∧ why = 5) ∨ (i =
    .thpmTransExpiry p ∧ s.dev.get (T.hpmTrans p.val) ≠ 0 ∧ why = 10) ∨ (i = .thpmReadyExpiry p ∧ s.dev.get (T.hpmReady
    p.val) ≠ 0 ∧ why = 10) ∨ (i = .hpmRepeatRequestExpiry p ∧ s.dev.get (T.hpmRpt p.val) ≠ 0 ∧ why = 6))) ∧
    (∃ (s : State) (p : Fin 24) (i : Instr) (why : Nat), s.calm p.val = true ∧ s.dev.get (H.hpmVerd p.val) = 0 ∧
    s.dev.hpmCon p.val = true ∧ ((i = .thpmOfferExpiry p ∧ s.dev.get (T.hpmOffer p.val) ≠ 0 ∧ why = 5) ∨ (i =
    .thpmTransExpiry p ∧ s.dev.get (T.hpmTrans p.val) ≠ 0 ∧ why = 10) ∨ (i = .thpmReadyExpiry p ∧ s.dev.get (T.hpmReady
    p.val) ≠ 0 ∧ why = 10) ∨ (i = .hpmRepeatRequestExpiry p ∧ s.dev.get (T.hpmRpt p.val) ≠ 0 ∧ why = 6))) ∧
    (∃ (s : State) (p : Fin 24), s.calm p.val = true ∧ s.dev.hpmCon p.val = true ∧ s.dev.get (T.ownCeil p.val) ≠ 0 ∧
    s.dev.get (H.hpmVerd p.val) = 0 ∧ s.dev.get (F.PRT_HPM_STAT_STATE p.val) = 8 ∧ s.dev.get (H.lineBusy p.val) = 0 ∧
    s.dev.get (T.ceilEop p.val) = 0 ∧ s.dev.get (H.ownCeil p.val) ≠ s.dev.get (H.ceilSent p.val)) ∧
    (∃ (s : State) (p : Fin 24), s.calm p.val = true ∧ s.dev.hpmCon p.val = true ∧ s.dev.get (T.ceilEop p.val) ≠ 0 ∧
    s.dev.get (T.ownCeil p.val) = 0) ∧
    (∃ (s : State) (p : Fin 24), s.calm p.val = true ∧ s.dev.hpmCon p.val = true ∧ s.dev.get (T.tpoll p.val) ≠ 0 ∧
    s.dev.get (F.PRT_HPM_CTRL_TPOLL p.val) ≠ 0 ∧ s.dev.mode ≠ 3) ∧
    (∃ (s : State) (a : Agent) (v : Word) (k : Nat) (u : State), k = bits v.toNat 32 4 ∧ u = s.onDev (fun d => d.touch
    a) ∧ u.dev.isRom a = true) ∧
    (∃ (s : State) (a : Agent) (v : Word) (k : Nat) (u : State), k = bits v.toNat 32 4 ∧ u = s.onDev (fun d => d.touch
    a) ∧ u.dev.isRom a = false) :=
  ⟨⟨st [(H.hpmVerd 3, 0), (F.PRT_CONTRACT_VALID 3, 1), (F.PRT_CONTRACT_KIND 3, 6), (T.hpmTrans 3, 1001)], 3,
    .thpmTransExpiry 3, 10, by decide, by decide, by decide, by decide⟩,
   ⟨st [(H.hpmVerd 3, 0), (F.PRT_CONTRACT_VALID 3, 1), (F.PRT_CONTRACT_KIND 3, 6), (T.hpmReady 3, 1001)], 3,
    .thpmReadyExpiry 3, 10, by decide, by decide, by decide, by decide⟩,
   ⟨st [(H.hpmVerd 3, 0), (F.PRT_CONTRACT_VALID 3, 1), (F.PRT_CONTRACT_KIND 3, 6), (T.hpmRpt 3, 1001)], 3,
    .hpmRepeatRequestExpiry 3, 6, by decide, by decide, by decide, by decide⟩,
   ⟨st [(F.PRT_CONTRACT_VALID 3, 1), (F.PRT_CONTRACT_KIND 3, 6), (T.ownCeil 3, 1001), (H.hpmVerd 3, 0),
    (F.PRT_HPM_STAT_STATE 3, 8), (H.lineBusy 3, 0), (T.ceilEop 3, 0), (H.ownCeil 3, 100)], 3, by decide, by decide, by
    decide, by decide, by decide, by decide, by decide, by decide⟩,
   ⟨st [(F.PRT_CONTRACT_VALID 3, 1), (F.PRT_CONTRACT_KIND 3, 6), (T.ceilEop 3, 1001), (T.ownCeil 3, 0)], 3, by decide,
    by decide, by decide, by decide⟩,
   ⟨st [(F.PRT_CONTRACT_VALID 3, 1), (F.PRT_CONTRACT_KIND 3, 6), (T.tpoll 3, 1001), (F.PRT_HPM_CTRL_TPOLL 3, 1)], 3,
    by decide, by decide, by decide, by decide, by decide⟩,
   ⟨st [(F.CORE_STAT_STATE 0, 1), (F.CORE_P_P 0, 65536)], (.core 0), 0, _, _, rfl, rfl, by decide⟩,
   ⟨st [], (.core 0), 0, _, _, rfl, rfl, by decide⟩⟩

theorem witness_PortCommandsComplete_1 :
    (∃ (s : State) (a : Agent) (p : Fin 24) (param : BitVec 16) (k : BitVec 6) (c : Instr) (code : Nat) (u : State) (r
    : Nat), (c, code) ∈ [(Instr.getSrcCap a p param, 0x01), (.getSnkCap a p param, 0x02), (.getSrcCapExt a p param,
    0x03), (.getSnkCapExt a p param, 0x04), (.getStatus a p param, 0x05), (.getBattCap a p param, 0x06),
    (.getBattStatus a p param, 0x07), (.getRevision a p param, 0x08), (.sendAlert a p param, 0x09), (.renegotiate a p
    param, 0x10), (.eprEnter a p param, 0x11), (.eprExit a p param, 0x12), (.prSwap a p param, 0x18), (.vconnSwap a p
    param, 0x19), (.softReset a p param, 0x1C), (.hardReset a p param, 0x1D), (.discover a p param, 0x20), (.enterMode
    a p param, 0x21), (.exitMode a p param, 0x22), (.hpmEnter a p param, 0x28), (.hpmExit a p param, 0x29),
    (.hpmCeiling a p param, 0x2A), (.hpmRecord a p param, 0x2B), (.hpmTelemetry a p param, 0x2C), (.cmdUnknownCode a p
    k param, k.toNat)] ∧ u = s.onDev (fun d => d.touch a) ∧ s.keepsPort p.val = true ∧ u.calm p.val = true ∧ a ≠ .tap ∧
    r = u.dev.cmdResult a p.val code param.toNat (u.dev.get (F.PRT_CMD_ARG_ARG p.val a.copy)) ∧ r ≠ 0) ∧
    (∃ (s : State) (a : Agent) (p : Fin 24) (param : BitVec 16) (k : BitVec 6) (c : Instr) (code : Nat) (u : State) (r
    : Nat), (c, code) ∈ [(Instr.getSrcCap a p param, 0x01), (.getSnkCap a p param, 0x02), (.getSrcCapExt a p param,
    0x03), (.getSnkCapExt a p param, 0x04), (.getStatus a p param, 0x05), (.getBattCap a p param, 0x06),
    (.getBattStatus a p param, 0x07), (.getRevision a p param, 0x08), (.sendAlert a p param, 0x09), (.renegotiate a p
    param, 0x10), (.eprEnter a p param, 0x11), (.eprExit a p param, 0x12), (.prSwap a p param, 0x18), (.vconnSwap a p
    param, 0x19), (.softReset a p param, 0x1C), (.hardReset a p param, 0x1D), (.discover a p param, 0x20), (.enterMode
    a p param, 0x21), (.exitMode a p param, 0x22), (.hpmEnter a p param, 0x28), (.hpmExit a p param, 0x29),
    (.hpmCeiling a p param, 0x2A), (.hpmRecord a p param, 0x2B), (.hpmTelemetry a p param, 0x2C), (.cmdUnknownCode a p
    k param, k.toNat)] ∧ u = s.onDev (fun d => d.touch a) ∧ s.keepsPort p.val = true ∧ u.calm p.val = true ∧ a ≠ .tap ∧
    r = u.dev.cmdResult a p.val code param.toNat (u.dev.get (F.PRT_CMD_ARG_ARG p.val a.copy)) ∧ r = 0 ∧ u.dev.get
    (H.exOn p.val) = 1 ∧ u.dev.get (H.reqHeld p.val) = 0 ∧ (∀ x ∈ u.dev.unstarted p.val, u.dev.now ≤ u.dev.lastStart
    x)) ∧
    (∃ (s : State) (a : Agent) (p : Fin 24) (param : BitVec 16) (k : BitVec 6) (c : Instr) (code : Nat) (u : State),
    (c, code) ∈ [(Instr.getSrcCap a p param, 0x01), (.getSnkCap a p param, 0x02), (.getSrcCapExt a p param, 0x03),
    (.getSnkCapExt a p param, 0x04), (.getStatus a p param, 0x05), (.getBattCap a p param, 0x06), (.getBattStatus a p
    param, 0x07), (.getRevision a p param, 0x08), (.sendAlert a p param, 0x09), (.renegotiate a p param, 0x10),
    (.eprEnter a p param, 0x11), (.eprExit a p param, 0x12), (.prSwap a p param, 0x18), (.vconnSwap a p param, 0x19),
    (.softReset a p param, 0x1C), (.hardReset a p param, 0x1D), (.discover a p param, 0x20), (.enterMode a p param,
    0x21), (.exitMode a p param, 0x22), (.hpmEnter a p param, 0x28), (.hpmExit a p param, 0x29), (.hpmCeiling a p
    param, 0x2A), (.hpmRecord a p param, 0x2B), (.hpmTelemetry a p param, 0x2C), (.cmdUnknownCode a p k param,
    k.toNat)] ∧ u = s.onDev (fun d => d.touch a) ∧ s.keepsPort p.val = true ∧ u.calm p.val = true ∧ a = .tap) ∧
    (∃ (s : State) (a : Agent) (p : Fin 24) (param : BitVec 16) (k : BitVec 6) (c : Instr) (code : Nat) (u : State),
    (c, code) ∈ [(Instr.getSrcCap a p param, 0x01), (.getSnkCap a p param, 0x02), (.getSrcCapExt a p param, 0x03),
    (.getSnkCapExt a p param, 0x04), (.getStatus a p param, 0x05), (.getBattCap a p param, 0x06), (.getBattStatus a p
    param, 0x07), (.getRevision a p param, 0x08), (.sendAlert a p param, 0x09), (.renegotiate a p param, 0x10),
    (.eprEnter a p param, 0x11), (.eprExit a p param, 0x12), (.prSwap a p param, 0x18), (.vconnSwap a p param, 0x19),
    (.softReset a p param, 0x1C), (.hardReset a p param, 0x1D), (.discover a p param, 0x20), (.enterMode a p param,
    0x21), (.exitMode a p param, 0x22), (.hpmEnter a p param, 0x28), (.hpmExit a p param, 0x29), (.hpmCeiling a p
    param, 0x2A), (.hpmRecord a p param, 0x2B), (.hpmTelemetry a p param, 0x2C), (.cmdUnknownCode a p k param,
    k.toNat)] ∧ u = s.onDev (fun d => d.touch a) ∧ s.keepsPort p.val = true ∧ u.calm p.val = true ∧ cmdClass code =
    none ∧ a ≠ .tap ∧ u.dev.mode ≠ 2 ∧ u.dev.mode ≠ 3 ∧ u.dev.mode ≠ 4 ∧ u.dev.get H.bankReq = 0) ∧
    (∃ (s : State) (p : Fin 24), s.calm p.val = true ∧ s.dev.attached p.val = false ∧ s.dev.cmds p.val = []) ∧
    (∃ (s : State) (p : Fin 24) (c : Cmd) (l : List Cmd) (msg : Nat), s.calm p.val = true ∧ s.dev.turnFree p.val = true
    ∧ (∀ x ∈ l, s.dev.now ≤ s.dev.lastStart x) ∧ s.dev.cmds p.val = c :: l ∧ c.joined = false ∧ (c.code, msg) ∈ [(0x01,
    7), (0x02, 8), (0x03, 17), (0x04, 22), (0x05, 18)] ∧ s.dev.now ≤ s.dev.lastStart c ∧ s.dev.get (F.PRT_PE_STAT_REV
    p.val) ≠ 0 ∧ (s.dev.isSnk p.val = true ∧ s.dev.lineWait p.val = 0 ∨ s.dev.pd3 p.val = false)) ∧
    (∃ (s : State) (p : Fin 24) (c : Cmd) (l : List Cmd) (msg : Nat), s.calm p.val = true ∧ s.dev.turnFree p.val = true
    ∧ (∀ x ∈ l, s.dev.now ≤ s.dev.lastStart x) ∧ s.dev.cmds p.val = c :: l ∧ c.joined = false ∧ (c.code, msg) ∈ [(0x01,
    7), (0x02, 8), (0x03, 17), (0x04, 22), (0x05, 18)] ∧ s.dev.now ≤ s.dev.lastStart c ∧ s.dev.isSrc p.val = true ∧
    s.dev.pd3 p.val = true) ∧
    (∃ (s : State) (p : Fin 24) (c : Cmd) (l : List Cmd) (msg : Nat), s.calm p.val = true ∧ s.dev.turnFree p.val = true
    ∧ (∀ x ∈ l, s.dev.now ≤ s.dev.lastStart x) ∧ s.dev.cmds p.val = c :: l ∧ c.joined = false ∧ (c.code, msg) ∈ [(0x01,
    7), (0x02, 8), (0x03, 17), (0x04, 22), (0x05, 18)] ∧ s.dev.isSnk p.val = true ∧ s.dev.pd3 p.val = true ∧
    s.dev.lineWait p.val ≠ 0 ∧ s.dev.now ≤ s.dev.lastStart c) :=
  ⟨⟨st [], (.core 0), 3, 0, 0, .getSrcCap (.core 0) 3 0, 1, _, 2, by decide, rfl, by decide, by decide, by decide, by
    decide, by decide⟩,
   ⟨st [(H.exOn 3, 1), (H.reqHeld 3, 0), (F.PRT_ATT_STAT_STATE 3, 8), (F.PRT_PE_STAT_REV 3, 2), (H.pdOn 3, 1),
    (F.PRT_CONTRACT_VALID 3, 1), (F.PRT_CONTRACT_KIND 3, 2)], (.core 0), 3, 0, 0, .getSrcCap (.core 0) 3 0, 1, _, 0, by
    decide, rfl, by decide, by decide, by decide, by decide, by decide, by decide, by decide, by decide⟩,
   ⟨st [], .tap, 3, 0, 0, .getSrcCap .tap 3 0, 1, _, by decide, rfl, by decide, by decide, by decide⟩,
   ⟨st [(H.bankReq, 0), (F.SYS_MODE_MODE, 0)], (.core 0), 3, 0, 63, .cmdUnknownCode (.core 0) 3 63 0, 63, _, by
    decide, rfl, by decide, by decide, by decide, by decide, by decide, by decide, by decide, by decide⟩,
   ⟨st [], 3, by decide, by decide, by decide⟩,
   ⟨(st [(F.PRT_PE_STAT_REV 3, 1), (F.PRT_ATT_STAT_STATE 3, 3), (F.SYS_MODE_MODE, 0)]).onDev (·.setCmds 3 [⟨1, 0, 0,
    5, 100000000, false, false⟩]), 3, ⟨1, 0, 0, 5, 100000000, false, false⟩, [], 7, by decide, by decide, by decide, by
    decide, by decide, by decide, by decide, by decide, by decide⟩,
   ⟨(st [(F.PRT_ATT_STAT_STATE 3, 8), (F.PRT_PE_STAT_REV 3, 2), (F.SYS_MODE_MODE, 0)]).onDev (·.setCmds 3 [⟨1, 0, 0,
    5, 100000000, false, false⟩]), 3, ⟨1, 0, 0, 5, 100000000, false, false⟩, [], 7, by decide, by decide, by decide, by
    decide, by decide, by decide, by decide, by decide, by decide⟩,
   ⟨(st [(F.PRT_ATT_STAT_STATE 3, 3), (F.PRT_PE_STAT_REV 3, 2), (H.rpLevel 3, 5), (T.lineFree 3, 1100)]).onDev
    (·.setCmds 3 [⟨1, 0, 0, 5, 100000000, false, false⟩]), 3, ⟨1, 0, 0, 5, 100000000, false, false⟩, [], 7, by decide,
    by decide, by decide, by decide, by decide, by decide, by decide, by decide, by decide, by decide⟩⟩

theorem witness_PortCommandsComplete_2 :
    (∃ (s : State) (p : Fin 24) (c : Cmd) (l : List Cmd) (msg : Nat), s.calm p.val = true ∧ s.dev.turnFree p.val = true
    ∧ (∀ x ∈ l, s.dev.now ≤ s.dev.lastStart x) ∧ s.dev.cmds p.val = c :: l ∧ c.joined = false ∧ (c.code, msg) ∈ [(0x01,
    7), (0x02, 8), (0x03, 17), (0x04, 22), (0x05, 18)] ∧ s.dev.lastStart c < s.dev.now ∧ l = []) ∧
    (∃ (s : State) (p : Fin 24) (c : Cmd) (l : List Cmd) (msg : Nat), s.calm p.val = true ∧ s.dev.turnFree p.val = true
    ∧ (∀ x ∈ l, s.dev.now ≤ s.dev.lastStart x) ∧ s.dev.cmds p.val = c :: l ∧ c.joined = false ∧ (c.code, msg) ∈ [(0x01,
    7), (0x02, 8), (0x03, 17), (0x04, 22), (0x05, 18)] ∧ s.dev.now ≤ s.dev.lastStart c ∧ s.dev.get (F.PRT_PE_STAT_REV
    p.val) = 0) ∧
    (∃ (s : State) (p : Fin 24) (c : Cmd) (l : List Cmd) (msg : _), s.calm p.val = true ∧ s.dev.cmds p.val = c :: l ∧
    (c.code, msg) ∈ [(0x01, 7), (0x02, 8), (0x03, 17), (0x04, 22), (0x05, 18)] ∧ s.dev.get (T.sinkTx p.val) ≠ 0 ∧
    s.dev.get (H.ownWait p.val) = 17) ∧
    (∃ (s : State) (p : Fin 24) (c : Cmd) (l : List Cmd), s.calm p.val = true ∧ s.dev.cmds p.val = c :: l ∧ s.dev.get
    (T.cmdMiss p.val) ≠ 0 ∧ s.dev.get (H.cmdRun p.val) = 1) ∧
    (∃ (s : State) (p : Fin 24), s.calm p.val = true ∧ s.dev.get (H.reneg p.val) = 1) :=
  ⟨⟨(st [(F.PRT_ATT_STAT_STATE 3, 8), (F.SYS_MODE_MODE, 0)]).onDev (·.setCmds 3 [⟨1, 0, 0, 5, 1000, false, false⟩]),
    3, ⟨1, 0, 0, 5, 1000, false, false⟩, [], 7, by decide, by decide, by decide, by decide, by decide, by decide, by
    decide, by decide⟩,
   ⟨(st [(F.PRT_PE_STAT_REV 3, 0), (F.PRT_ATT_STAT_STATE 3, 8), (F.SYS_MODE_MODE, 0)]).onDev (·.setCmds 3 [⟨1, 0, 0,
    5, 100000000, false, false⟩]), 3, ⟨1, 0, 0, 5, 100000000, false, false⟩, [], 7, by decide, by decide, by decide, by
    decide, by decide, by decide, by decide, by decide⟩,
   ⟨(st [(T.sinkTx 3, 1001), (H.ownWait 3, 17)]).onDev (·.setCmds 3 [⟨1, 0, 0, 5, 100000000, false, false⟩]), 3, ⟨1,
    0, 0, 5, 100000000, false, false⟩, [], 7, by decide, by decide, by decide, by decide, by decide⟩,
   ⟨(st [(T.cmdMiss 3, 1001), (H.cmdRun 3, 1)]).onDev (·.setCmds 3 [⟨1, 0, 0, 5, 100000000, false, false⟩]), 3, ⟨1, 0,
    0, 5, 100000000, false, false⟩, [], by decide, by decide, by decide, by decide⟩,
   ⟨st [(H.reneg 3, 1)], 3, by decide, by decide⟩⟩


end Sys2Proof.Tests
end

/-!
Modes: what the steps into and out of Banked, the end of Kindling and the end of Blaze do (R33, R40-R49, R91). A class of fields,
the modal ones, tells a mode; each function that a change of mode runs is shown once to leave them alone but for those it is
there to write.
-/
namespace Sys2Proof.Machine

/-! ### Modal fields -/

/-- The variables among the modal fields, by number: a running meter (35), a start into Kindling (63), a Banked request (65), the
idle Ledger engine (80), the boot (288), an AUTOFALL return (289), a core's state before its halt (290), the step of R43 (340), and
the 50 ms of R42 (2087). -/
def modalVars : List Nat := [35, 63, 65, 80, 288, 289, 290, 340, 2087]

/-- A field by which a mode is told: SYS_MODE, CORE_STAT.STATE and CORE_P, MTR_STAT.OPEN, PRT_ATT_STAT.DISWHY, the FIXED bits of
SYS_WAKE_STAT, and the modal variables. -/
def Fld.modal (f : Fld) : Bool :=
  let a := f.key / 4096
  let lo := f.key / 64 % 64
  a == 0x200010 || (decide (0x200800 ≤ a) && decide (a < 0x200830) && a % 4 == 0 && lo == 0) ||
    (decide (0x202000 ≤ a) && decide (a < 0x202300) && a % 32 == 1 && lo == 15) ||
    (decide (0x201000 ≤ a) && decide (a < 0x201C00) && a % 128 == 4 && lo == 0) ||
    f.key == F.SYS_WAKE_STAT_FIXED.key || modalVars.contains (f.key / 16384 - 4194304)

/-- A variable that is not among the modal ones. -/
theorem hidden_not_modal (n i lvl w r : Nat) (hn : modalVars.contains n = false) (hi : i < 4096) (hl : lvl < 4) :
    (Fld.mk (hkey n i lvl) w r).modal = false := by
  have hk : hkey n i lvl / 16384 = 4194304 + n := by simp only [hkey]; omega
  have ha : 0x400000 * 4 ≤ hkey n i lvl / 4096 := by simp only [hkey]; omega
  have hv : hkey n i lvl / 16384 - 4194304 = n := by omega
  have hw : fkey 0x200023 12 0 2 < 0x400000 * 4096 := by decide
  simp only [Fld.modal, hv, hn, Bool.or_false, Bool.or_eq_false_iff, Bool.and_eq_false_iff, beq_eq_false_iff_ne, ne_eq,
    decide_eq_false_iff_not]
  omega

theorem modal_ne {f g : Fld} (hf : f.modal = true) (hg : g.modal = false) : f.key ≠ g.key := by
  intro h
  have : f.modal = g.modal := by simp only [Fld.modal, h]
  rw [hf, hg] at this
  cases this

/-- Of the modal fields only the FIXED bits are not quiet. -/
theorem Fld.quiet_of_modal {f : Fld} (hf : f.modal = true) (hw : f.key ≠ F.SYS_WAKE_STAT_FIXED.key) : f.quiet = true := by
  have hl : F.STO_EVT_LOGDROP.modal = false := by decide
  have hd := modal_ne hf hl
  simp only [Fld.modal, modalVars, hw, or_false, Bool.or_eq_true, Bool.and_eq_true, beq_iff_eq, decide_eq_true_eq,
    List.contains_iff_mem, List.mem_cons, List.not_mem_nil, or_false] at hf
  simp only [Fld.quiet, Bool.and_eq_true, Bool.not_eq_true', Bool.and_eq_false_iff, bne_iff_ne, decide_eq_false_iff_not, ne_eq,
    List.contains_eq_mem, List.mem_cons, List.not_mem_nil, or_false]
  refine ⟨⟨⟨⟨?_, ?_⟩, ?_⟩, hd⟩, ?_⟩ <;> omega

/-! ### Writes that leave the modal fields alone -/

theorem Dev.get_put_modal (d : Dev) {f g : Fld} (v : Nat) (hf : f.modal = true) (hg : g.modal = false) :
    (d.put g v).get f = d.get f := Dev.get_put_ne d v (modal_ne hf hg)

theorem Dev.get_puts_modal (d : Dev) {l : List (Fld × Nat)} {f : Fld} (hf : f.modal = true)
    (hl : ∀ e ∈ l, e.1.modal = false) : (d.puts l).get f = d.get f :=
  Dev.get_puts_ne d l fun e he => modal_ne hf (hl e he)

/-- A list of writes given by the fields it writes. -/
theorem Dev.get_puts_of_fields (d : Dev) {l : List (Fld × Nat)} {f : Fld} {fs : List Fld} (hf : f.modal = true)
    (hfs : ∀ g ∈ fs, g.modal = false) (hl : l.map Prod.fst = fs) : (d.puts l).get f = d.get f :=
  Dev.get_puts_modal d hf fun e he => hfs e.1 (hl ▸ List.mem_map_of_mem he)

/-- A change of the tables alone changes no field. -/
theorem Dev.get_of_regs {d e : Dev} {f : Fld} (h : e.regs = d.regs) : e.get f = d.get f := by simp only [Dev.get, h]

/-- A raise does not write SYS_WAKE_STAT, though its fields are not among the quiet ones. -/
theorem Dev.raise_wakeStat (d : Dev) (s : Nat) {f : Fld} (hf : f.key = F.SYS_WAKE_STAT_FIXED.key) :
    (d.raise s).get f = d.get f := by
  have hput (e : Dev) (n i w r v : Nat) : (e.put (Fld.mk (hkey n i 2) w r) v).get f = e.get f :=
    Dev.get_put_ne e v (by simp only [hf, fkey, hkey]; omega)
  have hpend (e : Dev) (on : Bool) : (e.setPend s on).get f = e.get f :=
    Dev.get_put_ne e _ (by simp only [hf, fkey]; omega)
  have hpost (e : Dev) : (e.postEvent s).get f = e.get f := by
    unfold Dev.postEvent Dev.clr Dev.set1
    split
    · split
      · rw [hput]
        exact (hput _ _ _ _ _ _).trans (Dev.get_of_regs rfl)
      · rw [hput]
    · rw [hput]
  unfold Dev.raise
  dsimp only
  split
  · rfl
  · split
    · rw [hput, hput]
    · unfold Dev.raiseNew
      rw [hpost, Dev.puts_cons, Dev.puts_cons, Dev.puts_cons, Dev.puts_nil, hput, hput, hput, hpend, hput]

theorem Dev.raise_modal (d : Dev) {f : Fld} {src : Nat} (hs : src < 256) (hf : f.modal = true) :
    (d.raise src).get f = d.get f := by
  by_cases hw : f.key = F.SYS_WAKE_STAT_FIXED.key
  · exact d.raise_wakeStat src hw
  · exact Dev.raise_get d hs (Fld.quiet_of_modal hf hw)

theorem Dev.event_modal (d : Dev) {evt ie f : Fld} {src : Nat} (hs : src < 256) (hf : f.modal = true)
    (he : evt.modal = false) : (d.event evt ie src).get f = d.get f := by
  have hset : (d.hwSet evt).get f = d.get f := Dev.hwSet_get_ne d (modal_ne hf he)
  unfold Dev.event
  dsimp only
  split
  · rw [Dev.raise_modal _ hs hf, hset]
  · exact hset

/-! ### Loops -/

theorem Dev.forN_succ (n : Nat) (g : Nat → Dev → Dev) (d : Dev) : Dev.forN (n + 1) g d = g n (Dev.forN n g d) := by
  simp [Dev.forN, List.range_succ]

/-- What every step keeps, the loop keeps. -/
theorem Dev.forN_inv {n : Nat} {g : Nat → Dev → Dev} {P : Dev → Prop} {d : Dev} (h0 : P d)
    (h : ∀ i < n, ∀ e, P e → P (g i e)) : P (Dev.forN n g d) := by
  induction n with
  | zero => exact h0
  | succ n ih =>
    rw [Dev.forN_succ]
    exact h n (by omega) _ (ih fun i hi => h i (by omega))

/-- What no step writes, the loop leaves alone. -/
theorem Dev.forN_get {n : Nat} {g : Nat → Dev → Dev} {f : Fld} (d : Dev)
    (h : ∀ i < n, ∀ e, (g i e).get f = e.get f) : (Dev.forN n g d).get f = d.get f :=
  Dev.forN_inv (P := fun e => e.get f = d.get f) rfl fun i hi e he => (h i hi e).trans he

/-- Step i makes `Post i` of `Pre i`, and no other step disturbs either: after the loop every `Post i` holds. -/
theorem Dev.forN_each {n : Nat} {g : Nat → Dev → Dev} {Pre Post : Nat → Dev → Prop} {d : Dev} (h0 : ∀ j < n, Pre j d)
    (hpre : ∀ i < n, ∀ j < n, i ≠ j → ∀ e, Pre j e → Pre j (g i e)) (hset : ∀ i < n, ∀ e, Pre i e → Post i (g i e))
    (hpost : ∀ i < n, ∀ j < n, i ≠ j → ∀ e, Post j e → Post j (g i e)) : ∀ j < n, Post j (Dev.forN n g d) := by
  have key : ∀ m ≤ n, ∀ j < n, if j < m then Post j (Dev.forN m g d) else Pre j (Dev.forN m g d) := by
    intro m
    induction m with
    | zero => exact fun _ j hj => h0 j hj
    | succ m ih =>
      intro hm j hj
      have hi := ih (by omega) j hj
      rw [Dev.forN_succ]
      rcases Nat.lt_trichotomy j m with h | rfl | h
      · rw [if_pos (by omega)]
        rw [if_pos h] at hi
        exact hpost m (by omega) j hj (by omega) _ hi
      · rw [if_pos (by omega)]
        rw [if_neg (by omega)] at hi
        exact hset j hj _ hi
      · rw [if_neg (by omega)]
        rw [if_neg (by omega)] at hi
        exact hpre m (by omega) j hj (by omega) _ hi
  intro j hj
  simpa [hj] using key n le_rfl j hj

/-- A loop that gives a field of each index the same value leaves it there. -/
theorem Dev.forN_sets {n : Nat} {g : Nat → Dev → Dev} {F : Nat → Fld} {c : Nat} (d : Dev)
    (hset : ∀ i < n, ∀ e, (g i e).get (F i) = c)
    (hkeep : ∀ i < n, ∀ j < n, i ≠ j → ∀ e, (g i e).get (F j) = e.get (F j)) :
    ∀ j < n, (Dev.forN n g d).get (F j) = c :=
  Dev.forN_each (Pre := fun _ _ => True) (Post := fun j e => e.get (F j) = c) (fun _ _ => trivial)
    (fun _ _ _ _ _ _ _ => trivial) (fun i hi e _ => hset i hi e) fun i hi j hj hij e he => (hkeep i hi j hj hij e).trans he

/-! ### The Store and the Ledger engine -/

theorem Dev.eraseBlock_regs (d : Dev) (part b : Nat) : (d.eraseBlock part b).regs = d.regs := by
  unfold Dev.eraseBlock Dev.erasePages
  dsimp only
  repeat' split
  all_goals rfl

theorem Dev.get_setSegs (d : Dev) (p : Nat) (q : List Seg) (f : Fld) : (d.setSegs p q).get f = d.get f := rfl

theorem Dev.get_staging (d : Dev) (q : List (List Nat)) (l : List Slot) (f : Fld) :
    ({ d with sigq := q, staged := l } : Dev).get f = d.get f := rfl

section
variable {f : Fld} (hf : f.modal = true)
include hf

theorem Dev.pump_modal (d : Dev) : d.pump.get f = d.get f := by
  have hpages (e : Dev) (part h b : Nat) : (if (e.page part h).isEmpty then e else e.eraseBlock part b).get f = e.get f := by
    split
    · rfl
    · exact Dev.get_of_regs (e.eraseBlock_regs part b)
  unfold Dev.pump
  split
  · rfl
  · dsimp only
    split
    · exact Dev.get_puts_modal _ hf (by simp only [List.forall_mem_cons]; decide)
    · split
      · rw [Dev.get_puts_modal _ hf (by simp only [List.forall_mem_cons]; decide)]
        exact hpages d _ _ _
      · rfl

theorem Dev.logAppend_modal (d : Dev) (typ source : Nat) (data : List Nat) :
    (d.logAppend typ source data).get f = d.get f := by
  unfold Dev.logAppend
  split
  · exact Dev.event_modal d (by decide) hf (by decide)
  · exact Dev.get_of_regs rfl

theorem Dev.stageSlot_modal (d : Dev) (b : List Nat) : (d.stageSlot b).get f = d.get f := by
  have hs : (d.set1 H.stgLed).get f = d.get f := Dev.get_put_modal d 1 hf (by decide)
  unfold Dev.stageSlot
  dsimp only
  split
  · exact hs
  · exact (Dev.get_put_modal _ _ hf (by decide)).trans hs

theorem Dev.blockOpen_modal (d : Dev) : d.blockOpen.get f = d.get f := by
  unfold Dev.blockOpen Dev.arm
  split
  · rfl
  · rw [Dev.get_put_modal _ _ hf (by decide), Dev.get_puts_modal _ hf (by simp only [List.forall_mem_cons]; decide)]
    exact d.stageSlot_modal hf _

theorem Dev.blockClose_modal (d : Dev) (cause : Nat) (recovered : Bool) :
    (d.blockClose cause recovered).get f = d.get f := by
  unfold Dev.blockClose
  split
  · rfl
  · have hs (e : Dev) : ((if e.armed T.sign then e else e.arm T.sign (msTicks 15))).get f = e.get f := by
      split
      · rfl
      · exact Dev.get_put_modal _ _ hf (by decide)
    dsimp only
    rw [Dev.pump_modal hf, hs, Dev.stop, Dev.get_put_modal _ _ hf (by decide),
      Dev.get_puts_modal _ hf (by simp only [List.forall_mem_cons]; decide)]
    rw [Dev.get_staging, Dev.stageSlot_modal hf, Dev.stageSlot_modal hf, Dev.stageSlot_modal hf]

theorem Dev.blockSign_modal (d : Dev) : d.blockSign.get f = d.get f := by
  unfold Dev.blockSign
  split
  · exact Dev.get_put_modal _ _ hf (by decide)
  · next a rest _ =>
    have hs (e : Dev) : ((if rest.isEmpty then e.stop T.sign else e.arm T.sign 0)).get f = e.get f := by
      split
      · exact Dev.get_put_modal _ _ hf (by decide)
      · exact Dev.get_put_modal _ _ hf (by decide)
    dsimp only
    rw [Dev.pump_modal hf, hs, Dev.get_put_modal _ _ hf (by decide), Dev.get_staging]

theorem Dev.addRecord_modal (d : Dev) (b53 : List Nat) : (d.addRecord b53).get f = d.get f := by
  have hw (e : Dev) (b : List Nat) (x y : Nat) :
      ((e.stageSlot b).puts [(H.lgrChain, x), (F.LGR_STAT_NREC, y)]).get f = e.get f :=
    (Dev.get_puts_modal _ hf (by simp only [List.forall_mem_cons]; decide)).trans (e.stageSlot_modal hf b)
  unfold Dev.addRecord
  dsimp only
  split
  · rw [Dev.blockClose_modal hf, hw, Dev.blockOpen_modal hf]
  · rw [Dev.pump_modal hf, hw, Dev.blockOpen_modal hf]

theorem Dev.takeSeg_modal (d : Dev) (p : Nat) (g : Seg) : (d.takeSeg p g).get f = d.get f := by
  unfold Dev.takeSeg
  dsimp only
  rw [Dev.segAck, Dev.get_setSegs]
  split
  · exact Dev.event_modal d (by decide) hf (by decide)
  · exact (Dev.addRecord_modal hf _ _).trans (Dev.get_of_regs rfl)

theorem Dev.takeSegs_modal (d : Dev) (p : Nat) (l : List Seg) :
    (l.foldl (fun e g => e.takeSeg p g) d).get f = d.get f := by
  induction l generalizing d with
  | nil => rfl
  | cons g l ih => exact (ih _).trans (d.takeSeg_modal hf p g)

theorem Dev.takeAll_modal (d : Dev) : d.takeAll.get f = d.get f := by
  have hc (c : Nat) : (if d.get (H.chDst c) = 9 then d.setChan c [] else d).get f = d.get f := by split <;> rfl
  unfold Dev.takeAll
  dsimp only
  refine (Dev.forN_get _ fun p _ e => ?_).trans (hc _)
  exact (Dev.takeSegs_modal hf _ p _).trans (Dev.get_of_regs rfl)

theorem Dev.spaceUpdate_modal (d : Dev) : d.spaceUpdate.get f = d.get f := by
  unfold Dev.spaceUpdate Dev.lgrEvt
  dsimp only
  have hw : ∀ x y z : Nat, (d.puts [(F.LGR_FREE_PAGES, x), (F.LGR_STAT_FULL, y), (F.LGR_STAT_LOWSPACE, z)]).get f = d.get f :=
    fun x y z => Dev.get_puts_modal d hf (by simp only [List.forall_mem_cons]; decide)
  have he (e : Dev) (c : Bool) (evt : Fld) (h : evt.modal = false) :
      (if c then e.event evt F.LGR_IE_IE 220 else e).get f = e.get f := by
    split
    · exact Dev.event_modal e (by decide) hf h
    · rfl
  rw [he _ _ _ (by decide), he _ _ _ (by decide), hw]

theorem Dev.rearmCommit_modal (d : Dev) : d.rearmCommit.get f = d.get f := by
  unfold Dev.rearmCommit
  split
  · exact Dev.get_put_modal d _ hf (by decide)
  · exact Dev.get_put_modal d _ hf (by decide)

theorem Dev.progEnd_modal (d : Dev) : d.progEnd.get f = d.get f := by
  have hw (e : Dev) : (e.puts [(H.progOn, 0), (F.STO_STAT_BUSY, 0)]).get f = e.get f :=
    Dev.get_puts_modal e hf (by simp only [List.forall_mem_cons]; decide)
  unfold Dev.progEnd
  dsimp only
  split
  · refine (Dev.forN_get _ fun _ _ e => Dev.event_modal e (by decide) hf (by decide)).trans ?_
    rw [Dev.get_put_modal _ _ hf (by decide), Dev.rearmCommit_modal hf, Dev.spaceUpdate_modal hf,
      Dev.get_put_modal _ _ hf (by decide), hw]
    exact Dev.get_of_regs rfl
  · rw [Dev.get_put_modal _ _ hf (by decide), hw]
    exact Dev.get_of_regs rfl

theorem Dev.programAll_modal (n : Nat) (d : Dev) : (Dev.programAll n d).get f = d.get f := by
  induction n generalizing d with
  | zero => rfl
  | succ n ih =>
    unfold Dev.programAll
    split
    · rfl
    · rw [ih, Dev.pump_modal hf, Dev.progEnd_modal hf]

theorem Dev.blockSigns_modal (d : Dev) (l : List (List Nat)) : (l.foldl (fun e _ => e.blockSign) d).get f = d.get f := by
  induction l generalizing d with
  | nil => rfl
  | cons a l ih => exact (ih _).trans (d.blockSign_modal hf)

/-- The end of the Ledger engine's work (R422) leaves the modal fields alone. -/
theorem Dev.ledgerDrain_modal (d : Dev) (cause : Nat) : (d.ledgerDrain cause).get f = d.get f := by
  unfold Dev.ledgerDrain Dev.set1
  rw [Dev.programAll_modal hf, Dev.pump_modal hf, Dev.get_put_modal _ _ hf (by decide), Dev.get_put_modal _ _ hf (by decide),
    Dev.blockSigns_modal hf, Dev.blockClose_modal hf, Dev.takeAll_modal hf]

end

/-! ### Meters -/

/-- What the opening of a segment writes beside OPEN. -/
def segOpenFlds (p : Nat) : List Fld :=
  [H.mtrSegE0 p, H.mtrSegT0 p, H.mtrSegTick p, H.mtrSum p, H.mtrSegId p, H.mtrSegIdV p, H.mtrSegCI p, H.mtrSegCE p,
    H.mtrCarryI p, H.mtrCarryE p, H.mtrImp0 p, H.mtrExp0 p, H.mtrFlBefore p, F.MTR_STAT_FLAGS p, H.mtrShort p, T.mtrFull p]

theorem segOpenFlds_not_modal : ∀ p < 24, ∀ g ∈ segOpenFlds p, g.modal = false := by decide

/-- What the end of a segment writes beside OPEN. -/
def segEndFlds (p : Nat) : List Fld :=
  [F.MTR_STAT_FLAGS p, H.mtrSegE0 p, H.mtrSegT0 p, T.mtrFull p, H.mtrCarryI p, H.mtrCarryE p, F.MTR_STAT_SER p,
    F.MTR_LSEGW0_WORD0 p, H.mtrLI p, H.mtrLE p, F.MTR_EVT_MERGE p, F.MTR_EVT_CLOSED p, F.MTR_EVT_DIT p]

theorem segEndFlds_not_modal : ∀ p < 24, ∀ g ∈ segEndFlds p, g.modal = false := by decide

theorem mtrOpen_modal : ∀ p < 24, (F.MTR_STAT_OPEN p).modal = true := by decide
theorem mtrRun_modal : ∀ p < 24, (H.mtrRun p).modal = true := by decide
theorem diswhy_modal : ∀ p < 24, (F.PRT_ATT_STAT_DISWHY p).modal = true := by decide

theorem mtrRun_ne_open : ∀ p < 24, ∀ q < 24, (H.mtrRun p).key ≠ (F.MTR_STAT_OPEN q).key := by decide

theorem Dev.when_get (d : Dev) (c : Bool) {g : Dev → Dev} {f : Fld} (h : ∀ e : Dev, (g e).get f = e.get f) :
    (d.when c g).get f = d.get f := by
  unfold Dev.when
  split
  · exact h d
  · rfl

section
variable {f : Fld} {p : Nat} (hf : f.modal = true) (hp : p < 24)
include hf hp

theorem Dev.mtrEvt_modal (d : Dev) {evt : Fld} (he : evt.modal = false) : (d.mtrEvt p evt).get f = d.get f :=
  Dev.event_modal d (by omega) hf he

theorem Dev.segQueue_modal (d : Dev) (g : Seg) : (d.segQueue p g).get f = d.get f := by
  have hw := segEndFlds_not_modal p hp
  simp only [segEndFlds, List.forall_mem_cons] at hw
  obtain ⟨-, -, -, -, hci, hce, hser, -, -, -, hmerge, -⟩ := hw
  have hs (q : List Seg) : ((d.setSegs p q).inc (F.MTR_STAT_SER p)).get f = d.get f :=
    (Dev.get_put_modal _ _ hf hser).trans (Dev.get_of_regs rfl)
  unfold Dev.segQueue
  dsimp only
  split
  · split
    · rw [Dev.mtrEvt_modal hf hp _ hmerge]
      exact (Dev.get_puts_modal _ hf (by simp [hci, hce])).trans (Dev.get_of_regs rfl)
    · exact hs _
  · exact hs _

variable (ho : f.key ≠ (F.MTR_STAT_OPEN p).key)
include ho

theorem Dev.segOpen_modal (d : Dev) : (d.segOpen p).get f = d.get f := by
  have hw (e : Dev) : (e.segFullCheck p).get f = e.get f := by
    unfold Dev.segFullCheck
    dsimp only
    split
    · exact Dev.get_put_modal e _ hf (segOpenFlds_not_modal p hp _ (by simp [segOpenFlds]))
    · rfl
  unfold Dev.segOpen
  dsimp only
  rw [hw, Dev.puts_cons, Dev.get_puts_of_fields _ hf (segOpenFlds_not_modal p hp) rfl]
  exact Dev.get_put_ne d 1 ho

theorem Dev.segNone_modal (d : Dev) : (d.segNone p).get f = d.get f := by
  have hw := segEndFlds_not_modal p hp
  simp only [segEndFlds, List.forall_mem_cons] at hw
  obtain ⟨hfl, he, ht, hfull, -⟩ := hw
  unfold Dev.segNone
  rw [Dev.puts_cons, Dev.get_puts_modal _ hf (by simp [hfl, he, ht, hfull])]
  exact Dev.get_put_ne d 0 ho

theorem Dev.segJoin_modal (d : Dev) (reason dit : Nat) (reopen : Bool) (l : Seg) :
    (d.segJoin p reason dit reopen l).get f = d.get f := by
  have hw := segEndFlds_not_modal p hp
  simp only [segEndFlds, List.forall_mem_cons] at hw
  obtain ⟨-, -, -, -, hci, hce, -, hw0, -⟩ := hw
  have h0 (q : List Seg) (v : Nat) : ((d.setSegs p q).put (F.MTR_LSEGW0_WORD0 p) v).get f = d.get f :=
    (Dev.get_put_modal _ _ hf hw0).trans (Dev.get_of_regs rfl)
  have h1 (e : Dev) (x y : Nat) : (e.puts [(H.mtrCarryI p, x), (H.mtrCarryE p, y)]).get f = e.get f :=
    Dev.get_puts_modal e hf (by simp [hci, hce])
  unfold Dev.segJoin
  dsimp only
  split
  · split
    · rw [Dev.segOpen_modal hf hp ho, h1, h0]
    · rw [Dev.segNone_modal hf hp ho, h1, h0]
  · exact h0 _ _

theorem Dev.segEnd_modal (d : Dev) (reason dit : Nat) : (d.segEnd p reason dit).get f = d.get f := by
  have hw := segEndFlds_not_modal p hp
  simp only [segEndFlds, List.forall_mem_cons] at hw
  obtain ⟨-, -, -, -, -, -, -, hw0, hli, hle, -, hclosed, -⟩ := hw
  unfold Dev.segEnd
  dsimp only
  rw [Dev.mtrEvt_modal hf hp _ hclosed, Dev.segNone_modal hf hp ho, Dev.get_puts_modal _ hf (by simp [hw0, hli, hle]),
    Dev.segQueue_modal hf hp]

/-- A close writes no modal field but OPEN of its own meter. -/
theorem Dev.segClose_modal (d : Dev) (reason : Nat) (reopen : Bool) : (d.segClose p reason reopen).get f = d.get f := by
  have hdit (e : Dev) (c : Bool) : (e.when c (·.mtrEvt p (F.MTR_EVT_DIT p))).get f = e.get f :=
    Dev.when_get e c fun g => Dev.mtrEvt_modal hf hp g (segEndFlds_not_modal p hp _ (by simp [segEndFlds]))
  have hopen (e : Dev) : (e.when reopen (·.segOpen p)).get f = e.get f :=
    Dev.when_get e reopen (Dev.segOpen_modal hf hp ho)
  unfold Dev.segClose
  dsimp only
  split
  · rw [hdit, Dev.segJoin_modal hf hp ho]
  · split
    · rfl
    · rw [hdit, hopen, Dev.segEnd_modal hf hp ho]

end

theorem Dev.segNone_open (d : Dev) {p : Nat} (hp : p < 24) : (d.segNone p).get (F.MTR_STAT_OPEN p) = 0 := by
  have hw := segEndFlds_not_modal p hp
  simp only [segEndFlds, List.forall_mem_cons] at hw
  obtain ⟨hfl, he, ht, hfull, -⟩ := hw
  unfold Dev.segNone
  rw [Dev.puts_cons, Dev.get_puts_modal _ (mtrOpen_modal p hp) (by simp [hfl, he, ht, hfull])]
  exact d.get_put_self (F.MTR_STAT_OPEN p) 0

theorem Dev.segEnd_open (d : Dev) {p : Nat} (hp : p < 24) (reason dit : Nat) :
    (d.segEnd p reason dit).get (F.MTR_STAT_OPEN p) = 0 := by
  unfold Dev.segEnd
  dsimp only
  rw [Dev.mtrEvt_modal (mtrOpen_modal p hp) hp _ (segEndFlds_not_modal p hp _ (by simp [segEndFlds])), Dev.segNone_open _ hp]

theorem Dev.segJoin_open (d : Dev) {p : Nat} (hp : p < 24) (reason dit : Nat) (l : Seg) :
    (d.segJoin p reason dit false l).get (F.MTR_STAT_OPEN p) = 0 := by
  unfold Dev.segJoin
  dsimp only
  split
  · exact Dev.segNone_open _ hp
  · next h => simpa [Dev.bit] using h

/-- A close that opens no new segment leaves none open. -/
theorem Dev.segClose_open (d : Dev) {p : Nat} (hp : p < 24) (reason : Nat) :
    (d.segClose p reason false).get (F.MTR_STAT_OPEN p) = 0 := by
  have hdit (e : Dev) (c : Bool) :
      (e.when c (·.mtrEvt p (F.MTR_EVT_DIT p))).get (F.MTR_STAT_OPEN p) = e.get (F.MTR_STAT_OPEN p) :=
    Dev.when_get e c fun g => Dev.mtrEvt_modal (mtrOpen_modal p hp) hp g (segEndFlds_not_modal p hp _ (by simp [segEndFlds]))
  unfold Dev.segClose
  dsimp only
  split
  · rw [hdit, Dev.segJoin_open _ hp]
  · split
    · next h => simpa [Dev.bit] using h
    · rw [hdit]
      exact Dev.segEnd_open d hp _ _

theorem mtrOpen_key_ne : ∀ p < 24, ∀ q < 24, p ≠ q → (F.MTR_STAT_OPEN q).key ≠ (F.MTR_STAT_OPEN p).key := by decide

theorem Dev.segCloseAll_open (d : Dev) (reason : Nat) : ∀ p < 24, (d.segCloseAll reason false).get (F.MTR_STAT_OPEN p) = 0 :=
  Dev.forN_sets d (fun _ hp e => e.segClose_open hp reason)
    fun p hp q hq hpq e => Dev.segClose_modal (mtrOpen_modal q hq) hp (mtrOpen_key_ne p hp q hq hpq) e reason false

theorem Dev.segCloseAll_modal (d : Dev) (reason : Nat) (reopen : Bool) {f : Fld} (hf : f.modal = true)
    (ho : ∀ p < 24, f.key ≠ (F.MTR_STAT_OPEN p).key) : (d.segCloseAll reason reopen).get f = d.get f :=
  Dev.forN_get d fun p hp e => Dev.segClose_modal hf hp (ho p hp) e reason reopen

theorem mtrRun_key_ne : ∀ p < 24, ∀ q < 24, p ≠ q → (H.mtrRun q).key ≠ (H.mtrRun p).key := by decide

theorem Dev.meterStopAll_run (d : Dev) : ∀ p < 24, d.meterStopAll.get (H.mtrRun p) = 0 :=
  Dev.forN_sets d (fun p _ e => e.get_put_self (H.mtrRun p) 0)
    fun p hp q hq hpq e => Dev.get_put_ne e 0 (mtrRun_key_ne p hp q hq hpq)

theorem Dev.meterStopAll_modal (d : Dev) {f : Fld} (hr : ∀ p < 24, f.key ≠ (H.mtrRun p).key) :
    d.meterStopAll.get f = d.get f :=
  Dev.forN_get d fun p hp e => Dev.get_put_ne e 0 (hr p hp)

/-- The wake of one meter: it runs, and a settled one without a segment opens one. -/
theorem Dev.meterWake_modal (d : Dev) {f : Fld} {p : Nat} (hf : f.modal = true) (hp : p < 24)
    (ho : f.key ≠ (F.MTR_STAT_OPEN p).key) (c : Dev → Bool) :
    (if c (d.set1 (H.mtrRun p)) then (d.set1 (H.mtrRun p)).segOpen p else d.set1 (H.mtrRun p)).get f =
      (d.set1 (H.mtrRun p)).get f := by
  split
  · exact Dev.segOpen_modal hf hp ho _
  · rfl

theorem Dev.meterWakeAll_run (d : Dev) : ∀ p < 24, d.meterWakeAll.get (H.mtrRun p) = 1 :=
  Dev.forN_sets d
    (fun p hp e => (Dev.meterWake_modal e (mtrRun_modal p hp) hp (mtrRun_ne_open p hp p hp)
      fun e => e.bit (F.MTR_STAT_SETTLED p) && !e.bit (F.MTR_STAT_OPEN p)).trans (e.get_put_self (H.mtrRun p) 1))
    fun p hp q hq hpq e => (Dev.meterWake_modal e (mtrRun_modal q hq) hp (mtrRun_ne_open q hq p hp)
      fun e => e.bit (F.MTR_STAT_SETTLED p) && !e.bit (F.MTR_STAT_OPEN p)).trans (Dev.get_put_ne e 1 (mtrRun_key_ne p hp q hq hpq))

theorem Dev.meterWakeAll_modal (d : Dev) {f : Fld} (hf : f.modal = true) (ho : ∀ p < 24, f.key ≠ (F.MTR_STAT_OPEN p).key)
    (hr : ∀ p < 24, f.key ≠ (H.mtrRun p).key) : d.meterWakeAll.get f = d.get f :=
  Dev.forN_get d fun p hp e => (Dev.meterWake_modal e hf hp (ho p hp)
    fun e => e.bit (F.MTR_STAT_SETTLED p) && !e.bit (F.MTR_STAT_OPEN p)).trans (Dev.get_put_ne e 1 (hr p hp))

theorem Dev.settleChanged_modal (d : Dev) {f : Fld} (hf : f.modal = true) : d.settleChanged.get f = d.get f := by
  refine Dev.forN_get d fun p hp e => ?_
  split
  · exact Dev.get_put_modal e _ hf (hidden_not_modal 2004 p 2 _ _ rfl (by omega) (by omega))
  · rfl

theorem Dev.meterStart_modal (d : Dev) {f : Fld} {p : Nat} (hf : f.modal = true) (hp : p < 24)
    (hr : f.key ≠ (H.mtrRun p).key) : (d.meterStart p).get f = d.get f := by
  have hs : ∀ p < 24, (F.MTR_STAT_SETTLED p).modal = false ∧ (H.mtrSettle0 p).modal = false ∧
    (T.mtrSettle p).modal = false := by decide
  obtain ⟨h1, h2, h3⟩ := hs p hp
  unfold Dev.meterStart Dev.arm
  rw [Dev.get_put_modal _ _ hf h3, Dev.puts_cons, Dev.get_puts_modal _ hf (by simp [h1, h2])]
  exact Dev.get_put_ne d 1 hr

/-! ### Cores -/

/-- What the clearing of core n writes beside the state before a halt. -/
def coreClearFlds (n : Nat) : List Fld :=
  [H.coreA n, H.coreX n, H.coreY n, F.CORE_STAT_RSDEPTH n, F.CORE_EXC_ACTIVE n, F.CORE_EXC_DOUBLE n, T.waitOut n, H.waitLo n,
    H.waitHi n, H.waitDue n]

theorem coreClearFlds_not_modal : ∀ n < 6, ∀ g ∈ coreClearFlds n, g.modal = false := by decide

theorem coreState_modal : ∀ n < 6, (F.CORE_STAT_STATE n).modal = true := by decide
theorem coreP_modal : ∀ n < 6, (F.CORE_P_P n).modal = true := by decide
theorem coreWas_modal : ∀ n < 6, (H.coreWas n).modal = true := by decide

theorem coreState_key_ne : ∀ m < 6, ∀ n < 6, m ≠ n → (F.CORE_STAT_STATE n).key ≠ (F.CORE_STAT_STATE m).key := by decide
theorem coreWas_key_ne : ∀ m < 6, ∀ n < 6, m ≠ n → (H.coreWas n).key ≠ (H.coreWas m).key := by decide
theorem coreState_ne_coreWas : ∀ m < 6, ∀ n < 6, (F.CORE_STAT_STATE n).key ≠ (H.coreWas m).key := by decide

section
variable {f : Fld} {n : Nat} (hf : f.modal = true) (hn : n < 6)
include hf hn

theorem Dev.wdtLoad_modal (d : Dev) : (d.wdtLoad n).get f = d.get f := by
  have hw : (T.wdt n).modal = false := hidden_not_modal 2086 n 1 _ _ rfl (by omega) (by omega)
  unfold Dev.wdtLoad
  split
  · exact Dev.get_put_modal d _ hf hw
  · exact Dev.get_put_modal d _ hf hw

theorem Dev.coreSet_after_put (d : Dev) (st : Nat) : (d.coreSet n st).get f = (d.put (F.CORE_STAT_STATE n) st).get f := by
  unfold Dev.coreSet
  dsimp only
  split
  · rfl
  · exact Dev.wdtLoad_modal hf hn _

theorem Dev.coreSet_modal (d : Dev) (st : Nat) (hs : f.key ≠ (F.CORE_STAT_STATE n).key) : (d.coreSet n st).get f = d.get f :=
  (Dev.coreSet_after_put hf hn d st).trans (Dev.get_put_ne d st hs)

theorem Dev.coreClear_modal (d : Dev) (hw : f.key ≠ (H.coreWas n).key) : (d.coreClear n).get f = d.get f := by
  unfold Dev.coreClear
  refine (Dev.get_puts_ne _ _ fun e he => ?_).trans (Dev.get_of_regs rfl)
  have hmem : e.1 ∈ coreClearFlds n ++ [H.coreWas n] := List.mem_map_of_mem he
  rcases List.mem_append.1 hmem with h | h
  · exact modal_ne hf (coreClearFlds_not_modal n hn _ h)
  · rwa [List.mem_singleton.1 h]

end

theorem Dev.coreSet_state (d : Dev) {n : Nat} (hn : n < 6) (st : Nat) : (d.coreSet n st).coreState n = st % 8 :=
  (Dev.coreSet_after_put (coreState_modal n hn) hn d st).trans (d.get_put_self (F.CORE_STAT_STATE n) st)

/-- After the halt of Banked entry no core runs or waits. -/
theorem Dev.coresHalt_state (d : Dev) : ∀ n < 6, d.coresHalt.coreState n ≠ 1 ∧ d.coresHalt.coreState n ≠ 2 := by
  refine Dev.forN_each (Pre := fun _ _ => True) (Post := fun n e => e.coreState n ≠ 1 ∧ e.coreState n ≠ 2)
    (fun _ _ => trivial) (fun _ _ _ _ _ _ _ => trivial) (fun n hn e _ => ?_) fun m hm n hn hmn e he => ?_
  · split
    · simp [Dev.coreSet_state _ hn]
    · next h => exact not_or.1 h
  · split
    · have hs (v : Nat) : ((e.put (H.coreWas m) v).coreSet m 3).coreState n = e.coreState n :=
        (Dev.coreSet_modal (coreState_modal n hn) hm _ 3 (coreState_key_ne m hm n hn hmn)).trans
          (Dev.get_put_ne e v (coreState_ne_coreWas m hm n hn))
      rwa [hs]
    · exact he

theorem Dev.coresHalt_modal (d : Dev) {f : Fld} (hf : f.modal = true)
    (hs : ∀ n < 6, f.key ≠ (F.CORE_STAT_STATE n).key ∧ f.key ≠ (H.coreWas n).key) : d.coresHalt.get f = d.get f := by
  refine Dev.forN_get d fun n hn e => ?_
  split
  · exact (Dev.coreSet_modal hf hn _ 3 (hs n hn).1).trans (Dev.get_put_ne e _ (hs n hn).2)
  · rfl

/-- What the resume of one halted core does. -/
def Dev.coreResume (e : Dev) (n : Nat) : Dev :=
  if e.coreState n = 3 then
    let e := (e.coreSet n (e.get (H.coreWas n))).clr (H.coreWas n)
    if e.bit (H.waitDue n) then (e.clr (H.waitDue n)).arm (T.waitOut n) 0 else e
  else e

theorem Dev.coresResume_eq (d : Dev) : d.coresResume = Dev.forN 6 (fun n e => e.coreResume n) (d.clr H.coreResume) := rfl

/-- A halted core takes the state it had; the fields beside STATE and that state stand. -/
theorem Dev.coreResume_halted (e : Dev) {n : Nat} (hn : n < 6) {f : Fld} (hf : f.modal = true) (h3 : e.coreState n = 3) :
    (e.coreResume n).get f = ((e.coreSet n (e.get (H.coreWas n))).clr (H.coreWas n)).get f := by
  have hd : (H.waitDue n).modal = false := hidden_not_modal 291 n 1 _ _ rfl (by omega) (by omega)
  have ho : (T.waitOut n).modal = false := hidden_not_modal 2000 n 1 _ _ rfl (by omega) (by omega)
  unfold Dev.coreResume
  rw [if_pos h3]
  dsimp only
  split
  · exact (Dev.get_put_modal _ _ hf ho).trans (Dev.get_put_modal _ _ hf hd)
  · rfl

theorem Dev.coreResume_modal (e : Dev) {n : Nat} (hn : n < 6) {f : Fld} (hf : f.modal = true)
    (hs : f.key ≠ (F.CORE_STAT_STATE n).key) (hw : f.key ≠ (H.coreWas n).key) : (e.coreResume n).get f = e.get f := by
  by_cases h3 : e.coreState n = 3
  · rw [Dev.coreResume_halted e hn hf h3]
    exact (Dev.get_put_ne _ 0 hw).trans (Dev.coreSet_modal hf hn e _ hs)
  · unfold Dev.coreResume
    rw [if_neg h3]

theorem Dev.coreResume_state (e : Dev) {n : Nat} (hn : n < 6) :
    (e.coreResume n).coreState n = if e.coreState n = 3 then e.get (H.coreWas n) else e.coreState n := by
  split
  · next h3 =>
    refine (Dev.coreResume_halted e hn (coreState_modal n hn) h3).trans ?_
    refine (Dev.get_put_ne _ 0 (coreState_ne_coreWas n hn n hn)).trans ?_
    exact (Dev.coreSet_state e hn _).trans (Nat.mod_eq_of_lt (e.get_lt (H.coreWas n)))
  · next h3 =>
    unfold Dev.coreResume
    rw [if_neg h3]

/-- After the resume no core is halted, but one whose noted state was that of a halt. -/
theorem Dev.coresResume_state (d : Dev) : ∀ n < 6, d.coresResume.coreState n ≠ 3 ∨ d.get (H.coreWas n) = 3 := by
  rw [Dev.coresResume_eq]
  refine Dev.forN_each (Pre := fun n e => e.get (H.coreWas n) = d.get (H.coreWas n))
    (Post := fun n e => e.coreState n ≠ 3 ∨ d.get (H.coreWas n) = 3) (fun n hn => ?_) (fun m hm n hn hmn e he => ?_)
    (fun n hn e he => ?_) fun m hm n hn hmn e he => ?_
  · exact Dev.get_put_modal d 0 (coreWas_modal n hn) (by decide)
  · exact (Dev.coreResume_modal e hm (coreWas_modal n hn) (coreState_ne_coreWas n hn m hm).symm
      (coreWas_key_ne m hm n hn hmn)).trans he
  · rw [Dev.coreResume_state e hn, he]
    split
    · exact (ne_or_eq _ _)
    · next h => exact .inl h
  · refine he.imp_left fun h => ?_
    rwa [Dev.coreState, Dev.coreResume_modal e hm (coreState_modal n hn) (coreState_key_ne m hm n hn hmn)
      (coreState_ne_coreWas m hm n hn)]

theorem Dev.coresResume_modal (d : Dev) {f : Fld} (hf : f.modal = true)
    (hs : ∀ n < 6, f.key ≠ (F.CORE_STAT_STATE n).key ∧ f.key ≠ (H.coreWas n).key) : d.coresResume.get f = d.get f := by
  rw [Dev.coresResume_eq]
  refine (Dev.forN_get _ fun n hn e => Dev.coreResume_modal e hn hf (hs n hn).1 (hs n hn).2).trans ?_
  exact Dev.get_put_modal d 0 hf (by decide)

/-! ### The start of C0 in the boot ROM -/

theorem coreP_ne_coreState : ∀ m < 6, ∀ n < 6, (F.CORE_P_P n).key ≠ (F.CORE_STAT_STATE m).key := by decide

theorem Dev.coreStart_state (d : Dev) {n : Nat} (hn : n < 6) (p : Nat) : (d.coreStart n p).coreState n = 1 :=
  (Dev.wdtLoad_modal (coreState_modal n hn) hn _).trans (Dev.coreSet_state _ hn 1)

theorem Dev.coreStart_p (d : Dev) {n : Nat} (hn : n < 6) (p : Nat) : (d.coreStart n p).pcOf n = p % 2 ^ 22 :=
  (Dev.wdtLoad_modal (coreP_modal n hn) hn _).trans
    ((Dev.coreSet_modal (coreP_modal n hn) hn _ 1 (coreP_ne_coreState n hn n hn)).trans (Dev.get_put_self _ (F.CORE_P_P n) p))

theorem Dev.coreStart_modal (d : Dev) {n : Nat} (hn : n < 6) (p : Nat) {f : Fld} (hf : f.modal = true)
    (hs : f.key ≠ (F.CORE_STAT_STATE n).key) (hp : f.key ≠ (F.CORE_P_P n).key) (hw : f.key ≠ (H.coreWas n).key) :
    (d.coreStart n p).get f = d.get f := by
  unfold Dev.coreStart Dev.coreEnter
  rw [Dev.wdtLoad_modal hf hn, Dev.coreSet_modal hf hn _ _ hs, Dev.get_put_ne _ _ hp, Dev.coreClear_modal hf hn _ hw]

theorem Dev.coreStop_modal (d : Dev) {n : Nat} (hn : n < 6) (st : Nat) {f : Fld} (hf : f.modal = true)
    (hs : f.key ≠ (F.CORE_STAT_STATE n).key) (hp : f.key ≠ (F.CORE_P_P n).key) (hw : f.key ≠ (H.coreWas n).key) :
    (d.coreStop n st).get f = d.get f := by
  unfold Dev.coreStop
  rw [Dev.get_put_ne _ _ hp, Dev.coreSet_modal hf hn _ _ hs, Dev.coreClear_modal hf hn _ hw]

theorem Dev.bootCores_modal (d : Dev) (others : Nat) {f : Fld} (hf : f.modal = true)
    (hs : ∀ n < 6, f.key ≠ (F.CORE_STAT_STATE n).key ∧ f.key ≠ (F.CORE_P_P n).key ∧ f.key ≠ (H.coreWas n).key) :
    (d.bootCores others).get f = d.get f := by
  unfold Dev.bootCores
  dsimp only
  obtain ⟨h1, h2, h3⟩ := hs 0 (by decide)
  rw [Dev.coreStart_modal _ (by decide) _ hf h1 h2 h3, Dev.get_put_modal _ _ hf (by decide)]
  refine Dev.forN_get d fun i hi e => ?_
  obtain ⟨h1, h2, h3⟩ := hs (i + 1) (by omega)
  exact Dev.coreStop_modal e (by omega) others hf h1 h2 h3

/-! ### Entering a mode -/

section
variable {f : Fld} (hf : f.modal = true)
include hf

theorem Dev.twUpdate_modal (d : Dev) {n : Nat} (hn : n < 4) : (d.twUpdate n).get f = d.get f := by
  have hb : ∀ n < 4, (F.TW_STAT_BUSY n).modal = false ∧ (T.twStart n).modal = false := by decide
  exact (Dev.get_put_modal _ _ hf (hb n hn).2).trans (Dev.get_put_modal d _ hf (hb n hn).1)

theorem Dev.vcoreGo_modal (d : Dev) : d.vcoreGo.get f = d.get f := by
  unfold Dev.vcoreGo
  split
  · exact Dev.get_put_modal d _ hf (by decide)
  · rfl

theorem Dev.noticesConfirmed_modal (d : Dev) : d.noticesConfirmed.get f = d.get f := by
  have hb : ∀ p < 24, (F.BUDP_STAT_NOTEPEND p).modal = false ∧ (T.revoke p).modal = false := by decide
  exact Dev.forN_get d fun p hp e => Dev.get_puts_modal e hf (by simp [hb p hp])

theorem Dev.scanReq_modal (d : Dev) {q : Nat} (hq : q < 6) : (d.scanReq q).get f = d.get f := by
  have hb : ∀ q < 6, (F.SYS_GZQ_STAT_SCAN q).modal = false ∧ (T.gzProbe q).modal = false ∧ (H.gzAgain q).modal = false ∧
    (H.gzScan q).modal = false ∧ (H.gzTry q).modal = false := by decide
  obtain ⟨h1, h2, h3, h4, h5⟩ := hb q hq
  have hs : ((d.set1 (F.SYS_GZQ_STAT_SCAN q)).stop (T.gzProbe q)).get f = d.get f :=
    (Dev.get_put_modal _ 0 hf h2).trans (Dev.get_put_modal d 1 hf h1)
  unfold Dev.scanReq
  dsimp only
  split
  · exact (Dev.get_put_modal _ 1 hf h3).trans hs
  · rw [Dev.twUpdate_modal hf _ (by simp only [quadBus]; omega), Dev.get_puts_modal _ hf (by simp [h4, h5]), hs]

end

/-- The fields that the entry of a mode writes before what follows from it. -/
def Dev.modeWrites (d : Dev) (prev m cause : Nat) : Dev :=
  let d := d.puts [(F.SYS_MODE_PREV, prev), (F.SYS_MODE_MODE, m), (F.SYS_MODE_CAUSE, cause), (F.SYS_MODE_TRANS, 0),
    (H.hwTick, d.now + 1)]
  if m = 1 then d else d.puts [(H.kindleStart, 0), (T.kindle, 0)]

/-- What follows from the entry of a mode leaves the modal fields alone. -/
theorem Dev.modeEnterFrom_modal (d : Dev) (prev m cause : Nat) {f : Fld} (hf : f.modal = true) :
    (d.modeEnterFrom prev m cause).get f = (d.modeWrites prev m cause).get f := by
  have hnotice (e : Dev) : (if m = 3 ∨ m = 4 then e.noticesConfirmed else e).get f = e.get f := by
    split
    · exact Dev.noticesConfirmed_modal hf e
    · rfl
  have hraise (e : Dev) : (if d.mode = m then e else e.raise 215).get f = e.get f := by
    split
    · rfl
    · exact Dev.raise_modal e (by decide) hf
  have htw (e : Dev) : (Dev.forN 3 (fun n e => e.twUpdate (n + 1)) e).get f = e.get f :=
    Dev.forN_get e fun n hn e => Dev.twUpdate_modal hf e (by omega)
  unfold Dev.modeEnterFrom Dev.modeWrites
  dsimp only
  rw [Dev.pump_modal hf, Dev.logAppend_modal hf, hnotice, hraise, htw, Dev.vcoreGo_modal hf]
  split
  · rfl
  · exact Dev.settleChanged_modal _ hf

section
variable (d : Dev) (prev m cause : Nat)

theorem Dev.modeWrites_entered : (d.modeWrites prev m cause).mode = m % 16 ∧
    (d.modeWrites prev m cause).get F.SYS_MODE_PREV = prev % 16 ∧
    (d.modeWrites prev m cause).get F.SYS_MODE_CAUSE = cause % 16 ∧ (d.modeWrites prev m cause).get F.SYS_MODE_TRANS = 0 := by
  unfold Dev.modeWrites
  split <;> simp (disch := decide) only [Dev.mode, Dev.puts_cons, Dev.puts_nil, Dev.get_put_ne, Dev.get_put_self,
    Nat.reducePow, Nat.zero_mod, and_self]

/-- A mode is entered with its PREV and CAUSE, and TRANS ends. -/
theorem Dev.modeEnterFrom_entered : (d.modeEnterFrom prev m cause).mode = m % 16 ∧
    (d.modeEnterFrom prev m cause).get F.SYS_MODE_PREV = prev % 16 ∧
    (d.modeEnterFrom prev m cause).get F.SYS_MODE_CAUSE = cause % 16 ∧
    (d.modeEnterFrom prev m cause).get F.SYS_MODE_TRANS = 0 := by
  rw [Dev.mode, d.modeEnterFrom_modal prev m cause (by decide), d.modeEnterFrom_modal prev m cause (by decide),
    d.modeEnterFrom_modal prev m cause (by decide), d.modeEnterFrom_modal prev m cause (by decide)]
  exact d.modeWrites_entered prev m cause

theorem Dev.modeEnterFrom_kindleStart (hm : m ≠ 1) : (d.modeEnterFrom prev m cause).get H.kindleStart = 0 := by
  rw [d.modeEnterFrom_modal prev m cause (by decide)]
  unfold Dev.modeWrites
  rw [if_neg hm]
  simp (disch := decide) only [Dev.puts_cons, Dev.puts_nil, Dev.get_put_ne, Dev.get_put_self, Nat.zero_mod]

/-- The modal fields that the entry of a mode writes. -/
def modeEntryFlds : List Fld := [F.SYS_MODE_PREV, F.SYS_MODE_MODE, F.SYS_MODE_CAUSE, F.SYS_MODE_TRANS, H.kindleStart]

theorem Dev.modeEnterFrom_keeps {f : Fld} (hf : f.modal = true) (hne : ∀ g ∈ modeEntryFlds, f.key ≠ g.key) :
    (d.modeEnterFrom prev m cause).get f = d.get f := by
  simp only [modeEntryFlds, List.forall_mem_cons] at hne
  obtain ⟨hp, hm, hc, ht, hk, -⟩ := hne
  have hh : f.key ≠ H.hwTick.key := modal_ne hf (by decide)
  have hkt : f.key ≠ T.kindle.key := modal_ne hf (by decide)
  rw [d.modeEnterFrom_modal prev m cause hf]
  unfold Dev.modeWrites
  dsimp only
  split
  · exact Dev.get_puts_ne d _ (by simp [hp, hm, hc, ht, hh])
  · rw [Dev.get_puts_ne _ _ (by simp [hk, hkt]), Dev.get_puts_ne d _ (by simp [hp, hm, hc, ht, hh])]

end

/-- A start into Kindling writes no modal field but its own mark. -/
theorem Dev.kindleBegin_modal (d : Dev) (from_ : Nat) {f : Fld} (hf : f.modal = true) (hk : f.key ≠ H.kindleStart.key) :
    (d.kindleBegin from_).get f = d.get f := by
  have hb : ∀ p < 24, (H.inrushDone p).modal = false ∧ (H.togglePer p).modal = false := by decide
  unfold Dev.kindleBegin
  dsimp only
  rw [Dev.puts_cons, Dev.get_puts_modal _ hf (by simp only [List.forall_mem_cons]; decide)]
  refine (Dev.get_put_ne _ 1 hk).trans (Dev.forN_get d fun p hp e => Dev.get_puts_modal e hf (by simp [hb p hp]))

/-! ### Banked entry (R41-R43) -/

theorem Dev.setReqerr_self (d : Dev) {e : Nat} (he : e < 16) : (d.setReqerr e).get F.SYS_MODE_REQERR = e := by
  unfold Dev.setReqerr
  split
  · assumption
  · rw [Dev.raise_modal _ (by decide) (by decide), Dev.get_put_self]
    exact Nat.mod_eq_of_lt he

theorem Dev.setReqerr_modal (d : Dev) (e : Nat) {f : Fld} (hf : f.modal = true) (hne : f.key ≠ F.SYS_MODE_REQERR.key) :
    (d.setReqerr e).get f = d.get f := by
  unfold Dev.setReqerr
  split
  · rfl
  · exact (Dev.raise_modal _ (by decide) hf).trans (Dev.get_put_ne d e hne)

/-- A Banked request given up ends TRANS, the request and the 50 ms, with its REQERR. -/
theorem Dev.bankQuit_quits (d : Dev) {e : Nat} (he : e < 16) :
    (d.bankQuit e).get F.SYS_MODE_REQERR = e ∧ (d.bankQuit e).get F.SYS_MODE_TRANS = 0 ∧
      (d.bankQuit e).get H.bankReq = 0 ∧ (d.bankQuit e).get T.bank50 = 0 := by
  have hw : (d.puts [(F.SYS_MODE_TRANS, 0), (H.bankReq, 0), (T.bank50, 0)]).get F.SYS_MODE_TRANS = 0 ∧
      (d.puts [(F.SYS_MODE_TRANS, 0), (H.bankReq, 0), (T.bank50, 0)]).get H.bankReq = 0 ∧
      (d.puts [(F.SYS_MODE_TRANS, 0), (H.bankReq, 0), (T.bank50, 0)]).get T.bank50 = 0 := by
    simp (disch := decide) only [Dev.puts_cons, Dev.puts_nil, Dev.get_put_ne, Dev.get_put_self, Nat.zero_mod, and_self]
  refine ⟨Dev.setReqerr_self _ he, ?_⟩
  unfold Dev.bankQuit
  rw [Dev.setReqerr_modal _ _ (by decide) (by decide), Dev.setReqerr_modal _ _ (by decide) (by decide),
    Dev.setReqerr_modal _ _ (by decide) (by decide)]
  exact hw

/-- The modal fields that a Banked request given up writes. -/
def bankQuitFlds : List Fld := [F.SYS_MODE_TRANS, H.bankReq, T.bank50, F.SYS_MODE_REQERR]

theorem Dev.bankQuit_keeps (d : Dev) (e : Nat) {f : Fld} (hf : f.modal = true) (hne : ∀ g ∈ bankQuitFlds, f.key ≠ g.key) :
    (d.bankQuit e).get f = d.get f := by
  simp only [bankQuitFlds, List.forall_mem_cons] at hne
  obtain ⟨ht, hr, h50, he, -⟩ := hne
  exact (Dev.setReqerr_modal _ e hf he).trans (Dev.get_puts_ne d _ (by simp [ht, hr, h50]))

/-- Steps 1 and 2 of R43: every segment is closed, the 50 ms end, and the mode stands. -/
theorem Dev.bankClose_closes (d : Dev) : d.bankClose.get H.bankStage = 1 ∧ d.bankClose.get T.bank50 = 0 ∧
    d.bankClose.mode = d.mode ∧ ∀ p < 24, d.bankClose.get (F.MTR_STAT_OPEN p) = 0 := by
  have hputs (e : Dev) {f : Fld} (h1 : f.key ≠ H.bankStage.key) (h2 : f.key ≠ T.bank50.key) :
      (e.puts [(H.bankStage, 1), (T.bank50, 0)]).get f = e.get f := Dev.get_puts_ne e _ (by simp [h1, h2])
  have hopen : ∀ p < 24, (F.MTR_STAT_OPEN p).key ≠ H.bankStage.key ∧ (F.MTR_STAT_OPEN p).key ≠ T.bank50.key := by decide
  refine ⟨?_, ?_, ?_, fun p hp => ?_⟩
  · exact (Dev.get_put_ne _ 0 (by decide)).trans (Dev.get_put_self _ _ _)
  · exact Dev.get_put_self _ T.bank50 0
  · unfold Dev.bankClose Dev.mode
    dsimp only
    rw [hputs _ (by decide) (by decide), Dev.ledgerDrain_modal (by decide), Dev.segCloseAll_modal _ _ _ (by decide) (by decide)]
    exact Dev.forN_get d fun p hp e =>
      Dev.get_put_modal e _ (by decide) (hidden_not_modal 341 p 2 _ _ rfl (by omega) (by omega))
  · unfold Dev.bankClose
    dsimp only
    rw [hputs _ (hopen p hp).1 (hopen p hp).2, Dev.ledgerDrain_modal (mtrOpen_modal p hp), Dev.segCloseAll_open _ _ p hp]

/-- Step 5 of R43: the device is Banked, the request is over, and the Ledger engine idles. -/
theorem Dev.bankFinish_banked (d : Dev) : d.bankFinish.mode = 3 ∧ d.bankFinish.get F.SYS_MODE_TRANS = 0 ∧
    d.bankFinish.get H.bankReq = 0 ∧ d.bankFinish.get H.bankStage = 0 ∧ d.bankFinish.get H.lgrIdle = 1 ∧
    d.bankFinish.get F.SYS_MODE_CAUSE = d.get H.bankCause % 16 := by
  have hwant (e : Dev) : (Dev.forN 24 (fun p e => e.putBit (H.want p) 3 false) e).get H.bankCause = e.get H.bankCause :=
    Dev.forN_get e fun p hp e => Dev.get_put_ne e _ (by simp only [hkey]; omega)
  unfold Dev.bankFinish Dev.modeEnter
  dsimp only
  obtain ⟨hmode, -, hcause, htrans⟩ := Dev.modeEnterFrom_entered ((Dev.forN 24 (fun p e => e.putBit (H.want p) 3 false) d).puts
    [(H.lgrIdle, 1), (H.bankReq, 0), (H.bankStage, 0), (H.svyGate, 0), (T.svySweep, 0), (H.svyDue, 1), (H.svyReAt, 0)])
    (Dev.mode _) 3 (Dev.get _ H.bankCause)
  refine ⟨hmode, htrans, ?_, ?_, ?_, hcause.trans ?_⟩
  · rw [Dev.modeEnterFrom_keeps _ _ _ _ (by decide) (by decide)]
    simp (disch := decide) only [Dev.puts_cons, Dev.puts_nil, Dev.get_put_ne, Dev.get_put_self, Nat.zero_mod]
  · rw [Dev.modeEnterFrom_keeps _ _ _ _ (by decide) (by decide)]
    simp (disch := decide) only [Dev.puts_cons, Dev.puts_nil, Dev.get_put_ne, Dev.get_put_self, Nat.zero_mod]
  · rw [Dev.modeEnterFrom_keeps _ _ _ _ (by decide) (by decide)]
    rw [Dev.puts_cons]
    exact (Dev.get_puts_ne _ _ (by simp only [List.forall_mem_cons]; decide)).trans (Dev.get_put_self _ H.lgrIdle 1)
  · rw [Dev.get_puts_ne _ _ (by simp only [List.forall_mem_cons]; decide), hwant]

/-! ### What an expired timer of the mode does not disturb -/

theorem all_range_congr {n : Nat} {g h : Nat → Bool} (hgh : ∀ i < n, g i = h i) :
    (List.range n).all g = (List.range n).all h := by
  rw [Bool.eq_iff_iff, List.all_eq_true, List.all_eq_true]
  exact forall₂_congr fun i hi => by rw [hgh i (List.mem_range.1 hi)]

theorem any_range_congr {n : Nat} {g h : Nat → Bool} (hgh : ∀ i < n, g i = h i) :
    (List.range n).any g = (List.range n).any h := by
  rw [Bool.eq_iff_iff, List.any_eq_true, List.any_eq_true]
  exact exists_congr fun i => and_congr_right fun hi => by rw [hgh i (List.mem_range.1 hi)]

section
variable {t : Fld} (d : Dev) (v : Nat) (ht : hkey 2087 0 2 ≤ t.key)
include ht

theorem Dev.get_put_timer {f : Fld} (hf : f.key < hkey 2087 0 2) : (d.put t v).get f = d.get f :=
  Dev.get_put_ne d v (by omega)

theorem Dev.bankOk_timer {p : Nat} (hp : p < 24) : (d.put t v).bankOk p = d.bankOk p := by
  have hg := fun f hf => Dev.get_put_timer d v ht (f := f) hf
  simp (disch := (simp only [fkey, hkey]; omega)) only [Dev.bankOk, Dev.attached, Dev.isSrc, Dev.isSnk, Dev.resuming, Dev.att,
    Dev.explicit, Dev.conKind, Dev.busy, Dev.askOut, Dev.bit, hg] <;> rfl

theorem Dev.bankBar_timer {p : Nat} (hp : p < 24) : (d.put t v).bankBar p = d.bankBar p := by
  have hg := fun f hf => Dev.get_put_timer d v ht (f := f) hf
  simp (disch := (simp only [fkey, hkey]; omega)) only [Dev.bankBar, Dev.attached, Dev.isSrc, Dev.isSnk, Dev.resuming, Dev.att,
    Dev.pe, Dev.explicit, Dev.conKind, Dev.busy, Dev.askOut, Dev.bit, hg] <;> rfl

theorem Dev.bankAllOk_timer : (d.put t v).bankAllOk = d.bankAllOk :=
  all_range_congr fun _ hp => d.bankOk_timer v ht hp

theorem Dev.bankBarred_timer : (d.put t v).bankBarred = d.bankBarred :=
  any_range_congr fun _ hp => d.bankBar_timer v ht hp

theorem Dev.kindleDone_timer : (d.put t v).kindleDone = d.kindleDone := by
  have hg := fun f hf => Dev.get_put_timer d v ht (f := f) hf
  unfold Dev.kindleDone
  congr 1
  · congr 1
    · refine all_range_congr fun p hp => ?_
      simp (disch := (simp only [fkey, hkey]; omega)) only [Dev.att, Dev.explicit, Dev.conKind, Dev.bit, hg] <;> rfl
    · refine all_range_congr fun p hp => ?_
      simp (disch := (simp only [fkey, hkey]; omega)) only [Dev.bit, hg]
  · refine all_range_congr fun q hq => ?_
    simp (disch := (simp only [fkey, hkey]; omega)) only [Dev.bit, hg]

end

theorem Dev.bankTimeout_unsettled (d : Dev) (hreq : d.get H.bankReq = 1) (hst : d.get H.bankStage = 0)
    (hbar : d.bankBarred = false) (hok : d.bankAllOk = false) : d.bankTimeout = d.bankQuit 4 := by
  simp [Dev.bankTimeout, Dev.bit, hreq, hst, hbar, hok]

theorem Dev.bankQuit_mode (d : Dev) (e : Nat) : (d.bankQuit e).mode = d.mode :=
  Dev.bankQuit_keeps d e (by decide) (by decide)

/-! ### The steps of R43, one by one -/

section
variable (d : Dev) (hreq : d.get H.bankReq = 1)
include hreq

theorem Dev.bankEntry_settled (hst : d.get H.bankStage = 0) (hbar : d.bankBarred = false) (hok : d.bankAllOk = true) :
    d.bankEntry = d.bankClose := by simp [Dev.bankEntry, Dev.bit, hreq, hst, hbar, hok]

theorem Dev.bankEntry_barred (hst : d.get H.bankStage = 0) (hbar : d.bankBarred = true) : d.bankEntry = d.bankQuit 3 := by
  simp [Dev.bankEntry, Dev.bit, hreq, hst, hbar]

theorem Dev.bankEntry_unsettled (hst : d.get H.bankStage = 0) (hbar : d.bankBarred = false) (hok : d.bankAllOk = false) :
    d.bankEntry = d := by simp [Dev.bankEntry, Dev.bit, hreq, hst, hbar, hok]

theorem Dev.bankEntry_halts (hst : d.get H.bankStage = 1) : d.bankEntry = d.coresHalt.put H.bankStage 2 := by
  simp [Dev.bankEntry, Dev.bit, hreq, hst]

theorem Dev.bankEntry_stops (hst : d.get H.bankStage = 2) : d.bankEntry = d.meterStopAll.put H.bankStage 3 := by
  simp [Dev.bankEntry, Dev.bit, hreq, hst]

theorem Dev.bankEntry_finishes (hst : d.get H.bankStage = 3) : d.bankEntry = d.bankFinish := by
  simp [Dev.bankEntry, Dev.bit, hreq, hst]

end

/-- Step 3 of R43: no core runs or waits. -/
theorem Dev.coresHalt_step (d : Dev) : (d.coresHalt.put H.bankStage 2).get H.bankStage = 2 ∧
    (d.coresHalt.put H.bankStage 2).mode = d.mode ∧
    ∀ n < 6, (d.coresHalt.put H.bankStage 2).coreState n ≠ 1 ∧ (d.coresHalt.put H.bankStage 2).coreState n ≠ 2 := by
  have hne : ∀ n < 6, (F.CORE_STAT_STATE n).key ≠ H.bankStage.key := by decide
  refine ⟨Dev.get_put_self _ _ _, ?_, fun n hn => ?_⟩
  · exact (Dev.get_put_ne _ 2 (by decide)).trans (d.coresHalt_modal (by decide) (by decide))
  · rw [Dev.coreState, Dev.get_put_ne _ 2 (hne n hn)]
    exact d.coresHalt_state n hn

/-- Step 4 of R43: no meter runs. -/
theorem Dev.meterStop_step (d : Dev) : (d.meterStopAll.put H.bankStage 3).get H.bankStage = 3 ∧
    (d.meterStopAll.put H.bankStage 3).mode = d.mode ∧ ∀ p < 24, (d.meterStopAll.put H.bankStage 3).get (H.mtrRun p) = 0 := by
  have hne : ∀ p < 24, (H.mtrRun p).key ≠ H.bankStage.key := by decide
  refine ⟨Dev.get_put_self _ _ _, ?_, fun p hp => ?_⟩
  · exact (Dev.get_put_ne _ 3 (by decide)).trans (d.meterStopAll_modal (by decide))
  · rw [Dev.get_put_ne _ 3 (hne p hp), d.meterStopAll_run p hp]

/-! ### Bits set by hardware -/

theorem testBit_withBit_true (x b : Nat) : (withBit x b true).testBit b = true := by
  unfold withBit
  split
  · assumption
  · next h => rw [if_pos rfl, Nat.add_comm, Nat.testBit_two_pow_add_eq]; simpa using h

theorem Dev.putBit_getBit (d : Dev) (f : Fld) {b : Nat} (hb : b < f.w) : (d.putBit f b true).getBit f b = true := by
  rw [Dev.getBit, Dev.putBit, Dev.get_put_self, Nat.testBit_mod_two_pow, testBit_withBit_true]
  simpa using hb

theorem Dev.get_ne_zero_of_getBit {d : Dev} {f : Fld} {b : Nat} (h : d.getBit f b = true) : d.get f ≠ 0 := by
  intro h0
  simp [Dev.getBit, h0] at h

/-- Setting one of four bits keeps those that are set. -/
theorem testBit_withBit_keeps :
    ∀ x < 16, ∀ b < 4, ∀ c < 4, x.testBit b = true → (withBit x c true % 16).testBit b = true := by decide

/-! ### Wakes (R45, R46, R91) -/

theorem Dev.wakeNote_modal (d : Dev) (b : Nat) {f : Fld} (hf : f.modal = true) (hw : f.key ≠ F.SYS_WAKE_STAT_FIXED.key) :
    (d.wakeNote b).get f = d.get f := d.wakeNote_get b (Fld.quiet_of_modal hf hw)

/-- A fixed wake source sets its bit of SYS_WAKE_STAT. -/
theorem Dev.wakeNote_fixed (d : Dev) {b : Nat} (hb : 12 ≤ b) (hb' : b < 16) :
    (d.wakeNote b).getBit F.SYS_WAKE_STAT_FIXED (b - 12) = true := by
  unfold Dev.wakeNote
  rw [if_neg (by omega), if_pos hb]
  exact Dev.putBit_getBit d _ (show b - 12 < 4 by omega)

/-- A further wake source keeps the bits that are set. -/
theorem Dev.wakeNote_keeps (d : Dev) {b c : Nat} (hb : b < 4) (hc : c < 16) (h : d.getBit F.SYS_WAKE_STAT_FIXED b = true) :
    (d.wakeNote c).getBit F.SYS_WAKE_STAT_FIXED b = true := by
  unfold Dev.wakeNote
  split
  · rwa [Dev.getBit, Dev.hwBit_get_ne d _ (by decide)]
  · split
    · rw [Dev.getBit, Dev.hwBit_self]
      exact testBit_withBit_keeps _ (d.get_lt F.SYS_WAKE_STAT_FIXED) b hb (c - 12) (by omega) h
    · exact h

theorem Dev.wakeStat_modal (d : Dev) (w : Nat) {f : Fld} (hf : f.modal = true) (hw : f.key ≠ F.SYS_WAKE_STAT_FIXED.key) :
    (d.wakeStat w).get f = d.get f := by
  refine Dev.forN_get d fun b _ e => ?_
  split
  · exact e.wakeNote_modal b hf hw
  · rfl

/-- A wake shows in SYS_WAKE_STAT. -/
theorem Dev.wakeStat_fixed (d : Dev) {w b : Nat} (hb : 12 ≤ b) (hb' : b < 16) (hw : w.testBit b = true) :
    (d.wakeStat w).getBit F.SYS_WAKE_STAT_FIXED (b - 12) = true := by
  refine Dev.forN_each (Pre := fun _ _ => True) (Post := fun c e => c = b → e.getBit F.SYS_WAKE_STAT_FIXED (b - 12) = true)
    (fun _ _ => trivial) (fun _ _ _ _ _ _ _ => trivial) (fun c _ e _ hcb => ?_) (fun c hc _ _ _ e he hcb => ?_) b hb' rfl
  · rw [hcb, if_pos hw]
    exact e.wakeNote_fixed hb hb'
  · split
    · exact e.wakeNote_keeps (by omega) hc (he hcb)
    · exact he hcb

/-- A wake that finds a Banked device, or one inside the steps of R43, is noted and served at once. -/
theorem Dev.wake_noted (d : Dev) {b : Nat} (hen : 12 ≤ b ∨ d.getBit F.SYS_WAKE_EN_EN b = true)
    (ht : d.get H.wakeTick ≠ d.now + 1) (hm : d.mode = 3 ∨ d.get H.bankStage ≠ 0) :
    d.wake b = (d.putBit H.wakeBits b true).arm T.bankedWake 0 := by
  have hen' : (!(decide (12 ≤ b) || d.getBit F.SYS_WAKE_EN_EN b)) = false := by
    rcases hen with h | h <;> simp [h]
  have hm' : (d.get F.SYS_MODE_MODE == 3 || d.bit H.bankStage) = true := by
    rcases hm with h | h
    · rw [Dev.mode] at h; simp [h]
    · simp [Dev.bit, h]
  unfold Dev.wake
  rw [hen', if_neg Bool.false_ne_true, if_neg ht, if_pos hm']

/-- Such a wake is served with its bit among those noted, on a state whose modal fields are those of before. -/
theorem Dev.bankedWake_served (d : Dev) (b : Fin 16) (hen : 12 ≤ b.val ∨ d.getBit F.SYS_WAKE_EN_EN b.val = true)
    (ht : d.get H.wakeTick ≠ d.now + 1) (hm : d.mode = 3 ∨ d.get H.bankStage ≠ 0) :
    ∃ (e : Dev) (w : Nat), d.bankedWake (some b) = e.wakeNow w ∧ w.testBit b.val = true ∧
      ∀ f : Fld, f.modal = true → e.get f = d.get f := by
  have hwake := Dev.wake_noted d hen ht hm
  have hmodal : ∀ f : Fld, f.modal = true → (d.wake b.val).get f = d.get f := fun f hf => by
    rw [hwake]
    exact (Dev.get_put_modal _ _ hf (by decide)).trans (Dev.get_put_modal d _ hf (by decide))
  have hbit : (d.wake b.val).getBit H.wakeBits b.val = true := by
    rw [hwake, Dev.getBit, Dev.arm, Dev.get_put_ne _ _ (by decide)]
    exact Dev.putBit_getBit d H.wakeBits b.isLt
  have hm' : (d.wake b.val).mode = 3 ∨ (d.wake b.val).bit H.bankStage = true := by
    rw [Dev.mode, Dev.bit, hmodal _ (by decide), hmodal _ (by decide)]
    exact hm.imp_right fun h => by simpa using h
  have hw : (d.wake b.val).bit H.wakeBits = true := by
    simpa [Dev.bit] using Dev.get_ne_zero_of_getBit hbit
  exact ⟨d.wake b.val, (d.wake b.val).get H.wakeBits, (if_pos hm').trans (if_pos hw), hbit, hmodal⟩

/-- A wake outside Banked and the steps of R43 leaves every quiet field alone. -/
theorem Dev.bankedWake_idle (d : Dev) (b : Fin 16) (hm : d.mode ≠ 3) (hst : d.get H.bankStage = 0) {f : Fld}
    (hf : f.quiet = true) : (d.bankedWake (some b)).get f = d.get f := by
  have hw : ∀ g : Fld, g.quiet = true → (d.wake b.val).get g = d.get g := fun g hg => d.wake_get b.val hg
  have hcond : ¬((d.wake b.val).mode = 3 ∨ (d.wake b.val).bit H.bankStage = true) := by
    rw [Dev.mode, Dev.bit, hw _ (by decide), hw _ (by decide), hst]
    simpa [Dev.mode] using hm
  unfold Dev.bankedWake
  dsimp only
  rw [if_neg hcond]
  exact (Dev.get_put_quiet _ 0 hf (by decide)).trans ((Dev.get_put_quiet _ 0 hf (by decide)).trans (hw f hf))

/-- The state of a wake once its bits of SYS_WAKE_STAT are set. -/
def Dev.wakeShown (d : Dev) (w : Nat) : Dev :=
  (d.puts [(T.bankedWake, 0), (H.wakeBits, 0), (H.wakeTick, d.now + 1)]).wakeStat w

theorem Dev.wakeShown_modal (d : Dev) (w : Nat) {f : Fld} (hf : f.modal = true) (hw : f.key ≠ F.SYS_WAKE_STAT_FIXED.key) :
    (d.wakeShown w).get f = d.get f :=
  (Dev.wakeStat_modal _ w hf hw).trans (Dev.get_puts_modal d hf (by simp only [List.forall_mem_cons]; decide))

theorem Dev.wakeNow_inside (d : Dev) (w : Nat) (hst : d.get H.bankStage ≠ 0) : d.wakeNow w = (d.wakeShown w).bankAbandon := by
  have h : (d.wakeShown w).bit H.bankStage = true := by
    rw [Dev.bit, d.wakeShown_modal w (by decide) (by decide)]
    simpa using hst
  exact if_pos h

/-- A Banked entry given up by a wake (R43): REQERR 5, the meters running, the halted cores resumed. -/
theorem Dev.bankAbandon_abandons (d : Dev) : d.bankAbandon.get F.SYS_MODE_REQERR = 5 ∧ d.bankAbandon.get F.SYS_MODE_TRANS = 0 ∧
    d.bankAbandon.get H.bankReq = 0 ∧ d.bankAbandon.get H.bankStage = 0 ∧ d.bankAbandon.mode = d.mode ∧
    d.bankAbandon.get F.SYS_WAKE_STAT_FIXED = d.get F.SYS_WAKE_STAT_FIXED ∧
    (∀ n < 6, d.bankAbandon.coreState n ≠ 3 ∨ d.get (H.coreWas n) = 3) ∧ ∀ p < 24, d.bankAbandon.get (H.mtrRun p) = 1 := by
  have hkeep {f : Fld} (hf : f.modal = true) (hq : ∀ g ∈ H.bankStage :: bankQuitFlds, f.key ≠ g.key) :
      d.bankAbandon.get f = d.coresResume.meterWakeAll.get f := by
    rw [List.forall_mem_cons] at hq
    refine (Dev.bankQuit_keeps _ 5 hf hq.2).trans ?_
    exact Dev.get_puts_ne _ _ (by simp [hq.1, modal_ne hf (show H.hwTick.modal = false by decide)])
  have hstand {f : Fld} (hf : f.modal = true) (hq : ∀ g ∈ H.bankStage :: bankQuitFlds, f.key ≠ g.key)
      (hp : ∀ p < 24, f.key ≠ (F.MTR_STAT_OPEN p).key ∧ f.key ≠ (H.mtrRun p).key)
      (hn : ∀ n < 6, f.key ≠ (F.CORE_STAT_STATE n).key ∧ f.key ≠ (H.coreWas n).key) : d.bankAbandon.get f = d.get f := by
    rw [hkeep hf hq, Dev.meterWakeAll_modal _ hf (fun p h => (hp p h).1) (fun p h => (hp p h).2), d.coresResume_modal hf hn]
  have hrun : ∀ p < 24, ∀ g ∈ H.bankStage :: bankQuitFlds, (H.mtrRun p).key ≠ g.key := by decide
  have hcore : ∀ n < 6, (∀ g ∈ H.bankStage :: bankQuitFlds, (F.CORE_STAT_STATE n).key ≠ g.key) ∧
      (∀ p < 24, (F.CORE_STAT_STATE n).key ≠ (F.MTR_STAT_OPEN p).key) ∧
      ∀ p < 24, (F.CORE_STAT_STATE n).key ≠ (H.mtrRun p).key := by decide
  obtain ⟨herr, htrans, hreq, -⟩ := Dev.bankQuit_quits
    (d.coresResume.meterWakeAll.puts [(H.hwTick, d.now + 1), (H.bankStage, 0)]) (e := 5) (by decide)
  refine ⟨herr, htrans, hreq, ?_, hstand (by decide) (by decide) (by decide) (by decide),
    hstand (by decide) (by decide) (by decide) (by decide), fun n hn => ?_, fun p hp => ?_⟩
  · exact (Dev.bankQuit_keeps _ 5 (by decide) (by decide)).trans (Dev.get_put_self _ H.bankStage 0)
  · obtain ⟨h1, h2, h3⟩ := hcore n hn
    rw [Dev.coreState, hkeep (coreState_modal n hn) h1, Dev.meterWakeAll_modal _ (coreState_modal n hn) h2 h3]
    exact d.coresResume_state n hn
  · rw [hkeep (mtrRun_modal p hp) (hrun p hp), Dev.meterWakeAll_run _ p hp]


theorem Dev.vcoreReached_modal (d : Dev) {f : Fld} (hf : f.modal = true)
    (hs : ∀ n < 6, f.key ≠ (F.CORE_STAT_STATE n).key ∧ f.key ≠ (H.coreWas n).key) : d.vcoreReached.get f = d.get f := by
  have hre (e : Dev) (v : Nat) : (if e.bit H.svyRe && e.get H.svyReAt == 0 then e.put H.svyReAt v else e).get f = e.get f := by
    split
    · exact Dev.get_put_modal e v hf (by decide)
    · rfl
  have hdue (e : Dev) : (if e.bit H.svyDue && e.mode != 3 then (e.clr H.svyDue).arm T.svySweep 0 else e).get f = e.get f := by
    split
    · exact (Dev.get_put_modal _ _ hf (by decide)).trans (Dev.get_put_modal e 0 hf (by decide))
    · rfl
  have hcores (e : Dev) : (if e.bit H.coreResume then e.coresResume else e).get f = e.get f := by
    split
    · exact e.coresResume_modal hf hs
    · rfl
  unfold Dev.vcoreReached
  split
  · dsimp only
    rw [hcores, hdue, hre]
  · rfl

/-- A wake of a Banked device (R45, R92): it enters Steady with CAUSE 5, and the Ledger engine works again. -/
theorem Dev.wakeNow_steady (d : Dev) (w : Nat) (hst : d.get H.bankStage = 0) :
    (d.wakeNow w).mode = 0 ∧ (d.wakeNow w).get F.SYS_MODE_CAUSE = 5 ∧ (d.wakeNow w).get H.lgrIdle = 0 := by
  have h : ¬(d.wakeShown w).bit H.bankStage = true := by
    rw [Dev.bit, d.wakeShown_modal w (by decide) (by decide), hst]
    simp
  have heq : d.wakeNow w = _ := if_neg h
  have hscan (e : Dev) {f : Fld} (hf : f.modal = true) : (Dev.forN 6
      (fun q e => if e.bit (H.gzDue q) then (e.clr (H.gzDue q)).scanReq q else e) e).get f = e.get f := by
    refine Dev.forN_get e fun q hq e => ?_
    split
    · exact (Dev.scanReq_modal hf _ hq).trans
        (Dev.get_put_modal e 0 hf (hidden_not_modal 258 q 2 _ _ rfl (by omega) (by omega)))
    · rfl
  obtain ⟨hmode, -, hcause, -⟩ :=
    Dev.modeEnterFrom_entered (d.wakeShown w).meterWakeAll (d.wakeShown w).meterWakeAll.mode 0 5
  rw [heq, Dev.mode]
  refine ⟨?_, ?_, ?_⟩
  · rw [Dev.vcoreGo_modal (by decide), Dev.vcoreReached_modal _ (by decide) (by decide), hscan _ (by decide)]
    exact (Dev.get_puts_ne _ _ (by simp only [List.forall_mem_cons]; decide)).trans hmode
  · rw [Dev.vcoreGo_modal (by decide), Dev.vcoreReached_modal _ (by decide) (by decide), hscan _ (by decide)]
    exact (Dev.get_puts_ne _ _ (by simp only [List.forall_mem_cons]; decide)).trans hcause
  · rw [Dev.vcoreGo_modal (by decide), Dev.vcoreReached_modal _ (by decide) (by decide), hscan _ (by decide)]
    exact (Dev.get_put_ne _ 1 (by decide)).trans (Dev.get_put_self _ H.lgrIdle 0)

/-! ### The end of Kindling (R40) -/

/-- Kindling ends in Steady with its cause, where no AUTOFALL return waits. -/
theorem Dev.kindleEnd_steady (d : Dev) {cause : Nat} (hm : d.mode = 1) (hfall : d.get H.fallPend = 0) (hc : cause < 16) :
    (d.kindleEnd cause).mode = 0 ∧ (d.kindleEnd cause).get F.SYS_MODE_PREV = 1 ∧
      (d.kindleEnd cause).get F.SYS_MODE_CAUSE = cause ∧ (d.kindleEnd cause).get H.kindleStart = 0 := by
  have hf : ¬(d.modeEnter 0 cause).bit H.fallPend = true := by
    rw [Dev.bit, Dev.modeEnter, Dev.modeEnterFrom_keeps _ _ _ _ (by decide) (by decide), hfall]
    simp
  have heq : d.kindleEnd cause = d.modeEnterFrom d.mode 0 cause := if_neg hf
  obtain ⟨hmode, hprev, hcause, -⟩ := d.modeEnterFrom_entered d.mode 0 cause
  rw [heq]
  exact ⟨hmode, hprev.trans (by rw [hm]), hcause.trans (Nat.mod_eq_of_lt hc), d.modeEnterFrom_kindleStart _ 0 _ (by decide)⟩

/-! ### The end of Blaze (R49) -/

/-- The result word in the fields of SYS_BLAZE_RESULT. -/
theorem Dev.blazeResult_fields (d : Dev) (v : Nat) : (d.blazeResult v).get F.SYS_BLAZE_RESULT_DONE = 1 ∧
    (d.blazeResult v).get F.SYS_BLAZE_RESULT_GUARDQ = bits v 30 6 ∧
    (d.blazeResult v).get F.SYS_BLAZE_RESULT_METERQ = bits v 24 6 ∧
    (d.blazeResult v).get F.SYS_BLAZE_RESULT_CCQ = bits v 18 6 ∧
    (d.blazeResult v).get F.SYS_BLAZE_RESULT_STORE = bits v 16 1 := by
  have hdone (e : Dev) : (e.put F.SYS_BLAZE_RESULT_DONE 1).get F.SYS_BLAZE_RESULT_DONE = 1 := Dev.get_put_self e _ 1
  unfold Dev.blazeResult
  refine ⟨?_, ?_⟩
  · simp only [Dev.puts_cons, Dev.puts_nil, hdone]
  · simp (disch := decide) only [Dev.puts_cons, Dev.puts_nil, Dev.get_put_ne, Dev.get_put_self, bits_mod, and_self]

theorem Dev.blazeResult_modal (d : Dev) (v : Nat) {f : Fld} (hf : f.modal = true) : (d.blazeResult v).get f = d.get f :=
  Dev.get_puts_modal d hf (by simp only [List.forall_mem_cons]; decide)

/-- The ports of failed quads held Disabled, a quad being failed by `bad`. -/
def Dev.quadsFail (d : Dev) (bad : Nat → Bool) : Dev :=
  Dev.forN 24 (fun p e =>
    if bad (p / 4) then (e.set1 (H.dis1Held p)).putBit (F.PRT_ATT_STAT_DISWHY p) 1 true else e) d

theorem diswhy_key_ne : ∀ p < 24, ∀ q < 24, q ≠ p → (F.PRT_ATT_STAT_DISWHY q).key ≠ (F.PRT_ATT_STAT_DISWHY p).key := by decide

theorem dis1Held_not_modal {p : Nat} (hp : p < 24) : (H.dis1Held p).modal = false :=
  hidden_not_modal 137 p 2 _ _ rfl (by omega) (by omega)

theorem Dev.quadsFail_modal (d : Dev) (bad : Nat → Bool) {f : Fld} (hf : f.modal = true)
    (hd : ∀ p < 24, f.key ≠ (F.PRT_ATT_STAT_DISWHY p).key) : (d.quadsFail bad).get f = d.get f := by
  refine Dev.forN_get d fun p hp e => ?_
  split
  · exact (Dev.get_put_ne _ _ (hd p hp)).trans (Dev.get_put_modal e 1 hf (dis1Held_not_modal hp))
  · rfl

/-- A port with a cause of Disabled keeps one. -/
theorem Dev.quadsFail_diswhy (d : Dev) (bad : Nat → Bool) (hd : ∀ q < 24, d.get (F.PRT_ATT_STAT_DISWHY q) ≠ 0) :
    ∀ q < 24, (d.quadsFail bad).get (F.PRT_ATT_STAT_DISWHY q) ≠ 0 := by
  refine Dev.forN_inv (P := fun e => ∀ q < 24, e.get (F.PRT_ATT_STAT_DISWHY q) ≠ 0) hd fun p hp e he q hq => ?_
  split
  · by_cases hqp : q = p
    · subst hqp
      exact Dev.get_ne_zero_of_getBit (Dev.putBit_getBit _ (F.PRT_ATT_STAT_DISWHY q) (show 1 < 4 by decide))
    · rw [Dev.putBit, Dev.get_put_ne _ _ (diswhy_key_ne p hp q hq hqp), Dev.set1,
        Dev.get_put_modal e 1 (diswhy_modal q hq) (dis1Held_not_modal hp)]
      exact he q hq
  · exact he q hq

/-- A port kept Disabled leaves Blaze, and its meter starts. -/
theorem Dev.blazeLeave_disabled (d : Dev) {p : Nat} (hp : p < 24) (hd : d.get (F.PRT_ATT_STAT_DISWHY p) ≠ 0) {f : Fld}
    (hf : f.modal = true) (hr : f.key ≠ (H.mtrRun p).key) : ((d.blazeLeave p).meterStart p).get f = d.get f := by
  have hb : ∀ p < 24, (F.GRD_STAT_DISON p).modal = false ∧ (H.padDis p).modal = false ∧ (T.disMax p).modal = false ∧
    (T.disLow p).modal = false := by decide
  have hoff {g : Fld} (hg : g.modal = true) : (d.disOff p).get g = d.get g := Dev.get_puts_modal d hg (by simp [hb p hp])
  rw [Dev.meterStart_modal _ hf hp hr]
  unfold Dev.blazeLeave
  dsimp only
  rw [if_neg (by rwa [hoff (diswhy_modal p hp)]), hoff hf]

theorem diswhy_ne_mtrRun : ∀ p < 24, ∀ q < 24, (F.PRT_ATT_STAT_DISWHY q).key ≠ (H.mtrRun p).key := by decide

/-- With every port kept Disabled, the ports leave Blaze with no modal field written but the meters' run marks. -/
theorem Dev.blazeLeaves_modal (d : Dev) (hd : ∀ q < 24, d.get (F.PRT_ATT_STAT_DISWHY q) ≠ 0) {f : Fld} (hf : f.modal = true)
    (hr : ∀ p < 24, f.key ≠ (H.mtrRun p).key) :
    (Dev.forN 24 (fun p e => (e.blazeLeave p).meterStart p) d).get f = d.get f := by
  refine (Dev.forN_inv
    (P := fun e => e.get f = d.get f ∧ ∀ q < 24, e.get (F.PRT_ATT_STAT_DISWHY q) = d.get (F.PRT_ATT_STAT_DISWHY q))
    ⟨rfl, fun _ _ => rfl⟩ fun p hp e he => ?_).1
  have hp0 : e.get (F.PRT_ATT_STAT_DISWHY p) ≠ 0 := by
    rw [he.2 p hp]
    exact hd p hp
  refine ⟨(e.blazeLeave_disabled hp hp0 hf (hr p hp)).trans he.1, fun q hq => ?_⟩
  exact (e.blazeLeave_disabled hp hp0 (diswhy_modal q hq) (diswhy_ne_mtrRun p hp q hq)).trans (he.2 q hq)

theorem Dev.blazeDone_running (d : Dev) (v : Nat) (hm : d.mode = 2) (hdone : d.get F.SYS_BLAZE_RESULT_DONE = 0)
    (hv : bits v 11 7 ≠ 127) : d.blazeDone v = d.blazeResult v := by
  have hgo : ¬(d.mode ≠ 2 ∨ d.bit F.SYS_BLAZE_RESULT_DONE = true) := by simp [Dev.bit, hm, hdone]
  exact (if_neg hgo).trans (if_pos hv)

/-- The passage from Blaze to a start into Kindling: the ports of failed quads are held, and the mode is entered. -/
def Dev.blazeToKindling (d : Dev) (bad : Nat → Bool) : Dev :=
  let d := d.quadsFail bad
  (d.modeEnter 1 6).kindleBegin (if d.get F.SYS_MODE_PREV == 2 then d.get H.relTick else d.now)

theorem Dev.blazeToKindling_entered (d : Dev) (bad : Nat → Bool) (hm : d.mode = 2)
    (hd : ∀ q < 24, d.get (F.PRT_ATT_STAT_DISWHY q) ≠ 0) :
    (d.blazeToKindling bad).mode = 1 ∧ (d.blazeToKindling bad).get F.SYS_MODE_CAUSE = 6 ∧
      (d.blazeToKindling bad).get F.SYS_MODE_PREV = 2 ∧
      ∀ q < 24, (d.blazeToKindling bad).get (F.PRT_ATT_STAT_DISWHY q) ≠ 0 := by
  have hw : ∀ q < 24, (F.PRT_ATT_STAT_DISWHY q).key ≠ H.kindleStart.key ∧
      ∀ g ∈ modeEntryFlds, (F.PRT_ATT_STAT_DISWHY q).key ≠ g.key := by decide
  have hprev : (d.quadsFail bad).mode = 2 := (d.quadsFail_modal bad (by decide) (by decide)).trans hm
  have hbegin {f : Fld} (hf : f.modal = true) (hk : f.key ≠ H.kindleStart.key) :
      (d.blazeToKindling bad).get f = ((d.quadsFail bad).modeEnterFrom (d.quadsFail bad).mode 1 6).get f := by
    unfold Dev.blazeToKindling Dev.modeEnter
    exact Dev.kindleBegin_modal _ _ hf hk
  obtain ⟨h1, h2, h3, -⟩ := (d.quadsFail bad).modeEnterFrom_entered (d.quadsFail bad).mode 1 6
  refine ⟨(hbegin (by decide) (by decide)).trans h1, (hbegin (by decide) (by decide)).trans h3, ?_, fun q hq => ?_⟩
  · rw [hbegin (by decide) (by decide), h2, hprev]
  · obtain ⟨hk, he⟩ := hw q hq
    rw [hbegin (diswhy_modal q hq) hk, Dev.modeEnterFrom_keeps _ _ _ _ (diswhy_modal q hq) he]
    exact d.quadsFail_diswhy bad hd q hq

/-- C0 starts in the boot ROM once the device has left Blaze. -/
def Dev.blazeBoot (d : Dev) : Dev := ((d.puts [(H.lgrIdle, 0), (H.booting, 1)]).bootCores 0).vcoreGo

theorem Dev.blazeBoot_boots (d : Dev) : d.blazeBoot.get H.lgrIdle = 0 ∧ d.blazeBoot.get H.booting = 1 ∧
    d.blazeBoot.coreState 0 = 1 ∧ d.blazeBoot.pcOf 0 = 0x10000 := by
  unfold Dev.blazeBoot
  refine ⟨?_, ?_, ?_, ?_⟩
  · rw [Dev.vcoreGo_modal (by decide), Dev.bootCores_modal _ _ (by decide) (by decide)]
    exact (Dev.get_put_ne _ 1 (by decide)).trans (Dev.get_put_self _ H.lgrIdle 0)
  · rw [Dev.vcoreGo_modal (by decide), Dev.bootCores_modal _ _ (by decide) (by decide)]
    exact Dev.get_put_self _ H.booting 1
  · rw [Dev.coreState, Dev.vcoreGo_modal (by decide)]
    exact Dev.coreStart_state _ (by decide) 0x10000
  · rw [Dev.pcOf, Dev.vcoreGo_modal (by decide)]
    exact Dev.coreStart_p _ (by decide) 0x10000

theorem Dev.blazeBoot_modal (d : Dev) {f : Fld} (hf : f.modal = true) (hb : f.key ≠ H.lgrIdle.key ∧ f.key ≠ H.booting.key)
    (hs : ∀ n < 6, f.key ≠ (F.CORE_STAT_STATE n).key ∧ f.key ≠ (F.CORE_P_P n).key ∧ f.key ≠ (H.coreWas n).key) :
    d.blazeBoot.get f = d.get f := by
  unfold Dev.blazeBoot
  rw [Dev.vcoreGo_modal hf, Dev.bootCores_modal _ _ hf hs]
  exact Dev.get_puts_ne d _ (by simp [hb])

/-- A quad fails by its three bits of the result word. -/
def blazeBad (v q : Nat) : Bool := !(v.testBit (30 + q) && v.testBit (24 + q) && v.testBit (18 + q))

theorem Dev.blazeDone_leaves (d : Dev) (v : Nat) (hm : d.mode = 2) (hdone : d.get F.SYS_BLAZE_RESULT_DONE = 0)
    (hv : bits v 11 7 = 127) : d.blazeDone v =
      (Dev.forN 24 (fun p e => (e.blazeLeave p).meterStart p) ((d.blazeResult v).blazeToKindling (blazeBad v))).blazeBoot := by
  have hgo : ¬(d.mode ≠ 2 ∨ d.bit F.SYS_BLAZE_RESULT_DONE = true) := by simp [Dev.bit, hm, hdone]
  exact (if_neg hgo).trans (if_neg (not_not.2 hv))

/-- A self-test without a failed area (R49): the device is in Kindling with CAUSE 6, and C0 starts in the boot ROM. -/
theorem Dev.blazeDone_passed (d : Dev) (v : Nat) (hm : d.mode = 2) (hdone : d.get F.SYS_BLAZE_RESULT_DONE = 0)
    (hv : bits v 11 7 = 127) (hd : ∀ q < 24, d.get (F.PRT_ATT_STAT_DISWHY q) ≠ 0) :
    (d.blazeDone v).mode = 1 ∧ (d.blazeDone v).get F.SYS_MODE_CAUSE = 6 ∧ (d.blazeDone v).get F.SYS_MODE_PREV = 2 ∧
      (d.blazeDone v).get H.lgrIdle = 0 ∧ (d.blazeDone v).get H.booting = 1 ∧ (d.blazeDone v).coreState 0 = 1 ∧
      (d.blazeDone v).pcOf 0 = 0x10000 := by
  have hres {f : Fld} (hf : f.modal = true) : (d.blazeResult v).get f = d.get f := d.blazeResult_modal v hf
  obtain ⟨hmode, hcause, hprev, hdis⟩ := (d.blazeResult v).blazeToKindling_entered (blazeBad v)
    ((hres (by decide)).trans hm) fun q hq => by rw [hres (diswhy_modal q hq)]; exact hd q hq
  rw [d.blazeDone_leaves v hm hdone hv]
  refine ⟨?_, ?_, ?_, Dev.blazeBoot_boots _⟩
  · exact (Dev.blazeBoot_modal _ (by decide) (by decide) (by decide)).trans
      ((Dev.blazeLeaves_modal _ hdis (by decide) (by decide)).trans hmode)
  · exact (Dev.blazeBoot_modal _ (by decide) (by decide) (by decide)).trans
      ((Dev.blazeLeaves_modal _ hdis (by decide) (by decide)).trans hcause)
  · exact (Dev.blazeBoot_modal _ (by decide) (by decide) (by decide)).trans
      ((Dev.blazeLeaves_modal _ hdis (by decide) (by decide)).trans hprev)

/-! ### The statement -/

/-- Settles O44: each command runs the step of the device that its clause names, and what that step writes is read off there. -/
theorem bankedAndKindlingComplete : Obligations.BankedAndKindlingComplete := by
  unfold Obligations.BankedAndKindlingComplete
  refine ⟨fun s hreq => ⟨?settled, ?halts, ?stops, ?finishes, ?barred, ?unsettled⟩, ?wakeInside, ?wakeIdle, ?wakeBanked,
    fun s hm hfall => ⟨?kindled, ?timeout⟩, fun s v hm hdone => ⟨?failed, ?passed⟩⟩
  case settled =>
    intro hst hbar hok
    obtain ⟨hstage, h50, hmode, hopen⟩ := s.dev.bankClose_closes
    refine EndsDev.of_ok (f := Dev.bankEntry) rfl ?_
    rw [Dev.bankEntry_settled _ hreq hst hbar hok]
    exact ⟨hstage, h50, hmode, fun p => hopen p.val p.isLt⟩
  case halts =>
    intro hst
    obtain ⟨hstage, hmode, hcores⟩ := s.dev.coresHalt_step
    refine EndsDev.of_ok (f := Dev.bankEntry) rfl ?_
    rw [Dev.bankEntry_halts _ hreq hst]
    exact ⟨hstage, hmode, fun n => hcores n.val n.isLt⟩
  case stops =>
    intro hst
    obtain ⟨hstage, hmode, hrun⟩ := s.dev.meterStop_step
    refine EndsDev.of_ok (f := Dev.bankEntry) rfl ?_
    rw [Dev.bankEntry_stops _ hreq hst]
    exact ⟨hstage, hmode, fun p => hrun p.val p.isLt⟩
  case finishes =>
    intro hst
    refine EndsDev.of_ok (f := Dev.bankEntry) rfl ?_
    rw [Dev.bankEntry_finishes _ hreq hst]
    exact s.dev.bankFinish_banked
  case barred =>
    intro hst hbar
    obtain ⟨herr, htrans, hquit, h50⟩ := s.dev.bankQuit_quits (e := 3) (by decide)
    refine EndsDev.of_ok (f := Dev.bankEntry) rfl ?_
    rw [Dev.bankEntry_barred _ hreq hst hbar]
    exact ⟨herr, htrans, hquit, h50, s.dev.bankQuit_mode 3⟩
  case unsettled =>
    intro hst hbar hok
    refine ⟨?_, fun h50 => EndsDev.of_ok (f := fun d => d.onExpiry T.bank50 Dev.bankTimeout) rfl ?_⟩
    · show Host.Outcome.next { s with dev := s.dev.bankEntry } = _
      rw [Dev.bankEntry_unsettled _ hreq hst hbar hok]
    · have hexp : s.dev.onExpiry T.bank50 Dev.bankTimeout = (s.dev.stop T.bank50).bankQuit 4 :=
        (if_pos (by simpa [Dev.armed] using h50)).trans (Dev.bankTimeout_unsettled _
          ((Dev.get_put_ne _ 0 (by decide)).trans hreq) ((Dev.get_put_ne _ 0 (by decide)).trans hst)
          ((s.dev.bankBarred_timer 0 le_rfl).trans hbar) ((s.dev.bankAllOk_timer 0 le_rfl).trans hok))
      obtain ⟨herr, htrans, hquit, h50'⟩ := (s.dev.stop T.bank50).bankQuit_quits (e := 4) (by decide)
      rw [hexp]
      exact ⟨herr, htrans, hquit, h50', (Dev.bankQuit_mode _ 4).trans (Dev.get_put_ne _ 0 (by decide))⟩
  case wakeInside =>
    intro s b hb hst ht
    refine EndsDev.of_ok (f := (·.bankedWake (some b))) rfl ?_
    obtain ⟨e, w, hserved, hw, hmodal⟩ := s.dev.bankedWake_served b (.inl hb) ht (.inr hst)
    have hshown {f : Fld} (hf : f.modal = true) (hne : f.key ≠ F.SYS_WAKE_STAT_FIXED.key) :
        (e.wakeShown w).get f = s.dev.get f := (e.wakeShown_modal w hf hne).trans (hmodal f hf)
    have hwas : ∀ n < 6, (H.coreWas n).key ≠ F.SYS_WAKE_STAT_FIXED.key := by decide
    obtain ⟨herr, htrans, hreq, hstage, hmode, hfixed, hcores, hrun⟩ := (e.wakeShown w).bankAbandon_abandons
    rw [hserved, e.wakeNow_inside w (by rwa [hmodal _ (by decide)])]
    refine ⟨herr, htrans, hreq, hstage, ?_, hmode.trans (hshown (by decide) (by decide)), fun n => ?_,
      fun p => hrun p.val p.isLt⟩
    · rw [Dev.getBit, hfixed]
      exact Dev.wakeStat_fixed _ hb b.isLt hw
    · rw [← hshown (coreWas_modal n.val n.isLt) (hwas n.val n.isLt)]
      exact hcores n.val n.isLt
  case wakeIdle =>
    intro s b hm hst
    refine EndsDev.of_ok (f := (·.bankedWake (some b))) rfl ⟨?_, fun f hf => s.dev.bankedWake_idle b hm hst hf⟩
    exact s.dev.bankedWake_idle b hm hst (by decide)
  case wakeBanked =>
    intro s b hm hst ht hen
    refine EndsDev.of_ok (f := (·.bankedWake (some b))) rfl ?_
    obtain ⟨e, w, hserved, -, hmodal⟩ := s.dev.bankedWake_served b hen ht (.inl hm)
    rw [hserved]
    exact e.wakeNow_steady w ((hmodal _ (by decide)).trans hst)
  case kindled =>
    intro hdone
    refine EndsDev.of_ok (f := fun d => if d.mode == 1 && d.kindleDone then d.kindleEnd 3 else d) rfl ?_
    rw [if_pos (by simp [hm, hdone])]
    exact s.dev.kindleEnd_steady hm hfall (by decide)
  case timeout =>
    intro hdone hk
    refine EndsDev.of_ok
      (f := (·.onExpiry T.kindle (fun e => if e.mode = 1 then e.kindleEnd (if e.kindleDone then 3 else 4) else e))) rfl ?_
    have hmode : (s.dev.stop T.kindle).mode = 1 := (Dev.get_put_ne _ 0 (by decide)).trans hm
    have hundone : (s.dev.stop T.kindle).kindleDone = false := (s.dev.kindleDone_timer 0 (by decide)).trans hdone
    rw [Dev.onExpiry, if_pos (by simpa [Dev.armed] using hk), if_pos hmode, hundone]
    exact Dev.kindleEnd_steady _ hmode ((Dev.get_put_ne _ 0 (by decide)).trans hfall) (by decide)
  case failed =>
    intro hv
    refine EndsDev.of_ok (f := (·.blazeDone v.toNat)) rfl ?_
    rw [Dev.blazeDone_running _ _ hm hdone hv]
    exact ⟨(s.dev.blazeResult_modal v.toNat (by decide)).trans hm, s.dev.blazeResult_fields v.toNat⟩
  case passed =>
    intro hv hdis
    refine EndsDev.of_ok (f := (·.blazeDone v.toNat)) rfl ?_
    exact s.dev.blazeDone_passed v.toNat hm hdone hv fun q hq => hdis ⟨q, hq⟩

end Sys2Proof.Machine

/-!
Cores and watchdogs (R103, R109, R110, R117): what the start of a core, its stop, and a reload of its watchdog write, and nothing
else. Ends with the writes of RST_CORE_EN, RST_WDT_KICK and RST_WDT_CTRL.
-/
namespace Sys2Proof.Machine

/-! ### Bits set in a field -/

/-- Adding the power of a clear bit sets that bit alone. -/
theorem testBit_add_two_pow {x b : Nat} (h : x.testBit b = false) (j : Nat) :
    (x + 2 ^ b).testBit j = (decide (b = j) || x.testBit j) := by
  induction b generalizing x j with
  | zero =>
    have hx : x % 2 = 0 := by simpa [Nat.testBit_zero] using h
    cases j with
    | zero => simp [Nat.testBit_zero]; omega
    | succ j =>
      have hdiv : (x + 1) / 2 = x / 2 := by omega
      simp [Nat.testBit_succ, hdiv]
  | succ b ih =>
    rw [Nat.testBit_succ] at h
    cases j with
    | zero => simp [Nat.testBit_zero, Nat.pow_succ]
    | succ j =>
      have hdiv : (x + 2 ^ (b + 1)) / 2 = x / 2 + 2 ^ b := by omega
      simp [Nat.testBit_succ, hdiv, ih h]

theorem testBit_withBit_set (x b j : Nat) : (withBit x b true).testBit j = (decide (b = j) || x.testBit j) := by
  unfold withBit
  split
  · next h =>
    by_cases hbj : b = j
    · simp [← hbj, h]
    · simp [hbj]
  · next h => exact testBit_add_two_pow (by simpa using h) j

theorem Dev.getBit_putBit_set (d : Dev) (f : Fld) (b : Nat) {j : Nat} (hj : j < f.w) :
    (d.putBit f b true).getBit f j = (decide (b = j) || d.getBit f j) := by
  simp [Dev.getBit, Dev.putBit, Nat.testBit_mod_two_pow, testBit_withBit_set, hj]

/-- A bit set by hardware is set, and the others stand. -/
theorem Dev.getBit_hwBit (d : Dev) (f : Fld) (b : Nat) {j : Nat} (hj : j < f.w) :
    (d.hwBit f b).getBit f j = (decide (b = j) || d.getBit f j) := d.getBit_putBit_set f b hj

theorem Dev.bit_eq_decide (d : Dev) {f : Fld} (hw : f.w = 1) : d.bit f = decide (d.get f = 1) := by
  have hlt : d.get f < 2 := by simpa [hw] using d.get_lt f
  have h01 : d.get f = 0 ∨ d.get f = 1 := by omega
  rcases h01 with h | h <;> simp [Dev.bit, h]

theorem Dev.get_mod (d : Dev) (f : Fld) : d.get f % 2 ^ f.w = d.get f := Nat.mod_eq_of_lt (d.get_lt f)

/-! ### Frames -/

theorem OnlyFields.refl (d : Dev) (l : List Fld) : OnlyFields d d l := fun _ _ => rfl

theorem OnlyFields.trans {d e g : Dev} {l : List Fld} (h : OnlyFields d e l) (k : OnlyFields e g l) : OnlyFields d g l :=
  fun f hf => (k f hf).trans (h f hf)

theorem OnlyFields.put (d : Dev) {f : Fld} {l : List Fld} (v : Nat) (hf : f ∈ l) : OnlyFields d (d.put f v) l :=
  fun _ hg => Dev.get_put_ne d v (hg f hf)

theorem OnlyFields.puts (d : Dev) {ws : List (Fld × Nat)} {l : List Fld} (hw : ∀ w ∈ ws, w.1 ∈ l) : OnlyFields d (d.puts ws) l :=
  fun _ hg => Dev.get_puts_ne d ws fun w hw' => hg w.1 (hw w hw')

theorem OnlyRegsSoft.trans {d e g : Dev} {l : List Fld} (h : OnlyRegsSoft d e l) (k : OnlyRegsSoft e g l) :
    OnlyRegsSoft d g l :=
  ⟨h.1.trans k.1, (congrArg (fun x : Dev => { x with regs := d.regs }) k.2).trans h.2⟩

/-- A list of writes, given by the fields it writes, leaves any other field alone. -/
theorem Dev.get_puts_apart (d : Dev) {l : List (Fld × Nat)} {f : Fld} {fs : List Fld} (hf : ∀ g ∈ fs, f.key ≠ g.key)
    (hl : l.map Prod.fst = fs) : (d.puts l).get f = d.get f :=
  Dev.get_puts_ne d l fun e he => hf e.1 (hl ▸ List.mem_map_of_mem he)

/-- Of several writes of different fields each holds. -/
theorem Dev.get_puts_mem (d : Dev) {ws : List (Fld × Nat)} {f : Fld} {v : Nat} (hw : (f, v) ∈ ws)
    (hnd : (ws.map (·.1.key)).Nodup) : (d.puts ws).get f = v % 2 ^ f.w := by
  induction ws generalizing d with
  | nil => cases hw
  | cons w ws ih =>
    rw [List.map_cons, List.nodup_cons] at hnd
    rw [Dev.puts_cons]
    rcases List.mem_cons.1 hw with rfl | hw
    · rw [Dev.get_puts_ne _ ws fun x hx hk => hnd.1 (List.mem_map.2 ⟨x, hx, hk.symm⟩), Dev.get_put_self]
    · exact ih _ hw hnd.2

/-- A bit set by hardware keeps the frame. -/
theorem OnlyRegs.hwBit {d e : Dev} {l : List Fld} (h : OnlyRegs d e l) (f : Fld) (b : Nat) (hf : f ∈ l) :
    OnlyRegs d (e.hwBit f b) l :=
  ⟨fun g hg => (Dev.hwBit_get_ne e b (hg f hf)).trans (h.1 g hg), h.2⟩

theorem OnlyRegs.now {d e : Dev} {l : List Fld} (h : OnlyRegs d e l) : e.now = d.now := by
  have hnow := congrArg Dev.now h.2
  exact hnow

/-! ### Ends -/

theorem EndsDev.of_next {c : Instr} {s : State} {P : Dev → Prop} {e : Dev} (h : exec c s = .next { s with dev := e }) (hp : P e) :
    EndsDev c s P := ⟨_, h, rfl, rfl, rfl, hp⟩

theorem next_congr {s : State} {d e : Dev} (h : d = e) :
    (.next { s with dev := d } : Host.Outcome State Fault Refusal) = .next { s with dev := e } := h ▸ rfl

/-! ### What a core's start, stop and reload write -/

/-- The fields that starting, stopping or halting core n may write. -/
def coreFlds (n : Nat) : List Fld :=
  F.CORE_STAT_STATE n :: F.CORE_P_P n :: T.wdt n :: H.coreWas n :: coreClearFlds n

theorem Dev.wdtLoad_frame (d : Dev) (n : Nat) {l : List Fld} (hl : T.wdt n ∈ l) : OnlyRegsSoft d (d.wdtLoad n) l := by
  unfold Dev.wdtLoad
  split
  · exact (OnlyRegsSoft.refl d l).put _ _ hl
  · exact (OnlyRegsSoft.refl d l).put _ _ hl

theorem Dev.coreSet_frame (d : Dev) (n st : Nat) {l : List Fld} (hs : F.CORE_STAT_STATE n ∈ l) (hl : T.wdt n ∈ l) :
    OnlyRegsSoft d (d.coreSet n st) l := by
  have hput : OnlyRegsSoft d (d.put (F.CORE_STAT_STATE n) st) l := (OnlyRegsSoft.refl d l).put _ _ hs
  unfold Dev.coreSet
  dsimp only
  split
  · exact hput
  · exact hput.trans (Dev.wdtLoad_frame _ n hl)

theorem Dev.coreSet_rstk (d : Dev) (n st : Nat) : (d.coreSet n st).rstk = d.rstk :=
  (d.coreSet_frame n st (l := coreFlds n) (by simp [coreFlds]) (by simp [coreFlds])).part Dev.rstk rfl

theorem Dev.wdtLoad_rstk (d : Dev) (n : Nat) : (d.wdtLoad n).rstk = d.rstk :=
  (d.wdtLoad_frame n (l := coreFlds n) (by simp [coreFlds])).part Dev.rstk rfl

theorem Dev.coreSet_fields (d : Dev) (n st : Nat) : OnlyFields d (d.coreSet n st) (coreFlds n) :=
  (d.coreSet_frame n st (by simp [coreFlds]) (by simp [coreFlds])).1

theorem Dev.coreClear_fields (d : Dev) (n : Nat) : OnlyFields d (d.coreClear n) (coreFlds n) := fun f hf => by
  refine (OnlyFields.puts _ (l := coreFlds n) (fun w hw => ?_) f hf).trans (Dev.get_of_regs rfl)
  have hmem : w.1 ∈ coreClearFlds n ++ [H.coreWas n] := List.mem_map_of_mem hw
  simp only [List.mem_append, List.mem_singleton] at hmem
  rcases hmem with h | h <;> simp [coreFlds, h]

/-- A core's start writes its own fields alone. -/
theorem Dev.coreStart_fields (d : Dev) (n p : Nat) : OnlyFields d (d.coreStart n p) (coreFlds n) := by
  unfold Dev.coreStart Dev.coreEnter
  exact (((d.coreClear_fields n).trans (OnlyFields.put _ _ (by simp [coreFlds]))).trans (Dev.coreSet_fields _ n 1)).trans
    (Dev.wdtLoad_frame _ n (by simp [coreFlds])).1

theorem Dev.coreStop_fields (d : Dev) (n st : Nat) : OnlyFields d (d.coreStop n st) (coreFlds n) := by
  unfold Dev.coreStop
  exact ((d.coreClear_fields n).trans (Dev.coreSet_fields _ n st)).trans (OnlyFields.put _ _ (by simp [coreFlds]))

theorem Dev.coreStart_rstk (d : Dev) (n p : Nat) : (d.coreStart n p).rstk = tput [] d.rstk n [] := by
  unfold Dev.coreStart Dev.coreEnter
  rw [Dev.wdtLoad_rstk, Dev.coreSet_rstk]
  rfl

/-- The registers that a start clears: A, X and Y. -/
def coreRegs (n : Nat) : List Fld := [H.coreA n, H.coreX n, H.coreY n]

theorem Dev.coreStart_regs (d : Dev) {n : Nat} (hn : n < 6) (p : Nat) : ∀ f ∈ coreRegs n, (d.coreStart n p).get f = 0 := by
  have hne : ∀ n < 6, ∀ f ∈ coreRegs n, ∀ g ∈ [F.CORE_STAT_STATE n, F.CORE_P_P n, T.wdt n], f.key ≠ g.key := by decide
  have hclear : ∀ f ∈ coreRegs n, (d.coreClear n).get f = 0 := by
    interval_cases n <;> simp (disch := decide) [coreRegs, Dev.coreClear, Dev.get_put_ne]
  intro f hf
  unfold Dev.coreStart Dev.coreEnter
  rw [(Dev.wdtLoad_frame _ n (by simp)).1 f (hne n hn f hf), (Dev.coreSet_frame _ n 1 (by simp) (by simp)).1 f (hne n hn f hf),
    Dev.get_put_ne _ _ (hne n hn f hf _ (by simp)), hclear f hf]

/-! ### RST_CORE_EN (R117) -/

/-- The start of core i + 1 that a write of RST_CORE_EN asks for. -/
def Dev.coreEnStart (d : Dev) (v i : Nat) : Dev :=
  if v.testBit (i + 1) && !d.getBit F.RST_CORE_EN_EN i then
    (d.putBit F.RST_CORE_EN_EN i true).coreStart (i + 1) (d.get (H.coreEntry (i + 1)))
  else d

theorem Dev.coreEnWrite_c0 (d : Dev) {a : Agent} (v : Nat) (ha : a.isC0 = true) (hm : d.mode ≠ 4) :
    d.coreEnWrite a v = Dev.forN 5 (fun i e => e.coreEnStart v i) d := by
  refine if_pos ?_
  simp only [Dev.mode] at hm
  simp [ha, hm]

theorem Dev.coreEnWrite_other (d : Dev) {a : Agent} (v : Nat) (h : a.isC0 = false ∨ d.mode = 4) : d.coreEnWrite a v = d := by
  refine if_neg ?_
  rcases h with h | h
  · simp [h]
  · simp only [Dev.mode] at h
    simp [h]

/-- The fields by which the start of core i + 1 shows, and its entry address. -/
def startFlds (i : Nat) : List Fld :=
  F.CORE_STAT_STATE (i + 1) :: F.CORE_P_P (i + 1) :: H.coreEntry (i + 1) :: coreRegs (i + 1)

/-- What core i + 1 shows of a write of RST_CORE_EN is the same of two device parts. -/
def Dev.SameCore (d e : Dev) (i : Nat) : Prop :=
  (∀ f ∈ startFlds i, e.get f = d.get f) ∧ e.rstack (i + 1) = d.rstack (i + 1) ∧
    e.getBit F.RST_CORE_EN_EN i = d.getBit F.RST_CORE_EN_EN i

theorem Dev.SameCore.trans {d e g : Dev} {i : Nat} (h : d.SameCore e i) (k : e.SameCore g i) : d.SameCore g i :=
  ⟨fun f hf => (k.1 f hf).trans (h.1 f hf), k.2.1.trans h.2.1, k.2.2.trans h.2.2⟩

/-- Core i + 1 has started at an entry address with cleared registers. -/
structure Dev.Started (e : Dev) (entry i : Nat) : Prop where
  state : e.coreState (i + 1) = 1
  pc : e.pcOf (i + 1) = entry
  regs : ∀ f ∈ coreRegs (i + 1), e.get f = 0
  stack : e.rstack (i + 1) = []
  enabled : e.getBit F.RST_CORE_EN_EN i = true

theorem Dev.Started.same {e g : Dev} {entry i : Nat} (h : e.Started entry i) (k : e.SameCore g i) : g.Started entry i where
  state := (k.1 _ (by simp [startFlds])).trans h.state
  pc := (k.1 _ (by simp [startFlds])).trans h.pc
  regs f hf := (k.1 f (by simp [startFlds, hf])).trans (h.regs f hf)
  stack := k.2.1.trans h.stack
  enabled := k.2.2.trans h.enabled

theorem Dev.coreEnStart_other (d : Dev) (v : Nat) {i j : Nat} (hi : i < 5) (hj : j < 5) (hij : i ≠ j) :
    d.SameCore (d.coreEnStart v i) j := by
  have hne : ∀ i < 5, ∀ j < 5, i ≠ j → ∀ f ∈ startFlds j, ∀ g ∈ coreFlds (i + 1), f.key ≠ g.key := by decide
  have hst : ∀ j < 5, ∀ f ∈ startFlds j, f.key ≠ F.RST_CORE_EN_EN.key := by decide
  have hen : ∀ i < 5, ∀ g ∈ coreFlds (i + 1), F.RST_CORE_EN_EN.key ≠ g.key := by decide
  unfold Dev.coreEnStart
  split
  · refine ⟨fun f hf => ?_, ?_, ?_⟩
    · exact (Dev.coreStart_fields _ (i + 1) _ f (hne i hi j hj hij f hf)).trans (Dev.get_put_ne d _ (hst j hj f hf))
    · simp only [Dev.rstack, Dev.coreStart_rstk]
      exact tget_tput_ne [] _ [] (by omega)
    · rw [Dev.getBit, Dev.coreStart_fields _ (i + 1) _ _ (hen i hi), ← Dev.getBit, d.getBit_putBit_set F.RST_CORE_EN_EN i hj]
      simp [hij]
  · exact ⟨fun _ _ => rfl, rfl, rfl⟩

theorem Dev.coreEnStart_starts (d : Dev) {v i : Nat} (hi : i < 5) (hv : v.testBit (i + 1) = true)
    (hen : d.getBit F.RST_CORE_EN_EN i = false) : (d.coreEnStart v i).Started (d.get (H.coreEntry (i + 1))) i := by
  have hne : ∀ i < 5, ∀ g ∈ coreFlds (i + 1), F.RST_CORE_EN_EN.key ≠ g.key := by decide
  have heq : d.coreEnStart v i = (d.putBit F.RST_CORE_EN_EN i true).coreStart (i + 1) (d.get (H.coreEntry (i + 1))) :=
    if_pos (by simp [hv, hen])
  rw [heq]
  refine ⟨Dev.coreStart_state _ (by omega) _, ?_, Dev.coreStart_regs _ (by omega) _, ?_, ?_⟩
  · rw [Dev.coreStart_p _ (by omega)]
    exact d.get_mod (H.coreEntry (i + 1))
  · simp [Dev.rstack, Dev.coreStart_rstk]
  · rw [Dev.getBit, Dev.coreStart_fields _ (i + 1) _ _ (hne i hi)]
    exact d.putBit_getBit F.RST_CORE_EN_EN hi

/-- What a write of RST_CORE_EN makes of core i + 1: a start, where its bit is set and it is not enabled. -/
structure Dev.EnWritten (d : Dev) (v i : Nat) (e : Dev) : Prop where
  starts : v.testBit (i + 1) = true → d.getBit F.RST_CORE_EN_EN i = false → e.Started (d.get (H.coreEntry (i + 1))) i
  stays : v.testBit (i + 1) = false ∨ d.getBit F.RST_CORE_EN_EN i = true → d.SameCore e i

/-- A write by C0 starts each core whose bit it sets and that is not enabled, and leaves the others as they were. -/
theorem Dev.coreEnWrite_starts (d : Dev) {a : Agent} (v : Nat) (ha : a.isC0 = true) (hm : d.mode ≠ 4) :
    ∀ i < 5, d.EnWritten v i (d.coreEnWrite a v) := by
  rw [d.coreEnWrite_c0 v ha hm]
  refine Dev.forN_each (Pre := fun i e => d.SameCore e i) (Post := fun i e => d.EnWritten v i e)
    (fun _ _ => ⟨fun _ _ => rfl, rfl, rfl⟩) (fun i hi j hj hij e he => he.trans (e.coreEnStart_other v hi hj hij))
    (fun i hi e he => ⟨fun hv hen => ?_, fun h => ?_⟩) fun i hi j hj hij e he => ?_
  · rw [← he.1 (H.coreEntry (i + 1)) (by simp [startFlds])]
    exact e.coreEnStart_starts hi hv (he.2.2.trans hen)
  · have hskip : e.coreEnStart v i = e := if_neg (by rw [he.2.2]; rcases h with h | h <;> simp [h])
    rwa [hskip]
  · have hother := e.coreEnStart_other v hi hj hij
    exact ⟨fun hv hen => (he.starts hv hen).same hother, fun h => (he.stays h).trans hother⟩

/-! ### RST_WDT_KICK and RST_WDT_CTRL (R109, R110) -/

/-- A monitored core that runs, waits or stands stopped by a double fault reloads its counter to PERIOD. -/
theorem Dev.wdtLoad_counts (d : Dev) {n : Nat} (hmask : d.getBit F.RST_WDT_CTRL_MASK n = true)
    (hst : d.coreState n = 1 ∨ d.coreState n = 2 ∨ d.coreState n = 5) :
    d.wdtLoad n = d.arm (T.wdt n) (msTicks (d.get F.RST_WDT_CTRL_PERIOD)) := by
  refine if_pos ?_
  rcases hst with h | h | h <;> simp [hmask, h]

theorem Dev.wdtKick_nothing (d : Dev) {a : Agent} {key : BitVec 8} (h : key ≠ 0xA5 ∨ a.isCore = false) :
    d.wdtKick a key.toNat = d := by
  cases a with
  | core n =>
    have hkey : key ≠ 0xA5 := h.resolve_right (by simp [Agent.isCore])
    exact if_neg fun hk => hkey (BitVec.eq_of_toNat_eq hk)
  | spi => rfl
  | tw0 => rfl
  | tap => rfl

/-- What a write of RST_WDT_CTRL may change: its own fields and the counters. -/
def wdtFlds : List Fld :=
  [F.RST_WDT_CTRL_PERIOD, F.RST_WDT_CTRL_MASK, F.RST_WDT_CTRL_LOCK, T.wdt 0, T.wdt 1, T.wdt 2, T.wdt 3, T.wdt 4, T.wdt 5]

theorem wdt_mem_wdtFlds : ∀ n < 6, T.wdt n ∈ wdtFlds := by decide

theorem Dev.wdtCtrlWrite_ignored (d : Dev) {v : Nat} (h : d.get F.RST_WDT_CTRL_LOCK = 1 ∨ bits v 0 12 = 0) :
    d.wdtCtrlWrite v = d := by
  refine if_pos ?_
  rcases h with h | h <;> simp [Dev.bit, h]

/-- The reloads that a change of PERIOD or of a core's MASK bit brings. -/
def Dev.wdtReloads (d : Dev) (again : Nat → Prop) [DecidablePred again] : Dev :=
  Dev.forN 6 (fun n e => if again n then e.wdtLoad n else e) d

theorem Dev.wdtReloads_frame (d : Dev) (again : Nat → Prop) [DecidablePred again] {l : List Fld} (hl : ∀ n < 6, T.wdt n ∈ l) :
    OnlyRegsSoft d (d.wdtReloads again) l := by
  refine Dev.forN_inv (P := fun e => OnlyRegsSoft d e l) (OnlyRegsSoft.refl d l) fun n hn e he => ?_
  split
  · exact he.trans (e.wdtLoad_frame n (hl n hn))
  · exact he

theorem Dev.wdtCtrlWrite_taken (d : Dev) {v : Nat} (hlock : d.get F.RST_WDT_CTRL_LOCK = 0) (hper : bits v 0 12 ≠ 0) :
    (d.wdtCtrlWrite v).get F.RST_WDT_CTRL_PERIOD = bits v 0 12 ∧ (d.wdtCtrlWrite v).get F.RST_WDT_CTRL_MASK = bits v 16 6 ∧
      (d.wdtCtrlWrite v).get F.RST_WDT_CTRL_LOCK = bits v 35 1 ∧ OnlyRegs d (d.wdtCtrlWrite v) wdtFlds := by
  have heq : d.wdtCtrlWrite v = (d.puts [(F.RST_WDT_CTRL_LOCK, bits v 35 1), (F.RST_WDT_CTRL_MASK, bits v 16 6),
      (F.RST_WDT_CTRL_PERIOD, bits v 0 12)]).wdtReloads (fun n => d.get F.RST_WDT_CTRL_PERIOD ≠ bits v 0 12 ∨
        (d.get F.RST_WDT_CTRL_MASK).testBit n ≠ v.testBit (16 + n)) := if_neg (by simp [Dev.bit, hlock, hper])
  have hputs : OnlyRegsSoft d (d.puts [(F.RST_WDT_CTRL_LOCK, bits v 35 1), (F.RST_WDT_CTRL_MASK, bits v 16 6),
      (F.RST_WDT_CTRL_PERIOD, bits v 0 12)]) wdtFlds :=
    (((OnlyRegsSoft.refl d wdtFlds).put _ _ (by simp [wdtFlds])).put _ _ (by simp [wdtFlds])).put _ _ (by simp [wdtFlds])
  have hw : ∀ f ∈ [F.RST_WDT_CTRL_PERIOD, F.RST_WDT_CTRL_MASK, F.RST_WDT_CTRL_LOCK],
      ∀ g ∈ (List.range 6).map T.wdt, f.key ≠ g.key := by decide
  have hkeep (e : Dev) (again : Nat → Prop) [DecidablePred again] {f : Fld}
      (hf : f ∈ [F.RST_WDT_CTRL_PERIOD, F.RST_WDT_CTRL_MASK, F.RST_WDT_CTRL_LOCK]) : (e.wdtReloads again).get f = e.get f :=
    (e.wdtReloads_frame again fun n hn => List.mem_map_of_mem (List.mem_range.2 hn)).1 f (hw f hf)
  rw [heq, hkeep _ _ (by simp), hkeep _ _ (by simp), hkeep _ _ (by simp)]
  refine ⟨?_, ?_, ?_, (hputs.trans (Dev.wdtReloads_frame _ _ wdt_mem_wdtFlds)).only⟩ <;>
    simp (disch := decide) only [Dev.puts_cons, Dev.puts_nil, Dev.get_put_ne, Dev.get_put_self, bits_mod]

/-! ### The statement -/

/-- Settles O39: the writes of RST_CORE_EN, RST_WDT_KICK and RST_WDT_CTRL, each by what its step of the device does. -/
theorem coresAndWatchdogComplete : Obligations.CoresAndWatchdogComplete := by
  unfold Obligations.CoresAndWatchdogComplete
  refine ⟨fun s a v => ⟨?starts, ?nothing⟩, fun s n a key => ⟨?kick, ?noKick⟩, fun s v => ⟨?taken, ?ignored⟩⟩
  case starts =>
    intro ha hm
    have htouch : s.dev.touch a = s.dev := if_neg (by cases a <;> simp_all [Agent.isC0, Agent.isHost])
    refine EndsDev.of_ok (f := fun d => (d.touch a).coreEnWrite a v.toNat) rfl ?_
    rw [htouch]
    intro n hn
    have hcore := s.dev.coreEnWrite_starts v.toNat ha hm (n.val - 1) (by omega)
    have hidx : n.val - 1 + 1 = n.val := by omega
    refine ⟨fun hv hen => ?_, fun h => ?_⟩
    · obtain ⟨hstate, hpc, hregs, hstack, hon⟩ := hcore.starts (hidx ▸ hv) hen
      simp only [coreRegs, List.forall_mem_cons, hidx] at hstate hpc hregs hstack
      obtain ⟨hA, hX, hY, -⟩ := hregs
      exact ⟨hstate, hpc, congrArg (BitVec.ofNat 36) hA, hX, hY, hstack, hon⟩
    · obtain ⟨hflds, -, hon⟩ := hcore.stays (hidx ▸ h)
      simp only [startFlds, List.forall_mem_cons, hidx] at hflds
      exact ⟨hflds.1, hflds.2.1, hon⟩
  case nothing =>
    intro h
    have hm : s.dev.mode = (s.dev.touch a).mode := (s.dev.touch_get a (by decide)).symm
    rw [hm] at h
    exact next_congr ((s.dev.touch a).coreEnWrite_other v.toNat h)
  case kick =>
    intro hmask hst
    refine EndsDev.of_ok (f := fun d => d.wdtLoad n.val) rfl ?_
    rw [s.dev.wdtLoad_counts hmask hst]
    exact ⟨Dev.get_put_self _ (T.wdt n.val) _, (OnlyRegs.refl _ _).put _ _ (by simp)⟩
  case noKick =>
    intro h
    exact next_congr ((s.dev.touch a).wdtKick_nothing h)
  case taken =>
    intro hlock hper
    exact EndsDev.of_ok (f := (·.wdtCtrlWrite v.toNat)) rfl (s.dev.wdtCtrlWrite_taken hlock hper)
  case ignored =>
    intro h
    exact next_congr (s.dev.wdtCtrlWrite_ignored h)

end Sys2Proof.Machine

/-!
The assertion of a reset (R95, R99, R104-R111): what a level restores and what outlasts it, how a source joins the reset in
progress or raises its level, and how a software request waits or flushes first.
-/
namespace Sys2Proof.Machine

/-! ### What a reset restores -/

theorem tget_filter {α : Type} (dflt : α) (t : Tab α) (p : Nat → Bool) (k : Nat) :
    tget dflt (t.filter fun e => p e.1) k = if p k = true then tget dflt t k else dflt := by
  induction t with
  | nil => simp [tget]
  | cons e l ih =>
    by_cases he : e.1 = k
    · subst he
      by_cases hp : p e.1 = true <;> simp [tget, hp, ih]
    · by_cases hp : p e.1 = true <;> simp [tget, hp, he, ih]

theorem Dev.levelFilter_kept (d : Dev) {lvl : Nat} {f : Fld} (hf : keptKey lvl f.key = true) :
    (d.levelFilter lvl).get f = d.get f := by
  simp [Dev.get, Dev.levelFilter, tget_filter, hf]

/-- A field that the level restores holds its reset value. -/
theorem Dev.levelFilter_restored (d : Dev) {lvl : Nat} {f : Fld} (h0 : f.key % 4 ≠ 0) (hl : f.key % 4 ≤ lvl) :
    (d.levelFilter lvl).get f = f.rst % 2 ^ f.w := by
  have hf : keptKey lvl f.key = false := by simp [keptKey, h0, hl]
  simp [Dev.get, Dev.levelFilter, tget_filter, hf]

/-! ### Fields that outlast an assertion -/

/-- A field that the assertion of a level does not write on its way: one that every reset keeps, or one of RST_FAULT, which an L1
and an L2 keep. -/
def Fld.lasting (f : Fld) : Bool := f.key % 4 == 0 || f.key / 4096 == 0x20004C

theorem lasting_ne {f g : Fld} (hf : f.lasting = true) (hg : g.lasting = false) : f.key ≠ g.key := by
  intro h
  simp only [Fld.lasting, h] at hf hg
  rw [hf] at hg
  cases hg

theorem Dev.get_put_lasting (d : Dev) {f g : Fld} (v : Nat) (hf : f.lasting = true) (hg : g.lasting = false) :
    (d.put g v).get f = d.get f := Dev.get_put_ne d v (lasting_ne hf hg)

theorem Dev.get_puts_lasting (d : Dev) {l : List (Fld × Nat)} {f : Fld} {fs : List Fld} (hf : f.lasting = true)
    (hfs : ∀ g ∈ fs, g.lasting = false) (hl : l.map Prod.fst = fs) : (d.puts l).get f = d.get f :=
  d.get_puts_apart (fun g hg => lasting_ne hf (hfs g hg)) hl

/-- What the hold of a port writes (R122). -/
def holdFlds (p : Nat) : List Fld :=
  [H.padGates p, H.padOff p, H.holdWhy p, H.holdKind p, H.holdHr p, H.holdOri p, H.padSlew p, H.vnow p, H.iset p, H.padCc1 p,
    H.padCc2 p, H.inSwap p]

theorem holdFlds_not_lasting : ∀ p < 24, ∀ g ∈ holdFlds p, g.lasting = false := by decide

theorem Dev.holdPort_lasting (d : Dev) {p : Nat} (hp : p < 24) {f : Fld} (hf : f.lasting = true) :
    (d.holdPort p).get f = d.get f :=
  (Dev.get_puts_lasting _ hf (holdFlds_not_lasting p hp) rfl).trans (Dev.get_put_lasting d _ hf (by decide))

theorem Dev.get_progCut (d : Dev) (f : Fld) : d.progCut.get f = d.get f := by
  unfold Dev.progCut
  split <;> rfl

/-- The assertion of a level empties every channel, restores its fields, and keeps the lasting ones beyond its reach. -/
structure Dev.ResetTo (d : Dev) (lvl : Nat) (e : Dev) : Prop where
  chans : ∀ c : Fin 64, e.chan c.val = []
  restored : ∀ f : Fld, f.key % 4 ≠ 0 → f.key % 4 ≤ lvl → e.get f = f.rst % 2 ^ f.w
  kept : ∀ f : Fld, f.lasting = true → keptKey lvl f.key = true → e.get f = d.get f

theorem Dev.ResetTo.of_filter {d e g : Dev} {lvl : Nat} (hc : ∀ c : Fin 64, g.chan c.val = [])
    (hg : ∀ f, g.get f = (e.levelFilter lvl).get f) (hl : ∀ f : Fld, f.lasting = true → e.get f = d.get f) : d.ResetTo lvl g where
  chans := hc
  restored f h0 hle := (hg f).trans (e.levelFilter_restored h0 hle)
  kept f hf hk := (hg f).trans ((e.levelFilter_kept hk).trans (hl f hf))

theorem Dev.chan_nil_of_chq {d : Dev} (h : d.chq = []) (c : Nat) : d.chan c = [] := by simp [Dev.chan, h, tget]

/-- The blocks cleared, a level restores their fields. -/
theorem Dev.ResetTo.of_blocksClear {d : Dev} {lvl : Nat} (e : Dev) (hl : ∀ f : Fld, f.lasting = true → e.get f = d.get f) :
    d.ResetTo lvl (e.blocksClear.levelFilter lvl) :=
  .of_filter (e := e) (fun c => Dev.chan_nil_of_chq rfl c.val) (fun _ => rfl) hl

theorem Dev.assertL3_resets (d : Dev) : d.ResetTo 3 d.assertL3 :=
  .of_filter (e := d.progCut.blocksClear) (fun c => Dev.chan_nil_of_chq rfl c.val) (fun _ => rfl) fun f _ => d.get_progCut f

/-- The device as an L2 finds it when its blocks are cleared: the pads and ports are held, and the hold timer runs. -/
def Dev.heldForL2 (d : Dev) : Dev :=
  let d := Dev.forN 24 (fun p e => e.holdPort p) d.holdPads.progCut
  if d.bit F.RST_HOLD_HELD then d.arm T.hold (msTicks (20 + 5 * d.get F.RST_HOLDCFG_HOLDTO)) else d

theorem Dev.heldForL2_lasting (d : Dev) {f : Fld} (hf : f.lasting = true) : d.heldForL2.get f = d.get f := by
  have hpads (e : Dev) : e.holdPads.get f = e.get f :=
    Dev.get_puts_lasting (fs := [H.padIrq, H.padBrst, H.padSto, F.CMP_OUT_LEVEL]) e hf (by decide) rfl
  have hports (e : Dev) : (Dev.forN 24 (fun p e => e.holdPort p) e).get f = e.get f :=
    Dev.forN_get e fun p hp e => e.holdPort_lasting hp hf
  unfold Dev.heldForL2
  dsimp only
  split
  · rw [Dev.arm, Dev.get_put_lasting _ _ hf (by decide), hports, Dev.get_progCut, hpads]
  · rw [hports, Dev.get_progCut, hpads]

theorem Dev.assertL2_eq (d : Dev) : d.assertL2 = d.heldForL2.blocksClear.levelFilter 2 := by
  unfold Dev.assertL2 Dev.heldForL2
  rfl

theorem Dev.assertL2_resets (d : Dev) : d.ResetTo 2 d.assertL2 := by
  rw [d.assertL2_eq]
  exact Dev.ResetTo.of_blocksClear d.heldForL2 fun _ hf => d.heldForL2_lasting hf

/-- The channels emptied, each with DISC where messages went (R490). -/
def Dev.discardAll (d : Dev) : Dev := Dev.forN 64 (fun c e => if (e.chan c).isEmpty then e else e.discardChan c) d

theorem Dev.discardAll_get (d : Dev) {f : Fld} (hf : ∀ c < 64, f.key ≠ (H.chDisc c).key) : d.discardAll.get f = d.get f := by
  refine Dev.forN_get d fun c hc e => ?_
  split
  · rfl
  · exact Dev.hwSet_get_ne (e.setChan c []) (hf c hc)

theorem Dev.discardAll_chan (d : Dev) : ∀ c < 64, d.discardAll.chan c = [] := by
  refine Dev.forN_each (Pre := fun _ _ => True) (Post := fun c e => e.chan c = []) (fun _ _ => trivial)
    (fun _ _ _ _ _ _ _ => trivial) (fun c _ e _ => ?_) fun b _ c _ hbc e he => ?_
  · split
    · next h => exact List.isEmpty_iff.1 h
    · exact tget_tput_same [] e.chq c []
  · split
    · exact he
    · exact (tget_tput_ne [] e.chq [] hbc.symm).trans he

/-- With no ask outstanding none takes its default. -/
theorem Dev.asksDefault_none (d : Dev) (hask : ∀ p < 24, d.askOut p = false) : d.asksDefault = d :=
  Dev.forN_inv (P := fun e => e = d) rfl fun p hp e he => by simp [he, hask p hp]

theorem Dev.assertL1_resets (d : Dev) (hask : ∀ p < 24, d.askOut p = false) : d.ResetTo 1 d.assertL1 := by
  have hdisc : ∀ c < 64, (H.chDisc c).lasting = false := by decide
  have hkey : ∀ p < 24, ∀ c < 64, (F.PRT_PE_STAT_ASKPEND p).key ≠ (H.chDisc c).key := by decide
  have hask' : ∀ p < 24, d.discardAll.askOut p = false := fun p hp => by
    rw [Dev.askOut, Dev.bit, d.discardAll_get (hkey p hp), ← Dev.bit]
    exact hask p hp
  have hstack (e : Dev) (hc : ∀ c : Fin 64, e.chan c.val = []) (hl : ∀ f : Fld, f.lasting = true → e.get f = d.get f) :
      d.ResetTo 1 (Dev.levelFilter { e with rstk := [] } 1) := .of_filter hc (fun _ => rfl) hl
  unfold Dev.assertL1
  dsimp only
  rw [← Dev.discardAll, d.discardAll.asksDefault_none hask']
  exact hstack _ (fun c => d.discardAll_chan c.val c.isLt) fun f hf => d.discardAll_get fun c hc => lasting_ne hf (hdisc c hc)

/-! ### A source joins or raises the reset in progress -/

/-- The reset in progress is below this level, snapshots at resets are off, and no ask is outstanding. -/
structure Dev.RisesTo (d : Dev) (lvl : Nat) : Prop where
  below : d.get H.rstHeld < lvl
  noSnap : d.get F.SNAP_CTRL_RSTEN = 0
  noAsk : ∀ p < 24, d.askOut p = false

/-- The fields that tell so. -/
def risesFlds : List Fld := [H.rstHeld, F.SNAP_CTRL_RSTEN] ++ (List.range 24).map F.PRT_PE_STAT_ASKPEND

theorem Dev.RisesTo.keep {d e : Dev} {lvl : Nat} (h : d.RisesTo lvl) (hget : ∀ f ∈ risesFlds, e.get f = d.get f) :
    e.RisesTo lvl where
  below := (hget H.rstHeld (by simp [risesFlds])).symm ▸ h.below
  noSnap := (hget _ (by simp [risesFlds])).trans h.noSnap
  noAsk p hp := by
    rw [Dev.askOut, Dev.bit, hget _ (List.mem_append_right _ (List.mem_map_of_mem (List.mem_range.2 hp)))]
    exact h.noAsk p hp

/-- The reset in progress has this level, source src is among its sources, and the fields of the level are restored. -/
structure Dev.Asserted (d : Dev) (src lvl : Nat) (e : Dev) : Prop where
  held : e.get H.rstHeld = lvl
  source : e.getBit (H.rstSrc lvl) src = true
  chans : ∀ c : Fin 64, e.chan c.val = []
  restored : ∀ f : Fld, f.key % 4 ≠ 0 → f.key % 4 ≤ lvl → e.get f = f.rst % 2 ^ f.w
  faults : lvl < 3 → ∀ f : Fld, f.key / 4096 = 0x20004C → f.key % 4 = 3 → e.get f = d.get f

theorem Dev.rstEnter_resets (d : Dev) {src lvl : Nat} (h1 : 1 ≤ lvl) (h3 : lvl ≤ 3) (hsnap : d.get F.SNAP_CTRL_RSTEN = 0)
    (hask : ∀ p < 24, d.askOut p = false) : (d.put H.rstHeld lvl).ResetTo lvl (d.rstEnter src lvl) := by
  have hno : ¬(lvl < 3 ∧ src ≠ 6 ∧ d.bit F.SNAP_CTRL_RSTEN = true) := by simp [Dev.bit, hsnap]
  have hkey : ∀ p < 24, (F.PRT_PE_STAT_ASKPEND p).key ≠ H.rstHeld.key := by decide
  unfold Dev.rstEnter
  rw [if_neg hno]
  obtain rfl | rfl | rfl : lvl = 1 ∨ lvl = 2 ∨ lvl = 3 := by omega
  · refine Dev.assertL1_resets _ fun p hp => ?_
    rw [Dev.askOut, Dev.bit, Dev.get_put_ne d 1 (hkey p hp)]
    exact hask p hp
  · exact Dev.assertL2_resets _
  · exact Dev.assertL3_resets _

/-- The marks of a first assertion leave everything but themselves alone. -/
theorem Dev.rstMarks_get (d : Dev) {f : Fld} (hf : ∀ g ∈ [H.rstTick, H.rstRun, H.rstWdt], f.key ≠ g.key) :
    d.rstMarks.get f = d.get f := by
  unfold Dev.rstMarks
  split
  · exact Dev.get_puts_ne d _ (by simpa using hf)
  · rfl

theorem rstSrc_lasting (lvl : Nat) : (H.rstSrc lvl).lasting = true := by simp [Fld.lasting]

theorem rstSrc_key (lvl : Nat) (hl : lvl < 4) : (H.rstSrc lvl).key / 16384 = 4194304 + 292 := by
  simp only [hkey]
  omega

theorem keptKey_zero (lvl : Nat) {k : Nat} (h : k % 4 = 0) : keptKey lvl k = true := by simp [keptKey, h]

/-- A source that does not exceed the reset in progress only joins it (R105). -/
theorem Dev.rstAssert_joins (d : Dev) {src lvl : Nat} (h1 : 1 ≤ lvl) (hflush : d.get H.flushLvl = 0)
    (hle : lvl ≤ d.get H.rstHeld) : d.rstAssert src lvl = d.putBit (H.rstSrc lvl) src true := by
  have hl : d.get H.rstHeld < 4 := d.get_lt H.rstHeld
  have hmarks : d.rstMarks = d := if_neg (by omega)
  have hheld : (d.putBit (H.rstSrc lvl) src true).get H.rstHeld = d.get H.rstHeld :=
    Dev.get_put_ne d _ (by simp only [hkey]; omega)
  unfold Dev.rstAssert
  dsimp only
  rw [hmarks, hflush, if_pos rfl, Nat.max_zero, hheld, if_neg (by omega)]

theorem Dev.rstAssert_rises_eq (d : Dev) {src lvl : Nat} (hflush : d.get H.flushLvl = 0) (h : d.RisesTo lvl) (h3 : lvl ≤ 3) :
    d.rstAssert src lvl = (d.rstMarks.putBit (H.rstSrc lvl) src true).rstEnter src lvl := by
  have hheld : (d.rstMarks.putBit (H.rstSrc lvl) src true).get H.rstHeld = d.get H.rstHeld :=
    (Dev.get_put_ne _ _ (by simp only [hkey]; omega)).trans (d.rstMarks_get (by decide))
  have hnone : d.rstMarks.get H.flushLvl = 0 := (d.rstMarks_get (by decide)).trans hflush
  unfold Dev.rstAssert
  dsimp only
  rw [hnone, if_pos rfl, Nat.max_zero, hheld, if_pos h.below]

/-- A source above the reset in progress makes it its level. -/
theorem Dev.rstAssert_rises (d : Dev) {src lvl : Nat} (hflush : d.get H.flushLvl = 0) (h : d.RisesTo lvl) (h3 : lvl ≤ 3)
    (hsrc : src < 8) : d.Asserted src lvl (d.rstAssert src lvl) := by
  have h1 : 1 ≤ lvl := by have := h.below; omega
  have hmarks : ∀ f ∈ risesFlds, ∀ g ∈ [H.rstTick, H.rstRun, H.rstWdt], f.key ≠ g.key := by decide
  have hrises : ∀ f ∈ risesFlds, f.key / 16384 ≠ 4194304 + 292 := by decide
  have hready : (d.rstMarks.putBit (H.rstSrc lvl) src true).RisesTo lvl := h.keep fun f hf => by
    have hne : f.key ≠ (H.rstSrc lvl).key := fun hk => hrises f hf (by rw [hk, rstSrc_key lvl (by omega)])
    exact (Dev.get_put_ne _ _ hne).trans (d.rstMarks_get (hmarks f hf))
  have hreset := Dev.rstEnter_resets (d.rstMarks.putBit (H.rstSrc lvl) src true) (src := src) h1 h3 hready.noSnap hready.noAsk
  rw [d.rstAssert_rises_eq hflush h h3]
  refine ⟨?_, ?_, hreset.chans, hreset.restored, fun h3' f hf hlvl => ?_⟩
  · rw [hreset.kept H.rstHeld (by decide) (keptKey_zero lvl rfl), Dev.get_put_self]
    exact Nat.mod_eq_of_lt (show lvl < 2 ^ 2 by omega)
  · rw [Dev.getBit, hreset.kept _ (rstSrc_lasting lvl) (keptKey_zero lvl (by simp only [hkey]; omega)),
      Dev.get_put_ne _ _ (by simp only [hkey]; omega)]
    exact Dev.putBit_getBit _ (H.rstSrc lvl) hsrc
  · rw [hreset.kept f (by simp [Fld.lasting, hf]) (by simp [keptKey, hlvl, h3']), Dev.get_put_ne _ _ (by simp only [hkey]; omega),
      Dev.putBit, Dev.get_put_ne _ _ (by simp only [hkey]; omega)]
    have hmark : ∀ g ∈ [H.rstTick, H.rstRun, H.rstWdt], g.key / 4096 ≠ 0x20004C := by decide
    exact d.rstMarks_get fun g hg hk => hmark g hg (hk ▸ hf)

/-! ### The sources -/

theorem risesFlds_quiet : ∀ f ∈ risesFlds, f.quiet = true := by decide

theorem Dev.RisesTo.touch {d : Dev} {lvl : Nat} (h : d.RisesTo lvl) (a : Agent) : (d.touch a).RisesTo lvl :=
  h.keep fun f hf => d.touch_get a (risesFlds_quiet f hf)

theorem Dev.RisesTo.put {d : Dev} {lvl : Nat} (h : d.RisesTo lvl) {g : Fld} (v : Nat) (hg : ∀ f ∈ risesFlds, f.key ≠ g.key) :
    (d.put g v).RisesTo lvl :=
  h.keep fun f hf => Dev.get_put_ne d v (hg f hf)

/-- A valid request without FLUSH, outside a host transfer, asserts its level at once (R104). -/
theorem Dev.rstReqWrite_asserts (d : Dev) {a : Agent} {lvl : Nat} (ha : a ≠ .tap) (hl : lvl = 1 ∨ lvl = 2)
    (hx : d.get H.hostXfer = 0) : d.rstReqWrite a (rstReqWord lvl false) = d.rstAssert 4 lvl := by
  have hsoft : d.softAssert a lvl = d.rstAssert 4 lvl := if_neg (by simp [Dev.bit, hx])
  rw [← hsoft]
  unfold Dev.rstReqWrite
  rw [if_neg ha]
  rcases hl with rfl | rfl <;> rfl

/-- Inside a host transfer it waits for the transfer's end, the higher of the levels asked for (R104). -/
theorem Dev.rstReqWrite_waits (d : Dev) {a : Agent} {lvl : Nat} (ha : a ≠ .tap) (hl : lvl = 1 ∨ lvl = 2)
    (hx : d.get H.hostXfer = 1) : d.rstReqWrite a (rstReqWord lvl false) =
      d.put (if a = .spi then H.spiReq else H.twReq) (max lvl (d.get (if a = .spi then H.spiReq else H.twReq))) := by
  have hsoft : d.softAssert a lvl = _ := if_pos (by simp [Dev.bit, hx])
  dsimp only at hsoft
  rw [← hsoft]
  unfold Dev.rstReqWrite
  rw [if_neg ha]
  rcases hl with rfl | rfl <;> rfl

/-- A request without the key, or without a level, only sets REQBAD (R107). -/
theorem Dev.rstReqWrite_bad (d : Dev) {a : Agent} {v : Nat} (ha : a ≠ .tap)
    (hv : bits v 8 8 ≠ 0x5A ∨ bits v 0 2 = 0 ∨ bits v 0 2 = 3) : d.rstReqWrite a v = d.hwSet F.RST_STAT_REQBAD :=
  (if_neg ha).trans (if_pos hv)

/-- With no segment open, and none closed on this tick, closing them all does nothing. -/
theorem Dev.segCloseAll_none (d : Dev) (reason : Nat) (reopen : Bool)
    (hseg : ∀ p < 24, d.get (F.MTR_STAT_OPEN p) = 0 ∧ d.segJust p = none) : d.segCloseAll reason reopen = d := by
  refine Dev.forN_inv (P := fun e => e = d) rfl fun p hp e he => ?_
  obtain ⟨hopen, hjust⟩ := hseg p hp
  simp [he, Dev.segClose, hjust, Dev.bit, hopen]

/-- A request with FLUSH first closes the segments and gives the flush 100 ms (R108). -/
theorem Dev.rstReqWrite_flushes (d : Dev) {a : Agent} {lvl : Nat} (ha : a ≠ .tap) (hl : lvl = 1 ∨ lvl = 2)
    (hflush : d.get H.flushLvl = 0) (hseg : ∀ p < 24, d.get (F.MTR_STAT_OPEN p) = 0 ∧ d.segJust p = none) :
    d.rstReqWrite a (rstReqWord lvl true) = (d.put H.flushLvl lvl).arm T.flush (msTicks 100) := by
  have hnone : d.segCloseAll 7 (lvl == 1) = d := d.segCloseAll_none 7 _ hseg
  have hno : ¬d.bit H.flushLvl = true := by simp [Dev.bit, hflush]
  have heq : (if d.bit H.flushLvl then d.put H.flushLvl (max lvl (d.get H.flushLvl))
      else ((d.segCloseAll 7 (lvl == 1)).put H.flushLvl lvl).arm T.flush (msTicks 100)) =
        (d.put H.flushLvl lvl).arm T.flush (msTicks 100) := by rw [if_neg hno, hnone]
  rw [← heq]
  unfold Dev.rstReqWrite
  rw [if_neg ha]
  rcases hl with rfl | rfl <;> rfl

/-- An access leaves the meters' segments alone. -/
theorem Dev.touch_noSegs (d : Dev) (a : Agent) (hseg : ∀ p < 24, d.get (F.MTR_STAT_OPEN p) = 0 ∧ d.segJust p = none) :
    ∀ p < 24, (d.touch a).get (F.MTR_STAT_OPEN p) = 0 ∧ (d.touch a).segJust p = none := by
  have hquiet : ∀ p < 24, (F.MTR_STAT_OPEN p).quiet = true ∧ (H.mtrSegTick p).quiet = true := by decide
  intro p hp
  obtain ⟨hopen, htick⟩ := hquiet p hp
  have hjust : (d.touch a).segJust p = d.segJust p := by
    unfold Dev.segJust Dev.segs Dev.bit
    rw [Dev.touch_segq, Dev.touch_now, d.touch_get a hopen, d.touch_get a htick]
  rw [hjust, d.touch_get a hopen]
  exact hseg p hp

/-- A flush has begun: its level waits, and its 100 ms run. -/
theorem Dev.flush_begun (d : Dev) (lvl : Nat) (hl : lvl < 4) :
    ((d.put H.flushLvl lvl).arm T.flush (msTicks 100)).get H.flushLvl = lvl ∧
      ((d.put H.flushLvl lvl).arm T.flush (msTicks 100)).get T.flush = (d.now + 6400001) % 2 ^ 64 ∧
      OnlyRegs d ((d.put H.flushLvl lvl).arm T.flush (msTicks 100)) [H.flushLvl, T.flush] := by
  have hdue : (d.put H.flushLvl lvl).now + msTicks 100 + 1 = d.now + 6400001 := by simp [msTicks]
  rw [Dev.arm, hdue]
  exact ⟨(Dev.get_put_ne _ _ (by decide)).trans ((Dev.get_put_self d H.flushLvl lvl).trans (Nat.mod_eq_of_lt hl)),
    Dev.get_put_self _ T.flush _, ((OnlyRegs.refl d _).put _ _ (by simp)).put _ _ (by simp)⟩

/-! ### Watchdogs and lockups (R102, R111) -/

/-- The cores that an expiry names in RST_FAULT, their counters stopped. -/
def Dev.wdtNamed (d : Dev) (due : Nat → Bool) : Dev :=
  Dev.forN 6 (fun n e => if due n then (e.hwBit F.RST_FAULT_WDOG n).stop (T.wdt n) else e) d

theorem Dev.wdtNamed_get (d : Dev) (due : Nat → Bool) {f : Fld} (hf : ∀ n < 6, f.key ≠ (T.wdt n).key)
    (hw : f.key ≠ F.RST_FAULT_WDOG.key) : (d.wdtNamed due).get f = d.get f := by
  refine Dev.forN_get d fun n hn e => ?_
  split
  · exact (Dev.get_put_ne _ 0 (hf n hn)).trans (Dev.hwBit_get_ne e n hw)
  · rfl

theorem Dev.wdtNamed_bit (d : Dev) (due : Nat → Bool) {i : Nat} (hi : i < 6) (hdue : due i = true) :
    (d.wdtNamed due).getBit F.RST_FAULT_WDOG i = true := by
  have hne : ∀ n < 6, F.RST_FAULT_WDOG.key ≠ (T.wdt n).key := by decide
  have hbit (e : Dev) {n : Nat} (hn : n < 6) {j : Nat} (hj : j < 6) : ((e.hwBit F.RST_FAULT_WDOG n).stop (T.wdt n)).getBit
      F.RST_FAULT_WDOG j = (decide (n = j) || e.getBit F.RST_FAULT_WDOG j) := by
    rw [Dev.getBit, Dev.stop, Dev.get_put_ne _ 0 (hne n hn)]
    exact e.getBit_hwBit F.RST_FAULT_WDOG n hj
  refine Dev.forN_each (Pre := fun _ _ => True) (Post := fun n e => due n = true → e.getBit F.RST_FAULT_WDOG n = true)
    (fun _ _ => trivial) (fun _ _ _ _ _ _ _ => trivial) (fun n hn e _ hn' => ?_) (fun m hm n hn _ e he hn' => ?_) i hi hdue
  · rw [if_pos hn', hbit e hn hn]
    simp
  · split
    · simp [hbit e hm hn, he hn']
    · exact he hn'

/-- The cores that the expiry of core i's watchdog names: those whose period has run out (R102, R105). -/
def Dev.wdtDue (d : Dev) (i n : Nat) : Bool :=
  n == i || (d.armed (T.wdt n) && decide (d.get (T.wdt n) ≤ d.now + 1)) || d.rstJust H.rstWdt n

/-- The device once an expiry has named its cores and noted its tick. -/
def Dev.wdtNoted (d : Dev) (i : Nat) : Dev :=
  let e := d.wdtNamed (d.wdtDue i)
  { e with hist := tput [] e.hist 200 (e.now :: d.wdTimes.filter (fun t => decide (t < d.now))) }

theorem Dev.watchdog_expires (d : Dev) {i : Nat} (ht : d.get (T.wdt i) ≠ 0) : d.watchdog i =
    ((d.wdtNoted i).rstAssert 3 (if 2 ≤ (d.wdTimes.filter (fun t => decide (t < d.now))).length then 2 else 1)).clr H.rstWdt := by
  unfold Dev.watchdog
  rw [if_neg (by simp [Dev.armed, ht])]
  rfl

theorem Dev.lockup_asserts (d : Dev) {i : Nat} (hst : d.coreState i = 1) (hheld : d.get H.rstHeld = 0) :
    d.lockup i = (d.hwBit F.RST_FAULT_LOCKUP i).rstAssert 7 1 := if_pos (.inl ⟨hst, hheld⟩)

/-- The mark of the tick of an assertion is neither a field that a level restores nor one that tells of the reset. -/
theorem Dev.Asserted.clr_rstWdt {d e : Dev} {src lvl : Nat} (h : d.Asserted src lvl e) : d.Asserted src lvl (e.clr H.rstWdt) where
  held := (Dev.get_put_ne e 0 (by decide)).trans h.held
  source := by
    have hl : lvl < 4 := h.held ▸ e.get_lt H.rstHeld
    have hne : (H.rstSrc lvl).key ≠ H.rstWdt.key := by simp only [hkey]; omega
    rw [Dev.getBit, Dev.clr, Dev.get_put_ne e 0 hne]
    exact h.source
  chans := h.chans
  restored f h0 hl := by
    have hne : f.key ≠ H.rstWdt.key := by simp only [hkey]; omega
    exact (Dev.get_put_ne e 0 hne).trans (h.restored f h0 hl)
  faults hl f hf h3 := by
    have hne : f.key ≠ H.rstWdt.key := by simp only [hkey]; omega
    exact (Dev.get_put_ne e 0 hne).trans (h.faults hl f hf h3)

theorem Dev.watchdog_asserted (d : Dev) {i lvl : Nat} (hi : i < 6) (ht : d.get (T.wdt i) ≠ 0)
    (hlvl : lvl = if 2 ≤ (d.wdTimes.filter (fun t => decide (t < d.now))).length then 2 else 1)
    (hflush : d.get H.flushLvl = 0) (h : d.RisesTo lvl) :
    (d.wdtNoted i).Asserted 3 lvl (d.watchdog i) ∧ (d.watchdog i).getBit F.RST_FAULT_WDOG i = true := by
  have hkeys : ∀ f ∈ H.flushLvl :: risesFlds, (∀ n < 6, f.key ≠ (T.wdt n).key) ∧ f.key ≠ F.RST_FAULT_WDOG.key := by
    decide
  have hl : lvl < 3 := by subst hlvl; split <;> omega
  have hget : ∀ f ∈ H.flushLvl :: risesFlds, (d.wdtNoted i).get f = d.get f := fun f hf =>
    d.wdtNamed_get _ (hkeys f hf).1 (hkeys f hf).2
  have has := (Dev.rstAssert_rises (d.wdtNoted i) (src := 3) ((hget _ (by simp)).trans hflush)
    (h.keep fun f hf => hget f (by simp [hf])) (by omega) (by omega)).clr_rstWdt
  rw [d.watchdog_expires ht, ← hlvl]
  refine ⟨has, ?_⟩
  rw [Dev.getBit, has.faults hl _ (by decide) (by decide)]
  exact d.wdtNamed_bit _ hi (by simp [Dev.wdtDue])

theorem Dev.lockup_asserted (d : Dev) {i : Nat} (hi : i < 6) (hst : d.coreState i = 1) (hheld : d.get H.rstHeld = 0)
    (hflush : d.get H.flushLvl = 0) (h : d.RisesTo 1) : (d.hwBit F.RST_FAULT_LOCKUP i).Asserted 7 1 (d.lockup i) ∧
      (d.lockup i).getBit F.RST_FAULT_LOCKUP i = true := by
  have hkeys : ∀ f ∈ risesFlds, f.key ≠ F.RST_FAULT_LOCKUP.key := by decide
  have has := Dev.rstAssert_rises (d.hwBit F.RST_FAULT_LOCKUP i) (src := 7) ((Dev.hwBit_get_ne d i (by decide)).trans hflush)
    (h.keep fun f hf => Dev.hwBit_get_ne d i (hkeys f hf)) (by omega) (by omega)
  rw [d.lockup_asserts hst hheld]
  refine ⟨has, ?_⟩
  rw [Dev.getBit, has.faults (by omega) _ (by decide) (by decide), ← Dev.getBit, Dev.getBit_hwBit _ _ _ hi]
  simp

/-! ### The flush (R108) -/

theorem Dev.pump_nothing (d : Dev) (hs : d.staged = []) (hl : d.logs = []) : d.pump = d := by
  simp [Dev.pump, hs, hl, readySlots]

theorem Dev.programAll_idle (d : Dev) (n : Nat) (hp : d.get H.progOn = 0) : Dev.programAll n d = d := by
  cases n with
  | zero => rfl
  | succ n => exact if_pos hp

/-- With no segment queued the Ledger engine only empties its own channel. -/
theorem Dev.takeAll_empty (d : Dev) (hq : d.segq = []) : d.takeAll =
    if d.get (H.chDst (d.get F.MTR_CFG_SEGCH)) = 9 then d.setChan (d.get F.MTR_CFG_SEGCH) [] else d := by
  have hstep (e : Dev) (p : Nat) (he : e.segq = []) : (e.segs p).foldl (fun f g => f.takeSeg p g)
      (e.setSegs p ((e.segs p).map (fun g => { g with posted := true }))) = e := by
    have hsegs : e.segs p = [] := by simp [Dev.segs, he, tget]
    rw [hsegs]
    show { e with segq := tput [] e.segq p [] } = e
    rw [he]
    show { e with segq := [] } = e
    rw [← he]
  have hloop (e : Dev) (he : e.segq = []) : Dev.forN 24 (fun p e => (e.segs p).foldl (fun f g => f.takeSeg p g)
      (e.setSegs p ((e.segs p).map (fun g => { g with posted := true })))) e = e :=
    Dev.forN_inv (P := fun g => g = e) rfl fun p _ g hg => by rw [hg]; exact hstep e p he
  unfold Dev.takeAll
  dsimp only
  split
  · exact hloop _ hq
  · exact hloop _ hq

/-- A flush that finds nothing left to commit writes no field but the two wishes to commit. -/
theorem Dev.ledgerDrain_empty (d : Dev) (cause : Nat) (hq : d.segq = []) (hopen : d.get F.LGR_STAT_OPEN = 0)
    (hsig : d.sigq = []) (hst : d.staged = []) (hlog : d.logs = []) (hprog : d.get H.progOn = 0) :
    ∃ e : Dev, e.regs = d.regs ∧ d.ledgerDrain cause = (e.put H.cmtWant 0).set1 H.logWant := by
  obtain ⟨e, htake, hregs, hsig', hst', hlog'⟩ : ∃ e : Dev, d.takeAll = e ∧ e.regs = d.regs ∧ e.sigq = d.sigq ∧
      e.staged = d.staged ∧ e.logs = d.logs := by
    rw [d.takeAll_empty hq]
    split
    · exact ⟨_, rfl, rfl, rfl, rfl, rfl⟩
    · exact ⟨_, rfl, rfl, rfl, rfl, rfl⟩
  have hclose : e.blockClose cause false = e := if_pos (by simp [Dev.bit, Dev.get_of_regs hregs, hopen])
  have hpump : ((e.put H.cmtWant 0).set1 H.logWant).pump = (e.put H.cmtWant 0).set1 H.logWant :=
    Dev.pump_nothing _ (hst'.trans hst) (hlog'.trans hlog)
  have hidle : ((e.put H.cmtWant 0).set1 H.logWant).get H.progOn = 0 := by
    rw [Dev.set1, Dev.get_put_ne _ _ (by decide), Dev.get_put_ne _ _ (by decide), Dev.get_of_regs hregs, hprog]
  refine ⟨e, hregs, ?_⟩
  unfold Dev.ledgerDrain
  dsimp only
  rw [htake, hclose, hsig', hsig, List.foldl_nil, hst', hst, List.length_nil, hpump, Dev.programAll_idle _ _ hidle]

/-- The level of a flush that is over, its wish and its time cleared, asserts as a software request. -/
theorem Dev.flushOver_asserted {d e : Dev} {lvl : Nat} (h : d.RisesTo lvl) (hl : lvl ≤ 3) (hflush : e.get H.flushLvl = 0)
    (hget : ∀ f ∈ risesFlds, e.get f = d.get f) : e.Asserted 4 lvl (e.rstAssert 4 lvl) :=
  Dev.rstAssert_rises e hflush (h.keep hget) hl (by omega)

theorem Dev.flushLate_asserts (d : Dev) (h : d.get H.flushLvl ≠ 0) :
    d.flushLate = (d.put H.flushLvl 0).rstAssert 4 (d.get H.flushLvl) := if_neg h

theorem Dev.flushDone_asserts (d : Dev) (h : d.get H.flushLvl ≠ 0) : d.flushDone =
    ((d.ledgerDrain 4).puts [(H.flushLvl, 0), (T.flush, 0)]).rstAssert 4 (d.get H.flushLvl) := if_neg h

theorem Dev.flushTimeout_asserted (d : Dev) {lvl : Nat} (hlvl : lvl = d.get H.flushLvl) (h1 : 1 ≤ lvl) (h : d.RisesTo lvl)
    (ht : d.get T.flush ≠ 0) : ∃ e : Dev, e.Asserted 4 lvl (d.onExpiry T.flush Dev.flushLate) := by
  have hkeys : ∀ f ∈ risesFlds, f.key ≠ H.flushLvl.key ∧ f.key ≠ T.flush.key := by decide
  have hl : lvl ≤ 3 := by have := d.get_lt H.flushLvl; simp only [Nat.reducePow] at this; omega
  have hstop : (d.stop T.flush).get H.flushLvl = lvl := (Dev.get_put_ne d 0 (by decide)).trans hlvl.symm
  have heq : d.onExpiry T.flush Dev.flushLate = ((d.stop T.flush).put H.flushLvl 0).rstAssert 4 lvl := by
    refine (if_pos (by simpa [Dev.armed] using ht)).trans ?_
    rw [Dev.flushLate_asserts _ (by omega), hstop]
  rw [heq]
  exact ⟨_, Dev.flushOver_asserted h hl (Dev.get_put_self _ H.flushLvl 0) fun f hf =>
    (Dev.get_put_ne _ 0 (hkeys f hf).1).trans (Dev.get_put_ne d 0 (hkeys f hf).2)⟩

theorem Dev.flushDone_asserted (d : Dev) {lvl : Nat} (hlvl : lvl = d.get H.flushLvl) (h1 : 1 ≤ lvl) (h : d.RisesTo lvl)
    (hq : d.segq = []) (hopen : d.get F.LGR_STAT_OPEN = 0) (hsig : d.sigq = []) (hst : d.staged = []) (hlog : d.logs = [])
    (hprog : d.get H.progOn = 0) : ∃ e : Dev, e.Asserted 4 lvl d.flushDone := by
  have hkeys : ∀ f ∈ risesFlds, ∀ g ∈ [H.cmtWant, H.logWant, H.flushLvl, T.flush], f.key ≠ g.key := by decide
  have hl : lvl ≤ 3 := by have := d.get_lt H.flushLvl; simp only [Nat.reducePow] at this; omega
  obtain ⟨e, hregs, hdrain⟩ := d.ledgerDrain_empty 4 hq hopen hsig hst hlog hprog
  rw [d.flushDone_asserts (by omega), ← hlvl, hdrain]
  refine ⟨_, Dev.flushOver_asserted h hl ?_ fun f hf => ?_⟩
  · exact (Dev.get_put_ne _ 0 (by decide)).trans (Dev.get_put_self _ H.flushLvl 0)
  · have hne := hkeys f hf
    simp only [List.forall_mem_cons] at hne
    obtain ⟨hc, hw, hfl, ht, -⟩ := hne
    rw [Dev.get_puts_ne _ _ (by simp [hfl, ht]), Dev.set1, Dev.get_put_ne _ _ hw, Dev.get_put_ne _ _ hc, Dev.get_of_regs hregs]

/-! ### The statement -/

/-- What the statement says of a source c that asserts a level above that of the reset in progress. -/
def Dev.AssertedBy (c : Instr) (src lvl : Nat) (e : Dev) : Prop :=
  e.get H.rstHeld = lvl ∧ e.getBit (H.rstSrc lvl) src = true ∧ (∀ k : Fin 64, e.chan k.val = []) ∧
    (∀ f : Fld, f.key % 4 ≠ 0 → f.key % 4 ≤ lvl → e.get f = f.rst % 2 ^ f.w) ∧
    (∀ i, c = .watchdogExpiry i → e.getBit F.RST_FAULT_WDOG i.val = true) ∧
    (∀ i, c = .lockupTimeout i → e.getBit F.RST_FAULT_LOCKUP i.val = true)

theorem Dev.Asserted.by {d e : Dev} {c : Instr} {src lvl : Nat} (h : d.Asserted src lvl e)
    (hw : ∀ i, c = .watchdogExpiry i → e.getBit F.RST_FAULT_WDOG i.val = true)
    (hk : ∀ i, c = .lockupTimeout i → e.getBit F.RST_FAULT_LOCKUP i.val = true) : e.AssertedBy c src lvl :=
  ⟨h.held, h.source, h.chans, h.restored, hw, hk⟩

/-- The level of RSTn (R101): the bit that decides it is that of OTP while an L2 or L3 is held. -/
theorem Dev.rstnLevel (d : Dev) :
    (if d.bit (if 2 ≤ d.get H.rstHeld then H.otpRstnl3 else F.RST_CFG_RSTNL3) then 3 else 2) =
      if d.get (if 2 ≤ d.get H.rstHeld then H.otpRstnl3 else F.RST_CFG_RSTNL3) = 1 then 3 else 2 := by
  have hw : (if 2 ≤ d.get H.rstHeld then H.otpRstnl3 else F.RST_CFG_RSTNL3).w = 1 := by split <;> rfl
  simp [d.bit_eq_decide hw]

/-- A source that joins adds itself to the sources of its level, and nothing else. -/
theorem EndsDev.of_join {c : Instr} {s : State} {d e : Dev} {src lvl : Nat}
    (hc : exec c s = .next { s with dev := e.rstAssert src lvl }) (h1 : 1 ≤ lvl) (hsrc : src < 8)
    (hflush : e.get H.flushLvl = 0) (hheld : e.get H.rstHeld = s.dev.get H.rstHeld) (hle : lvl ≤ s.dev.get H.rstHeld)
    (hd : OnlyRegs d e [H.rstSrc lvl, H.por]) :
    EndsDev c s (fun e => e.getBit (H.rstSrc lvl) src = true ∧ e.get H.rstHeld = s.dev.get H.rstHeld ∧
      OnlyRegs d e [H.rstSrc lvl, H.por]) := by
  have hl : s.dev.get H.rstHeld < 4 := s.dev.get_lt H.rstHeld
  refine EndsDev.of_next hc ?_
  rw [e.rstAssert_joins h1 hflush (hheld ▸ hle)]
  refine ⟨Dev.putBit_getBit e (H.rstSrc lvl) hsrc, ?_, hd.put _ _ (by simp)⟩
  exact (Dev.get_put_ne e _ (by simp only [hkey]; omega)).trans hheld

/-- A source that raises the reset to its level. -/
theorem EndsDev.of_rise {c : Instr} {s : State} {e : Dev} {src lvl : Nat}
    (hc : exec c s = .next { s with dev := e.rstAssert src lvl }) (hl : lvl ≤ 3) (hsrc : src < 8)
    (hflush : e.get H.flushLvl = 0) (h : e.RisesTo lvl)
    (hw : ∀ i, c ≠ .watchdogExpiry i) (hk : ∀ i, c ≠ .lockupTimeout i) : EndsDev c s (Dev.AssertedBy c src lvl) :=
  EndsDev.of_next hc ((e.rstAssert_rises hflush h hl hsrc).by (fun i hi => absurd hi (hw i)) fun i hi => absurd hi (hk i))

/-- Outside a host transfer an RST_REQ of L1 or L2 without FLUSH is the software source (R104). -/
theorem exec_rstReq_asserts (s : State) {a : Agent} (ha : a ≠ .tap) (hx : s.dev.get H.hostXfer = 0) :
    exec (.rstReqL1 a false) s = .next { s with dev := (s.dev.touch a).rstAssert 4 1 } ∧
      exec (.rstReqL2 a false) s = .next { s with dev := (s.dev.touch a).rstAssert 4 2 } := by
  have hx' : (s.dev.touch a).get H.hostXfer = 0 := (s.dev.touch_get a (by decide)).trans hx
  exact ⟨next_congr ((s.dev.touch a).rstReqWrite_asserts ha (.inl rfl) hx'),
    next_congr ((s.dev.touch a).rstReqWrite_asserts ha (.inr rfl) hx')⟩

/-- Settles O45: each source runs `Dev.rstAssert`, which joins or raises; a request waits, flushes or asserts. -/
theorem resetSourcesAssertTheirLevel : Obligations.ResetSourcesAssertTheirLevel := by
  unfold Obligations.ResetSourcesAssertTheirLevel
  have htouch (s : State) (a : Agent) {f : Fld} (hf : f.quiet = true) : (s.dev.touch a).get f = s.dev.get f :=
    s.dev.touch_get a hf
  refine ⟨?joins, ?rises, ?flushes, fun s a v ha => ⟨?bad, ?waits, ?asks⟩⟩
  case joins =>
    intro s c src lvl d hsource hflush hle
    have hpor : OnlyRegs s.dev (s.dev.set1 H.por) [H.rstSrc 3, H.por] := (OnlyRegs.refl _ _).put _ _ (by simp)
    have hporFlush : (s.dev.set1 H.por).get H.flushLvl = 0 := (Dev.get_put_ne s.dev 1 (by decide)).trans hflush
    have hporHeld : (s.dev.set1 H.por).get H.rstHeld = s.dev.get H.rstHeld := Dev.get_put_ne s.dev 1 (by decide)
    rcases hsource with ⟨rfl, rfl, rfl, rfl⟩ | ⟨b, rfl, rfl, rfl, rfl⟩ | ⟨rfl, rfl, rfl, rfl⟩ | ⟨rfl, rfl, rfl, rfl⟩ |
      ⟨rfl, rfl, rfl, hlvl⟩ | ⟨a, ha, hx, rfl, rfl, rfl, rfl⟩ | ⟨a, ha, hx, rfl, rfl, rfl, rfl⟩
    · exact EndsDev.of_join (e := s.dev.set1 H.por) rfl (by decide) (by decide) hporFlush hporHeld hle hpor
    · cases b with
      | false => exact EndsDev.of_join (e := s.dev) rfl (by decide) (by decide) hflush rfl hle (OnlyRegs.refl _ _)
      | true => exact EndsDev.of_join (e := s.dev.set1 H.por) rfl (by decide) (by decide) hporFlush hporHeld hle hpor
    · exact EndsDev.of_join (e := s.dev) rfl (by decide) (by decide) hflush rfl hle (OnlyRegs.refl _ _)
    · exact EndsDev.of_join (e := s.dev) rfl (by decide) (by decide) hflush rfl hle (OnlyRegs.refl _ _)
    · have h23 : lvl = 3 ∨ lvl = 2 := hlvl ▸ ite_eq_or_eq _ _ _
      rw [← s.dev.rstnLevel] at hlvl
      exact EndsDev.of_join (e := s.dev) (next_congr (by rw [hlvl])) (by omega) (by decide) hflush rfl hle (OnlyRegs.refl _ _)
    · exact EndsDev.of_join (exec_rstReq_asserts s ha hx).1 (by decide) (by decide) ((htouch s a (by decide)).trans hflush)
        (htouch s a (by decide)) hle (OnlyRegs.refl _ _)
    · exact EndsDev.of_join (exec_rstReq_asserts s ha hx).2 (by decide) (by decide) ((htouch s a (by decide)).trans hflush)
        (htouch s a (by decide)) hle (OnlyRegs.refl _ _)
  case rises =>
    intro s c src lvl hsource hflush hlt hsnap hask
    have h : s.dev.RisesTo lvl := ⟨hlt, hsnap, fun p hp => hask ⟨p, hp⟩⟩
    have hkeys : ∀ f ∈ risesFlds, f.key ≠ H.por.key := by decide
    have hporFlush : (s.dev.set1 H.por).get H.flushLvl = 0 := (Dev.get_put_ne s.dev 1 (by decide)).trans hflush
    show EndsDev c s (Dev.AssertedBy c src lvl)
    rcases hsource with ⟨rfl, rfl, rfl⟩ | ⟨b, rfl, rfl, rfl⟩ | ⟨rfl, rfl, rfl⟩ | ⟨rfl, rfl, rfl⟩ | ⟨rfl, rfl, hlvl⟩ |
      ⟨a, ha, hx, rfl, rfl, rfl⟩ | ⟨a, ha, hx, rfl, rfl, rfl⟩ | ⟨i, rfl, hst, hheld, rfl, rfl⟩ | ⟨i, rfl, ht, rfl, hlvl⟩
    · exact EndsDev.of_rise (e := s.dev.set1 H.por) rfl (by decide) (by decide) hporFlush (h.put 1 hkeys) nofun nofun
    · cases b with
      | false => exact EndsDev.of_rise (e := s.dev) rfl (by decide) (by decide) hflush h nofun nofun
      | true => exact EndsDev.of_rise (e := s.dev.set1 H.por) rfl (by decide) (by decide) hporFlush (h.put 1 hkeys) nofun nofun
    · exact EndsDev.of_rise (e := s.dev) rfl (by decide) (by decide) hflush h nofun nofun
    · exact EndsDev.of_rise (e := s.dev) rfl (by decide) (by decide) hflush h nofun nofun
    · have h23 : lvl = 3 ∨ lvl = 2 := hlvl ▸ ite_eq_or_eq _ _ _
      rw [← s.dev.rstnLevel] at hlvl
      exact EndsDev.of_rise (e := s.dev) (next_congr (by rw [hlvl])) (by omega) (by decide) hflush h nofun nofun
    · exact EndsDev.of_rise (exec_rstReq_asserts s ha hx).1 (by decide) (by decide) ((htouch s a (by decide)).trans hflush)
        (h.touch a) nofun nofun
    · exact EndsDev.of_rise (exec_rstReq_asserts s ha hx).2 (by decide) (by decide) ((htouch s a (by decide)).trans hflush)
        (h.touch a) nofun nofun
    · obtain ⟨has, hbit⟩ := s.dev.lockup_asserted i.isLt hst hheld hflush h
      exact EndsDev.of_next (e := s.dev.lockup i.val) rfl (has.by nofun (by rintro j ⟨⟩; exact hbit))
    · obtain ⟨has, hbit⟩ := s.dev.watchdog_asserted i.isLt ht hlvl hflush h
      exact EndsDev.of_next (e := s.dev.watchdog i.val) rfl (has.by (by rintro j ⟨⟩; exact hbit) nofun)
  case flushes =>
    intro s c lvl hlvl h1 hlt hsnap hask hend
    have h : s.dev.RisesTo lvl := ⟨hlt, hsnap, fun p hp => hask ⟨p, hp⟩⟩
    rcases hend with ⟨rfl, ht⟩ | ⟨rfl, hq, hopen, hsig, hst, hlog, hprog⟩
    · obtain ⟨d, has⟩ := s.dev.flushTimeout_asserted hlvl h1 h ht
      exact EndsDev.of_next rfl ⟨has.held, has.source, has.restored⟩
    · obtain ⟨d, has⟩ := s.dev.flushDone_asserted hlvl h1 h hq hopen hsig hst hlog hprog
      exact EndsDev.of_next rfl ⟨has.held, has.source, has.restored⟩
  case bad =>
    intro hv
    refine EndsDev.of_next (next_congr ((s.dev.touch a).rstReqWrite_bad ha hv)) ⟨Dev.hwSet_self _ _, ?_⟩
    exact (OnlyRegs.refl _ _).hwSet _ (by simp)
  case waits =>
    intro l hx hl
    have hreq : (if a = .spi then H.spiReq else H.twReq).quiet = true ∧ (if a = .spi then H.spiReq else H.twReq).w = 2 ∧
        H.rstHeld.key ≠ (if a = .spi then H.spiReq else H.twReq).key := by split <;> decide
    obtain ⟨hquiet, hw, hne⟩ := hreq
    have hexec : exec (if l = 1 then .rstReqL1 a false else .rstReqL2 a false) s =
        .next { s with dev := (s.dev.touch a).rstReqWrite a (rstReqWord l false) } := by rcases hl with rfl | rfl <;> rfl
    refine EndsDev.of_next (hexec.trans (next_congr ((s.dev.touch a).rstReqWrite_waits ha hl ((htouch s a (by decide)).trans hx))))
      ⟨(Dev.get_put_ne _ _ hne).trans (htouch s a (by decide)), ?_, (OnlyRegs.refl _ _).put _ _ (by simp)⟩
    have hlt := s.dev.get_lt (if a = .spi then H.spiReq else H.twReq)
    rw [Dev.get_put_self, htouch s a hquiet]
    rw [hw] at hlt ⊢
    exact Nat.mod_eq_of_lt (by omega)
  case asks =>
    intro hflush hseg
    have hstep {l : Nat} (hl : l = 1 ∨ l = 2) : (s.dev.touch a).rstReqWrite a (rstReqWord l true) =
        ((s.dev.touch a).put H.flushLvl l).arm T.flush (msTicks 100) :=
      (s.dev.touch a).rstReqWrite_flushes ha hl ((htouch s a (by decide)).trans hflush)
        (s.dev.touch_noSegs a fun p hp => hseg ⟨p, hp⟩)
    have hbegun := (s.dev.touch a).flush_begun
    rw [Dev.touch_now] at hbegun
    exact ⟨EndsDev.of_next (next_congr (hstep (.inl rfl))) (hbegun 1 (by decide)),
      EndsDev.of_next (next_congr (hstep (.inr rfl))) (hbegun 2 (by decide))⟩

end Sys2Proof.Machine

/-!
The release of a reset, the hold of ports through an L2, the supply monitors and the backup domain (R75-R88, R112, R123-R126): what
each records, and what the blocks that it restarts leave alone.
-/
namespace Sys2Proof.Machine

/-! ### The cause record (R112) -/

theorem Dev.rstAlso_lt (d : Dev) : d.rstAlso < 2 ^ 8 :=
  Nat.or_lt_two_pow (Nat.or_lt_two_pow (d.get_lt (H.rstSrc 1)) (d.get_lt (H.rstSrc 2))) (d.get_lt (H.rstSrc 3))

theorem Dev.rstSource_lt (d : Dev) : d.rstSource < 8 := by
  unfold Dev.rstSource
  cases h : (List.range 8).find? (d.getBit (H.rstSrc (d.get H.rstHeld))) with
  | none => simp
  | some n => simpa using List.mem_of_find?_eq_some h

theorem Dev.rstCode_lt (d : Dev) : d.rstCode < 2 ^ 4 := by
  have h := d.rstSource_lt
  unfold Dev.rstCode
  split
  · split <;> decide
  · omega

theorem Dev.causePush_record (d : Dev) : d.causePush.get F.RST_CNT_COUNT = min 16777215 (d.get F.RST_CNT_COUNT + 1) ∧
    d.causePush.get (F.RST_CAUSE_LEVEL 0) = d.get H.rstHeld ∧ d.causePush.get (F.RST_CAUSE_SOURCE 0) = d.rstCode ∧
    d.causePush.get (F.RST_CAUSE_ALSO 0) = d.rstAlso := by
  have hcnt : min 16777215 (d.get F.RST_CNT_COUNT + 1) % 2 ^ 24 = min 16777215 (d.get F.RST_CNT_COUNT + 1) :=
    Nat.mod_eq_of_lt (by omega)
  unfold Dev.causePush
  simp (disch := decide) only [Dev.puts_cons, Dev.puts_nil, Dev.get_put_ne, Dev.get_put_self, hcnt, d.get_mod H.rstHeld,
    Nat.mod_eq_of_lt d.rstCode_lt, Nat.mod_eq_of_lt d.rstAlso_lt, and_self]

/-- The older records move down. -/
theorem Dev.causePush_moves (d : Dev) {i : Nat} (hi : i < 3) :
    d.causePush.get (F.RST_CAUSE_SOURCE (i + 1)) = d.get (F.RST_CAUSE_SOURCE i) ∧
    d.causePush.get (F.RST_CAUSE_LEVEL (i + 1)) = d.get (F.RST_CAUSE_LEVEL i) ∧
    d.causePush.get (F.RST_CAUSE_ALSO (i + 1)) = d.get (F.RST_CAUSE_ALSO i) ∧
    d.causePush.get (F.RST_CAUSE_CNT (i + 1)) = d.get (F.RST_CAUSE_CNT i) := by
  have hthree (g : Nat → Dev → Dev) : Dev.forN 3 g d = g 2 (g 1 (g 0 d)) := rfl
  have hcnt (i : Nat) : d.get (F.RST_CAUSE_CNT i) % 2 ^ 12 = d.get (F.RST_CAUSE_CNT i) := d.get_mod _
  have halso (i : Nat) : d.get (F.RST_CAUSE_ALSO i) % 2 ^ 8 = d.get (F.RST_CAUSE_ALSO i) := d.get_mod _
  have hlevel (i : Nat) : d.get (F.RST_CAUSE_LEVEL i) % 2 ^ 2 = d.get (F.RST_CAUSE_LEVEL i) := d.get_mod _
  have hsource (i : Nat) : d.get (F.RST_CAUSE_SOURCE i) % 2 ^ 4 = d.get (F.RST_CAUSE_SOURCE i) := d.get_mod _
  unfold Dev.causePush
  interval_cases i <;> simp (disch := decide) only [hthree, Dev.puts_cons, Dev.puts_nil, Dev.get_put_ne, Dev.get_put_self, hcnt,
    halso, hlevel, hsource, and_self]

theorem Dev.causePush_mode (d : Dev) : d.causePush.mode = d.mode := by
  have hthree (g : Nat → Dev → Dev) : Dev.forN 3 g d = g 2 (g 1 (g 0 d)) := rfl
  unfold Dev.causePush Dev.mode
  simp (disch := decide) only [hthree, Dev.puts_cons, Dev.puts_nil, Dev.get_put_ne]

/-! ### What the blocks restarted at a release leave alone -/

/-- What the start of a page program writes. -/
def pumpFlds : List Fld := [H.stgPage, H.progOn, H.progPage, H.cmtWant, F.STO_STAT_BUSY, H.logWant]

theorem Dev.pump_get (d : Dev) {f : Fld} (hf : ∀ g ∈ pumpFlds, f.key ≠ g.key) : d.pump.get f = d.get f := by
  simp only [pumpFlds, List.forall_mem_cons] at hf
  obtain ⟨hstg, hon, hpage, hcmt, hbusy, hlog, -⟩ := hf
  have hpages (e : Dev) (h b : Nat) : (if (e.page 4 h).isEmpty then e else e.eraseBlock 4 b).get f = e.get f := by
    split
    · rfl
    · exact Dev.get_of_regs (e.eraseBlock_regs 4 b)
  unfold Dev.pump
  split
  · rfl
  · dsimp only
    split
    · exact Dev.get_puts_ne _ _ (by simp [hstg, hon, hpage, hcmt, hbusy])
    · split
      · rw [Dev.get_puts_ne _ _ (by simp [hstg, hon, hpage, hlog, hbusy])]
        exact hpages d _ _
      · rfl

/-- The report of a reset writes no quiet field but those of a page program. -/
theorem Dev.rstReport_get (d : Dev) {f : Fld} (hq : f.quiet = true) (hf : ∀ g ∈ pumpFlds, f.key ≠ g.key) :
    d.rstReport.get f = d.get f := by
  unfold Dev.rstReport
  dsimp only
  rw [Dev.pump_get _ hf, Dev.logAppend_get _ _ _ _ hq, Dev.raise_get _ (by decide) hq]

theorem Dev.bootCores_get (d : Dev) (others : Nat) {f : Fld} (hf : ∀ n < 6, ∀ g ∈ coreFlds n, f.key ≠ g.key)
    (hen : f.key ≠ F.RST_CORE_EN_EN.key) : (d.bootCores others).get f = d.get f := by
  unfold Dev.bootCores
  dsimp only
  rw [Dev.coreStart_fields _ 0 _ f (hf 0 (by decide)), Dev.get_put_ne _ _ hen]
  exact Dev.forN_get d fun i hi e => e.coreStop_fields (i + 1) others f (hf (i + 1) (by omega))

theorem Dev.coresHalt_get (d : Dev) {f : Fld} (hf : ∀ n < 6, ∀ g ∈ coreFlds n, f.key ≠ g.key) : d.coresHalt.get f = d.get f := by
  refine Dev.forN_get d fun n hn e => ?_
  split
  · exact (Dev.coreSet_fields _ n 3 f (hf n hn)).trans (Dev.get_put_ne e _ (hf n hn _ (by simp [coreFlds])))
  · rfl

/-- What an L1's release does before C0 starts: the router and the meters post again, and the boot goes on where it stood. -/
def Dev.l1Restart (d : Dev) : Dev :=
  let d := d.fabEvt F.FAB_EVT_RECLAIM
  let d := (List.range 256).foldl (fun e k => if e.pend k && e.bit (H.rteChen k) then e.postEvent k else e) d
  let d := d.segRepost
  if d.get H.booting = 1 ∨ d.get H.booting = 2 then d.puts [(H.bootWait, 0), (T.boot, 0)]
    else d.put H.booting (if d.imageRuns then 3 else 0)

theorem Dev.l1Restart_get (d : Dev) {f : Fld} (hq : f.quiet = true)
    (hf : ∀ g ∈ [F.FAB_EVT_RECLAIM, H.booting, H.bootWait, T.boot], f.key ≠ g.key) : d.l1Restart.get f = d.get f := by
  simp only [List.forall_mem_cons] at hf
  obtain ⟨hrec, hboot, hwait, htime, -⟩ := hf
  have hpost (l : List Nat) (hl : ∀ k ∈ l, k < 256) (e : Dev) :
      (l.foldl (fun e k => if e.pend k && e.bit (H.rteChen k) then e.postEvent k else e) e).get f = e.get f := by
    induction l generalizing e with
    | nil => rfl
    | cons k l ih =>
      rw [List.foldl_cons, ih (fun j hj => hl j (by simp [hj]))]
      split
      · exact e.postEvent_get (hl k (by simp)) hq
      · rfl
  have hsegs (e : Dev) : e.segRepost.get f = e.get f := Dev.forN_get e fun p _ e => e.get_setSegs p _ f
  have hreclaim : (d.fabEvt F.FAB_EVT_RECLAIM).get f = d.get f := d.event_get _ _ (by decide) hq hrec
  unfold Dev.l1Restart
  dsimp only
  split
  · rw [Dev.get_puts_ne _ _ (by simp [hwait, htime]), hsegs, hpost _ (fun k => List.mem_range.1), hreclaim]
  · rw [Dev.get_put_ne _ _ hboot, hsegs, hpost _ (fun k => List.mem_range.1), hreclaim]

/-- C0 starts in the boot ROM after an L1; in Tinder the others stay held. -/
def Dev.l1Boot (d : Dev) : Dev := d.l1Restart.bootCores (if d.l1Restart.mode = 4 then 6 else 0)

theorem Dev.release1_eq (d : Dev) : d.release1 = (if d.l1Boot.mode = 3 then d.l1Boot.coresHalt else d.l1Boot).rstReport := by
  unfold Dev.release1 Dev.l1Boot Dev.l1Restart
  rfl

theorem coreFlds_restored : ∀ n < 6, ∀ g ∈ coreFlds n, g.key % 4 ≠ 0 := by decide

/-- A quiet field that every reset keeps is none of those that the release of an L1 writes. -/
theorem Dev.release1_get (d : Dev) {f : Fld} (hq : f.quiet = true) (h0 : f.key % 4 = 0) : d.release1.get f = d.get f := by
  have hne {g : Fld} (hg : g.key % 4 ≠ 0) : f.key ≠ g.key := fun h => hg (h ▸ h0)
  have hpump : ∀ g ∈ pumpFlds, g.key % 4 ≠ 0 := by decide
  have hrestart : ∀ g ∈ [F.FAB_EVT_RECLAIM, H.booting, H.bootWait, T.boot], g.key % 4 ≠ 0 := by decide
  have hcores : ∀ n < 6, ∀ g ∈ coreFlds n, f.key ≠ g.key := fun n hn g hg => hne (coreFlds_restored n hn g hg)
  have hboot : d.l1Boot.get f = d.get f :=
    (Dev.bootCores_get _ _ hcores (hne (by decide))).trans (d.l1Restart_get hq fun g hg => hne (hrestart g hg))
  rw [d.release1_eq, Dev.rstReport_get _ hq fun g hg => hne (hpump g hg)]
  split
  · rw [Dev.coresHalt_get _ hcores, hboot]
  · exact hboot

/-- Outside Banked C0 runs from the first word of the boot ROM. -/
theorem Dev.release1_c0 (d : Dev) (hm : d.mode ≠ 3) : d.release1.coreState 0 = 1 ∧ d.release1.pcOf 0 = 0x10000 := by
  have hmode : d.l1Boot.mode = d.mode :=
    (Dev.bootCores_get _ _ (by decide) (by decide)).trans (d.l1Restart_get (by decide) (by decide))
  rw [d.release1_eq, if_neg (hmode ▸ hm), Dev.coreState, Dev.pcOf, Dev.rstReport_get _ (by decide) (by decide),
    Dev.rstReport_get _ (by decide) (by decide)]
  exact ⟨Dev.coreStart_state _ (by decide) 0x10000, Dev.coreStart_p _ (by decide) 0x10000⟩

/-- The fields by which a reset in progress shows. -/
def rstFlds : List Fld := [H.rstHeld, H.rstSrc 1, H.rstSrc 2, H.rstSrc 3, H.por]

/-- The reset is over, and its sources are forgotten. -/
def Dev.rstOver (d : Dev) : Dev :=
  d.puts [(H.rstHeld, 0), (H.rstSrc 1, 0), (H.rstSrc 2, 0), (H.rstSrc 3, 0), (H.por, 0)]

theorem Dev.rstOver_get (d : Dev) {f : Fld} (hf : ∀ g ∈ rstFlds, f.key ≠ g.key) : d.rstOver.get f = d.get f :=
  d.get_puts_apart hf rfl

theorem Dev.rstOver_held (d : Dev) : d.rstOver.get H.rstHeld = 0 :=
  d.get_puts_mem (v := 0) (List.mem_cons_self ..) (by decide : (rstFlds.map Fld.key).Nodup)

section
variable (s : State) (ms : List Nat) (otpOk xtal : Bool)

theorem State.release_none (h : s.dev.get H.rstHeld = 0) : s.release ms otpOk xtal = s := if_pos h

theorem State.release_one (h : s.dev.get H.rstHeld = 1) :
    s.release ms otpOk xtal = { s with dev := s.dev.causePush.rstOver.release1 } := by
  simp only [State.release, h, Nat.one_ne_zero, if_false, if_true]
  rfl

theorem State.release_memory (h : 2 ≤ s.dev.get H.rstHeld) :
    ∃ d, s.release ms otpOk xtal = { s with dev := d, mem := [], bad := [] } := by
  unfold State.release
  dsimp only
  rw [if_neg (by omega), if_neg (by omega)]
  exact ⟨_, rfl⟩

end

/-! ### Stops of a held port (R123, R125) -/

/-- What a soft stop of a held port writes. -/
def holdStopFlds (p : Nat) : List Fld := [H.padGates p, H.padOff p, H.holdWhy p, H.holdKind p, F.RST_HOLDSTOP_STOPPED]

/-- A soft stop of a held port has begun, for a cause (R123). -/
structure Dev.HoldStopped (e : Dev) (p why off : Nat) : Prop where
  gates : e.get (H.padGates p) = 3
  cause : e.get (H.holdWhy p) = why
  kind : e.get (H.holdKind p) = 1
  off : e.get (H.padOff p) = off % 2 ^ 64
  shown : e.getBit F.RST_HOLDSTOP_STOPPED p = true

section
variable (d : Dev) {p : Nat} (why : Nat)

theorem Dev.holdStop_held (hheld : d.get H.rstHeld = 2) (hg : d.get (H.padGates p) = 1 ∨ d.get (H.padGates p) = 2) :
    d.holdStop p why = (d.puts [(H.padGates p, 3), (H.padOff p, d.now + stopTicks (d.get (H.padSlew p)) + 1), (H.holdWhy p, why),
      (H.holdKind p, 1)]).hwBit F.RST_HOLDSTOP_STOPPED p := by
  refine if_pos ?_
  rcases hg with h | h <;> simp [Dev.inHold, hheld, h]

theorem Dev.holdStop_not (h1 : d.get (H.padGates p) ≠ 1) (h2 : d.get (H.padGates p) ≠ 2) : d.holdStop p why = d :=
  if_neg (by simp [h1, h2])

theorem Dev.holdStop_frame : OnlyRegs d (d.holdStop p why) (holdStopFlds p) := by
  unfold Dev.holdStop
  split
  · exact ((OnlyRegs.refl d _).puts _ (by simp [holdStopFlds])).hwBit _ _ (by simp [holdStopFlds])
  · exact OnlyRegs.refl d _

theorem Dev.holdStop_stopped (hp : p < 24) (hw : why < 32) (hheld : d.get H.rstHeld = 2)
    (hg : d.get (H.padGates p) = 1 ∨ d.get (H.padGates p) = 2) :
    (d.holdStop p why).HoldStopped p why (d.now + stopTicks (d.get (H.padSlew p)) + 1) := by
  have hkeys : ∀ p < 24, ([H.padGates p, H.padOff p, H.holdWhy p, H.holdKind p].map Fld.key).Nodup := by decide
  have hshown : ∀ p < 24, ∀ f ∈ [H.padGates p, H.padOff p, H.holdWhy p, H.holdKind p], f.key ≠ F.RST_HOLDSTOP_STOPPED.key := by
    decide
  have hval (f : Fld) (v : Nat) (hf : (f, v) ∈ [(H.padGates p, 3), (H.padOff p, d.now + stopTicks (d.get (H.padSlew p)) + 1),
      (H.holdWhy p, why), (H.holdKind p, 1)]) : (d.holdStop p why).get f = v % 2 ^ f.w := by
    rw [d.holdStop_held why hheld hg, Dev.hwBit_get_ne _ _ (hshown p hp f (List.mem_map_of_mem (f := Prod.fst) hf))]
    exact d.get_puts_mem hf (hkeys p hp)
  refine ⟨hval _ 3 (by simp), (hval _ why (by simp)).trans (Nat.mod_eq_of_lt hw), hval _ 1 (by simp), hval _ _ (by simp), ?_⟩
  rw [d.holdStop_held why hheld hg]
  exact Dev.putBit_getBit _ _ hp

end

/-- What a held port shows of a stop, and the slew held for it. -/
def heldFlds (q : Nat) : List Fld := [H.padGates q, H.padOff q, H.holdWhy q, H.holdKind q, H.padSlew q]

theorem holdStopFlds_apart {p q : Nat} (hp : p < 24) (hq : q < 24) (hpq : p ≠ q) :
    ∀ f ∈ heldFlds q, ∀ g ∈ holdStopFlds p, f.key ≠ g.key := by
  have hvar : ∀ q < 24, ∀ f ∈ heldFlds q,
      f.key / 4 % 4096 = q ∧ F.RST_HOLDSTOP_STOPPED.key < f.key := by decide
  have hpad : ∀ p < 24, ∀ g ∈ holdStopFlds p, g.key / 4 % 4096 = p ∨ g.key = F.RST_HOLDSTOP_STOPPED.key := by decide
  intro f hf g hg hk
  obtain ⟨hfq, hlt⟩ := hvar q hq f hf
  rcases hpad p hp g hg with h | h
  · exact hpq (h.symm.trans (hk ▸ hfq))
  · exact absurd (hk.trans h) (by omega)

/-- A stop of another held port leaves one that has begun as it is. -/
theorem Dev.HoldStopped.other {e : Dev} {p q why off n : Nat} (h : e.HoldStopped q why off) (hp : p < 24)
    (hq : q < 24) (hpq : p ≠ q) : (e.holdStop p n).HoldStopped q why off := by
  have hget : ∀ f ∈ heldFlds q, (e.holdStop p n).get f = e.get f := fun f hf =>
    (e.holdStop_frame n).1 f (holdStopFlds_apart hp hq hpq f hf)
  refine ⟨(hget _ (by simp [heldFlds])).trans h.gates, (hget _ (by simp [heldFlds])).trans h.cause, (hget _ (by simp [heldFlds])).trans h.kind,
    (hget _ (by simp [heldFlds])).trans h.off, ?_⟩
  unfold Dev.holdStop
  split
  · rw [Dev.getBit_hwBit _ F.RST_HOLDSTOP_STOPPED p hq]
    have hputs (v w x : Nat) : (e.puts [(H.padGates p, 3), (H.padOff p, v), (H.holdWhy p, w), (H.holdKind p, x)]).get
        F.RST_HOLDSTOP_STOPPED = e.get F.RST_HOLDSTOP_STOPPED := Dev.get_puts_ne e _ (by simp [hkey]; omega)
    rw [Dev.getBit, hputs, ← Dev.getBit, h.shown, Bool.or_true]
  · exact h.shown

/-- What the end of the hold time makes of a held port: a soft stop where its gates are on, and nothing otherwise. -/
structure Dev.HoldEnded (d : Dev) (q : Nat) (e : Dev) : Prop where
  stops : d.get (H.padGates q) = 1 ∨ d.get (H.padGates q) = 2 →
    e.HoldStopped q 22 (d.now + stopTicks (d.get (H.padSlew q)) + 1)
  stays : d.get (H.padGates q) ≠ 1 → d.get (H.padGates q) ≠ 2 →
    e.get (H.padGates q) = d.get (H.padGates q) ∧ e.get (H.holdWhy q) = d.get (H.holdWhy q)

/-- Every port that an L2 holds with its gates on is stopped when the hold time ends (R123). -/
theorem Dev.holdStops_end (d : Dev) (hheld : d.get H.rstHeld = 2) :
    ∀ q < 24, d.HoldEnded q (Dev.forN 24 (fun p e => e.holdStop p 22) d) := by
  have hglobal : ∀ p < 24, ∀ g ∈ holdStopFlds p, H.rstHeld.key ≠ g.key := by decide
  have hget {p q : Nat} (hp : p < 24) (hq : q < 24) (hpq : p ≠ q) (e : Dev) {f : Fld}
      (hf : f ∈ heldFlds q) : (e.holdStop p 22).get f = e.get f :=
    (e.holdStop_frame 22).1 f (holdStopFlds_apart hp hq hpq f hf)
  refine Dev.forN_each
    (Pre := fun q e => e.now = d.now ∧ e.get H.rstHeld = 2 ∧
      ∀ f ∈ heldFlds q, e.get f = d.get f)
    (Post := fun q e => d.HoldEnded q e) (fun q _ => ⟨rfl, hheld, fun _ _ => rfl⟩) (fun p hp q hq hpq e he => ?_)
    (fun q hq e he => ?_) fun p hp q hq hpq e he => ⟨fun hg => ?_, fun h1 h2 => ?_⟩
  · obtain ⟨hnow, hheld', hflds⟩ := he
    exact ⟨(e.holdStop_frame 22).now.trans hnow, ((e.holdStop_frame 22).1 _ (hglobal p hp)).trans hheld',
      fun f hf => (hget hp hq hpq e hf).trans (hflds f hf)⟩
  · obtain ⟨hnow, hheld', hflds⟩ := he
    have hgates := hflds (H.padGates q) (by simp [heldFlds])
    refine ⟨fun hg => ?_, fun h1 h2 => ?_⟩
    · rw [← hnow, ← hflds (H.padSlew q) (by simp [heldFlds])]
      exact e.holdStop_stopped 22 hq (by decide) hheld' (hgates ▸ hg)
    · rw [e.holdStop_not 22 (hgates ▸ h1) (hgates ▸ h2)]
      exact ⟨hgates, hflds _ (by simp [heldFlds])⟩
  · exact (he.stops hg).other hp hq hpq
  · obtain ⟨hgates, hwhy⟩ := he.stays h1 h2
    exact ⟨(hget hp hq hpq e (by simp [heldFlds])).trans hgates, (hget hp hq hpq e (by simp [heldFlds])).trans hwhy⟩

end Sys2Proof.Machine

/-!
The supply monitors and the backup domain (R75-R88), and the statement of the release, the hold and the supplies.
-/
namespace Sys2Proof.Machine

/-! ### A raise sets PEND (R479) -/

/-- A write of a variable leaves every register field alone: its key stands above theirs. -/
theorem Dev.get_put_variable (d : Dev) {f : Fld} (hf : f.key < hkey 0 0 0) (n i l w r v : Nat) :
    (d.put (Fld.mk (hkey n i l) w r) v).get f = d.get f :=
  Dev.get_put_ne d v (by simp only [hkey] at hf ⊢; omega)

/-- A raise's message, or its hold, writes no register field. -/
theorem Dev.postEvent_register (d : Dev) (s : Nat) {f : Fld} (hf : f.key < hkey 0 0 0) : (d.postEvent s).get f = d.get f := by
  unfold Dev.postEvent
  split
  · split
    · rw [Dev.clr, Dev.get_put_variable _ hf, Dev.hwEnqueue, Dev.inc, Dev.get_put_variable _ hf]
      rfl
    · rw [Dev.set1, Dev.get_put_variable _ hf]
  · rw [Dev.clr, Dev.get_put_variable _ hf]

theorem Dev.raise_pend (d : Dev) {s : Nat} (hs : s < 256) (hheld : d.get H.rstHeld < 2) : (d.raise s).pend s = true := by
  have hreg : (F.EVT_PEND_PEND (s / 32)).key < hkey 0 0 0 := by simp only [fkey, hkey]; omega
  unfold Dev.raise
  rw [if_neg (by omega)]
  dsimp only
  split
  · next h => rwa [Dev.pend, Dev.getBit, Dev.get_put_variable _ hreg]
  · unfold Dev.raiseNew
    rw [Dev.pend, Dev.getBit, Dev.postEvent_register _ s hreg]
    simp only [Dev.puts_cons, Dev.puts_nil, Dev.get_put_variable _ hreg]
    exact Dev.putBit_getBit _ (F.EVT_PEND_PEND (s / 32)) (show s % 32 < 32 by omega)

/-! ### Supply monitors (R79, R80) -/

/-- The three fields of a supply monitor: what its rail shows, its status and its sticky bit. -/
structure Monitor (pin stat sticky : Fld) : Prop where
  quiet : ∀ f ∈ [pin, stat, sticky], f.quiet = true
  oneBit : ∀ f ∈ [pin, stat, sticky], f.w = 1
  held : ∀ f ∈ [pin, stat, sticky], H.rstHeld.key ≠ f.key
  apart : pin.key ≠ stat.key ∧ pin.key ≠ sticky.key ∧ stat.key ≠ sticky.key

/-- What a change of status writes before its event is raised. -/
def Dev.supplyWritten (d : Dev) (pin stat sticky : Fld) (low : Bool) : Dev :=
  ((d.put pin (b2n low)).put stat (b2n low)).when low (·.hwSet sticky)

theorem Dev.bit_eq_iff (d : Dev) {f : Fld} (hw : f.w = 1) (b : Bool) : d.bit f = b ↔ d.get f = b2n b := by
  rw [d.bit_eq_decide hw]
  have hlt : d.get f < 2 := by simpa [hw] using d.get_lt f
  cases b with
  | true => simp [b2n]
  | false => simp [b2n]; omega

section
variable {pin stat sticky : Fld} (hm : Monitor pin stat sticky) (d : Dev) (low : Bool)
include hm

theorem Monitor.put_one {f : Fld} (hf : f ∈ [pin, stat, sticky]) (e : Dev) (b : Bool) : (e.put f (b2n b)).get f = b2n b := by
  rw [Dev.get_put_self, hm.oneBit f hf]
  cases b <;> rfl

theorem Dev.supplyWritten_get : (d.supplyWritten pin stat sticky low).get stat = b2n low ∧
    (d.supplyWritten pin stat sticky low).get pin = b2n low ∧
    (low = true → (d.supplyWritten pin stat sticky low).get sticky = 1) ∧
    ∀ f, (∀ g ∈ [pin, stat, sticky], f.key ≠ g.key) → (d.supplyWritten pin stat sticky low).get f = d.get f := by
  obtain ⟨hps, hpt, hst⟩ := hm.apart
  have hwhen {f : Fld} (hf : f.key ≠ sticky.key) : (d.supplyWritten pin stat sticky low).get f =
      ((d.put pin (b2n low)).put stat (b2n low)).get f := Dev.when_get _ low fun e => Dev.hwSet_get_ne e hf
  refine ⟨?_, ?_, fun hl => ?_, fun f hf => ?_⟩
  · rw [hwhen hst, hm.put_one (by simp)]
  · rw [hwhen hpt, Dev.get_put_ne _ _ hps, hm.put_one (by simp)]
  · rw [Dev.supplyWritten, Dev.when, if_pos hl, Dev.hwSet_self, hm.oneBit sticky (by simp)]
    rfl
  · rw [hwhen (hf _ (by simp)), Dev.get_put_ne _ _ (hf _ (by simp)), Dev.get_put_ne _ _ (hf _ (by simp))]

variable (hheld : d.get H.rstHeld < 2)
include hheld

theorem Dev.supplyBit_changes (hne : d.get stat ≠ b2n low) :
    d.supplyBit pin stat sticky low = (d.supplyWritten pin stat sticky low).raise 213 := by
  have hst : (d.put pin (b2n low)).get stat = d.get stat := Dev.get_put_ne d _ hm.apart.1.symm
  have hheld' : (d.put pin (b2n low)).get H.rstHeld = d.get H.rstHeld := Dev.get_put_ne d _ (hm.held pin (by simp))
  have hno : ¬((d.put pin (b2n low)).get H.rstHeld ≥ 2 ∨ (d.put pin (b2n low)).bit stat = low) := by
    rw [hheld', Dev.bit_eq_iff _ (hm.oneBit stat (by simp)), hst]
    omega
  exact if_neg hno

/-- A status that differs from its rail follows it, with event 213 and, at a fall, its sticky bit (R80). -/
theorem Dev.supplyBit_reports (hne : d.get stat ≠ b2n low) : (d.supplyBit pin stat sticky low).get stat = b2n low ∧
    (d.supplyBit pin stat sticky low).get pin = b2n low ∧ (d.supplyBit pin stat sticky low).pend 213 = true ∧
    (low = true → (d.supplyBit pin stat sticky low).get sticky = 1) := by
  have hraise {f : Fld} (hf : f ∈ [pin, stat, sticky]) (e : Dev) : (e.raise 213).get f = e.get f :=
    e.raise_get (by decide) (hm.quiet f hf)
  obtain ⟨hstat, hpin, hsticky, hrest⟩ := Dev.supplyWritten_get hm d low
  rw [Dev.supplyBit_changes hm d low hheld hne, hraise (by simp), hraise (by simp), hraise (by simp)]
  exact ⟨hstat, hpin, Dev.raise_pend _ (by decide) (by rwa [hrest _ hm.held]), hsticky⟩

/-- Changed or not, the status shows the rail afterwards, and the other quiet fields stand. -/
theorem Dev.supplyBit_follows : (d.supplyBit pin stat sticky low).get stat = b2n low ∧
    (d.supplyBit pin stat sticky low).get pin = b2n low ∧ ∀ f, f.quiet = true → (∀ g ∈ [pin, stat, sticky], f.key ≠ g.key) →
      (d.supplyBit pin stat sticky low).get f = d.get f := by
  by_cases hne : d.get stat = b2n low
  · have hst : (d.put pin (b2n low)).get stat = d.get stat := Dev.get_put_ne d _ hm.apart.1.symm
    have hsame : d.supplyBit pin stat sticky low = d.put pin (b2n low) :=
      if_pos (.inr ((Dev.bit_eq_iff _ (hm.oneBit stat (by simp)) low).2 (hst.trans hne)))
    rw [hsame]
    exact ⟨hst.trans hne, hm.put_one (by simp) d low, fun f _ hf => Dev.get_put_ne d _ (hf _ (by simp))⟩
  · obtain ⟨hstat, hpin, -, -⟩ := Dev.supplyBit_reports hm d low hheld hne
    refine ⟨hstat, hpin, fun f hq hf => ?_⟩
    rw [Dev.supplyBit_changes hm d low hheld hne, Dev.raise_get _ (by decide) hq]
    exact (Dev.supplyWritten_get hm d low).2.2.2 f hf

end

theorem Dev.supplyBit_txq (d : Dev) (pin stat sticky : Fld) (low : Bool) : (d.supplyBit pin stat sticky low).txq = d.txq := by
  unfold Dev.supplyBit
  dsimp only
  split
  · rfl
  · rw [Dev.raise_txq]
    unfold Dev.when
    split <;> rfl

theorem vinMonitor : Monitor H.vinLow F.SYS_SUPPLY_VINLOW F.SYS_SUPPLY_VINLOW_S :=
  ⟨by decide, by decide, by decide, by decide⟩
theorem vioMonitor : Monitor H.vioLow F.SYS_SUPPLY_VIOLOW F.SYS_SUPPLY_VIOLOW_S :=
  ⟨by decide, by decide, by decide, by decide⟩
theorem vconnMonitor : Monitor H.vconnLow F.SYS_SUPPLY_VCONNLOW F.SYS_SUPPLY_VCONNLOW_S :=
  ⟨by decide, by decide, by decide, by decide⟩

/-! ### VCONN low (R79) -/

/-- VCONN is low, no L2 or L3 is asserted, and no port has a message on SOP′ or SOP″ at the head of its queue. -/
structure Dev.VconnLost (e : Dev) : Prop where
  status : e.get F.SYS_SUPPLY_VCONNLOW = 1
  rail : e.get H.vconnLow = 1
  held : e.get H.rstHeld < 2
  heads : ∀ p < 24, ((e.txs p).map (·.sop)).headD 0 = 0

/-- What the loss of VCONN does to a port. -/
def Dev.vconnLost (e : Dev) (p : Nat) : Dev :=
  let e := if e.get H.rstHeld ≥ 2 then e else e.vconnOff p
  if ((e.txs p).map (·.sop)).headD 0 ≠ 0 then e.txArm p else e

theorem Dev.vconnlowChange_true (d : Dev) : d.vconnlowChange true = Dev.forN 24 (fun p e => e.vconnLost p)
    (d.supplyBit H.vconnLow F.SYS_SUPPLY_VCONNLOW F.SYS_SUPPLY_VCONNLOW_S true) := rfl

theorem Dev.VconnLost.step {e : Dev} (h : e.VconnLost) {p : Nat} (hp : p < 24) : e.vconnLost p = e.vconnOff p := by
  have hhead : ((e.vconnOff p).txs p).map (·.sop) = (e.txs p).map (·.sop) := rfl
  have hoff : (if e.get H.rstHeld ≥ 2 then e else e.vconnOff p) = e.vconnOff p := if_neg (Nat.not_le.2 h.held)
  unfold Dev.vconnLost
  dsimp only
  rw [hoff, hhead, h.heads p hp]
  rfl

/-- The fields by which a switch of VCONN shows, and its pad. -/
def vconnFlds (p : Nat) : List Fld := [F.PRT_ATT_STAT_VCONNON p, F.PRT_PE_STAT_VCSRC p, H.padVcon p]

theorem Dev.vconnOff_get (d : Dev) {p : Nat} {f : Fld} (hf : ∀ g ∈ vconnFlds p, f.key ≠ g.key) : (d.vconnOff p).get f = d.get f :=
  d.get_puts_apart hf rfl

theorem Dev.vconnOff_open (d : Dev) {p : Nat} (hp : p < 24) : ∀ f ∈ vconnFlds p, (d.vconnOff p).get f = 0 := by
  have hkeys : ∀ p < 24, ((vconnFlds p).map Fld.key).Nodup := by decide
  intro f hf
  have hmem : (f, 0) ∈ [(F.PRT_ATT_STAT_VCONNON p, 0), (F.PRT_PE_STAT_VCSRC p, 0), (H.padVcon p, 0)] := by
    simp only [vconnFlds, List.mem_cons, List.not_mem_nil, or_false] at hf
    rcases hf with rfl | rfl | rfl <;> simp
  exact (d.get_puts_mem hmem (hkeys p hp)).trans (Nat.zero_mod _)

/-- The loss of VCONN opens every switch. -/
theorem Dev.vconnLost_opens (d : Dev) (h : d.VconnLost) : (Dev.forN 24 (fun p e => e.vconnLost p) d).VconnLost ∧
    ∀ q < 24, ∀ f ∈ vconnFlds q, (Dev.forN 24 (fun p e => e.vconnLost p) d).get f = 0 := by
  have hother : ∀ p < 24, ∀ q < 24, p ≠ q → ∀ f ∈ vconnFlds q, ∀ g ∈ vconnFlds p, f.key ≠ g.key := by decide
  have hglobal : ∀ p < 24, ∀ f ∈ [F.SYS_SUPPLY_VCONNLOW, H.vconnLow, H.rstHeld], ∀ g ∈ vconnFlds p,
      f.key ≠ g.key := by decide
  have hstep (e : Dev) (he : e.VconnLost) (p : Nat) (hp : p < 24) : (e.vconnLost p).VconnLost := by
    rw [he.step hp]
    have hget (f : Fld) (hf : f ∈ [F.SYS_SUPPLY_VCONNLOW, H.vconnLow, H.rstHeld]) : (e.vconnOff p).get f = e.get f :=
      e.vconnOff_get (hglobal p hp f hf)
    exact ⟨(hget _ (by simp)).trans he.status, (hget _ (by simp)).trans he.rail, by rw [hget _ (by simp)]; exact he.held, he.heads⟩
  refine ⟨Dev.forN_inv (P := Dev.VconnLost) h fun p hp e he => hstep e he p hp, ?_⟩
  have hall := Dev.forN_each (n := 24) (g := fun p e => e.vconnLost p) (Pre := fun _ e => e.VconnLost)
    (Post := fun q e => e.VconnLost ∧ ∀ f ∈ vconnFlds q, e.get f = 0) (d := d) (fun _ _ => h)
    (fun p hp _ _ _ e he => hstep e he p hp) (fun q hq e he => ⟨hstep e he q hq, ?_⟩)
    fun p hp q hq hpq e he => ⟨hstep e he.1 p hp, fun f hf => ?_⟩
  · exact fun q hq => (hall q hq).2
  · rw [he.step hq]
    exact e.vconnOff_open hq
  · rw [he.1.step hp, e.vconnOff_get (hother p hp q hq hpq f hf)]
    exact he.2 f hf

theorem Dev.vconnlowChange_opens (d : Dev) (hheld : d.get H.rstHeld < 2)
    (hheads : ∀ p < 24, ((d.txs p).map (·.sop)).headD 0 = 0) : (d.vconnlowChange true).VconnLost ∧
      ∀ q < 24, ∀ f ∈ vconnFlds q, (d.vconnlowChange true).get f = 0 := by
  obtain ⟨hstat, hpin, hrest⟩ := Dev.supplyBit_follows vconnMonitor d true hheld
  rw [d.vconnlowChange_true]
  refine Dev.vconnLost_opens _ ⟨hstat, hpin, ?_, fun p hp => ?_⟩
  · rwa [hrest _ (by decide) (by decide)]
  · rw [Dev.txs, Dev.supplyBit_txq]
    exact hheads p hp

/-! ### The backup domain (R87) -/

/-- The four fields of cause record i. -/
def causeFlds (i : Nat) : List Fld := [F.RST_CAUSE_CNT i, F.RST_CAUSE_ALSO i, F.RST_CAUSE_LEVEL i, F.RST_CAUSE_SOURCE i]

/-- The cause records and the retained words are cleared, one after another. -/
def Dev.backupCleared (d : Dev) : Dev :=
  Dev.forN 16 (fun i e => e.put (F.SYS_BAK_RET_DATA i) 0) (Dev.forN 4 (fun i e => e.puts [(F.RST_CAUSE_CNT i, 0),
    (F.RST_CAUSE_ALSO i, 0), (F.RST_CAUSE_LEVEL i, 0), (F.RST_CAUSE_SOURCE i, 0)]) d)

theorem Dev.backupCleared_ret (d : Dev) : ∀ i < 16, d.backupCleared.get (F.SYS_BAK_RET_DATA i) = 0 := by
  have hne : ∀ i < 16, ∀ j < 16, i ≠ j → (F.SYS_BAK_RET_DATA j).key ≠ (F.SYS_BAK_RET_DATA i).key := by decide
  exact Dev.forN_sets _ (fun i _ e => Dev.get_put_self e (F.SYS_BAK_RET_DATA i) 0)
    fun i hi j hj hij e => Dev.get_put_ne e 0 (hne i hi j hj hij)

theorem Dev.backupCleared_cause (d : Dev) : ∀ i < 4, ∀ f ∈ causeFlds i, d.backupCleared.get f = 0 := by
  have hnd : ∀ i < 4, ((causeFlds i).map Fld.key).Nodup := by decide
  have hne : ∀ i < 4, ∀ j < 4, i ≠ j → ∀ f ∈ causeFlds j, ∀ g ∈ causeFlds i, f.key ≠ g.key := by decide
  have hret : ∀ j < 4, ∀ f ∈ causeFlds j, ∀ i < 16, f.key ≠ (F.SYS_BAK_RET_DATA i).key := by decide
  have hloop := Dev.forN_each (n := 4) (g := fun i e => e.puts [(F.RST_CAUSE_CNT i, 0), (F.RST_CAUSE_ALSO i, 0),
    (F.RST_CAUSE_LEVEL i, 0), (F.RST_CAUSE_SOURCE i, 0)]) (Pre := fun _ _ => True)
    (Post := fun i e => ∀ f ∈ causeFlds i, e.get f = 0) (d := d) (fun _ _ => trivial) (fun _ _ _ _ _ _ _ => trivial)
    (fun i hi e _ f hf => ?_) fun i hi j hj hij e he f hf => ?_
  · intro i hi f hf
    exact (Dev.forN_get _ fun j hj e => Dev.get_put_ne e 0 (hret i hi f hf j hj)).trans (hloop i hi f hf)
  · have hmem : (f, 0) ∈ [(F.RST_CAUSE_CNT i, 0), (F.RST_CAUSE_ALSO i, 0), (F.RST_CAUSE_LEVEL i, 0), (F.RST_CAUSE_SOURCE i, 0)] := by
      simp only [causeFlds, List.mem_cons, List.not_mem_nil, or_false] at hf
      rcases hf with rfl | rfl | rfl | rfl <;> simp
    exact (e.get_puts_mem hmem (hnd i hi)).trans (Nat.zero_mod _)
  · exact (e.get_puts_apart (hne i hi j hj hij f hf) rfl).trans (he f hf)

/-- What the loss of the backup domain leaves as its marks: the count of resets, BAKLOST and TAMPER. -/
def bakMarkFlds : List Fld := [F.RST_CNT_COUNT, F.SYS_BAK_STAT_BAKLOST, F.SYS_BAK_STAT_TAMPER]

theorem Dev.backupLost_get (d : Dev) {f : Fld} (hf : ∀ g ∈ bakMarkFlds, f.key ≠ g.key) :
    d.backupLost.get f = d.backupCleared.get f := d.backupCleared.get_puts_apart hf rfl

theorem Dev.backupLost_marks (d : Dev) : d.backupLost.get F.RST_CNT_COUNT = 0 ∧ d.backupLost.get F.SYS_BAK_STAT_BAKLOST = 1 ∧
    d.backupLost.get F.SYS_BAK_STAT_TAMPER = 1 := by
  have hval (f : Fld) (v : Nat) (hf : (f, v) ∈ [(F.RST_CNT_COUNT, 0), (F.SYS_BAK_STAT_BAKLOST, 1), (F.SYS_BAK_STAT_TAMPER, 1)]) :
      d.backupLost.get f = v % 2 ^ f.w := d.backupCleared.get_puts_mem hf (by decide : (bakMarkFlds.map Fld.key).Nodup)
  exact ⟨hval _ 0 (by simp), hval _ 1 (by simp), hval _ 1 (by simp)⟩

/-! ### The release of an L1 (R112) -/

/-- The device after the release of an L1. -/
def Dev.l1Released (d : Dev) : Dev := d.causePush.rstOver.release1

theorem Dev.l1Released_get (d : Dev) {f : Fld} (hq : f.quiet = true) (h0 : f.key % 4 = 0) (hf : ∀ g ∈ rstFlds, f.key ≠ g.key) :
    d.l1Released.get f = d.causePush.get f := by
  unfold Dev.l1Released
  rw [Dev.release1_get _ hq h0, Dev.rstOver_get _ hf]

theorem Dev.l1Released_cause (d : Dev) : ∀ i < 4, ∀ f ∈ causeFlds i, d.l1Released.get f = d.causePush.get f := by
  have hrecords : ∀ i < 4, ∀ f ∈ causeFlds i, f.quiet = true ∧ f.key % 4 = 0 := by decide
  have hapart : ∀ i < 4, ∀ f ∈ causeFlds i, ∀ g ∈ rstFlds, f.key ≠ g.key := by decide
  exact fun i hi f hf => d.l1Released_get (hrecords i hi f hf).1 (hrecords i hi f hf).2 (hapart i hi f hf)

theorem Dev.l1Released_over (d : Dev) : d.l1Released.get H.rstHeld = 0 := by
  unfold Dev.l1Released
  rw [Dev.release1_get _ (by decide) (by decide), Dev.rstOver_held]

theorem Dev.l1Released_c0 (d : Dev) (hm : d.mode ≠ 3) : d.l1Released.coreState 0 = 1 ∧ d.l1Released.pcOf 0 = 0x10000 := by
  have hmode : d.causePush.rstOver.mode = d.mode := by
    rw [← d.causePush_mode, Dev.mode, Dev.mode, Dev.rstOver_get _ (by decide)]
  unfold Dev.l1Released
  exact Dev.release1_c0 _ (by rwa [hmode])

/-- The older cause records stand one place further down. -/
theorem Dev.l1Released_moves (d : Dev) {i : Nat} (hi : i < 3) :
    d.l1Released.get (F.RST_CAUSE_SOURCE (i + 1)) = d.get (F.RST_CAUSE_SOURCE i) ∧
    d.l1Released.get (F.RST_CAUSE_LEVEL (i + 1)) = d.get (F.RST_CAUSE_LEVEL i) ∧
    d.l1Released.get (F.RST_CAUSE_ALSO (i + 1)) = d.get (F.RST_CAUSE_ALSO i) ∧
    d.l1Released.get (F.RST_CAUSE_CNT (i + 1)) = d.get (F.RST_CAUSE_CNT i) := by
  have hcause := d.l1Released_cause (i + 1) (by omega)
  simp only [causeFlds, List.forall_mem_cons] at hcause
  obtain ⟨hc, ha, hl, hs, -⟩ := hcause
  rw [hc, ha, hl, hs]
  exact d.causePush_moves hi

/-- The newest cause record, and the count of resets (R112). -/
theorem Dev.l1Released_record (d : Dev) (hheld : d.get H.rstHeld = 1) :
    d.l1Released.get F.RST_CNT_COUNT = min 16777215 (d.get F.RST_CNT_COUNT + 1) ∧
    d.l1Released.get (F.RST_CAUSE_LEVEL 0) = 1 ∧ d.l1Released.get (F.RST_CAUSE_SOURCE 0) = d.rstCode ∧
    d.l1Released.get (F.RST_CAUSE_ALSO 0) = d.rstAlso := by
  have hcause := d.l1Released_cause 0 (by decide)
  simp only [causeFlds, List.forall_mem_cons] at hcause
  obtain ⟨-, ha, hl, hs, -⟩ := hcause
  rw [d.l1Released_get (by decide) (by decide) (by decide), ha, hl, hs]
  obtain ⟨hcnt, hlevel, hsource, halso⟩ := d.causePush_record
  exact ⟨hcnt, hlevel.trans hheld, hsource, halso⟩

/-! ### The statement -/

/-- Settles O46: each command runs the step of the device that its clause names, and what that step writes is read off there. -/
theorem releaseHoldAndSuppliesComplete : Obligations.ReleaseHoldAndSuppliesComplete := by
  unfold Obligations.ReleaseHoldAndSuppliesComplete
  refine ⟨fun s m0 m1 m2 m3 o x => ⟨?none, ?level1, ?level23⟩, fun s p hheld => ⟨?hold, ?detach, ?low, ?hardReset⟩,
    fun s low hheld => ⟨?vin, ?vio, ?vconn⟩, fun s => ⟨?lost, ?glitch⟩⟩
  case none =>
    intro hheld
    exact congrArg Host.Outcome.next (s.release_none _ o x hheld)
  case level1 =>
    intro hheld hm
    obtain ⟨hstate, hpc⟩ := s.dev.l1Released_c0 hm
    obtain ⟨hcnt, hlevel, hsource, halso⟩ := s.dev.l1Released_record hheld
    exact EndsDev.of_next (congrArg Host.Outcome.next (s.release_one _ o x hheld))
      ⟨s.dev.l1Released_over, hstate, hpc, hcnt, hlevel, hsource, halso, fun i => s.dev.l1Released_moves i.isLt⟩
  case level23 =>
    intro hheld
    obtain ⟨d, hd⟩ := s.release_memory [m0.toNat, m1.toNat, m2.toNat, m3.toNat] o x hheld
    exact ⟨_, congrArg Host.Outcome.next hd, rfl, rfl, rfl⟩
  case hold =>
    intro ht
    have hkeys : ∀ p < 24, ∀ g ∈ holdStopFlds p, T.hold.key ≠ g.key := by decide
    have hstop : ∀ q < 24, ∀ f ∈ [H.padGates q, H.padSlew q, H.holdWhy q], f.key ≠ T.hold.key := by decide
    have hexp : s.dev.onExpiry T.hold (fun e => Dev.forN 24 (fun p f => f.holdStop p 22) e) =
        Dev.forN 24 (fun p f => f.holdStop p 22) (s.dev.stop T.hold) := if_pos (by simpa [Dev.armed] using ht)
    refine EndsDev.of_next (next_congr hexp) ⟨?_, fun q => ?_⟩
    · rw [Dev.forN_get _ fun p hp e => (e.holdStop_frame 22).1 _ (hkeys p hp)]
      exact Dev.get_put_self s.dev T.hold 0
    · have hget {f : Fld} (hf : f ∈ [H.padGates q.val, H.padSlew q.val, H.holdWhy q.val]) :
          (s.dev.stop T.hold).get f = s.dev.get f := Dev.get_put_ne s.dev 0 (hstop q.val q.isLt f hf)
      obtain ⟨hstops, hstays⟩ := (s.dev.stop T.hold).holdStops_end ((Dev.get_put_ne s.dev 0 (by decide)).trans hheld) q.val q.isLt
      rw [hget (by simp)] at hstops hstays
      rw [hget (by simp)] at hstops hstays
      refine ⟨fun hg => ?_, hstays⟩
      obtain ⟨hgates, hwhy, hkind, hoff, hshown⟩ := hstops hg
      exact ⟨hgates, hwhy, hkind, hoff, hshown⟩
  case detach =>
    intro i hg hi
    obtain ⟨hgates, hwhy, hkind, -, hshown⟩ := s.dev.holdStop_stopped 23 p.isLt (by decide) hheld hg
    exact EndsDev.of_next (next_congr (if_pos hi)) ⟨hgates, hwhy, hkind, hshown, s.dev.holdStop_frame 23⟩
  case low =>
    intro i hi
    exact next_congr (if_neg (Nat.not_lt.2 hi))
  case hardReset =>
    have hin : s.dev.inHold = true := by simp [Dev.inHold, hheld]
    exact EndsDev.of_next (next_congr (if_pos hin)) ⟨Dev.get_put_self s.dev (H.holdHr p.val) 1,
      (OnlyRegs.refl _ _).put _ _ (by simp)⟩
  case vin =>
    exact fun hne => EndsDev.of_next rfl (Dev.supplyBit_reports vinMonitor s.dev low hheld hne)
  case vio =>
    exact fun hne => EndsDev.of_next rfl (Dev.supplyBit_reports vioMonitor s.dev low hheld hne)
  case vconn =>
    intro hheads
    obtain ⟨hlost, hopen⟩ := s.dev.vconnlowChange_opens hheld fun q hq => hheads ⟨q, hq⟩
    exact EndsDev.of_next rfl ⟨hlost.status, hlost.rail, fun q => ⟨hopen q.val q.isLt _ (by simp [vconnFlds]),
      hopen q.val q.isLt _ (by simp [vconnFlds])⟩⟩
  case lost =>
    have hret : ∀ i < 16, ∀ g ∈ bakMarkFlds,
        (F.SYS_BAK_RET_DATA i).key ≠ g.key := by decide
    have hcause : ∀ i < 4, ∀ f ∈ causeFlds i, ∀ g ∈ bakMarkFlds,
        f.key ≠ g.key := by decide
    have hzero (i : Fin 4) {f : Fld} (hf : f ∈ causeFlds i.val) : s.dev.backupLost.get f = 0 :=
      (s.dev.backupLost_get (hcause i.val i.isLt f hf)).trans (s.dev.backupCleared_cause i.val i.isLt f hf)
    obtain ⟨hcnt, hlost, htamper⟩ := s.dev.backupLost_marks
    exact EndsDev.of_next (e := s.dev.backupLost) rfl ⟨hcnt, hlost, htamper,
      fun i => (s.dev.backupLost_get (hret i.val i.isLt)).trans (s.dev.backupCleared_ret i.val i.isLt),
      fun i => ⟨hzero i (by simp [causeFlds]), hzero i (by simp [causeFlds]), hzero i (by simp [causeFlds]),
        hzero i (by simp [causeFlds])⟩⟩
  case glitch =>
    exact EndsDev.of_next rfl ⟨Dev.get_put_self s.dev F.SYS_BAK_STAT_TAMPER 1, (OnlyRegs.refl _ _).put _ _ (by simp)⟩

end Sys2Proof.Machine

/-!
The time base (R131, R132, R141, R146-R148). First a frame by quiet fields for what a close of the meters' segments, a record of the
Ledger engine and a snapshot write; then the reads, writes and wraps of TB.
-/
namespace Sys2Proof.Machine

/-! ### Quiet fields that stand -/

/-- No quiet field but those of a list differs between two device parts. -/
def OnlyQuiet (d e : Dev) (l : List Fld) : Prop :=
  ∀ f : Fld, f.quiet = true → (∀ g ∈ l, f.key ≠ g.key) → e.get f = d.get f

section
variable {d e g : Dev} {l : List Fld}

theorem OnlyQuiet.refl (d : Dev) (l : List Fld) : OnlyQuiet d d l := fun _ _ _ => rfl

theorem OnlyQuiet.trans (h : OnlyQuiet d e l) (k : OnlyQuiet e g l) : OnlyQuiet d g l :=
  fun f hq hf => (k f hq hf).trans (h f hq hf)

theorem OnlyQuiet.mono {m : List Fld} (h : OnlyQuiet d e l) (hs : ∀ f ∈ l, f ∈ m) : OnlyQuiet d e m :=
  fun f hq hf => h f hq fun g hg => hf g (hs g hg)

/-- A change of the tables alone. -/
theorem OnlyQuiet.tables (h : OnlyQuiet d e l) (hr : g.regs = e.regs) : OnlyQuiet d g l :=
  fun f hq hf => (Dev.get_of_regs hr).trans (h f hq hf)

theorem OnlyQuiet.put (h : OnlyQuiet d e l) {f : Fld} (v : Nat) (hf : f ∈ l) : OnlyQuiet d (e.put f v) l :=
  fun x hq hx => (Dev.get_put_ne e v (hx f hf)).trans (h x hq hx)

theorem OnlyQuiet.stop (h : OnlyQuiet d e l) {f : Fld} (hf : f ∈ l) : OnlyQuiet d (e.stop f) l := h.put 0 hf

theorem OnlyQuiet.arm (h : OnlyQuiet d e l) {f : Fld} (n : Nat) (hf : f ∈ l) : OnlyQuiet d (e.arm f n) l := h.put _ hf

theorem OnlyQuiet.puts (h : OnlyQuiet d e l) {ws : List (Fld × Nat)} (hw : ∀ w ∈ ws, w.1 ∈ l) : OnlyQuiet d (e.puts ws) l :=
  fun x hq hx => (Dev.get_puts_ne e ws fun w hw' => hx w.1 (hw w hw')).trans (h x hq hx)

theorem OnlyQuiet.hwSet (h : OnlyQuiet d e l) {f : Fld} (hf : f ∈ l) : OnlyQuiet d (e.hwSet f) l :=
  fun x hq hx => (Dev.hwSet_get_ne e (hx f hf)).trans (h x hq hx)

theorem OnlyQuiet.raise (h : OnlyQuiet d e l) {s : Nat} (hs : s < 256) : OnlyQuiet d (e.raise s) l :=
  fun x hq hx => (e.raise_get hs hq).trans (h x hq hx)

theorem OnlyQuiet.wake (h : OnlyQuiet d e l) (b : Nat) : OnlyQuiet d (e.wake b) l :=
  fun x hq hx => (e.wake_get b hq).trans (h x hq hx)

theorem OnlyQuiet.event (h : OnlyQuiet d e l) {evt ie : Fld} {s : Nat} (hs : s < 256) (he : evt ∈ l) :
    OnlyQuiet d (e.event evt ie s) l :=
  fun x hq hx => (e.event_get evt ie hs hq (hx evt he)).trans (h x hq hx)

theorem OnlyQuiet.pump (h : OnlyQuiet d e l) (hl : ∀ f ∈ pumpFlds, f ∈ l) : OnlyQuiet d e.pump l :=
  fun x hq hx => (e.pump_get fun f hf => hx f (hl f hf)).trans (h x hq hx)

theorem OnlyQuiet.ite {c : Prop} [Decidable c] (h : OnlyQuiet d e l) (k : OnlyQuiet d g l) :
    OnlyQuiet d (if c then e else g) l := by
  split
  · exact h
  · exact k

theorem OnlyQuiet.forN {n : Nat} {step : Nat → Dev → Dev} (h : OnlyQuiet d e l)
    (hs : ∀ i < n, ∀ e, OnlyQuiet e (step i e) l) : OnlyQuiet d (Dev.forN n step e) l :=
  Dev.forN_inv (P := fun x => OnlyQuiet d x l) h fun i hi x hx => hx.trans (hs i hi x)

end

theorem OnlyRegs.quiet {d e : Dev} {l : List Fld} (h : OnlyRegs d e l) : OnlyQuiet d e l := fun f _ hf => h.1 f hf

/-! ### Records of the Ledger engine -/

/-- What a record writes: a page program, the block that opens for it, its staging, and the block that it fills. -/
def recordFlds : List Fld :=
  pumpFlds ++ [H.stgLed, T.commit, H.lgrChain, F.LGR_STAT_OPEN, F.LGR_STAT_NREC, H.lgrOpenE, H.lgrOpenT, H.lgrFirst, T.blkAge,
    F.LGR_BSEQ_BSEQ, F.LGR_STAT_SIGNING, T.sign]

theorem pumpFlds_recordFlds : ∀ f ∈ pumpFlds, f ∈ recordFlds := fun _ hf => List.mem_append_left _ hf

theorem Dev.stageSlot_writes (d : Dev) (b : List Nat) : OnlyQuiet d (d.stageSlot b) recordFlds := by
  have hs : OnlyQuiet d { d.set1 H.stgLed with staged := d.staged ++ [⟨d.now, b⟩] } recordFlds :=
    OnlyQuiet.tables (e := d.put H.stgLed 1) ((OnlyQuiet.refl d _).put 1 (by simp [recordFlds])) rfl
  exact OnlyQuiet.ite hs (OnlyQuiet.put hs _ (by simp [recordFlds]))

theorem Dev.blockOpen_writes (d : Dev) : OnlyQuiet d d.blockOpen recordFlds :=
  OnlyQuiet.ite (.refl d _)
    (OnlyQuiet.put (OnlyQuiet.puts (d.stageSlot_writes _) (by simp [recordFlds])) _ (by simp [recordFlds]))

theorem Dev.blockClose_writes (d : Dev) (cause : Nat) (recovered : Bool) :
    OnlyQuiet d (d.blockClose cause recovered) recordFlds := by
  have hsign {e : Dev} (h : OnlyQuiet d e recordFlds) :
      OnlyQuiet d (if e.armed T.sign then e else e.arm T.sign (msTicks 15)) recordFlds :=
    h.ite (h.arm _ (by simp [recordFlds]))
  have hstage (a : List Nat) : OnlyQuiet d (((d.stageSlot (slotOf a)).stageSlot []).stageSlot []) recordFlds :=
    ((d.stageSlot_writes _).trans (Dev.stageSlot_writes _ [])).trans (Dev.stageSlot_writes _ [])
  unfold Dev.blockClose
  split
  · exact .refl d _
  · refine OnlyQuiet.pump (hsign ?_) pumpFlds_recordFlds
    refine OnlyQuiet.stop ?_ (by simp [recordFlds])
    refine OnlyQuiet.puts ?_ (by simp [recordFlds, pumpFlds])
    exact (hstage (d.trailerA cause recovered)).tables rfl

theorem Dev.addRecord_writes (d : Dev) (b53 : List Nat) : OnlyQuiet d (d.addRecord b53) recordFlds := by
  have hstaged (b : List Nat) (x y : Nat) :
      OnlyQuiet d ((d.blockOpen.stageSlot b).puts [(H.lgrChain, x), (F.LGR_STAT_NREC, y)]) recordFlds :=
    OnlyQuiet.puts (d.blockOpen_writes.trans (Dev.stageSlot_writes _ b)) (by simp [recordFlds])
  exact OnlyQuiet.ite ((hstaged _ _ _).trans (Dev.blockClose_writes _ 1 false)) (OnlyQuiet.pump (hstaged _ _ _) pumpFlds_recordFlds)

/-! ### Closes of the meters' segments -/

/-- What a close writes of meter p. -/
def segFlds (p : Nat) : List Fld := F.MTR_STAT_OPEN p :: segOpenFlds p ++ segEndFlds p

theorem Dev.segOpen_writes (d : Dev) (p : Nat) : OnlyQuiet d (d.segOpen p) (segFlds p) := by
  have hfull {e : Dev} (h : OnlyQuiet d e (segFlds p)) : OnlyQuiet d (e.segFullCheck p) (segFlds p) :=
    OnlyQuiet.ite (OnlyQuiet.put h _ (by simp [segFlds, segOpenFlds])) h
  exact hfull (OnlyQuiet.puts (.refl d _) (by simp [segFlds, segOpenFlds]))

theorem Dev.segNone_writes (d : Dev) (p : Nat) : OnlyQuiet d (d.segNone p) (segFlds p) :=
  OnlyQuiet.puts (.refl d _) (by simp [segFlds, segEndFlds])

theorem Dev.segQueue_writes (d : Dev) {p : Nat} (hp : p < 24) (g : Seg) : OnlyQuiet d (d.segQueue p g) (segFlds p) := by
  have hkeep (q : List Seg) : OnlyQuiet d (d.setSegs p q) (segFlds p) := (OnlyQuiet.refl d _).tables rfl
  have hnext (q : List Seg) : OnlyQuiet d ((d.setSegs p q).inc (F.MTR_STAT_SER p)) (segFlds p) :=
    OnlyQuiet.put (hkeep q) _ (by simp [segFlds, segEndFlds])
  unfold Dev.segQueue
  dsimp only
  split
  · refine OnlyQuiet.ite ?_ (hnext _)
    exact OnlyQuiet.event (OnlyQuiet.puts (hkeep _) (by simp [segFlds, segEndFlds])) (by omega) (by simp [segFlds, segEndFlds])
  · exact hnext _

theorem Dev.segJoin_writes (d : Dev) (p reason dit : Nat) (reopen : Bool) (l : Seg) :
    OnlyQuiet d (d.segJoin p reason dit reopen l) (segFlds p) := by
  have hword (q : List Seg) (v : Nat) : OnlyQuiet d ((d.setSegs p q).put (F.MTR_LSEGW0_WORD0 p) v) (segFlds p) :=
    OnlyQuiet.put ((OnlyQuiet.refl d _).tables rfl) v (by simp [segFlds, segEndFlds])
  have hcarry {e : Dev} (h : OnlyQuiet d e (segFlds p)) (x y : Nat) :
      OnlyQuiet d (e.puts [(H.mtrCarryI p, x), (H.mtrCarryE p, y)]) (segFlds p) := h.puts (by simp [segFlds, segEndFlds])
  exact OnlyQuiet.ite (OnlyQuiet.ite ((hcarry (hword _ _) _ _).trans (Dev.segOpen_writes _ p))
    ((hcarry (hword _ _) _ _).trans (Dev.segNone_writes _ p))) (hword _ _)

theorem Dev.segEnd_writes (d : Dev) {p : Nat} (hp : p < 24) (reason dit : Nat) :
    OnlyQuiet d (d.segEnd p reason dit) (segFlds p) := by
  have hput {e : Dev} (h : OnlyQuiet d e (segFlds p)) (x y z : Nat) :
      OnlyQuiet d (e.puts [(F.MTR_LSEGW0_WORD0 p, x), (H.mtrLI p, y), (H.mtrLE p, z)]) (segFlds p) :=
    h.puts (by simp [segFlds, segEndFlds])
  exact OnlyQuiet.event ((hput (d.segQueue_writes hp _) _ _ _).trans (Dev.segNone_writes _ p)) (by omega)
    (by simp [segFlds, segEndFlds])

/-- A close writes no quiet field but those of its own meter. -/
theorem Dev.segClose_writes (d : Dev) {p : Nat} (hp : p < 24) (reason : Nat) (reopen : Bool) :
    OnlyQuiet d (d.segClose p reason reopen) (segFlds p) := by
  have hdit {e : Dev} (h : OnlyQuiet d e (segFlds p)) (c : Bool) :
      OnlyQuiet d (e.when c (·.mtrEvt p (F.MTR_EVT_DIT p))) (segFlds p) :=
    OnlyQuiet.ite (OnlyQuiet.event h (by omega) (by simp [segFlds, segEndFlds])) h
  have hopen {e : Dev} (h : OnlyQuiet d e (segFlds p)) : OnlyQuiet d (e.when reopen (·.segOpen p)) (segFlds p) :=
    OnlyQuiet.ite (h.trans (e.segOpen_writes p)) h
  unfold Dev.segClose
  dsimp only
  split
  · exact hdit (d.segJoin_writes p reason _ reopen _) _
  · exact OnlyQuiet.ite (.refl d _) (hdit (hopen (d.segEnd_writes hp reason _)) _)

/-- What the closes of every meter write. -/
def segsFlds : List Fld := (List.range 24).flatMap segFlds

theorem Dev.segCloseAll_writes (d : Dev) (reason : Nat) (reopen : Bool) : OnlyQuiet d (d.segCloseAll reason reopen) segsFlds :=
  (OnlyQuiet.refl d _).forN fun p hp e => (e.segClose_writes hp reason reopen).mono fun _ hf =>
    List.mem_flatMap.2 ⟨p, List.mem_range.2 hp, hf⟩

/-! ### Fields of Meridian -/

/-- The variables of Meridian, by number: the lap, the balls and the capture inputs (26 to 32), the channel that last drove a ball
(68), the capture filters and the latest firings (361 to 367), and the timers of pulses and of STUCKTO (2001, 2002). -/
def meridianVars : List Nat := [26, 27, 28, 29, 30, 31, 32, 68, 361, 362, 363, 364, 365, 366, 367, 2001, 2002]

/-- A register field of this chapter, or a variable of Meridian. -/
def Fld.meridian (f : Fld) : Bool := isMeridian (f.key / 4096) || meridianVars.contains (f.key / 16384 - 4194304)

theorem meridian_ne {f g : Fld} (hf : f.meridian = true) (hg : g.meridian = false) : f.key ≠ g.key := by
  intro h
  have : f.meridian = g.meridian := by simp only [Fld.meridian, h]
  rw [hf, hg] at this
  cases this

theorem Fld.quiet_of_meridian {f : Fld} (hf : f.meridian = true) : f.quiet = true := by
  have hne : f.key ≠ F.STO_EVT_LOGDROP.key := meridian_ne hf (by decide)
  simp only [Fld.meridian, isMeridian, meridianVars, Bool.or_eq_true, Bool.and_eq_true, decide_eq_true_eq,
    List.contains_iff_mem, List.mem_cons, List.not_mem_nil, or_false] at hf
  simp only [Fld.quiet, Bool.and_eq_true, Bool.not_eq_true', Bool.and_eq_false_iff, bne_iff_ne, decide_eq_false_iff_not, ne_eq,
    List.contains_eq_mem, List.mem_cons, List.not_mem_nil, or_false]
  refine ⟨⟨⟨⟨?_, ?_⟩, ?_⟩, hne⟩, ?_⟩ <;> omega

theorem OnlyQuiet.meridian {d e : Dev} {l : List Fld} {f : Fld} (h : OnlyQuiet d e l) (hl : ∀ g ∈ l, g.meridian = false)
    (hf : f.meridian = true) : e.get f = d.get f :=
  h f (Fld.quiet_of_meridian hf) fun g hg => meridian_ne hf (hl g hg)

/-- Neither a record nor a close of segments writes a field of Meridian. -/
theorem recordFlds_not_meridian : ∀ g ∈ recordFlds, g.meridian = false := by decide

theorem segFlds_not_meridian : ∀ p < 24, ∀ g ∈ segFlds p, g.meridian = false := by decide

theorem segsFlds_not_meridian : ∀ g ∈ segsFlds, g.meridian = false := fun g hg => by
  obtain ⟨p, hp, hg⟩ := List.mem_flatMap.1 hg
  exact segFlds_not_meridian p (List.mem_range.1 hp) g hg

theorem Dev.merEvt_get (d : Dev) (ie : Fld) {f : Fld} (hf : f.quiet = true) : (d.merEvt ie).get f = d.get f := by
  unfold Dev.merEvt
  split
  · exact d.raise_get (by decide) hf
  · rfl

/-! ### Commits -/

section
variable {s : State} (a : Agent) (addr v : Nat) (f : Dev → Dev)

/-- With no decision of Meridian waiting, a write of its registers acts at once (R139). -/
theorem State.commitRow_acts (h : s.pending.any meridianDecision = false) : s.commitRow a addr v f = s.ok f :=
  if_neg (by simp [h])

/-- Where one waits, the write is kept to commit after it (R139). -/
theorem State.commitRow_waits (h : s.pending.any meridianDecision = true) :
    s.commitRow a addr v f = s.ok (fun d => { d with commits := d.commits ++ [⟨d.now, a, addr, v⟩] }) := if_pos h

end

theorem State.ok_onDev (s : State) (g f : Dev → Dev) : (s.onDev g).ok f = s.ok (fun d => f (g d)) := rfl

theorem Agent.isHost_of_not_C0orHost {a : Agent} (h : a.isC0orHost = false) : a.isHost = false := by
  simp only [Agent.isC0orHost, Bool.or_eq_false_iff] at h
  exact h.2

theorem Dev.touch_of_not_host (d : Dev) {a : Agent} (h : a.isHost = false) : d.touch a = d := if_neg (by simp [h])

section
variable {s : State} (a : Agent) (v : Word)

theorem exec_tbRldWrite_acts (h : s.pending.any meridianDecision = false) :
    exec (.tbRldWrite a v) s = s.ok (fun d => (d.touch a).rldWrite a v.toNat) :=
  (State.commitRow_acts (s := s.onDev (·.touch a)) a 0x200083 v.toNat (·.rldWrite a v.toNat) h).trans (s.ok_onDev _ _)

theorem exec_tbEpsetWrite_acts (h : s.pending.any meridianDecision = false) :
    exec (.tbEpsetWrite a v) s = s.ok (fun d => (d.touch a).epsetWrite a v.toNat) :=
  (State.commitRow_acts (s := s.onDev (·.touch a)) a 0x200084 v.toNat (·.epsetWrite a v.toNat) h).trans (s.ok_onDev _ _)

end

/-! ### Reads and writes of the time base -/

theorem Dev.tbRead_returned (d : Dev) (a : Agent) : (Dev.returned (d.tbRead a) a).get (H.rdata a.copy) = d.tb ∧
    (Dev.returned (d.tbRead a) a).get (F.TB_EPL_EPL a.copy) = d.epoch ∧
    OnlyRegs d (Dev.returned (d.tbRead a) a) [H.rdata a.copy, F.TB_EPL_EPL a.copy] := by
  have hne : (F.TB_EPL_EPL a.copy).key ≠ (H.rdata a.copy).key := by simp only [fkey, hkey]; omega
  refine ⟨?_, ?_, ((OnlyRegs.refl d _).put _ _ (by simp)).put _ _ (by simp)⟩
  · exact (Dev.get_put_self _ (H.rdata a.copy) _).trans (d.get_mod F.TB_COUNT_COUNT)
  · exact ((Dev.get_put_ne _ _ hne).trans (Dev.get_put_self _ (F.TB_EPL_EPL a.copy) _)).trans (d.get_mod F.TB_EPOCH_EPOCH)

section
variable (d : Dev) {a : Agent} {v : Nat}

/-- A register that only C0 and the host may write (R146). -/
theorem Dev.rldWrite_agent (h : a.isC0orHost = false) : d.rldWrite a v = d.hwSet F.TB_STAT_WRBAD := if_pos (by simp [h])

theorem Dev.epsetWrite_agent (h : a.isC0orHost = false) : d.epsetWrite a v = d.hwSet F.TB_STAT_WRBAD := if_pos (by simp [h])

/-- A reload out of range (R146). -/
theorem Dev.rldWrite_range (h : a.isC0orHost = true) (hv : v < 63999) : d.rldWrite a v = d.hwSet F.TB_STAT_RLDBAD := by
  unfold Dev.rldWrite
  rw [if_neg (by simp [h]), if_pos hv]

/-- The epoch is set once (R148). -/
theorem Dev.epsetWrite_again (h : a.isC0orHost = true) (hset : d.get F.TB_STAT_EPPEND = 1 ∨ d.get F.TB_STAT_EPDONE = 1) :
    d.epsetWrite a v = d.hwSet F.TB_STAT_EPBAD := by
  unfold Dev.epsetWrite
  rw [if_neg (by simp [h]), if_pos (by rcases hset with hset | hset <;> simp [Dev.bit, hset])]

theorem Dev.epsetWrite_first (h : a.isC0orHost = true) (hpend : d.get F.TB_STAT_EPPEND = 0) (hdone : d.get F.TB_STAT_EPDONE = 0) :
    d.epsetWrite a v = d.puts [(F.TB_EPSET_VALUE, v), (F.TB_STAT_EPPEND, 1)] := by
  unfold Dev.epsetWrite
  rw [if_neg (by simp [h]), if_neg (by simp [Dev.bit, hpend, hdone])]

end

/-- A setting by hardware of a one-bit field, and its frame. -/
theorem Dev.hwSet_sets (d : Dev) {f : Fld} (hw : f.w = 1) : (d.hwSet f).get f = 1 ∧ OnlyRegs d (d.hwSet f) [f] :=
  ⟨by rw [Dev.hwSet_self, hw]; rfl, (OnlyRegs.refl d _).hwSet f (by simp)⟩

/-- Settles O26: each command runs the step of the device that its clause names, and what that step writes is read off there. -/
theorem timeBaseWritesComplete : Obligations.TimeBaseWritesComplete := by
  unfold Obligations.TimeBaseWritesComplete
  refine ⟨fun s a => ?read, fun s a v hcalm ha => ⟨?first, ?again⟩, fun s a v c hcalm ha hc => ?agent,
    fun s a v hcalm ha hv => ?range, fun s a v hcalm ha hv => ?reload, fun s a v hwait => ⟨?waitsRld, ?waitsEpset⟩,
    fun s ok => ?crystal⟩
  case read =>
    refine EndsDev.of_ok (f := fun d => Dev.returned ((d.touch a).tbRead a) a) rfl ?_
    obtain ⟨hdata, hlatch, hframe⟩ := (s.dev.touch a).tbRead_returned a
    exact ⟨hdata.trans (s.dev.touch_get a (by decide)), hlatch.trans (s.dev.touch_get a (by decide)), hframe⟩
  case first =>
    intro hpend hdone
    refine EndsDev.of_ok (exec_tbEpsetWrite_acts a v hcalm) ?_
    rw [Dev.epsetWrite_first _ ha ((s.dev.touch_get a (by decide)).trans hpend) ((s.dev.touch_get a (by decide)).trans hdone)]
    refine ⟨?_, Dev.get_put_self _ F.TB_STAT_EPPEND 1, (OnlyRegs.refl _ _).puts _ (by simp)⟩
    exact ((Dev.get_put_ne _ 1 (by decide)).trans (Dev.get_put_self _ F.TB_EPSET_VALUE _)).trans (Nat.mod_eq_of_lt v.isLt)
  case again =>
    intro hset
    refine EndsDev.of_ok (exec_tbEpsetWrite_acts a v hcalm) ?_
    rw [Dev.epsetWrite_again _ ha (by rwa [s.dev.touch_get a (by decide), s.dev.touch_get a (by decide)])]
    exact Dev.hwSet_sets _ rfl
  case agent =>
    have htouch : s.dev.touch a = s.dev := s.dev.touch_of_not_host (Agent.isHost_of_not_C0orHost ha)
    rcases hc with rfl | rfl
    · refine EndsDev.of_ok (exec_tbEpsetWrite_acts a v hcalm) ?_
      rw [Dev.epsetWrite_agent _ ha, htouch]
      exact Dev.hwSet_sets _ rfl
    · refine EndsDev.of_ok (exec_tbRldWrite_acts a v hcalm) ?_
      rw [Dev.rldWrite_agent _ ha, htouch]
      exact Dev.hwSet_sets _ rfl
  case range =>
    refine EndsDev.of_ok (exec_tbRldWrite_acts a v hcalm) ?_
    rw [Dev.rldWrite_range _ ha hv]
    exact Dev.hwSet_sets _ rfl
  case reload =>
    refine EndsDev.of_ok (exec_tbRldWrite_acts a v hcalm) ⟨_, _, rfl, rfl, ?_⟩
    have htb : (s.dev.touch a).get F.TB_COUNT_COUNT = s.dev.get F.TB_COUNT_COUNT := s.dev.touch_get a (by decide)
    have hepoch : (s.dev.touch a).get F.TB_EPOCH_EPOCH = s.dev.get F.TB_EPOCH_EPOCH := s.dev.touch_get a (by decide)
    have hrld : (s.dev.touch a).get F.TB_RLD_RLD = s.dev.get F.TB_RLD_RLD := s.dev.touch_get a (by decide)
    unfold Dev.rldWrite Dev.tb Dev.epoch
    rw [if_neg (by simp [ha]), if_neg (by omega), hrld, htb, hepoch]
  case waitsRld =>
    refine (State.commitRow_waits (s := s.onDev (·.touch a)) a 0x200083 v.toNat (·.rldWrite a v.toNat) hwait).trans ?_
    simp [State.ok, State.onDev]
  case waitsEpset =>
    refine (State.commitRow_waits (s := s.onDev (·.touch a)) a 0x200084 v.toNat (·.epsetWrite a v.toNat) hwait).trans ?_
    simp [State.ok, State.onDev]
  case crystal =>
    refine EndsDev.of_ok (f := (·.put F.TB_STAT_XOK (b2n ok))) rfl ⟨?_, (OnlyRegs.refl _ _).put _ _ (by simp)⟩
    rw [Dev.get_put_self]
    cases ok <;> rfl

/-! ### The end of a lap (R131, R132, R147, R148) -/

/-- What the end of a lap makes of the counters: TB starts again, and TBEPOCH takes the pending value, which is then spent, or counts
on (R131, R148). -/
def Dev.lapTurned (d : Dev) : Dev :=
  if d.bit F.TB_STAT_EPPEND then
    (d.puts [(F.TB_COUNT_COUNT, 0), (H.lapEnd, 0), (F.TB_EPOCH_EPOCH, d.get F.TB_EPSET_VALUE)]).puts
      [(F.TB_STAT_EPPEND, 0), (F.TB_STAT_EPDONE, 1), (F.TB_EPSET_VALUE, 0)]
  else d.puts [(F.TB_COUNT_COUNT, 0), (H.lapEnd, 0), (F.TB_EPOCH_EPOCH, (d.epoch + 1) % 2 ^ 36)]

section
variable (d : Dev)

theorem Dev.lapTurned_get : d.lapTurned.get F.TB_COUNT_COUNT = 0 ∧ d.lapTurned.get H.lapEnd = 0 ∧
    d.lapTurned.get F.TB_EPOCH_EPOCH = (if d.get F.TB_STAT_EPPEND = 0 then (d.get F.TB_EPOCH_EPOCH + 1) % 2 ^ 36
      else d.get F.TB_EPSET_VALUE) ∧
    (d.get F.TB_STAT_EPPEND = 1 → d.lapTurned.get F.TB_STAT_EPPEND = 0 ∧ d.lapTurned.get F.TB_STAT_EPDONE = 1) := by
  have hlt : d.get F.TB_EPSET_VALUE < 68719476736 := d.get_lt F.TB_EPSET_VALUE
  by_cases hpend : d.get F.TB_STAT_EPPEND = 0
  · simp (disch := decide) [Dev.lapTurned, Dev.bit, hpend, Dev.get_put_ne, Dev.epoch]
  · simp (disch := decide) [Dev.lapTurned, Dev.bit, hpend, Dev.get_put_ne, hlt]

theorem Dev.lapDue_iff : d.lapDue = true ↔ d.get F.TB_COUNT_COUNT ≥ d.get F.TB_RLD_RLD ∨ d.bit H.lapEnd = true := by
  simp [Dev.lapDue]

theorem Dev.epochWrap_get (c : Bool) {f : Fld} (hq : f.quiet = true) (hf : f.key ≠ F.TB_STAT_EPWRAP.key) :
    (if c then (d.hwSet F.TB_STAT_EPWRAP).merEvt F.TB_CTRL_SETIE else d).get f = d.get f := by
  split
  · exact (Dev.merEvt_get _ _ hq).trans (Dev.hwSet_get_ne d hf)
  · rfl

/-- Of the fields of Meridian the end of a lap writes EPWRAP beside the counters. -/
theorem Dev.lapWrap_get (hdue : d.lapDue = true) {f : Fld} (hm : f.meridian = true) (hf : f.key ≠ F.TB_STAT_EPWRAP.key) :
    d.lapWrap.get f = d.lapTurned.get f := by
  have hq := Fld.quiet_of_meridian hm
  have hclose (e : Dev) (reason : Nat) : (e.segCloseAll reason true).get f = e.get f :=
    (e.segCloseAll_writes reason true).meridian segsFlds_not_meridian hm
  have hrecord (e : Dev) (typ e0 t0 e1 t1 : Nat) (data : List Nat) : (e.devRecord typ e0 t0 e1 t1 data).get f = e.get f :=
    (e.addRecord_writes _).meridian recordFlds_not_meridian hm
  have hday (c : Prop) [Decidable c] (e : Dev) : (if c then e.segCloseAll 12 true else e).get f = e.get f := by
    split
    · exact hclose e 12
    · rfl
  unfold Dev.lapWrap Dev.lapTurned
  rw [if_pos (d.lapDue_iff.1 hdue)]
  dsimp only
  rw [Dev.merEvt_get _ _ hq, hday]
  by_cases hload : d.bit F.TB_STAT_EPPEND = true
  · simp only [hload, if_true, Bool.not_true, Bool.false_and, Bool.false_eq_true, if_false]
    rw [Dev.merEvt_get _ _ hq, hclose, hrecord]
  · simp only [hload, Bool.false_eq_true, if_false]
    exact Dev.epochWrap_get _ _ hq hf

/-- Where no epoch value is pending and the new epoch ends no interval, the end of a lap writes the counters and EPWRAP alone. -/
theorem Dev.lapWrap_plain (hpend : d.get F.TB_STAT_EPPEND = 0)
    (hday : (d.epoch + 1) % 2 ^ 36 % (60 * d.get F.MTR_IVAL_IVAL) ≠ 0) :
    OnlyQuiet d d.lapWrap [F.TB_COUNT_COUNT, F.TB_EPOCH_EPOCH, H.lapEnd, F.TB_STAT_EPWRAP] := by
  have hload : d.bit F.TB_STAT_EPPEND = false := by simp [Dev.bit, hpend]
  have hmer {e : Dev} {l : List Fld} (h : OnlyQuiet d e l) (ie : Fld) : OnlyQuiet d (e.merEvt ie) l :=
    OnlyQuiet.ite (h.raise (by decide)) h
  have hturn (c : Bool) (x : Nat) : OnlyQuiet d
      (if c then ((d.puts [(F.TB_COUNT_COUNT, 0), (H.lapEnd, 0), (F.TB_EPOCH_EPOCH, x)]).hwSet F.TB_STAT_EPWRAP).merEvt F.TB_CTRL_SETIE
        else d.puts [(F.TB_COUNT_COUNT, 0), (H.lapEnd, 0), (F.TB_EPOCH_EPOCH, x)])
      [F.TB_COUNT_COUNT, F.TB_EPOCH_EPOCH, H.lapEnd, F.TB_STAT_EPWRAP] := by
    have hputs := (OnlyQuiet.refl d [F.TB_COUNT_COUNT, F.TB_EPOCH_EPOCH, H.lapEnd, F.TB_STAT_EPWRAP]).puts
      (ws := [(F.TB_COUNT_COUNT, 0), (H.lapEnd, 0), (F.TB_EPOCH_EPOCH, x)]) (by simp)
    exact (hmer (hputs.hwSet (by simp)) _).ite hputs
  unfold Dev.lapWrap
  refine OnlyQuiet.ite ?_ (.refl d _)
  simp only [hload, Bool.false_eq_true, if_false, Bool.not_false, Bool.true_and]
  rw [hturn _ _ F.MTR_IVAL_IVAL (by decide) (by decide), if_neg hday]
  exact hmer (hturn _ _) _

/-- TB, TBEPOCH and the marks of the lap and of the pending epoch, after a lap that ends. -/
theorem Dev.lapWrap_counters (hdue : d.lapDue = true) : d.lapWrap.get F.TB_COUNT_COUNT = 0 ∧ d.lapWrap.get H.lapEnd = 0 ∧
    d.lapWrap.get F.TB_EPOCH_EPOCH = (if d.get F.TB_STAT_EPPEND = 0 then (d.get F.TB_EPOCH_EPOCH + 1) % 2 ^ 36
      else d.get F.TB_EPSET_VALUE) ∧
    (d.get F.TB_STAT_EPPEND = 1 → d.lapWrap.get F.TB_STAT_EPPEND = 0 ∧ d.lapWrap.get F.TB_STAT_EPDONE = 1) := by
  have hval {f : Fld} (hm : f.meridian = true ∧ f.key ≠ F.TB_STAT_EPWRAP.key) : d.lapWrap.get f = d.lapTurned.get f :=
    d.lapWrap_get hdue hm.1 hm.2
  rw [hval (by decide), hval (by decide), hval (by decide), hval (by decide), hval (by decide)]
  exact d.lapTurned_get

end

/-- Settles O27: the values are those of `Dev.lapTurned`, and the frame is that of the plain end of a lap. -/
theorem lapsWrap : Obligations.LapsWrap := by
  unfold Obligations.LapsWrap
  refine fun s => ⟨fun hdue => EndsDev.of_ok (f := (·.lapWrap)) rfl (s.dev.lapWrap_counters hdue),
    fun hle hpend hday => EndsDev.of_ok (f := (·.lapWrap)) rfl ?plain, fun hlt hend => next_congr (if_neg ?goesOn)⟩
  case plain =>
    have hdue : s.dev.lapDue = true := s.dev.lapDue_iff.2 (.inl hle)
    obtain ⟨htb, -, hepoch, -⟩ := s.dev.lapWrap_counters hdue
    refine ⟨htb, hepoch.trans (if_pos hpend), fun hlast => ?_, s.dev.lapWrap_plain hpend hday⟩
    exact absurd (by rw [hlast]; rfl) hday
  case goesOn =>
    simp [Dev.bit, hend, hlt]

end Sys2Proof.Machine

/-!
Compare channels (R150-R155). What a snapshot writes, the balls and their levels two ticks later, and a firing in its four parts: the
marks of the hit, the action on the ball, the report of event and snapshot, and what the mode makes of the channel next.
-/
namespace Sys2Proof.Machine

/-! ### Snapshots -/

/-- The records of one port. -/
def snapPortFlds (p : Nat) : List Fld :=
  [F.PRT_SNAP0_PESTATE p, F.PRT_SNAP0_ATTSTATE p, F.PRT_SNAP0_GATES p, F.PRT_SNAP0_HPMSTATE p, F.PRT_SNAP0_SWSTEP p,
    F.PRT_SNAP0_ASKPEND p, F.PRT_SNAP0_INFLIGHT p, F.PRT_SNAP0_TX p, F.PRT_SNAP0_RX p, F.PRT_SNAP0_XFER p, F.PRT_SNAP0_CMD p,
    F.PRT_SNAP1_MEAS p, F.PRT_SNAP2_ACC p, F.PRT_SNAP3_ACC p]

/-- The records of one core. -/
def snapCoreFlds (n : Nat) : List Fld := [F.SNAP_CORE_STATE n, F.SNAP_CORE_INFLIGHT n, F.SNAP_CORE_P n]

/-- What is kept of the snapshot itself and of the triggers of its tick. -/
def snapStatFlds : List Fld :=
  [F.SNAP_SYS_MODE, F.SNAP_TB_VALUE, F.SNAP_EP_VALUE, F.SNAP_STAT_INFLIGHT, F.SNAP_STAT_FULL, H.snapTick, H.snapOutFrom,
    T.snapOut, F.SNAP_STAT_CAUSE, F.SNAP_STAT_CMPCH, F.SNAP_STAT_PORT, H.snapLostAt, H.snapLostWas, H.snapLostCause, H.snapLostCh,
    H.snapLostPort, F.SNAP_STAT_LOST]

/-- What a trigger writes. -/
def snapFlds : List Fld := snapStatFlds ++ ((List.range 24).flatMap snapPortFlds ++ (List.range 6).flatMap snapCoreFlds)

theorem snapStatFlds_snapFlds : ∀ f ∈ snapStatFlds, f ∈ snapFlds := fun _ hf => List.mem_append_left _ hf

theorem snapFlds_not_meridian : ∀ g ∈ snapFlds, g.meridian = false := by
  have hstat : ∀ g ∈ snapStatFlds, g.meridian = false := by decide
  have hport : ∀ p < 24, ∀ g ∈ snapPortFlds p, g.meridian = false := by decide
  have hcore : ∀ n < 6, ∀ g ∈ snapCoreFlds n, g.meridian = false := by decide
  intro g hg
  simp only [snapFlds, List.mem_append, List.mem_flatMap, List.mem_range] at hg
  rcases hg with hg | ⟨p, hp, hg⟩ | ⟨n, hn, hg⟩
  · exact hstat g hg
  · exact hport p hp g hg
  · exact hcore n hn g hg

theorem OnlyQuiet.putsStat {d e : Dev} {ws : List (Fld × Nat)} (h : OnlyQuiet d e snapFlds) (hw : ∀ w ∈ ws, w.1 ∈ snapStatFlds) :
    OnlyQuiet d (e.puts ws) snapFlds := h.puts fun w hw' => snapStatFlds_snapFlds _ (hw w hw')

theorem Dev.snapPort_writes (d : Dev) (rx : Nat) {p : Nat} (hp : p < 24) : OnlyQuiet d (d.snapPort rx p) snapFlds := by
  have hmem : ∀ f ∈ snapPortFlds p, f ∈ snapFlds := fun f hf =>
    List.mem_append_right _ (List.mem_append_left _ (List.mem_flatMap.2 ⟨p, List.mem_range.2 hp, hf⟩))
  exact (OnlyQuiet.refl d _).puts fun w hw => hmem _ (by simpa [snapPortFlds] using List.mem_map_of_mem (f := Prod.fst) hw)

theorem Dev.snapCore_writes (d : Dev) {n : Nat} (hn : n < 6) : OnlyQuiet d (d.snapCore n) snapFlds := by
  have hmem : ∀ f ∈ snapCoreFlds n, f ∈ snapFlds := fun f hf =>
    List.mem_append_right _ (List.mem_append_right _ (List.mem_flatMap.2 ⟨n, List.mem_range.2 hn, hf⟩))
  exact (OnlyQuiet.refl d _).puts fun w hw => hmem _ (by simpa [snapCoreFlds] using List.mem_map_of_mem (f := Prod.fst) hw)

theorem Dev.snapRecords_writes (d : Dev) : OnlyQuiet d d.snapRecords snapFlds := by
  unfold Dev.snapRecords
  refine OnlyQuiet.forN (OnlyQuiet.forN (OnlyQuiet.putsStat ?_ ?_) fun p hp e => e.snapPort_writes _ hp)
    fun n hn e => e.snapCore_writes hn
  · exact (OnlyQuiet.refl d _).tables rfl
  · simp [snapStatFlds]

theorem Dev.snapTake_writes (d : Dev) : OnlyQuiet d d.snapTake snapFlds := by
  have hpulse {e : Dev} (h : OnlyQuiet d e snapFlds) : OnlyQuiet d e.snapPulse snapFlds :=
    OnlyQuiet.ite (OnlyQuiet.arm (OnlyQuiet.put h _ (snapStatFlds_snapFlds _ (by simp [snapStatFlds]))) _
      (snapStatFlds_snapFlds _ (by simp [snapStatFlds]))) h
  exact (hpulse d.snapRecords_writes).raise (by decide)

/-- A trigger writes no quiet field but those of the snapshot. -/
theorem Dev.snapTrig_writes (d : Dev) (cause ch port : Nat) : OnlyQuiet d (d.snapTrig cause ch port) snapFlds := by
  have hjoin {e : Dev} (h : OnlyQuiet d e snapFlds) : OnlyQuiet d
      (e.snapJoin F.SNAP_STAT_CAUSE F.SNAP_STAT_CMPCH F.SNAP_STAT_PORT cause ch port) snapFlds := h.putsStat (by simp [snapStatFlds])
  have hfirst : OnlyQuiet d (d.snapFirst F.SNAP_STAT_CAUSE F.SNAP_STAT_CMPCH F.SNAP_STAT_PORT) snapFlds :=
    OnlyQuiet.putsStat (.refl d _) (by simp [snapStatFlds])
  have hlost : OnlyQuiet d (if d.get H.snapLostAt = d.now + 1 then d else
      (d.puts [(H.snapLostAt, d.now + 1), (H.snapLostWas, d.get F.SNAP_STAT_LOST)]).snapFirst H.snapLostCause H.snapLostCh
        H.snapLostPort) snapFlds :=
    OnlyQuiet.ite (.refl d _) (OnlyQuiet.putsStat (OnlyQuiet.putsStat (.refl d _) (by simp [snapStatFlds])) (by simp [snapStatFlds]))
  have hlose : OnlyQuiet d (d.snapLose cause ch port) snapFlds :=
    OnlyQuiet.put (OnlyQuiet.putsStat hlost (by simp [snapStatFlds])) _ (snapStatFlds_snapFlds _ (by simp [snapStatFlds]))
  unfold Dev.snapTrig
  exact OnlyQuiet.ite ((hjoin hfirst).trans (Dev.snapTake_writes _))
    (OnlyQuiet.ite ((hjoin (.refl d _)).trans (Dev.snapRecords_writes _)) hlose)

/-! ### Bits written in a field -/

theorem testBit_withBit_clear (x b j : Nat) : (withBit x b false).testBit j = (decide (b ≠ j) && x.testBit j) := by
  unfold withBit
  split
  · next h =>
    by_cases hbj : b = j
    · simp [← hbj, h]
    · simp [hbj]
  · next h =>
    have hb : x.testBit b = true := by simpa using h
    have hx : (x ^^^ 2 ^ b) + 2 ^ b = x := by
      refine Nat.eq_of_testBit_eq fun k => ?_
      rw [testBit_add_two_pow (by simp [Nat.testBit_xor, hb])]
      by_cases hbk : b = k
      · simp [← hbk, hb]
      · simp [hbk, Nat.testBit_xor]
    have hsub : x - 2 ^ b = x ^^^ 2 ^ b := by omega
    rw [if_neg (by simp), hsub, Nat.testBit_xor, Nat.testBit_two_pow]
    by_cases hbj : b = j
    · simp [← hbj, hb]
    · simp [hbj]

theorem Dev.getBit_putBit (d : Dev) (f : Fld) (b : Nat) (on : Bool) {j : Nat} (hj : j < f.w) :
    (d.putBit f b on).getBit f j = if b = j then on else d.getBit f j := by
  cases on with
  | true =>
    rw [d.getBit_putBit_set f b hj]
    by_cases hbj : b = j <;> simp [hbj]
  | false => by_cases hbj : b = j <;> simp [Dev.getBit, Dev.putBit, Nat.testBit_mod_two_pow, testBit_withBit_clear, hj, hbj]

/-! ### The balls (R154, R155) -/

/-- Two ticks after a note a pad shows what was noted. -/
theorem Dev.padNote_shown (d : Dev) (k old : Nat) {new : Nat} (hnew : new < 65536) (cur : Nat) :
    ({ d.padNote k old new with now := d.now + 2 } : Dev).padSeen k cur = new := by
  have hold : (d.now * 65536 + new) / 65536 + 2 ≤ d.now + 2 := by omega
  simp only [Dev.padSeen, Dev.padNote, tget_tput_same, List.find?_cons, hold, decide_true]
  omega

section
variable (d : Dev) (o : Nat) (on : Bool)

theorem Dev.cmpoDrive_get {f : Fld} (hf : f.key ≠ F.CMP_OUT_LEVEL.key) : (d.cmpoDrive o on).get f = d.get f :=
  (Dev.get_of_regs rfl).trans (Dev.get_put_ne d _ hf)

theorem Dev.cmpoDrive_level : (d.cmpoDrive o on).get F.CMP_OUT_LEVEL = (d.putBit F.CMP_OUT_LEVEL o on).get F.CMP_OUT_LEVEL :=
  Dev.get_of_regs rfl

theorem Dev.cmpoDrive_bit {k : Nat} (hk : k < 8) :
    (d.cmpoDrive o on).getBit F.CMP_OUT_LEVEL k = if o = k then on else d.getBit F.CMP_OUT_LEVEL k := by
  rw [Dev.getBit, d.cmpoDrive_level o on]
  exact d.getBit_putBit F.CMP_OUT_LEVEL o on hk

/-- A ball follows what is commanded by two ticks (R154). -/
theorem Dev.cmpoDrive_balls :
    ({ d.cmpoDrive o on with now := d.now + 2 } : Dev).cmpoBalls = (d.cmpoDrive o on).get F.CMP_OUT_LEVEL := by
  have hlt : (d.putBit F.CMP_OUT_LEVEL o on).get F.CMP_OUT_LEVEL < 65536 :=
    lt_of_lt_of_le (Dev.get_lt _ F.CMP_OUT_LEVEL) (by decide)
  rw [d.cmpoDrive_level o on]
  exact Dev.padNote_shown (d.putBit F.CMP_OUT_LEVEL o on) cmpoKey _ hlt _

end

theorem OnlyRegsPads.drive {d e : Dev} {l : List Fld} (h : OnlyRegsPads d e l) (o : Nat) (on : Bool) (hl : F.CMP_OUT_LEVEL ∈ l) :
    OnlyRegsPads d (e.cmpoDrive o on) l :=
  ⟨fun f hf => (e.cmpoDrive_get o on (hf _ hl)).trans (h.1 f hf), h.2⟩

/-- The end of a pulse commands its ball low, and no other (R155). -/
theorem Dev.cmpPulseEnd_low (d : Dev) {o : Nat} (ho : o < 8) (hp : d.get (T.cmpoPulse o) ≠ 0)
    (ht : d.get (H.cmpoTick o) ≠ d.now + 1) :
    (d.cmpPulseEnd o).get (T.cmpoPulse o) = 0 ∧
      (∀ k < 8, (d.cmpPulseEnd o).getBit F.CMP_OUT_LEVEL k = if o = k then false else d.getBit F.CMP_OUT_LEVEL k) ∧
      ({ d.cmpPulseEnd o with now := (d.cmpPulseEnd o).now + 2 } : Dev).cmpoBalls = (d.cmpPulseEnd o).get F.CMP_OUT_LEVEL ∧
      OnlyRegsPads d (d.cmpPulseEnd o) [F.CMP_OUT_LEVEL, T.cmpoPulse o] := by
  have heq : d.cmpPulseEnd o = ((d.stop (T.cmpoPulse o)).cmpoDrive o false).mark F.CMP_OUT_LEVEL o :=
    if_pos (by simp [Dev.armed, hp, ht])
  have hne : F.CMP_OUT_LEVEL.key ≠ (T.cmpoPulse o).key := by simp only [fkey, hkey]; omega
  have hstop : OnlyRegsPads d (d.stop (T.cmpoPulse o)) [F.CMP_OUT_LEVEL, T.cmpoPulse o] :=
    ⟨OnlyFields.put d 0 (by simp), rfl⟩
  rw [heq]
  refine ⟨?_, fun k hk => ?_, ?_, hstop.drive o false (by simp)⟩
  · exact (Dev.cmpoDrive_get _ o false hne.symm).trans (Dev.get_put_self d (T.cmpoPulse o) 0)
  · refine (Dev.cmpoDrive_bit _ o false hk).trans (if_congr Iff.rfl rfl ?_)
    exact congrArg (·.testBit k) (Dev.get_put_ne d 0 hne)
  · exact (d.stop (T.cmpoPulse o)).cmpoDrive_balls o false

/-- A write of CMP_OUT commands each ball that the hardware has not acted on this tick (R10, R155). -/
theorem Dev.cmpOutWrite_levels (d : Dev) (v : Nat) :
    (∀ o < 8, (d.cmpOutWrite v).getBit F.CMP_OUT_LEVEL o =
      if d.marked F.CMP_OUT_LEVEL o then d.getBit F.CMP_OUT_LEVEL o else v.testBit o) ∧
      OnlyRegsPads d (d.cmpOutWrite v) [F.CMP_OUT_LEVEL] := by
  constructor
  · refine Dev.forN_each (Pre := fun o e => e.marked F.CMP_OUT_LEVEL o = d.marked F.CMP_OUT_LEVEL o ∧
        e.getBit F.CMP_OUT_LEVEL o = d.getBit F.CMP_OUT_LEVEL o)
      (Post := fun o e => e.getBit F.CMP_OUT_LEVEL o = if d.marked F.CMP_OUT_LEVEL o then d.getBit F.CMP_OUT_LEVEL o else v.testBit o)
      (fun _ _ => ⟨rfl, rfl⟩) (fun i hi j hj hij e he => ?_) (fun i hi e he => ?_) fun i hi j hj hij e he => ?_
    · split
      · exact he
      · exact ⟨he.1, ((e.cmpoDrive_bit i _ hj).trans (if_neg hij)).trans he.2⟩
    · rw [← he.1, ← he.2]
      split
      · rfl
      · exact (e.cmpoDrive_bit i _ hi).trans (if_pos rfl)
    · split
      · exact he
      · exact ((e.cmpoDrive_bit i _ hj).trans (if_neg hij)).trans he
  · refine Dev.forN_inv (P := fun e => OnlyRegsPads d e [F.CMP_OUT_LEVEL]) ⟨OnlyFields.refl d _, rfl⟩ fun o ho e he => ?_
    split
    · exact he
    · exact he.drive o _ (by simp)

/-! ### Arming (R150, R151) -/

section
variable (d : Dev) (i : Nat)

theorem Dev.cmpValid_iff : d.cmpValid i = true ↔ d.get (F.CMP_VAL_VALUE i) ≤ d.get F.TB_RLD_RLD ∧
    (d.get (F.CMP_CTRL_MODE i) = 3 → 1 ≤ d.get (F.CMP_CTRL_STEP i) ∧ d.get (F.CMP_CTRL_STEP i) ≤ d.get F.TB_RLD_RLD) := by
  simp [Dev.cmpValid, imp_iff_not_or]

/-- What an arming or its refusal writes. -/
def cmpArmFlds (i : Nat) : List Fld := [F.CMP_STAT_ARMED i, F.CMP_STAT_RANGE i, H.cmpArm i]

theorem Dev.cmpArmNow_frame : OnlyRegs d (d.cmpArmNow i) (cmpArmFlds i) := by
  unfold Dev.cmpArmNow
  split
  · exact (OnlyRegs.refl d _).puts _ (by simp [cmpArmFlds])
  · exact (OnlyRegs.refl d _).puts _ (by simp [cmpArmFlds])

/-- A channel is armed where its value passes, and otherwise refused with RANGE. -/
theorem Dev.cmpArmNow_armed : ((d.cmpArmNow i).get (F.CMP_STAT_ARMED i) = 1 ↔ d.cmpValid i = true) ∧
    (d.cmpArmNow i).get (F.CMP_STAT_RANGE i) = 1 - (d.cmpArmNow i).get (F.CMP_STAT_ARMED i) := by
  unfold Dev.cmpArmNow
  split <;> simp (disch := (simp only [fkey, hkey]; omega)) [*, Dev.get_put_ne]

/-- Two frames, one after the other. -/
theorem OnlyRegs.append {d e g : Dev} {l m : List Fld} (h : OnlyRegs d e l) (k : OnlyRegs e g m) : OnlyRegs d g (l ++ m) :=
  ⟨fun f hf => (k.1 f fun x hx => hf x (List.mem_append_right _ hx)).trans (h.1 f fun x hx => hf x (List.mem_append_left _ hx)),
    (congrArg (fun x : Dev => { x with regs := d.regs, setAt := d.setAt, setKeys := d.setKeys }) k.2).trans h.2⟩

/-- A frame that begins with a write. -/
theorem OnlyRegs.put_first {d e : Dev} {f : Fld} {l : List Fld} {v : Nat} (h : OnlyRegs (d.put f v) e l) : OnlyRegs d e (f :: l) :=
  ((OnlyRegs.refl d [f]).put f v (by simp)).append h

theorem Dev.cmpValWrite_off {v : Nat} (hm : d.get (F.CMP_CTRL_MODE i) = 0) : d.cmpValWrite i v = d.put (F.CMP_VAL_VALUE i) v := by
  have hne : (F.CMP_CTRL_MODE i).key ≠ (F.CMP_VAL_VALUE i).key := by simp only [fkey]; omega
  exact if_neg (by simp [Dev.bit, Dev.get_put_ne _ _ hne, hm])

theorem Dev.cmpValWrite_on {v : Nat} (hm : d.get (F.CMP_CTRL_MODE i) ≠ 0) :
    d.cmpValWrite i v = (d.put (F.CMP_VAL_VALUE i) v).cmpArmNow i := by
  have hne : (F.CMP_CTRL_MODE i).key ≠ (F.CMP_VAL_VALUE i).key := by simp only [fkey]; omega
  exact if_pos (by simp [Dev.bit, Dev.get_put_ne _ _ hne, hm])

/-- A value put into a channel and tried: it stands, armed where it passes R151. -/
theorem Dev.cmpValue_tried (hi : i < 64) (v : Nat) :
    ((d.put (F.CMP_VAL_VALUE i) v).cmpArmNow i).get (F.CMP_VAL_VALUE i) = v % 2 ^ 36 ∧
    (((d.put (F.CMP_VAL_VALUE i) v).cmpArmNow i).get (F.CMP_STAT_ARMED i) = 1 ↔ v % 2 ^ 36 ≤ d.get F.TB_RLD_RLD ∧
      (d.get (F.CMP_CTRL_MODE i) = 3 → 1 ≤ d.get (F.CMP_CTRL_STEP i) ∧ d.get (F.CMP_CTRL_STEP i) ≤ d.get F.TB_RLD_RLD)) ∧
    OnlyRegs d ((d.put (F.CMP_VAL_VALUE i) v).cmpArmNow i) (F.CMP_VAL_VALUE i :: cmpArmFlds i) := by
  have hval : ∀ g ∈ cmpArmFlds i, (F.CMP_VAL_VALUE i).key ≠ g.key := by
    simp only [cmpArmFlds, List.forall_mem_cons, fkey, hkey, List.not_mem_nil, false_imp_iff, implies_true, and_true]
    omega
  refine ⟨((Dev.cmpArmNow_frame _ i).1 _ hval).trans (d.get_put_self (F.CMP_VAL_VALUE i) v), ?_, ?_⟩
  · rw [(Dev.cmpArmNow_armed _ i).1, Dev.cmpValid_iff]
    simp (disch := (simp only [fkey, hkey]; omega)) only [Dev.get_put_ne, Dev.get_put_self]
  · exact (Dev.cmpArmNow_frame _ i).put_first

/-- The fields that a write of CMPnn_CTRL stores. -/
def cmpCtrlFlds (i : Nat) : List Fld :=
  [F.CMP_CTRL_MODE i, F.CMP_CTRL_STEP i, F.CMP_CTRL_ACTION i, F.CMP_CTRL_OUTSEL i, F.CMP_CTRL_IE i, F.CMP_CTRL_SNAP i]

theorem Dev.cmpUnstep_frame : OnlyRegs d (d.cmpUnstep i) (F.CMP_VAL_VALUE i :: cmpArmFlds i) := by
  unfold Dev.cmpUnstep
  split
  · exact (OnlyRegs.refl d _).puts _ (by simp [cmpArmFlds])
  · exact .refl d _

/-- What a write of CMPnn_CTRL stores. -/
def Dev.cmpCtrlStored (d : Dev) (i v : Nat) : Dev :=
  d.puts [(F.CMP_CTRL_STEP i, bits v 12 24), (F.CMP_CTRL_SNAP i, bits v 11 1), (F.CMP_CTRL_IE i, bits v 10 1),
    (F.CMP_CTRL_ACTION i, bits v 7 3), (F.CMP_CTRL_OUTSEL i, bits v 4 3), (F.CMP_CTRL_MODE i, bits v 0 2)]

theorem Dev.cmpCtrlWrite_stores (v : Nat) {f : Fld} (hf : f ∈ cmpCtrlFlds i) :
    (d.cmpCtrlWrite i v).get f = (d.cmpCtrlStored i v).get f := by
  have hne : ∀ g ∈ F.CMP_VAL_VALUE i :: cmpArmFlds i, f.key ≠ g.key := by
    simp only [cmpCtrlFlds, List.mem_cons, List.not_mem_nil, or_false] at hf
    rcases hf with rfl | rfl | rfl | rfl | rfl | rfl <;>
      (simp only [cmpArmFlds, List.forall_mem_cons, fkey, hkey, List.not_mem_nil, false_imp_iff, implies_true, and_true]; omega)
  unfold Dev.cmpCtrlWrite
  dsimp only
  split
  · exact Dev.get_put_ne _ 0 (hne _ (by simp [cmpArmFlds]))
  · split
    · exact (Dev.cmpArmNow_frame _ i).1 f fun g hg => hne g (by simp [hg])
    · exact (Dev.cmpUnstep_frame _ i).1 f hne

theorem Dev.cmpCtrlStored_get (v : Nat) :
    (d.cmpCtrlStored i v).get (F.CMP_CTRL_MODE i) = bits v 0 2 ∧ (d.cmpCtrlStored i v).get (F.CMP_CTRL_STEP i) = bits v 12 24 ∧
    (d.cmpCtrlStored i v).get (F.CMP_CTRL_ACTION i) = bits v 7 3 ∧ (d.cmpCtrlStored i v).get (F.CMP_CTRL_OUTSEL i) = bits v 4 3 ∧
    (d.cmpCtrlStored i v).get (F.CMP_CTRL_IE i) = bits v 10 1 ∧ (d.cmpCtrlStored i v).get (F.CMP_CTRL_SNAP i) = bits v 11 1 := by
  unfold Dev.cmpCtrlStored
  simp (disch := (simp only [fkey]; omega)) only [Dev.puts_cons, Dev.puts_nil, Dev.get_put_ne, Dev.get_put_self, bits_mod,
    and_self]

/-- MODE 0 disarms. -/
theorem Dev.cmpCtrlWrite_disarms {v : Nat} (hv : bits v 0 2 = 0) : (d.cmpCtrlWrite i v).get (F.CMP_STAT_ARMED i) = 0 := by
  unfold Dev.cmpCtrlWrite
  rw [if_pos hv]
  exact Dev.get_put_self _ (F.CMP_STAT_ARMED i) 0

end

/-! ### The parts of a firing (R152-R155) -/

/-- The channel may fire now: it is armed, TB stands at its value, and it was not armed on this very tick (R150). -/
structure Dev.CmpDue (d : Dev) (i : Nat) : Prop where
  armed : d.get (F.CMP_STAT_ARMED i) = 1
  value : d.tb = d.get (F.CMP_VAL_VALUE i)
  later : d.get (H.cmpArm i) ≠ d.now + 1

/-- The marks of a firing: what is kept of the value, then OVR, FIRED and FCNT (R153). -/
def Dev.cmpHit (d : Dev) (i : Nat) : Dev :=
  let d := d.puts [(H.cmpPrev i, d.get (F.CMP_VAL_VALUE i)), (H.cmpFireAt i, d.now + 1)]
  let d := if d.bit (F.CMP_STAT_FIRED i) then d.hwSet (F.CMP_STAT_OVR i) else d
  (d.hwSet (F.CMP_STAT_FIRED i)).inc (F.CMP_STAT_FCNT i)

/-- The group event and the snapshot of a firing. -/
def Dev.cmpTold (d : Dev) (i : Nat) : Dev :=
  let d := if d.bit (F.CMP_CTRL_IE i) then (d.raise (192 + i / 8)).wake 5 else d
  if d.bit (F.CMP_CTRL_SNAP i) then d.snapTrig 10 i 0 else d

/-- What the mode makes of a channel that has fired (R152). -/
def Dev.cmpNext (d : Dev) (i : Nat) : Dev :=
  if d.get (F.CMP_CTRL_MODE i) = 1 then d.clr (F.CMP_STAT_ARMED i)
  else if d.get (F.CMP_CTRL_MODE i) = 3 then (d.put (F.CMP_VAL_VALUE i) (d.cmpStep i)).cmpArmNow i
  else d.put (H.cmpArm i) (d.now + 1)

section
variable (d : Dev) (i : Nat)

theorem Dev.cmpFire_eq (h : d.CmpDue i) : d.cmpFire i = (((d.cmpHit i).cmpAction i).cmpTold i).cmpNext i :=
  if_pos (by simp [Dev.bit, h.armed, h.value, h.later])

/-- What the marks of a firing write. -/
def cmpHitFlds (i : Nat) : List Fld :=
  [F.CMP_STAT_FIRED i, F.CMP_STAT_FCNT i, F.CMP_STAT_OVR i, H.cmpPrev i, H.cmpFireAt i]

theorem Dev.cmpHit_frame : OnlyRegs d (d.cmpHit i) (cmpHitFlds i) := by
  have hputs (x y : Nat) : OnlyRegs d (d.puts [(H.cmpPrev i, x), (H.cmpFireAt i, y)]) (cmpHitFlds i) :=
    (OnlyRegs.refl d _).puts _ (by simp [cmpHitFlds])
  unfold Dev.cmpHit
  dsimp only
  refine OnlyRegs.put (OnlyRegs.hwSet ?_ _ (by simp [cmpHitFlds])) _ _ (by simp [cmpHitFlds])
  split
  · exact (hputs _ _).hwSet _ (by simp [cmpHitFlds])
  · exact hputs _ _

theorem Dev.cmpHit_marks : (d.cmpHit i).get (F.CMP_STAT_FIRED i) = 1 ∧
    (d.cmpHit i).get (F.CMP_STAT_FCNT i) = (d.get (F.CMP_STAT_FCNT i) + 1) % 256 ∧
    (d.get (F.CMP_STAT_FIRED i) = 1 → (d.cmpHit i).get (F.CMP_STAT_OVR i) = 1) := by
  by_cases hf : d.get (F.CMP_STAT_FIRED i) = 0 <;>
    simp (disch := (simp only [fkey, hkey]; omega)) [Dev.cmpHit, Dev.inc, Dev.bit, Dev.get_put_ne, Dev.hwSet_get_ne, hf]

/-- What the action of channel i may write, with o its ball. -/
def cmpActFlds (i o : Nat) : List Fld := [F.CMP_STAT_COLL i, F.CMP_OUT_LEVEL, H.cmpoTick o, H.cmpoCh o, T.cmpoPulse o]

theorem Dev.cmpAction_none (h : d.get (F.CMP_CTRL_ACTION i) = 0) : d.cmpAction i = d := by
  unfold Dev.cmpAction
  exact if_pos (.inl h)

section
variable (h1 : 1 ≤ d.get (F.CMP_CTRL_ACTION i)) (h4 : d.get (F.CMP_CTRL_ACTION i) ≤ 4)
include h1 h4

/-- A ball that a channel has acted on this tick stands, and COLL sets (R155). -/
theorem Dev.cmpAction_collides (ht : d.get (H.cmpoTick (d.get (F.CMP_CTRL_OUTSEL i))) = d.now + 1) :
    d.cmpAction i = d.hwSet (F.CMP_STAT_COLL i) := by
  unfold Dev.cmpAction
  dsimp only
  rw [if_neg (by omega), if_pos ht]

/-- What an action on ball o writes: the level, the tick and the channel of it, and the end of a pulse in place of one that ran. -/
def Dev.cmpActed (d : Dev) (i o : Nat) (on pulse : Bool) : Dev :=
  let e := (((d.cmpoDrive o on).mark F.CMP_OUT_LEVEL o).puts [(H.cmpoTick o, d.now + 1), (H.cmpoCh o, i)]).stop (T.cmpoPulse o)
  if pulse then e.arm (T.cmpoPulse o) 16 else e

/-- The level that the action of channel i commands of ball o (R154). -/
def Dev.cmpLevel (d : Dev) (i o : Nat) : Bool :=
  if d.get (F.CMP_CTRL_ACTION i) = 2 then false
  else if d.get (F.CMP_CTRL_ACTION i) = 3 then !d.getBit F.CMP_OUT_LEVEL o else true

theorem Dev.cmpAction_acts (ht : d.get (H.cmpoTick (d.get (F.CMP_CTRL_OUTSEL i))) ≠ d.now + 1) :
    d.cmpAction i = d.cmpActed i (d.get (F.CMP_CTRL_OUTSEL i)) (d.cmpLevel i (d.get (F.CMP_CTRL_OUTSEL i)))
      (d.get (F.CMP_CTRL_ACTION i) = 4) := by
  unfold Dev.cmpAction Dev.cmpActed
  dsimp only
  rw [if_neg (by omega), if_neg ht]
  simp [Dev.cmpLevel]

end

theorem Dev.cmpActed_fields (o : Nat) (on pulse : Bool) : OnlyFields d (d.cmpActed i o on pulse) (cmpActFlds i o) := by
  intro f hf
  have hput (e : Dev) {g : Fld} (v : Nat) (hg : g ∈ cmpActFlds i o) : (e.put g v).get f = e.get f := Dev.get_put_ne e v (hf g hg)
  have hbase : ((((d.cmpoDrive o on).mark F.CMP_OUT_LEVEL o).puts [(H.cmpoTick o, d.now + 1), (H.cmpoCh o, i)]).stop
      (T.cmpoPulse o)).get f = d.get f := by
    rw [Dev.stop, hput _ _ (by simp [cmpActFlds]), Dev.puts_cons, Dev.puts_cons, Dev.puts_nil, hput _ _ (by simp [cmpActFlds]),
      hput _ _ (by simp [cmpActFlds]), Dev.mark_get, d.cmpoDrive_get o on (hf _ (by simp [cmpActFlds]))]
  cases pulse with
  | false => exact hbase
  | true => exact (hput _ _ (by simp [cmpActFlds])).trans hbase

theorem Dev.cmpActed_level {o : Nat} (ho : o < 8) (on pulse : Bool) : (d.cmpActed i o on pulse).getBit F.CMP_OUT_LEVEL o = on := by
  have hlevel : (d.cmpActed i o on pulse).get F.CMP_OUT_LEVEL = (d.cmpoDrive o on).get F.CMP_OUT_LEVEL := by
    cases pulse <;> simp (disch := (simp only [fkey, hkey]; omega)) [Dev.cmpActed, Dev.arm, Dev.stop, Dev.get_put_ne]
  rw [Dev.getBit, hlevel]
  exact (d.cmpoDrive_bit o on ho).trans (if_pos rfl)

theorem Dev.cmpActed_pulse (o : Nat) (on : Bool) : (d.cmpActed i o on true).get (T.cmpoPulse o) = (d.now + 16 + 1) % 2 ^ 64 :=
  Dev.get_put_self _ (T.cmpoPulse o) _

theorem Dev.cmpAction_fields : OnlyFields d (d.cmpAction i) (cmpActFlds i (d.get (F.CMP_CTRL_OUTSEL i))) := by
  by_cases hact : 1 ≤ d.get (F.CMP_CTRL_ACTION i) ∧ d.get (F.CMP_CTRL_ACTION i) ≤ 4
  · by_cases ht : d.get (H.cmpoTick (d.get (F.CMP_CTRL_OUTSEL i))) = d.now + 1
    · rw [d.cmpAction_collides i hact.1 hact.2 ht]
      exact ((OnlyRegs.refl d _).hwSet _ (by simp [cmpActFlds])).1
    · rw [d.cmpAction_acts i hact.1 hact.2 ht]
      exact d.cmpActed_fields i _ _ _
  · have hnone : d.cmpAction i = d := by
      unfold Dev.cmpAction
      exact if_pos (by omega)
    rw [hnone]
    exact OnlyFields.refl d _

/-- The report of a firing leaves the fields of Meridian alone. -/
theorem Dev.cmpTold_get (hi : i < 64) {f : Fld} (hm : f.meridian = true) : (d.cmpTold i).get f = d.get f := by
  have hq := Fld.quiet_of_meridian hm
  have hraise (e : Dev) (c : Bool) : (if c then (e.raise (192 + i / 8)).wake 5 else e).get f = e.get f := by
    split
    · rw [Dev.wake_get _ _ hq, Dev.raise_get _ (by omega) hq]
    · rfl
  have hsnap (e : Dev) : (if e.bit (F.CMP_CTRL_SNAP i) then e.snapTrig 10 i 0 else e).get f = e.get f := by
    split
    · exact (e.snapTrig_writes 10 i 0).meridian snapFlds_not_meridian hm
    · rfl
  exact (hsnap _).trans (hraise d _)

theorem Dev.cmpTold_nothing (hie : d.get (F.CMP_CTRL_IE i) = 0) (hsnap : d.get (F.CMP_CTRL_SNAP i) = 0) : d.cmpTold i = d := by
  simp [Dev.cmpTold, Dev.bit, hie, hsnap]

theorem Dev.cmpNext_frame : OnlyRegs d (d.cmpNext i) (F.CMP_VAL_VALUE i :: cmpArmFlds i) := by
  unfold Dev.cmpNext
  split
  · exact (OnlyRegs.refl d _).put _ 0 (by simp [cmpArmFlds])
  · split
    · exact (Dev.cmpArmNow_frame _ i).put_first
    · exact (OnlyRegs.refl d _).put _ _ (by simp [cmpArmFlds])

/-- The channel after a firing, by its mode (R152). -/
theorem Dev.cmpNext_modes (hi : i < 64) :
    (d.get (F.CMP_CTRL_MODE i) = 1 → (d.cmpNext i).get (F.CMP_STAT_ARMED i) = 0) ∧
    (d.get (F.CMP_CTRL_MODE i) = 2 → (d.cmpNext i).get (F.CMP_STAT_ARMED i) = d.get (F.CMP_STAT_ARMED i)) ∧
    (d.get (F.CMP_CTRL_MODE i) = 3 → (d.cmpNext i).get (F.CMP_VAL_VALUE i) = d.cmpStep i % 2 ^ 36 ∧
      ((d.cmpNext i).get (F.CMP_STAT_ARMED i) = 1 ↔ d.cmpStep i % 2 ^ 36 ≤ d.get F.TB_RLD_RLD ∧
        1 ≤ d.get (F.CMP_CTRL_STEP i) ∧ d.get (F.CMP_CTRL_STEP i) ≤ d.get F.TB_RLD_RLD)) ∧
    (d.get (F.CMP_CTRL_MODE i) ≠ 3 → (d.cmpNext i).get (F.CMP_VAL_VALUE i) = d.get (F.CMP_VAL_VALUE i)) := by
  have harm : (F.CMP_STAT_ARMED i).key ≠ (H.cmpArm i).key := by simp only [fkey, hkey]; omega
  refine ⟨fun hm => ?_, fun hm => ?_, fun hm => ?_, fun hm => ?_⟩
  · rw [Dev.cmpNext, if_pos hm]
    exact Dev.get_put_self d (F.CMP_STAT_ARMED i) 0
  · rw [Dev.cmpNext, if_neg (by omega), if_neg (by omega)]
    exact Dev.get_put_ne d _ harm
  · rw [Dev.cmpNext, if_neg (by omega), if_pos hm]
    obtain ⟨hval, harmed, -⟩ := d.cmpValue_tried i hi (d.cmpStep i)
    exact ⟨hval, by simpa [hm] using harmed⟩
  · unfold Dev.cmpNext
    rw [if_neg hm]
    split
    · exact Dev.get_put_ne d 0 (by simp only [fkey]; omega)
    · exact Dev.get_put_ne d _ (by simp only [fkey, hkey]; omega)

/-! ### The firing -/

/-- What the settings of channel i, TBRLD and the arming say. -/
def cmpSetFlds (i : Nat) : List Fld :=
  [F.TB_RLD_RLD, F.CMP_VAL_VALUE i, F.CMP_STAT_ARMED i, F.CMP_CTRL_MODE i, F.CMP_CTRL_STEP i, F.CMP_CTRL_ACTION i,
    F.CMP_CTRL_OUTSEL i, F.CMP_CTRL_IE i, F.CMP_CTRL_SNAP i]

theorem cmpSetFlds_apart {i o : Nat} (hi : i < 64) (ho : o < 8) :
    ∀ f ∈ cmpSetFlds i, ∀ g ∈ cmpHitFlds i ++ cmpActFlds i o, f.key ≠ g.key := by
  simp [cmpSetFlds, cmpHitFlds, cmpActFlds, fkey, hkey]
  omega

/-- The marks of a hit are none of what its action and the next arming write. -/
theorem cmpMarks_apart {i o : Nat} (hi : i < 64) (ho : o < 8) : ∀ f ∈ [F.CMP_STAT_FIRED i, F.CMP_STAT_FCNT i, F.CMP_STAT_OVR i],
    ∀ g ∈ cmpActFlds i o ++ F.CMP_VAL_VALUE i :: cmpArmFlds i, f.key ≠ g.key := by
  simp [cmpActFlds, cmpArmFlds, fkey, hkey]
  omega

/-- What an action shows is none of what the marks before and the arming after it write. -/
theorem cmpBall_apart {i o : Nat} (hi : i < 64) (ho : o < 8) :
    ∀ f ∈ [F.CMP_STAT_COLL i, F.CMP_OUT_LEVEL, H.cmpoTick o, T.cmpoPulse o],
      ∀ g ∈ cmpHitFlds i ++ F.CMP_VAL_VALUE i :: cmpArmFlds i, f.key ≠ g.key := by
  simp [cmpHitFlds, cmpArmFlds, fkey, hkey]
  omega

theorem cmpFlds_meridian : ∀ i < 64, ∀ f ∈ cmpSetFlds i ++ cmpHitFlds i ++ [F.CMP_STAT_COLL i], f.meridian = true := by decide

theorem cmpoFlds_meridian : ∀ o < 8, ∀ f ∈ [F.CMP_OUT_LEVEL, H.cmpoTick o, T.cmpoPulse o], f.meridian = true := by decide

end

section
variable (d : Dev) {i : Nat} (hi : i < 64)
include hi

theorem Dev.cmpHit_keeps {f : Fld} (hf : f ∈ cmpSetFlds i) : (d.cmpHit i).get f = d.get f :=
  (d.cmpHit_frame i).1 f fun g hg => cmpSetFlds_apart (o := 0) hi (by decide) f hf g (by simp [hg])

theorem Dev.cmpHit_outsel : (d.cmpHit i).get (F.CMP_CTRL_OUTSEL i) = d.get (F.CMP_CTRL_OUTSEL i) :=
  d.cmpHit_keeps hi (by simp [cmpSetFlds])

/-- Before its re-arming a firing leaves the settings of its channel and the arming alone. -/
theorem Dev.cmpTold_keeps {f : Fld} (hf : f ∈ cmpSetFlds i) :
    (((d.cmpHit i).cmpAction i).cmpTold i).get f = d.get f := by
  have ho : (d.cmpHit i).get (F.CMP_CTRL_OUTSEL i) < 8 := Dev.get_lt _ (F.CMP_CTRL_OUTSEL i)
  rw [Dev.cmpTold_get _ i hi (cmpFlds_meridian i hi f (by simp [hf])), (d.cmpHit i).cmpAction_fields i f fun g hg =>
    cmpSetFlds_apart hi ho f hf g (by simp [hg]), d.cmpHit_keeps hi hf]

variable (h : d.CmpDue i)
include h

theorem Dev.cmpFire_marks : (d.cmpFire i).get (F.CMP_STAT_FIRED i) = 1 ∧
    (d.cmpFire i).get (F.CMP_STAT_FCNT i) = (d.get (F.CMP_STAT_FCNT i) + 1) % 256 ∧
    (d.get (F.CMP_STAT_FIRED i) = 1 → (d.cmpFire i).get (F.CMP_STAT_OVR i) = 1) := by
  have ho : (d.cmpHit i).get (F.CMP_CTRL_OUTSEL i) < 8 := Dev.get_lt _ (F.CMP_CTRL_OUTSEL i)
  have hkeep {f : Fld} (hf : f ∈ [F.CMP_STAT_FIRED i, F.CMP_STAT_FCNT i, F.CMP_STAT_OVR i]) :
      (d.cmpFire i).get f = (d.cmpHit i).get f := by
    have hm : f.meridian = true := cmpFlds_meridian i hi f (by
      simp only [List.mem_cons, List.not_mem_nil, or_false] at hf
      rcases hf with rfl | rfl | rfl <;> simp [cmpHitFlds])
    have hne := cmpMarks_apart hi ho f hf
    rw [d.cmpFire_eq i h, (Dev.cmpNext_frame _ i).1 f fun g hg => hne g (List.mem_append_right _ hg),
      Dev.cmpTold_get _ i hi hm, (d.cmpHit i).cmpAction_fields i f fun g hg => hne g (List.mem_append_left _ hg)]
  rw [hkeep (by simp), hkeep (by simp), hkeep (by simp)]
  exact d.cmpHit_marks i

theorem Dev.cmpFire_modes :
    (d.get (F.CMP_CTRL_MODE i) = 1 → (d.cmpFire i).get (F.CMP_STAT_ARMED i) = 0) ∧
    (d.get (F.CMP_CTRL_MODE i) = 2 → (d.cmpFire i).get (F.CMP_STAT_ARMED i) = 1) ∧
    (d.get (F.CMP_CTRL_MODE i) = 3 → (d.cmpFire i).get (F.CMP_VAL_VALUE i) = d.cmpStep i % 2 ^ 36 ∧
      ((d.cmpFire i).get (F.CMP_STAT_ARMED i) = 1 ↔ d.cmpStep i % 2 ^ 36 ≤ d.get F.TB_RLD_RLD ∧
        1 ≤ d.get (F.CMP_CTRL_STEP i) ∧ d.get (F.CMP_CTRL_STEP i) ≤ d.get F.TB_RLD_RLD)) ∧
    (d.get (F.CMP_CTRL_MODE i) ≠ 3 → (d.cmpFire i).get (F.CMP_VAL_VALUE i) = d.get (F.CMP_VAL_VALUE i)) := by
  have hkeep {f : Fld} (hf : f ∈ cmpSetFlds i) := d.cmpTold_keeps hi hf
  have hmode := hkeep (f := F.CMP_CTRL_MODE i) (by simp [cmpSetFlds])
  have hrld := hkeep (f := F.TB_RLD_RLD) (by simp [cmpSetFlds])
  have hval := hkeep (f := F.CMP_VAL_VALUE i) (by simp [cmpSetFlds])
  have hstep := hkeep (f := F.CMP_CTRL_STEP i) (by simp [cmpSetFlds])
  have harmed := hkeep (f := F.CMP_STAT_ARMED i) (by simp [cmpSetFlds])
  have hnext : (((d.cmpHit i).cmpAction i).cmpTold i).cmpStep i = d.cmpStep i := by simp only [Dev.cmpStep, hval, hstep, hrld]
  have hmodes := (((d.cmpHit i).cmpAction i).cmpTold i).cmpNext_modes i hi
  rwa [← d.cmpFire_eq i h, hmode, hrld, hval, hstep, harmed, hnext, h.armed] at hmodes

/-- With no action, event or snapshot a firing writes its marks and the arming alone. -/
theorem Dev.cmpFire_quiet (hact : d.get (F.CMP_CTRL_ACTION i) = 0) (hie : d.get (F.CMP_CTRL_IE i) = 0)
    (hsnap : d.get (F.CMP_CTRL_SNAP i) = 0) :
    OnlyRegs d (d.cmpFire i) (cmpHitFlds i ++ F.CMP_VAL_VALUE i :: cmpArmFlds i) := by
  have hkeep {f : Fld} (hf : f ∈ cmpSetFlds i) := d.cmpHit_keeps hi hf
  rw [d.cmpFire_eq i h, Dev.cmpAction_none _ i (by rwa [hkeep (by simp [cmpSetFlds])]),
    Dev.cmpTold_nothing _ i (by rwa [hkeep (by simp [cmpSetFlds])]) (by rwa [hkeep (by simp [cmpSetFlds])])]
  exact (d.cmpHit_frame i).append (Dev.cmpNext_frame _ i)

/-- What the firing's action shows of its ball outlasts the rest of the firing. -/
theorem Dev.cmpFire_ball {f : Fld} (hf : f ∈ [F.CMP_STAT_COLL i, F.CMP_OUT_LEVEL, H.cmpoTick (d.get (F.CMP_CTRL_OUTSEL i)),
    T.cmpoPulse (d.get (F.CMP_CTRL_OUTSEL i))]) :
    (d.cmpFire i).get f = ((d.cmpHit i).cmpAction i).get f ∧ (d.cmpHit i).get f = d.get f := by
  have ho : d.get (F.CMP_CTRL_OUTSEL i) < 8 := d.get_lt (F.CMP_CTRL_OUTSEL i)
  have hm : f.meridian = true := by
    rcases List.mem_cons.1 hf with rfl | hf
    · exact cmpFlds_meridian i hi _ (by simp)
    · exact cmpoFlds_meridian _ ho f hf
  have hne := cmpBall_apart hi ho f hf
  refine ⟨?_, (d.cmpHit_frame i).1 f fun g hg => hne g (List.mem_append_left _ hg)⟩
  rw [d.cmpFire_eq i h, (Dev.cmpNext_frame _ i).1 f fun g hg => hne g (List.mem_append_right _ hg), Dev.cmpTold_get _ i hi hm]

variable (h1 : 1 ≤ d.get (F.CMP_CTRL_ACTION i)) (h4 : d.get (F.CMP_CTRL_ACTION i) ≤ 4)
include h1 h4

theorem Dev.cmpFire_collides (ht : d.get (H.cmpoTick (d.get (F.CMP_CTRL_OUTSEL i))) = d.now + 1) :
    (d.cmpFire i).get (F.CMP_STAT_COLL i) = 1 ∧ (d.cmpFire i).get F.CMP_OUT_LEVEL = d.get F.CMP_OUT_LEVEL := by
  have hact := d.cmpHit_keeps hi (f := F.CMP_CTRL_ACTION i) (by simp [cmpSetFlds])
  have hnow := (d.cmpHit_frame i).now
  have hball {f : Fld} (hf : f ∈ [F.CMP_STAT_COLL i, F.CMP_OUT_LEVEL, H.cmpoTick (d.get (F.CMP_CTRL_OUTSEL i)),
    T.cmpoPulse (d.get (F.CMP_CTRL_OUTSEL i))]) := d.cmpFire_ball hi h hf
  have hcoll : (d.cmpHit i).cmpAction i = (d.cmpHit i).hwSet (F.CMP_STAT_COLL i) :=
    Dev.cmpAction_collides _ i (by rwa [hact]) (by rwa [hact]) (by rw [d.cmpHit_outsel hi, (hball (by simp)).2, hnow, ht])
  rw [(hball (by simp)).1, (hball (by simp)).1, hcoll]
  exact ⟨Dev.hwSet_self _ _, (Dev.hwSet_get_ne _ (by simp only [fkey]; omega)).trans (hball (by simp)).2⟩

theorem Dev.cmpFire_acts (ht : d.get (H.cmpoTick (d.get (F.CMP_CTRL_OUTSEL i))) ≠ d.now + 1) :
    (d.cmpFire i).getBit F.CMP_OUT_LEVEL (d.get (F.CMP_CTRL_OUTSEL i)) = d.cmpLevel i (d.get (F.CMP_CTRL_OUTSEL i)) ∧
    (d.get (F.CMP_CTRL_ACTION i) = 4 →
      (d.cmpFire i).get (T.cmpoPulse (d.get (F.CMP_CTRL_OUTSEL i))) = (d.now + 16 + 1) % 2 ^ 64) := by
  have ho : d.get (F.CMP_CTRL_OUTSEL i) < 8 := d.get_lt (F.CMP_CTRL_OUTSEL i)
  have hact := d.cmpHit_keeps hi (f := F.CMP_CTRL_ACTION i) (by simp [cmpSetFlds])
  have hnow := (d.cmpHit_frame i).now
  have hball {f : Fld} (hf : f ∈ [F.CMP_STAT_COLL i, F.CMP_OUT_LEVEL, H.cmpoTick (d.get (F.CMP_CTRL_OUTSEL i)),
    T.cmpoPulse (d.get (F.CMP_CTRL_OUTSEL i))]) := d.cmpFire_ball hi h hf
  have hlevel : (d.cmpHit i).cmpLevel i (d.get (F.CMP_CTRL_OUTSEL i)) = d.cmpLevel i (d.get (F.CMP_CTRL_OUTSEL i)) := by
    simp only [Dev.cmpLevel, Dev.getBit, hact, (hball (f := F.CMP_OUT_LEVEL) (by simp)).2]
  have hacts := Dev.cmpAction_acts (d.cmpHit i) i (by rwa [hact]) (by rwa [hact])
    (by rw [d.cmpHit_outsel hi, (hball (by simp)).2, hnow]; exact ht)
  rw [d.cmpHit_outsel hi, hlevel, hact] at hacts
  rw [Dev.getBit, (hball (by simp)).1, (hball (by simp)).1, hacts]
  refine ⟨Dev.cmpActed_level _ i ho _ _, fun hpulse => ?_⟩
  rw [hpulse, ← hnow]
  exact Dev.cmpActed_pulse _ i _ _

end

/-- Settles O28: each command runs the step of the device that its clause names; a firing is read off part by part. -/
theorem compareChannelsComplete : Obligations.CompareChannelsComplete := by
  unfold Obligations.CompareChannelsComplete
  refine ⟨fun s i v hcalm => ⟨?valueOff, ?valueOn⟩, fun s i v hcalm => ?control, fun s i v hwait late hlate => ?waits,
    fun s i o harmed hvalue hlater ho => ?fires, fun s o hp ht => ?pulseEnd, fun s v hcalm => ?out⟩
  case valueOff =>
    intro hm
    refine EndsDev.of_ok (State.commitRow_acts _ _ _ _ hcalm) ?_
    rw [s.dev.cmpValWrite_off i.val hm]
    exact ⟨(s.dev.get_put_self (F.CMP_VAL_VALUE i.val) _).trans (Nat.mod_eq_of_lt v.isLt), (OnlyRegs.refl _ _).put _ _ (by simp)⟩
  case valueOn =>
    intro hm
    refine EndsDev.of_ok (State.commitRow_acts _ _ _ _ hcalm) ?_
    rw [s.dev.cmpValWrite_on i.val hm]
    obtain ⟨hval, harmed, hframe⟩ := s.dev.cmpValue_tried i.val i.isLt v.toNat
    rw [Nat.mod_eq_of_lt v.isLt] at hval harmed
    exact ⟨hval, harmed, (Dev.cmpArmNow_armed _ i.val).2, hframe⟩
  case control =>
    refine EndsDev.of_ok (State.commitRow_acts _ _ _ _ hcalm) ?_
    have hstore {f : Fld} (hf : f ∈ cmpCtrlFlds i.val) := s.dev.cmpCtrlWrite_stores i.val v.toNat hf
    obtain ⟨hmode, hstep, hact, hout, hie, hsnap⟩ := s.dev.cmpCtrlStored_get i.val v.toNat
    refine ⟨(hstore ?_).trans hmode, (hstore ?_).trans hstep, (hstore ?_).trans hact, (hstore ?_).trans hout, (hstore ?_).trans hie,
      (hstore ?_).trans hsnap, s.dev.cmpCtrlWrite_disarms i.val⟩ <;> simp [cmpCtrlFlds]
  case waits =>
    subst hlate
    exact ⟨State.commitRow_waits _ _ _ _ hwait, State.commitRow_waits _ _ _ _ hwait, State.commitRow_waits _ _ _ _ hwait⟩
  case fires =>
    subst ho
    have hdue : s.dev.CmpDue i.val := ⟨harmed, hvalue, hlater⟩
    refine EndsDev.of_ok (f := (·.cmpFire i.val)) rfl ?_
    obtain ⟨hfired, hfcnt, hovr⟩ := s.dev.cmpFire_marks i.isLt hdue
    obtain ⟨hone, hlap, hstep, hval⟩ := s.dev.cmpFire_modes i.isLt hdue
    refine ⟨hfired, hfcnt, hovr, hone, hlap, hstep, hval, fun h1 h4 => ⟨fun ht => ?_, fun ht => ?_⟩, fun hact hie hsnap => ?_⟩
    · obtain ⟨hcoll, hlevel⟩ := s.dev.cmpFire_collides i.isLt hdue h1 h4 ht
      exact ⟨hcoll, by rw [Dev.getBit, hlevel, Dev.getBit]⟩
    · obtain ⟨hlevel, hpulse⟩ := s.dev.cmpFire_acts i.isLt hdue h1 h4 ht
      refine ⟨hlevel.trans ?_, hpulse⟩
      unfold Dev.cmpLevel
      generalize s.dev.get (F.CMP_CTRL_ACTION i.val) = act at h1 h4
      interval_cases act <;> rfl
    · obtain ⟨hflds, htables⟩ := s.dev.cmpFire_quiet i.isLt hdue hact hie hsnap
      exact ⟨hflds.mono (by simp [cmpHitFlds, cmpArmFlds]), htables⟩
  case pulseEnd =>
    refine EndsDev.of_ok (f := (·.cmpPulseEnd o.val)) rfl ?_
    obtain ⟨hpulse, hbits, hballs, hframe⟩ := s.dev.cmpPulseEnd_low o.isLt hp ht
    refine ⟨(hbits o.val o.isLt).trans (if_pos rfl), hpulse, fun k hk => ?_, hballs, hframe⟩
    exact (hbits k.val k.isLt).trans (if_neg fun h => hk (Fin.ext h.symm))
  case out =>
    refine EndsDev.of_ok (State.commitRow_acts _ _ _ _ hcalm) ?_
    obtain ⟨hbits, hframe⟩ := s.dev.cmpOutWrite_levels v.toNat
    exact ⟨fun o => hbits o.val o.isLt, hframe⟩

end Sys2Proof.Machine

/-!
Capture inputs (R157-R163): what a level does to an input, the capture of an edge, and the reads and writes of its registers.
-/
namespace Sys2Proof.Machine

theorem agentCopy_le (a : Agent) : a.copy ≤ 8 := by
  cases a <;> simp [Agent.copy]
  omega

theorem OnlyRegs.ite {d e g : Dev} {l : List Fld} {c : Prop} [Decidable c] (h : OnlyRegs d e l) (k : OnlyRegs d g l) :
    OnlyRegs d (if c then e else g) l := by
  split
  · exact h
  · exact k

theorem capStatBits_quiet : ∀ i < 12, ∀ f ∈ [F.CAP_STAT_OVR i, F.CAP_STAT_ACT i, F.CAP_STAT_STUCK i], f.quiet = true := by decide

/-- A candidate of input i counted as rejected, before ACT. -/
def Dev.capDropped (d : Dev) (i : Nat) : Dev :=
  d.puts [(H.capRej i, min 8 (d.get (H.capRej i) + 1)), (F.CAP_STAT_RAW i, d.get (F.CAP_STAT_LEVEL i)), (H.capDue i, 0),
    (H.capSince i, d.now + 1)]

theorem Dev.capReject_eq (d : Dev) (i : Nat) : d.capReject i =
    if (d.capDropped i).get (H.capRej i) = 8 ∧ !(d.capDropped i).bit (F.CAP_STAT_ACT i) then
      (d.capDropped i).capStat i (F.CAP_STAT_ACT i) else d.capDropped i := rfl

/-- The stamps an input holds. -/
def capStampFlds (i : Nat) : List Fld := [H.capNewAt i, F.CAP_TB_TB i, H.capEpoch i, H.capOldTb i, H.capOldEp i]

theorem capStampFlds_quiet : ∀ i < 12, ∀ f ∈ capStampFlds i, f.quiet = true := by decide

section
variable (d : Dev) {i : Nat} (hi : i < 12)
include hi

/-! ### Reads (R159) -/

/-- On the tick of a capture a read returns the capture before it. -/
theorem Dev.capRead_before (a : Agent) (hnew : d.get (H.capNewAt i) = d.now + 1) :
    (Dev.returned (d.capRead a i) a).get (H.rdata a.copy) = d.get (H.capOldTb i) ∧
    (Dev.returned (d.capRead a i) a).get (F.CAP_EP_EPOCH i a.copy) = d.get (H.capOldEp i) ∧
    OnlyRegs d (Dev.returned (d.capRead a i) a) [H.rdata a.copy, F.CAP_EP_EPOCH i a.copy] := by
  have hcopy := agentCopy_le a
  have hne : (F.CAP_EP_EPOCH i a.copy).key ≠ (H.rdata a.copy).key := by simp only [fkey, hkey]; omega
  unfold Dev.capRead Dev.returned
  rw [if_pos hnew]
  refine ⟨?_, ?_, ((OnlyRegs.refl d _).put _ _ (by simp)).put _ _ (by simp)⟩
  · exact (Dev.get_put_self _ (H.rdata a.copy) _).trans (d.get_mod (H.capOldTb i))
  · exact ((Dev.get_put_ne _ _ hne).trans (Dev.get_put_self d (F.CAP_EP_EPOCH i a.copy) _)).trans (d.get_mod (H.capOldEp i))

/-- Otherwise it returns the capture and clears FULL. -/
theorem Dev.capRead_clears (a : Agent) (hnew : d.get (H.capNewAt i) ≠ d.now + 1) :
    (Dev.returned (d.capRead a i) a).get (H.rdata a.copy) = d.get (F.CAP_TB_TB i) ∧
    (Dev.returned (d.capRead a i) a).get (F.CAP_STAT_FULL i) = 0 ∧
    (Dev.returned (d.capRead a i) a).get (F.CAP_EP_EPOCH i a.copy) = d.get (H.capEpoch i) ∧
    OnlyRegs d (Dev.returned (d.capRead a i) a) [H.rdata a.copy, F.CAP_STAT_FULL i, F.CAP_EP_EPOCH i a.copy] := by
  have htb : d.get (F.CAP_TB_TB i) % 2 ^ 36 = d.get (F.CAP_TB_TB i) := d.get_mod _
  have hep : d.get (H.capEpoch i) % 2 ^ 36 = d.get (H.capEpoch i) := d.get_mod _
  have hcopy := agentCopy_le a
  unfold Dev.capRead Dev.returned
  rw [if_neg hnew]
  refine ⟨?_, ?_, ?_, (((OnlyRegs.refl d _).put _ 0 (by simp)).put _ _ (by simp)).put _ _ (by simp)⟩ <;>
    simp (disch := (simp only [fkey, hkey]; omega)) only [Dev.clr, Dev.get_put_ne, Dev.get_put_self, htb, hep, Nat.zero_mod]

/-! ### OVR, ACT and STUCK (R161-R163) -/

theorem Dev.capStat_writes (f : Fld) : OnlyQuiet d (d.capStat i f) [f] := by
  have hset : OnlyQuiet d (d.hwSet f) [f] := (OnlyQuiet.refl d _).hwSet (by simp)
  exact (hset.raise (by omega)).ite hset

theorem Dev.capStat_sets {f : Fld} (hq : f.quiet = true) (hw : f.w = 1) : (d.capStat i f).get f = 1 := by
  have hset : (d.hwSet f).get f = 1 := (d.hwSet_sets hw).1
  unfold Dev.capStat
  dsimp only
  split
  · exact (Dev.raise_get _ (by omega) hq).trans hset
  · exact hset

theorem Dev.capDropped_get : (d.capDropped i).get (H.capDue i) = 0 ∧
    (d.capDropped i).get (F.CAP_STAT_LEVEL i) = d.get (F.CAP_STAT_LEVEL i) ∧
    (d.capDropped i).get (H.capRej i) = min 8 (d.get (H.capRej i) + 1) := by
  have hmin : min 8 (d.get (H.capRej i) + 1) % 2 ^ 4 = min 8 (d.get (H.capRej i) + 1) := Nat.mod_eq_of_lt (by omega)
  unfold Dev.capDropped
  simp (disch := (simp only [fkey, hkey]; omega)) only [Dev.puts_cons, Dev.puts_nil, Dev.get_put_ne, Dev.get_put_self, hmin,
    Nat.zero_mod, and_self]

/-- A rejection ends the candidate and is counted; the eighth sets ACT. -/
theorem Dev.capReject_rejects : (d.capReject i).get (H.capDue i) = 0 ∧
    (d.capReject i).get (F.CAP_STAT_LEVEL i) = d.get (F.CAP_STAT_LEVEL i) ∧
    (d.capReject i).get (H.capRej i) = min 8 (d.get (H.capRej i) + 1) ∧
    (d.get (H.capRej i) = 7 → (d.capReject i).get (F.CAP_STAT_ACT i) = 1) := by
  have hquiet : ∀ i < 12, ∀ f ∈ [H.capDue i, F.CAP_STAT_LEVEL i, H.capRej i], f.quiet = true ∧
    f.key ≠ (F.CAP_STAT_ACT i).key := by decide
  have hkeep {f : Fld} (hf : f ∈ [H.capDue i, F.CAP_STAT_LEVEL i, H.capRej i]) :
      (d.capReject i).get f = (d.capDropped i).get f := by
    rw [Dev.capReject_eq]
    split
    · exact Dev.capStat_writes _ hi _ f (hquiet i hi f hf).1 (by simpa using (hquiet i hi f hf).2)
    · rfl
  obtain ⟨hdue, hlevel, hrej⟩ := d.capDropped_get hi
  refine ⟨(hkeep (by simp)).trans hdue, (hkeep (by simp)).trans hlevel, (hkeep (by simp)).trans hrej, fun h7 => ?_⟩
  rw [Dev.capReject_eq]
  split
  · exact Dev.capStat_sets _ hi (capStatBits_quiet i hi _ (by simp)) rfl
  · next hno =>
    rw [hrej, h7, Dev.bit_eq_decide _ rfl] at hno
    simpa using hno

/-- The end of a stuck time sets STUCK, once. -/
theorem Dev.capStuckEnd_sets (ht : d.get (T.capStuck i) ≠ 0) :
    (d.capStuckEnd i).get (F.CAP_STAT_STUCK i) = 1 ∧ (d.capStuckEnd i).get (T.capStuck i) = 0 ∧
    OnlyQuiet d (d.capStuckEnd i) [F.CAP_STAT_STUCK i, T.capStuck i, H.capStuckDone i] := by
  have heq : d.capStuckEnd i = ((d.stop (T.capStuck i)).set1 (H.capStuckDone i)).capStat i (F.CAP_STAT_STUCK i) :=
    if_pos (by simp [Dev.armed, ht])
  have htime : ∀ i < 12, (T.capStuck i).quiet = true := by decide
  rw [heq]
  refine ⟨Dev.capStat_sets _ hi (capStatBits_quiet i hi _ (by simp)) rfl, ?_, ?_⟩
  · rw [Dev.capStat_writes _ hi _ _ (htime i hi) (by simp [fkey, hkey]; omega)]
    exact (Dev.get_put_ne _ 1 (by simp only [hkey]; omega)).trans (Dev.get_put_self d (T.capStuck i) 0)
  · exact OnlyQuiet.trans (OnlyQuiet.put (OnlyQuiet.stop (.refl d _) (by simp)) 1 (by simp))
      ((Dev.capStat_writes _ hi _).mono (by simp))

end

/-! ### Writes of CAPnn_CTRL (R163) -/

/-- What a write of CAPnn_CTRL stores. -/
def Dev.capCtrlStored (d : Dev) (i v : Nat) : Dev :=
  d.puts [(F.CAP_CTRL_STUCKTO i, bits v 24 12), (F.CAP_CTRL_PRESC i, bits v 16 8), (F.CAP_CTRL_FILTN i, bits v 8 8),
    (F.CAP_CTRL_SI i, bits v 5 3), (F.CAP_CTRL_EDGE i, bits v 3 2), (F.CAP_CTRL_STATIE i, bits v 2 1),
    (F.CAP_CTRL_IE i, bits v 1 1)]

/-- The fields of CAPnn_CTRL. -/
def capCtrlFlds (i : Nat) : List Fld :=
  [F.CAP_CTRL_STUCKTO i, F.CAP_CTRL_PRESC i, F.CAP_CTRL_FILTN i, F.CAP_CTRL_SI i, F.CAP_CTRL_EDGE i, F.CAP_CTRL_STATIE i,
    F.CAP_CTRL_IE i]

/-- What a write of CAPnn_CTRL restarts: the prescaler, the candidate count, the stuck check. -/
def capCountFlds (i : Nat) : List Fld := [H.capPresc i, H.capSince i, H.capDue i, T.capStuck i]

section
variable (d : Dev) (i : Nat)

theorem Dev.capCtrlStored_frame (v : Nat) : OnlyRegs d (d.capCtrlStored i v) (capCtrlFlds i) :=
  (OnlyRegs.refl d _).puts _ (by simp [capCtrlFlds])

theorem Dev.capCtrlStored_get (v : Nat) :
    (d.capCtrlStored i v).get (F.CAP_CTRL_FILTN i) = bits v 8 8 ∧ (d.capCtrlStored i v).get (F.CAP_CTRL_EDGE i) = bits v 3 2 ∧
    (d.capCtrlStored i v).get (F.CAP_CTRL_PRESC i) = bits v 16 8 ∧ (d.capCtrlStored i v).get (F.CAP_CTRL_STUCKTO i) = bits v 24 12 ∧
    (d.capCtrlStored i v).get (F.CAP_CTRL_IE i) = bits v 1 1 := by
  unfold Dev.capCtrlStored
  simp (disch := (simp only [fkey]; omega)) only [Dev.puts_cons, Dev.puts_nil, Dev.get_put_ne, Dev.get_put_self, bits_mod,
    and_self]

theorem Dev.capStuckArm_frame {l : List Fld} (hl : T.capStuck i ∈ l) : OnlyRegs d (d.capStuckArm i) l :=
  OnlyRegs.ite ((OnlyRegs.refl d l).put _ 0 hl) ((OnlyRegs.refl d l).put _ _ hl)

theorem Dev.capRecount_frame {l : List Fld} (hs : H.capSince i ∈ l) (hl : H.capDue i ∈ l) : OnlyRegs d (d.capRecount i) l := by
  have hsince : OnlyRegs d (d.put (H.capSince i) (d.now + 1)) l := (OnlyRegs.refl d l).put _ _ hs
  exact OnlyRegs.ite (hsince.put _ _ hl) hsince

theorem OnlyRegs.trans {d e g : Dev} {l : List Fld} (h : OnlyRegs d e l) (k : OnlyRegs e g l) : OnlyRegs d g l :=
  ⟨h.1.trans k.1, (h.append k).2⟩

/-- A write with FILTN beside 0 stores its fields, and restarts what R163 says. -/
theorem Dev.capCtrlWrite_restarts {v : Nat} (hv : bits v 8 8 ≠ 0) :
    OnlyRegs (d.capCtrlStored i v) (d.capCtrlWrite i v) (capCountFlds i) := by
  have hpresc (e : Dev) (c : Bool) : OnlyRegs e (e.when c (·.clr (H.capPresc i))) (capCountFlds i) :=
    OnlyRegs.ite ((OnlyRegs.refl e _).put _ 0 (by simp [capCountFlds])) (.refl e _)
  have hfilt (e : Dev) (c : Bool) : OnlyRegs e (e.when c (·.capRecount i)) (capCountFlds i) :=
    OnlyRegs.ite (e.capRecount_frame i (by simp [capCountFlds]) (by simp [capCountFlds])) (.refl e _)
  unfold Dev.capCtrlWrite
  rw [if_neg hv]
  exact ((hpresc _ _).trans (hfilt _ _)).trans (Dev.capStuckArm_frame _ i (by simp [capCountFlds]))

theorem capCtrlFlds_apart (hi : i < 12) : ∀ f ∈ capCtrlFlds i, ∀ g ∈ capCountFlds i, f.key ≠ g.key := by
  simp [capCtrlFlds, capCountFlds, fkey, hkey]
  omega

theorem Dev.capCtrlWrite_stores (hi : i < 12) {v : Nat} (hv : bits v 8 8 ≠ 0) {f : Fld} (hf : f ∈ capCtrlFlds i) :
    (d.capCtrlWrite i v).get f = (d.capCtrlStored i v).get f :=
  (d.capCtrlWrite_restarts i hv).1 f (capCtrlFlds_apart i hi f hf)

theorem Dev.capCtrlWrite_frame {v : Nat} (hv : bits v 8 8 ≠ 0) :
    OnlyRegs d (d.capCtrlWrite i v) (capCtrlFlds i ++ capCountFlds i) :=
  (d.capCtrlStored_frame i v).append (d.capCtrlWrite_restarts i hv)

end

/-! ### Accepted levels (R157, R158, R160) -/

/-- A level taken as the accepted one, with the stuck check begun anew. -/
def Dev.capTaken (d : Dev) (i : Nat) (level : Bool) : Dev :=
  ((d.puts [(F.CAP_STAT_VALID i, 1), (F.CAP_STAT_LEVEL i, b2n level), (F.CAP_STAT_RAW i, b2n level), (H.capDue i, 0),
    (H.capSince i, d.now + 1)]).puts [(H.capLvlTick i, d.now + 1), (H.capStuckDone i, 0)]).capStuckArm i

/-- What it writes. -/
def capTakenFlds (i : Nat) : List Fld :=
  [F.CAP_STAT_VALID i, F.CAP_STAT_LEVEL i, F.CAP_STAT_RAW i, H.capDue i, H.capSince i, H.capLvlTick i, H.capStuckDone i,
    T.capStuck i]

/-- The edge counted, and the rejected candidates forgotten. -/
def Dev.capCounted (d : Dev) (i : Nat) (level : Bool) : Dev := ((d.capTaken i level).inc (F.CAP_STAT_ECNT i)).clr (H.capRej i)

/-- OVR of an edge that finds a capture unread. -/
def Dev.capOverrun (d : Dev) (i : Nat) (read : Bool) : Dev :=
  if (d.clr (H.capPresc i)).bit (F.CAP_STAT_FULL i) && !read then (d.clr (H.capPresc i)).capStat i (F.CAP_STAT_OVR i)
  else d.clr (H.capPresc i)

/-- The capture itself. -/
def Dev.capHeld (d : Dev) (i : Nat) : Dev :=
  let e := d.puts [(H.capOldTb i, d.get (F.CAP_TB_TB i)), (H.capOldEp i, d.get (H.capEpoch i)), (H.capNewAt i, d.now + 1)]
  e.puts [(F.CAP_TB_TB i, e.tb), (H.capEpoch i, e.epoch), (F.CAP_STAT_FULL i, 1)]

/-- What a capture writes beside OVR. -/
def capHeldFlds (i : Nat) : List Fld :=
  [H.capOldTb i, H.capOldEp i, H.capNewAt i, F.CAP_TB_TB i, H.capEpoch i, F.CAP_STAT_FULL i]

section
variable (d : Dev) {i : Nat} (level read : Bool) (hi : i < 12)

theorem Dev.capTaken_frame : OnlyRegs d (d.capTaken i level) (capTakenFlds i) := by
  have hputs : OnlyRegs d ((d.puts [(F.CAP_STAT_VALID i, 1), (F.CAP_STAT_LEVEL i, b2n level), (F.CAP_STAT_RAW i, b2n level),
      (H.capDue i, 0), (H.capSince i, d.now + 1)]).puts [(H.capLvlTick i, d.now + 1), (H.capStuckDone i, 0)]) (capTakenFlds i) :=
    ((OnlyRegs.refl d _).puts _ (by simp [capTakenFlds])).puts _ (by simp [capTakenFlds])
  exact hputs.trans (Dev.capStuckArm_frame _ i (by simp [capTakenFlds]))

theorem Dev.capAccept_first (h : d.get (F.CAP_STAT_VALID i) = 0) : d.capAccept i level read = d.capTaken i level := by
  simp [Dev.capAccept, Dev.capTaken, Dev.bit, h]

theorem Dev.capAccept_edge (h : d.get (F.CAP_STAT_VALID i) = 1) (hl : level ≠ d.bit (F.CAP_STAT_LEVEL i))
    (hsel : (d.capCounted i level).getBit (F.CAP_CTRL_EDGE i) (if level then 0 else 1) = true) :
    d.capAccept i level read = (d.capCounted i level).capEdge i read := by
  have hv : d.bit (F.CAP_STAT_VALID i) = true := by simp [Dev.bit, h]
  have hlevel : (level != d.bit (F.CAP_STAT_LEVEL i)) = true := by simpa using hl
  unfold Dev.capAccept
  simp only [hv, hlevel, Bool.not_true, Bool.not_false, Bool.true_and, Bool.false_or, if_true]
  exact if_pos hsel

theorem Dev.capEdge_captures (hp : d.get (F.CAP_CTRL_PRESC i) ≤ d.get (H.capPresc i)) : d.capEdge i read =
    if ((d.capOverrun i read).capHeld i).bit (F.CAP_CTRL_IE i) then (((d.capOverrun i read).capHeld i).raise (200 + i)).wake 6
    else (d.capOverrun i read).capHeld i := if_pos hp

include hi

theorem Dev.capTaken_get : (d.capTaken i level).get (F.CAP_STAT_VALID i) = 1 ∧
    (d.capTaken i level).get (F.CAP_STAT_LEVEL i) = b2n level := by
  have hne : ∀ f ∈ [F.CAP_STAT_VALID i, F.CAP_STAT_LEVEL i], ∀ g ∈ [T.capStuck i], f.key ≠ g.key := by
    simp [fkey, hkey]
    omega
  have hlevel : b2n level % 2 ^ 1 = b2n level := by cases level <;> rfl
  unfold Dev.capTaken
  rw [(Dev.capStuckArm_frame _ i (by simp)).1 _ (hne _ (by simp)), (Dev.capStuckArm_frame _ i (by simp)).1 _ (hne _ (by simp))]
  simp (disch := (simp only [fkey, hkey]; omega)) only [Dev.puts_cons, Dev.puts_nil, Dev.get_put_ne, Dev.get_put_self, hlevel]
  decide

theorem Dev.capHeld_get : (d.capHeld i).get (F.CAP_TB_TB i) = d.tb ∧ (d.capHeld i).get (H.capEpoch i) = d.epoch ∧
    (d.capHeld i).get (F.CAP_STAT_FULL i) = 1 := by
  have htb : d.get F.TB_COUNT_COUNT % 2 ^ 36 = d.get F.TB_COUNT_COUNT := d.get_mod _
  have hep : d.get F.TB_EPOCH_EPOCH % 2 ^ 36 = d.get F.TB_EPOCH_EPOCH := d.get_mod _
  unfold Dev.capHeld Dev.tb Dev.epoch
  simp (disch := (simp only [fkey, hkey]; omega)) only [Dev.puts_cons, Dev.puts_nil, Dev.get_put_ne, Dev.get_put_self, htb, hep]
  decide

theorem Dev.capOverrun_writes : OnlyQuiet d (d.capOverrun i read) [H.capPresc i, F.CAP_STAT_OVR i] := by
  have hclr : OnlyQuiet d (d.clr (H.capPresc i)) [H.capPresc i, F.CAP_STAT_OVR i] := OnlyQuiet.put (.refl d _) 0 (by simp)
  exact OnlyQuiet.ite (hclr.trans ((Dev.capStat_writes _ hi _).mono (by simp))) hclr

theorem Dev.capOverrun_ovr :
    (d.get (F.CAP_STAT_FULL i) = 1 → read = false → (d.capOverrun i read).get (F.CAP_STAT_OVR i) = 1) ∧
    (d.get (F.CAP_STAT_FULL i) = 0 → (d.capOverrun i read).get (F.CAP_STAT_OVR i) = d.get (F.CAP_STAT_OVR i)) := by
  have hclr {f : Fld} (hne : f.key ≠ (H.capPresc i).key) : (d.clr (H.capPresc i)).get f = d.get f := Dev.get_put_ne d 0 hne
  have hfull : (d.clr (H.capPresc i)).get (F.CAP_STAT_FULL i) = d.get (F.CAP_STAT_FULL i) := hclr (by simp only [fkey, hkey]; omega)
  unfold Dev.capOverrun Dev.bit
  rw [hfull]
  refine ⟨fun h1 hr => ?_, fun h0 => ?_⟩
  · rw [if_pos (by simp [h1, hr])]
    exact Dev.capStat_sets _ hi (capStatBits_quiet i hi _ (by simp)) rfl
  · rw [if_neg (by simp [h0])]
    exact hclr (by simp only [fkey, hkey]; omega)

theorem capHeldFlds_quiet : ∀ f ∈ F.CAP_STAT_OVR i :: capHeldFlds i, f.quiet = true := by
  have hall : ∀ i < 12, ∀ f ∈ F.CAP_STAT_OVR i :: capHeldFlds i, f.quiet = true := by decide
  exact hall i hi

/-- The capture of an edge: the stamp, FULL, and OVR where a capture stood unread. -/
theorem Dev.capEdge_holds (hp : d.get (F.CAP_CTRL_PRESC i) ≤ d.get (H.capPresc i)) :
    (d.capEdge i read).get (F.CAP_TB_TB i) = d.tb ∧ (d.capEdge i read).get (H.capEpoch i) = d.epoch ∧
    (d.capEdge i read).get (F.CAP_STAT_FULL i) = 1 ∧
    (d.get (F.CAP_STAT_FULL i) = 1 → read = false → (d.capEdge i read).get (F.CAP_STAT_OVR i) = 1) ∧
    (d.get (F.CAP_STAT_FULL i) = 0 → (d.capEdge i read).get (F.CAP_STAT_OVR i) = d.get (F.CAP_STAT_OVR i)) ∧
    OnlyQuiet d (d.capEdge i read) (H.capPresc i :: F.CAP_STAT_OVR i :: capHeldFlds i) := by
  have hheld : OnlyQuiet ((d.capOverrun i read).capHeld i) (d.capEdge i read) [] := by
    rw [d.capEdge_captures read hp]
    exact OnlyQuiet.ite (((OnlyQuiet.refl _ _).raise (by omega)).wake 6) (.refl _ _)
  have hval {f : Fld} (hf : f ∈ F.CAP_STAT_OVR i :: capHeldFlds i) :
      (d.capEdge i read).get f = ((d.capOverrun i read).capHeld i).get f := hheld f (capHeldFlds_quiet hi f hf) (by simp)
  have hover := d.capOverrun_writes read hi
  have htb : (d.capOverrun i read).tb = d.tb := hover _ (by decide) (by simp [fkey, hkey]; omega)
  have hepoch : (d.capOverrun i read).epoch = d.epoch := hover _ (by decide) (by simp [fkey, hkey]; omega)
  have hframe : OnlyRegs (d.capOverrun i read) ((d.capOverrun i read).capHeld i) (capHeldFlds i) :=
    OnlyRegs.puts (OnlyRegs.puts (.refl _ _) _ (by simp [capHeldFlds])) _ (by simp [capHeldFlds])
  have hovr : (d.capEdge i read).get (F.CAP_STAT_OVR i) = (d.capOverrun i read).get (F.CAP_STAT_OVR i) :=
    (hval (by simp)).trans (hframe.1 _ (by simp [capHeldFlds, fkey, hkey]; omega))
  obtain ⟨hstamp, hep, hfull⟩ := (d.capOverrun i read).capHeld_get hi
  rw [hovr, hval (by simp [capHeldFlds]), hval (by simp [capHeldFlds]), hval (by simp [capHeldFlds]), hstamp, htb, hep, hepoch]
  obtain ⟨hunread, hempty⟩ := d.capOverrun_ovr read hi
  refine ⟨rfl, rfl, hfull, hunread, hempty, ?_⟩
  exact ((hover.mono (by simp)).trans (hframe.quiet.mono fun _ hf => by simp [hf])).trans (hheld.mono (by simp))

/-- What an edge leaves for its capture: time, FULL, OVR, the selection and the prescaler. -/
def capKeptFlds (i : Nat) : List Fld :=
  [F.TB_COUNT_COUNT, F.TB_EPOCH_EPOCH, F.CAP_STAT_FULL i, F.CAP_STAT_OVR i, F.CAP_CTRL_PRESC i, H.capPresc i, F.CAP_CTRL_EDGE i]

theorem Dev.capCounted_keeps {f : Fld} (hf : f ∈ capKeptFlds i) : (d.capCounted i level).get f = d.get f := by
  have hne : ∀ f ∈ capKeptFlds i, ∀ g ∈ capTakenFlds i ++ [F.CAP_STAT_ECNT i, H.capRej i], f.key ≠ g.key := by
    simp [capKeptFlds, capTakenFlds, fkey, hkey]
    omega
  have hframe : OnlyRegs d (d.capCounted i level) (capTakenFlds i ++ [F.CAP_STAT_ECNT i, H.capRej i]) :=
    (d.capTaken_frame level).append (((OnlyRegs.refl _ _).put _ _ (by simp)).put _ 0 (by simp))
  exact hframe.1 f (hne f hf)

theorem Dev.capCounted_get : (d.capCounted i level).get (F.CAP_STAT_LEVEL i) = b2n level ∧
    (d.capCounted i level).get (F.CAP_STAT_ECNT i) = (d.get (F.CAP_STAT_ECNT i) + 1) % 256 := by
  have hecnt : (d.capTaken i level).get (F.CAP_STAT_ECNT i) = d.get (F.CAP_STAT_ECNT i) :=
    (d.capTaken_frame level).1 _ (by simp [capTakenFlds, fkey, hkey]; omega)
  unfold Dev.capCounted Dev.inc Dev.clr
  simp (disch := (simp only [fkey, hkey]; omega)) only [Dev.get_put_ne, Dev.get_put_self, hecnt, (d.capTaken_get level hi).2,
    Nat.reducePow, and_self]

/-- The accepted level and the count of edges stand through the capture of the edge. -/
theorem Dev.capEdge_keeps (hp : d.get (F.CAP_CTRL_PRESC i) ≤ d.get (H.capPresc i)) {f : Fld}
    (hf : f ∈ [F.CAP_STAT_LEVEL i, F.CAP_STAT_ECNT i]) : (d.capEdge i read).get f = d.get f := by
  have hquiet : ∀ i < 12, ∀ f ∈ [F.CAP_STAT_LEVEL i, F.CAP_STAT_ECNT i], f.quiet = true := by decide
  have hne : ∀ f ∈ [F.CAP_STAT_LEVEL i, F.CAP_STAT_ECNT i], ∀ g ∈ H.capPresc i :: F.CAP_STAT_OVR i :: capHeldFlds i,
      f.key ≠ g.key := by
    simp [capHeldFlds, fkey, hkey]
    omega
  obtain ⟨-, -, -, -, -, hframe⟩ := d.capEdge_holds read hi hp
  exact hframe f (hquiet i hi f hf) (hne f hf)

/-- A selected edge with the prescaler at its end, accepted: its level, its count and the capture. -/
theorem Dev.capAccept_captures (hv : d.get (F.CAP_STAT_VALID i) = 1) (hl : level ≠ d.bit (F.CAP_STAT_LEVEL i))
    (hsel : d.getBit (F.CAP_CTRL_EDGE i) (if level then 0 else 1) = true)
    (hp : d.get (F.CAP_CTRL_PRESC i) ≤ d.get (H.capPresc i)) :
    (d.capAccept i level read).get (F.CAP_TB_TB i) = d.tb ∧ (d.capAccept i level read).get (F.CAP_STAT_LEVEL i) = b2n level ∧
    (d.capAccept i level read).get (H.capEpoch i) = d.epoch ∧ (d.capAccept i level read).get (F.CAP_STAT_FULL i) = 1 ∧
    (d.get (F.CAP_STAT_FULL i) = 1 → read = false → (d.capAccept i level read).get (F.CAP_STAT_OVR i) = 1) ∧
    (d.get (F.CAP_STAT_FULL i) = 0 → (d.capAccept i level read).get (F.CAP_STAT_OVR i) = d.get (F.CAP_STAT_OVR i)) ∧
    (d.capAccept i level read).get (F.CAP_STAT_ECNT i) = (d.get (F.CAP_STAT_ECNT i) + 1) % 256 := by
  have hkeep {f : Fld} (hf : f ∈ capKeptFlds i) : (d.capCounted i level).get f = d.get f := d.capCounted_keeps level hi hf
  have hend : (d.capCounted i level).get (F.CAP_CTRL_PRESC i) ≤ (d.capCounted i level).get (H.capPresc i) := by
    rw [hkeep (by simp [capKeptFlds]), hkeep (by simp [capKeptFlds])]
    exact hp
  have hsel' : (d.capCounted i level).getBit (F.CAP_CTRL_EDGE i) (if level then 0 else 1) = true := by
    unfold Dev.getBit at hsel ⊢
    rw [hkeep (by simp [capKeptFlds])]
    exact hsel
  have htb : (d.capCounted i level).tb = d.tb := hkeep (by simp [capKeptFlds])
  have hepoch : (d.capCounted i level).epoch = d.epoch := hkeep (by simp [capKeptFlds])
  have hfull : (d.capCounted i level).get (F.CAP_STAT_FULL i) = d.get (F.CAP_STAT_FULL i) := hkeep (by simp [capKeptFlds])
  have hovr : (d.capCounted i level).get (F.CAP_STAT_OVR i) = d.get (F.CAP_STAT_OVR i) := hkeep (by simp [capKeptFlds])
  obtain ⟨hlevel, hecnt⟩ := d.capCounted_get level hi
  obtain ⟨hstamp, hheld, hset, hunread, hempty, -⟩ := (d.capCounted i level).capEdge_holds read hi hend
  rw [hfull] at hunread hempty
  rw [d.capAccept_edge level read hv hl hsel']
  exact ⟨hstamp.trans htb, (Dev.capEdge_keeps _ read hi hend (by simp)).trans hlevel, hheld.trans hepoch, hset, hunread,
    fun h0 => (hempty h0).trans hovr, (Dev.capEdge_keeps _ read hi hend (by simp)).trans hecnt⟩

end

/-! ### Levels (R157) -/

section
variable (d : Dev) {i : Nat} {level : Bool} (read : Bool)

theorem Dev.capLevel_rejects (hv : d.get (F.CAP_STAT_VALID i) = 1) (hl : level = d.bit (F.CAP_STAT_LEVEL i))
    (hdue : d.get (H.capDue i) ≠ 0) : d.capLevel i level read = d.capReject i := by
  simp [Dev.capLevel, hl, Dev.bit, hv, hdue]

variable (hl : d.get (F.CAP_STAT_VALID i) = 0 ∨ level ≠ d.bit (F.CAP_STAT_LEVEL i)) (hdue : d.get (H.capDue i) = 0)
include hl hdue

theorem Dev.capLevel_eq : d.capLevel i level read =
    if d.capEarliest i = d.now then d.capAccept i level read
    else d.puts [(F.CAP_STAT_RAW i, b2n level), (H.capDue i, d.capEarliest i + 1)] := by
  have hnew : (d.bit (F.CAP_STAT_VALID i) && level == d.bit (F.CAP_STAT_LEVEL i)) = false := by
    rcases hl with hl | hl
    · simp [Dev.bit, hl]
    · simp [hl]
  have hnone : d.bit (H.capDue i) = false := by simp [Dev.bit, hdue]
  unfold Dev.capLevel
  simp only [hnew, hnone, Bool.false_and, Bool.false_eq_true, if_false]

end

/-- Settles O29: each command runs the step of the device that its clause names, and what that step writes is read off there. -/
theorem captureInputsComplete : Obligations.CaptureInputsComplete := by
  unfold Obligations.CaptureInputsComplete
  refine ⟨fun s i level hv hdue ht => ?first, fun s i level hv hl hdue => ⟨fun ht => ?candidate, fun ht hsel hp => ?capture⟩,
    fun s i level hv hl hdue => ?reject, fun s a i => ⟨fun hnew => ?read, fun hnew => ?readBefore⟩, fun s i hi h7 => ?eighth,
    fun s i ht => ?stuck, fun s i v => ⟨fun hcalm hv => ?ignored, fun hcalm hv => ?stores, fun hwait => ?waits⟩⟩
  case first =>
    refine EndsDev.of_ok (f := (·.capLevel i.val level _)) rfl ?_
    rw [Dev.capLevel_eq _ _ (.inl hv) hdue, if_pos ht, Dev.capAccept_first _ _ _ hv]
    obtain ⟨hvalid, hlevel⟩ := s.dev.capTaken_get level i.isLt
    refine ⟨hvalid, hlevel, (s.dev.capTaken_frame level).1 _ ?_, (s.dev.capTaken_frame level).1 _ ?_⟩ <;>
      (simp [capTakenFlds, fkey, hkey]; omega)
  case candidate =>
    refine EndsDev.of_ok (f := (·.capLevel i.val level _)) rfl ?_
    rw [Dev.capLevel_eq _ _ (.inr hl) hdue, if_neg ht]
    have hne : (F.CAP_STAT_RAW i.val).key ≠ (H.capDue i.val).key := by simp only [fkey, hkey]; omega
    refine ⟨?_, Dev.get_put_self _ (H.capDue i.val) _, (OnlyRegs.refl _ _).puts _ (by simp)⟩
    rw [Dev.puts_cons, Dev.puts_cons, Dev.puts_nil, Dev.get_put_ne _ _ hne, Dev.get_put_self]
    cases level <;> rfl
  case capture =>
    refine EndsDev.of_ok (f := (·.capLevel i.val level _)) rfl ?_
    rw [Dev.capLevel_eq _ _ (.inr hl) hdue, if_pos ht]
    exact s.dev.capAccept_captures level _ i.isLt hv hl hsel hp
  case reject =>
    refine EndsDev.of_ok (f := (·.capLevel i.val level _)) rfl ?_
    rw [Dev.capLevel_rejects _ _ hv hl hdue]
    obtain ⟨hdue, hlevel, hrej, -⟩ := s.dev.capReject_rejects i.isLt
    exact ⟨hdue, hlevel, hrej⟩
  case read =>
    refine EndsDev.of_ok (f := fun d => Dev.returned ((d.touch a).capRead a i.val) a) rfl ?_
    have hkeep {f : Fld} (hf : f ∈ capStampFlds i.val) := s.dev.touch_get a (capStampFlds_quiet i.val i.isLt f hf)
    have hnot : (s.dev.touch a).get (H.capNewAt i.val) ≠ (s.dev.touch a).now + 1 := by
      rwa [hkeep (by simp [capStampFlds]), s.dev.touch_now a]
    obtain ⟨htb, hfull, hep, hframe⟩ := (s.dev.touch a).capRead_clears i.isLt a hnot
    exact ⟨htb.trans (hkeep (by simp [capStampFlds])), hfull, hep.trans (hkeep (by simp [capStampFlds])), hframe⟩
  case readBefore =>
    refine EndsDev.of_ok (f := fun d => Dev.returned ((d.touch a).capRead a i.val) a) rfl ?_
    have hkeep {f : Fld} (hf : f ∈ capStampFlds i.val) := s.dev.touch_get a (capStampFlds_quiet i.val i.isLt f hf)
    have hjust : (s.dev.touch a).get (H.capNewAt i.val) = (s.dev.touch a).now + 1 := by
      rwa [hkeep (by simp [capStampFlds]), s.dev.touch_now a]
    obtain ⟨htb, hep, hframe⟩ := (s.dev.touch a).capRead_before i.isLt a hjust
    exact ⟨htb.trans (hkeep (by simp [capStampFlds])), hep.trans (hkeep (by simp [capStampFlds])), hframe⟩
  case eighth =>
    refine EndsDev.of_ok (f := fun d => if i.val < 12 then d.capReject i.val else d.ccRejected (i.val - 12)) rfl ?_
    rw [if_pos hi]
    obtain ⟨-, -, hrej, hact⟩ := s.dev.capReject_rejects hi
    exact ⟨hact h7, hrej.trans (by rw [h7]; rfl)⟩
  case stuck =>
    exact EndsDev.of_ok (f := (·.capStuckEnd i.val)) rfl (s.dev.capStuckEnd_sets i.isLt ht)
  case ignored =>
    exact (State.commitRow_acts _ _ _ _ hcalm).trans (next_congr (if_pos hv))
  case stores =>
    refine EndsDev.of_ok (State.commitRow_acts _ _ _ _ hcalm) ?_
    have hstore {f : Fld} (hf : f ∈ capCtrlFlds i.val) := s.dev.capCtrlWrite_stores i.val i.isLt hv hf
    obtain ⟨hfiltn, hedge, hpresc, hstuck, hie⟩ := s.dev.capCtrlStored_get i.val v.toNat
    have hframe := s.dev.capCtrlWrite_frame i.val hv
    refine ⟨(hstore ?_).trans hfiltn, (hstore ?_).trans hedge, (hstore ?_).trans hpresc, (hstore ?_).trans hstuck,
      (hstore ?_).trans hie, hframe.1 _ ?_, hframe⟩
    case refine_6 =>
      simp [capCtrlFlds, capCountFlds, fkey, hkey]
      omega
    all_goals simp [capCtrlFlds]
  case waits =>
    exact State.commitRow_waits _ _ _ _ hwait

end Sys2Proof.Machine

/-!
Type-C fields: the register fields by which the attach rules of a port are stated (R164-R190), and which functions of the protocol
engine, the guard, the meters and Contour leave them alone. A frame names the Type-C fields that a function does write.
-/
namespace Sys2Proof.Machine

/-! ### The class -/

/-- The places of the Type-C fields in a port's block, by register and low bit: PRTnn_CTRL, TOGGLE, DEBOUNCE and CCFILT,
PRTnn_ATT_STAT but for RPOWN and RAPRES, PRTnn_ATT_EVT, PRTnn_ATT_CNT, PRTnn_CONTRACT.VALID, PRTnn_SWAP_STAT.LASTEND, and
GRDnn_STAT.GATES and STOPWHY. -/
@[simp] def typeCPlace (r lo : Nat) : Bool :=
  decide (r < 4) || (r == 4 && lo != 10 && lo != 12) || r == 5 || r == 7 || (r == 0xC && lo == 35) || (r == 0x1D && lo == 12) ||
    (r == 0x31 && (lo == 0 || lo == 19))

/-- A field by which the rules of a port's attach are told: SYS_MODE, or one of a port's block. -/
def Fld.typeC (f : Fld) : Bool :=
  f.key / 4096 == 0x200010 || (decide (0x201000 ≤ f.key / 4096) && decide (f.key / 4096 < 0x201C00) &&
    typeCPlace (f.key / 4096 % 128) (f.key / 64 % 64))

/-- No variable or timer is a Type-C field. -/
@[simp] theorem typeC_hidden (n i lvl w r : Nat) : (Fld.mk (hkey n i lvl) w r).typeC = false := by
  have h0 : ¬ hkey n i lvl / 4096 < 0x201C00 := by simp only [hkey]; omega
  have h1 : hkey n i lvl / 4096 ≠ 0x200010 := by omega
  simp [Fld.typeC, h0, h1]

/-- The class goes by the place of a register in the port's block. -/
@[simp] theorem typeC_port {o i lo lvl w r : Nat} (hi : i < 24) (ho : 0x201000 ≤ o) (ho' : o < 0x201080) (hlo : lo < 64) (hl : lvl < 4) :
    (Fld.mk (fkey (o + i * 128) lo 0 lvl) w r).typeC = typeCPlace (o % 128) lo := by
  have ha : fkey (o + i * 128) lo 0 lvl / 4096 = o + i * 128 := by simp only [fkey]; omega
  have hb : fkey (o + i * 128) lo 0 lvl / 64 % 64 = lo := by simp only [fkey]; omega
  have hm : (o + i * 128) % 128 = o % 128 := by omega
  have h0 : o + i * 128 ≠ 0x200010 := by omega
  have h1 : o + i * 128 < 0x201C00 := by omega
  have h2 : 0x201000 ≤ o + i * 128 := by omega
  simp [Fld.typeC, ha, hb, hm, h0, h1, h2]

theorem typeC_ne {f g : Fld} (hf : f.typeC = true) (hg : g.typeC = false) : f.key ≠ g.key := by
  intro h
  have : f.typeC = g.typeC := by simp only [Fld.typeC, h]
  rw [hf, hg] at this
  cases this

theorem Fld.quiet_of_typeC {f : Fld} (hf : f.typeC = true) : f.quiet = true := by
  have hne : f.key ≠ F.STO_EVT_LOGDROP.key := typeC_ne hf (by decide)
  simp only [Fld.typeC, Bool.or_eq_true, Bool.and_eq_true, beq_iff_eq, decide_eq_true_eq] at hf
  simp only [Fld.quiet, Bool.and_eq_true, Bool.not_eq_true', Bool.and_eq_false_iff, bne_iff_ne, decide_eq_false_iff_not, ne_eq,
    List.contains_eq_mem, List.mem_cons, List.not_mem_nil, or_false]
  refine ⟨⟨⟨⟨?_, ?_⟩, ?_⟩, hne⟩, ?_⟩ <;> omega

/-! ### Frames -/

/-- No Type-C field but those of a list differs between two device parts, and the tick is the same. -/
structure KeepsTypeC (d e : Dev) (l : List Fld) : Prop where
  now : e.now = d.now
  get : ∀ f : Fld, f.typeC = true → (∀ g ∈ l, f.key ≠ g.key) → e.get f = d.get f

theorem Dev.puts_now (d : Dev) (ws : List (Fld × Nat)) : (d.puts ws).now = d.now := by
  induction ws generalizing d with
  | nil => rfl
  | cons w ws ih => exact ih _

theorem OnlyQuiet.keepsTypeC {d e : Dev} {l m : List Fld} (h : OnlyQuiet d e m) (hn : e.now = d.now)
    (hm : ∀ g ∈ m, g ∈ l ∨ g.typeC = false) : KeepsTypeC d e l where
  now := hn
  get f hf hl := h f (Fld.quiet_of_typeC hf) fun g hg => (hm g hg).elim (hl g) (typeC_ne hf)

section
variable {d e g : Dev} {l : List Fld}

theorem KeepsTypeC.refl (d : Dev) (l : List Fld) : KeepsTypeC d d l := ⟨rfl, fun _ _ _ => rfl⟩

theorem KeepsTypeC.trans (h : KeepsTypeC d e l) (k : KeepsTypeC e g l) : KeepsTypeC d g l :=
  ⟨k.now.trans h.now, fun f hf hl => (k.get f hf hl).trans (h.get f hf hl)⟩

theorem KeepsTypeC.mono {m : List Fld} (h : KeepsTypeC d e l) (hs : ∀ f ∈ l, f ∈ m) : KeepsTypeC d e m :=
  ⟨h.now, fun f hf hm => h.get f hf fun g hg => hm g (hs g hg)⟩

theorem KeepsTypeC.ite {c : Prop} [Decidable c] (h : KeepsTypeC d e l) (k : KeepsTypeC d g l) :
    KeepsTypeC d (if c then e else g) l := by
  split
  · exact h
  · exact k

theorem KeepsTypeC.foldl {α : Type} {step : Dev → α → Dev} (q : List α) (h : KeepsTypeC d e l)
    (hs : ∀ (e : Dev) (x : α), KeepsTypeC e (step e x) l) : KeepsTypeC d (q.foldl step e) l := by
  induction q generalizing e with
  | nil => exact h
  | cons x q ih => exact ih (h.trans (hs e x))

theorem KeepsTypeC.forN {n : Nat} {step : Nat → Dev → Dev} (h : KeepsTypeC d e l)
    (hs : ∀ i < n, ∀ e, KeepsTypeC e (step i e) l) : KeepsTypeC d (Dev.forN n step e) l :=
  Dev.forN_inv (P := fun x => KeepsTypeC d x l) h fun i hi x hx => hx.trans (hs i hi x)

variable (h : KeepsTypeC d e l)
include h

/-- A change of the tables alone. -/
theorem KeepsTypeC.tables (hr : g.regs = e.regs) (hn : g.now = e.now) : KeepsTypeC d g l :=
  h.trans ⟨hn, fun _ _ _ => Dev.get_of_regs hr⟩

theorem KeepsTypeC.put {f : Fld} (v : Nat) (hf : f ∈ l ∨ f.typeC = false) : KeepsTypeC d (e.put f v) l :=
  h.trans ⟨rfl, fun _ hx hl => Dev.get_put_ne e v (hf.elim (hl f) (typeC_ne hx))⟩

theorem KeepsTypeC.puts {ws : List (Fld × Nat)} (hw : ∀ w ∈ ws, w.1 ∈ l ∨ w.1.typeC = false) :
    KeepsTypeC d (e.puts ws) l :=
  h.trans ⟨e.puts_now ws, fun _ hx hl => Dev.get_puts_ne e ws fun w hw' => (hw w hw').elim (hl w.1) (typeC_ne hx)⟩

theorem KeepsTypeC.hwSet {f : Fld} (hf : f ∈ l ∨ f.typeC = false) : KeepsTypeC d (e.hwSet f) l :=
  (h.put 1 hf).tables rfl rfl

theorem KeepsTypeC.raise {s : Nat} (hs : s < 256) : KeepsTypeC d (e.raise s) l :=
  h.trans ⟨e.raise_now s, fun _ hx _ => e.raise_get hs (Fld.quiet_of_typeC hx)⟩

theorem KeepsTypeC.wake (b : Nat) : KeepsTypeC d (e.wake b) l :=
  h.trans ⟨e.wake_now b, fun _ hx _ => e.wake_get b (Fld.quiet_of_typeC hx)⟩

theorem KeepsTypeC.event {evt ie : Fld} {s : Nat} (hs : s < 256) (he : evt ∈ l ∨ evt.typeC = false) :
    KeepsTypeC d (e.event evt ie s) l :=
  h.trans ⟨e.event_now evt ie s, fun _ hx hl =>
    e.event_get evt ie hs (Fld.quiet_of_typeC hx) (he.elim (hl evt) (typeC_ne hx))⟩

theorem KeepsTypeC.hwEnqueue {c : Nat} (ws : List Word) (hc : c < 64) : KeepsTypeC d (e.hwEnqueue c ws) l :=
  h.trans ⟨rfl, fun _ hx _ => e.hwEnqueue_get ws hc (Fld.quiet_of_typeC hx)⟩

theorem KeepsTypeC.logAppend (typ source : Nat) (data : List Nat) : KeepsTypeC d (e.logAppend typ source data) l := by
  refine h.trans ⟨?_, fun _ hx _ => e.logAppend_get typ source data (Fld.quiet_of_typeC hx)⟩
  unfold Dev.logAppend
  split
  · exact e.event_now _ _ _
  · rfl

end

/-- Where none differs, every Type-C field is as it was. -/
theorem KeepsTypeC.same {d e : Dev} (h : KeepsTypeC d e []) {f : Fld} (hf : f.typeC = true) : e.get f = d.get f :=
  h.get f hf (by simp)

/-! ### Meters -/

theorem Dev.now_ite {d e g : Dev} {c : Prop} [Decidable c] (h : e.now = d.now) (k : g.now = d.now) :
    (if c then e else g).now = d.now := by
  split
  · exact h
  · exact k

theorem Dev.segOpen_now (d : Dev) (p : Nat) : (d.segOpen p).now = d.now := by
  have hfull (e : Dev) : (e.segFullCheck p).now = e.now := Dev.now_ite (Dev.put_now e _ _) rfl
  unfold Dev.segOpen
  rw [hfull, Dev.puts_now]

theorem Dev.setSegs_now (d : Dev) (p : Nat) (q : List Seg) : (d.setSegs p q).now = d.now := rfl

theorem Dev.segQueue_now (d : Dev) (p : Nat) (g : Seg) : (d.segQueue p g).now = d.now := by
  have hnext (q : List Seg) : ((d.setSegs p q).inc (F.MTR_STAT_SER p)).now = d.now := Dev.put_now _ _ _
  unfold Dev.segQueue
  dsimp only
  split
  · refine Dev.now_ite ?_ (hnext _)
    rw [Dev.mtrEvt, Dev.event_now, Dev.puts_now, Dev.setSegs_now]
  · exact hnext _

theorem Dev.segNone_now (d : Dev) (p : Nat) : (d.segNone p).now = d.now := d.puts_now _

theorem Dev.segJoin_now (d : Dev) (p reason dit : Nat) (reopen : Bool) (l : Seg) :
    (d.segJoin p reason dit reopen l).now = d.now := by
  have hword (q : List Seg) (v : Nat) : ((d.setSegs p q).put (F.MTR_LSEGW0_WORD0 p) v).now = d.now := rfl
  unfold Dev.segJoin
  refine Dev.now_ite (Dev.now_ite ?_ ?_) (hword _ _)
  · rw [Dev.segOpen_now, Dev.puts_now, hword]
  · rw [Dev.segNone_now, Dev.puts_now, hword]

theorem Dev.segEnd_now (d : Dev) (p reason dit : Nat) : (d.segEnd p reason dit).now = d.now := by
  unfold Dev.segEnd Dev.mtrEvt
  rw [Dev.event_now, Dev.segNone_now, Dev.puts_now, Dev.segQueue_now]

theorem Dev.segClose_now (d : Dev) (p reason : Nat) (reopen : Bool) : (d.segClose p reason reopen).now = d.now := by
  have hdit (e : Dev) (c : Bool) : (e.when c (·.mtrEvt p (F.MTR_EVT_DIT p))).now = e.now :=
    Dev.now_ite (Dev.event_now _ _ _ _) rfl
  have hopen (e : Dev) : (e.when reopen (·.segOpen p)).now = e.now := Dev.now_ite (e.segOpen_now p) rfl
  unfold Dev.segClose
  dsimp only
  split
  · rw [hdit, Dev.segJoin_now]
  · exact Dev.now_ite rfl (by rw [hdit, hopen, Dev.segEnd_now])

theorem segFlds_not_typeC : ∀ p < 24, ∀ g ∈ segFlds p, g.typeC = false := by decide

/-! ### What the engines of a port leave alone -/

section
variable {d e : Dev} {l : List Fld} (h : KeepsTypeC d e l) {p : Nat} (hp : p < 24)
include h hp

theorem KeepsTypeC.segClose (reason : Nat) (reopen : Bool) : KeepsTypeC d (e.segClose p reason reopen) l :=
  h.trans ((e.segClose_writes hp reason reopen).keepsTypeC (e.segClose_now p reason reopen)
    fun g hg => .inr (segFlds_not_typeC p hp g hg))

theorem KeepsTypeC.attEvt {evt : Fld} (he : evt ∈ l ∨ evt.typeC = false) : KeepsTypeC d (e.attEvt p evt) l :=
  h.event (by omega) he

theorem KeepsTypeC.peEvt {evt : Fld} (he : evt ∈ l ∨ evt.typeC = false) : KeepsTypeC d (e.peEvt p evt) l := by
  have hk : peKind evt.lo ≤ 3 := by
    unfold peKind
    repeat' split
    all_goals decide
  exact h.event (by omega) he

theorem KeepsTypeC.hpmEvt {evt : Fld} (he : evt ∈ l ∨ evt.typeC = false) : KeepsTypeC d (e.hpmEvt p evt) l :=
  h.event (by omega) he

theorem KeepsTypeC.swapEvt {evt : Fld} (he : evt ∈ l ∨ evt.typeC = false) : KeepsTypeC d (e.swapEvt p evt) l :=
  h.event (by omega) he

theorem KeepsTypeC.cmdRecord (c : Cmd) (outcome : Nat) : KeepsTypeC d (e.cmdRecord p c outcome) l := by
  unfold Dev.cmdRecord
  dsimp only
  refine .ite (.ite (.hwEnqueue ?_ _ (Dev.get_lt _ _)) (.hwSet ?_ (by simp))) ?_ <;>
    refine .ite (.peEvt (.peEvt (h.puts ?_) hp ?_) hp ?_) (.peEvt (h.puts ?_) hp ?_) <;> simp [*]

/-! Commands -/

theorem KeepsTypeC.setCmds (q : List Cmd) : KeepsTypeC d (e.setCmds p q) l :=
  (h.tables (g := { e with cmdq := tput [] e.cmdq p q }) rfl rfl).put _ (by simp [*])

theorem KeepsTypeC.cmdEnd (outcome : Nat) : KeepsTypeC d (e.cmdEnd p outcome) l := by
  unfold Dev.cmdEnd
  refine .ite ?_ h
  split
  · exact h.put 0 (by simp)
  · next c q _ =>
    have hrest : KeepsTypeC d (((e.setCmds p q).clr (H.cmdRun p)).stop (T.cmdMiss p)) l := by
      refine .put (.put (h.setCmds hp q) 0 ?_) 0 ?_ <;> simp [*]
    exact .put (hrest.cmdRecord hp c outcome) _ (by simp [*])

theorem KeepsTypeC.cmdAbortAll : KeepsTypeC d (e.cmdAbortAll p) l :=
  .foldl _ (.puts (h.setCmds hp []) (by simp [*])) fun g c => (KeepsTypeC.refl g l).cmdRecord hp c 6

theorem KeepsTypeC.cmdJoined (outcome : Nat) : KeepsTypeC d (e.cmdJoined p (some outcome)) l :=
  .foldl _ (h.setCmds hp _) fun g c => (KeepsTypeC.refl g l).cmdRecord hp c outcome

/-! The contract and the guard -/

theorem KeepsTypeC.effUpdate : KeepsTypeC d (e.effUpdate p) l := by
  have hclamp : KeepsTypeC d (e.clampPut p) l :=
    .ite (h.put _ (by simp [*])) h
  refine .ite (.ite (.put (.puts hclamp ?_) _ ?_) (.puts hclamp ?_)) hclamp <;> simp [*]

theorem KeepsTypeC.conVoid (keepLimits : Bool) (hv : F.PRT_CONTRACT_VALID p ∈ l) : KeepsTypeC d (e.conVoid p keepLimits) l := by
  have hlim {g : Dev} (k : KeepsTypeC d g l) :
      KeepsTypeC d (if keepLimits then g else (g.put (H.vexp p) 500).effUpdate p) l :=
    .ite k (.effUpdate (k.put _ (by simp [*])) hp)
  have hkeep (v : Nat) : KeepsTypeC d (e.put (H.keepLim p) v) l :=
    h.put v (by simp [*])
  have hwrite {g : Dev} (k : KeepsTypeC d g l) :
      KeepsTypeC d ((((g.conTimersOff p).put (F.PRT_HPM_CEIL_CEIL p) 0).conWrite p 0).peEvt p (F.PRT_PE_EVT_CONTRACT p)) l := by
    refine .peEvt (.puts (.put (.puts k ?_) 0 ?_) ?_) hp ?_ <;> simp [*]
  refine .ite (hlim (.segClose (.ite (.hpmEvt (hwrite (hkeep _)) hp ?_) (hwrite (hkeep _))) hp 2 true))
    (.ite (hlim (.put (hkeep _) 0 ?_)) (hkeep _)) <;> simp [*]

theorem KeepsTypeC.gateStop (why : Nat) (hard : Bool) (hg : F.GRD_STAT_GATES p ∈ l) (hw : F.GRD_STAT_STOPWHY p ∈ l) :
    KeepsTypeC d (e.gateStop p why hard) l := by
  have hpend : KeepsTypeC d (e.puts [(F.GRD_STAT_PEND p, 0), (T.turnOn p, 0)]) l :=
    h.puts (by simp [*])
  refine .ite hpend (.ite (.ite (.put (.put hpend 2 ?_) _ ?_) hpend)
    (.logAppend (.event (.put (.puts hpend ?_) _ ?_) (by omega) ?_) _ _ _)) <;> simp [*]

theorem KeepsTypeC.disOn : KeepsTypeC d (e.disOn p) l := by
  refine .ite h (.ite (.put (.put (h.puts ?_) _ ?_) _ ?_) (.put (h.puts ?_) _ ?_)) <;> simp [*]

theorem KeepsTypeC.gateReq : KeepsTypeC d (e.gateReq p) l := by
  refine .ite h (.put (h.put 1 ?_) _ ?_) <;> simp [*]

omit hp in
theorem KeepsTypeC.vsetOff : KeepsTypeC d (e.vsetOff p) l :=
  h.puts (by simp [*])

/-! The end of a port's protocol -/

theorem KeepsTypeC.eprEnd : KeepsTypeC d (e.eprEnd p) l := by
  refine .ite (.peEvt (h.puts ?_) hp ?_) h <;> simp [*]

theorem KeepsTypeC.identityClear : KeepsTypeC d (e.identityClear p) l := by
  have hrec : KeepsTypeC d { e with idrec := tput [] e.idrec p [] } l := h.tables rfl rfl
  have hstop : KeepsTypeC d (({ e with idrec := tput [] e.idrec p [] } : Dev).stop (T.identity p)) l :=
    hrec.put 0 (by simp [*])
  exact .ite (.segClose (hstop.puts (by simp [*])) hp 4 true) hstop

theorem KeepsTypeC.hpmLeave : KeepsTypeC d (e.hpmLeave p) l := by
  unfold Dev.hpmLeave
  refine .ite (.identityClear (.hpmEvt (.puts (h.puts ?_) ?_) hp ?_) hp) (h.puts ?_) <;> simp [*]

theorem KeepsTypeC.swapOver (last : Nat) (hl : F.PRT_SWAP_STAT_LASTEND p ∈ l) : KeepsTypeC d (e.swapOver p last) l := by
  refine .ite (.swapEvt (h.puts ?_) hp ?_) (h.puts ?_) <;> simp [*]

omit hp in
theorem KeepsTypeC.txClear : KeepsTypeC d (e.txClear p) l := by
  refine .put (.put (h.tables (g := e.setTxs p []) rfl rfl) 0 ?_) 0 ?_ <;> simp [*]

omit hp in
theorem KeepsTypeC.protoOff : KeepsTypeC d (e.protoOff p) l :=
  .puts h.txClear (by simp [*])

theorem KeepsTypeC.vconnOff (hv : F.PRT_ATT_STAT_VCONNON p ∈ l) : KeepsTypeC d (e.vconnOff p) l :=
  h.puts (by simp [*])

/-! Attach states -/

omit hp in
theorem KeepsTypeC.contourPort (why : Nat) : KeepsTypeC d (e.contourPort p why) l := by
  have hbusy : F.BUD_STAT_BUSY.typeC = false := by decide
  refine .put (.puts (h.put _ ?_) ?_) _ ?_ <;> simp [*]

theorem KeepsTypeC.attSet (st : Nat) (hs : F.PRT_ATT_STAT_STATE p ∈ l) : KeepsTypeC d (e.attSet p st) l := by
  have hput : KeepsTypeC d (e.put (F.PRT_ATT_STAT_STATE p) st) l :=
    h.put st (by simp [*])
  refine .ite (.ite (.contourPort (hput.put _ ?_) 1) hput) (.ite hput (.contourPort (hput.puts ?_) 1)) <;> simp [*]

omit hp in
theorem KeepsTypeC.attTimersOff : KeepsTypeC d (e.attTimersOff p) l :=
  h.puts (by simp [*])

theorem KeepsTypeC.raUpdate : KeepsTypeC d (e.raUpdate p) l :=
  h.put _ (by simp [*])

theorem KeepsTypeC.recognise (hs : F.PRT_ATT_STAT_STATE p ∈ l) (ho : F.PRT_ATT_STAT_ORIENT p ∈ l)
    (hr : F.PRT_ATT_EVT_RECOG p ∈ l) : KeepsTypeC d (e.recognise p) l := by
  refine .ite h (.wake (.put (.raUpdate (.attEvt (h.puts ?_) hp ?_) hp) _ ?_) 1) <;> simp [*]

theorem KeepsTypeC.unattached (hs : F.PRT_ATT_STAT_STATE p ∈ l) (ho : F.PRT_ATT_STAT_ORIENT p ∈ l)
    (hr : F.PRT_ATT_EVT_RECOG p ∈ l) : KeepsTypeC d (e.unattached p) l := by
  unfold Dev.unattached
  refine .recognise (.put (.attSet (.puts h.attTimersOff ?_) hp _ hs) _ ?_) hp hs ho hr <;> simp [*]

/-! The start of a port in a role -/

omit hp in
theorem KeepsTypeC.ccRecount : KeepsTypeC d (e.ccRecount p) l :=
  h.forN fun _ _ g => .ite (KeepsTypeC.put (.refl g l) _ (by simp [*])) (.refl g l)

omit hp in
theorem KeepsTypeC.txArm : KeepsTypeC d (e.txArm p) l := by
  have huse {g : Dev} (k : KeepsTypeC d g l) (til : Nat) : KeepsTypeC d (g.lineUse p til) l := by
    refine .ccRecount (.ite (.put (k.puts ?_) _ ?_) (k.puts ?_)) <;> simp [*]
  unfold Dev.txArm
  split
  · exact h.put 0 (by simp)
  · refine .ite (h.put _ ?_) (.ite (.put (.put (huse (h.put _ ?_) _) _ ?_) _ ?_) (.put (huse (h.put _ ?_) _) _ ?_)) <;> simp [*]

omit hp in
theorem KeepsTypeC.tx (f : TxFrame) : KeepsTypeC d (e.tx p f) l := by
  have hq (q : List TxFrame) : KeepsTypeC d (e.setTxs p q) l := h.tables rfl rfl
  exact .ite (.txArm (hq _)) (hq _)

theorem KeepsTypeC.setRp (ng : Bool) : KeepsTypeC d (e.setRp p ng) l :=
  .ite (h.puts (by simp [*])) h

theorem KeepsTypeC.vconnCheck (hv : F.PRT_ATT_STAT_VCONNON p ∈ l) : KeepsTypeC d (e.vconnCheck p) l := by
  have hon : KeepsTypeC d (e.vconnOn p) l :=
    h.puts (by simp [*])
  refine .ite h (.ite h (.ite (.ite hon (.put (hon.put _ ?_) _ ?_)) (.ite hon h))) <;> simp [*]

theorem KeepsTypeC.discBegin (tgt : Nat) (idOnly cmd : Bool) : KeepsTypeC d (e.discBegin p tgt idOnly cmd) l := by
  have hex : KeepsTypeC d (e.exBegin p true 100) l :=
    .ite h (h.puts (by simp [*]))
  refine .tx (.puts (.puts (.ite hex (hex.put 14 ?_)) ?_) ?_) _ <;> simp [*]

theorem KeepsTypeC.srcDisc (hv : F.PRT_ATT_STAT_VCONNON p ∈ l) : KeepsTypeC d (e.srcDisc p) l := by
  have hvc := h.vconnCheck hp hv
  refine .ite (hvc.put 1 ?_) (.ite (.discBegin (hvc.put 0 ?_) hp 1 false false)
    (.put (.puts (.setRp (hvc.put 0 ?_) hp true) ?_) _ ?_)) <;> simp [*]

/-- The SRC_OFFER ask, whatever answers it. -/
theorem KeepsTypeC.offerAsk (reason : Nat) (epr : Bool) : KeepsTypeC d (e.offerAsk p reason epr) l := by
  have hdef {g : Dev} (k : KeepsTypeC d g l) : KeepsTypeC d (g.askDefault p 0) l := by
    refine .ite (.put (.puts (.peEvt k hp ?_) ?_) _ ?_) (.put (.puts (.peEvt k hp ?_) ?_) _ ?_) <;> simp [*]
  have hpost {g : Dev} (k : KeepsTypeC d g l) (w2 w3 : Nat) : KeepsTypeC d (g.askPost p 0 w2 w3) l := by
    unfold Dev.askPost
    refine .ite (hdef (.raise (k.puts ?_) (by omega))) (.ite (hdef (k.puts ?_)) (.ite (hdef (.peEvt (k.puts ?_) hp ?_))
      (.put (.raise (.put (.hwEnqueue (k.puts ?_) _ (Dev.get_lt _ _)) 1 ?_) (by omega)) _ ?_))) <;> simp [*]
  exact hpost (h.puts (by simp [*])) _ _

theorem KeepsTypeC.sched : KeepsTypeC d (e.sched p) l :=
  .put (.ite h (h.setRp hp false)) _ (by simp [*])

theorem KeepsTypeC.exEndIn (st : Nat) : KeepsTypeC d (e.exEndIn p st) l := by
  refine .sched (.put (h.puts ?_) st ?_) hp <;> simp [*]

theorem KeepsTypeC.noPd : KeepsTypeC d (e.noPd p) l := by
  have hnopd {g : Dev} (k : KeepsTypeC d g l) :
      KeepsTypeC d ((g.peEvt p (F.PRT_PE_EVT_NOPD p)).arm (T.noResp p) (msTicks 5000)) l := by
    refine .put (k.peEvt hp ?_) _ ?_ <;> simp [*]
  have hall := hnopd (.exEndIn (.protoOff (p := p) (h.cmdEnd hp 3)) hp 19)
  unfold Dev.noPd
  exact .ite (hall.puts (by simp)) hall

theorem KeepsTypeC.srcStart (reason : Nat) (hv : F.PRT_ATT_STAT_VCONNON p ∈ l) : KeepsTypeC d (e.srcStart p reason) l := by
  have hoff {g : Dev} (k : KeepsTypeC d g l) : KeepsTypeC d (Dev.forN 16 (fun i e => e.put (H.offer p i) 0) g) l :=
    k.forN fun i _ x => KeepsTypeC.put (.refl x l) 0 (by simp [*])
  have hramp {g : Dev} (k : KeepsTypeC d g l) : KeepsTypeC d ((g.rampTo p 500).gateReq p) l := by
    refine .gateReq (.put (k.puts ?_) _ ?_) hp <;> simp [*]
  have hall {g : Dev} (k : KeepsTypeC d g l) :
      KeepsTypeC d (if g.bit (H.pdOn p) then (g.srcDisc p).offerAsk p reason false else (g.vconnCheck p).noPd p) l :=
    .ite (.offerAsk (k.srcDisc hp hv) hp reason false) (.noPd (k.vconnCheck hp hv) hp)
  refine hall (hramp (hoff (.puts (h.put 1 ?_) ?_))) <;> simp [*]

theorem KeepsTypeC.snkStart : KeepsTypeC d (e.snkStart p) l := by
  have hreq {g : Dev} (k : KeepsTypeC d g l) : KeepsTypeC d ((g.setIset p 0).gateReq p) l :=
    .gateReq (k.puts (by simp [*])) hp
  have hall {g : Dev} (k : KeepsTypeC d g l) : KeepsTypeC d (if g.bit (H.pdOn p) then g.snkWait p 6 else g.noPd p) l := by
    refine .ite (.put (k.put 6 ?_) _ ?_) (k.noPd hp) <;> simp [*]
  exact hall (hreq (h.puts (by simp [*])))

end

end Sys2Proof.Machine

/-!
Leaving and entering the attach states of a port (R169-R173, R184, R186, R341): what the end of a port's protocol with its stop
leaves, and what the entries to an Unattached state, to Disabled, to ErrorRecovery and to the Attached states show.
-/
namespace Sys2Proof.Machine

/-! ### The contract is void (R242) -/

theorem Dev.conVoid_void (d : Dev) {p : Nat} (hp : p < 24) (keepLimits : Bool) :
    (d.conVoid p keepLimits).get (F.PRT_CONTRACT_VALID p) = 0 := by
  have hlim {g : Dev} (h : g.get (F.PRT_CONTRACT_VALID p) = 0) :
      (if keepLimits then g else (g.put (H.vexp p) 500).effUpdate p).get (F.PRT_CONTRACT_VALID p) = 0 := by
    split
    · exact h
    · rw [(KeepsTypeC.effUpdate (.put (.refl g []) 500 (by simp [*])) hp).same (by simp [hp]), h]
  have hwritten (g : Dev) : (g.conWrite p 0).get (F.PRT_CONTRACT_VALID p) = 0 := by
    unfold Dev.conWrite
    simp (disch := (simp only [fkey, hkey]; omega)) only [Dev.puts_cons, Dev.puts_nil, Dev.get_put_ne, Dev.get_put_self]
    rfl
  have hvoid {g : Dev} (h : g.get (F.PRT_CONTRACT_VALID p) = 0) : (g.put (F.PRT_HOLDSUM_SUM p) 0).get (F.PRT_CONTRACT_VALID p) = 0 := by
    rw [(KeepsTypeC.put (.refl g []) 0 (by simp [*])).same (by simp [hp]), h]
  unfold Dev.conVoid
  dsimp only
  generalize d.put (H.keepLim p) (if keepLimits then d.heldWord p else 0) = g
  by_cases hvalid : g.get (F.PRT_CONTRACT_VALID p) = 0
  · rw [if_neg (by simp [Dev.bit, hvalid])]
    split
    · exact hlim (hvoid hvalid)
    · exact hvalid
  · rw [if_pos (by simp [Dev.bit, hvalid])]
    refine hlim ?_
    rw [((KeepsTypeC.refl _ []).segClose hp 2 true).same (by simp [hp])]
    split
    · rw [(KeepsTypeC.hpmEvt (.peEvt (.refl _ []) hp (by simp [*])) hp (by simp [*])).same (by simp [hp]), hwritten]
    · rw [(KeepsTypeC.peEvt (.refl _ []) hp (by simp [*])).same (by simp [hp]), hwritten]

/-! ### A stop (R313, R341) -/

theorem Dev.gateStop_stops (d : Dev) {p : Nat} (hp : p < 24) (why : Nat) (hard : Bool) (hg : d.gates p = 1 ∨ d.gates p = 2) :
    (d.gateStop p why hard).gates p = 3 ∧ (d.gateStop p why hard).get (F.GRD_STAT_STOPWHY p) = why % 2 ^ 5 := by
  have hpend : (d.puts [(F.GRD_STAT_PEND p, 0), (T.turnOn p, 0)]).gates p = d.gates p :=
    (KeepsTypeC.puts (.refl d []) (by simp [*])).same (by simp [hp])
  unfold Dev.gateStop
  dsimp only
  rw [if_neg (by omega), if_neg (by omega)]
  generalize d.puts [(F.GRD_STAT_PEND p, 0), (T.turnOn p, 0)] = g
  have hrest {e : Dev} (n : Nat) (data : List Nat) {f : Fld} (hf : f.typeC = true) :
      (((e.arm (T.gateOff p) n).grdEvt p (F.GRD_TRIP_STOP p)).logAppend 2 0xF0 data).get f = e.get f :=
    (KeepsTypeC.logAppend (.event (.put (.refl e []) _ (by simp [*])) (by omega) (by simp [*])) 2 0xF0 data).same hf
  refine ⟨(hrest _ _ (by simp [hp])).trans ?_, (hrest _ _ (by simp [hp])).trans ?_⟩ <;>
    simp (disch := (simp only [fkey, hkey]; omega)) only [Dev.puts_cons, Dev.puts_nil, Dev.get_put_ne, Dev.get_put_self,
      Nat.reducePow, Nat.reduceMod]

/-! ### The end of a port's protocol -/

/-- The last steps of the end of a port: the swap's command, every other command, the protocol and VCONN. -/
def Dev.portOver (d : Dev) (p swapCode : Nat) (acc : Bool) : Dev :=
  let d := if acc && swapCode == 11 then d.cmdEnd p 7 else d
  let d := ((d.cmdAbortAll p).protoOff p).vconnOff p
  (d.puts [(H.firstCon p, 0), (H.ptnDone p, 0), (H.cblDone p, 0), (H.hpmNo p, 0), (H.pilot p, 0), (H.reneg p, 0),
    (T.reneg p, 0), (T.noResp p, 0), (H.resume p, 0), (F.PRT_PE_STAT_TXNG p, 0), (F.PRT_ATT_STAT_RPOWN p, 0),
    (H.vexp p, 500), (H.snkMask p, 0), (H.vcsOff p, 0), (H.vcsTry p, 0), (H.eprArmed p, 0),
    (H.hpmPend p, 0), (H.vsafe5 p, 0), (T.hpmCond p, 0)]).setPe p 0

/-- The steps between: EPR mode and HPM end, and a swap with them. -/
def Dev.modesEnd (d : Dev) (p swapCode : Nat) (acc inSwap : Bool) : Dev :=
  let d := (d.eprEnd p).hpmLeave p
  if inSwap then (d.cmdJoined p (some (if swapCode = 11 then 7 else 6))).swapOver p (if acc then swapCode else 6) else d

/-- The first steps: an ask is cancelled, and the contract is void. -/
def Dev.conEnd (d : Dev) (p : Nat) : Dev := ((d.midReset p).askCancel p).conVoid p false

theorem Dev.portEnd_eq (d : Dev) (p swapCode : Nat) : d.portEnd p swapCode =
    ((d.conEnd p).modesEnd p swapCode ((d.midReset p).bit (H.swAcc p))
      ((d.midReset p).bit (H.swAcc p) || (d.midReset p).bit (F.PRT_SWAP_STAT_STEP p))).portOver p swapCode
        ((d.midReset p).bit (H.swAcc p)) := rfl

section
variable {d e : Dev} {l : List Fld} (h : KeepsTypeC d e l) {p : Nat} (hp : p < 24)
include h hp

theorem KeepsTypeC.portOver (swapCode : Nat) (acc : Bool) (hv : F.PRT_ATT_STAT_VCONNON p ∈ l) :
    KeepsTypeC d (e.portOver p swapCode acc) l := by
  have hall {g : Dev} (k : KeepsTypeC d g l) : KeepsTypeC d (((g.cmdAbortAll p).protoOff p).vconnOff p) l :=
    .vconnOff (.protoOff (k.cmdAbortAll hp)) hp hv
  exact .put (.puts (hall (.ite (h.cmdEnd hp 7) h)) (by simp [*])) 0 (by simp [*])

theorem KeepsTypeC.modesEnd (swapCode : Nat) (acc inSwap : Bool) (hs : F.PRT_SWAP_STAT_LASTEND p ∈ l) :
    KeepsTypeC d (e.modesEnd p swapCode acc inSwap) l := by
  have hleft := (h.eprEnd hp).hpmLeave hp
  exact .ite (.swapOver (hleft.cmdJoined hp _) hp _ hs) hleft

theorem KeepsTypeC.conEnd (hv : F.PRT_CONTRACT_VALID p ∈ l) : KeepsTypeC d (e.conEnd p) l :=
  .conVoid (.puts (h.puts (by simp [*])) (by simp [*])) hp false hv

end

/-- What the end of a port's protocol writes of the Type-C fields. -/
def endFlds (p : Nat) : List Fld := [F.PRT_CONTRACT_VALID p, F.PRT_SWAP_STAT_LASTEND p, F.PRT_ATT_STAT_VCONNON p]

/-- What the end of a port's protocol and its stop write of them. -/
def leftFlds (p : Nat) : List Fld := [F.GRD_STAT_GATES p, F.GRD_STAT_STOPWHY p] ++ endFlds p

section
variable (d : Dev) {p : Nat} (hp : p < 24) (swapCode : Nat)
include hp

theorem Dev.portEnd_keeps : KeepsTypeC d (d.portEnd p swapCode) (endFlds p) := by
  rw [Dev.portEnd_eq]
  exact .portOver (.modesEnd (.conEnd (.refl d _) hp (by simp [endFlds])) hp _ _ _ (by simp [endFlds])) hp _ _ (by simp [endFlds])

theorem Dev.portEnd_void : (d.portEnd p swapCode).get (F.PRT_CONTRACT_VALID p) = 0 := by
  have hrest (acc inSwap : Bool) : KeepsTypeC (d.conEnd p) (((d.conEnd p).modesEnd p swapCode acc inSwap).portOver p swapCode acc)
      [F.PRT_SWAP_STAT_LASTEND p, F.PRT_ATT_STAT_VCONNON p] :=
    .portOver (.modesEnd (.refl _ _) hp _ _ _ (by simp)) hp _ _ (by simp)
  rw [Dev.portEnd_eq, (hrest _ _).get _ (by simp [hp]) (by simp; omega)]
  exact Dev.conVoid_void _ hp false

theorem Dev.portEnd_lastend (hacc : d.get (H.swAcc p) ≠ 0) :
    (d.portEnd p swapCode).get (F.PRT_SWAP_STAT_LASTEND p) = swapCode % 2 ^ 4 := by
  have hmid : (d.midReset p).bit (H.swAcc p) = true := by
    unfold Dev.midReset Dev.bit
    simp (disch := (simp only [hkey]; omega)) only [Dev.puts_cons, Dev.puts_nil, Dev.get_put_ne]
    simpa using hacc
  have hover (g : Dev) : (g.swapOver p swapCode).get (F.PRT_SWAP_STAT_LASTEND p) = swapCode % 2 ^ 4 := by
    have hset (v w x : Nat) : (g.puts [(F.PRT_SWAP_STAT_STEP p, v), (F.PRT_SWAP_STAT_LASTEND p, swapCode), (H.swAcc p, 0),
        (H.keepLim p, 0), (H.swWaits p, w), (H.swBack p, x)]).get (F.PRT_SWAP_STAT_LASTEND p) = swapCode % 2 ^ 4 := by
      simp (disch := (simp only [fkey, hkey]; omega)) only [Dev.puts_cons, Dev.puts_nil, Dev.get_put_ne, Dev.get_put_self]
    unfold Dev.swapOver
    dsimp only
    split
    · rw [(KeepsTypeC.swapEvt (.refl _ []) hp (by simp [*])).same (by simp [hp]), hset]
    · exact hset 0 0 0
  have hend (g : Dev) : (g.modesEnd p swapCode true true).get (F.PRT_SWAP_STAT_LASTEND p) = swapCode % 2 ^ 4 := hover _
  rw [Dev.portEnd_eq, hmid,
    (KeepsTypeC.portOver (.refl _ [F.PRT_ATT_STAT_VCONNON p]) hp _ _ (by simp)).get _ (by simp [hp]) (by simp; omega)]
  exact hend _

theorem Dev.portEnd_vconn : (d.portEnd p swapCode).get (F.PRT_ATT_STAT_VCONNON p) = 0 := by
  rw [Dev.portEnd_eq]
  exact ((KeepsTypeC.put (KeepsTypeC.puts (.refl _ []) (by simp [*])) 0 (by simp [*])).same (by simp [hp])).trans
    (Dev.vconnOff_open _ hp _ (by simp [vconnFlds]))

end

/-! ### A port leaves its state -/

/-- A port has left its state: the contract is void, VCONN is open, gates that were on stop for a cause, and an accepted swap ends
with a code. Of the Type-C fields nothing but these and those of a list has changed. -/
structure Dev.PortLeft (d e : Dev) (p swapCode why : Nat) (l : List Fld) : Prop where
  keeps : KeepsTypeC d e (leftFlds p ++ l)
  void : e.get (F.PRT_CONTRACT_VALID p) = 0
  vconn : e.get (F.PRT_ATT_STAT_VCONNON p) = 0
  stopped : d.gates p = 1 ∨ d.gates p = 2 → e.gates p = 3 ∧ e.get (F.GRD_STAT_STOPWHY p) = why % 2 ^ 5
  lastend : d.get (H.swAcc p) ≠ 0 → e.get (F.PRT_SWAP_STAT_LASTEND p) = swapCode % 2 ^ 4

/-- The common steps: the end of the protocol, a soft stop, the setpoint off, and the Type-C timers. -/
def Dev.portLeave (d : Dev) (p swapCode why : Nat) : Dev :=
  (((d.portEnd p swapCode).gateStop p why false).vsetOff p).attTimersOff p

theorem Dev.portLeave_left (d : Dev) {p : Nat} (hp : p < 24) (swapCode why : Nat) :
    d.PortLeft (d.portLeave p swapCode why) p swapCode why [] := by
  have hoff {e : Dev} {f : Fld} (hf : f.typeC = true) : ((e.vsetOff p).attTimersOff p).get f = e.get f :=
    (KeepsTypeC.attTimersOff (.vsetOff (.refl e []))).same hf
  have hend {f : Fld} (hf : f.typeC = true) (hne : ∀ g ∈ [F.GRD_STAT_GATES p, F.GRD_STAT_STOPWHY p], f.key ≠ g.key) :
      (d.portLeave p swapCode why).get f = (d.portEnd p swapCode).get f :=
    (hoff hf).trans ((KeepsTypeC.gateStop (.refl _ _) hp why false (by simp) (by simp)).get f hf hne)
  have hgates : (d.portEnd p swapCode).gates p = d.gates p :=
    (d.portEnd_keeps hp swapCode).get _ (by simp [hp]) (by simp [endFlds]; omega)
  refine ⟨?_, ?_, ?_, fun hg => ?_, fun hacc => ?_⟩
  · rw [List.append_nil]
    exact .attTimersOff (.vsetOff (.gateStop ((d.portEnd_keeps hp swapCode).mono fun _ hf => List.mem_append_right _ hf) hp why false
      (by simp) (by simp)))
  · rw [hend (by simp [hp]) (by simp; omega), Dev.portEnd_void d hp]
  · rw [hend (by simp [hp]) (by simp; omega), Dev.portEnd_vconn d hp]
  · rw [← hgates] at hg
    obtain ⟨h3, hwhy⟩ := Dev.gateStop_stops _ hp why false hg
    exact ⟨(hoff (by simp [hp])).trans h3, (hoff (by simp [hp])).trans hwhy⟩
  · rw [hend (by simp [hp]) (by simp; omega), Dev.portEnd_lastend d hp _ hacc]

/-- What follows and writes none of these keeps them. -/
theorem Dev.PortLeft.step {d e g : Dev} {p swapCode why : Nat} {l : List Fld} (h : d.PortLeft e p swapCode why l) (hp : p < 24)
    (k : KeepsTypeC e g l) (hl : ∀ f ∈ leftFlds p, ∀ x ∈ l, f.key ≠ x.key) : d.PortLeft g p swapCode why l := by
  have hkeep {f : Fld} (hf : f ∈ leftFlds p) : g.get f = e.get f :=
    k.get f ((by simp [leftFlds, endFlds, hp] : ∀ f ∈ leftFlds p, f.typeC = true) f hf) (hl f hf)
  refine ⟨h.keeps.trans (k.mono fun f hf => List.mem_append_right _ hf), ?_, ?_, fun hg => ⟨?_, ?_⟩, fun hacc => ?_⟩
  · rw [hkeep (by simp [leftFlds, endFlds]), h.void]
  · rw [hkeep (by simp [leftFlds, endFlds]), h.vconn]
  · exact (hkeep (by simp [leftFlds])).trans (h.stopped hg).1
  · rw [hkeep (by simp [leftFlds, endFlds]), (h.stopped hg).2]
  · rw [hkeep (by simp [leftFlds, endFlds]), h.lastend hacc]

/-- So does what comes before. -/
theorem Dev.PortLeft.before {d e g : Dev} {p swapCode why : Nat} {l : List Fld} (h : e.PortLeft g p swapCode why l) (hp : p < 24)
    (k : KeepsTypeC d e l) (hl : ∀ f ∈ leftFlds p, ∀ x ∈ l, f.key ≠ x.key) (hacc : e.get (H.swAcc p) = d.get (H.swAcc p)) :
    d.PortLeft g p swapCode why l where
  keeps := (k.mono fun f hf => List.mem_append_right _ hf).trans h.keeps
  void := h.void
  vconn := h.vconn
  stopped hg := h.stopped (by
    have hgates : e.gates p = d.gates p := k.get _ (by simp [hp]) (hl _ (by simp [leftFlds]))
    rwa [hgates])
  lastend ha := h.lastend (by rwa [hacc])

theorem Dev.PortLeft.mono {d e : Dev} {p swapCode why : Nat} {l m : List Fld} (h : d.PortLeft e p swapCode why l)
    (hs : ∀ f ∈ l, f ∈ m) : d.PortLeft e p swapCode why m :=
  ⟨h.keeps.mono fun f hf => (List.mem_append.1 hf).elim (List.mem_append_left _) fun hl => List.mem_append_right _ (hs f hl),
    h.void, h.vconn, h.stopped, h.lastend⟩

/-! ### States entered -/

/-- What the entry to a state writes beside. -/
def stateFlds (p : Nat) : List Fld := [F.PRT_ATT_STAT_STATE p, F.PRT_ATT_STAT_ORIENT p]

theorem Dev.attSet_att (d : Dev) {p : Nat} (hp : p < 24) (st : Nat) : (d.attSet p st).att p = st % 2 ^ 4 := by
  have hput : (d.put (F.PRT_ATT_STAT_STATE p) st).att p = st % 2 ^ 4 := Dev.get_put_self _ _ _
  have hcont {e : Dev} (k : KeepsTypeC (d.put (F.PRT_ATT_STAT_STATE p) st) e []) : (e.contourPort p 1).att p = st % 2 ^ 4 :=
    ((k.contourPort 1).get _ (by simp [hp]) (by simp)).trans hput
  unfold Dev.attSet
  dsimp only
  split
  · split
    · exact hcont (.put (.refl _ []) _ (by simp [*]))
    · exact hput
  · split
    · exact hput
    · exact hcont (.puts (.refl _ []) (by simp [*]))

theorem OnlyRegs.hist {d e : Dev} {l : List Fld} (h : OnlyRegs d e l) : e.hist = d.hist := by
  have hhist := congrArg Dev.hist h.2
  exact hhist

theorem OnlyRegs.attachTimes {d e : Dev} {l : List Fld} (h : OnlyRegs d e l) (p : Nat) : e.attachTimes p = d.attachTimes p := by
  rw [Dev.attachTimes, h.hist, h.now]
  rfl

/-- The Type-C timers of a port. -/
def attTimerFlds (p : Nat) : List Fld :=
  [H.ccSettle p, H.rpDue p, T.toggle p, T.rest p, T.ccDb p, T.pdDb p, T.drpTry p, T.tryDb p, T.errRec p]

theorem OnlyRegs.attTimersOff {d e : Dev} {l : List Fld} (h : OnlyRegs d e l) (p : Nat) (hl : ∀ f ∈ attTimerFlds p, f ∈ l) :
    OnlyRegs d (e.attTimersOff p) l :=
  h.puts _ (by simpa [attTimerFlds] using hl)

/-- What the entry to a state writes, with the port's part in Contour. -/
def attSetFlds (p : Nat) : List Fld :=
  [F.PRT_ATT_STAT_STATE p, F.BUDP_STAT_PART p, H.budNoCap p, H.budWhyP p, H.budTin, H.budTb, H.budWhy, F.BUD_STAT_BUSY, T.contour]

theorem OnlyRegs.attSet {d e : Dev} {l : List Fld} (h : OnlyRegs d e l) (p st : Nat) (hl : ∀ f ∈ attSetFlds p, f ∈ l) :
    OnlyRegs d (e.attSet p st) l := by
  simp only [attSetFlds, List.forall_mem_cons] at hl
  obtain ⟨hst, hpart, hnocap, hwhyp, htin, htb, hwhy, hbusy, htimer, -⟩ := hl
  have hput : OnlyRegs d (e.put (F.PRT_ATT_STAT_STATE p) st) l := h.put _ _ hst
  have hcont {g : Dev} (k : OnlyRegs d g l) : OnlyRegs d (g.contourPort p 1) l :=
    ((k.put _ _ hwhyp).puts _ (by simp [htin, htb, hwhy, hbusy])).put _ _ htimer
  exact .ite (.ite (hcont (hput.put _ _ hpart)) hput) (.ite hput (hcont (hput.puts _ (by simp [hpart, hnocap]))))

section
variable (d : Dev) {p : Nat} (hp : p < 24)
include hp

/-- ErrorRecovery (R171). -/
theorem Dev.errRecover_enters (why swapCode : Nat) (hatt : d.att p ≠ 0) :
    d.PortLeft (d.errRecover p why swapCode) p swapCode why (stateFlds p) ∧ (d.errRecover p why swapCode).att p = 9 ∧
      (d.errRecover p why swapCode).get (T.errRec p) = (d.now + 1920001) % 2 ^ 64 := by
  have heq : d.errRecover p why swapCode = (((d.portLeave p swapCode why).puts [(F.PRT_ATT_STAT_ORIENT p, 0),
      (F.PRT_ATT_STAT_RAPRES p, 0), (H.detaching p, 0)]).attSet p 9).arm (T.errRec p) (msTicks 30) := if_neg hatt
  have hleft := (d.portLeave_left hp swapCode why).mono (m := stateFlds p) (by simp)
  have hset : KeepsTypeC (d.portLeave p swapCode why) (((d.portLeave p swapCode why).puts [(F.PRT_ATT_STAT_ORIENT p, 0),
      (F.PRT_ATT_STAT_RAPRES p, 0), (H.detaching p, 0)]).attSet p 9) (stateFlds p) :=
    .attSet (.puts (.refl _ _) (by simp [stateFlds, hp])) hp 9 (by simp [stateFlds])
  rw [heq]
  refine ⟨hleft.step hp (hset.put _ (by simp [*])) (by simp [leftFlds, endFlds, stateFlds]; omega), ?_, ?_⟩
  · exact ((KeepsTypeC.put (.refl _ []) _ (by simp [*])).same (by simp [hp])).trans (Dev.attSet_att _ hp 9)
  · refine (Dev.get_put_self _ _ _).trans ?_
    rw [hset.now, hleft.keeps.now]
    rfl

/-- Disabled (R172). -/
theorem Dev.disable_enters (cause why : Nat) (hatt : d.att p ≠ 0) :
    d.PortLeft (d.disable p cause why) p 7 why (F.PRT_ATT_STAT_DISWHY p :: stateFlds p) ∧ (d.disable p cause why).att p = 0 ∧
      (d.disable p cause why).get (F.PRT_ATT_STAT_DISWHY p) =
        (d.putBit (F.PRT_ATT_STAT_DISWHY p) cause true).get (F.PRT_ATT_STAT_DISWHY p) := by
  have hbit : KeepsTypeC d (d.putBit (F.PRT_ATT_STAT_DISWHY p) cause true) (F.PRT_ATT_STAT_DISWHY p :: stateFlds p) :=
    .put (.refl d _) _ (by simp)
  have hatt' : (d.putBit (F.PRT_ATT_STAT_DISWHY p) cause true).att p ≠ 0 := by
    rwa [show (d.putBit (F.PRT_ATT_STAT_DISWHY p) cause true).att p = d.att p from Dev.get_put_ne _ _ (by simp only [fkey]; omega)]
  have hacc : (d.putBit (F.PRT_ATT_STAT_DISWHY p) cause true).get (H.swAcc p) = d.get (H.swAcc p) :=
    Dev.get_put_ne _ _ (by simp only [fkey, hkey]; omega)
  unfold Dev.disable
  dsimp only
  rw [if_neg hatt']
  generalize d.putBit (F.PRT_ATT_STAT_DISWHY p) cause true = g at *
  have hleft := g.portLeave_left hp 7 why
  have hset : KeepsTypeC (g.portLeave p 7 why) (((g.portLeave p 7 why).puts [(F.PRT_ATT_STAT_ORIENT p, 0), (F.PRT_ATT_STAT_RAPRES p, 0),
      (H.detaching p, 0), (H.vconnOc p, 0)]).attSet p 0) (stateFlds p) :=
    .attSet (.puts (.refl _ _) (by simp [stateFlds, hp])) hp 0 (by simp [stateFlds])
  refine ⟨?_, Dev.attSet_att _ hp 0, ?_⟩
  · have hset' := (hleft.mono (by simp)).step hp hset (by simp [leftFlds, endFlds, stateFlds]; omega)
    exact (hset'.mono fun _ hf => List.mem_cons_of_mem _ hf).before hp hbit (by simp [leftFlds, endFlds, stateFlds]; omega) hacc
  · exact (hset.get _ (by simp [hp]) (by simp [stateFlds])).trans
      (hleft.keeps.get _ (by simp [hp]) (by simp [leftFlds, endFlds]; omega))

/-! ### An end is seen (R171, R177) -/

/-- What a port writes when it sees an end on a line. -/
def Dev.recognised (d : Dev) (p line : Nat) : Dev :=
  let d := d.puts [(F.PRT_ATT_STAT_STATE p, if d.att p = 1 then 2 else 5), (F.PRT_ATT_STAT_ORIENT p, line),
    (F.PRT_ATT_STAT_RPOWN p, if d.att p = 1 then 0 else 2), (T.toggle p, 0), (T.rest p, 0)]
  let d := d.attEvt p (F.PRT_ATT_EVT_RECOG p)
  ((d.raUpdate p).arm (T.ccDb p) (d.tccdb p)).wake 1

/-- The line on which the end that the port looks for is seen. -/
def Dev.seenEnd (d : Dev) (p : Nat) : Nat := if d.att p = 1 then d.rpSeen p else if d.att p = 4 then d.rdSeen p else 0

omit hp in
theorem Dev.recognise_eq : d.recognise p = if d.seenEnd p = 0 then d else d.recognised p (d.seenEnd p) := rfl

/-- What it writes. -/
def recogniseFlds (p : Nat) : List Fld :=
  [F.PRT_ATT_STAT_STATE p, F.PRT_ATT_STAT_ORIENT p, F.PRT_ATT_STAT_RPOWN p, T.toggle p, T.rest p, F.PRT_ATT_EVT_RECOG p,
    F.PRT_ATT_STAT_RAPRES p, T.ccDb p]

theorem Dev.recognise_writes : OnlyQuiet d (d.recognise p) (recogniseFlds p) :=
  .ite (.refl d _) (.wake (.put (.put (.event (.puts (.refl d _) (by simp [recogniseFlds])) (by omega) (by simp [recogniseFlds])) _
    (by simp [recogniseFlds])) _ (by simp [recogniseFlds])) 1)

omit hp in
theorem Dev.recognise_attachTimes : (d.recognise p).attachTimes p = d.attachTimes p := by
  rw [Dev.recognise_eq]
  split
  · rfl
  · unfold Dev.attachTimes Dev.recognised
    simp [Dev.raUpdate, Dev.arm, Dev.attEvt, Dev.wake_now, Dev.event_now, Dev.puts_cons, Dev.puts_nil]

omit hp in
/-- Nothing is seen. -/
theorem Dev.recognise_none (hrd : d.rdSeen p = 0) (hrp : d.rpSeen p = 0) : d.recognise p = d := by
  rw [Dev.recognise_eq, if_pos (by simp [Dev.seenEnd, hrd, hrp])]

theorem Dev.recognised_shows (line : Nat) :
    (d.recognised p line).att p = (if d.att p = 1 then 2 else 5) ∧
      (d.recognised p line).get (F.PRT_ATT_STAT_ORIENT p) = line % 2 ^ 2 ∧ (d.recognised p line).get (F.PRT_ATT_EVT_RECOG p) = 1 ∧
      (d.recognised p line).get (T.ccDb p) = (d.now + d.tccdb p + 1) % 2 ^ 64 ∧ (d.recognised p line).get (T.toggle p) = 0 := by
  have htimer : ∀ p < 24, (T.ccDb p).quiet = true ∧ (T.toggle p).quiet = true := by decide
  obtain ⟨hqdb, hqtog⟩ := htimer p hp
  unfold Dev.recognised
  dsimp only
  generalize hw : d.puts [(F.PRT_ATT_STAT_STATE p, if d.att p = 1 then 2 else 5), (F.PRT_ATT_STAT_ORIENT p, line),
    (F.PRT_ATT_STAT_RPOWN p, if d.att p = 1 then 0 else 2), (T.toggle p, 0), (T.rest p, 0)] = g
  have hlast {e : Dev} (v : Nat) {f : Fld} (hf : f.typeC = true) : (((e.raUpdate p).put (T.ccDb p) v).wake 1).get f = e.get f :=
    (KeepsTypeC.wake (.put (.raUpdate (.refl e []) hp) v (by simp [*])) 1).same hf
  have hevt {f : Fld} (hf : f.typeC = true) (hne : f.key ≠ (F.PRT_ATT_EVT_RECOG p).key) :
      (g.attEvt p (F.PRT_ATT_EVT_RECOG p)).get f = g.get f :=
    (KeepsTypeC.attEvt (.refl g [F.PRT_ATT_EVT_RECOG p]) hp (by simp [*])).get f hf (by simpa using hne)
  have hnow : g.now = d.now := hw ▸ d.puts_now _
  have htcc : (g.attEvt p (F.PRT_ATT_EVT_RECOG p)).tccdb p = d.tccdb p := by
    unfold Dev.tccdb
    rw [hevt (by simp [hp]) (by simp; omega), ← hw,
      (KeepsTypeC.puts (.refl d (stateFlds p)) (by simp [stateFlds, hp])).get _ (by simp [hp]) (by simp [stateFlds]; omega)]
  have hg : g.att p = (if d.att p = 1 then 2 else 5) % 2 ^ 4 ∧ g.get (F.PRT_ATT_STAT_ORIENT p) = line % 2 ^ 2 ∧
      g.get (T.toggle p) = 0 := by
    show g.get (F.PRT_ATT_STAT_STATE p) = _ ∧ _
    rw [← hw]
    simp (disch := (simp only [fkey, hkey]; omega)) only [Dev.puts_cons, Dev.puts_nil, Dev.get_put_ne, Dev.get_put_self,
      Nat.zero_mod, and_self]
  obtain ⟨hst, hor, htog⟩ := hg
  refine ⟨?_, ?_, ?_, ?_, ?_⟩
  · refine (hlast _ (by simp [hp])).trans ((hevt (by simp [hp]) (by simp; omega)).trans (hst.trans ?_))
    split
    · rfl
    · rfl
  · rw [Dev.arm, hlast _ (by simp [hp]), hevt (by simp [hp]) (by simp; omega), hor]
  · rw [Dev.arm, hlast _ (by simp [hp])]
    exact Dev.event_self _ _ _ (by omega) (Fld.quiet_of_typeC (by simp [hp])) rfl
  · rw [Dev.wake_get _ _ hqdb, Dev.arm, Dev.get_put_self, htcc]
    show (((g.attEvt p (F.PRT_ATT_EVT_RECOG p)).raUpdate p).now + _ + 1) % _ = _
    rw [(KeepsTypeC.raUpdate (.attEvt (.refl g [F.PRT_ATT_EVT_RECOG p]) hp (by simp [*])) hp).now, hnow]
  · rw [Dev.wake_get _ _ hqtog, Dev.arm, Dev.get_put_ne _ _ (by simp only [hkey]; omega), Dev.raUpdate,
      Dev.get_put_ne _ _ (by simp only [fkey, hkey]; omega), Dev.attEvt,
      Dev.event_get _ _ _ (by omega) hqtog (by simp only [fkey, hkey]; omega), htog]

/-- An Unattached port is Unattached, or has seen its end. -/
def Dev.Unsettled (d : Dev) (p : Nat) : Prop := d.att p = 1 ∨ d.att p = 2 ∨ d.att p = 4 ∨ d.att p = 5

theorem Dev.recognise_unsettled (hatt : d.att p = 1 ∨ d.att p = 4) : (d.recognise p).Unsettled p := by
  rw [Dev.recognise_eq]
  split
  · exact hatt.elim .inl fun h => .inr (.inr (.inl h))
  · unfold Dev.Unsettled
    rw [(d.recognised_shows hp _).1]
    split
    · exact .inr (.inl rfl)
    · exact .inr (.inr (.inr rfl))

/-! ### The Unattached states (R171, R189) -/

/-- The device as a port enters an Unattached state, before it looks at its lines. -/
def Dev.unattachedSet (d : Dev) (p : Nat) : Dev :=
  let d := d.attTimersOff p
  let role := d.get (F.PRT_CTRL_ROLE p)
  let d := d.puts [(H.togSrcLen p, d.phaseTicks p true), (H.restLen p, d.get (F.PRT_TOGGLE_BSLEEP p)), (H.rolePend p, role),
    (H.tryPend p, d.get (F.PRT_CTRL_TRYSRC p)), (F.PRT_ATT_STAT_ORIENT p, 0), (H.vconnOc p, 0), (H.toggleSrc p, 0),
    (H.togglePer p, 0), (H.detaching p, 0), (H.deadBat p, 0), (F.PRT_ATT_STAT_RAPRES p, 0),
    (F.PRT_ATT_STAT_RPOWN p, 0)]
  (d.attSet p (if role = 1 then 4 else 1)).arm (T.toggle p) (d.phaseTicks p false)

omit hp in
theorem Dev.unattached_eq : d.unattached p = (d.unattachedSet p).recognise p := rfl

theorem Dev.unattachedSet_keeps : KeepsTypeC d (d.unattachedSet p) (stateFlds p) := by
  unfold Dev.unattachedSet
  exact .put (.attSet (.puts (KeepsTypeC.attTimersOff (.refl d _)) (by simp [stateFlds, hp])) hp _ (by simp [stateFlds])) _ (by simp [*])

theorem Dev.unattachedSet_shows : (d.unattachedSet p).att p = (if d.get (F.PRT_CTRL_ROLE p) = 1 then 4 else 1) ∧
    (d.unattachedSet p).get (F.PRT_ATT_STAT_ORIENT p) = 0 := by
  have hrole : (d.attTimersOff p).get (F.PRT_CTRL_ROLE p) = d.get (F.PRT_CTRL_ROLE p) :=
    (KeepsTypeC.attTimersOff (.refl d [])).same (by simp [hp])
  have harm {e : Dev} (n : Nat) {f : Fld} (hf : f.typeC = true) : (e.arm (T.toggle p) n).get f = e.get f :=
    (KeepsTypeC.put (.refl e []) _ (by simp [*])).same hf
  unfold Dev.unattachedSet
  dsimp only
  rw [hrole]
  refine ⟨(harm _ (by simp [hp])).trans ((Dev.attSet_att _ hp _).trans ?_), (harm _ (by simp [hp])).trans ?_⟩
  · split
    · rfl
    · rfl
  · rw [((KeepsTypeC.refl _ [F.PRT_ATT_STAT_STATE p]).attSet hp _ (by simp)).get _ (by simp [hp]) (by simp)]
    simp (disch := (simp only [fkey, hkey]; omega)) only [Dev.puts_cons, Dev.puts_nil, Dev.get_put_ne, Dev.get_put_self, Nat.zero_mod]

theorem Dev.unattached_unsettled : (d.unattached p).Unsettled p := by
  rw [Dev.unattached_eq]
  refine Dev.recognise_unsettled _ hp ?_
  rw [(d.unattachedSet_shows hp).1]
  split
  · exact .inr rfl
  · exact .inl rfl

/-- With no end in sight it stays Unattached, in the role that ROLE gives. -/
theorem Dev.unattached_alone (hrd : d.rdSeen p = 0) (hrp : d.rpSeen p = 0) :
    (d.unattached p).att p = (if d.get (F.PRT_CTRL_ROLE p) = 1 then 4 else 1) ∧ (d.unattached p).get (F.PRT_ATT_STAT_ORIENT p) = 0 := by
  have hcc1 : (d.unattachedSet p).cc1 p = d.cc1 p := (d.unattachedSet_keeps hp).get _ (by simp [hp]) (by simp [stateFlds])
  have hcc2 : (d.unattachedSet p).cc2 p = d.cc2 p := (d.unattachedSet_keeps hp).get _ (by simp [hp]) (by simp [stateFlds])
  have hrd' : (d.unattachedSet p).rdSeen p = 0 := by rw [Dev.rdSeen, hcc1, hcc2]; exact hrd
  have hrp' : (d.unattachedSet p).rpSeen p = 0 := by rw [Dev.rpSeen, hcc1, hcc2]; exact hrp
  rw [Dev.unattached_eq, Dev.recognise_none _ hrd' hrp']
  exact d.unattachedSet_shows hp

/-- What the entry writes once the Type-C timers have stopped. -/
def unattachedFlds (p : Nat) : List Fld :=
  attSetFlds p ++ [H.togSrcLen p, H.restLen p, H.rolePend p, H.tryPend p, F.PRT_ATT_STAT_ORIENT p, H.vconnOc p, H.toggleSrc p,
    H.togglePer p, H.detaching p, H.deadBat p, F.PRT_ATT_STAT_RAPRES p, F.PRT_ATT_STAT_RPOWN p, T.toggle p]

omit hp in
theorem Dev.unattachedSet_frame : OnlyRegs (d.attTimersOff p) (d.unattachedSet p) (unattachedFlds p) := by
  unfold Dev.unattachedSet
  have hputs {e : Dev} {ws : List (Fld × Nat)} (hw : ∀ w ∈ ws, w.1 ∈ unattachedFlds p) : OnlyRegs e (e.puts ws) (unattachedFlds p) :=
    (OnlyRegs.refl e _).puts ws hw
  exact ((hputs (by simp [unattachedFlds])).attSet p _ fun _ hf => List.mem_append_left _ hf).put _ _ (by simp [unattachedFlds])

/-- Of the timers only those of the attach rules and of Contour change, and the attach cycles of the window stand. -/
theorem Dev.unattached_timers : (d.unattached p).get (T.errRec p) = 0 ∧ (d.unattached p).get (T.chatter p) = d.get (T.chatter p) ∧
    (d.unattached p).attachTimes p = d.attachTimes p := by
  have hq : ∀ p < 24, ∀ f ∈ [T.errRec p, T.chatter p], f.quiet = true := by decide
  have hset {f : Fld} (hf : f ∈ [T.errRec p, T.chatter p]) : (d.unattached p).get f = (d.attTimersOff p).get f := by
    have hne : ∀ f ∈ [T.errRec p, T.chatter p], ∀ g ∈ unattachedFlds p ++ recogniseFlds p, f.key ≠ g.key := by
      simp [unattachedFlds, attSetFlds, recogniseFlds, fkey, hkey]
      omega
    rw [Dev.unattached_eq, Dev.recognise_writes _ hp f (hq p hp f hf) fun g hg => hne f hf g (List.mem_append_right _ hg)]
    exact d.unattachedSet_frame.1 f fun g hg => hne f hf g (List.mem_append_left _ hg)
  refine ⟨(hset (by simp)).trans ?_, (hset (by simp)).trans ?_, ?_⟩
  · unfold Dev.attTimersOff
    simp only [Dev.puts_cons, Dev.puts_nil, Dev.get_put_self, Nat.zero_mod]
  · refine ((OnlyRegs.refl d (attTimerFlds p)).attTimersOff p fun _ hf => hf).1 _ ?_
    simp [attTimerFlds, hkey]
  · rw [Dev.unattached_eq, Dev.recognise_attachTimes, d.unattachedSet_frame.attachTimes,
      ((OnlyRegs.refl d _).attTimersOff p fun _ hf => hf).attachTimes]

end

end Sys2Proof.Machine

/-!
The attach cycles of a port (R169, R171-R173, R184-R187): an attach counts or is chatter, an ordinary detach and an emergency detach
end the connection, and a cause of Disabled clears.
-/
namespace Sys2Proof.Machine

/-! ### Attach (R169) -/

section
variable {d e : Dev} {l : List Fld} (h : KeepsTypeC d e l) (p : Nat)
include h

theorem KeepsTypeC.pstgPuts (off : Nat) (ws : List Nat) : KeepsTypeC d (e.pstgPuts p off ws) l := by
  induction ws generalizing e off with
  | nil => exact h
  | cons v ws ih => exact ih (h.tables (g := e.pstgPut p off v) rfl rfl) _

theorem KeepsTypeC.discClear (hp : p < 24) : KeepsTypeC d (e.discClear p) l :=
  .puts (((h.pstgPuts p 0x82 _).pstgPuts p 0xB0 _).pstgPuts p 0xB8 _) (by simp [*])

end

/-- A cycle counts. -/
def Dev.attachCounted (d : Dev) (p : Nat) : Dev :=
  (d.setAttachTimes p (d.now :: d.attachTimes p)).inc (F.PRT_ATT_CNT_ATTCNT p)

theorem Dev.attachCounted_cnt (d : Dev) (p : Nat) :
    (d.attachCounted p).get (F.PRT_ATT_CNT_ATTCNT p) = (d.get (F.PRT_ATT_CNT_ATTCNT p) + 1) % 65536 := Dev.get_put_self _ _ _

/-- The device as an Attached state is entered, before the start of its role: the cycle counts, and what the last one left is
cleared. -/
def Dev.attachEntered (d : Dev) (p : Nat) (sink : Bool) : Dev :=
  let d := ((d.attachCounted p).discClear p).puts
    [(F.PRT_PE_STAT_REV p, 0),
      (F.PRT_PE_STAT_HRCNT p, 0), (H.hrTry p, 0), (H.pdOn p, d.get (F.PRT_PE_CTRL_PDEN p)),
      (H.autoVcs p, d.get (F.PRT_PE_CTRL_AUTOVCS p)), (H.deadBat p, 0), (H.rpLevel p, d.activeLine p),
      (F.PRT_PE_STAT_TXNG p, b2n (sink && d.activeLine p == 4)), (H.vcsTry p, 0), (H.vcsOff p, 0), (H.detaching p, 0)]
  ((d.put (H.snkEntry p) (b2n sink)).attSet p (if sink then 3 else 8)).raUpdate p

/-- The start of the role. -/
def Dev.roleStart (d : Dev) (p : Nat) (sink : Bool) : Dev := if sink then d.snkStart p else d.srcStart p 0

section
variable (d : Dev) {p : Nat} (hp : p < 24)
include hp

/-- An attach cycle within the limit counts, enters the Attached state of its role and sets ATTACH. -/
theorem Dev.attach_attaches (sink : Bool) (hwin : (d.attachTimes p).length < 15) :
    (d.attach p sink).att p = (if sink then 3 else 8) ∧ (d.attach p sink).get (F.PRT_ATT_EVT_ATTACH p) = 1 ∧
      (d.attach p sink).get (F.PRT_ATT_CNT_ATTCNT p) = (d.get (F.PRT_ATT_CNT_ATTCNT p) + 1) % 65536 := by
  have htimes : (d.attTimersOff p).attachTimes p = d.attachTimes p := ((OnlyRegs.refl d _).attTimersOff p fun _ hf => hf).attachTimes p
  have heq : d.attach p sink = (((d.attTimersOff p).attachEntered p sink).attEvt p (F.PRT_ATT_EVT_ATTACH p)).roleStart p sink :=
    if_neg (by rw [htimes]; omega)
  have hstart {e : Dev} : KeepsTypeC e (e.roleStart p sink) [F.PRT_ATT_STAT_VCONNON p] :=
    .ite ((KeepsTypeC.refl e _).snkStart hp) ((KeepsTypeC.refl e _).srcStart hp 0 (by simp))
  have hevt {e : Dev} : KeepsTypeC e (e.attEvt p (F.PRT_ATT_EVT_ATTACH p)) [F.PRT_ATT_EVT_ATTACH p] :=
    .attEvt (.refl e _) hp (by simp [*])
  have henter : KeepsTypeC ((d.attTimersOff p).attachCounted p) ((d.attTimersOff p).attachEntered p sink) [F.PRT_ATT_STAT_STATE p] := by
    unfold Dev.attachEntered
    exact .raUpdate (.attSet (.put (.puts (.discClear (.refl _ _) p hp) (by simp [*])) _ (by simp [*])) hp _ (by simp)) hp
  rw [heq]
  refine ⟨?_, ?_, ?_⟩
  · refine (hstart.get _ (by simp [hp]) (by simp)).trans ((hevt.get _ (by simp [hp]) (by simp; omega)).trans ?_)
    refine ((KeepsTypeC.raUpdate (.refl _ []) hp).same (by simp [hp])).trans ((Dev.attSet_att _ hp _).trans ?_)
    cases sink with
    | false => rfl
    | true => rfl
  · rw [hstart.get _ (by simp [hp]) (by simp; omega)]
    exact Dev.event_self _ _ _ (by omega) (Fld.quiet_of_typeC (by simp [hp])) rfl
  · have hoff : (d.attTimersOff p).get (F.PRT_ATT_CNT_ATTCNT p) = d.get (F.PRT_ATT_CNT_ATTCNT p) :=
      ((KeepsTypeC.attTimersOff (.refl d [])).same (by simp [hp]))
    rw [hstart.get _ (by simp [hp]) (by simp; omega), hevt.get _ (by simp [hp]) (by simp; omega),
      henter.get _ (by simp [hp]) (by simp; omega), Dev.attachCounted_cnt, hoff]

/-- One more in the window is chatter: Disabled with its cause, held for 1 s. -/
theorem Dev.attach_chatter (sink : Bool) (hwin : 15 ≤ (d.attachTimes p).length) (hatt : d.att p ≠ 0) :
    (d.attach p sink).att p = 0 ∧ (d.attach p sink).get (F.PRT_ATT_EVT_CHATTER p) = 1 ∧
      (d.attach p sink).getBit (F.PRT_ATT_STAT_DISWHY p) 3 = true ∧
      (d.attach p sink).get (T.chatter p) = (d.now + 64000001) % 2 ^ 64 := by
  have htimes : (d.attTimersOff p).attachTimes p = d.attachTimes p := ((OnlyRegs.refl d _).attTimersOff p fun _ hf => hf).attachTimes p
  have heq : d.attach p sink = (((d.attTimersOff p).disable p 3 17).attEvt p (F.PRT_ATT_EVT_CHATTER p)).arm (T.chatter p) 64000000 :=
    if_pos (by rw [htimes]; omega)
  have hoff : KeepsTypeC d (d.attTimersOff p) [] := .attTimersOff (.refl d [])
  have hatt' : (d.attTimersOff p).att p ≠ 0 := by
    rwa [show (d.attTimersOff p).att p = d.att p from hoff.same (by simp [hp])]
  obtain ⟨hleft, hzero, hwhy⟩ := (d.attTimersOff p).disable_enters hp 3 17 hatt'
  have hevt {e : Dev} : KeepsTypeC e (e.attEvt p (F.PRT_ATT_EVT_CHATTER p)) [F.PRT_ATT_EVT_CHATTER p] :=
    .attEvt (.refl e _) hp (by simp [*])
  have harm {e : Dev} (n : Nat) : KeepsTypeC e (e.arm (T.chatter p) n) [] := .put (.refl e _) _ (by simp [*])
  rw [heq]
  refine ⟨?_, ?_, ?_, ?_⟩
  · exact ((harm _).same (by simp [hp])).trans ((hevt.get _ (by simp [hp]) (by simp)).trans hzero)
  · rw [(harm _).same (by simp [hp])]
    exact Dev.event_self _ _ _ (by omega) (Fld.quiet_of_typeC (by simp [hp])) rfl
  · rw [Dev.getBit, (harm _).same (by simp [hp]), hevt.get _ (by simp [hp]) (by simp; omega), hwhy]
    exact Dev.putBit_getBit _ _ (by simp)
  · refine (Dev.get_put_self _ _ _).trans ?_
    rw [hevt.now, hleft.keeps.now, hoff.now]

end

/-! ### Detach (R184, R186) -/

/-- What an ordinary or an emergency detach writes of the Type-C fields beside the end of the port. -/
def detachFlds (p : Nat) : List Fld :=
  [F.PRT_ATT_STAT_STATE p, F.PRT_ATT_STAT_ORIENT p, F.PRT_ATT_EVT_RECOG p, F.PRT_ATT_EVT_DETACH p, F.PRT_ATT_EVT_EMERG p,
    F.PRT_ATT_CNT_EMCNT p]

/-- What the entry to an Unattached state writes of them. -/
def unsettledFlds (p : Nat) : List Fld := [F.PRT_ATT_STAT_STATE p, F.PRT_ATT_STAT_ORIENT p, F.PRT_ATT_EVT_RECOG p]

theorem unsettledFlds_detach {p : Nat} : ∀ f ∈ unsettledFlds p, f ∈ detachFlds p := by simp [unsettledFlds, detachFlds]

theorem leftFlds_apart {p : Nat} : ∀ f ∈ leftFlds p, ∀ x ∈ detachFlds p, f.key ≠ x.key := by
  simp [leftFlds, endFlds, detachFlds]
  omega

theorem stateFlds_detach {p : Nat} : ∀ f ∈ stateFlds p, f ∈ detachFlds p := by simp [stateFlds, detachFlds]

theorem stateFlds_apart {p : Nat} : ∀ f ∈ leftFlds p, ∀ x ∈ stateFlds p, f.key ≠ x.key :=
  fun f hf x hx => leftFlds_apart f hf x (stateFlds_detach x hx)

/-- A banked port that loses its partner wakes the device (R89). -/
def Dev.lossWake (d : Dev) (p : Nat) : Dev := if d.bankedPort p then d.wake 2 else d

/-- A port that is to leave for an Unattached state does so once its gates are off and VBS has fallen. -/
def Dev.leaveLow (d : Dev) (p : Nat) : Dev :=
  if d.gates p = 0 then (if d.bit (F.PRT_ATT_STAT_VBS0 p) then d.unattached p else d.disOn p) else d

section
variable (d : Dev) {p : Nat} (hp : p < 24)
include hp

omit hp in
theorem Dev.lossWake_keeps (l : List Fld) : KeepsTypeC d (d.lossWake p) l := .ite (.wake (.refl d l) 2) (.refl d l)

theorem Dev.lossWake_swAcc : (d.lossWake p).get (H.swAcc p) = d.get (H.swAcc p) := by
  have hq : ∀ p < 24, (H.swAcc p).quiet = true := by decide
  unfold Dev.lossWake
  split
  · exact d.wake_get 2 (hq p hp)
  · rfl

theorem Dev.leaveLow_keeps : KeepsTypeC d (d.leaveLow p) (unsettledFlds p) :=
  .ite (.ite ((KeepsTypeC.refl d _).unattached hp (by simp [unsettledFlds]) (by simp [unsettledFlds]) (by simp [unsettledFlds]))
    ((KeepsTypeC.refl d _).disOn hp)) (.refl d _)

/-- An ordinary detach leaves the port with stop 19 and sets DETACH; one that is no source is Unattached again. -/
theorem Dev.detach_leaves : d.PortLeft (d.detach p) p 7 19 (detachFlds p) ∧ (d.detach p).get (F.PRT_ATT_EVT_DETACH p) = 1 ∧
    (d.isSrc p = false → (d.detach p).Unsettled p) := by
  have hleft : d.PortLeft (((d.lossWake p).portLeave p 7 19).attEvt p (F.PRT_ATT_EVT_DETACH p)) p 7 19 (detachFlds p) :=
    ((((d.lossWake p).portLeave_left hp 7 19).mono (by simp)).step hp (.attEvt (.refl _ _) hp (by simp [detachFlds]))
      leftFlds_apart).before hp (d.lossWake_keeps _) leftFlds_apart (d.lossWake_swAcc hp)
  have hset : (((d.lossWake p).portLeave p 7 19).attEvt p (F.PRT_ATT_EVT_DETACH p)).get (F.PRT_ATT_EVT_DETACH p) = 1 :=
    Dev.event_self _ _ _ (by omega) (Fld.quiet_of_typeC (by simp [hp])) rfl
  have heq : d.detach p = (if d.isSrc p then
      ((((d.lossWake p).portLeave p 7 19).attEvt p (F.PRT_ATT_EVT_DETACH p)).puts
        [(H.detaching p, 1), (F.PRT_ATT_STAT_RPOWN p, 2)]).leaveLow p
      else (((d.lossWake p).portLeave p 7 19).attEvt p (F.PRT_ATT_EVT_DETACH p)).unattached p) := rfl
  rw [heq]
  generalize (((d.lossWake p).portLeave p 7 19).attEvt p (F.PRT_ATT_EVT_DETACH p)) = e at hleft hset ⊢
  have hend {g : Dev} (hg : KeepsTypeC e g (unsettledFlds p)) :
      d.PortLeft g p 7 19 (detachFlds p) ∧ g.get (F.PRT_ATT_EVT_DETACH p) = 1 :=
    ⟨hleft.step hp (hg.mono unsettledFlds_detach) leftFlds_apart,
      (hg.get _ (by simp [hp]) (by simp [unsettledFlds]; omega)).trans hset⟩
  split
  · next hsrc =>
    have hputs : KeepsTypeC e (e.puts [(H.detaching p, 1), (F.PRT_ATT_STAT_RPOWN p, 2)]) (unsettledFlds p) :=
      .puts (.refl e _) (by simp [*])
    obtain ⟨hl, hd⟩ := hend (hputs.trans (Dev.leaveLow_keeps _ hp))
    exact ⟨hl, hd, fun hno => absurd hsrc (by simp [hno])⟩
  · obtain ⟨hl, hd⟩ := hend ((KeepsTypeC.refl e _).unattached hp (by simp [unsettledFlds]) (by simp [unsettledFlds])
      (by simp [unsettledFlds]))
    exact ⟨hl, hd, fun _ => e.unattached_unsettled hp⟩

/-- The first steps of an emergency detach: its segment closes, and the terminations are held. -/
def Dev.emergencyBegun (d : Dev) (p : Nat) : Dev := ((d.lossWake p).segClose p 1 true).ccHold p

theorem Dev.emergencyBegun_keeps (l : List Fld) : KeepsTypeC d (d.emergencyBegun p) l :=
  .puts ((d.lossWake_keeps l).segClose hp 1 true) (by simp [*])

theorem Dev.emergencyBegun_swAcc : (d.emergencyBegun p).get (H.swAcc p) = d.get (H.swAcc p) := by
  have hq : ∀ p < 24, (H.swAcc p).quiet = true ∧ ∀ g ∈ segFlds p, (H.swAcc p).key ≠ g.key := by decide
  obtain ⟨hquiet, hseg⟩ := hq p hp
  refine (Dev.get_puts_ne _ _ (by simp; omega)).trans ?_
  rw [Dev.segClose_writes _ hp 1 true _ hquiet hseg, d.lossWake_swAcc hp]

/-- The port leaves: for EmergencyStop, or in an accepted swap for ErrorRecovery. -/
def Dev.emergencyLeft (d : Dev) (p : Nat) (swap : Bool) : Dev :=
  if swap then d.errRecover p 16 14 else (d.portLeave p 14 16).attSet p 11

/-- The detach is counted and told. -/
def Dev.emergencyTold (d : Dev) (p : Nat) : Dev :=
  let d := (d.inc (F.PRT_ATT_CNT_EMCNT p)).put (H.emTick p) (d.now + 1)
  (d.attEvt p (F.PRT_ATT_EVT_EMERG p)).attEvt p (F.PRT_ATT_EVT_DETACH p)

theorem Dev.emergencyLeft_left (swap : Bool) (hatt : d.att p ≠ 0) :
    d.PortLeft (d.emergencyLeft p swap) p 14 16 (stateFlds p) ∧ (d.emergencyLeft p swap).att p = (if swap then 9 else 11) := by
  cases swap with
  | true =>
    obtain ⟨hleft, h9, -⟩ := d.errRecover_enters hp 16 14 hatt
    exact ⟨hleft, h9⟩
  | false =>
    have hset : KeepsTypeC (d.portLeave p 14 16) ((d.portLeave p 14 16).attSet p 11) (stateFlds p) :=
      .attSet (.refl _ _) hp 11 (by simp [stateFlds])
    have hleft := ((d.portLeave_left hp 14 16).mono (m := stateFlds p) (by simp)).step hp hset stateFlds_apart
    have heq : d.emergencyLeft p false = (d.portLeave p 14 16).attSet p 11 := if_neg Bool.false_ne_true
    rw [heq]
    exact ⟨hleft, Dev.attSet_att _ hp 11⟩

theorem Dev.emergencyTold_tells :
    KeepsTypeC d (d.emergencyTold p) [F.PRT_ATT_CNT_EMCNT p, F.PRT_ATT_EVT_EMERG p, F.PRT_ATT_EVT_DETACH p] ∧
    (d.emergencyTold p).get (F.PRT_ATT_CNT_EMCNT p) = (d.get (F.PRT_ATT_CNT_EMCNT p) + 1) % 256 ∧
    (d.emergencyTold p).get (F.PRT_ATT_EVT_EMERG p) = 1 ∧ (d.emergencyTold p).get (F.PRT_ATT_EVT_DETACH p) = 1 := by
  have hevt {e : Dev} {f : Fld} {l : List Fld} (hf : f ∈ l) : KeepsTypeC e (e.attEvt p f) l := .attEvt (.refl e l) hp (.inl hf)
  have hself {e : Dev} {f : Fld} (hf : f.typeC = true) (hw : f.w = 1) : (e.attEvt p f).get f = 1 :=
    Dev.event_self _ _ _ (by omega) (Fld.quiet_of_typeC hf) hw
  unfold Dev.emergencyTold
  dsimp only
  refine ⟨?_, ?_, ?_, hself (by simp [hp]) rfl⟩
  · exact .attEvt (.attEvt (.put (.put (.refl d _) _ (by simp [*])) _ (by simp [*])) hp (by simp [*])) hp (by simp [*])
  · rw [(hevt (l := [_]) (List.mem_singleton_self _)).get _ (by simp [hp]) (by simp; omega),
      (hevt (l := [_]) (List.mem_singleton_self _)).get _ (by simp [hp]) (by simp; omega),
      ((KeepsTypeC.put (.refl _ []) _ (by simp [*])).same (by simp [hp]))]
    exact Dev.get_put_self _ _ _
  · rw [(hevt (l := [_]) (List.mem_singleton_self _)).get _ (by simp [hp]) (by simp), hself (by simp [hp]) rfl]

omit hp in
theorem Dev.att_of_emergencyCond {i vbs : Nat} (h : d.emergencyCond p i vbs = true) : d.att p = 3 ∨ d.att p = 8 ∨ d.att p = 10 := by
  have hrole : (d.attached p || d.att p == 10) = true := by
    simp only [Dev.emergencyCond, Bool.and_eq_true] at h
    exact h.1.1
  simp only [Dev.attached, Dev.isSrc, Dev.isSnk, Dev.resuming, Bool.or_eq_true, Bool.and_eq_true, beq_iff_eq] at hrole
  omega

/-- An emergency detach leaves the port with stop 16, counts, and sets EMERG and DETACH; within an accepted swap it is the swap's
code 14, and the port is in ErrorRecovery. -/
theorem Dev.emergency_leaves {i vbs : Nat} (hem : d.emergencyCond p i vbs = true) :
    d.PortLeft (d.emergency p i vbs) p 14 16 (detachFlds p) ∧ (d.emergency p i vbs).get (F.PRT_ATT_EVT_EMERG p) = 1 ∧
      (d.emergency p i vbs).get (F.PRT_ATT_EVT_DETACH p) = 1 ∧
      (d.emergency p i vbs).get (F.PRT_ATT_CNT_EMCNT p) = (d.get (F.PRT_ATT_CNT_EMCNT p) + 1) % 256 ∧
      (d.get (H.swAcc p) ≠ 0 → (d.emergency p i vbs).att p = 9) ∧
      (d.get (H.swAcc p) = 0 → (d.gates p = 1 ∨ d.gates p = 2 → (d.emergency p i vbs).att p = 11) ∧
        (d.emergency p i vbs).att p ≠ 3) := by
  have hatt : (d.emergencyBegun p).att p ≠ 0 := by
    rw [show (d.emergencyBegun p).att p = d.att p from (d.emergencyBegun_keeps hp []).same (by simp [hp])]
    rcases d.att_of_emergencyCond hem with h | h | h <;> omega
  have heq : d.emergency p i vbs =
      (if (d.lossWake p).bit (H.swAcc p) then ((d.emergencyBegun p).emergencyLeft p ((d.lossWake p).bit (H.swAcc p))).emergencyTold p
      else (((d.emergencyBegun p).emergencyLeft p ((d.lossWake p).bit (H.swAcc p))).emergencyTold p).leaveLow p) := if_pos hem
  have hswap : (d.lossWake p).bit (H.swAcc p) = d.bit (H.swAcc p) := by rw [Dev.bit, d.lossWake_swAcc hp, Dev.bit]
  obtain ⟨hleft, hst⟩ := (d.emergencyBegun p).emergencyLeft_left hp (d.bit (H.swAcc p)) hatt
  have hbegun := (d.emergencyBegun_keeps hp (detachFlds p))
  rw [heq, hswap]
  have hcnt : ((d.emergencyBegun p).emergencyLeft p (d.bit (H.swAcc p))).get (F.PRT_ATT_CNT_EMCNT p) = d.get (F.PRT_ATT_CNT_EMCNT p) :=
    (hleft.keeps.get _ (by simp [hp]) (by simp [leftFlds, endFlds, stateFlds]; omega)).trans
      ((d.emergencyBegun_keeps hp []).same (by simp [hp]))
  generalize (d.emergencyBegun p).emergencyLeft p (d.bit (H.swAcc p)) = e at hleft hst hcnt ⊢
  obtain ⟨htold, hem1, hev, hdet⟩ := e.emergencyTold_tells hp
  rw [hcnt] at hem1
  have hst' : (e.emergencyTold p).att p = if d.bit (H.swAcc p) then 9 else 11 := (htold.get _ (by simp [hp]) (by simp; omega)).trans hst
  have hall : d.PortLeft (e.emergencyTold p) p 14 16 (detachFlds p) :=
    ((hleft.mono stateFlds_detach).step hp (htold.mono (by simp [detachFlds])) leftFlds_apart).before hp hbegun leftFlds_apart
      (d.emergencyBegun_swAcc hp)
  generalize e.emergencyTold p = g at *
  by_cases hacc : d.get (H.swAcc p) = 0
  · have hbit : d.bit (H.swAcc p) = false := by simp [Dev.bit, hacc]
    rw [hbit] at hst'
    simp only [hbit, Bool.false_eq_true, if_false]
    have hlow := g.leaveLow_keeps hp
    have hun {f : Fld} (hf : f ∈ detachFlds p) (hne : ∀ x ∈ unsettledFlds p, f.key ≠ x.key) : (g.leaveLow p).get f = g.get f :=
      hlow.get f ((by simp [detachFlds, hp] : ∀ f ∈ detachFlds p, f.typeC = true) f hf) hne
    refine ⟨hall.step hp (hlow.mono unsettledFlds_detach) leftFlds_apart, ?_, ?_, ?_, fun h => absurd hacc h,
      fun _ => ⟨fun hg => ?_, ?_⟩⟩
    · rw [hun (by simp [detachFlds]) (by simp [unsettledFlds]; omega), hev]
    · rw [hun (by simp [detachFlds]) (by simp [unsettledFlds]; omega), hdet]
    · rw [hun (by simp [detachFlds]) (by simp [unsettledFlds]; omega), hem1]
    · rw [Dev.leaveLow, if_neg (by rw [(hall.stopped hg).1]; decide)]
      exact hst'
    · unfold Dev.leaveLow
      split
      · split
        · have := g.unattached_unsettled hp
          unfold Dev.Unsettled at this
          omega
        · rw [show (g.disOn p).att p = g.att p from ((KeepsTypeC.refl g []).disOn hp).same (by simp [hp]), hst']
          decide
      · rw [hst']
        decide
  · have hbit : d.bit (H.swAcc p) = true := by simp [Dev.bit, hacc]
    rw [hbit] at hst'
    simp only [hbit, if_true]
    exact ⟨hall, hev, hdet, hem1, fun _ => hst', fun h => absurd h hacc⟩

end

/-! ### A cause of Disabled clears (R173) -/

section
variable (d : Dev) {p : Nat} (hp : p < 24) {cause : Nat}
include hp

/-- What the clear of a cause does once it is the last one. -/
def Dev.enabled (d : Dev) (p : Nat) : Dev := (d.unattached p).set1 (H.deadBat p)

omit hp in
theorem Dev.enableCause_eq : d.enableCause p cause =
    (if d.get (F.PRT_ATT_STAT_DISWHY p) ≠ 0 ∧ (d.putBit (F.PRT_ATT_STAT_DISWHY p) cause false).get (F.PRT_ATT_STAT_DISWHY p) = 0 ∧
        (d.putBit (F.PRT_ATT_STAT_DISWHY p) cause false).att p = 0 ∧ (d.putBit (F.PRT_ATT_STAT_DISWHY p) cause false).mode ≠ 2
      then (d.putBit (F.PRT_ATT_STAT_DISWHY p) cause false).enabled p
      else d.putBit (F.PRT_ATT_STAT_DISWHY p) cause false) := rfl

theorem Dev.enabled_keeps : KeepsTypeC d (d.enabled p) (unsettledFlds p) :=
  .put ((KeepsTypeC.refl d _).unattached hp (by simp [unsettledFlds]) (by simp [unsettledFlds]) (by simp [unsettledFlds])) 1 (by simp [*])

theorem Dev.enableCause_keeps : KeepsTypeC d (d.enableCause p cause) (F.PRT_ATT_STAT_DISWHY p :: unsettledFlds p) := by
  have hput : KeepsTypeC d (d.putBit (F.PRT_ATT_STAT_DISWHY p) cause false) (F.PRT_ATT_STAT_DISWHY p :: unsettledFlds p) :=
    .put (.refl d _) _ (by simp [*])
  rw [Dev.enableCause_eq]
  exact .ite (hput.trans ((Dev.enabled_keeps _ hp).mono fun _ hf => List.mem_cons_of_mem _ hf)) hput

theorem Dev.enableCause_diswhy : (d.enableCause p cause).get (F.PRT_ATT_STAT_DISWHY p) =
    (d.putBit (F.PRT_ATT_STAT_DISWHY p) cause false).get (F.PRT_ATT_STAT_DISWHY p) := by
  rw [Dev.enableCause_eq]
  split
  · exact (Dev.enabled_keeps _ hp).get _ (by simp [hp]) (by simp [unsettledFlds])
  · rfl

/-- The clear of the last cause, outside Blaze, makes the port Unattached. -/
theorem Dev.enableCause_last (hwas : d.get (F.PRT_ATT_STAT_DISWHY p) ≠ 0)
    (hnone : (d.putBit (F.PRT_ATT_STAT_DISWHY p) cause false).get (F.PRT_ATT_STAT_DISWHY p) = 0) (hatt : d.att p = 0)
    (hmode : d.mode ≠ 2) :
    (d.enableCause p cause).Unsettled p := by
  have hput : KeepsTypeC d (d.putBit (F.PRT_ATT_STAT_DISWHY p) cause false) [F.PRT_ATT_STAT_DISWHY p] := .put (.refl d _) _ (by simp [*])
  have hatt' : (d.putBit (F.PRT_ATT_STAT_DISWHY p) cause false).att p = 0 := (hput.get _ (by simp [hp]) (by simp)).trans hatt
  have hmode' : (d.putBit (F.PRT_ATT_STAT_DISWHY p) cause false).mode ≠ 2 := by
    rwa [show (d.putBit (F.PRT_ATT_STAT_DISWHY p) cause false).mode = d.mode from hput.get _ (by decide) (by simp [fkey]; omega)]
  rw [Dev.enableCause_eq, if_pos ⟨hwas, hnone, hatt', hmode'⟩]
  have hset {e : Dev} : (e.set1 (H.deadBat p)).att p = e.att p := (KeepsTypeC.put (.refl e []) 1 (by simp [*])).same (by simp [hp])
  unfold Dev.Unsettled Dev.enabled
  rw [hset]
  exact Dev.unattached_unsettled _ hp

/-- The chatter hold and the attach cycles of the window stand. -/
theorem Dev.enableCause_chatter : (d.enableCause p cause).get (T.chatter p) = d.get (T.chatter p) ∧
    (d.enableCause p cause).attachTimes p = d.attachTimes p := by
  have hput : (d.putBit (F.PRT_ATT_STAT_DISWHY p) cause false).get (T.chatter p) = d.get (T.chatter p) :=
    Dev.get_put_ne _ _ (by simp only [fkey, hkey]; omega)
  have hdead {e : Dev} : (e.set1 (H.deadBat p)).get (T.chatter p) = e.get (T.chatter p) :=
    Dev.get_put_ne _ _ (by simp only [hkey]; omega)
  have htimes {e : Dev} (f : Fld) (v : Nat) : (e.put f v).attachTimes p = e.attachTimes p := rfl
  rw [Dev.enableCause_eq]
  split
  · obtain ⟨-, hchat, hwin⟩ := (d.putBit (F.PRT_ATT_STAT_DISWHY p) cause false).unattached_timers hp
    rw [Dev.enabled, hdead, Dev.set1, htimes, hchat, hwin]
    exact ⟨hput, htimes _ _⟩
  · exact ⟨hput, htimes _ _⟩

end

end Sys2Proof.Machine

/-!
The CC lines of a port (R165-R168, R171, R183, R190): what a candidate, its rejection and its acceptance write.
-/
namespace Sys2Proof.Machine

/-! ### Frames of the steps that follow every accepted code -/

theorem OnlyRegs.mono {d e : Dev} {l m : List Fld} (h : OnlyRegs d e l) (hs : ∀ f ∈ l, f ∈ m) : OnlyRegs d e m :=
  ⟨h.1.mono hs, h.2⟩

theorem Dev.ccRecount_frame (d : Dev) (p : Nat) : OnlyRegs d (d.ccRecount p) [H.ccDue p 0, H.ccDue p 1] := by
  have hstep {e : Dev} (h : OnlyRegs d e [H.ccDue p 0, H.ccDue p 1]) {cc : Nat} (hcc : H.ccDue p cc ∈ [H.ccDue p 0, H.ccDue p 1]) :
      OnlyRegs d (if e.bit (H.ccDue p cc) then e.put (H.ccDue p cc) (e.ccEarliest p cc + 1) else e) [H.ccDue p 0, H.ccDue p 1] :=
    .ite (h.put _ _ hcc) h
  exact hstep (hstep (.refl d _) (by simp)) (by simp)

/-- The status of Ra and the dues of the candidates are found anew. -/
def Dev.linesReviewed (d : Dev) (p : Nat) : Dev := (d.raUpdate p).ccRecount p

/-- What that writes. -/
def reviewFlds (p : Nat) : List Fld := [F.PRT_ATT_STAT_RAPRES p, H.ccDue p 0, H.ccDue p 1]

theorem Dev.linesReviewed_frame (d : Dev) (p : Nat) : OnlyRegs d (d.linesReviewed p) (reviewFlds p) :=
  ((OnlyRegs.refl d [F.PRT_ATT_STAT_RAPRES p]).put _ _ (by simp)).append (Dev.ccRecount_frame _ p)

/-! ### Rejection (R161, R168) -/

section
variable (d : Dev) {p : Nat} (hp : p < 24)
include hp

/-- A rejected candidate counts up to eight, which sets ACT; nothing else that no raise of an event writes changes. -/
theorem Dev.ccReject_counts : OnlyQuiet d (d.ccReject p) [H.ccRej p, F.PRT_ATT_EVT_ACT p] ∧
    (d.ccReject p).get (H.ccRej p) = min 8 (d.get (H.ccRej p) + 1) ∧
    (7 ≤ d.get (H.ccRej p) → (d.ccReject p).get (F.PRT_ATT_EVT_ACT p) = 1) := by
  have hq : ∀ p < 24, (H.ccRej p).quiet = true ∧ (F.PRT_ATT_EVT_ACT p).quiet = true ∧
      (H.ccRej p).key ≠ (F.PRT_ATT_EVT_ACT p).key := by decide
  obtain ⟨hrej, hact, hne⟩ := hq p hp
  have hcount : (d.put (H.ccRej p) (min 8 (d.get (H.ccRej p) + 1))).get (H.ccRej p) = min 8 (d.get (H.ccRej p) + 1) := by
    rw [Dev.get_put_self]
    exact Nat.mod_eq_of_lt (show _ < 2 ^ 4 by omega)
  have hput : OnlyQuiet d (d.put (H.ccRej p) (min 8 (d.get (H.ccRej p) + 1))) [H.ccRej p, F.PRT_ATT_EVT_ACT p] :=
    .put (.refl d _) _ (by simp)
  unfold Dev.ccReject
  dsimp only
  rw [hcount]
  generalize d.put (H.ccRej p) (min 8 (d.get (H.ccRej p) + 1)) = e at hcount hput ⊢
  refine ⟨.ite (hput.event (by omega) (by simp)) hput, ?_, fun h7 => ?_⟩
  · split
    · exact (Dev.event_get _ _ _ (by omega) hrej hne).trans hcount
    · exact hcount
  · split
    · exact Dev.event_self _ _ _ (by omega) hact rfl
    · next hno =>
      have hbit : e.bit (F.PRT_ATT_EVT_ACT p) = true := by
        by_contra hclear
        exact hno ⟨by omega, by simpa using hclear⟩
      rw [Dev.bit_eq_decide _ rfl] at hbit
      exact of_decide_eq_true hbit

/-- A line loses its candidate as rejected, and its count begins with the next tick. -/
theorem Dev.candidate_rejected {cc : Nat} (hcc : cc < 2) :
    ((d.puts [(H.ccDue p cc, 0), (H.ccSince p cc, d.now + 1)]).ccReject p).get (H.ccDue p cc) = 0 ∧
      ((d.puts [(H.ccDue p cc, 0), (H.ccSince p cc, d.now + 1)]).ccReject p).get (H.ccSince p cc) = (d.now + 1) % 2 ^ 64 ∧
      ((d.puts [(H.ccDue p cc, 0), (H.ccSince p cc, d.now + 1)]).ccReject p).get (H.ccRej p) = min 8 (d.get (H.ccRej p) + 1) ∧
      (7 ≤ d.get (H.ccRej p) →
        ((d.puts [(H.ccDue p cc, 0), (H.ccSince p cc, d.now + 1)]).ccReject p).get (F.PRT_ATT_EVT_ACT p) = 1) := by
  have hq : ∀ p < 24, ∀ cc < 2, ∀ f ∈ [H.ccDue p cc, H.ccSince p cc], f.quiet = true ∧
      ∀ g ∈ [H.ccRej p, F.PRT_ATT_EVT_ACT p], f.key ≠ g.key := by decide
  have hw : (d.puts [(H.ccDue p cc, 0), (H.ccSince p cc, d.now + 1)]).get (H.ccDue p cc) = 0 ∧
      (d.puts [(H.ccDue p cc, 0), (H.ccSince p cc, d.now + 1)]).get (H.ccSince p cc) = (d.now + 1) % 2 ^ 64 ∧
      (d.puts [(H.ccDue p cc, 0), (H.ccSince p cc, d.now + 1)]).get (H.ccRej p) = d.get (H.ccRej p) := by
    simp (disch := (simp only [hkey]; omega)) only [Dev.puts_cons, Dev.puts_nil, Dev.get_put_ne, Dev.get_put_self, Nat.zero_mod, and_self]
  generalize d.puts [(H.ccDue p cc, 0), (H.ccSince p cc, d.now + 1)] = e at hw ⊢
  obtain ⟨hdue, hsince, hrej⟩ := hw
  obtain ⟨hframe, hcount, hact⟩ := e.ccReject_counts hp
  have hkeep {f : Fld} (hf : f ∈ [H.ccDue p cc, H.ccSince p cc]) : (e.ccReject p).get f = e.get f :=
    hframe f (hq p hp cc hcc f hf).1 (hq p hp cc hcc f hf).2
  rw [hrej] at hcount hact
  exact ⟨(hkeep (by simp)).trans hdue, (hkeep (by simp)).trans hsince, hcount, hact⟩

end

/-- The line of a rejected candidate is the first that has one. -/
theorem Dev.ccRejected_eq {d : Dev} {p : Nat} (hblank : d.get (H.blankTo p) ≤ d.now) (hmode : d.mode ≠ 2) : d.ccRejected p =
    (d.puts [(H.ccDue p (if d.get (H.ccDue p 0) = 0 then 1 else 0), 0),
      (H.ccSince p (if d.get (H.ccDue p 0) = 0 then 1 else 0), d.now + 1)]).ccReject p := by
  have hline : (if d.bit (H.ccDue p 0) then 0 else 1) = if d.get (H.ccDue p 0) = 0 then 1 else 0 := by
    by_cases h0 : d.get (H.ccDue p 0) = 0 <;> simp [Dev.bit, h0]
  rw [← hline]
  exact if_neg (by omega)

/-! ### Acceptance (R167, R171) -/

/-- The field of the accepted code of CC1 (0) or CC2 (1). -/
abbrev ccLvl (p cc : Nat) : Fld := if cc = 0 then F.PRT_ATT_STAT_CC1LVL p else F.PRT_ATT_STAT_CC2LVL p

theorem Dev.ccCode_eq (d : Dev) (p cc : Nat) : d.ccCode p cc = d.get (ccLvl p cc) := by
  unfold Dev.ccCode ccLvl
  split
  · rfl
  · rfl

/-- What an accepted code writes before its meaning is looked at. -/
def Dev.ccStored (d : Dev) (p cc code : Nat) : Dev :=
  let d := (d.put (ccLvl p cc) code).puts [(H.ccRej p, 0), (H.ccDue p cc, 0), (H.ccSince p cc, d.now + 1)]
  d.put (H.ccov p) (b2n (d.cc1 p == 6 || d.cc2 p == 6))

theorem Dev.ccAccept_eq (d : Dev) (p cc code : Nat) :
    d.ccAccept p cc code = (((d.ccStored p cc code).rpAccept p cc).ccEval p).linesReviewed p := rfl

/-- Those fields. -/
def storedFlds (p cc : Nat) : List Fld := [ccLvl p cc, H.ccRej p, H.ccDue p cc, H.ccSince p cc, H.ccov p]

theorem Dev.ccStored_frame (d : Dev) (p cc code : Nat) : OnlyRegs d (d.ccStored p cc code) (storedFlds p cc) :=
  (((OnlyRegs.refl d _).put _ _ (by simp [storedFlds])).puts _ (by simp [storedFlds])).put _ _ (by simp [storedFlds])

/-- A port that is no sink looks for no level of its partner's Rp. -/
theorem Dev.not_seesRp {d : Dev} {p : Nat} (h3 : d.att p ≠ 3) (h10 : d.att p ≠ 10) : d.seesRp p = false := by
  simp [Dev.seesRp, Dev.isSnk, Dev.resuming, h3, h10]

theorem Dev.att_of_seesRp {d : Dev} {p : Nat} (h : d.seesRp p = true) : d.att p = 3 ∨ d.att p = 10 := by
  by_contra hno
  rw [not_or] at hno
  rw [Dev.not_seesRp hno.1 hno.2] at h
  cases h

theorem Dev.rpAccept_of_not_seesRp {d : Dev} {p : Nat} (cc : Nat) (h : d.seesRp p = false) : d.rpAccept p cc = d := by
  rw [Dev.rpAccept, h]
  rfl

/-- In Disabled, Attached as sink and Resuming the codes of the lines change no state. -/
theorem Dev.ccEval_idle {d : Dev} {p : Nat} (h : d.att p = 0 ∨ d.att p = 3 ∨ d.att p = 10) : d.ccEval p = d := by
  rcases h with h | h | h <;> simp [Dev.ccEval, h]

theorem Dev.ccEval_unattached {d : Dev} {p : Nat} (h : d.att p = 1 ∨ d.att p = 4) : d.ccEval p = d.recognise p := if_pos h

section
variable (d : Dev) {p : Nat} (hp : p < 24) {cc : Nat} (code : Nat)
include hp

omit hp in
theorem ccLvl_ne {f : Fld} (hf : ∀ g ∈ [F.PRT_ATT_STAT_CC1LVL p, F.PRT_ATT_STAT_CC2LVL p], f.key ≠ g.key) :
    f.key ≠ (ccLvl p cc).key := by
  unfold ccLvl
  split
  · exact hf _ (by simp)
  · exact hf _ (by simp)

omit hp in
/-- The other fields stand. -/
theorem Dev.ccStored_get {f : Fld} (hl : ∀ g ∈ [F.PRT_ATT_STAT_CC1LVL p, F.PRT_ATT_STAT_CC2LVL p], f.key ≠ g.key)
    (hf : ∀ g ∈ [H.ccRej p, H.ccDue p cc, H.ccSince p cc, H.ccov p], f.key ≠ g.key) :
    (d.ccStored p cc code).get f = d.get f :=
  (d.ccStored_frame p cc code).1 f (List.forall_mem_cons.2 ⟨ccLvl_ne hl, hf⟩)

theorem Dev.ccStored_att : (d.ccStored p cc code).att p = d.att p :=
  d.ccStored_get code (f := F.PRT_ATT_STAT_STATE p) (by simp) (by simp [fkey, hkey]; omega)

theorem Dev.ccStored_code (hcode : code < 8) : (d.ccStored p cc code).get (ccLvl p cc) = code := by
  have hw : (ccLvl p cc).w = 3 := by
    unfold ccLvl
    split <;> rfl
  have ht : (ccLvl p cc).typeC = true := by
    unfold ccLvl
    split <;> simp [hp]
  unfold Dev.ccStored
  dsimp only
  rw [(KeepsTypeC.put (.puts (.refl _ []) (by simp [*])) _ (by simp [*])).same ht, Dev.get_put_self, hw]
  exact Nat.mod_eq_of_lt hcode

omit hp in
/-- What an accepted code writes in Disabled. -/
theorem acceptedFlds_mem (hcc : cc < 2) : ∀ f ∈ storedFlds p cc ++ reviewFlds p,
    f ∈ [ccLvl p cc, H.ccRej p, H.ccov p, F.PRT_ATT_STAT_RAPRES p, H.ccDue p 0, H.ccDue p 1, H.ccSince p cc] := by
  have hdue : cc = 0 ∨ cc = 1 := by omega
  rcases hdue with rfl | rfl <;> simp [storedFlds, reviewFlds]

/-- In Disabled a code is stored, and nothing follows from it. -/
theorem Dev.ccAccept_disabled (hatt : d.att p = 0) (hcode : code < 8) : (d.ccAccept p cc code).get (ccLvl p cc) = code ∧
    OnlyRegs d (d.ccAccept p cc code) (storedFlds p cc ++ reviewFlds p) := by
  have hatt' : (d.ccStored p cc code).att p = 0 := (d.ccStored_att hp code).trans hatt
  have heq : d.ccAccept p cc code = (d.ccStored p cc code).linesReviewed p := by
    rw [Dev.ccAccept_eq, Dev.rpAccept_of_not_seesRp cc (Dev.not_seesRp (by omega) (by omega)), Dev.ccEval_idle (.inl hatt')]
  have hne : ∀ g ∈ reviewFlds p, (ccLvl p cc).key ≠ g.key := by
    intro g hg
    refine (ccLvl_ne ?_).symm
    simp only [reviewFlds, List.mem_cons, List.not_mem_nil, or_false] at hg
    rcases hg with rfl | rfl | rfl <;> simp [fkey, hkey] <;> omega
  rw [heq]
  exact ⟨((Dev.linesReviewed_frame _ p).1 _ hne).trans (d.ccStored_code hp code hcode),
    (d.ccStored_frame p cc code).append (Dev.linesReviewed_frame _ p)⟩

/-- An Unattached port that sees its end with an accepted code waits for the attach. -/
theorem Dev.ccAccept_seen (hatt : d.att p = 1 ∨ d.att p = 4) {line : Nat} (hline : (d.ccStored p cc code).seenEnd p = line)
    (h0 : line ≠ 0) :
    (d.ccAccept p cc code).att p = (if d.att p = 1 then 2 else 5) ∧
      (d.ccAccept p cc code).get (F.PRT_ATT_STAT_ORIENT p) = line % 2 ^ 2 ∧ (d.ccAccept p cc code).get (F.PRT_ATT_EVT_RECOG p) = 1 ∧
      (d.ccAccept p cc code).get (T.ccDb p) = (d.now + d.tccdb p + 1) % 2 ^ 64 ∧ (d.ccAccept p cc code).get (T.toggle p) = 0 := by
  have hatt' := d.ccStored_att hp (cc := cc) code
  have heq : d.ccAccept p cc code = ((d.ccStored p cc code).recognised p line).linesReviewed p := by
    rw [Dev.ccAccept_eq, Dev.rpAccept_of_not_seesRp cc (Dev.not_seesRp (by omega) (by omega)),
      Dev.ccEval_unattached (by rwa [hatt']), Dev.recognise_eq, hline, if_neg h0]
  have hlast {f : Fld} (hf : ∀ g ∈ reviewFlds p, f.key ≠ g.key) :
      (((d.ccStored p cc code).recognised p line).linesReviewed p).get f = ((d.ccStored p cc code).recognised p line).get f :=
    (Dev.linesReviewed_frame _ p).1 f hf
  have htcc : (d.ccStored p cc code).tccdb p = d.tccdb p := by
    unfold Dev.tccdb
    rw [d.ccStored_get code (f := F.PRT_DEBOUNCE_TCCDB p) (by simp [fkey]; omega) (by simp [fkey, hkey]; omega)]
  obtain ⟨hst, hor, hev, hdb, htog⟩ := (d.ccStored p cc code).recognised_shows hp line
  rw [hatt'] at hst
  rw [htcc, (d.ccStored_frame p cc code).now] at hdb
  rw [heq]
  refine ⟨(hlast ?_).trans hst, (hlast ?_).trans hor, (hlast ?_).trans hev, (hlast ?_).trans hdb, (hlast ?_).trans htog⟩ <;>
    simp [reviewFlds, fkey, hkey] <;> omega

/-- As sink a change of the partner's Rp on the active line is due as the recognised level after 1 ms. -/
theorem Dev.ccAccept_rp (hsees : d.seesRp p = true) (horient : d.get (F.PRT_ATT_STAT_ORIENT p) = cc + 1) (h3 : 3 ≤ code)
    (h5 : code < 6) (hnew : code ≠ d.get (H.rpLevel p)) :
    (d.ccAccept p cc code).get (H.rpDue p) = (d.now + 64001) % 2 ^ 64 ∧
      (d.ccAccept p cc code).get (H.rpLevel p) = d.get (H.rpLevel p) := by
  have hatt := d.ccStored_att hp (cc := cc) code
  have hkeep {f : Fld} (hf : f ∈ [H.grdSink p, H.resume p, H.rpLevel p, F.PRT_ATT_STAT_ORIENT p]) :
      (d.ccStored p cc code).get f = d.get f := by
    refine d.ccStored_get code ?_ ?_ <;>
      simp only [List.mem_cons, List.not_mem_nil, or_false] at hf <;>
      rcases hf with rfl | rfl | rfl | rfl <;> simp [fkey, hkey] <;> omega
  have hsees' : (d.ccStored p cc code).seesRp p = true := by
    rw [← hsees]
    simp only [Dev.seesRp, Dev.isSnk, Dev.resuming, Dev.bit, hatt, hkeep (f := H.grdSink p) (by simp), hkeep (f := H.resume p) (by simp)]
  have hlevel := hkeep (f := H.rpLevel p) (by simp)
  have hline : (d.ccStored p cc code).get (F.PRT_ATT_STAT_ORIENT p) = cc + 1 := (hkeep (by simp)).trans horient
  have hcode : (d.ccStored p cc code).ccCode p cc = code := (Dev.ccCode_eq _ p cc).trans (d.ccStored_code hp code (by omega))
  have hrp : isRpCode code = true := by
    have : code = 3 ∨ code = 4 ∨ code = 5 := by omega
    rcases this with rfl | rfl | rfl <;> rfl
  have hacc : (d.ccStored p cc code).rpAccept p cc = (d.ccStored p cc code).put (H.rpDue p) (d.now + 64001) := by
    simp [Dev.rpAccept, hsees', hline, hcode, hrp, hlevel, hnew, (d.ccStored_frame p cc code).now]
  have hidle : ((d.ccStored p cc code).put (H.rpDue p) (d.now + 64001)).att p = d.att p :=
    (Dev.get_put_ne _ _ (by simp only [fkey, hkey]; omega)).trans hatt
  have heq : d.ccAccept p cc code = ((d.ccStored p cc code).put (H.rpDue p) (d.now + 64001)).linesReviewed p := by
    rw [Dev.ccAccept_eq, hacc, Dev.ccEval_idle]
    rw [hidle]
    exact .inr (Dev.att_of_seesRp hsees)
  rw [heq]
  refine ⟨((Dev.linesReviewed_frame _ p).1 _ ?_).trans (Dev.get_put_self _ _ _),
    ((Dev.linesReviewed_frame _ p).1 _ ?_).trans ((Dev.get_put_ne _ _ (by simp only [hkey]; omega)).trans hlevel)⟩ <;>
    simp [reviewFlds, fkey, hkey] <;> omega

theorem Dev.seenEnd_of_rp (hatt : d.att p = 1) (h3 : 3 ≤ code) (h5 : code < 6) (hra : d.cc2 p ≤ 1) :
    (d.ccStored p 0 code).seenEnd p = 1 := by
  have hcode : (d.ccStored p 0 code).cc1 p = code := d.ccStored_code hp (cc := 0) code (by omega)
  have hrp : isRpCode code = true := by
    have : code = 3 ∨ code = 4 ∨ code = 5 := by omega
    rcases this with rfl | rfl | rfl <;> rfl
  have hother : (d.ccStored p 0 code).cc2 p = d.cc2 p := (d.ccStored_frame p 0 code).1 _ (by simp [storedFlds, ccLvl, fkey, hkey]; omega)
  rw [Dev.seenEnd, if_pos ((d.ccStored_att hp code).trans hatt), Dev.rpSeen, hcode, hother, seenLine, hrp]
  simp [hra]

theorem Dev.seenEnd_of_rd (hatt : d.att p = 4) (hra : d.cc1 p ≤ 1) : (d.ccStored p 1 2).seenEnd p = 2 := by
  have hatt' : (d.ccStored p 1 2).att p = 4 := (d.ccStored_att hp 2).trans hatt
  have hcode : (d.ccStored p 1 2).cc2 p = 2 := d.ccStored_code hp (cc := 1) 2 (by omega)
  have hother : (d.ccStored p 1 2).cc1 p = d.cc1 p := (d.ccStored_frame p 1 2).1 _ (by simp [storedFlds, ccLvl, fkey, hkey]; omega)
  have hno : isRdCode (d.cc1 p) = false := by
    rw [isRdCode, beq_eq_false_iff_ne]
    omega
  rw [Dev.seenEnd, if_neg (by omega), if_pos hatt', Dev.rdSeen, hcode, hother, seenLine, hno]
  simp [hra, isRdCode]

end

/-! ### A reported code (R165-R167) -/

section
variable {d : Dev} {p cc code : Nat} (hmode : d.mode ≠ 2)
include hmode

/-- A code that the termination does not give ends a candidate. -/
theorem Dev.ccLevel_unfit (hfit : codeFits (d.ccTerm p (cc + 1)) code = false) : d.ccLevel p cc code = d.put (H.ccDue p cc) 0 := by
  rw [Dev.ccLevel, if_neg hmode, hfit]
  rfl

variable (hfit : codeFits (d.ccTerm p (cc + 1)) code = true)
include hfit

/-- The accepted code rejects a candidate. -/
theorem Dev.ccLevel_same (hcode : code = d.ccCode p cc) : d.ccLevel p cc code =
    if d.bit (H.ccDue p cc) then (d.puts [(H.ccDue p cc, 0), (H.ccSince p cc, d.now + 1)]).ccReject p else d := by
  rw [Dev.ccLevel, if_neg hmode, hfit, if_neg (by decide), if_pos hcode]

/-- Another code is accepted now, or becomes the candidate of the sample that accepts it. -/
theorem Dev.ccLevel_other (hcode : code ≠ d.ccCode p cc) : d.ccLevel p cc code =
    if d.ccEarliest p cc = d.now then d.ccAccept p cc code
    else d.puts [(H.ccCand p cc, code), (H.ccDue p cc, d.ccEarliest p cc + 1)] := by
  rw [Dev.ccLevel, if_neg hmode, hfit, if_neg (by decide), if_neg hcode]

end

/-! ### The recognised Rp level (R183) -/

/-- What the recognised level writes. -/
def rpFlds (p : Nat) : List Fld :=
  [H.rpLevel p, F.PRT_PE_STAT_TXNG p, H.iset p, H.imode p, H.iDur p, H.rpDue p, T.cmdStart p]

/-- A code that has stood for 1 ms becomes the recognised level, and a command waits no more for it. -/
theorem Dev.rpRecognised_sets (d : Dev) {p code : Nat} (h5 : code < 8) (hsees : d.seesRp p = true) (hline : d.activeLine p = code)
    (hdue : d.get (H.rpDue p) ≠ 0) (hpast : d.get (H.rpDue p) ≤ d.now + 1) :
    (d.rpRecognised p code).get (H.rpLevel p) = code ∧
      (d.rpRecognised p code).get (F.PRT_PE_STAT_TXNG p) = (if code = 4 then 1 else 0) ∧
      (d.rpRecognised p code).get (T.cmdStart p) = (d.now + 1) % 2 ^ 64 ∧ OnlyRegs d (d.rpRecognised p code) (rpFlds p) := by
  have hgo : (d.seesRp p && d.activeLine p == code && d.bit (H.rpDue p) && decide (d.get (H.rpDue p) ≤ d.now + 1)) = true := by
    simp [hsees, hline, Dev.bit, hdue, hpast]
  have hw : OnlyRegs d (d.puts [(H.rpLevel p, code), (F.PRT_PE_STAT_TXNG p, b2n (code == 4)), (H.rpDue p, 0)]) (rpFlds p) :=
    (OnlyRegs.refl d _).puts _ (by simp [rpFlds])
  have hset : (d.puts [(H.rpLevel p, code), (F.PRT_PE_STAT_TXNG p, b2n (code == 4)), (H.rpDue p, 0)]).get (H.rpLevel p) = code ∧
      (d.puts [(H.rpLevel p, code), (F.PRT_PE_STAT_TXNG p, b2n (code == 4)), (H.rpDue p, 0)]).get (F.PRT_PE_STAT_TXNG p) =
        (if code = 4 then 1 else 0) := by
    simp (disch := (simp only [fkey, hkey]; omega)) only [Dev.puts_cons, Dev.puts_nil, Dev.get_put_ne, Dev.get_put_self]
    refine ⟨Nat.mod_eq_of_lt h5, ?_⟩
    by_cases h4 : code = 4 <;> simp [h4, b2n]
  unfold Dev.rpRecognised
  rw [if_pos hgo]
  dsimp only
  generalize d.puts [(H.rpLevel p, code), (F.PRT_PE_STAT_TXNG p, b2n (code == 4)), (H.rpDue p, 0)] = e at hw hset ⊢
  have hcur : OnlyRegs e (if e.pe p = 19 ∧ (!e.bit (H.snkInrush p)) = true then e.setIset p (e.rpCurrent p) else e)
      [H.iset p, H.imode p, H.iDur p] := .ite ((OnlyRegs.refl e _).puts _ (by simp)) (.refl e _)
  generalize (if e.pe p = 19 ∧ (!e.bit (H.snkInrush p)) = true then e.setIset p (e.rpCurrent p) else e) = g at hcur ⊢
  have hkeep {f : Fld} (hf : ∀ x ∈ T.cmdStart p :: [H.iset p, H.imode p, H.iDur p], f.key ≠ x.key) :
      (g.arm (T.cmdStart p) 0).get f = e.get f :=
    (Dev.get_put_ne _ _ (hf _ (List.mem_cons_self ..))).trans (hcur.1 f fun x hx => hf x (List.mem_cons_of_mem _ hx))
  refine ⟨(hkeep ?_).trans hset.1, (hkeep ?_).trans hset.2, ?_, ?_⟩
  · simp [hkey]
    omega
  · simp [fkey, hkey]
    omega
  · refine (Dev.get_put_self _ _ _).trans ?_
    rw [hcur.now, hw.now]
  · exact (hw.trans (hcur.mono (by simp [rpFlds]))).put _ _ (by simp [rpFlds])

end Sys2Proof.Machine

/-!
The timers of the attach rules (R169-R176, R180): toggling with its rest, the debounces, Try.SRC, ErrorRecovery and the chatter hold.
-/
namespace Sys2Proof.Machine

/-! ### Toggling (R174-R176, R189) -/

theorem Dev.attSet_get (d : Dev) {p : Nat} (st : Nat) {f : Fld} (hf : ∀ g ∈ attSetFlds p, f.key ≠ g.key) :
    (d.attSet p st).get f = d.get f := ((OnlyRegs.refl d _).attSet p st fun _ hg => hg).1 f hf

theorem Dev.attSet_now (d : Dev) (p st : Nat) : (d.attSet p st).now = d.now := ((OnlyRegs.refl d _).attSet p st fun _ hg => hg).now

/-- Where no accepted code of a line changes, the same ends are seen. -/
theorem KeepsTypeC.seen {d e : Dev} {l : List Fld} {p : Nat} (h : KeepsTypeC d e l) (hp : p < 24)
    (hl : ∀ f ∈ [F.PRT_ATT_STAT_CC1LVL p, F.PRT_ATT_STAT_CC2LVL p], ∀ g ∈ l, f.key ≠ g.key) :
    e.rdSeen p = d.rdSeen p ∧ e.rpSeen p = d.rpSeen p := by
  have h1 : e.cc1 p = d.cc1 p := h.get _ (by simp [hp]) (hl _ (by simp))
  have h2 : e.cc2 p = d.cc2 p := h.get _ (by simp [hp]) (hl _ (by simp))
  rw [Dev.rdSeen, Dev.rpSeen, h1, h2]
  exact ⟨rfl, rfl⟩

theorem KeepsTypeC.phaseTicks {d e : Dev} {p : Nat} (h : KeepsTypeC d e [F.PRT_ATT_STAT_STATE p]) (hp : p < 24) (src : Bool) :
    e.phaseTicks p src = d.phaseTicks p src := by
  have hper : e.get (F.PRT_TOGGLE_PERIOD p) = d.get (F.PRT_TOGGLE_PERIOD p) := h.get _ (by simp [hp]) (by simp; omega)
  have hduty : e.get (F.PRT_TOGGLE_DUTY p) = d.get (F.PRT_TOGGLE_DUTY p) := h.get _ (by simp [hp]) (by simp; omega)
  rw [Dev.phaseTicks, hper, hduty]
  rfl

/-- The role of the Unattached state that a toggle phase enters. -/
def Dev.toggleRole (d : Dev) (p : Nat) : Nat :=
  if d.get (H.rolePend p) = 1 ∨ d.get (H.rolePend p) = 2 then d.get (H.rolePend p) else d.get (F.PRT_CTRL_ROLE p)

/-- A port of both roles takes ROLE and TRYSRC with it. -/
def Dev.roleLatched (d : Dev) (p : Nat) : Dev :=
  if d.get (H.rolePend p) == 1 || d.get (H.rolePend p) == 2 then d
  else d.puts [(H.rolePend p, d.get (F.PRT_CTRL_ROLE p)), (H.tryPend p, d.get (F.PRT_CTRL_TRYSRC p))]

/-- The source phase begins. -/
def Dev.toSrcPhase (d : Dev) (p : Nat) : Dev :=
  let e := (d.set1 (H.toggleSrc p)).attSet p (if d.get (H.rolePend p) = 2 then 1 else 4)
  e.arm (T.toggle p) (e.get (H.togSrcLen p))

/-- The sink phase begins, or waits for the rest of Banked. -/
def Dev.toSnkPhase (d : Dev) (p : Nat) : Dev :=
  let e := (d.puts [(H.toggleSrc p, 0), (H.togglePer p, min 2 (d.get (H.togglePer p) + 1)), (T.toggle p, 0)]).attSet p
    (if d.get (H.rolePend p) = 1 then 4 else 1)
  if e.mode = 3 ∧ e.get (H.restLen p) ≠ 0 then (e.arm (T.rest p) (e.get (H.restLen p) * 640000)).ccRecount p else e.periodStart p

section
variable (d : Dev) {p : Nat}

theorem Dev.roleLatched_frame : OnlyRegs d (d.roleLatched p) [H.rolePend p, H.tryPend p] :=
  .ite (.refl d _) ((OnlyRegs.refl d _).puts _ (by simp))

theorem Dev.roleLatched_role : (d.roleLatched p).get (H.rolePend p) = d.toggleRole p := by
  have hlatch : (d.puts [(H.rolePend p, d.get (F.PRT_CTRL_ROLE p)), (H.tryPend p, d.get (F.PRT_CTRL_TRYSRC p))]).get (H.rolePend p) =
      d.get (F.PRT_CTRL_ROLE p) := by
    simp (disch := (simp only [hkey]; omega)) only [Dev.puts_cons, Dev.puts_nil, Dev.get_put_ne, Dev.get_put_self]
    exact d.get_mod (F.PRT_CTRL_ROLE p)
  unfold Dev.roleLatched Dev.toggleRole
  by_cases hone : d.get (H.rolePend p) = 1 ∨ d.get (H.rolePend p) = 2
  · rw [if_pos (by simpa using hone), if_pos hone]
  · rw [if_neg (by simpa using hone), if_neg hone, hlatch]

/-- A rest of Banked begins. -/
theorem Dev.restBegun_frame (n : Nat) : OnlyRegs d ((d.arm (T.rest p) n).ccRecount p) [T.rest p, H.ccDue p 0, H.ccDue p 1] :=
  ((OnlyRegs.refl d [T.rest p]).put _ _ (by simp)).append (Dev.ccRecount_frame _ p)

variable (hp : p < 24)

theorem Dev.periodStart_frame : OnlyRegs d (d.periodStart p) [H.togSrcLen p, H.restLen p, T.toggle p] :=
  ((OnlyRegs.refl d _).puts _ (by simp)).put _ _ (by simp)

theorem Dev.periodStart_toggle : (d.periodStart p).get (T.toggle p) = (d.now + d.phaseTicks p false + 1) % 2 ^ 64 :=
  Dev.get_put_self _ _ _

include hp

theorem Dev.restBegun_rest (n : Nat) : ((d.arm (T.rest p) n).ccRecount p).get (T.rest p) = (d.now + n + 1) % 2 ^ 64 :=
  ((Dev.ccRecount_frame _ p).1 (T.rest p) (by simp [hkey]; omega)).trans (Dev.get_put_self _ _ _)

theorem Dev.toSrcPhase_keeps : KeepsTypeC d (d.toSrcPhase p) [F.PRT_ATT_STAT_STATE p] :=
  .put (.attSet (.put (.refl d _) 1 (by simp [*])) hp _ (by simp)) _ (by simp [*])

theorem Dev.toSnkPhase_keeps : KeepsTypeC d (d.toSnkPhase p) [F.PRT_ATT_STAT_STATE p] := by
  have hset : KeepsTypeC d ((d.puts [(H.toggleSrc p, 0), (H.togglePer p, min 2 (d.get (H.togglePer p) + 1)), (T.toggle p, 0)]).attSet p
      (if d.get (H.rolePend p) = 1 then 4 else 1)) [F.PRT_ATT_STAT_STATE p] := .attSet (.puts (.refl d _) (by simp [*])) hp _ (by simp)
  exact .ite (.ccRecount (.put hset _ (by simp [*]))) (.put (.puts hset (by simp [*])) _ (by simp [*]))

/-- The end of a toggle phase with no end in sight. -/
theorem Dev.toggleEnd_alone (hatt : d.att p = 1 ∨ d.att p = 4) (hrun : d.get (T.toggle p) ≠ 0) (hrd : d.rdSeen p = 0)
    (hrp : d.rpSeen p = 0) :
    d.toggleEnd p =
      if (d.roleLatched p).bit (H.toggleSrc p) then (d.roleLatched p).toSnkPhase p else (d.roleLatched p).toSrcPhase p := by
  have hgo : (d.armed (T.toggle p) && (d.att p == 1 || d.att p == 4)) = true := by simpa [Dev.armed, hrun] using hatt
  have hlatch : KeepsTypeC d (d.roleLatched p) [F.PRT_ATT_STAT_STATE p] := .ite (.refl d _) (.puts (.refl d _) (by simp [*]))
  have hnone {e : Dev} (h : KeepsTypeC (d.roleLatched p) e [F.PRT_ATT_STAT_STATE p]) : e.recognise p = e := by
    obtain ⟨hrd', hrp'⟩ := (hlatch.trans h).seen hp (by simp)
    exact Dev.recognise_none e (hrd'.trans hrd) (hrp'.trans hrp)
  have heq : d.toggleEnd p = if (d.roleLatched p).bit (H.toggleSrc p) then ((d.roleLatched p).toSnkPhase p).recognise p
      else ((d.roleLatched p).toSrcPhase p).recognise p := by
    rw [Dev.toSnkPhase, apply_ite (Dev.recognise · p)]
    exact if_pos hgo
  rw [heq, hnone (Dev.toSnkPhase_keeps _ hp), hnone (Dev.toSrcPhase_keeps _ hp)]

theorem Dev.toSrcPhase_shows : (d.toSrcPhase p).att p = (if d.get (H.rolePend p) = 2 then 1 else 4) ∧
    (d.toSrcPhase p).get (H.rolePend p) = d.get (H.rolePend p) ∧ (d.toSrcPhase p).get (H.toggleSrc p) = 1 ∧
    (d.toSrcPhase p).get (T.toggle p) = (d.now + d.get (H.togSrcLen p) + 1) % 2 ^ 64 := by
  have hset {f : Fld} (hf : ∀ g ∈ attSetFlds p, f.key ≠ g.key) (st : Nat) :
      ((d.set1 (H.toggleSrc p)).attSet p st).get f = (d.set1 (H.toggleSrc p)).get f := Dev.attSet_get _ st hf
  have hne : ∀ f ∈ [H.rolePend p, H.toggleSrc p, H.togSrcLen p], ∀ g ∈ attSetFlds p, f.key ≠ g.key := by
    simp [attSetFlds, fkey, hkey]
    omega
  unfold Dev.toSrcPhase
  dsimp only
  refine ⟨?_, ?_, ?_, ?_⟩
  · refine ((KeepsTypeC.put (.refl _ []) _ (by simp [*])).same (by simp [hp])).trans ((Dev.attSet_att _ hp _).trans ?_)
    split
    · rfl
    · rfl
  · rw [Dev.arm, Dev.get_put_ne _ _ (by simp only [hkey]; omega), hset (hne _ (by simp)), Dev.set1,
      Dev.get_put_ne _ _ (by simp only [hkey]; omega)]
  · rw [Dev.arm, Dev.get_put_ne _ _ (by simp only [hkey]; omega), hset (hne _ (by simp)), Dev.set1, Dev.get_put_self]
    rfl
  · rw [Dev.arm, Dev.get_put_self, Dev.attSet_now, hset (hne _ (by simp)), Dev.set1, Dev.get_put_ne _ _ (by simp only [hkey]; omega)]
    rfl

theorem Dev.toSnkPhase_shows : (d.toSnkPhase p).att p = (if d.get (H.rolePend p) = 1 then 4 else 1) ∧
    (d.toSnkPhase p).get (H.rolePend p) = d.get (H.rolePend p) ∧ (d.toSnkPhase p).get (H.toggleSrc p) = 0 ∧
    (d.mode = 3 → d.get (H.restLen p) ≠ 0 → (d.toSnkPhase p).get (T.toggle p) = 0 ∧
      (d.toSnkPhase p).get (T.rest p) = (d.now + d.get (H.restLen p) * 640000 + 1) % 2 ^ 64) ∧
    (d.mode ≠ 3 ∨ d.get (H.restLen p) = 0 → (d.toSnkPhase p).get (T.toggle p) = (d.now + d.phaseTicks p false + 1) % 2 ^ 64) := by
  unfold Dev.toSnkPhase
  dsimp only
  generalize hw : d.puts [(H.toggleSrc p, 0), (H.togglePer p, min 2 (d.get (H.togglePer p) + 1)), (T.toggle p, 0)] = e
  have hputs : e.get (H.toggleSrc p) = 0 ∧ e.get (T.toggle p) = 0 ∧ e.get (H.rolePend p) = d.get (H.rolePend p) ∧
      e.get (H.restLen p) = d.get (H.restLen p) := by
    rw [← hw]
    simp (disch := (simp only [hkey]; omega)) only [Dev.puts_cons, Dev.puts_nil, Dev.get_put_ne, Dev.get_put_self, Nat.zero_mod, and_self]
  have hkeep : KeepsTypeC d e [] := hw ▸ .puts (.refl d _) (by simp [*])
  have hatt : (e.attSet p (if d.get (H.rolePend p) = 1 then 4 else 1)).att p = if d.get (H.rolePend p) = 1 then 4 else 1 := by
    refine (Dev.attSet_att _ hp _).trans ?_
    split
    · rfl
    · rfl
  have hne : ∀ f ∈ [H.toggleSrc p, T.toggle p, H.rolePend p, H.restLen p], ∀ g ∈ attSetFlds p, f.key ≠ g.key := by
    simp [attSetFlds, fkey, hkey]
    omega
  have hset : KeepsTypeC e (e.attSet p (if d.get (H.rolePend p) = 1 then 4 else 1)) [F.PRT_ATT_STAT_STATE p] :=
    .attSet (.refl e _) hp _ (by simp)
  obtain ⟨hsrc, htog, hrole, hrest⟩ := hputs
  rw [← Dev.attSet_get e (if d.get (H.rolePend p) = 1 then 4 else 1) (hne _ (by simp))] at hsrc htog hrole hrest
  generalize e.attSet p (if d.get (H.rolePend p) = 1 then 4 else 1) = g at *
  have hmode : g.mode = d.mode := (hset.get _ (by decide) (by simp [fkey]; omega)).trans (hkeep.same (by decide))
  have hnow : g.now = d.now := hset.now.trans hkeep.now
  have hphase := (hkeep.mono (m := [F.PRT_ATT_STAT_STATE p]) (by simp)).trans hset |>.phaseTicks hp false
  rw [hmode, hrest]
  split
  · next hbank =>
    have hkeepR {f : Fld} (hf : ∀ x ∈ [T.rest p, H.ccDue p 0, H.ccDue p 1], f.key ≠ x.key) :=
      (g.restBegun_frame (d.get (H.restLen p) * 640000)).1 f hf
    have hrestB := g.restBegun_rest hp (d.get (H.restLen p) * 640000)
    rw [hnow] at hrestB
    refine ⟨(hkeepR ?_).trans hatt, (hkeepR ?_).trans hrole, (hkeepR ?_).trans hsrc, fun _ _ => ⟨(hkeepR ?_).trans htog, hrestB⟩,
      fun hno => absurd hbank (by omega)⟩
    all_goals
      simp [fkey, hkey]
      omega
  · next hno =>
    have hkeepP {f : Fld} (hf : ∀ x ∈ [H.togSrcLen p, H.restLen p, T.toggle p], f.key ≠ x.key) : (g.periodStart p).get f = g.get f :=
      g.periodStart_frame.1 f hf
    refine ⟨(hkeepP ?_).trans hatt, (hkeepP ?_).trans hrole, (hkeepP ?_).trans hsrc, fun h3 h0 => absurd ⟨h3, h0⟩ hno, fun _ => ?_⟩
    case refine_4 => rw [g.periodStart_toggle, hnow, hphase]
    all_goals simp [fkey, hkey] <;> omega

omit hp in
theorem Dev.roleLatched_get {f : Fld} (hf : f ∈ [H.toggleSrc p, H.togSrcLen p, H.restLen p]) : (d.roleLatched p).get f = d.get f := by
  refine d.roleLatched_frame.1 f ?_
  simp only [List.mem_cons, List.not_mem_nil, or_false] at hf
  rcases hf with rfl | rfl | rfl <;> simp [hkey]

section
variable (hatt : d.att p = 1 ∨ d.att p = 4) (hrun : d.get (T.toggle p) ≠ 0) (hrd : d.rdSeen p = 0) (hrp : d.rpSeen p = 0)
include hatt hrun hrd hrp

theorem Dev.toggleEnd_toSrc (hsnk : d.get (H.toggleSrc p) = 0) :
    (d.toggleEnd p).att p = (if d.toggleRole p = 2 then 1 else 4) ∧ (d.toggleEnd p).get (H.rolePend p) = d.toggleRole p ∧
      (d.toggleEnd p).get (H.toggleSrc p) = 1 ∧
      (d.toggleEnd p).get (T.toggle p) = (d.now + d.get (H.togSrcLen p) + 1) % 2 ^ 64 := by
  have hphase : (d.roleLatched p).bit (H.toggleSrc p) = false := by simp [Dev.bit, d.roleLatched_get, hsnk]
  have hshows := (d.roleLatched p).toSrcPhase_shows hp
  rw [d.roleLatched_role, d.roleLatched_frame.now, d.roleLatched_get (by simp)] at hshows
  rw [d.toggleEnd_alone hp hatt hrun hrd hrp, hphase, if_neg (by decide)]
  exact hshows

theorem Dev.toggleEnd_toSnk (hsrc : d.get (H.toggleSrc p) = 1) :
    (d.toggleEnd p).att p = (if d.toggleRole p = 1 then 4 else 1) ∧ (d.toggleEnd p).get (H.rolePend p) = d.toggleRole p ∧
      (d.toggleEnd p).get (H.toggleSrc p) = 0 ∧
      (d.mode = 3 → d.get (H.restLen p) ≠ 0 → (d.toggleEnd p).get (T.toggle p) = 0 ∧
        (d.toggleEnd p).get (T.rest p) = (d.now + d.get (H.restLen p) * 640000 + 1) % 2 ^ 64) ∧
      (d.mode ≠ 3 ∨ d.get (H.restLen p) = 0 → (d.toggleEnd p).get (T.toggle p) = (d.now + d.phaseTicks p false + 1) % 2 ^ 64) := by
  have hphase : (d.roleLatched p).bit (H.toggleSrc p) = true := by simp [Dev.bit, d.roleLatched_get, hsrc]
  have hkeep : KeepsTypeC d (d.roleLatched p) [F.PRT_ATT_STAT_STATE p] := .ite (.refl d _) (.puts (.refl d _) (by simp [*]))
  have hmode : (d.roleLatched p).mode = d.mode := hkeep.get _ (by decide) (by simp [fkey]; omega)
  have hshows := (d.roleLatched p).toSnkPhase_shows hp
  rw [d.roleLatched_role, d.roleLatched_frame.now, hmode, hkeep.phaseTicks hp, d.roleLatched_get (by simp)] at hshows
  rw [d.toggleEnd_alone hp hatt hrun hrd hrp, hphase, if_pos rfl]
  exact hshows

end

/-- The rest of Banked ends with the start of the next period (R176). -/
theorem Dev.restEnd_starts (hatt : d.att p = 1 ∨ d.att p = 4) (hrun : d.get (T.rest p) ≠ 0) :
    (d.restEnd p).get (T.rest p) = 0 ∧ (d.restEnd p).get (T.toggle p) = (d.now + d.phaseTicks p false + 1) % 2 ^ 64 ∧
      OnlyRegs d (d.restEnd p) [T.rest p, T.toggle p, H.togSrcLen p, H.restLen p, H.ccDue p 0, H.ccDue p 1] := by
  have hgo : (d.armed (T.rest p) && (d.att p == 1 || d.att p == 4)) = true := by simpa [Dev.armed, hrun] using hatt
  have heq : d.restEnd p = ((d.stop (T.rest p)).periodStart p).ccRecount p := if_pos hgo
  have hstop : KeepsTypeC d (d.stop (T.rest p)) [F.PRT_ATT_STAT_STATE p] := .put (.refl d _) 0 (by simp [*])
  have hcount {f : Fld} (hf : ∀ x ∈ [H.ccDue p 0, H.ccDue p 1], f.key ≠ x.key) :
      (((d.stop (T.rest p)).periodStart p).ccRecount p).get f = ((d.stop (T.rest p)).periodStart p).get f :=
    (Dev.ccRecount_frame _ p).1 f hf
  rw [heq]
  refine ⟨(hcount ?_).trans (((Dev.periodStart_frame _).1 _ ?_).trans (Dev.get_put_self _ _ _)),
    (hcount ?_).trans ((Dev.periodStart_toggle _).trans ?_), ?_⟩
  · simp [hkey]
    omega
  · simp [hkey]
  · simp [hkey]
    omega
  · rw [hstop.phaseTicks hp]
    rfl
  · exact (((OnlyRegs.refl d _).put _ _ (by simp)).trans ((Dev.periodStart_frame _).mono (by simp))).trans
      ((Dev.ccRecount_frame _ p).mono (by simp))

end

/-! ### Debounces and Try.SRC (R171) -/

/-- The Type-C timers stand still. -/
theorem Dev.attTimersOff_get (d : Dev) {p : Nat} : ∀ f ∈ attTimerFlds p, (d.attTimersOff p).get f = 0 := by
  simp only [attTimerFlds, List.forall_mem_cons, Dev.attTimersOff]
  simp (disch := (simp only [hkey]; omega)) only [Dev.puts_cons, Dev.puts_nil, Dev.get_put_ne, Dev.get_put_self, Nat.zero_mod, true_and]
  simp

section
variable (d : Dev) {p : Nat} (hp : p < 24)
include hp

theorem Dev.trySrc_shows : (d.trySrc p).att p = 6 ∧ (d.trySrc p).get (F.PRT_ATT_STAT_RPOWN p) = 2 ∧
    (d.trySrc p).get (T.drpTry p) = (d.now + 6400001) % 2 ^ 64 := by
  have hnow : (((d.attTimersOff p).attSet p 6).put (F.PRT_ATT_STAT_RPOWN p) 2).now = d.now := by
    rw [Dev.put_now, Dev.attSet_now, ((OnlyRegs.refl d _).attTimersOff p fun _ hf => hf).now]
  unfold Dev.trySrc
  refine ⟨?_, ?_, ?_⟩
  · exact ((KeepsTypeC.put (.put (.refl _ []) 2 (by simp [*])) _ (by simp [*])).same (by simp [hp])).trans (Dev.attSet_att _ hp 6)
  · exact (Dev.get_put_ne _ _ (by simp only [fkey, hkey]; omega)).trans (Dev.get_put_self _ _ _)
  · refine (Dev.get_put_self _ _ _).trans ?_
    rw [hnow]
    rfl

/-- The device as TryWait.SNK is entered. -/
def Dev.tryWaitEntered (d : Dev) (p : Nat) : Dev :=
  (((d.attTimersOff p).attSet p 7).put (F.PRT_ATT_STAT_RPOWN p) 0).attEvt p (F.PRT_ATT_EVT_TRYFAIL p)

theorem Dev.tryWaitEntered_shows : KeepsTypeC d (d.tryWaitEntered p) [F.PRT_ATT_STAT_STATE p, F.PRT_ATT_EVT_TRYFAIL p] ∧
    (d.tryWaitEntered p).att p = 7 ∧ (d.tryWaitEntered p).get (F.PRT_ATT_EVT_TRYFAIL p) = 1 ∧
    ∀ f ∈ attTimerFlds p, (d.tryWaitEntered p).get f = 0 := by
  have hq : ∀ p < 24, ∀ f ∈ attTimerFlds p, f.quiet = true ∧ f.key ≠ (F.PRT_ATT_EVT_TRYFAIL p).key ∧
      f.key ≠ (F.PRT_ATT_STAT_RPOWN p).key ∧ ∀ g ∈ attSetFlds p, f.key ≠ g.key := by decide
  unfold Dev.tryWaitEntered
  refine ⟨.attEvt (.put (.attSet (.attTimersOff (.refl d _)) hp 7 (by simp)) 0 (by simp [*])) hp (by simp [*]), ?_, ?_, fun f hf => ?_⟩
  · refine ((KeepsTypeC.attEvt (.put (.refl _ [F.PRT_ATT_EVT_TRYFAIL p]) 0 (by simp [*])) hp (by simp [*])).get _ (by simp [hp])
      (by simp; omega)).trans (Dev.attSet_att _ hp 7)
  · exact Dev.event_self _ _ _ (by omega) (Fld.quiet_of_typeC (by simp [hp])) rfl
  · obtain ⟨hquiet, hevt, hrp, hset⟩ := hq p hp f hf
    rw [Dev.attEvt, Dev.event_get _ _ _ (by omega) hquiet hevt, Dev.get_put_ne _ _ hrp, Dev.attSet_get _ _ hset,
      d.attTimersOff_get f hf]

omit hp in
theorem Dev.waitLevel_keeps (seen : Bool) (l : List Fld) : KeepsTypeC d (d.waitLevel p seen) l := by
  have hstop : KeepsTypeC d (d.stop (T.pdDb p)) l := .put (.refl d l) 0 (by simp [*])
  have hclear : KeepsTypeC d (d.puts [(T.ccDb p, 0), (H.ccSettle p, 0)]) l := .puts (.refl d l) (by simp [*])
  exact .ite (.ite hstop (hstop.put _ (by simp [*]))) (.ite hclear (hclear.put _ (by simp [*])))

/-- With neither debounce under way, that of what is seen starts. -/
theorem Dev.waitLevel_starts (hcc : d.get (T.ccDb p) = 0) (hset : d.get (H.ccSettle p) = 0) (hpd : d.get (T.pdDb p) = 0) :
    (d.waitLevel p false).get (T.pdDb p) = (d.now + d.tpddb p + 1) % 2 ^ 64 ∧
      (d.waitLevel p true).get (T.ccDb p) = (d.now + d.tccdb p + 1) % 2 ^ 64 := by
  have hstop : KeepsTypeC d (d.stop (T.pdDb p)) [] := .put (.refl d []) 0 (by simp [*])
  have hclear : KeepsTypeC d (d.puts [(T.ccDb p, 0), (H.ccSettle p, 0)]) [] := .puts (.refl d []) (by simp [*])
  have hidle : (d.puts [(T.ccDb p, 0), (H.ccSettle p, 0)]).armed (T.pdDb p) = false := by
    simp (disch := (simp only [hkey]; omega)) only [Dev.armed, Dev.puts_cons, Dev.puts_nil, Dev.get_put_ne, hpd, bne_self_eq_false]
  have hrest : ((d.stop (T.pdDb p)).armed (T.ccDb p) || (d.stop (T.pdDb p)).bit (H.ccSettle p)) = false := by
    simp (disch := (simp only [hkey]; omega)) only [Dev.armed, Dev.bit, Dev.stop, Dev.get_put_ne, hcc, hset, bne_self_eq_false,
      Bool.or_self]
  refine ⟨?_, ?_⟩
  · unfold Dev.waitLevel
    rw [if_neg Bool.false_ne_true]
    dsimp only
    rw [hidle, if_neg Bool.false_ne_true, Dev.arm, Dev.get_put_self, hclear.now, Dev.tpddb, hclear.same (by simp [hp])]
    rfl
  · unfold Dev.waitLevel
    rw [if_pos rfl]
    dsimp only
    rw [hrest, if_neg Bool.false_ne_true, Dev.arm, Dev.get_put_self, hstop.now, Dev.tccdb, hstop.same (by simp [hp])]
    rfl

/-- TryWait.SNK with the debounce of what is seen. -/
theorem Dev.tryWait_shows : (d.tryWait p).att p = 7 ∧ (d.tryWait p).get (F.PRT_ATT_EVT_TRYFAIL p) = 1 ∧
    (d.rpSeen p = 0 → (d.tryWait p).get (T.pdDb p) = (d.now + d.tpddb p + 1) % 2 ^ 64) ∧
    (d.rpSeen p ≠ 0 → (d.tryWait p).get (T.ccDb p) = (d.now + d.tccdb p + 1) % 2 ^ 64) := by
  obtain ⟨hkeep, hatt, hfail, hoff⟩ := d.tryWaitEntered_shows hp
  have heq : d.tryWait p = (d.tryWaitEntered p).waitLevel p (d.rpSeen p != 0) := rfl
  have hcc : (d.tryWaitEntered p).tccdb p = d.tccdb p := by
    rw [Dev.tccdb, hkeep.get _ (by simp [hp]) (by simp; omega)]
    rfl
  have hpd : (d.tryWaitEntered p).tpddb p = d.tpddb p := by
    rw [Dev.tpddb, hkeep.get _ (by simp [hp]) (by simp; omega)]
    rfl
  have hstart := (d.tryWaitEntered p).waitLevel_starts hp (hoff _ (by simp [attTimerFlds])) (hoff _ (by simp [attTimerFlds]))
    (hoff _ (by simp [attTimerFlds]))
  rw [hkeep.now, hcc, hpd] at hstart
  rw [heq]
  refine ⟨(((d.tryWaitEntered p).waitLevel_keeps _ []).same (by simp [hp])).trans hatt,
    (((d.tryWaitEntered p).waitLevel_keeps _ []).same (by simp [hp])).trans hfail,
    fun hno => ?_, fun hseen => ?_⟩
  · rw [hno]
    exact hstart.1
  · rw [bne_iff_ne.2 hseen]
    exact hstart.2

end

/-- A Type-C timer that stops changes no state. -/
theorem Dev.stop_keeps (d : Dev) {t : Fld} (ht : t.typeC = false) (l : List Fld) : KeepsTypeC d (d.stop t) l :=
  .put (.refl d l) 0 (.inr ht)

section
variable {d : Dev} {p : Nat} (hp : p < 24)
include hp

/-! The end of a debounce waits for VBS, or finds it at its level. -/

omit hp in
theorem Dev.settleSrc_waits (hhigh : d.get (F.PRT_ATT_STAT_VBS0 p) = 0) : d.settleSrc p = d.set1 (H.ccSettle p) :=
  if_neg (by simp [Dev.bit, hhigh])

omit hp in
theorem Dev.settleSrc_attaches (hlow : d.get (F.PRT_ATT_STAT_VBS0 p) = 1) : d.settleSrc p = d.attach p false :=
  if_pos (by simp [Dev.bit, hlow])

omit hp in
theorem Dev.settleSnk_attaches (hok : d.get (F.PRT_ATT_STAT_VBSOK p) = 1) : d.settleSnk p = d.attach p true :=
  if_pos (by simp [Dev.bit, hok])

/-- AttachWait.SRC whose debounce ends looks at VBS. -/
theorem Dev.ccDebounced_src (hrun : d.get (T.ccDb p) ≠ 0) (hatt : d.att p = 5) :
    d.ccDebounced p = (d.stop (T.ccDb p)).settleSrc p := by
  have hatt' : (d.stop (T.ccDb p)).att p = 5 := ((d.stop_keeps (t := T.ccDb p) (by simp) []).same (by simp [hp])).trans hatt
  unfold Dev.ccDebounced
  rw [if_pos (by simpa [Dev.armed] using hrun)]
  exact if_pos hatt'

/-- AttachWait.SNK goes on to Try.SRC where TRYSRC applies. -/
theorem Dev.ccDebounced_try (hrun : d.get (T.ccDb p) ≠ 0) (hatt : d.att p = 2) (htry : d.get (H.tryPend p) = 1)
    (hbat : d.get (H.deadBat p) = 0) : d.ccDebounced p = (d.stop (T.ccDb p)).trySrc p := by
  have hatt' : (d.stop (T.ccDb p)).att p = 2 := ((d.stop_keeps (t := T.ccDb p) (by simp) []).same (by simp [hp])).trans hatt
  have hgo : ((d.stop (T.ccDb p)).bit (H.tryPend p) &&
      !((d.stop (T.ccDb p)).bit (H.deadBat p) && (d.stop (T.ccDb p)).bit (F.PRT_ATT_STAT_VBSOK p))) = true := by
    simp (disch := (simp only [fkey, hkey]; omega)) only [Dev.bit, Dev.stop, Dev.get_put_ne, htry, hbat, bne_self_eq_false,
      Bool.false_and]
    rfl
  unfold Dev.ccDebounced
  rw [if_pos (by simpa [Dev.armed] using hrun)]
  dsimp only
  rw [if_neg (by omega), if_pos hatt', if_pos hgo]

/-- Without it, and in TryWait.SNK, it looks at VBS. -/
theorem Dev.ccDebounced_snk (hrun : d.get (T.ccDb p) ≠ 0) (hatt : d.att p = 2 ∧ d.get (H.tryPend p) = 0 ∨ d.att p = 7) :
    d.ccDebounced p = (d.stop (T.ccDb p)).settleSnk p := by
  have hkeep : (d.stop (T.ccDb p)).att p = d.att p := (d.stop_keeps (t := T.ccDb p) (by simp) []).same (by simp [hp])
  have htry : (d.stop (T.ccDb p)).bit (H.tryPend p) = d.bit (H.tryPend p) := by
    simp (disch := (simp only [hkey]; omega)) only [Dev.bit, Dev.stop, Dev.get_put_ne]
  unfold Dev.ccDebounced
  rw [if_pos (by simpa [Dev.armed] using hrun)]
  dsimp only
  rw [hkeep]
  rcases hatt with ⟨h2, h0⟩ | h7
  · rw [if_neg (by omega), if_pos h2, htry, Dev.bit, h0]
    rfl
  · rw [if_neg (by omega), if_neg (by omega), if_pos h7]

/-- What is debounced in an AttachWait or TryWait state has gone. -/
theorem Dev.pdDebounced_lost (hrun : d.get (T.pdDb p) ≠ 0) (hatt : d.att p = 2 ∨ d.att p = 5 ∨ d.att p = 7) :
    d.pdDebounced p = (d.stop (T.pdDb p)).unattached p := by
  have hkeep : (d.stop (T.pdDb p)).att p = d.att p := (d.stop_keeps (t := T.pdDb p) (by simp) []).same (by simp [hp])
  unfold Dev.pdDebounced
  rw [if_pos (by simpa [Dev.armed] using hrun)]
  exact if_pos (by rwa [hkeep])

/-- The line of a source is open for good. -/
theorem Dev.pdDebounced_open (hrun : d.get (T.pdDb p) ≠ 0) (hatt : d.att p = 8) (hsrc : d.isSrc p = true)
    (hacc : d.get (H.swAcc p) = 0) :
    d.pdDebounced p = (d.stop (T.pdDb p)).detach p := by
  have hatt' : (d.stop (T.pdDb p)).att p = d.att p := (d.stop_keeps (t := T.pdDb p) (by simp) []).same (by simp [hp])
  have hsrc' : (d.stop (T.pdDb p)).isSrc p = true := by
    rw [← hsrc]
    unfold Dev.isSrc Dev.resuming Dev.bit
    rw [hatt']
    simp (disch := (simp only [hkey]; omega)) only [Dev.stop, Dev.get_put_ne]
  have hacc' : (d.stop (T.pdDb p)).bit (H.swAcc p) = false := by
    simp (disch := (simp only [hkey]; omega)) only [Dev.bit, Dev.stop, Dev.get_put_ne, hacc, bne_self_eq_false]
  unfold Dev.pdDebounced
  rw [if_pos (by simpa [Dev.armed] using hrun)]
  dsimp only
  rw [if_neg (by omega), hatt', hatt, hsrc', hacc']
  rfl

end

/-! ### What the ends of the debounces lead to (R171) -/

section
variable (d : Dev) {p : Nat} (hp : p < 24)
include hp

/-- AttachWait.SRC waits for VBS to fall. -/
theorem Dev.ccDebounced_settles (hrun : d.get (T.ccDb p) ≠ 0) (h5 : d.att p = 5) (hhigh : d.get (F.PRT_ATT_STAT_VBS0 p) = 0) :
    (d.ccDebounced p).get (H.ccSettle p) = 1 ∧ OnlyRegs d (d.ccDebounced p) [H.ccSettle p, T.ccDb p] := by
  have hwait := Dev.settleSrc_waits (((d.stop_keeps (t := T.ccDb p) (by simp) []).same (by simp [hp])).trans hhigh)
  rw [Dev.ccDebounced_src hp hrun h5, hwait]
  exact ⟨Dev.get_put_self _ _ _, ((OnlyRegs.refl _ _).put _ _ (by simp)).put _ _ (by simp)⟩

/-- AttachWait.SRC attaches as source. -/
theorem Dev.ccDebounced_attaches (hrun : d.get (T.ccDb p) ≠ 0) (h5 : d.att p = 5) (hlow : d.get (F.PRT_ATT_STAT_VBS0 p) = 1)
    (hwin : (d.attachTimes p).length < 15) :
    (d.ccDebounced p).att p = 8 ∧ (d.ccDebounced p).get (F.PRT_ATT_EVT_ATTACH p) = 1 ∧
      (d.ccDebounced p).get (F.PRT_ATT_CNT_ATTCNT p) = (d.get (F.PRT_ATT_CNT_ATTCNT p) + 1) % 65536 := by
  have hstop := d.stop_keeps (t := T.ccDb p) (by simp) []
  have hcnt : (d.stop (T.ccDb p)).get (F.PRT_ATT_CNT_ATTCNT p) = d.get (F.PRT_ATT_CNT_ATTCNT p) := hstop.same (by simp [hp])
  rw [Dev.ccDebounced_src hp hrun h5, Dev.settleSrc_attaches ((hstop.same (by simp [hp])).trans hlow), ← hcnt]
  exact (d.stop (T.ccDb p)).attach_attaches hp false hwin

/-- Or it is Disabled for chatter. -/
theorem Dev.ccDebounced_chatters (hrun : d.get (T.ccDb p) ≠ 0) (h5 : d.att p = 5) (hlow : d.get (F.PRT_ATT_STAT_VBS0 p) = 1)
    (hwin : 15 ≤ (d.attachTimes p).length) :
    (d.ccDebounced p).att p = 0 ∧ (d.ccDebounced p).get (F.PRT_ATT_EVT_CHATTER p) = 1 ∧
      (d.ccDebounced p).getBit (F.PRT_ATT_STAT_DISWHY p) 3 = true ∧
      (d.ccDebounced p).get (T.chatter p) = (d.now + 64000001) % 2 ^ 64 := by
  have hstop := d.stop_keeps (t := T.ccDb p) (by simp) []
  have hatt : (d.stop (T.ccDb p)).att p = 5 := (hstop.same (by simp [hp])).trans h5
  rw [Dev.ccDebounced_src hp hrun h5, Dev.settleSrc_attaches ((hstop.same (by simp [hp])).trans hlow), ← hstop.now]
  exact (d.stop (T.ccDb p)).attach_chatter hp false hwin (by omega)

/-- AttachWait.SNK and TryWait.SNK attach as sink. -/
theorem Dev.ccDebounced_attachesSnk (hrun : d.get (T.ccDb p) ≠ 0) (hatt : d.att p = 2 ∧ d.get (H.tryPend p) = 0 ∨ d.att p = 7)
    (hok : d.get (F.PRT_ATT_STAT_VBSOK p) = 1) (hwin : (d.attachTimes p).length < 15) :
    (d.ccDebounced p).att p = 3 ∧ (d.ccDebounced p).get (F.PRT_ATT_EVT_ATTACH p) = 1 := by
  have hok' := Dev.settleSnk_attaches (((d.stop_keeps (t := T.ccDb p) (by simp) []).same (by simp [hp])).trans hok)
  obtain ⟨h3, hev, -⟩ := (d.stop (T.ccDb p)).attach_attaches hp true hwin
  rw [Dev.ccDebounced_snk hp hrun hatt, hok']
  exact ⟨h3, hev⟩

/-- With no end in sight the port is Unattached in the role that ROLE gives. -/
theorem Dev.pdDebounced_unattached (hrun : d.get (T.pdDb p) ≠ 0) (hatt : d.att p = 2 ∨ d.att p = 5 ∨ d.att p = 7)
    (hrd : d.rdSeen p = 0) (hrp : d.rpSeen p = 0) :
    (d.pdDebounced p).att p = (if d.get (F.PRT_CTRL_ROLE p) = 1 then 4 else 1) ∧
      (d.pdDebounced p).get (F.PRT_ATT_STAT_ORIENT p) = 0 := by
  have hstop := d.stop_keeps (t := T.pdDb p) (by simp) []
  obtain ⟨hrd', hrp'⟩ := hstop.seen hp (by simp)
  have hrole : (d.stop (T.pdDb p)).get (F.PRT_CTRL_ROLE p) = d.get (F.PRT_CTRL_ROLE p) := hstop.same (by simp [hp])
  rw [Dev.pdDebounced_lost hp hrun hatt, ← hrole]
  exact (d.stop (T.pdDb p)).unattached_alone hp (hrd'.trans hrd) (hrp'.trans hrp)

/-- A source whose line is open detaches. -/
theorem Dev.pdDebounced_detaches (hrun : d.get (T.pdDb p) ≠ 0) (h8 : d.att p = 8) (hsrc : d.isSrc p = true)
    (hacc : d.get (H.swAcc p) = 0) :
    (d.pdDebounced p).get (F.PRT_ATT_EVT_DETACH p) = 1 ∧ (d.pdDebounced p).get (F.PRT_CONTRACT_VALID p) = 0 ∧
      (d.gates p = 1 ∨ d.gates p = 2 → (d.pdDebounced p).gates p = 3 ∧ (d.pdDebounced p).get (F.GRD_STAT_STOPWHY p) = 19) := by
  have hgates : (d.stop (T.pdDb p)).gates p = d.gates p := (d.stop_keeps (t := T.pdDb p) (by simp) []).same (by simp [hp])
  obtain ⟨hleft, hdet, -⟩ := (d.stop (T.pdDb p)).detach_leaves hp
  rw [Dev.pdDebounced_open hp hrun h8 hsrc hacc, ← hgates]
  exact ⟨hdet, hleft.void, hleft.stopped⟩

/-- tDRPTry ends with no Rd in sight: TryWait.SNK. -/
theorem Dev.drpTryEnd_waits (hrun : d.get (T.drpTry p) ≠ 0) (hatt : d.att p = 6) (hrd : d.rdSeen p = 0) :
    (d.drpTryEnd p).att p = 7 ∧ (d.drpTryEnd p).get (F.PRT_ATT_EVT_TRYFAIL p) = 1 ∧
      (d.rpSeen p = 0 → (d.drpTryEnd p).get (T.pdDb p) = (d.now + d.tpddb p + 1) % 2 ^ 64) ∧
      (d.rpSeen p ≠ 0 → (d.drpTryEnd p).get (T.ccDb p) = (d.now + d.tccdb p + 1) % 2 ^ 64) := by
  have hstop := d.stop_keeps (t := T.drpTry p) (by simp) []
  obtain ⟨hrd', hrp'⟩ := hstop.seen hp (by simp)
  have heq : d.drpTryEnd p = (d.stop (T.drpTry p)).tryWait p := by
    unfold Dev.drpTryEnd
    rw [if_pos (by simpa [Dev.armed] using hrun)]
    exact if_pos ⟨(hstop.same (by simp [hp])).trans hatt, hrd'.trans hrd⟩
  have hcc : (d.stop (T.drpTry p)).tccdb p = d.tccdb p := congrArg msTicks (hstop.same (by simp [hp]))
  have hpd : (d.stop (T.drpTry p)).tpddb p = d.tpddb p := congrArg msTicks (hstop.same (by simp [hp]))
  rw [heq, ← hrp', ← hcc, ← hpd, ← hstop.now]
  exact (d.stop (T.drpTry p)).tryWait_shows hp

/-- Rd has stood for tTryCCDebounce. -/
theorem Dev.tryDebounced_attaches (hrun : d.get (T.tryDb p) ≠ 0) (hatt : d.att p = 6) (hwin : (d.attachTimes p).length < 15) :
    (d.tryDebounced p).att p = 8 ∧ (d.tryDebounced p).get (F.PRT_ATT_EVT_ATTACH p) = 1 := by
  have heq : d.tryDebounced p = (d.stop (T.tryDb p)).attach p false := by
    unfold Dev.tryDebounced
    rw [if_pos (by simpa [Dev.armed] using hrun)]
    exact if_pos (((d.stop_keeps (t := T.tryDb p) (by simp) []).same (by simp [hp])).trans hatt)
  obtain ⟨h8, hev, -⟩ := (d.stop (T.tryDb p)).attach_attaches hp false hwin
  rw [heq]
  exact ⟨h8, hev⟩

end

/-! ### ErrorRecovery and the chatter hold (R169, R171, R180) -/

section
variable (d : Dev) {p : Nat} (hp : p < 24)
include hp

/-- ErrorRecovery ends in Disabled while a cause stands, else in an Unattached state. -/
theorem Dev.errRecEnd_leaves (hrun : d.get (T.errRec p) ≠ 0) (hatt : d.att p = 9) :
    (d.get (F.PRT_ATT_STAT_DISWHY p) ≠ 0 → (d.errRecEnd p).att p = 0) ∧
      (d.get (F.PRT_ATT_STAT_DISWHY p) = 0 → d.cc1 p ≠ 6 → d.cc2 p ≠ 6 →
        (d.errRecEnd p).get (T.errRec p) = 0 ∧ (d.errRecEnd p).Unsettled p) := by
  have hstop := d.stop_keeps (t := T.errRec p) (by simp) []
  have hatt' : (d.stop (T.errRec p)).att p = 9 := (hstop.same (by simp [hp])).trans hatt
  have hwhy : (d.stop (T.errRec p)).get (F.PRT_ATT_STAT_DISWHY p) = d.get (F.PRT_ATT_STAT_DISWHY p) := hstop.same (by simp [hp])
  have h1 : (d.stop (T.errRec p)).cc1 p = d.cc1 p := hstop.same (by simp [hp])
  have h2 : (d.stop (T.errRec p)).cc2 p = d.cc2 p := hstop.same (by simp [hp])
  unfold Dev.errRecEnd
  rw [if_pos (by simpa [Dev.armed] using hrun)]
  dsimp only
  rw [Dev.bit, hwhy, h1, h2]
  generalize d.stop (T.errRec p) = e at hatt' ⊢
  refine ⟨fun hcause => ?_, fun hnone hcc1 hcc2 => ?_⟩
  · rw [if_pos ⟨hatt', bne_iff_ne.2 hcause⟩]
    exact Dev.attSet_att _ hp 0
  · rw [if_neg (by simp [hnone]), if_pos ⟨hatt', hcc1, hcc2⟩]
    exact ⟨(e.unattached_timers hp).1, e.unattached_unsettled hp⟩

/-- The chatter hold ends with its cause cleared and no cycle left in the window. -/
theorem Dev.chatterEnd_clears (hrun : d.get (T.chatter p) ≠ 0) :
    (∀ b, (d.chatterEnd p).getBit (F.PRT_ATT_STAT_DISWHY p) b = (b != 3 && d.getBit (F.PRT_ATT_STAT_DISWHY p) b)) ∧
      (d.chatterEnd p).get (T.chatter p) = 0 ∧ (d.chatterEnd p).attachTimes p = [] ∧
      (d.get (F.PRT_ATT_STAT_DISWHY p) = 8 → d.att p = 0 → d.mode ≠ 2 → (d.chatterEnd p).Unsettled p) := by
  have heq : d.chatterEnd p = ((d.stop (T.chatter p)).setAttachTimes p []).enableCause p 3 :=
    if_pos (by simpa [Dev.armed] using hrun)
  have hkeep : KeepsTypeC d ((d.stop (T.chatter p)).setAttachTimes p []) [] :=
    (d.stop_keeps (t := T.chatter p) (by simp) []).tables (g := (d.stop (T.chatter p)).setAttachTimes p []) rfl rfl
  have hwhy : ((d.stop (T.chatter p)).setAttachTimes p []).get (F.PRT_ATT_STAT_DISWHY p) = d.get (F.PRT_ATT_STAT_DISWHY p) :=
    hkeep.same (by simp [hp])
  have hatt : ((d.stop (T.chatter p)).setAttachTimes p []).att p = d.att p := hkeep.same (by simp [hp])
  have hmode : ((d.stop (T.chatter p)).setAttachTimes p []).mode = d.mode := hkeep.get _ (by decide) (by simp)
  have htimer : ((d.stop (T.chatter p)).setAttachTimes p []).get (T.chatter p) = 0 :=
    (Dev.get_put_self d (T.chatter p) 0).trans (Nat.zero_mod _)
  have hwin : ((d.stop (T.chatter p)).setAttachTimes p []).attachTimes p = [] := by
    simp [Dev.attachTimes, Dev.setAttachTimes]
  rw [heq]
  generalize (d.stop (T.chatter p)).setAttachTimes p [] = e at *
  obtain ⟨hchat, htimes⟩ := e.enableCause_chatter hp (cause := 3)
  refine ⟨fun b => ?_, hchat.trans htimer, htimes.trans hwin, fun h8 h0 hm => ?_⟩
  · have hhigh : ¬b < 4 → (d.get (F.PRT_ATT_STAT_DISWHY p)).testBit b = false := fun hb =>
      Nat.testBit_lt_two_pow ((d.get_lt (F.PRT_ATT_STAT_DISWHY p)).trans_le (Nat.pow_le_pow_right (by decide) (by omega : 4 ≤ b)))
    rw [Dev.getBit, e.enableCause_diswhy hp, Dev.putBit, Dev.get_put_self, Nat.testBit_mod_two_pow, testBit_withBit_clear, hwhy]
    by_cases hb : b < 4
    · by_cases h3 : b = 3
      · simp [h3]
      · simp [Dev.getBit, hb, h3, Ne.symm h3]
    · simp [Dev.getBit, hhigh hb]
  · refine e.enableCause_last hp (by omega) ?_ (hatt.trans h0) (by rwa [hmode])
    rw [Dev.putBit, Dev.get_put_self, hwhy, h8]
    rfl

end

end Sys2Proof.Machine

/-!
What ends or changes a port's attach from outside the debounces (R178-R190): overvoltage and overcurrent, writes of PRTnn_CTRL and
PRTnn_CCFILT, and the levels of VBS.
-/
namespace Sys2Proof.Machine

/-! ### CC overvoltage, VCONN overcurrent (R179, R180) -/

section
variable (d : Dev) {p : Nat} (hp : p < 24)
include hp

omit hp in
theorem ccLvl_left {cc : Nat} : ∀ g ∈ leftFlds p ++ stateFlds p, (ccLvl p cc).key ≠ g.key := by
  intro g hg
  refine (ccLvl_ne ?_).symm
  revert g
  simp [leftFlds, endFlds, stateFlds, fkey]
  omega

theorem ccLvl_typeC {cc : Nat} : (ccLvl p cc).typeC = true := by
  unfold ccLvl
  split <;> simp [hp]

omit hp in
theorem ccLvl_w {cc : Nat} : (ccLvl p cc).w = 3 := by
  unfold ccLvl
  split <;> rfl

/-- What CC overvoltage writes before the port leaves its state. -/
def Dev.ccOverSet (d : Dev) (p cc : Nat) : Dev :=
  (((d.put (ccLvl p cc) 6).set1 (H.ccov p)).attEvt p (F.PRT_ATT_EVT_CCOV p)).vconnOff p

theorem Dev.ccOverSet_shows (cc : Nat) : (d.ccOverSet p cc).get (ccLvl p cc) = 6 ∧ (d.ccOverSet p cc).get (F.PRT_ATT_EVT_CCOV p) = 1 ∧
    (d.ccOverSet p cc).get (F.PRT_ATT_STAT_VCONNON p) = 0 ∧ (d.ccOverSet p cc).att p = d.att p := by
  have hoff {e : Dev} : KeepsTypeC e (e.vconnOff p) [F.PRT_ATT_STAT_VCONNON p, F.PRT_ATT_EVT_CCOV p] := .vconnOff (.refl e _) hp (by simp)
  have hset : KeepsTypeC (d.put (ccLvl p cc) 6) (d.ccOverSet p cc) [F.PRT_ATT_STAT_VCONNON p, F.PRT_ATT_EVT_CCOV p] :=
    (KeepsTypeC.attEvt (.put (.refl _ _) 1 (by simp [*])) hp (by simp [*])).trans hoff
  have hne : ∀ g ∈ [F.PRT_ATT_STAT_VCONNON p, F.PRT_ATT_EVT_CCOV p], (ccLvl p cc).key ≠ g.key := by
    intro g hg
    refine (ccLvl_ne ?_).symm
    revert g
    simp [fkey]
    omega
  refine ⟨(hset.get _ (ccLvl_typeC hp) hne).trans ((Dev.get_put_self _ _ _).trans (by rw [ccLvl_w]; rfl)), ?_,
    Dev.vconnOff_open _ hp _ (by simp [vconnFlds]), (hset.get _ (by simp [hp]) (by simp; omega)).trans
      (Dev.get_put_ne _ _ (ccLvl_ne (by simp [fkey])))⟩
  refine (((KeepsTypeC.refl _ [F.PRT_ATT_STAT_VCONNON p]).vconnOff hp (by simp)).get _ (by simp [hp]) (by simp; omega)).trans ?_
  exact Dev.event_self _ _ _ (by omega) (Fld.quiet_of_typeC (by simp [hp])) rfl

/-- CC overvoltage opens VCONN and sets CCOV; a port that is not Disabled goes to ErrorRecovery. -/
theorem Dev.ccOver_recovers (cc : Nat) (hmode : d.mode ≠ 2) :
    (d.ccOver p cc).get (ccLvl p cc) = 6 ∧ (d.ccOver p cc).get (F.PRT_ATT_EVT_CCOV p) = 1 ∧
      (d.ccOver p cc).get (F.PRT_ATT_STAT_VCONNON p) = 0 ∧ (d.ccOver p cc).att p = (if d.att p = 0 then 0 else 9) := by
  have heq : d.ccOver p cc = (d.ccOverSet p cc).errRecover p 18 7 := if_neg hmode
  obtain ⟨hcode, hov, hopen, hatt⟩ := d.ccOverSet_shows hp cc
  rw [heq, ← hatt]
  generalize d.ccOverSet p cc = e at *
  by_cases h0 : e.att p = 0
  · rw [show e.errRecover p 18 7 = e from if_pos h0, if_pos h0]
    exact ⟨hcode, hov, hopen, h0⟩
  · obtain ⟨hleft, h9, -⟩ := e.errRecover_enters hp 18 7 h0
    rw [if_neg h0]
    exact ⟨(hleft.keeps.get _ (ccLvl_typeC hp) ccLvl_left).trans hcode,
      (hleft.keeps.get _ (by simp [hp]) (by simp [leftFlds, endFlds, stateFlds]; omega)).trans hov, hleft.vconn, h9⟩

/-- VCONN overcurrent opens VCONN for good, and nothing else of the attach changes. -/
theorem Dev.vconnOver_opens (hon : d.get (F.PRT_ATT_STAT_VCONNON p) = 1) :
    (d.vconnOver p).get (F.PRT_ATT_STAT_VCONNON p) = 0 ∧ (d.vconnOver p).get (H.vconnOc p) = 1 ∧
      (d.vconnOver p).get (F.PRT_ATT_EVT_VCONNOC p) = 1 ∧ (d.vconnOver p).att p = d.att p := by
  have hq : ∀ p < 24, (H.vconnOc p).quiet = true ∧ (H.vconnOc p).key ≠ (F.PRT_ATT_EVT_VCONNOC p).key := by decide
  obtain ⟨hquiet, hne⟩ := hq p hp
  have heq : d.vconnOver p = ((d.vconnOff p).set1 (H.vconnOc p)).attEvt p (F.PRT_ATT_EVT_VCONNOC p) := if_pos (by simp [Dev.bit, hon])
  have hlast {f : Fld} (hf : f.typeC = true) (hne : f.key ≠ (F.PRT_ATT_EVT_VCONNOC p).key) :
      (((d.vconnOff p).set1 (H.vconnOc p)).attEvt p (F.PRT_ATT_EVT_VCONNOC p)).get f = (d.vconnOff p).get f :=
    (KeepsTypeC.attEvt (.put (.refl _ [F.PRT_ATT_EVT_VCONNOC p]) 1 (by simp [*])) hp (by simp [*])).get f hf (by simpa using hne)
  rw [heq]
  refine ⟨(hlast (by simp [hp]) (by simp [fkey]; omega)).trans (d.vconnOff_open hp _ (by simp [vconnFlds])), ?_, ?_,
    (hlast (by simp [hp]) (by simp [fkey]; omega)).trans
      ((KeepsTypeC.vconnOff (.refl d [F.PRT_ATT_STAT_VCONNON p]) hp (by simp)).get _ (by simp [hp]) (by simp))⟩
  · exact (Dev.event_get _ _ _ (by omega) hquiet hne).trans (Dev.get_put_self _ _ _)
  · exact Dev.event_self _ _ _ (by omega) (Fld.quiet_of_typeC (by simp [hp])) rfl

end

/-! ### Writes of PRTnn_CTRL (R187-R189) and PRTnn_CCFILT (R190) -/

/-- What a write of PRTnn_CTRL stores. -/
def Dev.ctrlStored (d : Dev) (p v : Nat) : Dev :=
  d.puts [(F.PRT_CTRL_VCONNEN p, bits v 7 1), (F.PRT_CTRL_ROLE p, bits v 4 2), (F.PRT_CTRL_TRYSRC p, bits v 3 1),
    (F.PRT_CTRL_ENABLE p, bits v 0 1)]

/-- What it does to the port but for ERREC: ENABLE clears or sets its cause of Disabled, and VCONN may close. -/
def Dev.ctrlApplied (d : Dev) (p v : Nat) : Dev :=
  let d := d.ctrlStored p v
  (if v.testBit 0 then d.enableCause p 0 else d.disable p 0 17).vconnCheck p

theorem Dev.prtCtrlWrite_eq (d : Dev) (p v : Nat) : d.prtCtrlWrite p v =
    if v.testBit 2 && (d.ctrlApplied p v).get (H.emTick p) != (d.ctrlApplied p v).now + 1 then (d.ctrlApplied p v).errRecover p 18 7
    else d.ctrlApplied p v := rfl

/-- ENABLE is bit 0. -/
theorem bits_enable (v : Nat) : bits v 0 1 = (v.testBit 0).toNat := by
  rw [Nat.toNat_testBit]
  simp [bits]

/-- VCONN closes, or a command for it waits. -/
theorem Dev.vconnCheck_frame (d : Dev) (p : Nat) :
    OnlyRegs d (d.vconnCheck p) [F.PRT_ATT_STAT_VCONNON p, F.PRT_PE_STAT_VCSRC p, H.padVcon p, H.want p, T.cmdStart p] := by
  have hon : OnlyRegs d (d.vconnOn p) [F.PRT_ATT_STAT_VCONNON p, F.PRT_PE_STAT_VCSRC p, H.padVcon p, H.want p, T.cmdStart p] :=
    (OnlyRegs.refl d _).puts _ (by simp)
  unfold Dev.vconnCheck
  exact .ite (.refl d _) (.ite (.refl d _) (.ite (.ite hon ((hon.put _ _ (by simp)).put _ _ (by simp))) (.ite hon (.refl d _))))

section
variable (d : Dev) {p : Nat} (hp : p < 24) {v : Nat}
include hp

/-- The fields of PRTnn_CTRL that a write stores. -/
def ctrlFlds (p : Nat) : List Fld := [F.PRT_CTRL_VCONNEN p, F.PRT_CTRL_ROLE p, F.PRT_CTRL_TRYSRC p, F.PRT_CTRL_ENABLE p]

omit hp in
theorem Dev.ctrlStored_frame : OnlyRegs d (d.ctrlStored p v) (ctrlFlds p) := (OnlyRegs.refl d _).puts _ (by simp [ctrlFlds])

omit hp in
theorem Dev.ctrlStored_enable : (d.ctrlStored p v).get (F.PRT_CTRL_ENABLE p) = (v.testBit 0).toNat := by
  unfold Dev.ctrlStored
  simp only [Dev.puts_cons, Dev.puts_nil, Dev.get_put_self, bits_enable]
  cases v.testBit 0 <;> rfl

omit hp in
theorem Dev.ctrlStored_get {f : Fld} (hf : f ∈ [F.PRT_ATT_STAT_STATE p, F.PRT_ATT_STAT_DISWHY p, H.emTick p]) :
    (d.ctrlStored p v).get f = d.get f := by
  refine d.ctrlStored_frame.1 f ?_
  simp only [List.mem_cons, List.not_mem_nil, or_false] at hf
  rcases hf with rfl | rfl | rfl <;> simp [ctrlFlds, fkey, hkey] <;> omega

theorem Dev.ctrlStored_mode : (d.ctrlStored p v).mode = d.mode :=
  d.ctrlStored_frame.1 _ (by simp [ctrlFlds, fkey]; omega)

/-- A cause of Disabled stands, and the port is Disabled. -/
theorem Dev.disable_shows {cause why : Nat} (hc : cause < 4) : (d.disable p cause why).att p = 0 ∧
    (d.disable p cause why).getBit (F.PRT_ATT_STAT_DISWHY p) cause = true ∧
    KeepsTypeC d (d.disable p cause why) (leftFlds p ++ F.PRT_ATT_STAT_DISWHY p :: stateFlds p) := by
  have hput : KeepsTypeC d (d.putBit (F.PRT_ATT_STAT_DISWHY p) cause true) [F.PRT_ATT_STAT_DISWHY p] := .put (.refl d _) _ (by simp [*])
  have hbit : (d.putBit (F.PRT_ATT_STAT_DISWHY p) cause true).getBit (F.PRT_ATT_STAT_DISWHY p) cause = true := Dev.putBit_getBit _ _ hc
  by_cases hatt : d.att p = 0
  · have heq : d.disable p cause why = d.putBit (F.PRT_ATT_STAT_DISWHY p) cause true :=
      if_pos ((hput.get _ (by simp [hp]) (by simp)).trans hatt)
    rw [heq]
    exact ⟨(hput.get _ (by simp [hp]) (by simp)).trans hatt, hbit, hput.mono (by simp)⟩
  · obtain ⟨hleft, h0, hwhy⟩ := d.disable_enters hp cause why hatt
    rw [Dev.getBit, hwhy]
    exact ⟨h0, hbit, hleft.keeps⟩

omit hp in
/-- On a port that is Disabled ERREC does nothing. -/
theorem Dev.prtCtrlWrite_disabled (h0 : (d.ctrlApplied p v).att p = 0) : d.prtCtrlWrite p v = d.ctrlApplied p v := by
  have hrec : (d.ctrlApplied p v).errRecover p 18 7 = d.ctrlApplied p v := if_pos h0
  rw [Dev.prtCtrlWrite_eq, hrec, ite_self]

theorem Dev.vconnCheck_keeps : KeepsTypeC d (d.vconnCheck p) [F.PRT_ATT_STAT_VCONNON p] := (KeepsTypeC.refl d _).vconnCheck hp (by simp)

/-- An ENABLE written 0 disables the port, whatever ERREC is. -/
theorem Dev.prtCtrlWrite_disables (hv : v.testBit 0 = false) : (d.prtCtrlWrite p v).att p = 0 ∧
    (d.prtCtrlWrite p v).getBit (F.PRT_ATT_STAT_DISWHY p) 0 = true ∧ (d.prtCtrlWrite p v).get (F.PRT_CTRL_ENABLE p) = 0 := by
  have heq : d.ctrlApplied p v = ((d.ctrlStored p v).disable p 0 17).vconnCheck p := by
    rw [Dev.ctrlApplied, hv, if_neg Bool.false_ne_true]
  have hen : (d.ctrlStored p v).get (F.PRT_CTRL_ENABLE p) = 0 := by rw [Dev.ctrlStored_enable, hv, Bool.toNat_false]
  obtain ⟨h0, hbit, hkeep⟩ := (d.ctrlStored p v).disable_shows hp (cause := 0) (why := 17) (by omega)
  have hcheck := ((d.ctrlStored p v).disable p 0 17).vconnCheck_keeps hp
  have h0' : (d.ctrlApplied p v).att p = 0 := heq ▸ (hcheck.get _ (by simp [hp]) (by simp)).trans h0
  rw [d.prtCtrlWrite_disabled h0', heq, Dev.getBit, hcheck.get _ (by simp [hp]) (by simp)]
  refine ⟨(hcheck.get _ (by simp [hp]) (by simp)).trans h0, hbit,
    (hcheck.get _ (by simp [hp]) (by simp; omega)).trans ((hkeep.get _ (by simp [hp]) ?_).trans hen)⟩
  simp [leftFlds, endFlds, stateFlds]
  omega

/-- An ENABLE written 1 that clears the only cause of Disabled makes the port Unattached. -/
theorem Dev.prtCtrlWrite_enables (hv : v.testBit 0 = true) (h2 : v.testBit 2 = false) (hwhy : d.get (F.PRT_ATT_STAT_DISWHY p) = 1)
    (hatt : d.att p = 0) (hmode : d.mode ≠ 2) : (d.prtCtrlWrite p v).get (F.PRT_ATT_STAT_DISWHY p) = 0 ∧
    (d.prtCtrlWrite p v).get (F.PRT_CTRL_ENABLE p) = 1 ∧ (d.prtCtrlWrite p v).Unsettled p := by
  have heq : d.prtCtrlWrite p v = ((d.ctrlStored p v).enableCause p 0).vconnCheck p := by
    rw [Dev.prtCtrlWrite_eq, h2, Bool.false_and, if_neg Bool.false_ne_true, Dev.ctrlApplied, hv, if_pos rfl]
  have hen : (d.ctrlStored p v).get (F.PRT_CTRL_ENABLE p) = 1 := by rw [Dev.ctrlStored_enable, hv, Bool.toNat_true]
  have hwhy' : (d.ctrlStored p v).get (F.PRT_ATT_STAT_DISWHY p) = 1 := (d.ctrlStored_get (by simp)).trans hwhy
  have hatt' : (d.ctrlStored p v).att p = 0 := (d.ctrlStored_get (by simp)).trans hatt
  have hmode' : (d.ctrlStored p v).mode ≠ 2 := by rwa [d.ctrlStored_mode hp]
  rw [heq]
  generalize d.ctrlStored p v = e at *
  have hnone : (e.putBit (F.PRT_ATT_STAT_DISWHY p) 0 false).get (F.PRT_ATT_STAT_DISWHY p) = 0 := by
    rw [Dev.putBit, Dev.get_put_self, hwhy']
    rfl
  have hlast := e.enableCause_last hp (by omega) hnone hatt' hmode'
  have hcheck := (e.enableCause p 0).vconnCheck_keeps hp
  have hst : ((e.enableCause p 0).vconnCheck p).att p = (e.enableCause p 0).att p := hcheck.get _ (by simp [hp]) (by simp)
  refine ⟨(hcheck.get _ (by simp [hp]) (by simp)).trans ((e.enableCause_diswhy hp).trans hnone),
    (hcheck.get _ (by simp [hp]) (by simp; omega)).trans (((e.enableCause_keeps hp).get _ (by simp [hp]) ?_).trans hen), ?_⟩
  · simp [unsettledFlds]
    omega
  · rwa [Dev.Unsettled, hst]

omit hp in
theorem Dev.enableCause_of_att (cause : Nat) (hatt : d.att p ≠ 0) :
    d.enableCause p cause = d.putBit (F.PRT_ATT_STAT_DISWHY p) cause false := by
  have hst : (d.putBit (F.PRT_ATT_STAT_DISWHY p) cause false).att p = d.att p := Dev.get_put_ne _ _ (by simp only [fkey]; omega)
  rw [Dev.enableCause_eq, hst, if_neg fun h => hatt h.2.2.1]

/-- To a port that is not Disabled a write with ENABLE stores its fields, and VCONN may close. -/
theorem Dev.ctrlApplied_attached (hv : v.testBit 0 = true) (hatt : d.att p ≠ 0) : (d.ctrlApplied p v).att p = d.att p ∧
    (d.ctrlApplied p v).now = d.now ∧ (d.ctrlApplied p v).get (H.emTick p) = d.get (H.emTick p) ∧
    (d.ctrlApplied p v).get (F.PRT_CTRL_ENABLE p) = 1 := by
  have hst : (d.ctrlStored p v).att p = d.att p := d.ctrlStored_get (by simp)
  have hem : (d.ctrlStored p v).get (H.emTick p) = d.get (H.emTick p) := d.ctrlStored_get (by simp)
  have hen : (d.ctrlStored p v).get (F.PRT_CTRL_ENABLE p) = 1 := by rw [Dev.ctrlStored_enable, hv, Bool.toNat_true]
  have hnow : (d.ctrlStored p v).now = d.now := d.ctrlStored_frame.now
  unfold Dev.ctrlApplied
  dsimp only
  rw [if_pos hv, Dev.enableCause_of_att _ 0 (by rwa [hst])]
  generalize d.ctrlStored p v = e at *
  have hlast : OnlyRegs e ((e.putBit (F.PRT_ATT_STAT_DISWHY p) 0 false).vconnCheck p)
      (F.PRT_ATT_STAT_DISWHY p :: [F.PRT_ATT_STAT_VCONNON p, F.PRT_PE_STAT_VCSRC p, H.padVcon p, H.want p, T.cmdStart p]) :=
    (Dev.vconnCheck_frame _ p).put_first
  refine ⟨(hlast.1 _ ?_).trans hst, hlast.now.trans hnow, (hlast.1 _ ?_).trans hem, (hlast.1 _ ?_).trans hen⟩ <;>
    simp [fkey, hkey] <;> omega

/-- ERREC puts a port that is not Disabled into ErrorRecovery. -/
theorem Dev.prtCtrlWrite_recovers (hv : v.testBit 0 = true) (h2 : v.testBit 2 = true) (hatt : d.att p ≠ 0)
    (hem : d.get (H.emTick p) ≠ d.now + 1) : (d.prtCtrlWrite p v).att p = 9 ∧
    (d.prtCtrlWrite p v).get (T.errRec p) = (d.now + 1920001) % 2 ^ 64 ∧ (d.prtCtrlWrite p v).get (F.PRT_CTRL_ENABLE p) = 1 ∧
    (d.prtCtrlWrite p v).get (F.PRT_CONTRACT_VALID p) = 0 := by
  obtain ⟨hst, hnow, htick, hen⟩ := d.ctrlApplied_attached hp hv hatt
  rw [Dev.prtCtrlWrite_eq, h2, htick, hnow, if_pos (by simpa using hem), ← hnow]
  generalize d.ctrlApplied p v = e at *
  obtain ⟨hleft, h9, htimer⟩ := e.errRecover_enters hp 18 7 (by rwa [hst])
  refine ⟨h9, htimer, (hleft.keeps.get _ (by simp [hp]) ?_).trans hen, hleft.void⟩
  simp [leftFlds, endFlds, stateFlds]
  omega

end

/-- What a write of PRTnn_CCFILT stores: its fields, and the start of both counts. -/
def Dev.ccfiltStored (d : Dev) (p v : Nat) : Dev :=
  (d.puts [(F.PRT_CCFILT_FILTN p, bits v 8 8), (F.PRT_CCFILT_SI p, bits v 5 3)]).puts
    [(H.ccSince p 0, d.now + 1), (H.ccSince p 1, d.now + 1)]

theorem Dev.ccfiltStored_shows (d : Dev) {p : Nat} (v : Nat) (hp : p < 24) :
    (d.ccfiltStored p v).get (F.PRT_CCFILT_FILTN p) = bits v 8 8 ∧ (d.ccfiltStored p v).get (F.PRT_CCFILT_SI p) = bits v 5 3 ∧
      (d.ccfiltStored p v).get (H.ccSince p 0) = (d.now + 1) % 2 ^ 64 ∧
      (d.ccfiltStored p v).get (H.ccSince p 1) = (d.now + 1) % 2 ^ 64 := by
  unfold Dev.ccfiltStored
  simp (disch := (simp only [fkey, hkey]; omega)) only [Dev.puts_cons, Dev.puts_nil, Dev.get_put_ne, Dev.get_put_self, bits_mod, and_self]

/-- A write of PRTnn_CCFILT within its limits stores its fields, and both counts start again. -/
theorem Dev.ccfiltWrite_stores (d : Dev) {p v : Nat} (hp : p < 24) (hn : 1 ≤ bits v 8 8)
    (hlim : bits v 8 8 * 4 ^ bits v 5 3 ≤ 64000) :
    (d.ccfiltWrite p v).get (F.PRT_CCFILT_FILTN p) = bits v 8 8 ∧ (d.ccfiltWrite p v).get (F.PRT_CCFILT_SI p) = bits v 5 3 ∧
      (d.ccfiltWrite p v).get (H.ccSince p 0) = (d.now + 1) % 2 ^ 64 ∧
      (d.ccfiltWrite p v).get (H.ccSince p 1) = (d.now + 1) % 2 ^ 64 ∧
      OnlyRegs d (d.ccfiltWrite p v)
        [F.PRT_CCFILT_FILTN p, F.PRT_CCFILT_SI p, H.ccSince p 0, H.ccSince p 1, H.ccDue p 0, H.ccDue p 1] := by
  have heq : d.ccfiltWrite p v = (d.ccfiltStored p v).ccRecount p := if_neg (by rw [siTicks]; omega)
  have hcount {f : Fld} (hf : ∀ x ∈ [H.ccDue p 0, H.ccDue p 1], f.key ≠ x.key) :
      ((d.ccfiltStored p v).ccRecount p).get f = (d.ccfiltStored p v).get f := (Dev.ccRecount_frame _ p).1 f hf
  obtain ⟨hfiltn, hsi, h0, h1⟩ := d.ccfiltStored_shows v hp
  have hstored : OnlyRegs d (d.ccfiltStored p v) [F.PRT_CCFILT_FILTN p, F.PRT_CCFILT_SI p, H.ccSince p 0, H.ccSince p 1] :=
    ((OnlyRegs.refl d _).puts _ (by simp)).puts _ (by simp)
  rw [heq]
  refine ⟨(hcount ?_).trans hfiltn, (hcount ?_).trans hsi, (hcount ?_).trans h0, (hcount ?_).trans h1,
    hstored.append (Dev.ccRecount_frame _ p)⟩ <;>
    simp [fkey, hkey] <;> omega

/-! ### Levels of VBS (R171, R184) -/

/-- What VBS below 0.8 V writes. -/
def Dev.vbsLowSet (d : Dev) (p : Nat) : Dev :=
  let d := d.puts [(F.PRT_ATT_STAT_VBS0 p, 1), (F.PRT_ATT_STAT_VBSOK p, 0)]
  if d.bit (F.GRD_STAT_DISON p) && !d.armed (T.disLow p) && d.mode != 2 then d.arm (T.disLow p) 64000 else d

/-- What VBS at 4.0 V writes. -/
def Dev.vbsHighSet (d : Dev) (p : Nat) : Dev :=
  d.puts [(F.PRT_ATT_STAT_VBS0 p, 0), (F.PRT_ATT_STAT_VBSOK p, 1), (T.disLow p, 0)]

/-- Those fields. -/
def vbsFlds (p : Nat) : List Fld := [F.PRT_ATT_STAT_VBS0 p, F.PRT_ATT_STAT_VBSOK p, T.disLow p]

theorem Dev.vbsLow_eq (d : Dev) (p : Nat) : d.vbsLow p =
    if ((d.vbsLowSet p).bit (H.detaching p) || (d.vbsLowSet p).att p == 11) && (d.vbsLowSet p).gates p == 0 then
      (d.vbsLowSet p).unattached p
    else if (d.vbsLowSet p).att p = 5 ∧ (d.vbsLowSet p).bit (H.ccSettle p) then (d.vbsLowSet p).attach p false
    else ((d.vbsLowSet p).hardLow p).swapLow p := rfl

theorem Dev.vbsHigh_eq (d : Dev) (p : Nat) : d.vbsHigh p =
    if ((d.vbsHighSet p).att p = 2 ∨ (d.vbsHighSet p).att p = 7) ∧ (d.vbsHighSet p).bit (H.ccSettle p) then
      (d.vbsHighSet p).attach p true
    else ((d.vbsHighSet p).hardBack p).vbsReview p := rfl

theorem Dev.vbsLowSet_frame (d : Dev) (p : Nat) : OnlyRegs d (d.vbsLowSet p) (vbsFlds p) := by
  have hput : OnlyRegs d (d.puts [(F.PRT_ATT_STAT_VBS0 p, 1), (F.PRT_ATT_STAT_VBSOK p, 0)]) (vbsFlds p) :=
    (OnlyRegs.refl d _).puts _ (by simp [vbsFlds])
  exact .ite (hput.put _ _ (by simp [vbsFlds])) hput

theorem Dev.vbsHighSet_frame (d : Dev) (p : Nat) : OnlyRegs d (d.vbsHighSet p) (vbsFlds p) :=
  (OnlyRegs.refl d _).puts _ (by simp [vbsFlds])

/-- The fields by which the steps of a level of VBS go. -/
def vbsCaseFlds (p : Nat) : List Fld :=
  [F.PRT_ATT_STAT_STATE p, H.detaching p, H.ccSettle p, H.hrPhase p, H.swAcc p, F.GRD_STAT_GATES p]

section
variable (d : Dev) {p : Nat} (hp : p < 24)
include hp

theorem vbsCaseFlds_apart : ∀ f ∈ vbsCaseFlds p, ∀ g ∈ vbsFlds p, f.key ≠ g.key := by
  simp [vbsCaseFlds, vbsFlds, fkey, hkey]
  omega

theorem Dev.vbsLowSet_get {f : Fld} (hf : f ∈ vbsCaseFlds p) : (d.vbsLowSet p).get f = d.get f :=
  (d.vbsLowSet_frame p).1 f (vbsCaseFlds_apart hp f hf)

theorem Dev.vbsHighSet_get {f : Fld} (hf : f ∈ vbsCaseFlds p) : (d.vbsHighSet p).get f = d.get f :=
  (d.vbsHighSet_frame p).1 f (vbsCaseFlds_apart hp f hf)

theorem Dev.vbsLowSet_levels : (d.vbsLowSet p).get (F.PRT_ATT_STAT_VBS0 p) = 1 ∧ (d.vbsLowSet p).get (F.PRT_ATT_STAT_VBSOK p) = 0 := by
  have harm {e : Dev} (n : Nat) {f : Fld} (hf : f.typeC = true) : (e.arm (T.disLow p) n).get f = e.get f :=
    (KeepsTypeC.put (.refl e []) _ (by simp [*])).same hf
  have hput : (d.puts [(F.PRT_ATT_STAT_VBS0 p, 1), (F.PRT_ATT_STAT_VBSOK p, 0)]).get (F.PRT_ATT_STAT_VBS0 p) = 1 ∧
      (d.puts [(F.PRT_ATT_STAT_VBS0 p, 1), (F.PRT_ATT_STAT_VBSOK p, 0)]).get (F.PRT_ATT_STAT_VBSOK p) = 0 := by
    simp (disch := (simp only [fkey]; omega)) only [Dev.puts_cons, Dev.puts_nil, Dev.get_put_ne, Dev.get_put_self]
    decide
  unfold Dev.vbsLowSet
  dsimp only
  split
  · exact ⟨(harm _ (by simp [hp])).trans hput.1, (harm _ (by simp [hp])).trans hput.2⟩
  · exact hput

theorem Dev.vbsHighSet_levels :
    (d.vbsHighSet p).get (F.PRT_ATT_STAT_VBS0 p) = 0 ∧ (d.vbsHighSet p).get (F.PRT_ATT_STAT_VBSOK p) = 1 := by
  unfold Dev.vbsHighSet
  simp (disch := (simp only [fkey, hkey]; omega)) only [Dev.puts_cons, Dev.puts_nil, Dev.get_put_ne, Dev.get_put_self]
  decide

theorem Dev.vbsLowSet_att : (d.vbsLowSet p).att p = d.att p := d.vbsLowSet_get hp (by simp [vbsCaseFlds])

theorem Dev.vbsHighSet_att : (d.vbsHighSet p).att p = d.att p := d.vbsHighSet_get hp (by simp [vbsCaseFlds])

omit hp in
/-- Neither a Hard_Reset nor a swap waits for VBS. -/
theorem Dev.vbsWaits_none (hacc : d.get (H.swAcc p) = 0) (hph : d.get (H.hrPhase p) = 0) :
    (d.hardLow p).swapLow p = d ∧ d.hardBack p = d ∧ d.swapLow p = d := by
  have hlow : d.hardLow p = d := by rw [Dev.hardLow, hph, if_neg (by decide), if_neg (by decide)]
  have hback : d.hardBack p = d := by rw [Dev.hardBack, hph, if_neg (by decide)]
  have hswap : d.swapLow p = d := if_pos (by simp [Dev.bit, hacc])
  exact ⟨by rw [hlow, hswap], hback, hswap⟩

/-- A port that waits for nothing reports that VBS is below 0.8 V. -/
theorem Dev.vbsLow_reports (hacc : d.get (H.swAcc p) = 0) (hph : d.get (H.hrPhase p) = 0) (hdet : d.get (H.detaching p) = 0)
    (h5 : d.att p ≠ 5) (h11 : d.att p ≠ 11) : d.vbsLow p = d.vbsLowSet p := by
  have hdet' : (d.vbsLowSet p).bit (H.detaching p) = false := by
    rw [Dev.bit, d.vbsLowSet_get hp (by simp [vbsCaseFlds]), hdet]
    rfl
  obtain ⟨hnone, -, -⟩ := (d.vbsLowSet p).vbsWaits_none ((d.vbsLowSet_get hp (by simp [vbsCaseFlds])).trans hacc)
    ((d.vbsLowSet_get hp (by simp [vbsCaseFlds])).trans hph)
  rw [Dev.vbsLow_eq, hdet', d.vbsLowSet_att hp, if_neg (by simp [h11]), if_neg (by simp [h5]), hnone]

/-- So does one that waits for no higher level of 4.0 V. -/
theorem Dev.vbsHigh_reports (hacc : d.get (H.swAcc p) = 0) (hph : d.get (H.hrPhase p) = 0) (h2 : d.att p ≠ 2) (h7 : d.att p ≠ 7) :
    d.vbsHigh p = d.vbsHighSet p := by
  have hacc' : (d.vbsHighSet p).get (H.swAcc p) = 0 := (d.vbsHighSet_get hp (by simp [vbsCaseFlds])).trans hacc
  obtain ⟨-, hback, -⟩ := (d.vbsHighSet p).vbsWaits_none hacc' ((d.vbsHighSet_get hp (by simp [vbsCaseFlds])).trans hph)
  have hreview : (d.vbsHighSet p).vbsReview p = d.vbsHighSet p := by
    simp [Dev.vbsReview, Dev.bit, (d.vbsHighSet_levels hp).1, hacc']
  rw [Dev.vbsHigh_eq, d.vbsHighSet_att hp, if_neg (by simp [h2, h7]), hback, hreview]

/-- An AttachWait.SRC that has settled attaches. -/
theorem Dev.vbsLow_attaches (h5 : d.att p = 5) (hset : d.get (H.ccSettle p) = 1) (hdet : d.get (H.detaching p) = 0) :
    d.vbsLow p = (d.vbsLowSet p).attach p false := by
  have hdet' : (d.vbsLowSet p).bit (H.detaching p) = false := by
    rw [Dev.bit, d.vbsLowSet_get hp (by simp [vbsCaseFlds]), hdet]
    rfl
  have hset' : (d.vbsLowSet p).bit (H.ccSettle p) = true := by
    rw [Dev.bit, d.vbsLowSet_get hp (by simp [vbsCaseFlds]), hset]
    rfl
  rw [Dev.vbsLow_eq, hdet', d.vbsLowSet_att hp, h5, hset', if_neg (by simp), if_pos ⟨rfl, rfl⟩]

/-- An AttachWait.SNK that has settled attaches. -/
theorem Dev.vbsHigh_attaches (h2 : d.att p = 2) (hset : d.get (H.ccSettle p) = 1) : d.vbsHigh p = (d.vbsHighSet p).attach p true := by
  have hset' : (d.vbsHighSet p).bit (H.ccSettle p) = true := by
    rw [Dev.bit, d.vbsHighSet_get hp (by simp [vbsCaseFlds]), hset]
    rfl
  rw [Dev.vbsHigh_eq, d.vbsHighSet_att hp, h2, hset', if_pos ⟨.inl rfl, rfl⟩]

/-- EmergencyStop ends once the gates are off. -/
theorem Dev.vbsLow_leaves (h11 : d.att p = 11) (hgates : d.gates p = 0) : d.vbsLow p = (d.vbsLowSet p).unattached p := by
  have hgates' : (d.vbsLowSet p).gates p = 0 := (d.vbsLowSet_get hp (by simp [vbsCaseFlds])).trans hgates
  rw [Dev.vbsLow_eq, d.vbsLowSet_att hp, h11, hgates', if_pos (by simp)]

end

/-! ### Commands of a port and an emergency detach of their tick (R187) -/

/-- A sink whose VBS stays below its level detaches. -/
theorem Dev.sinkDisconnect_detaches {d : Dev} {p vbs : Nat} (h3 : d.att p = 3) (hmask : d.masked p = false)
    (hlow : vbs < if d.heldExplicit p = true ∧ d.heldV p ≠ 500 then d.heldV p * 8 else 3670) :
    d.sinkDisconnect p vbs = d.detach p := by
  refine if_pos ?_
  simp [Dev.sinkGone, h3, hmask, hlow]

/-- A port that is no sink does not. -/
theorem Dev.sinkDisconnect_ignored {d : Dev} {p : Nat} (vbs : Nat) (h3 : d.att p ≠ 3) : d.sinkDisconnect p vbs = d :=
  if_neg (by simp [Dev.sinkGone, h3])

/-- An emergency detach at the head of the commands of this tick comes first. -/
theorem State.emFirst_head {s : State} {p : Fin 24} {i vbs : Nat} (hhead : s.pending.head? = some (.emergencyDetach p i vbs))
    (hem : s.dev.emergencyCond p.val i vbs = true) : s.emFirst p.val = s.onDev (·.emergency p.val i vbs) := by
  have hfind : s.pending.find? (s.dev.emergencyOf p.val) = some (.emergencyDetach p i vbs) := by
    obtain ⟨l, hl⟩ := List.head?_eq_some_iff.1 hhead
    rw [hl]
    exact List.find?_cons_of_pos (by simp [Dev.emergencyOf, hem])
  rw [State.emFirst, hfind]

end Sys2Proof.Machine

/-!
Settles O55, the Type-C rules of attach, clause by clause.
-/
namespace Sys2Proof.Machine

section
variable {c : Instr} {s : State} {f : Dev → Dev}

/-- A command whose change of the device part is none ends in the state itself. -/
theorem exec_unchanged (h : exec c s = s.ok f) (hf : f s.dev = s.dev) : exec c s = .next s := by
  rw [h, State.ok, hf]

theorem EndsDev.of_ok_eq {P : Dev → Prop} {e : Dev} (h : exec c s = s.ok f) (he : f s.dev = e) (hp : P e) : EndsDev c s P :=
  .of_ok h (he ▸ hp)

/-- A command of a port with no emergency detach waiting. -/
theorem EndsDev.of_okAt {p : Nat} {P : Dev → Prop} {e : Dev} (h : exec c s = s.okAt p f) (hcalm : s.calm p = true) (he : f s.dev = e)
    (hp : P e) : EndsDev c s P :=
  .of_ok_eq (h.trans (State.okAt_calm f hcalm)) he hp

/-- The same, after the emergency detach that comes first. -/
theorem EndsDev.of_okAt_first {p : Nat} {P : Dev → Prop} {g : Dev → Dev} {e : Dev} (h : exec c s = s.okAt p f)
    (hfirst : s.emFirst p = s.onDev g) (he : f (g s.dev) = e) (hp : P e) : EndsDev c s P := by
  have hend : exec c s = .next { s with dev := e } := by
    rw [h, State.okAt, hfirst, ← he]
    rfl
  exact .of_next hend hp

end

/-- A sink is no source. -/
theorem Dev.isSrc_of_att_three {d : Dev} {p : Nat} (h : d.att p = 3) : d.isSrc p = false := by
  simp [Dev.isSrc, Dev.resuming, h]

/-- Settles O55: every clause follows from what the one function of the attach rules that the command runs writes. -/
theorem typeCCommandsComplete : Obligations.TypeCCommandsComplete := by
  unfold Obligations.TypeCCommandsComplete
  refine ⟨fun s p cc code => ⟨?blaze, ?unfit, ?same, ?candidate, ?accepted⟩, fun s p i hi hblank hmode => ?rejected,
    fun s p hatt => ⟨?toggle, ?rest⟩, fun s p hrun => ⟨?settles, ?attaches, ?chatters, ?trySrc, ?attachesSnk⟩,
    fun s p hcalm hrun => ⟨?lost, ?opened⟩, fun s p hatt => ⟨?drpTry, ?tryCc⟩, fun s p hrun hatt => ?errRec,
    fun s p hrun => ?chatter,
    fun s p i vbs => ⟨?sinkGone, ?emergency, ?noEmergency, ?emergencyFirst⟩, fun s p cc hmode => ?ccOver, fun s p hon => ?vconnOver,
    fun s p code hsees hline hdue hpast => ?rpLevel, fun s p v hcalm => ⟨?errec, ?disable, ?enable, ?ccfilt, ?ccfiltBad⟩,
    fun s p hcalm => ⟨?vbsLow, ?vbsHigh, ?lowAttaches, ?highAttaches, ?lowLeaves⟩⟩
  case blaze => exact fun h2 => exec_unchanged (f := (·.ccLevel p.val cc.val code.val)) rfl (if_pos h2)
  case unfit =>
    exact fun hmode hfit => .of_ok_eq (f := (·.ccLevel p.val cc.val code.val)) rfl (Dev.ccLevel_unfit hmode hfit)
      ⟨(Dev.get_put_self _ _ _).trans (Nat.zero_mod _), (OnlyRegs.refl _ _).put _ _ (by simp)⟩
  case same =>
    intro hmode hfit hcode
    have heq := Dev.ccLevel_same hmode hfit hcode
    refine ⟨fun h0 => ?_, fun h1 => ?_⟩
    · exact exec_unchanged (f := (·.ccLevel p.val cc.val code.val)) rfl (heq.trans (if_neg (by simp [Dev.bit, h0])))
    · exact .of_ok_eq (f := (·.ccLevel p.val cc.val code.val)) rfl (heq.trans (if_pos (by simp [Dev.bit, h1])))
        (s.dev.candidate_rejected p.isLt cc.isLt)
  case candidate =>
    intro hmode hfit hcode hlater
    refine .of_ok_eq (f := (·.ccLevel p.val cc.val code.val)) rfl ((Dev.ccLevel_other hmode hfit hcode).trans (if_neg hlater))
      ⟨?_, Dev.get_put_self _ _ _, (OnlyRegs.refl _ _).puts _ (by simp)⟩
    have hcand : code.val % 2 ^ 3 = code.val := Nat.mod_eq_of_lt (by omega)
    simp (disch := (simp only [hkey]; omega)) only [Dev.puts_cons, Dev.puts_nil, Dev.get_put_ne, Dev.get_put_self, hcand]
  case accepted =>
    intro hmode hfit hcode hnow
    have heq := (Dev.ccLevel_other hmode hfit hcode).trans (if_pos hnow)
    refine ⟨fun h0 => ?_, fun h1 hcc h3 hra => ?_, fun h4 hcc hrd hra => ?_, fun hsees horient h3 hnew => ?_⟩
    · obtain ⟨hlvl, honly⟩ := s.dev.ccAccept_disabled p.isLt (cc := cc.val) code.val h0 (by omega)
      exact .of_ok_eq (f := (·.ccLevel p.val cc.val code.val)) rfl heq ⟨hlvl, honly.mono (acceptedFlds_mem cc.isLt)⟩
    · obtain rfl : cc = 0 := Fin.ext hcc
      obtain ⟨hst, horient, hrecog, hdb, htoggle⟩ := s.dev.ccAccept_seen p.isLt code.val (.inl h1)
        (s.dev.seenEnd_of_rp p.isLt code.val h1 h3 code.isLt hra) (by decide)
      exact .of_ok_eq (f := (·.ccLevel p.val 0 code.val)) rfl heq ⟨hst.trans (if_pos h1), horient, hrecog, hdb, htoggle⟩
    · obtain rfl : cc = 1 := Fin.ext hcc
      obtain rfl : code = 2 := Fin.ext hrd
      obtain ⟨hst, horient, hrecog, hdb, -⟩ := s.dev.ccAccept_seen p.isLt 2 (.inr h4) (s.dev.seenEnd_of_rd p.isLt h4 hra) (by decide)
      exact .of_ok_eq (f := (·.ccLevel p.val 1 2)) rfl heq ⟨hst.trans (if_neg (by omega)), horient, hrecog, hdb⟩
    · exact .of_ok_eq (f := (·.ccLevel p.val cc.val code.val)) rfl heq
        (s.dev.ccAccept_rp p.isLt code.val hsees horient h3 code.isLt hnew)
  case rejected =>
    have heq : (if i.val < 12 then s.dev.capReject i.val else s.dev.ccRejected (i.val - 12)) = s.dev.ccRejected p.val := by
      rw [if_neg (by omega), hi, Nat.add_sub_cancel]
    have hline : (if s.dev.get (H.ccDue p.val 0) = 0 then 1 else 0) < 2 := by split <;> decide
    obtain ⟨hdue, -, hrej, hact⟩ := s.dev.candidate_rejected p.isLt hline
    exact .of_ok_eq (f := fun d => if i.val < 12 then d.capReject i.val else d.ccRejected (i.val - 12)) rfl
      (heq.trans (Dev.ccRejected_eq hblank hmode)) ⟨hdue, hrej, hact⟩
  case toggle =>
    rintro hrun hrd hrp role rfl
    exact ⟨fun hsnk => .of_ok_eq (f := (·.toggleEnd p.val)) rfl rfl (s.dev.toggleEnd_toSrc p.isLt hatt hrun hrd hrp hsnk),
      fun hsrc => .of_ok_eq (f := (·.toggleEnd p.val)) rfl rfl (s.dev.toggleEnd_toSnk p.isLt hatt hrun hrd hrp hsrc)⟩
  case rest => exact fun hrun => .of_ok_eq (f := (·.restEnd p.val)) rfl rfl (s.dev.restEnd_starts p.isLt hatt hrun)
  case settles => exact fun h5 hhigh => .of_ok_eq (f := (·.ccDebounced p.val)) rfl rfl (s.dev.ccDebounced_settles p.isLt hrun h5 hhigh)
  case attaches =>
    exact fun h5 hlow hwin => .of_ok_eq (f := (·.ccDebounced p.val)) rfl rfl (s.dev.ccDebounced_attaches p.isLt hrun h5 hlow hwin)
  case chatters =>
    exact fun h5 hlow hwin => .of_ok_eq (f := (·.ccDebounced p.val)) rfl rfl (s.dev.ccDebounced_chatters p.isLt hrun h5 hlow hwin)
  case trySrc =>
    intro h2 htry hbat
    exact .of_ok_eq (f := (·.ccDebounced p.val)) rfl (Dev.ccDebounced_try p.isLt hrun h2 htry hbat)
      ((s.dev.stop (T.ccDb p.val)).trySrc_shows p.isLt)
  case attachesSnk =>
    exact fun hatt hok hwin => .of_ok_eq (f := (·.ccDebounced p.val)) rfl rfl (s.dev.ccDebounced_attachesSnk p.isLt hrun hatt hok hwin)
  case lost =>
    exact fun hatt hrd hrp => .of_okAt (f := (·.pdDebounced p.val)) rfl hcalm rfl (s.dev.pdDebounced_unattached p.isLt hrun hatt hrd hrp)
  case opened =>
    exact fun h8 hsrc hacc => .of_okAt (f := (·.pdDebounced p.val)) rfl hcalm rfl (s.dev.pdDebounced_detaches p.isLt hrun h8 hsrc hacc)
  case drpTry => exact fun hrun hrd => .of_ok_eq (f := (·.drpTryEnd p.val)) rfl rfl (s.dev.drpTryEnd_waits p.isLt hrun hatt hrd)
  case tryCc =>
    exact fun hrun hwin => .of_ok_eq (f := (·.tryDebounced p.val)) rfl rfl (s.dev.tryDebounced_attaches p.isLt hrun hatt hwin)
  case errRec =>
    obtain ⟨hdis, hun⟩ := s.dev.errRecEnd_leaves p.isLt hrun hatt
    exact ⟨fun hwhy => .of_ok_eq (f := (·.errRecEnd p.val)) rfl rfl (hdis hwhy),
      fun hwhy h1 h2 => .of_ok_eq (f := (·.errRecEnd p.val)) rfl rfl (hun hwhy h1 h2)⟩
  case chatter => exact .of_ok_eq (f := (·.chatterEnd p.val)) rfl rfl (s.dev.chatterEnd_clears p.isLt hrun)
  case sinkGone =>
    intro hcalm h3 hmask hlow
    obtain ⟨hleft, hdet, hun⟩ := s.dev.detach_leaves p.isLt
    exact .of_okAt (f := (·.sinkDisconnect p.val vbs)) rfl hcalm (Dev.sinkDisconnect_detaches h3 hmask hlow)
      ⟨hdet, hleft.void, hun (Dev.isSrc_of_att_three h3)⟩
  case emergency =>
    intro hem
    obtain ⟨hleft, hev, hdet, hcnt, hswap, hstop⟩ := s.dev.emergency_leaves p.isLt hem
    refine .of_ok_eq (f := (·.emergency p.val i vbs)) rfl rfl ⟨hev, hdet, hcnt, hleft.void, fun hg => ⟨?_, hleft.stopped hg⟩,
      fun hacc => ⟨hswap hacc, hleft.lastend hacc⟩⟩
    split
    · next h0 => exact (hstop h0).1 hg
    · next h0 => exact hswap h0
  case noEmergency => exact fun hno => exec_unchanged (f := (·.emergency p.val i vbs)) rfl (if_neg (by simp [hno]))
  case emergencyFirst =>
    intro v hhead hem
    obtain ⟨-, hev, -, hcnt, hswap, hstop⟩ := s.dev.emergency_leaves p.isLt hem
    have h3 : (s.dev.emergency p.val i vbs).att p.val ≠ 3 := by
      by_cases h0 : s.dev.get (H.swAcc p.val) = 0
      · exact (hstop h0).2
      · rw [hswap h0]
        decide
    exact .of_okAt_first (f := (·.sinkDisconnect p.val v)) rfl (State.emFirst_head hhead hem)
      (Dev.sinkDisconnect_ignored v h3) ⟨hev, h3, hcnt⟩
  case ccOver => exact .of_ok_eq (f := (·.ccOver p.val cc.val)) rfl rfl (s.dev.ccOver_recovers p.isLt cc.val hmode)
  case vconnOver => exact .of_ok_eq (f := (·.vconnOver p.val)) rfl rfl (s.dev.vconnOver_opens p.isLt hon)
  case rpLevel =>
    obtain ⟨hlevel, htxng, hstart, honly⟩ := s.dev.rpRecognised_sets (code := code.val + 3) (by omega) hsees hline hdue hpast
    exact .of_ok_eq (f := (·.rpRecognised p.val (code.val + 3))) rfl rfl
      ⟨hlevel, htxng.trans (if_congr (by omega) rfl rfl), hstart, honly⟩
  case errec =>
    intro hatt hem hen
    exact .of_okAt (f := (·.prtCtrlWrite p.val (v.toNat ||| 4))) rfl hcalm rfl
      (s.dev.prtCtrlWrite_recovers p.isLt (by rw [Nat.testBit_or, hen, Bool.true_or]) (by rw [Nat.testBit_or]; exact Bool.or_true _)
        hatt hem)
  case disable =>
    exact fun hen => .of_okAt (f := (·.prtCtrlWrite p.val v.toNat)) rfl hcalm rfl (s.dev.prtCtrlWrite_disables p.isLt hen)
  case enable =>
    exact fun hen herr hwhy hatt hmode => .of_okAt (f := (·.prtCtrlWrite p.val v.toNat)) rfl hcalm rfl
      (s.dev.prtCtrlWrite_enables p.isLt hen herr hwhy hatt hmode)
  case ccfilt =>
    exact fun hn hlim => .of_ok_eq (f := (·.ccfiltWrite p.val v.toNat)) rfl rfl (s.dev.ccfiltWrite_stores p.isLt hn hlim)
  case ccfiltBad => exact fun hbad => exec_unchanged (f := (·.ccfiltWrite p.val v.toNat)) rfl (if_pos hbad)
  case vbsLow =>
    intro hacc hph hdet h5 h11
    obtain ⟨h0, hok⟩ := s.dev.vbsLowSet_levels p.isLt
    exact .of_okAt (f := (·.vbsLow p.val)) rfl hcalm (s.dev.vbsLow_reports p.isLt hacc hph hdet h5 h11)
      ⟨h0, hok, s.dev.vbsLowSet_frame p.val⟩
  case vbsHigh =>
    intro hacc hph h2 h7
    obtain ⟨h0, hok⟩ := s.dev.vbsHighSet_levels p.isLt
    exact .of_okAt (f := (·.vbsHigh p.val)) rfl hcalm (s.dev.vbsHigh_reports p.isLt hacc hph h2 h7)
      ⟨h0, hok, s.dev.vbsHighSet_frame p.val⟩
  case lowAttaches =>
    intro h5 hset hdet hwin
    have hwin' : ((s.dev.vbsLowSet p.val).attachTimes p.val).length < 15 := by rwa [(s.dev.vbsLowSet_frame p.val).attachTimes]
    obtain ⟨h8, hev, -⟩ := (s.dev.vbsLowSet p.val).attach_attaches p.isLt false hwin'
    exact .of_okAt (f := (·.vbsLow p.val)) rfl hcalm (s.dev.vbsLow_attaches p.isLt h5 hset hdet) ⟨h8, hev⟩
  case highAttaches =>
    intro h2 hset hwin
    have hwin' : ((s.dev.vbsHighSet p.val).attachTimes p.val).length < 15 := by rwa [(s.dev.vbsHighSet_frame p.val).attachTimes]
    obtain ⟨h3, hev, -⟩ := (s.dev.vbsHighSet p.val).attach_attaches p.isLt true hwin'
    exact .of_okAt (f := (·.vbsHigh p.val)) rfl hcalm (s.dev.vbsHigh_attaches p.isLt h2 hset) ⟨h3, hev⟩
  case lowLeaves =>
    exact fun h11 hgates => .of_okAt (f := (·.vbsLow p.val)) rfl hcalm (s.dev.vbsLow_leaves p.isLt h11 hgates)
      ((s.dev.vbsLowSet p.val).unattached_unsettled p.isLt)

end Sys2Proof.Machine

/-!
Refutes O56: the reception of a message by a banked port also sets a wake bit.
-/
namespace Sys2Proof.Machine

/-- A block with every field as after an L3 reset, but that port 3 is a banked source that hears its partner, on the tick of a wake
already served. -/
def wakeServed : State :=
  { State.reset with dev := { State.reset.dev with regs := [] } }.onDev (·.puts [(F.SYS_MODE_MODE, 3), (H.banked 3, 1),
    (F.PRT_CONTRACT_VALID 3, 1), (F.SYS_WAKE_EN_EN, 128), (H.pdOn 3, 1), (F.PRT_PE_STAT_REV 3, 2), (F.PRT_ATT_STAT_STATE 3, 8),
    (H.wakeTick, State.reset.dev.now + 1)])

theorem wakeServed_hears : wakeServed.hears 3 0 = true := by decide

/-- A Ping to it changes what its reception changes, and no more. -/
theorem exec_rxPing_wakeServed : exec (.rxPing 3 0) wakeServed = .next (wakeServed.onDev (·.rx 3 0 id)) := rfl

theorem wakeServed_stat : wakeServed.dev.get F.SYS_WAKE_STAT_ENABLED = 0 := by decide

/-- On that tick wake source 7 sets its bit at once (R91). -/
theorem wakeServed_rx_stat : (wakeServed.onDev (·.rx 3 0 id)).dev.get F.SYS_WAKE_STAT_ENABLED = 128 := by decide

theorem wakeStat_not_rxField : ∀ g ∈ rxFields 3, F.SYS_WAKE_STAT_ENABLED.key ≠ g.key := by decide

/-- Refutes O56: a Ping that a banked port hears on the tick of a wake already served sets bit 7 of SYS_WAKE_STAT, which is none of
the fields of a reception. -/
theorem not_informationRequestsAreAnswered : ¬ Obligations.InformationRequestsAreAnswered := by
  unfold Obligations.InformationRequestsAreAnswered
  rintro ⟨hping, -⟩
  obtain ⟨t, hexec, -, -, -, -, hrest, -⟩ := hping wakeServed 3 0 wakeServed_hears
  obtain rfl : wakeServed.onDev (·.rx 3 0 id) = t := Host.Outcome.next.inj (exec_rxPing_wakeServed.symm.trans hexec)
  have hkept := hrest F.SYS_WAKE_STAT_ENABLED wakeStat_not_rxField
  rw [wakeServed_rx_stat, wakeServed_stat] at hkept
  exact absurd hkept (by decide)

end Sys2Proof.Machine

/-!
Frames of the port engines: which families of fields a function of a port writes, and what it leaves of the frames to be sent, of the
commands that wait and of the staging words. The example after a group of frames reads a field through one of them.
-/
namespace Sys2Proof.Machine

/-! ### Families -/

/-- The key of the same field of port or index 0, and of no agent's copy: a field's family. -/
def Fld.fam (f : Fld) : Nat :=
  let a := f.key / 4096
  if 4194304 ≤ f.key / 16384 then f.key / 16384 * 16384 + f.key % 4
  else if 0x201000 ≤ a ∧ a < 0x201C00 then f.key - (a - 0x201000) / 128 * 524288 - f.key / 4 % 16 * 4
  else if 0x202000 ≤ a ∧ a < 0x202300 then f.key - (a - 0x202000) / 32 * 131072
  else f.key

/-- No field of a list is of a family, and none that raises, wakes and LOG entries write. -/
def clearOf (l : List Fld) (k : Nat) : Bool := (Fld.mk k 0 0).quiet && l.all (fun g => g.fam != k)

theorem fam_hidden {n i lvl w r : Nat} (hi : i < 4096) (hl : lvl < 4) : (Fld.mk (hkey n i lvl) w r).fam = hkey n 0 lvl := by
  have h : 4194304 ≤ hkey n i lvl / 16384 := by simp only [hkey]; omega
  simp only [Fld.fam, if_pos h, hkey]
  omega

theorem fam_port {o i lo c lvl w r : Nat} (hi : i < 24) (ho : 0x201000 ≤ o) (ho' : o < 0x201080) (hlo : lo < 64) (hc : c < 16)
    (hl : lvl < 4) : (Fld.mk (fkey (o + i * 128) lo c lvl) w r).fam = fkey o lo 0 lvl := by
  have ha : fkey (o + i * 128) lo c lvl / 4096 = o + i * 128 := by simp only [fkey]; omega
  have h0 : ¬ 4194304 ≤ fkey (o + i * 128) lo c lvl / 16384 := by simp only [fkey]; omega
  have h1 : 0x201000 ≤ o + i * 128 ∧ o + i * 128 < 0x201C00 := by omega
  simp only [Fld.fam, if_neg h0, ha, if_pos h1, fkey]
  omega

theorem fam_meter {o i lo c lvl w r : Nat} (hi : i < 24) (ho : 0x202000 ≤ o) (ho' : o < 0x202020) (hlo : lo < 64) (hc : c < 16)
    (hl : lvl < 4) : (Fld.mk (fkey (o + i * 32) lo c lvl) w r).fam = fkey o lo c lvl := by
  have ha : fkey (o + i * 32) lo c lvl / 4096 = o + i * 32 := by simp only [fkey]; omega
  have h0 : ¬ 4194304 ≤ fkey (o + i * 32) lo c lvl / 16384 := by simp only [fkey]; omega
  have h1 : ¬ (0x201000 ≤ o + i * 32 ∧ o + i * 32 < 0x201C00) := by omega
  have h2 : 0x202000 ≤ o + i * 32 ∧ o + i * 32 < 0x202300 := by omega
  simp only [Fld.fam, if_neg h0, ha, if_neg h1, if_pos h2, fkey]
  omega

/-- The quiet fields by their keys. -/
theorem Fld.quiet_iff (f : Fld) : f.quiet = true ↔ ¬ (0x200A08 ≤ f.key / 4096 ∧ f.key / 4096 ≤ 0x200A0F) ∧
    f.key / 4096 ≠ 0x200905 ∧ f.key / 4096 ≠ 0x200023 ∧ f.key ≠ fkey 0x200702 5 0 2 ∧
    ¬ (4194304 ≤ f.key / 16384 ∧ [6, 10, 11, 12, 18, 66, 408, 409, 2006].contains (f.key / 16384 - 4194304) = true) := by
  simp only [Fld.quiet, Bool.and_eq_true, Bool.not_eq_true', Bool.and_eq_false_iff, decide_eq_false_iff_not, bne_iff_ne, not_and_or,
    Bool.not_eq_true, and_assoc]

/-- Whether a field is quiet goes by its family. -/
theorem Fld.quiet_fam (f : Fld) : (Fld.mk f.fam 0 0).quiet = f.quiet := by
  rw [Bool.eq_iff_iff, Fld.quiet_iff, Fld.quiet_iff]
  simp only [Fld.fam, fkey]
  split_ifs with h0 h1 h2
  · rw [show (f.key / 16384 * 16384 + f.key % 4) / 16384 = f.key / 16384 by omega]
    generalize [6, 10, 11, 12, 18, 66, 408, 409, 2006].contains (f.key / 16384 - 4194304) = b
    cases b
    · simp only [Bool.false_eq_true, and_false, not_false_eq_true, and_true]
      omega
    · simp only [and_true]
      omega
  · omega
  · omega
  · rfl
/-! ### Frames -/

/-- A field of a family is in a list. -/
def amongOf (l : List Fld) (k : Nat) : Bool := l.any (fun g => g.fam == k)

/-- Stands in a list of fields for the frames to be sent: no register has its key. -/
def frameMark : Fld := .mk 0 0 0

/-- Stands in a list of fields for the commands that wait. -/
def cmdMark : Fld := .mk 4 0 0

/-- No quiet field but those of a list's families differs between two device parts, and the tick, the staging words, the frames to be
sent and the commands that wait are as they were, the last two unless their mark is in the list. -/
structure Keeps (d e : Dev) (l : List Fld) : Prop where
  now : e.now = d.now
  stg : e.stg = d.stg
  txq : clearOf l frameMark.fam = true → e.txq = d.txq
  cmdq : clearOf l cmdMark.fam = true → e.cmdq = d.cmdq
  read : ∀ f : Fld, clearOf l f.fam = true → e.get f = d.get f

theorem Fld.key_ne_of_fam {f g : Fld} (h : f.fam ≠ g.fam) : f.key ≠ g.key := fun hk => h (by simp only [Fld.fam, hk])

theorem fam_ne_of_clearOf {l : List Fld} {f g : Fld} (hc : clearOf l f.fam = true) (ha : amongOf l g.fam = true) : f.fam ≠ g.fam := by
  simp only [clearOf, Bool.and_eq_true, List.all_eq_true, bne_iff_ne, ne_eq] at hc
  simp only [amongOf, List.any_eq_true, beq_iff_eq] at ha
  obtain ⟨x, hx, hxg⟩ := ha
  exact fun h => hc.2 x hx (hxg.trans h.symm)

theorem Fld.quiet_of_clearOf {l : List Fld} {f : Fld} (hc : clearOf l f.fam = true) : f.quiet = true := by
  simp only [clearOf, Bool.and_eq_true] at hc
  exact f.quiet_fam ▸ hc.1

theorem clearOf_mono {l m : List Fld} {k : Nat} (hs : ∀ g ∈ l, g ∈ m) (hc : clearOf m k = true) : clearOf l k = true := by
  simp only [clearOf, Bool.and_eq_true, List.all_eq_true] at hc ⊢
  exact ⟨hc.1, fun g hg => hc.2 g (hs g hg)⟩

section
variable {d e g : Dev} {l m : List Fld}

theorem Keeps.refl (d : Dev) (l : List Fld) : Keeps d d l := ⟨rfl, rfl, fun _ => rfl, fun _ => rfl, fun _ _ => rfl⟩

theorem Keeps.trans (h : Keeps d e l) (k : Keeps e g l) : Keeps d g l :=
  ⟨k.now.trans h.now, k.stg.trans h.stg, fun hc => (k.txq hc).trans (h.txq hc), fun hc => (k.cmdq hc).trans (h.cmdq hc),
    fun f hf => (k.read f hf).trans (h.read f hf)⟩

theorem Keeps.mono (h : Keeps d e l) (hs : ∀ g ∈ l, g ∈ m := by decide +kernel) : Keeps d e m :=
  ⟨h.now, h.stg, fun hc => h.txq (clearOf_mono hs hc), fun hc => h.cmdq (clearOf_mono hs hc),
    fun f hf => h.read f (clearOf_mono hs hf)⟩

/-- A part that writes a shorter list. -/
theorem Keeps.andThen (h : Keeps d e l) (k : Keeps e g m) (hs : ∀ g ∈ m, g ∈ l := by decide +kernel) : Keeps d g l := h.trans (k.mono hs)

theorem Keeps.ite {c : Prop} [Decidable c] (h : Keeps d e l) (k : Keeps d g l) : Keeps d (if c then e else g) l := by
  split
  · exact h
  · exact k

theorem Keeps.foldl {α : Type} {step : Dev → α → Dev} (q : List α) (h : Keeps d e l) (hs : ∀ (e : Dev) (x : α), Keeps e (step e x) l) :
    Keeps d (q.foldl step e) l := by
  induction q generalizing e with
  | nil => exact h
  | cons x q ih => exact ih (h.trans (hs e x))

theorem Keeps.forN {n : Nat} {step : Nat → Dev → Dev} (h : Keeps d e l) (hs : ∀ i < n, ∀ e, Keeps e (step i e) l) :
    Keeps d (Dev.forN n step e) l :=
  Dev.forN_inv (P := fun x => Keeps d x l) h fun i hi x hx => hx.trans (hs i hi x)

variable (h : Keeps d e l)
include h

/-- A field that the frame does not name. -/
theorem Keeps.get (f : Fld) (hf : clearOf l f.fam = true := by simp (disch := omega) only [fam_hidden, fam_port, fam_meter]; decide +kernel) :
    e.get f = d.get f := h.read f hf

theorem Keeps.cmds (p : Nat) (hc : clearOf l cmdMark.fam = true := by decide +kernel) : e.cmds p = d.cmds p :=
  congrArg (fun q => tget [] q p) (h.cmdq hc)

theorem Keeps.txs (p : Nat) (hc : clearOf l frameMark.fam = true := by decide +kernel) : e.txs p = d.txs p :=
  congrArg (fun q => tget [] q p) (h.txq hc)

theorem Keeps.put {f : Fld} (v : Nat) (hf : amongOf l f.fam = true := by simp (disch := omega) only [fam_hidden, fam_port, fam_meter]; decide +kernel) :
    Keeps d (e.put f v) l :=
  h.trans ⟨rfl, rfl, fun _ => rfl, fun _ => rfl,
    fun _ hx => Dev.get_put_ne e v (Fld.key_ne_of_fam (fam_ne_of_clearOf hx hf))⟩

theorem Keeps.arm {f : Fld} (n : Nat) (hf : amongOf l f.fam = true := by simp (disch := omega) only [fam_hidden, fam_port, fam_meter]; decide +kernel) :
    Keeps d (e.arm f n) l := h.put _ hf

theorem Keeps.stop {f : Fld} (hf : amongOf l f.fam = true := by simp (disch := omega) only [fam_hidden, fam_port, fam_meter]; decide +kernel) :
    Keeps d (e.stop f) l := h.put _ hf

theorem Keeps.clr {f : Fld} (hf : amongOf l f.fam = true := by simp (disch := omega) only [fam_hidden, fam_port, fam_meter]; decide +kernel) :
    Keeps d (e.clr f) l := h.put _ hf

theorem Keeps.set1 {f : Fld} (hf : amongOf l f.fam = true := by simp (disch := omega) only [fam_hidden, fam_port, fam_meter]; decide +kernel) :
    Keeps d (e.set1 f) l := h.put _ hf

theorem Keeps.inc {f : Fld} (hf : amongOf l f.fam = true := by simp (disch := omega) only [fam_hidden, fam_port, fam_meter]; decide +kernel) :
    Keeps d (e.inc f) l := h.put _ hf

theorem Keeps.puts {ws : List (Fld × Nat)} (hw : (ws.map (·.1.fam)).all (amongOf l) = true := by
    simp (disch := omega) only [List.map, fam_hidden, fam_port, fam_meter]; decide +kernel) : Keeps d (e.puts ws) l := by
  induction ws generalizing e with
  | nil => exact h
  | cons w ws ih =>
    simp only [List.map_cons, List.all_cons, Bool.and_eq_true] at hw
    exact ih (h.put w.2 hw.1) hw.2

theorem Keeps.hwSet {f : Fld} (hf : amongOf l f.fam = true := by simp (disch := omega) only [fam_hidden, fam_port, fam_meter]; decide +kernel) :
    Keeps d (e.hwSet f) l :=
  h.trans ⟨rfl, rfl, fun _ => rfl, fun _ => rfl,
    fun _ hx => Dev.hwSet_get_ne e (Fld.key_ne_of_fam (fam_ne_of_clearOf hx hf))⟩

/-- What raises and wakes do. -/
theorem Keeps.router (hr : OnlyRouter e g) (hget : ∀ f : Fld, f.quiet = true → g.get f = e.get f) : Keeps d g l :=
  h.trans ⟨hr.now, hr.stg, fun _ => hr.txq, fun _ => hr.cmdq, fun f hf => hget f (Fld.quiet_of_clearOf hf)⟩

theorem Keeps.raise {s : Nat} (hs : s < 256) : Keeps d (e.raise s) l := h.router (e.raise_rest s) fun _ hf => e.raise_get hs hf

theorem Keeps.wake (b : Nat) : Keeps d (e.wake b) l := h.router (e.wake_rest b) fun _ hf => e.wake_get b hf

theorem Keeps.touch (a : Agent) : Keeps d (e.touch a) l := h.router (e.touch_rest a) fun _ hf => e.touch_get a hf

theorem Keeps.event {evt ie : Fld} {s : Nat} (hs : s < 256)
    (he : amongOf l evt.fam = true := by simp (disch := omega) only [fam_hidden, fam_port, fam_meter]; decide +kernel) : Keeps d (e.event evt ie s) l := by
  have hset := h.hwSet he
  unfold Dev.event
  exact .ite (hset.raise hs) hset

theorem Keeps.logAppend (typ source : Nat) (data : List Nat) : Keeps d (e.logAppend typ source data) l := by
  unfold Dev.logAppend Dev.stoEvt
  split
  · exact h.router (e.event_rest _ _ _) fun f hf => Dev.event_get _ _ _ (by decide) hf (quiet_ne hf (by decide))
  · exact h.trans ⟨rfl, rfl, fun _ => rfl, fun _ => rfl, fun _ _ => rfl⟩

theorem Keeps.hwEnqueue {c : Nat} (ws : List Word) (hc : c < 64) : Keeps d (e.hwEnqueue c ws) l :=
  h.router rfl fun _ hf => e.hwEnqueue_get ws hc hf

end

example (d : Dev) : Keeps d (((d.put (H.await 3) 1).arm (T.ramp 3) 0).logAppend 3 0xF0 [225]) [H.await 0, T.ramp 0] :=
  (((Keeps.refl d _).put 1).arm 0).logAppend _ _ _

end Sys2Proof.Machine

/-!
Frames of the functions that the engines of a port share: events, commands, the line, exchanges, contracts and resets. The lists name the
fields of port 0, for their families.
-/
namespace Sys2Proof.Machine

/-- A frame by the fields themselves is one by their families. -/
theorem OnlyRegs.keeps {d e : Dev} {m l : List Fld} (h : OnlyRegs d e m)
    (hm : (m.map Fld.fam).all (amongOf l) = true := by simp (disch := omega) only [List.map, fam_hidden, fam_port]; decide +kernel) :
    Keeps d e l where
  now := h.now
  stg := by have hs := congrArg Dev.stg h.2; exact hs
  txq := fun _ => by have hs := congrArg Dev.txq h.2; exact hs
  cmdq := fun _ => by have hs := congrArg Dev.cmdq h.2; exact hs
  read := fun f hf => h.1 f fun g hg => Fld.key_ne_of_fam (fam_ne_of_clearOf hf (by
    simp only [List.all_map, List.all_eq_true] at hm
    exact hm g hg))

/-! ### Events -/

theorem peKind_le (b : Nat) : peKind b ≤ 3 := by
  unfold peKind
  repeat' split
  all_goals decide

/-- The sources of PRTnn_PE_EVT. -/
theorem peSource_lt {p : Nat} (hp : p < 24) (b : Nat) : p * 8 + peKind b < 256 := by
  have := peKind_le b
  omega

/-- An event of PRTnn_PE_EVT reads 1. -/
theorem Dev.peEvt_self (d : Dev) {p : Nat} (hp : p < 24) {evt : Fld} (hq : evt.quiet = true := by simp only [Fld.quiet_iff, fkey]; omega)
    (hw : evt.w = 1 := by rfl) : (d.peEvt p evt).get evt = 1 := d.event_self evt _ (peSource_lt hp _) hq hw

section
variable {d e : Dev} {l : List Fld} (h : Keeps d e l) {p : Nat} (hp : p < 24)
include h hp

theorem Keeps.peEvt {evt : Fld} (he : amongOf l evt.fam = true := by simp (disch := omega) only [fam_hidden, fam_port]; decide +kernel) :
    Keeps d (e.peEvt p evt) l :=
  h.event (peSource_lt hp _) he

theorem Keeps.hpmEvt {evt : Fld} (he : amongOf l evt.fam = true := by simp (disch := omega) only [fam_hidden, fam_port]; decide +kernel) :
    Keeps d (e.hpmEvt p evt) l := h.event (by omega) he

theorem Keeps.swapEvt {evt : Fld} (he : amongOf l evt.fam = true := by simp (disch := omega) only [fam_hidden, fam_port]; decide +kernel) :
    Keeps d (e.swapEvt p evt) l := h.event (by omega) he

theorem Keeps.mtrEvt {evt : Fld} (he : amongOf l evt.fam = true := by simp (disch := omega) only [fam_hidden, fam_port, fam_meter]; decide +kernel) :
    Keeps d (e.mtrEvt p evt) l := h.event (by omega) he

theorem Keeps.grdEvt {evt : Fld} (he : amongOf l evt.fam = true := by simp (disch := omega) only [fam_hidden, fam_port]; decide +kernel) :
    Keeps d (e.grdEvt p evt) l := h.event (by omega) he

end

example (d : Dev) : Keeps d (d.grdEvt 3 (F.GRD_TRIP_STOP 3)) [F.GRD_TRIP_STOP 0] := (Keeps.refl d _).grdEvt (by decide)

/-! ### Commands (R239) -/

/-- What a completion record writes. -/
def doneFlds : List Fld := [F.PRT_CMD_DONE_TICKET 0, F.PRT_CMD_DONE_OUTCOME 0, F.PRT_CMD_DONE_CODE 0, F.PRT_PE_EVT_CMDDONE 0,
  F.PRT_PE_EVT_PREEMPT 0, H.chRefused 0]

/-- What the completion of a command writes. -/
def cmdFlds : List Fld := doneFlds ++ [cmdMark, F.PRT_PE_STAT_QDEPTH 0, H.cmdRun 0, H.cmdHeld 0, T.cmdMiss 0, T.cmdStart 0]

section
variable (d : Dev) {p : Nat} (hp : p < 24)
include hp

theorem Dev.cmdRecord_keeps (c : Cmd) (outcome : Nat) : Keeps d (d.cmdRecord p c outcome) doneFlds := by
  have hch {e : Dev} (h : Keeps d e doneFlds) (c : Nat) (hc : c < 64) (ws : List Word) :
      Keeps d (if e.hwCredit c > 0 then e.hwEnqueue c ws else e.hwSet (H.chRefused c)) doneFlds :=
    .ite (h.hwEnqueue ws hc) h.hwSet
  have hdone : Keeps d ((d.puts [(F.PRT_CMD_DONE_TICKET p, c.ticket), (F.PRT_CMD_DONE_OUTCOME p, if c.late then 8 else outcome),
      (F.PRT_CMD_DONE_CODE p, c.code)]).peEvt p (F.PRT_PE_EVT_CMDDONE p)) doneFlds := .peEvt (.puts (.refl d _)) hp
  have hpre := Keeps.ite (c := (if c.late then 8 else outcome) = 5) (hdone.peEvt hp (evt := F.PRT_PE_EVT_PREEMPT p)) hdone
  exact .ite (hch hpre _ (Dev.get_lt _ _) _) hpre

theorem Dev.setCmds_keeps (q : List Cmd) : Keeps d (d.setCmds p q) [cmdMark, F.PRT_PE_STAT_QDEPTH 0] := by
  have hq : Keeps d { d with cmdq := tput [] d.cmdq p q } [cmdMark, F.PRT_PE_STAT_QDEPTH 0] :=
    ⟨rfl, rfl, fun _ => rfl, fun hc => absurd hc (by decide), fun _ _ => rfl⟩
  exact hq.put _

theorem Dev.cmdEnd_keeps (outcome : Nat) : Keeps d (d.cmdEnd p outcome) cmdFlds := by
  unfold Dev.cmdEnd
  refine .ite ?_ (.refl d _)
  split
  · exact .put (.refl d _) 0
  · next c q _ =>
    have hrest : Keeps d (((d.setCmds p q).clr (H.cmdRun p)).stop (T.cmdMiss p)) cmdFlds :=
      .put (.put ((d.setCmds_keeps hp q).mono) 0) 0
    exact .put (hrest.andThen (Dev.cmdRecord_keeps _ hp c outcome)) _

theorem Dev.cmdFin_keeps (outcome : Nat) : Keeps d (d.cmdFin p outcome) cmdFlds := .ite (.refl d _) (d.cmdEnd_keeps hp outcome)

theorem Dev.cmdUnheld_keeps : Keeps d (d.cmdUnheld p) cmdFlds := .ite (.puts (.refl d _)) (.refl d _)

theorem Dev.cmdAbortAll_keeps : Keeps d (d.cmdAbortAll p) cmdFlds :=
  .foldl _ (.puts (d.setCmds_keeps hp []).mono) fun e c => (e.cmdRecord_keeps hp c 6).mono

theorem Dev.cmdJoined_keeps (outcome : Nat) : Keeps d (d.cmdJoined p (some outcome)) cmdFlds :=
  .foldl _ (d.setCmds_keeps hp _).mono fun e c => (e.cmdRecord_keeps hp c outcome).mono

theorem Dev.cmdDrop_keeps (outcome : Nat) : Keeps d (d.cmdDrop p outcome) (cmdFlds ++ [H.swWaits 0, H.swBack 0]) := by
  unfold Dev.cmdDrop
  split
  · exact .refl d _
  · exact .put (.andThen (.puts (d.setCmds_keeps hp _).mono) (Dev.cmdRecord_keeps _ hp _ outcome)) _

end

example (d : Dev) : (d.cmdDrop 3 6).get (H.await 3) = d.get (H.await 3) := (d.cmdDrop_keeps (by decide) 6).get _

/-! ### The line -/

/-- What the use of the line writes. -/
def lineFlds : List Fld := [H.lineBusy 0, T.lineFree 0, H.blankTo 0, H.rpDue 0, H.ccDue 0 0]

/-- What the start of the next frame writes. -/
def txArmFlds : List Fld := lineFlds ++ [T.rx 0, H.txFrom 0, T.ceilEop 0]

/-- What the transmitter writes. -/
def txFlds : List Fld := txArmFlds ++ [frameMark, H.firstKind 0, H.txMid 0 0]

/-- The MessageID counters and what is kept of received headers. -/
def midFlds : List Fld := [H.txMid 0 0, H.rxHdr 0 0]

/-- What the reception of a message writes. -/
def rxFlds : List Fld := lineFlds ++ [H.gcSent 0, H.hrTry 0, H.gcTo 0, H.rxHdr 0 0, H.rxAt 0 0]

section
variable (d : Dev) {p : Nat} (hp : p < 24)
include hp

theorem Dev.ccRecount_keeps : Keeps d (d.ccRecount p) lineFlds :=
  .forN (.refl d _) fun _ _ e => .ite (.put (.refl e _) _) (.refl e _)

theorem Dev.lineUse_keeps (til : Nat) : Keeps d (d.lineUse p til) lineFlds := by
  have hset : Keeps d (d.puts [(H.lineBusy p, 1), (T.lineFree p, til + 1), (H.blankTo p, til + 6400)]) lineFlds := .puts (.refl d _)
  exact (Keeps.ite (hset.put _) hset).trans (Dev.ccRecount_keeps _ hp)

omit hp in
theorem Dev.setTxs_keeps (q : List TxFrame) : Keeps d (d.setTxs p q) [frameMark] :=
  ⟨rfl, rfl, fun hc => absurd hc (by decide), fun _ => rfl, fun _ _ => rfl⟩

theorem Dev.txArm_keeps : Keeps d (d.txArm p) txArmFlds := by
  unfold Dev.txArm
  split
  · exact .put (.refl d _) 0
  · have hrx (from_ til : Nat) : Keeps d (((d.put (H.txFrom p) (from_ + 1)).lineUse p (til + 1024)).put (T.rx p) (til + 64000 + 1)) txArmFlds :=
      .put (.andThen (.put (.refl d _) _) (Dev.lineUse_keeps _ hp _)) _
    exact .ite (.put (.refl d _) _) (.ite ((hrx _ _).put _) (hrx _ _))

theorem Dev.tx_keeps (f : TxFrame) : Keeps d (d.tx p f) txFlds := by
  have hq : Keeps d (d.setTxs p (d.txs p ++ [f])) txFlds := (d.setTxs_keeps _).mono
  exact .ite (hq.andThen (Dev.txArm_keeps _ hp)) hq

omit hp in
theorem Dev.setTxs_txs (q : List TxFrame) : (d.setTxs p q).txs p = q := tget_tput_same _ _ _ _

/-- A message handed to the transmitter stands behind those that wait. -/
theorem Dev.tx_sends (f : TxFrame) : d.sends (d.tx p f) p f := by
  unfold Dev.sends Dev.tx
  dsimp only
  split
  · rw [(Dev.txArm_keeps _ hp).txs p, Dev.setTxs_txs]
  · rw [Dev.setTxs_txs]

theorem Dev.txSop_keeps (msg : Nat) (objs : List Nat) (kind : Nat) : Keeps d (d.txSop p msg objs kind) txFlds := d.tx_keeps hp _

theorem Dev.midReset_keeps : Keeps d (d.midReset p) midFlds := .puts (.refl d _)

theorem Dev.lineAck_keeps : Keeps d (d.lineAck p) lineFlds := d.lineUse_keeps hp _

theorem Dev.rxSeen_keeps (n : Nat) : Keeps d (d.rxSeen p n) rxFlds := by
  have hseen {e : Dev} (h : Keeps d e rxFlds) : Keeps d (((e.inc (H.gcSent p)).puts [(H.hrTry p, 0),
      (H.gcTo p, e.now + goodCrcTicks)]).lineUse p (e.now + goodCrcTicks + 1024)) rxFlds :=
    .andThen (.puts (.put h _)) (Dev.lineUse_keeps _ hp _)
  unfold Dev.rxSeen
  dsimp only
  split
  · exact .ite ((hseen (.put (.refl d _) _)).wake 7) (hseen (.put (.refl d _) _))
  · exact .ite ((hseen (.refl d _)).wake 7) (hseen (.refl d _))

theorem Dev.rxNote_keeps (hdr : Nat) : Keeps d (d.rxNote p 0 hdr) rxFlds := .puts (.refl d _)

end

example (d : Dev) : (d.rxSeen 3 0).get (H.await 3) = d.get (H.await 3) := (d.rxSeen_keeps (by decide) 0).get _

/-! ### Exchanges -/

/-- What collision avoidance writes. -/
def schedFlds : List Fld := [F.PRT_ATT_STAT_RPOWN 0, F.PRT_PE_STAT_TXNG 0, T.cmdStart 0]

/-- What the end of an exchange writes. -/
def exEndFlds : List Fld := schedFlds ++ [H.exOn 0, H.exOwn 0, H.await 0, T.senderResp 0, H.waits 0, H.vdmWhat 0, T.vdmResp 0, T.vdmBusy 0,
  H.hpmVerd 0, H.exAns 0, H.reqHeld 0, F.PRT_PE_STAT_STATE 0]

/-- What the start of an exchange writes. -/
def exBeginFlds : List Fld := [H.lookEx 0, H.exOn 0, H.exOwn 0, H.exStart 0, H.exS 0, H.prevState 0]

section
variable (d : Dev) {p : Nat} (hp : p < 24)
include hp

theorem Dev.setRp_keeps (ng : Bool) : Keeps d (d.setRp p ng) schedFlds := .ite (.puts (.refl d _)) (.refl d _)

theorem Dev.sched_keeps : Keeps d (d.sched p) schedFlds := .put (.ite (.refl d _) (d.setRp_keeps hp false)) _

theorem Dev.exEndIn_keeps (st : Nat) : Keeps d (d.exEndIn p st) exEndFlds :=
  .andThen (.put (.puts (.refl d _)) st) (Dev.sched_keeps _ hp)

theorem Dev.exEnd_keeps : Keeps d (d.exEnd p) exEndFlds := d.exEndIn_keeps hp _

theorem Dev.exBegin_keeps (own : Bool) (s : Nat) : Keeps d (d.exBegin p own s) exBeginFlds := .ite (.refl d _) (.puts (.refl d _))

theorem Dev.awaitEnd_keeps : Keeps d (d.awaitEnd p) exEndFlds := .puts (.refl d _)

theorem Dev.wantOwn_keeps (k : Nat) : Keeps d (d.wantOwn p k) [H.want 0, T.cmdStart 0] := .put (.put (.refl d _) _) _

end

example (d : Dev) : (d.exEnd 3).txs 3 = d.txs 3 := (d.exEnd_keeps (by decide)).txs 3

/-! ### The setpoints, the gates and the contract -/

/-- What a ramp of the voltage setpoint writes. -/
def rampFlds : List Fld := [H.vfrom 0, H.vset 0, H.vnow 0, H.vStart 0, H.vDur 0, H.imode 0, H.settleOn 0, H.pgtoLat 0, T.ramp 0]

/-- What the input-current setpoint writes. -/
def isetFlds : List Fld := [H.ifrom 0, H.iStart 0, H.iDur 0, H.iset 0, H.imode 0, T.ramp 0]

/-- What the end of a transition writes. -/
def xferFlds : List Fld := rampFlds ++ [T.srcTrans 0, T.psTrans 0, T.pgto 0, H.psDone 0, H.rampReq 0, H.xferOn 0, H.xferKind 0, H.vexp 0]

/-- What the recompute of the effective limits writes. -/
def effFlds : List Fld := [F.GRD_CLAMP_CLAMP 0, F.GRD_EFF0_LIMITS 0, F.GRD_EFF1_LIMITS 0, F.GRD_STAT_VALID 0, H.effEver 0, T.turnOn 0]

/-- What a stop of the gates writes. -/
def stopFlds : List Fld := [F.GRD_STAT_PEND 0, T.turnOn 0, F.GRD_STAT_STOPKIND 0, T.gateOff 0, F.GRD_STAT_GATES 0, F.GRD_STAT_STOPWHY 0,
  T.tsoa 0, H.stopTick 0, F.GRD_TRIP_STOP 0]

/-- What the contract register and its summary hold. -/
def conFlds : List Fld := [F.PRT_CONTRACT_VALID 0, F.PRT_CONTRACT_ROLE 0, F.PRT_CONTRACT_KIND 0, F.PRT_CONTRACT_POS 0,
  F.PRT_CONTRACT_VOLT 0, F.PRT_CONTRACT_CURR 0, F.PRT_HOLDSUM_SUM 0]

/-- What the end of a contract writes beside them. -/
def voidFlds : List Fld := effFlds ++ segFlds 0 ++ [H.keepLim 0, T.ppsReq 0, T.ppsTo 0, T.tpoll 0, T.ceilResp 0, F.PRT_HPM_CEIL_CEIL 0,
  F.PRT_PE_EVT_CONTRACT 0, F.PRT_HPM_EVT_CONTRACT 0, H.vexp 0]

/-- What a change of Contour's inputs and of a port's part in it writes. -/
def contourFlds : List Fld := [H.budWhyP 0, H.budTin, H.budTb, H.budWhy, F.BUD_STAT_BUSY, T.contour]

/-! The close of a meter's segment -/

section
variable (d : Dev) {p : Nat} (hp : p < 24)
include hp

theorem Dev.segOpen_keeps : Keeps d (d.segOpen p) (segFlds 0) := .ite (.put (.puts (.refl d _)) _) (.puts (.refl d _))

theorem Dev.segNone_keeps : Keeps d (d.segNone p) (segFlds 0) := .puts (.refl d _)

omit hp in
theorem Dev.setSegs_keeps (q : List Seg) : Keeps d (d.setSegs p q) (segFlds 0) := ⟨rfl, rfl, fun _ => rfl, fun _ => rfl, fun _ _ => rfl⟩

theorem Dev.segQueue_keeps (g : Seg) : Keeps d (d.segQueue p g) (segFlds 0) := by
  have hnext (q : List Seg) : Keeps d ((d.setSegs p q).inc (F.MTR_STAT_SER p)) (segFlds 0) := .put (d.setSegs_keeps q) _
  unfold Dev.segQueue
  dsimp only
  split
  · exact .ite (.mtrEvt (.puts (d.setSegs_keeps _)) hp) (hnext _)
  · exact hnext _

theorem Dev.segJoin_keeps (reason dit : Nat) (reopen : Bool) (g : Seg) : Keeps d (d.segJoin p reason dit reopen g) (segFlds 0) := by
  have hword (q : List Seg) (v : Nat) : Keeps d ((d.setSegs p q).put (F.MTR_LSEGW0_WORD0 p) v) (segFlds 0) :=
    .put (d.setSegs_keeps q) v
  exact .ite (.ite (.trans (.puts (hword _ _)) (Dev.segOpen_keeps _ hp)) (.trans (.puts (hword _ _)) (Dev.segNone_keeps _ hp))) (hword _ _)

theorem Dev.segEnd_keeps (reason dit : Nat) : Keeps d (d.segEnd p reason dit) (segFlds 0) :=
  .mtrEvt (.trans (.puts (d.segQueue_keeps hp _)) (Dev.segNone_keeps _ hp)) hp

theorem Dev.segClose_keeps (reason : Nat) (reopen : Bool) : Keeps d (d.segClose p reason reopen) (segFlds 0) := by
  have hdit {e : Dev} (h : Keeps d e (segFlds 0)) (c : Bool) : Keeps d (e.when c (·.mtrEvt p (F.MTR_EVT_DIT p))) (segFlds 0) :=
    .ite (.mtrEvt h hp) h
  have hopen {e : Dev} (h : Keeps d e (segFlds 0)) : Keeps d (e.when reopen (·.segOpen p)) (segFlds 0) :=
    .ite (h.trans (e.segOpen_keeps hp)) h
  unfold Dev.segClose
  dsimp only
  split
  · exact hdit (d.segJoin_keeps hp reason _ reopen _) _
  · exact .ite (.refl d _) (hdit (hopen (d.segEnd_keeps hp reason _)) _)

end

example (d : Dev) : (d.segClose 3 2 true).get (H.await 3) = d.get (H.await 3) := (d.segClose_keeps (by decide) 2 true).get _

section
variable (d : Dev) {p : Nat} (hp : p < 24)
include hp

theorem Dev.rampTo_keeps (target : Nat) : Keeps d (d.rampTo p target) rampFlds := .put (.puts (.refl d _)) _

theorem Dev.setIset_keeps (i : Nat) : Keeps d (d.setIset p i) isetFlds := .puts (.refl d _)

theorem Dev.isetRamp_keeps (i : Nat) : Keeps d (d.isetRamp p i) isetFlds := .put (.puts (.refl d _)) _

theorem Dev.vsetOff_keeps : Keeps d (d.vsetOff p) (xferFlds ++ isetFlds) := .puts (.refl d _)

theorem Dev.xferBegin_keeps (kind target : Nat) : Keeps d (d.xferBegin p kind target) xferFlds := .puts (.refl d _)

theorem Dev.xferEnd_keeps (vexp : Nat) : Keeps d (d.xferEnd p vexp) xferFlds := .puts (.refl d _)

theorem Dev.xferAbandon_keeps : Keeps d (d.xferAbandon p) xferFlds := by
  have hstop : Keeps d (d.puts [(T.srcTrans p, 0), (T.psTrans p, 0), (T.pgto p, 0), (H.settleOn p, 0), (H.psDone p, 0), (H.rampReq p, 0),
    (H.xferOn p, 0)]) xferFlds := .puts (.refl d _)
  exact .ite (.put (hstop.andThen (Dev.rampTo_keeps _ hp _)) 4) (hstop.put 0)

theorem Dev.effUpdate_keeps : Keeps d (d.effUpdate p) effFlds := by
  have hclamp : Keeps d (d.clampPut p) effFlds := .ite (.put (.refl d _) _) (.refl d _)
  exact .ite (.ite (.put (.puts hclamp) _) (.puts hclamp)) hclamp

omit hp in
example (d : Dev) : (d.effUpdate 3).get (H.await 3) = d.get (H.await 3) := (d.effUpdate_keeps (by decide)).get _

theorem Dev.disOn_keeps : Keeps d (d.disOn p) [F.GRD_STAT_DISON 0, H.padDis 0, T.disMax 0, T.disLow 0] :=
  .ite (.refl d _) (.ite (.put (.put (.puts (.refl d _)) _) _) (.put (.puts (.refl d _)) _))

theorem Dev.gateStop_keeps (why : Nat) (hard : Bool) : Keeps d (d.gateStop p why hard) stopFlds := by
  have hpend : Keeps d (d.puts [(F.GRD_STAT_PEND p, 0), (T.turnOn p, 0)]) stopFlds := .puts (.refl d _)
  exact .ite hpend (.ite (.ite (.put (.put hpend 2) _) hpend) (.logAppend (.grdEvt (.put (.puts hpend) _) hp) _ _ _))

theorem Dev.gateReq_keeps : Keeps d (d.gateReq p) stopFlds := .ite (.refl d _) (.put (.put (.refl d _) 1) _)

theorem Dev.conVoid_keeps (keepLimits : Bool) : Keeps d (d.conVoid p keepLimits) (conFlds ++ voidFlds) := by
  have hlim {e : Dev} (h : Keeps d e (conFlds ++ voidFlds)) :
      Keeps d (if keepLimits then e else (e.put (H.vexp p) 500).effUpdate p) (conFlds ++ voidFlds) :=
    .ite h ((h.put 500).andThen (Dev.effUpdate_keeps _ hp))
  have hkeep (v : Nat) : Keeps d (d.put (H.keepLim p) v) (conFlds ++ voidFlds) := .put (.refl d _) v
  have hwrite (v : Nat) : Keeps d (((((d.put (H.keepLim p) v).conTimersOff p).put (F.PRT_HPM_CEIL_CEIL p) 0).conWrite p 0).peEvt p
      (F.PRT_PE_EVT_CONTRACT p)) (conFlds ++ voidFlds) :=
    .peEvt (.puts (.put (.puts (hkeep v)) 0)) hp
  refine .ite (hlim (.andThen (.ite (.hpmEvt (hwrite _) hp) (hwrite _)) (Dev.segClose_keeps _ hp 2 true)))
    (.ite (hlim (.put (hkeep _) 0)) (hkeep _))

theorem Dev.contourPort_keeps (why : Nat) : Keeps d (d.contourPort p why) contourFlds := .put (.puts (.put (.refl d _) _)) _

theorem Dev.attSet_keeps (st : Nat) :
    Keeps d (d.attSet p st) (contourFlds ++ [F.PRT_ATT_STAT_STATE 0, F.BUDP_STAT_PART 0, H.budNoCap 0]) := by
  have hput : Keeps d (d.put (F.PRT_ATT_STAT_STATE p) st) (contourFlds ++ [F.PRT_ATT_STAT_STATE 0, F.BUDP_STAT_PART 0, H.budNoCap 0]) :=
    .put (.refl d _) st
  exact .ite (.ite (.andThen (.put hput _) (Dev.contourPort_keeps _ hp 1)) hput)
    (.ite hput (.andThen (.puts hput) (Dev.contourPort_keeps _ hp 1)))

end

example (d : Dev) : (d.attSet 3 9).get (H.await 3) = d.get (H.await 3) := (d.attSet_keeps (by decide) 9).get _

/-! ### What a frame says of the state of a port -/

/-- The fields that the role of a port is told by. -/
def roleFlds : List Fld := [F.PRT_ATT_STAT_STATE 0, H.detaching 0, H.resume 0, H.grdSink 0]

section
variable {d e : Dev} {l : List Fld} (h : Keeps d e l) {p : Nat} (hp : p < 24)
include h hp

theorem Keeps.roles (hc : roleFlds.all (fun g => clearOf l g.fam) = true := by decide +kernel) :
    e.isSrc p = d.isSrc p ∧ e.isSnk p = d.isSnk p := by
  simp only [roleFlds, List.all_cons, Bool.and_eq_true] at hc
  obtain ⟨hatt, hdet, hres, hsnk, -⟩ := hc
  simp only [Dev.isSrc, Dev.isSnk, Dev.resuming, Dev.att, Dev.bit,
    h.get (F.PRT_ATT_STAT_STATE p) (by simpa (disch := omega) only [fam_port] using hatt),
    h.get (H.detaching p) (by simpa (disch := omega) only [fam_hidden] using hdet),
    h.get (H.resume p) (by simpa (disch := omega) only [fam_hidden] using hres),
    h.get (H.grdSink p) (by simpa (disch := omega) only [fam_hidden] using hsnk), and_self]

theorem Keeps.isSrc (hc : roleFlds.all (fun g => clearOf l g.fam) = true := by decide +kernel) : e.isSrc p = d.isSrc p := (h.roles hp hc).1

theorem Keeps.isSnk (hc : roleFlds.all (fun g => clearOf l g.fam) = true := by decide +kernel) : e.isSnk p = d.isSnk p := (h.roles hp hc).2

theorem Keeps.attached (hc : roleFlds.all (fun g => clearOf l g.fam) = true := by decide +kernel) : e.attached p = d.attached p := by
  simp only [Dev.attached, h.isSrc hp hc, h.isSnk hp hc]

theorem Keeps.explicit (hc : conFlds.all (fun g => clearOf l g.fam) = true := by decide +kernel) : e.explicit p = d.explicit p := by
  simp only [conFlds, List.all_cons, Bool.and_eq_true] at hc
  obtain ⟨hval, -, hkind, -⟩ := hc
  rw [Dev.explicit, Dev.conKind, Dev.bit, h.get (F.PRT_CONTRACT_VALID p) (by simpa (disch := omega) only [fam_port] using hval),
    h.get (F.PRT_CONTRACT_KIND p) (by simpa (disch := omega) only [fam_port] using hkind)]
  rfl

theorem Keeps.pd3 (hr : clearOf l (F.PRT_PE_STAT_REV 0).fam = true := by decide +kernel) : e.pd3 p = d.pd3 p := by
  rw [Dev.pd3, h.get (F.PRT_PE_STAT_REV p) (by simpa (disch := omega) only [fam_port] using hr)]
  rfl

theorem Keeps.lineWait (hl : clearOf l (T.lineFree 0).fam = true := by decide +kernel) : e.lineWait p = d.lineWait p := by
  have hread : e.get (T.lineFree p) = d.get (T.lineFree p) := h.get _ (by simpa (disch := omega) only [fam_hidden] using hl)
  simp only [Dev.lineWait, Dev.armed, Dev.left, hread, h.now]
  rfl

end

/-- A sink is no source. -/
theorem Dev.isSrc_of_isSnk {d : Dev} {p : Nat} (h : d.isSnk p = true) : d.isSrc p = false := by
  simp only [Dev.isSnk, Dev.isSrc, Dev.resuming, Bool.or_eq_true, Bool.and_eq_true, beq_iff_eq] at h ⊢
  rcases h with h | ⟨⟨h, -⟩, hs⟩ <;> simp [*]

theorem Dev.isSnk_of_isSrc {d : Dev} {p : Nat} (h : d.isSrc p = true) : d.isSnk p = false := by
  by_contra hs
  rw [Dev.isSrc_of_isSnk (by simpa using hs)] at h
  exact Bool.false_ne_true h

/-- A flag that is set. -/
theorem Dev.get_of_bit {d : Dev} {f : Fld} (hw : f.w = 1) (h : d.bit f = true) : d.get f = 1 := (d.bit_eq_iff hw true).1 h

/-! ### What tells of an exchange in progress -/

/-- What a port is engaged by. -/
def engagedFlds : List Fld := [frameMark, H.exOn 0, F.PRT_PE_STAT_ASKPEND 0, H.await 0, H.xferOn 0, H.vdmWhat 0, H.ownWait 0, T.waitCap 0,
  T.sendCaps 0, H.offerDue 0, H.offerOwn 0, H.swAcc 0, H.hrPhase 0, F.PRT_SWAP_STAT_STEP 0]

section
variable {d e : Dev} {l m : List Fld} (h : Keeps d e l)
include h

/-- A field of a list that the frame leaves out. -/
theorem Keeps.readOf (hc : m.all (fun g => clearOf l g.fam) = true) (f : Fld) (hf : amongOf m f.fam = true) : e.get f = d.get f := by
  simp only [amongOf, List.any_eq_true, beq_iff_eq] at hf
  obtain ⟨g, hg, hgf⟩ := hf
  exact h.read f (hgf ▸ List.all_eq_true.1 hc g hg)

theorem Keeps.engaged {p : Nat} (hp : p < 24) (hc : engagedFlds.all (fun g => clearOf l g.fam) = true := by decide +kernel) :
    e.engaged p = d.engaged p := by
  have hr (f : Fld) (hf : amongOf engagedFlds f.fam = true := by simp (disch := omega) only [fam_hidden, fam_port]; decide +kernel) :
      e.get f = d.get f := h.readOf hc f hf
  have htx : e.txs p = d.txs p := h.txs p (List.all_eq_true.1 hc frameMark (by decide))
  simp only [Dev.engaged, Dev.busy, Dev.askOut, Dev.bit, Dev.armed, htx, hr (H.exOn p), hr (F.PRT_PE_STAT_ASKPEND p), hr (H.await p),
    hr (H.xferOn p), hr (H.vdmWhat p), hr (H.ownWait p), hr (T.waitCap p), hr (T.sendCaps p), hr (H.offerDue p), hr (H.offerOwn p),
    hr (H.swAcc p), hr (H.hrPhase p), hr (F.PRT_SWAP_STAT_STEP p)]

/-- How long a mode stretches deadlines (R26). -/
theorem Keeps.stretch (hm : clearOf l F.SYS_MODE_MODE.fam = true := by decide +kernel)
    (hs : clearOf l F.SYS_KINDLE_CTRL_STRETCH.fam = true := by decide +kernel) : e.stretch = d.stretch := by
  rw [Dev.stretch, Dev.mode, h.read _ hm, h.read _ hs]
  rfl

end

example (d : Dev) : (d.put (H.await 3) 1).attached 3 = d.attached 3 ∧ (d.put (H.await 3) 1).stretch = d.stretch :=
  have h : Keeps d (d.put (H.await 3) 1) [H.await 0] := (Keeps.refl d _).put 1
  ⟨h.attached (by decide), h.stretch⟩

end Sys2Proof.Machine

/-!
Deadline misses (R489): what FAB_DLM and the note of the miss's tick read after one. No raise, wake or LOG entry writes them.
-/
namespace Sys2Proof.Machine

/-- A field of FAB_DLM, or the tick of the last miss. -/
def Fld.ofMiss (f : Fld) : Prop := f.key / 4096 = 0x200905 ∨ f.key = H.dlmTick.key

section
variable {f : Fld} (hf : f.ofMiss)
include hf

/-- A hidden field but the miss's tick. -/
theorem Dev.get_put_hidden_ofMiss (d : Dev) {n i w r : Nat} (v : Nat) (hn : n ≠ 18) (hi : i < 4096) :
    (d.put (Fld.mk (hkey n i 2) w r) v).get f = d.get f :=
  Dev.get_put_ne d v (by simp only [Fld.ofMiss, hkey] at hf ⊢; omega)

/-- A register field but FAB_DLM's. -/
theorem Dev.get_put_reg_ofMiss (d : Dev) {a lo w r : Nat} (v : Nat) (ha : a ≠ 0x200905) (hlo : lo < 64) (hm : a < 0x1000000) :
    (d.put (Fld.mk (fkey a lo 0 2) w r) v).get f = d.get f :=
  Dev.get_put_ne d v (by simp only [Fld.ofMiss, fkey, hkey] at hf ⊢; omega)

theorem Dev.postEvent_ofMiss (d : Dev) {s : Nat} (hs : s < 256) : (d.postEvent s).get f = d.get f := by
  have hput (e : Dev) (v : Nat) : (e.put (H.evHeld s) v).get f = e.get f :=
    Dev.get_put_hidden_ofMiss hf e v (by decide) (by omega)
  unfold Dev.postEvent
  split
  · split
    · exact (hput _ 0).trans ((Dev.get_put_hidden_ofMiss hf _ _ (by decide) (by have := d.rteCh_lt s; omega)).trans
        (Dev.get_of_regs rfl))
    · exact hput d 1
  · exact hput d 0

theorem Dev.raise_ofMiss (d : Dev) {s : Nat} (hs : s < 256) : (d.raise s).get f = d.get f := by
  have hput (e : Dev) {n w r : Nat} (v : Nat) (hn : n ≠ 18) : (e.put (Fld.mk (hkey n s 2) w r) v).get f = e.get f :=
    Dev.get_put_hidden_ofMiss hf e v hn (by omega)
  have hpend (e : Dev) (v : Nat) : (e.put (F.EVT_PEND_PEND (s / 32)) v).get f = e.get f :=
    Dev.get_put_reg_ofMiss hf e v (by omega) (by omega) (by omega)
  unfold Dev.raise
  dsimp only
  split
  · rfl
  · split
    · rw [hput _ _ (by decide), hput _ _ (by decide)]
    · unfold Dev.raiseNew
      rw [Dev.postEvent_ofMiss hf _ hs, Dev.puts_cons, Dev.puts_cons, Dev.puts_cons, Dev.puts_nil, hput _ _ (by decide),
        hput _ _ (by decide), hput _ _ (by decide)]
      exact (hpend _ _).trans (hput d _ (by decide))

theorem Dev.event_ofMiss (d : Dev) {evt : Fld} (ie : Fld) {s : Nat} (hs : s < 256) (he : evt.key ≠ f.key) :
    (d.event evt ie s).get f = d.get f := by
  have hset : (d.hwSet evt).get f = d.get f := Dev.hwSet_get_ne d he.symm
  unfold Dev.event
  dsimp only
  split
  · rw [Dev.raise_ofMiss hf _ hs, hset]
  · exact hset

theorem Dev.wake_ofMiss (d : Dev) (b : Nat) : (d.wake b).get f = d.get f := by
  have hhw (g : Fld) (k : Nat) (hg : f.key ≠ g.key) : (d.hwBit g k).get f = d.get f := Dev.hwBit_get_ne _ _ hg
  unfold Dev.wake Dev.wakeNote
  split
  · rfl
  · split
    · split
      · exact hhw _ _ (by simp only [Fld.ofMiss, fkey, hkey] at hf ⊢; omega)
      · split
        · exact hhw _ _ (by simp only [Fld.ofMiss, fkey, hkey] at hf ⊢; omega)
        · rfl
    · split
      · exact (Dev.get_put_hidden_ofMiss hf _ _ (by decide) (by decide)).trans
          (Dev.get_put_hidden_ofMiss hf _ _ (by decide) (by decide))
      · rfl

theorem Dev.logAppend_ofMiss (d : Dev) (typ source : Nat) (data : List Nat) : (d.logAppend typ source data).get f = d.get f := by
  unfold Dev.logAppend
  split
  · exact Dev.event_ofMiss hf _ _ (by decide) (by simp only [Fld.ofMiss, fkey, hkey] at hf ⊢; omega)
  · rfl

end

/-- What a deadline miss shows (R489): one more, and its kind and index unless an earlier miss of its tick keeps its own. -/
theorem Dev.dlMiss_shows (d : Dev) {kind index : Nat} (hk : kind < 16) (hi : index < 64) :
    (d.dlMiss kind index).get F.FAB_DLM_COUNT = (d.get F.FAB_DLM_COUNT + 1) % 2 ^ F.FAB_DLM_COUNT.w ∧
      (d.get H.dlmTick ≠ d.now + 1 → (d.dlMiss kind index).get F.FAB_DLM_KIND = kind ∧
        (d.dlMiss kind index).get F.FAB_DLM_INDEX = index) := by
  have htick : (d.inc F.FAB_DLM_COUNT).get H.dlmTick = d.get H.dlmTick := Dev.get_put_ne _ _ (by decide)
  have hread {f : Fld} (hf : f.ofMiss) (hne : f.key ≠ H.dlmTick.key) : (d.dlMiss kind index).get f =
      (if d.get H.dlmTick = d.now + 1 ∧ (d.inc F.FAB_DLM_COUNT).get F.FAB_DLM_KIND < kind then d.inc F.FAB_DLM_COUNT
        else ((d.inc F.FAB_DLM_COUNT).put F.FAB_DLM_KIND kind).put F.FAB_DLM_INDEX index).get f := by
    unfold Dev.dlMiss
    dsimp only
    rw [Dev.wake_ofMiss hf, Dev.raise_ofMiss hf _ (by decide), Dev.logAppend_ofMiss hf, Dev.get_put_ne _ _ hne, htick]
    rfl
  refine ⟨?_, fun h => ?_⟩
  · rw [hread (.inl (by decide)) (by decide)]
    split
    · exact Dev.get_put_self _ _ _
    · rw [Dev.get_put_ne _ _ (by decide), Dev.get_put_ne _ _ (by decide)]
      exact Dev.get_put_self _ _ _
  · rw [hread (.inl (by decide)) (by decide), hread (.inl (by decide)) (by decide), if_neg fun hc => h hc.1,
      Dev.get_put_ne _ _ (by decide), Dev.get_put_self, Dev.get_put_self]
    exact ⟨Nat.mod_eq_of_lt hk, Nat.mod_eq_of_lt hi⟩

/-- A deadline miss leaves every field but its own. -/
theorem Keeps.dlMiss {d e : Dev} {l : List Fld} (h : Keeps d e l) (kind index : Nat) : Keeps d (e.dlMiss kind index) l :=
  have hloud {f g : Fld} (hf : clearOf l f.fam = true) (hg : g.quiet = false) : f.key ≠ g.key :=
    quiet_ne (Fld.quiet_of_clearOf hf) hg
  have hput {x : Dev} (hx : Keeps d x l) {g : Fld} (v : Nat) (hg : g.quiet = false) : Keeps d (x.put g v) l :=
    hx.trans ⟨rfl, rfl, fun _ => rfl, fun _ => rfl, fun _ hf => Dev.get_put_ne x v (hloud hf hg)⟩
  have hcount := hput h (g := F.FAB_DLM_COUNT) (e.get F.FAB_DLM_COUNT + 1) (by decide)
  .wake (.raise (.logAppend (hput (.ite hcount (hput (hput hcount kind (by decide)) index (by decide))) _ (by decide)) _ _ _)
    (by decide)) _

example (d : Dev) : (d.dlMiss 1 3).get (H.await 3) = d.get (H.await 3) := ((Keeps.refl d []).dlMiss 1 3).get _

end Sys2Proof.Machine

/-!
O60: the commands of R234, from their write to their turn. First the write of PRTnn_CMD (R236, R237).
-/
namespace Sys2Proof.Machine

/-! ### The write -/

theorem Dev.cmdResult_le (d : Dev) (a : Agent) (p code param arg : Nat) : d.cmdResult a p code param arg ≤ 6 := by
  unfold Dev.cmdResult
  repeat' split
  all_goals decide

/-- A code that is not in the table gives RESULT 4 while commands are taken. -/
theorem Dev.cmdResult_unknown {d : Dev} {a : Agent} {p code param arg : Nat} (hcls : cmdClass code = none) (h2 : d.mode ≠ 2)
    (h3 : d.mode ≠ 3) (h4 : d.mode ≠ 4) (hbank : d.get H.bankReq = 0) : d.cmdResult a p code param arg = 4 := by
  simp only [Dev.cmdResult, hcls]
  exact if_neg (by simp [h2, h3, h4, Dev.bit, hbank])

/-- The figures that an accepted command gives the agent (R236, R237). -/
def Dev.cmdFigures (d : Dev) (a : Agent) (p due : Nat) : Dev :=
  d.puts [(H.ticketNext p, d.get (H.ticketNext p) + 1), (F.PRT_CMD_LAST_TICKET p a.copy, d.get (H.ticketNext p)),
    (F.PRT_CMD_LAST_RESULT p a.copy, 0), (F.PRT_CMD_LAST_DL p a.copy, min (2 ^ 20 - 1) (cdiv (due - d.now) 6400))]

/-- An accepted command as it is queued (R236). -/
def Dev.cmdNew (d : Dev) (a : Agent) (p code param : Nat) : Cmd :=
  ⟨code, d.cmdParam p code param, d.get (F.PRT_CMD_ARG_ARG p a.copy), d.get (H.ticketNext p),
    d.cmdDeadline p ((cmdClass code).getD (0, 0)).1, false, false⟩

/-- What the acceptance of a command leaves: its figures, and its place behind those that wait. -/
def Dev.cmdAccept (d : Dev) (a : Agent) (p code param : Nat) : Dev :=
  let e := d.cmdFigures a p (d.cmdDeadline p ((cmdClass code).getD (0, 0)).1)
  (e.setCmds p (e.cmds p ++ [d.cmdNew a p code param])).arm (T.cmdStart p) 0

/-- What a refusal writes (R237). -/
def Dev.cmdRefuse (d : Dev) (a : Agent) (p r : Nat) : Dev :=
  (d.puts [(F.PRT_CMD_LAST_RESULT p a.copy, r), (F.PRT_CMD_LAST_DL p a.copy, 0)]).peEvt p (F.PRT_PE_EVT_CMDREF p)

/-- The tables of the commands and of the frames stand where a refusal is written. -/
theorem Dev.cmdRefuse_tables (d : Dev) (a : Agent) (p r : Nat) :
    (d.cmdRefuse a p r).cmdq = d.cmdq ∧ (d.cmdRefuse a p r).txq = d.txq := by
  simp [Dev.cmdRefuse, Dev.peEvt]

theorem Agent.copy_lt (a : Agent) : a.copy < 16 := by
  cases a <;> simp only [Agent.copy] <;> omega

/-- The register of a refused write (R237). -/
theorem Dev.cmdRefuse_reads (d : Dev) (a : Agent) {p r : Nat} (hp : p < 24) (hr : r ≤ 6) :
    (d.cmdRefuse a p r).get (F.PRT_CMD_LAST_RESULT p a.copy) = r ∧ (d.cmdRefuse a p r).get (F.PRT_CMD_LAST_DL p a.copy) = 0 ∧
      (d.cmdRefuse a p r).get (F.PRT_PE_EVT_CMDREF p) = 1 := by
  have hcopy := Agent.copy_lt a
  have hkept {f : Fld} (hq : f.quiet = true) (hne : f.key ≠ (F.PRT_PE_EVT_CMDREF p).key) (e : Dev) :
      (e.peEvt p (F.PRT_PE_EVT_CMDREF p)).get f = e.get f := e.event_get _ _ (peSource_lt hp _) hq hne
  refine ⟨?_, ?_, Dev.peEvt_self _ hp⟩
  · rw [Dev.cmdRefuse, hkept (by simp only [Fld.quiet_iff, fkey]; omega) (by simp only [fkey]; omega)]
    simp (disch := (simp only [fkey]; omega)) only [Dev.puts_cons, Dev.puts_nil, Dev.get_put_ne, Dev.get_put_self]
    omega
  · rw [Dev.cmdRefuse, hkept (by simp only [Fld.quiet_iff, fkey]; omega) (by simp only [fkey]; omega)]
    simp (disch := (simp only [fkey]; omega)) only [Dev.puts_cons, Dev.puts_nil, Dev.get_put_self]
    rfl

/-! ### An accepted command -/

/-- What the figures of an accepted command write beside its place in the queue. -/
def acceptFlds : List Fld := [H.ticketNext 0, F.PRT_CMD_LAST_TICKET 0 0, F.PRT_CMD_LAST_RESULT 0 0, F.PRT_CMD_LAST_DL 0 0]

section
variable (d : Dev) (a : Agent) {p : Nat} (hp : p < 24) (code param : Nat)
include hp

theorem Dev.cmdFigures_keeps (due : Nat) : Keeps d (d.cmdFigures a p due) acceptFlds := by
  have hcopy := Agent.copy_lt a
  exact .puts (.refl d _)

/-- The parameter is stored as the role at the write has it. -/
theorem Dev.cmdFigures_param (due : Nat) : (d.cmdFigures a p due).cmdParam p code param = d.cmdParam p code param := by
  rw [Dev.cmdParam, (d.cmdFigures_keeps a hp due).isSrc hp, Dev.cmdParam]

theorem Dev.cmdAccept_keeps : Keeps d (d.cmdAccept a p code param) (acceptFlds ++ [cmdMark, F.PRT_PE_STAT_QDEPTH 0, T.cmdStart 0]) :=
  .put (.andThen (d.cmdFigures_keeps a hp _).mono (Dev.setCmds_keeps _ hp _)) _

omit hp in
theorem Dev.setCmds_cmds (q : List Cmd) : (d.setCmds p q).cmds p = q := tget_tput_same _ _ _ _

/-- An accepted command stands behind those that waited. -/
theorem Dev.cmdAccept_cmds : (d.cmdAccept a p code param).cmds p = d.cmds p ++ [d.cmdNew a p code param] := by
  unfold Dev.cmdAccept
  dsimp only
  rw [(d.cmdFigures_keeps a hp _).cmds p, ((Keeps.refl _ [T.cmdStart 0]).arm 0).cmds p, Dev.setCmds_cmds]

omit hp in
theorem Dev.cmdQueue_refused (ha : a ≠ .tap) (hr : d.cmdResult a p code param (d.get (F.PRT_CMD_ARG_ARG p a.copy)) ≠ 0) :
    d.cmdQueue a p code param = d.cmdRefuse a p (d.cmdResult a p code param (d.get (F.PRT_CMD_ARG_ARG p a.copy))) := by
  unfold Dev.cmdQueue
  rw [if_neg ha]
  exact if_pos hr

theorem Dev.cmdQueue_accepted (ha : a ≠ .tap) (hr : d.cmdResult a p code param (d.get (F.PRT_CMD_ARG_ARG p a.copy)) = 0) :
    d.cmdQueue a p code param = d.cmdAccept a p code param := by
  unfold Dev.cmdQueue Dev.cmdAccept Dev.cmdNew
  rw [if_neg ha, ← d.cmdFigures_param a hp code param (d.cmdDeadline p ((cmdClass code).getD (0, 0)).1)]
  exact if_neg (by simp [hr])

theorem Dev.cmdAccept_reads : (d.cmdAccept a p code param).get (F.PRT_CMD_LAST_RESULT p a.copy) = 0 ∧
    (d.cmdAccept a p code param).get (F.PRT_CMD_LAST_TICKET p a.copy) = d.get (H.ticketNext p) ∧
    (d.cmdAccept a p code param).get (H.ticketNext p) = (d.get (H.ticketNext p) + 1) % 4096 := by
  have hcopy := Agent.copy_lt a
  have ht : d.get (H.ticketNext p) < 4096 := d.get_lt _
  have hkept {f : Fld} (hc : clearOf [cmdMark, F.PRT_PE_STAT_QDEPTH 0, T.cmdStart 0] f.fam = true) (e : Dev) (q : List Cmd) :
      ((e.setCmds p q).arm (T.cmdStart p) 0).get f = e.get f :=
    (Keeps.put (e.setCmds_keeps hp q).mono _).read f hc
  unfold Dev.cmdAccept Dev.cmdFigures
  dsimp only
  refine ⟨?_, ?_, ?_⟩ <;>
    rw [hkept (by simp (disch := omega) only [fam_hidden, fam_port]; decide +kernel)] <;>
    simp (disch := (simp only [fkey, hkey]; omega)) only [Dev.puts_cons, Dev.puts_nil, Dev.get_put_ne, Dev.get_put_self,
      Nat.reducePow, Nat.zero_mod, Nat.mod_eq_of_lt ht]

end

example (d : Dev) (a : Agent) : (d.cmdAccept a 3 1 0).get (H.await 3) = d.get (H.await 3) := (d.cmdAccept_keeps a (by decide) 1 0).get _

/-! ### The look of the scheduler (R238) -/

/-- The queue's own look: nothing but the tick of the next one. -/
theorem Dev.preemptArm_only (d : Dev) (p : Nat) : OnlyRegs d (d.preemptArm p) [T.cmdStart p] := by
  have hstep (q : List Cmd) (e : Dev) (h : OnlyRegs d e [T.cmdStart p]) : OnlyRegs d (q.foldl (fun e c =>
      if e.armed (T.cmdStart p) && decide (e.get (T.cmdStart p) ≤ e.lastStart c + 2) then e
      else e.put (T.cmdStart p) (max (e.lastStart c + 2) (e.now + 1))) e) [T.cmdStart p] := by
    induction q generalizing e with
    | nil => exact h
    | cons c q ih => exact ih _ (.ite h (h.put _ _ (by simp)))
  exact hstep _ d (.refl d _)

/-- A frame of the fields stands beside any queue of commands. -/
theorem OnlyRegs.withCmdq {d e : Dev} {l : List Fld} (h : OnlyRegs d e l) (q : Tab (List Cmd)) :
    OnlyRegs { d with cmdq := q } { e with cmdq := q } l :=
  ⟨h.1, congrArg (fun x : Dev => { x with cmdq := q }) h.2⟩

section
variable (d : Dev) {p : Nat} (hp : p < 24)
include hp

theorem Dev.preemptArm_keeps : Keeps d (d.preemptArm p) [T.cmdStart 0] := (d.preemptArm_only p).keeps

omit hp in
/-- With no command too late, none is PREEMPTED. -/
theorem Dev.cmdExpire_none (h : ∀ c ∈ d.unstarted p, d.now ≤ d.lastStart c) : d.cmdExpire p = d := by
  have hlate : (d.unstarted p).filter (fun c => decide (d.lastStart c < d.now)) = [] :=
    List.filter_eq_nil_iff.2 fun c hc => by simpa using h c hc
  unfold Dev.cmdExpire
  dsimp only
  rw [hlate]
  rfl

end

/-- What the last tick of a start goes by. -/
theorem Keeps.lastStart {d e : Dev} {l : List Fld} (h : Keeps d e l) (c : Cmd)
    (hm : clearOf l F.SYS_MODE_MODE.fam = true := by decide +kernel) (hs : clearOf l F.SYS_KINDLE_CTRL_STRETCH.fam = true := by decide +kernel) :
    e.lastStart c = d.lastStart c := by
  rw [Dev.lastStart, h.stretch hm hs]
  rfl

/-- Which commands have not started. -/
theorem Keeps.unstarted {d e : Dev} {l : List Fld} (h : Keeps d e l) {p : Nat} (hp : p < 24)
    (hq : clearOf l cmdMark.fam = true := by decide +kernel)
    (hr : clearOf l (H.cmdRun 0).fam = true := by decide +kernel) (hh : clearOf l (H.cmdHeld 0).fam = true := by decide +kernel) :
    e.unstarted p = d.unstarted p := by
  rw [Dev.unstarted, h.cmds p hq, Dev.bit, h.get (H.cmdRun p) (by simpa (disch := omega) only [fam_hidden] using hr), Dev.bit,
    h.get (H.cmdHeld p) (by simpa (disch := omega) only [fam_hidden] using hh)]
  rfl

example (d : Dev) : (d.preemptArm 3).unstarted 3 = d.unstarted 3 := (d.preemptArm_keeps (by decide)).unstarted (by decide)

/-! ### A write while an exchange is in progress -/

/-- The scheduler's look at an engaged port of which no command is too late: only its own next look. -/
theorem Dev.startNext_engaged {d : Dev} {p : Nat} (hp : p < 24) (hon : d.get (H.exOn p) = 1) (hheld : d.get (H.reqHeld p) = 0)
    (hlate : ∀ c ∈ d.unstarted p, d.now ≤ d.lastStart c) : d.startNext p = (d.stop (T.cmdStart p)).preemptArm p := by
  have hstop : Keeps d (d.stop (T.cmdStart p)) [T.cmdStart 0] := .stop (.refl d _)
  have hnone : (d.stop (T.cmdStart p)).cmdExpire p = d.stop (T.cmdStart p) := Dev.cmdExpire_none _ fun c hc => by
    rw [hstop.unstarted hp] at hc
    rw [hstop.now, hstop.lastStart c]
    exact hlate c hc
  have hreq : (d.stop (T.cmdStart p)).bit (H.reqHeld p) = false := by rw [Dev.bit, hstop.get (H.reqHeld p), hheld]; rfl
  have heng : (d.stop (T.cmdStart p)).engaged p = true := by
    have hbit : (d.stop (T.cmdStart p)).bit (H.exOn p) = true := by rw [Dev.bit, hstop.get (H.exOn p), hon]; rfl
    simp [Dev.engaged, Dev.busy, hbit]
  unfold Dev.startNext
  dsimp only
  rw [hnone, hreq, heng]
  simp

/-- Commands that waited, and the one that is new, of which none is too late. -/
theorem Dev.cmdAccept_inTime (d : Dev) (a : Agent) {p : Nat} (hp : p < 24) (code param : Nat)
    (hlate : ∀ c ∈ d.unstarted p, d.now ≤ d.lastStart c) :
    ∀ c ∈ (d.cmdAccept a p code param).unstarted p, (d.cmdAccept a p code param).now ≤ (d.cmdAccept a p code param).lastStart c := by
  have hacc := d.cmdAccept_keeps a hp code param
  have hnew : d.now ≤ d.lastStart (d.cmdNew a p code param) := by
    simp only [Dev.lastStart, Dev.cmdNew, Dev.cmdDeadline]
    omega
  intro c hc
  rw [hacc.now, hacc.lastStart c]
  rw [Dev.unstarted, d.cmdAccept_cmds a hp, Dev.bit, hacc.get (H.cmdRun p), Dev.bit, hacc.get (H.cmdHeld p), List.drop_append,
    List.filter_append, List.mem_append] at hc
  rcases hc with hc | hc
  · exact hlate c hc
  · obtain rfl := List.mem_singleton.1 (List.mem_of_mem_drop (List.mem_of_mem_filter hc))
    exact hnew

/-- The commands of R234 are the writes of their codes. -/
theorem exec_commands (a : Agent) (p : Fin 24) (param : BitVec 16) (k : BitVec 6) (s : State) :
    ∀ x ∈ [(Instr.getSrcCap a p param, 0x01), (.getSnkCap a p param, 0x02), (.getSrcCapExt a p param, 0x03),
      (.getSnkCapExt a p param, 0x04), (.getStatus a p param, 0x05), (.getBattCap a p param, 0x06),
      (.getBattStatus a p param, 0x07), (.getRevision a p param, 0x08), (.sendAlert a p param, 0x09),
      (.renegotiate a p param, 0x10), (.eprEnter a p param, 0x11), (.eprExit a p param, 0x12), (.prSwap a p param, 0x18),
      (.vconnSwap a p param, 0x19), (.softReset a p param, 0x1C), (.hardReset a p param, 0x1D), (.discover a p param, 0x20),
      (.enterMode a p param, 0x21), (.exitMode a p param, 0x22), (.hpmEnter a p param, 0x28), (.hpmExit a p param, 0x29),
      (.hpmCeiling a p param, 0x2A), (.hpmRecord a p param, 0x2B), (.hpmTelemetry a p param, 0x2C),
      (.cmdUnknownCode a p k param, k.toNat)], exec x.1 s = cmdOp x.2 a p param s := by
  simp only [List.forall_mem_cons]
  exact ⟨rfl, rfl, rfl, rfl, rfl, rfl, rfl, rfl, rfl, rfl, rfl, rfl, rfl, rfl, rfl, rfl, rfl, rfl, rfl, rfl, rfl, rfl, rfl, rfl, rfl,
    fun _ h => nomatch h⟩

section
variable {d : Dev} {a : Agent} {p code param : Nat}

/-- The TAP has no latches (R237). -/
theorem Dev.cmdWrite_tap : d.cmdWrite .tap p code param = d := by
  have hq : d.cmdQueue .tap p code param = d := if_pos rfl
  unfold Dev.cmdWrite
  dsimp only
  rw [hq]
  exact if_neg (Nat.lt_irrefl _)

theorem Dev.cmdWrite_refused {r : Nat} (ha : a ≠ .tap) (hr : r = d.cmdResult a p code param (d.get (F.PRT_CMD_ARG_ARG p a.copy)))
    (hne : r ≠ 0) : d.cmdWrite a p code param = d.cmdRefuse a p r := by
  subst hr
  unfold Dev.cmdWrite
  dsimp only
  rw [d.cmdQueue_refused a code param ha hne, Dev.cmds, Dev.cmds, (d.cmdRefuse_tables a p _).1]
  exact if_neg (Nat.lt_irrefl _)

theorem Dev.cmdWrite_accepted (hp : p < 24) (ha : a ≠ .tap) (hr : d.cmdResult a p code param (d.get (F.PRT_CMD_ARG_ARG p a.copy)) = 0) :
    d.cmdWrite a p code param = (d.cmdAccept a p code param).startNext p := by
  unfold Dev.cmdWrite
  dsimp only
  rw [d.cmdQueue_accepted a hp code param ha hr, d.cmdAccept_cmds a hp]
  exact if_pos (by simp)

end

/-- The queue of commands put back leaves a change of the fields. -/
theorem Dev.setCmds_arm_withCmdq (e : Dev) (p : Nat) (q : List Cmd) (t : Fld) (n : Nat) (x : Tab (List Cmd)) :
    { (e.setCmds p q).arm t n with cmdq := x } =
      ((({ e with cmdq := x } : Dev).put (F.PRT_PE_STAT_QDEPTH p) (queued q)).arm t n) := rfl

/-- A command accepted while an exchange is in progress waits behind the others. -/
theorem Dev.cmdAccept_queued {d : Dev} {a : Agent} {p : Nat} (hp : p < 24) (code param : Nat) (hon : d.get (H.exOn p) = 1)
    (hheld : d.get (H.reqHeld p) = 0) (hlate : ∀ c ∈ d.unstarted p, d.now ≤ d.lastStart c) :
    Keeps (d.cmdAccept a p code param) ((d.cmdAccept a p code param).startNext p) [T.cmdStart 0] ∧
      OnlyRegs d { (d.cmdAccept a p code param).startNext p with cmdq := d.cmdq } [F.PRT_CMD_LAST_RESULT p a.copy,
        F.PRT_CMD_LAST_TICKET p a.copy, F.PRT_CMD_LAST_DL p a.copy, H.ticketNext p, F.PRT_PE_STAT_QDEPTH p, T.cmdStart p] := by
  have hacc := d.cmdAccept_keeps a hp code param
  have hlook := Dev.startNext_engaged hp ((hacc.get (H.exOn p)).trans hon) ((hacc.get (H.reqHeld p)).trans hheld)
    (d.cmdAccept_inTime a hp code param hlate)
  have honly : OnlyRegs (d.cmdAccept a p code param) ((d.cmdAccept a p code param).startNext p) [T.cmdStart p] := by
    rw [hlook]
    exact ((OnlyRegs.refl _ _).put _ 0 (by simp)).trans (Dev.preemptArm_only _ p)
  refine ⟨honly.keeps, OnlyRegs.trans ?_ ((honly.withCmdq d.cmdq).mono (by simp))⟩
  have hfig : OnlyRegs d (d.cmdFigures a p (d.cmdDeadline p ((cmdClass code).getD (0, 0)).1)) [F.PRT_CMD_LAST_RESULT p a.copy,
      F.PRT_CMD_LAST_TICKET p a.copy, F.PRT_CMD_LAST_DL p a.copy, H.ticketNext p, F.PRT_PE_STAT_QDEPTH p, T.cmdStart p] :=
    (OnlyRegs.refl d _).puts _ (by simp)
  unfold Dev.cmdAccept
  dsimp only
  rw [Dev.setCmds_arm_withCmdq]
  exact ((hfig.withCmdq d.cmdq).put _ _ (by simp)).put _ _ (by simp)

example (d : Dev) : (d.preemptArm 3).get (H.await 3) = d.get (H.await 3) := (d.preemptArm_keeps (by decide)).get _

end Sys2Proof.Machine

/-!
O60, the turn of a command (R201-R203, R238): the scheduler's look at a port with nothing of its own in progress or wanted.
-/
namespace Sys2Proof.Machine

/-! ### Completion records (R239) -/

/-- What the completion of a command shows. -/
theorem Dev.cmdRecord_shows (d : Dev) {p : Nat} (hp : p < 24) (c : Cmd) (outcome : Nat) (ho : outcome < 16) :
    (d.cmdRecord p c outcome).get (F.PRT_CMD_DONE_TICKET p) = c.ticket % 4096 ∧
    (d.cmdRecord p c outcome).get (F.PRT_CMD_DONE_OUTCOME p) = (if c.late then 8 else outcome) ∧
    (d.cmdRecord p c outcome).get (F.PRT_CMD_DONE_CODE p) = c.code % 64 ∧
    (d.cmdRecord p c outcome).get (F.PRT_PE_EVT_CMDDONE p) = 1 := by
  have hch {e g : Dev} (h : Keeps e g [F.PRT_PE_EVT_PREEMPT 0, H.chRefused 0]) (k : Nat) (hk : k < 64) (ws : List Word) :
      Keeps e (if g.hwCredit k > 0 then g.hwEnqueue k ws else g.hwSet (H.chRefused k)) [F.PRT_PE_EVT_PREEMPT 0, H.chRefused 0] :=
    .ite (h.hwEnqueue ws hk) h.hwSet
  have hkept (e : Dev) (o : Nat) : Keeps e (if o = 5 then e.peEvt p (F.PRT_PE_EVT_PREEMPT p) else e)
      [F.PRT_PE_EVT_PREEMPT 0, H.chRefused 0] := .ite ((Keeps.refl e _).peEvt hp) (.refl e _)
  have hrest : ∃ e, e = (d.puts [(F.PRT_CMD_DONE_TICKET p, c.ticket), (F.PRT_CMD_DONE_OUTCOME p, if c.late then 8 else outcome),
      (F.PRT_CMD_DONE_CODE p, c.code)]).peEvt p (F.PRT_PE_EVT_CMDDONE p) ∧
      Keeps e (d.cmdRecord p c outcome) [F.PRT_PE_EVT_PREEMPT 0, H.chRefused 0] :=
    ⟨_, rfl, .ite (hch (hkept _ _) _ (Dev.get_lt _ _) _) (hkept _ _)⟩
  obtain ⟨e, rfl, hk⟩ := hrest
  have hevt (g : Dev) : Keeps g (g.peEvt p (F.PRT_PE_EVT_CMDDONE p)) [F.PRT_PE_EVT_CMDDONE 0] := (Keeps.refl g _).peEvt hp
  have hout : (if c.late then 8 else outcome) < 16 := by split <;> omega
  refine ⟨?_, ?_, ?_, (hk.get _).trans (Dev.peEvt_self _ hp)⟩ <;>
    rw [hk.get _, (hevt _).get _] <;>
    simp (disch := (simp only [fkey]; omega)) only [Dev.puts_cons, Dev.puts_nil, Dev.get_put_ne, Dev.get_put_self, Nat.reducePow]
  exact Nat.mod_eq_of_lt hout

/-- A completion record, and then a frame that leaves it. -/
theorem completed_of_record {d e g : Dev} {p : Nat} (hp : p < 24) {c : Cmd} {l : List Cmd} {outcome : Nat} (ho : outcome < 16)
    (hg : g = d.cmdRecord p c outcome) (hl : d.cmds p = l) {m : List Fld} (hk : Keeps g e m)
    (hm : [F.PRT_CMD_DONE_TICKET 0, F.PRT_CMD_DONE_OUTCOME 0, F.PRT_CMD_DONE_CODE 0, F.PRT_PE_EVT_CMDDONE 0,
      cmdMark].all (fun x => clearOf m x.fam) = true := by decide +kernel) : completed e p c l outcome := by
  subst hg
  simp only [List.all_cons, Bool.and_eq_true] at hm
  obtain ⟨ht, hout, hcode, hev, hq, -⟩ := hm
  obtain ⟨sticket, soutcome, scode, sdone⟩ := d.cmdRecord_shows hp c outcome ho
  refine ⟨(hk.cmds p hq).trans (((d.cmdRecord_keeps hp c outcome).cmds p).trans hl), (hk.get _ ?_).trans sticket,
    (hk.get _ ?_).trans soutcome, (hk.get _ ?_).trans scode, (hk.get _ ?_).trans sdone⟩ <;>
    simpa (disch := omega) only [fam_port]

example (d : Dev) (c : Cmd) : (d.cmdRecord 3 c 0).get (H.await 3) = d.get (H.await 3) := (d.cmdRecord_keeps (by decide) c 0).get _

/-! ### The look of the scheduler at a free port -/

/-- With nothing wanted, no want is dropped. -/
theorem Dev.wantPrune_none {d : Dev} {p : Nat} (h : d.get (H.want p) = 0) : d.wantPrune p = d := by
  have hbit (k : Nat) : d.getBit (H.want p) k = false := by rw [Dev.getBit, h, Nat.zero_testBit]
  have hseven : (d.getBit (H.want p) 7 && !d.ownValid p 7 && d.get (F.PRT_HPM_STAT_STATE p) == 1) = false := by simp [hbit]
  unfold Dev.wantPrune
  dsimp only
  rw [hseven, if_neg Bool.false_ne_true]
  refine Dev.forN_inv (P := (· = d)) rfl fun k _ e he => ?_
  subst he
  exact if_neg (by simp [hbit])

theorem Dev.firstWant_none {d : Dev} {p : Nat} (h : d.get (H.want p) = 0) : d.firstWant p = none := by
  have hbit (k : Nat) : d.getBit (H.want p) k = false := by rw [Dev.getBit, h, Nat.zero_testBit]
  simp [Dev.firstWant, hbit]

/-- What the look at a free port finds: nothing wanted, started, withdrawn or pending beside its queue. -/
structure Dev.Free (d : Dev) (p : Nat) : Prop where
  attached : d.attached p = true
  notBlaze : d.mode ≠ 2
  engaged : d.engaged p = false
  pe17 : d.pe p ≠ 17
  pe18 : d.pe p ≠ 18
  hpmPend : d.get (H.hpmPend p) = 0
  eprCond : d.eprCond p = false
  want : d.get (H.want p) = 0
  ceilCmdRun : d.get (H.ceilCmdRun p) = 0
  cmdHeld : d.get (H.cmdHeld p) = 0
  cmdRun : d.get (H.cmdRun p) = 0
  reqHeld : d.get (H.reqHeld p) = 0
  gcTo : d.get (H.gcTo p) ≤ d.now
  permitted : d.permitted p = true

theorem Dev.free_of_turnFree {d : Dev} {p : Nat} (h : d.turnFree p = true) : d.Free p := by
  simp only [Dev.turnFree, Dev.bit, Bool.and_eq_true, Bool.not_eq_true', bne_iff_ne, ne_eq, bne_eq_false_iff_eq, decide_eq_true_eq] at h
  obtain ⟨⟨⟨⟨⟨⟨⟨⟨⟨⟨⟨⟨⟨h1, h2⟩, h3⟩, h4⟩, h5⟩, h6⟩, h7⟩, h8⟩, h9⟩, h10⟩, h11⟩, h12⟩, h13⟩, h14⟩ := h
  exact ⟨h1, h5, h2, h3, h4, h6, h7, h8, h9, h10, h11, h12, h13, h14⟩

/-- What the scheduler writes before a start. -/
def lookFlds : List Fld := doneFlds ++ [cmdMark, F.PRT_PE_STAT_QDEPTH 0, T.cmdStart 0, H.eprArmed 0]

section
variable {d e : Dev} (h : Keeps d e lookFlds) {p : Nat} (hp : p < 24)
include h hp

theorem Keeps.look_eprCond : e.eprCond p = d.eprCond p := by
  have hobj : e.rxObj p 1 = d.rxObj p 1 := by simp only [Dev.rxObj, Dev.pstg, Dev.stgRead, h.stg]
  simp only [Dev.eprCond, h.isSnk hp, h.explicit hp, Dev.conKind, Dev.bit, Dev.epr, Dev.pd2, hobj, h.get (F.PRT_CONTRACT_KIND p),
    h.get (F.PRT_PE_CTRL_EPREN p), h.get (F.PRT_PE_STAT_VCSRC p), h.get (F.PRT_PE_STAT_EPR p), h.get (F.PRT_PE_STAT_REV p)]

theorem Keeps.look_permitted : e.permitted p = d.permitted p := by
  simp only [Dev.permitted, h.isSnk hp, Dev.pd3, h.get (F.PRT_PE_STAT_REV p), h.get (H.rpLevel p)]

theorem Dev.Free.keeps (hd : d.Free p) : e.Free p where
  attached := (h.attached hp).trans hd.attached
  notBlaze := by rw [Dev.mode, h.read F.SYS_MODE_MODE (by decide)]; exact hd.notBlaze
  engaged := (h.engaged hp).trans hd.engaged
  pe17 := by rw [Dev.pe, h.get (F.PRT_PE_STAT_STATE p)]; exact hd.pe17
  pe18 := by rw [Dev.pe, h.get (F.PRT_PE_STAT_STATE p)]; exact hd.pe18
  hpmPend := (h.get _).trans hd.hpmPend
  eprCond := (h.look_eprCond hp).trans hd.eprCond
  want := (h.get _).trans hd.want
  ceilCmdRun := (h.get _).trans hd.ceilCmdRun
  cmdHeld := (h.get _).trans hd.cmdHeld
  cmdRun := (h.get _).trans hd.cmdRun
  reqHeld := (h.get _).trans hd.reqHeld
  gcTo := by rw [h.get (H.gcTo p), h.now]; exact hd.gcTo
  permitted := (h.look_permitted hp).trans hd.permitted

end

/-- The choice of the next exchange at a free port: the head of its queue, or SinkTxOK. -/
theorem Dev.startOne_free {d : Dev} {p : Nat} (hp : p < 24) (h : d.Free p) : d.startOne p =
    if queued (d.cmds p) = 0 then (d.put (H.eprArmed p) 0).setRp p false else (d.put (H.eprArmed p) 0).cmdTurn p := by
  have hk : Keeps d (d.put (H.eprArmed p) 0) lookFlds := (Keeps.refl d _).put 0
  have hf := h.keeps hk hp
  have hcmds : (d.put (H.eprArmed p) 0).cmds p = d.cmds p := ((Keeps.refl d [H.eprArmed 0]).put 0).cmds p
  have hpm : (if d.bit (H.hpmPend p) then d.arm (T.hpmCond p) 0 else d) = d := if_neg (by simp [Dev.bit, h.hpmPend])
  have hepr : d.eprLook p = d.put (H.eprArmed p) 0 := if_pos (by simp [h.eprCond])
  have hask : ((d.put (H.eprArmed p) 0).askOut p || (d.put (H.eprArmed p) 0).bit (H.exOn p)) = false := by
    have := hf.engaged
    simp only [Dev.engaged, Dev.busy, Bool.or_eq_false_iff] at this
    simp [this]
  have hpend : (d.put (H.eprArmed p) 0).pendingOwn p = decide (queued (d.cmds p) ≠ 0) := by
    simp [Dev.pendingOwn, Dev.bit, hf.want, hf.cmdHeld, hf.cmdRun, hcmds, Nat.pos_iff_ne_zero]
  have hunheld : (d.put (H.eprArmed p) 0).cmdUnheld p = d.put (H.eprArmed p) 0 := if_neg (by simp [Dev.bit, hf.cmdHeld])
  unfold Dev.startOne
  dsimp only
  rw [hpm, hepr, hask, Dev.wantPrune_none hf.want, hpend, Dev.firstWant_none hf.want]
  dsimp only
  have hceil : (d.put (H.eprArmed p) 0).bit (H.ceilCmdRun p) = false := by simp [Dev.bit, hf.ceilCmdRun]
  have hrun : (d.put (H.eprArmed p) 0).bit (H.cmdRun p) = false := by simp [Dev.bit, hf.cmdRun]
  rw [hunheld, hf.permitted, hceil, hrun]
  by_cases hq : queued (d.cmds p) = 0 <;> simp [hq]

/-- The look of the scheduler at a free port of which no command is too late. -/
theorem Dev.startNext_free {d : Dev} {p : Nat} (hp : p < 24) (h : d.Free p) (hlate : ∀ c ∈ d.unstarted p, d.now ≤ d.lastStart c) :
    d.startNext p = ((d.stop (T.cmdStart p)).startOne p).preemptArm p := by
  have hk : Keeps d (d.stop (T.cmdStart p)) [T.cmdStart 0] := (Keeps.refl d _).stop
  have hf := h.keeps hk.mono hp
  have hnone : (d.stop (T.cmdStart p)).cmdExpire p = d.stop (T.cmdStart p) := Dev.cmdExpire_none _ fun c hc => by
    rw [hk.unstarted hp] at hc
    rw [hk.now, hk.lastStart c]
    exact hlate c hc
  unfold Dev.startNext
  dsimp only
  rw [hnone, hf.attached, Dev.bit, hf.reqHeld, hf.engaged]
  simp [hf.notBlaze, hf.pe17, hf.pe18, Nat.not_lt.2 hf.gcTo]

example (d : Dev) : (d.put (H.eprArmed 3) 0).permitted 3 = d.permitted 3 := Keeps.look_permitted ((Keeps.refl d _).put 0) (by decide)

/-! ### The turn of a query -/

/-- The codes of the queries that any partner may be asked, with the types of their messages (R234). -/
def queryRows : List (Nat × Nat) := [(0x01, 7), (0x02, 8), (0x03, 17), (0x04, 22), (0x05, 18)]

theorem queryRows_le : ∀ x ∈ queryRows, x.1 ≤ 5 := by decide

section
variable {d : Dev} {p : Nat} {c : Cmd} {l : List Cmd} {msg : Nat}

/-- What the query rows have in common: their message, and what they need. -/
theorem Dev.query_row (hq : (c.code, msg) ∈ queryRows) : d.cmdSend p c = (d.exBegin p true 50).txSop p msg [] 17 ∧
    d.cmdNeeds p c.code c.param = d.pdPartner p := by
  obtain ⟨code, param, arg, ticket, due, late, joined⟩ := c
  simp only [queryRows, List.mem_cons, Prod.mk.injEq, List.not_mem_nil, or_false] at hq
  rcases hq with ⟨rfl, rfl⟩ | ⟨rfl, rfl⟩ | ⟨rfl, rfl⟩ | ⟨rfl, rfl⟩ | ⟨rfl, rfl⟩ <;> exact ⟨rfl, rfl⟩

/-- A query goes out, behind the frames that wait. -/
theorem Dev.kindSend_query (hp : p < 24) (hcmds : d.cmds p = c :: l) (hq : (c.code, msg) ∈ queryRows) :
    d.sends (d.kindSend p 16) p ⟨0, msg, false, [], 17, 0⟩ ∧
      Keeps d (d.kindSend p 16) (exBeginFlds ++ txFlds) ∧ (d.kindSend p 16).bit (H.exOn p) = true := by
  have hbegin := d.exBegin_keeps hp true 50
  have hon : (d.exBegin p true 50).bit (H.exOn p) = true := by
    unfold Dev.exBegin
    split
    · assumption
    · simp (disch := (simp only [hkey]; omega)) only [Dev.bit, Dev.puts_cons, Dev.puts_nil, Dev.get_put_ne, Dev.get_put_self]
      rfl
  have htx := (d.exBegin p true 50).txSop_keeps hp msg [] 17
  have hsent : d.sends ((d.exBegin p true 50).txSop p msg [] 17) p ⟨0, msg, false, [], 17, 0⟩ := by
    have := (d.exBegin p true 50).tx_sends hp ⟨0, msg, false, [], 17, 0⟩
    rwa [Dev.sends, hbegin.txs p] at this
  have hnext (e : Dev) (n m : Nat) (b : Bool) (g : Dev) (hg : g = if b then e.put (H.exStart p) n else e) :
      Keeps e (if (g.txs p).isEmpty then g else g.put (H.firstKind p) m) [H.exStart 0, H.firstKind 0] := by
    subst hg
    have hs : Keeps e (if b then e.put (H.exStart p) n else e) [H.exStart 0, H.firstKind 0] := .ite (.put (.refl e _) n) (.refl e _)
    exact .ite hs (hs.put m)
  have hrest : Keeps (d.cmdSend p c) (d.kindSend p 16) [H.exStart 0, H.firstKind 0] := by
    unfold Dev.kindSend
    dsimp only
    rw [if_pos rfl, hcmds]
    exact hnext _ _ _ _ _ rfl
  rw [(Dev.query_row (d := d) (p := p) hq).1] at hrest
  refine ⟨(hrest.txs p).trans hsent, (hbegin.mono.andThen htx).trans hrest.mono, ?_⟩
  rw [Dev.bit, hrest.get (H.exOn p), htx.get (H.exOn p)]
  exact hon

/-- The head of the queue is looked at: it needs a PD partner, and then its collision avoidance begins. -/
theorem Dev.cmdTurn_query (hcmds : d.cmds p = c :: l) (hjoin : c.joined = false) (hq : (c.code, msg) ∈ queryRows) : d.cmdTurn p =
    if d.pdPartner p then ((d.set1 (H.cmdRun p)).put (T.cmdMiss p) (c.due + 1)).kindStart p 16 c.code else d.cmdDrop p 6 := by
  have hle : c.code ≤ 5 := queryRows_le _ hq
  unfold Dev.cmdTurn
  rw [hcmds]
  dsimp only
  rw [hjoin, (Dev.query_row hq).2, if_neg Bool.false_ne_true, if_neg (by omega : ¬ c.code = 0x18),
    if_neg (by omega : ¬ (c.code = 0x2A ∨ c.code = 0x1D))]
  cases d.pdPartner p <;> simp

/-- Collision avoidance of a query (R201, R203): SinkTxNG of a source at PD 3.x, a wait of a sink for the line, or the message at once. -/
theorem Dev.kindStart_query (hp : p < 24) (hq : (c.code, msg) ∈ queryRows) : d.kindStart p 16 c.code =
    if d.isSrc p && d.pd3 p then
      ((((d.put (H.ownAt p) d.now).setRp p true).put (H.ownWait p) 17).arm (T.sinkTx p) (msTicks 18))
    else if d.isSnk p && d.pd3 p && d.lineWait p != 0 then
      (((d.put (H.ownAt p) d.now).put (H.ownWait p) 17).arm (T.sinkTx p) (d.lineWait p))
    else (d.put (H.ownAt p) d.now).kindSend p 16 := by
  have hle : c.code ≤ 5 := queryRows_le _ hq
  have hoffer : (d.isSrc p && !d.hpmCon p && (16 == 0 || (16 == 16 && c.code == 0x10))) = false := by
    simp [show c.code ≠ 0x10 by omega]
  have hk : Keeps d (d.put (H.ownAt p) d.now) [H.ownAt 0] := (Keeps.refl d _).put _
  have hpd : (d.put (H.ownAt p) d.now).pd3 p = d.pd3 p := by simp only [Dev.pd3, hk.get (F.PRT_PE_STAT_REV p)]
  have hline : (d.put (H.ownAt p) d.now).lineWait p = d.lineWait p := by
    simp only [Dev.lineWait, Dev.armed, Dev.left, hk.get (T.lineFree p), hk.now]
    rfl
  unfold Dev.kindStart
  dsimp only
  rw [hoffer, hk.isSrc hp, hk.isSnk hp, hpd, hline]
  rfl

/-- Commands of which the first is no served swap's and the others are in time. -/
theorem Dev.unstarted_inTime {d : Dev} {p : Nat} {c : Cmd} {l : List Cmd} (hcmds : d.cmds p = c :: l)
    (hc : d.now ≤ d.lastStart c) (hl : ∀ x ∈ l, d.now ≤ d.lastStart x) : ∀ x ∈ d.unstarted p, d.now ≤ d.lastStart x := by
  intro x hx
  have hmem : x ∈ d.cmds p := List.mem_of_mem_drop (List.mem_of_mem_filter hx)
  rw [hcmds] at hmem
  rcases List.mem_cons.1 hmem with rfl | hmem
  · exact hc
  · exact hl x hmem

/-- The port as its command starts: the scheduler has looked, and the command counts as started. -/
def Dev.cmdLooked (d : Dev) (p : Nat) : Dev := (d.stop (T.cmdStart p)).put (H.eprArmed p) 0

theorem Dev.cmdLooked_keeps (hp : p < 24) : Keeps d (d.cmdLooked p) [T.cmdStart 0, H.eprArmed 0] := ((Keeps.refl d _).stop).put 0

/-- A command in time at a free port has its turn. -/
theorem Dev.startNext_turn (hp : p < 24) (h : d.Free p) (hcmds : d.cmds p = c :: l) (hjoin : c.joined = false)
    (hc : d.now ≤ d.lastStart c) (hl : ∀ x ∈ l, d.now ≤ d.lastStart x) :
    d.startNext p = ((d.cmdLooked p).cmdTurn p).preemptArm p := by
  have hk : Keeps d (d.stop (T.cmdStart p)) [T.cmdStart 0] := (Keeps.refl d _).stop
  rw [Dev.startNext_free hp h (Dev.unstarted_inTime hcmds hc hl), Dev.startOne_free hp (h.keeps hk.mono hp), hk.cmds p, hcmds,
    if_neg (by simp [queued, hjoin])]
  rfl

/-- The started query: it runs, and its deadline is watched. -/
def Dev.cmdRunning (d : Dev) (p : Nat) (c : Cmd) : Dev := ((d.cmdLooked p).set1 (H.cmdRun p)).put (T.cmdMiss p) (c.due + 1)

theorem Dev.cmdRunning_keeps (hp : p < 24) :
    Keeps d (d.cmdRunning p c) [T.cmdStart 0, H.eprArmed 0, H.cmdRun 0, T.cmdMiss 0] :=
  ((d.cmdLooked_keeps hp).mono.set1).put _

theorem Dev.cmdRunning_runs :
    (d.cmdRunning p c).get (H.cmdRun p) = 1 ∧ (d.cmdRunning p c).get (T.cmdMiss p) = (c.due + 1) % 2 ^ 64 := by
  unfold Dev.cmdRunning Dev.set1
  simp (disch := (simp only [hkey]; omega)) only [Dev.get_put_ne, Dev.get_put_self, and_true]
  rfl

/-- A query in time at a free port with a PD partner starts. -/
theorem Dev.startNext_query (hp : p < 24) (h : d.Free p) (hcmds : d.cmds p = c :: l) (hjoin : c.joined = false)
    (hc : d.now ≤ d.lastStart c) (hl : ∀ x ∈ l, d.now ≤ d.lastStart x) (hq : (c.code, msg) ∈ queryRows)
    (hrev : d.get (F.PRT_PE_STAT_REV p) ≠ 0) : d.startNext p = ((d.cmdRunning p c).kindStart p 16 c.code).preemptArm p := by
  have hk := d.cmdLooked_keeps hp
  have hpd : (d.cmdLooked p).pdPartner p = true := by
    simp [Dev.pdPartner, hk.attached hp, h.attached, hk.get (F.PRT_PE_STAT_REV p), hrev]
  rw [Dev.startNext_turn hp h hcmds hjoin hc hl, Dev.cmdTurn_query ((hk.cmds p).trans hcmds) hjoin hq, if_pos hpd]
  rfl

end

example (d : Dev) (c : Cmd) : (d.cmdRunning 3 c).get (H.await 3) = d.get (H.await 3) := (d.cmdRunning_keeps (by decide)).get _

end Sys2Proof.Machine

/-!
O60, what follows a command's turn: the starts of a query, the ends without one, tSinkTx, the ticket deadline and Contour's
renegotiation.
-/
namespace Sys2Proof.Machine

/-! ### The starts of a query -/

section
variable {d : Dev} {p : Nat} {c : Cmd} {l : List Cmd} {msg : Nat} (hp : p < 24) (h : d.Free p) (hcmds : d.cmds p = c :: l)
  (hjoin : c.joined = false) (hc : d.now ≤ d.lastStart c) (hl : ∀ x ∈ l, d.now ≤ d.lastStart x) (hq : (c.code, msg) ∈ queryRows)
include hp h hcmds hjoin hc hl hq

/-- A sink's query on a free line, or one at PD 2.0, goes out at once (R203). -/
theorem Dev.startNext_query_sent (hrev : d.get (F.PRT_PE_STAT_REV p) ≠ 0)
    (hnow : d.isSnk p = true ∧ d.lineWait p = 0 ∨ d.pd3 p = false) :
    (d.startNext p).get (H.cmdRun p) = 1 ∧ (d.startNext p).get (T.cmdMiss p) = (c.due + 1) % 2 ^ 64 ∧
      (d.startNext p).get (H.exOn p) = 1 ∧ (d.startNext p).cmds p = c :: l ∧
      d.sends (d.startNext p) p ⟨0, msg, false, [], 17, 0⟩ := by
  have hr := d.cmdRunning_keeps (c := c) hp
  have hat : Keeps d ((d.cmdRunning p c).put (H.ownAt p) (d.cmdRunning p c).now)
      [T.cmdStart 0, H.eprArmed 0, H.cmdRun 0, T.cmdMiss 0, H.ownAt 0] := hr.mono.put _
  have hstart : (d.cmdRunning p c).kindStart p 16 c.code =
      ((d.cmdRunning p c).put (H.ownAt p) (d.cmdRunning p c).now).kindSend p 16 := by
    rw [Dev.kindStart_query hp hq, hr.isSrc hp, hr.isSnk hp, hr.pd3 hp, hr.lineWait hp]
    rcases hnow with ⟨hsnk, hw⟩ | hpd
    · rw [if_neg (by simp [d.isSrc_of_isSnk hsnk]), if_neg (by simp [hw])]
    · rw [if_neg (by simp [hpd]), if_neg (by simp [hpd])]
  obtain ⟨hsend, hk, hon⟩ := Dev.kindSend_query hp ((hat.cmds p).trans hcmds) hq
  obtain ⟨hrun, hmiss⟩ := d.cmdRunning_runs (c := c) (p := p)
  rw [Dev.startNext_query hp h hcmds hjoin hc hl hq hrev, hstart]
  have hlook := Dev.preemptArm_keeps (((d.cmdRunning p c).put (H.ownAt p) (d.cmdRunning p c).now).kindSend p 16) hp
  have hrest := (hk.mono (m := T.cmdStart 0 :: (exBeginFlds ++ txFlds))).trans hlook.mono
  have hput : Keeps (d.cmdRunning p c) ((d.cmdRunning p c).put (H.ownAt p) (d.cmdRunning p c).now) [H.ownAt 0] := (Keeps.refl _ _).put _
  refine ⟨?_, ?_, ?_, ?_, ?_⟩
  · exact (hrest.get _).trans ((hput.get _).trans hrun)
  · exact (hrest.get _).trans ((hput.get _).trans hmiss)
  · exact (hlook.get _).trans (Dev.get_of_bit rfl hon)
  · rw [hrest.cmds, hat.cmds, hcmds]
  · rw [Dev.sends, hlook.txs, hsend, hat.txs]

/-- What a query shows that waits for the line (R201, R203). -/
theorem Dev.startNext_query_waits {g : Dev} {n : Nat} {m : List Fld} (hpd : d.pd3 p = true)
    (hg : Keeps (d.cmdRunning p c) g m)
    (hstart : (d.cmdRunning p c).kindStart p 16 c.code = (g.put (H.ownWait p) 17).arm (T.sinkTx p) n)
    (hm : clearOf m (H.cmdRun 0).fam = true := by decide +kernel) (hx : clearOf m frameMark.fam = true := by decide +kernel) :
    (d.startNext p).get (H.cmdRun p) = 1 ∧ (d.startNext p).get (H.ownWait p) = 17 ∧
      (d.startNext p).get (T.sinkTx p) = (d.now + n + 1) % 2 ^ 64 ∧ (d.startNext p).txs p = d.txs p ∧
      Keeps g (d.startNext p) [T.cmdStart 0, H.ownWait 0, T.sinkTx 0] := by
  have hr := d.cmdRunning_keeps (c := c) hp
  have hrev : d.get (F.PRT_PE_STAT_REV p) ≠ 0 := by
    simp only [Dev.pd3, beq_iff_eq] at hpd
    omega
  have hwait : Keeps g ((g.put (H.ownWait p) 17).arm (T.sinkTx p) n) [T.cmdStart 0, H.ownWait 0, T.sinkTx 0] := ((Keeps.refl g _).put 17).arm n
  have hlook := Dev.preemptArm_keeps ((g.put (H.ownWait p) 17).arm (T.sinkTx p) n) hp
  have hrest := hwait.trans hlook.mono
  rw [Dev.startNext_query hp h hcmds hjoin hc hl hq hrev, hstart]
  refine ⟨?_, ?_, ?_, ?_, hrest⟩
  · exact (hrest.get _).trans ((hg.get _ (by simpa (disch := omega) only [fam_hidden] using hm)).trans (d.cmdRunning_runs (c := c) (p := p)).1)
  · rw [hlook.get (H.ownWait p), Dev.arm]
    simp (disch := (simp only [hkey]; omega)) only [Dev.get_put_ne, Dev.get_put_self]
    rfl
  · rw [hlook.get (T.sinkTx p), Dev.arm, Dev.get_put_self, Dev.put_now, hg.now, hr.now]
  · rw [hrest.txs, hg.txs p hx, hr.txs]

/-- A source's query presents SinkTxNG first (R201). -/
theorem Dev.startNext_query_source (hsrc : d.isSrc p = true) (hpd : d.pd3 p = true) :
    (d.startNext p).get (H.cmdRun p) = 1 ∧ (d.startNext p).get (H.ownWait p) = 17 ∧
      (d.startNext p).get (F.PRT_PE_STAT_TXNG p) = 1 ∧ (d.startNext p).get (T.sinkTx p) = (d.now + 1152001) % 2 ^ 64 ∧
      (d.startNext p).txs p = d.txs p := by
  have hr := d.cmdRunning_keeps (c := c) hp
  have hat : Keeps (d.cmdRunning p c) ((d.cmdRunning p c).put (H.ownAt p) (d.cmdRunning p c).now) (H.ownAt 0 :: schedFlds) := (Keeps.refl _ _).put _
  have hng : (((d.cmdRunning p c).put (H.ownAt p) (d.cmdRunning p c).now).setRp p true).get (F.PRT_PE_STAT_TXNG p) = 1 := by
    rw [Dev.setRp, hat.isSrc hp, hr.isSrc hp, if_pos hsrc, Dev.puts_cons, Dev.puts_cons, Dev.puts_nil, Dev.get_put_self]
    rfl
  obtain ⟨hrun, hwait, htx, hsent, hk⟩ := Dev.startNext_query_waits hp h hcmds hjoin hc hl hq hpd (hat.andThen (Dev.setRp_keeps _ hp true))
    (n := msTicks 18) (by rw [Dev.kindStart_query hp hq, hr.isSrc hp, hr.pd3 hp, hsrc, hpd]; rfl)
  exact ⟨hrun, hwait, (hk.get _).trans hng, htx, hsent⟩

/-- A sink's query waits for the line (R203). -/
theorem Dev.startNext_query_sink (hsnk : d.isSnk p = true) (hpd : d.pd3 p = true) (hw : d.lineWait p ≠ 0) :
    (d.startNext p).get (H.cmdRun p) = 1 ∧ (d.startNext p).get (H.ownWait p) = 17 ∧
      (d.startNext p).get (T.sinkTx p) = (d.now + d.lineWait p + 1) % 2 ^ 64 ∧ (d.startNext p).txs p = d.txs p := by
  have hr := d.cmdRunning_keeps (c := c) hp
  have hat : Keeps (d.cmdRunning p c) ((d.cmdRunning p c).put (H.ownAt p) (d.cmdRunning p c).now) [H.ownAt 0] := (Keeps.refl _ _).put _
  obtain ⟨hrun, hwait, htx, hsent, -⟩ := Dev.startNext_query_waits hp h hcmds hjoin hc hl hq hpd hat (n := d.lineWait p) (by
    rw [Dev.kindStart_query hp hq, hr.isSrc hp, hr.isSnk hp, hr.pd3 hp, hr.lineWait hp, Dev.isSrc_of_isSnk hsnk, hsnk, hpd]
    simp [hw])
  exact ⟨hrun, hwait, htx, hsent⟩

end

example (d : Dev) (c : Cmd) : (d.cmdRunning 3 c).txs 3 = d.txs 3 := (d.cmdRunning_keeps (by decide)).txs 3

/-! ### Ends without a start -/

section
variable {d : Dev} {p : Nat} {c : Cmd} (hp : p < 24) (h : d.Free p) (hcmds : d.cmds p = [c]) (hjoin : c.joined = false)
include hp h hcmds hjoin

/-- The only command of a free port, too late, completes PREEMPTED (R238). -/
theorem Dev.startNext_late (hc : d.lastStart c < d.now) : completed (d.startNext p) p c [] 5 := by
  have hstop : Keeps d (d.stop (T.cmdStart p)) [T.cmdStart 0] := (Keeps.refl d _).stop
  have hun : (d.stop (T.cmdStart p)).unstarted p = [c] := by
    rw [hstop.unstarted hp, Dev.unstarted, hcmds]
    simp [Dev.bit, h.cmdRun, h.cmdHeld, hjoin]
  have hexp : (d.stop (T.cmdStart p)).cmdExpire p = ((d.stop (T.cmdStart p)).setCmds p []).cmdRecord p c 5 := by
    have hlate : decide ((d.stop (T.cmdStart p)).lastStart c < (d.stop (T.cmdStart p)).now) = true := by
      rw [hstop.now, hstop.lastStart c]
      exact decide_eq_true hc
    unfold Dev.cmdExpire
    dsimp only
    rw [hun, hstop.cmds, hcmds]
    simp [hlate]
  have hk : Keeps d (((d.stop (T.cmdStart p)).setCmds p []).cmdRecord p c 5) lookFlds :=
    ((hstop.mono.andThen (Dev.setCmds_keeps _ hp []))).andThen (Dev.cmdRecord_keeps _ hp c 5)
  have hf := h.keeps hk hp
  have hnone : (((d.stop (T.cmdStart p)).setCmds p []).cmdRecord p c 5).cmds p = [] := by
    rw [(Dev.cmdRecord_keeps _ hp c 5).cmds, Dev.setCmds_cmds]
  have hlook : d.startNext p = ((((d.stop (T.cmdStart p)).setCmds p []).cmdRecord p c 5).startOne p).preemptArm p := by
    unfold Dev.startNext
    dsimp only
    rw [hexp, hf.attached, Dev.bit, hf.reqHeld, hf.engaged]
    simp [hf.notBlaze, hf.pe17, hf.pe18, Nat.not_lt.2 hf.gcTo]
  rw [hlook, Dev.startOne_free hp hf, hnone, if_pos (by rfl : queued [] = 0)]
  have hrest : Keeps (((d.stop (T.cmdStart p)).setCmds p []).cmdRecord p c 5)
      ((((((d.stop (T.cmdStart p)).setCmds p []).cmdRecord p c 5).put (H.eprArmed p) 0).setRp p false).preemptArm p)
      (H.eprArmed 0 :: schedFlds) :=
    ((((Keeps.refl _ _).put 0).andThen (Dev.setRp_keeps _ hp false))).andThen (Dev.preemptArm_keeps _ hp)
  exact completed_of_record hp (by decide) rfl (Dev.setCmds_cmds _ _) hrest

end

/-- A query at a port without a PD partner completes ABORTED (R234, R238). -/
theorem Dev.startNext_noPartner {d : Dev} {p : Nat} {c : Cmd} {l : List Cmd} {msg : Nat} (hp : p < 24) (h : d.Free p)
    (hcmds : d.cmds p = c :: l) (hjoin : c.joined = false) (hc : d.now ≤ d.lastStart c) (hl : ∀ x ∈ l, d.now ≤ d.lastStart x)
    (hq : (c.code, msg) ∈ queryRows) (hrev : d.get (F.PRT_PE_STAT_REV p) = 0) : completed (d.startNext p) p c l 6 := by
  have hk := d.cmdLooked_keeps hp
  have hpd : (d.cmdLooked p).pdPartner p = false := by simp [Dev.pdPartner, hk.get (F.PRT_PE_STAT_REV p), hrev]
  have hdrop : (d.cmdLooked p).cmdDrop p 6 = ((((d.cmdLooked p).setCmds p l).puts [(H.swWaits p, 0), (H.swBack p, 0)]).cmdRecord
      p c 6).arm (T.cmdStart p) 0 := by
    rw [Dev.cmdDrop, hk.cmds, hcmds]
  have hswaps (e : Dev) : Keeps e (e.puts [(H.swWaits p, 0), (H.swBack p, 0)]) [H.swWaits 0, H.swBack 0] := .puts (.refl e _)
  rw [Dev.startNext_turn hp h hcmds hjoin hc hl, Dev.cmdTurn_query ((hk.cmds p).trans hcmds) hjoin hq, hpd, if_neg Bool.false_ne_true,
    hdrop]
  have hrest (e : Dev) : Keeps e ((e.arm (T.cmdStart p) 0).preemptArm p) [T.cmdStart 0] :=
    ((Keeps.refl e _).arm 0).andThen (Dev.preemptArm_keeps _ hp)
  exact completed_of_record hp (by decide) rfl (((hswaps _).cmds p).trans (Dev.setCmds_cmds _ _)) (hrest _)

/-- The look at a port that is not attached and has no commands. -/
theorem Dev.startNext_unattached {d : Dev} {p : Nat} (hp : p < 24) (hatt : d.attached p = false) (hcmds : d.cmds p = []) :
    d.startNext p = d.stop (T.cmdStart p) := by
  have hk : Keeps d (d.stop (T.cmdStart p)) [T.cmdStart 0] := (Keeps.refl d _).stop
  have hun : (d.stop (T.cmdStart p)).unstarted p = [] := by
    rw [hk.unstarted hp, Dev.unstarted, hcmds]
    simp
  unfold Dev.startNext
  dsimp only
  rw [Dev.cmdExpire_none _ (by simp [hun]), hk.attached hp, hatt, Bool.not_false, Bool.true_or, if_pos rfl, Dev.preemptArm, hun]
  rfl

example (d : Dev) : (d.cmdLooked 3).attached 3 = d.attached 3 := (d.cmdLooked_keeps (by decide)).attached (by decide)

/-! ### tSinkTx, the ticket deadline and Contour's renegotiation -/

/-- tSinkTx ends: the query that waited goes out (R201). -/
theorem Dev.sinkTxEnd_query {d : Dev} {p : Nat} {c : Cmd} {l : List Cmd} {msg : Nat} (hp : p < 24) (hcmds : d.cmds p = c :: l)
    (hq : (c.code, msg) ∈ queryRows) (hon : d.get (T.sinkTx p) ≠ 0) (hw : d.get (H.ownWait p) = 17) :
    (d.onExpiry (T.sinkTx p) (·.sinkTxEnd p)).get (H.ownWait p) = 0 ∧ (d.onExpiry (T.sinkTx p) (·.sinkTxEnd p)).get (T.sinkTx p) = 0 ∧
      d.sends (d.onExpiry (T.sinkTx p) (·.sinkTxEnd p)) p ⟨0, msg, false, [], 17, 0⟩ := by
  have hstop : Keeps d (d.stop (T.sinkTx p)) [T.sinkTx 0] := (Keeps.refl d _).stop
  have hput : Keeps (d.stop (T.sinkTx p)) ((d.stop (T.sinkTx p)).put (H.ownWait p) 0) [H.ownWait 0] := (Keeps.refl _ _).put 0
  have hend : d.onExpiry (T.sinkTx p) (·.sinkTxEnd p) = ((d.stop (T.sinkTx p)).put (H.ownWait p) 0).kindSend p 16 := by
    rw [Dev.onExpiry, if_pos (by simpa [Dev.armed] using hon), Dev.sinkTxEnd, hstop.get (H.ownWait p), hw]
    rfl
  obtain ⟨hsend, hk, -⟩ := Dev.kindSend_query hp ((hput.cmds p).trans ((hstop.cmds p).trans hcmds)) hq
  rw [hend]
  refine ⟨(hk.get _).trans (Dev.get_put_self _ _ _), (hk.get _).trans ((hput.get _).trans (Dev.get_put_self _ _ _)), ?_⟩
  rw [Dev.sends, hsend, hput.txs, hstop.txs]

/-- The ticket deadline of a started command (R240). -/
theorem Dev.cmdMissed_shows {d : Dev} {p : Nat} {c : Cmd} {l : List Cmd} (hp : p < 24) (hcmds : d.cmds p = c :: l)
    (hon : d.get (T.cmdMiss p) ≠ 0) (hrun : d.get (H.cmdRun p) = 1) :
    let e := d.onExpiry (T.cmdMiss p) (·.cmdMissed p)
    e.cmds p = { c with late := true } :: l ∧ e.get (T.cmdMiss p) = 0 ∧
      e.get F.FAB_DLM_COUNT = (d.get F.FAB_DLM_COUNT + 1) % 2 ^ F.FAB_DLM_COUNT.w ∧
      (d.get H.dlmTick ≠ d.now + 1 → e.get F.FAB_DLM_KIND = 1 ∧ e.get F.FAB_DLM_INDEX = p) := by
  have hstop : Keeps d (d.stop (T.cmdMiss p)) [T.cmdMiss 0] := (Keeps.refl d _).stop
  have hset := (d.stop (T.cmdMiss p)).setCmds_keeps hp ({ c with late := true } :: l)
  have hend : d.onExpiry (T.cmdMiss p) (·.cmdMissed p) =
      ((d.stop (T.cmdMiss p)).setCmds p ({ c with late := true } :: l)).dlMiss 1 p := by
    have hbit : (d.stop (T.cmdMiss p)).bit (H.cmdRun p) = true := by rw [Dev.bit, hstop.get (H.cmdRun p), hrun]; rfl
    rw [Dev.onExpiry, if_pos (by simpa [Dev.armed] using hon), Dev.cmdMissed, hstop.cmds, hcmds]
    dsimp only
    rw [hbit, Bool.true_or, if_pos rfl]
  have hmiss : Keeps ((d.stop (T.cmdMiss p)).setCmds p ({ c with late := true } :: l))
      (((d.stop (T.cmdMiss p)).setCmds p ({ c with late := true } :: l)).dlMiss 1 p) [] := (Keeps.refl _ _).dlMiss 1 p
  have hloud {f : Fld} (hf : f.ofMiss) : ((d.stop (T.cmdMiss p)).setCmds p ({ c with late := true } :: l)).get f = d.get f := by
    have hcmd (e : Dev) (q : List Cmd) : (e.setCmds p q).get f = e.get f :=
      (Dev.get_put_reg_ofMiss hf _ _ (by omega) (by decide) (by omega)).trans (Dev.get_of_regs rfl)
    exact (hcmd _ _).trans (Dev.get_put_hidden_ofMiss hf d 0 (by decide) (by omega))
  dsimp only
  rw [hend]
  obtain ⟨hcount, hshow⟩ := Dev.dlMiss_shows ((d.stop (T.cmdMiss p)).setCmds p ({ c with late := true } :: l)) (kind := 1) (index := p)
    (by decide) (by omega)
  refine ⟨?_, ?_, ?_, ?_⟩
  · rw [hmiss.cmds, Dev.setCmds_cmds]
  · exact (hmiss.get _).trans ((hset.get _).trans (Dev.get_put_self _ _ _))
  · rw [hcount, hloud (.inl (by decide))]
  · rw [hloud (.inr rfl), hset.now, hstop.now] at hshow
    exact hshow

/-- What Contour's renegotiation writes before a miss. -/
def renegFlds : List Fld := [T.reneg 0, H.reneg 0, H.renegUp 0, H.want 0, T.cmdStart 0]

/-- The renegotiation that Contour asked for is wanted. -/
def Dev.renegWanted (d : Dev) (p : Nat) : Dev :=
  let e := (d.stop (T.reneg p)).clr (H.reneg p)
  (if e.engaged p then e.put (H.renegUp p) 0 else e).wantOwn p 0

theorem Dev.contourReneg_asked {d : Dev} {p : Nat} (hp : p < 24) (hreneg : d.get (H.reneg p) = 1) : d.contourReneg p =
    if d.get (H.renegTin p) + 2 * d.stretch * 64000 < d.now then ((d.renegWanted p).budEvt F.BUD_EVT_LATE).dlMiss 3 0
    else d.renegWanted p := by
  have hk : Keeps d (d.stop (T.reneg p)) [T.reneg 0] := (Keeps.refl d _).stop
  unfold Dev.contourReneg
  dsimp only
  rw [Dev.bit, hk.get (H.reneg p), hreneg, hk.get (H.renegTin p), hk.stretch, hk.now]
  simp only [decide_eq_true_eq]
  rfl

section
variable (d : Dev) {p : Nat} (hp : p < 24)
include hp

theorem Dev.renegWanted_keeps : Keeps d (d.renegWanted p) renegFlds := by
  have hclr : Keeps d ((d.stop (T.reneg p)).clr (H.reneg p)) renegFlds := ((Keeps.refl d _).stop).clr
  exact (Keeps.ite (hclr.put 0) hclr).andThen (Dev.wantOwn_keeps _ hp 0)

theorem Dev.renegWanted_shows : (d.renegWanted p).get (H.reneg p) = 0 ∧ (d.renegWanted p).getBit (H.want p) 0 = true ∧
    (d.renegWanted p).get (T.cmdStart p) = (d.now + 1) % 2 ^ 64 ∧ (d.engaged p = true → (d.renegWanted p).get (H.renegUp p) = 0) := by
  have hclr : Keeps d ((d.stop (T.reneg p)).clr (H.reneg p)) [T.reneg 0, H.reneg 0] := ((Keeps.refl d _).stop).clr
  have hup (e : Dev) : Keeps e (if d.engaged p then e.put (H.renegUp p) 0 else e) [H.renegUp 0] := .ite ((Keeps.refl e _).put 0) (.refl e _)
  have hbit (e : Dev) : Keeps e (e.putBit (H.want p) 0 true) [H.want 0] := (Keeps.refl e _).put _
  have harm (e : Dev) : Keeps e (e.arm (T.cmdStart p) 0) [T.cmdStart 0] := (Keeps.refl e _).arm 0
  unfold Dev.renegWanted
  dsimp only
  rw [hclr.engaged hp]
  unfold Dev.wantOwn
  refine ⟨?_, ?_, ?_, fun heng => ?_⟩
  · exact ((harm _).get _).trans (((hbit _).get _).trans (((hup _).get _).trans (Dev.get_put_self _ _ _)))
  · rw [Dev.getBit, (harm _).get (H.want p)]
    exact (Dev.getBit_putBit _ _ _ _ (Nat.zero_lt_succ _)).trans (if_pos rfl)
  · rw [Dev.arm, Dev.get_put_self, (hbit _).now, (hup _).now, hclr.now]
  · rw [if_pos heng]
    exact ((harm _).get _).trans (((hbit _).get _).trans (Dev.get_put_self _ _ _))

/-- Late, it is a miss of kind 3 (R26, R364). -/
theorem Dev.renegLate_shows : Keeps (d.renegWanted p) (((d.renegWanted p).budEvt F.BUD_EVT_LATE).dlMiss 3 0) [F.BUD_EVT_LATE] ∧
    (((d.renegWanted p).budEvt F.BUD_EVT_LATE).dlMiss 3 0).get F.BUD_EVT_LATE = 1 ∧
    (d.get H.dlmTick ≠ d.now + 1 → (((d.renegWanted p).budEvt F.BUD_EVT_LATE).dlMiss 3 0).get F.FAB_DLM_KIND = 3 ∧
      (((d.renegWanted p).budEvt F.BUD_EVT_LATE).dlMiss 3 0).get F.FAB_DLM_INDEX = 0) := by
  have hevt : Keeps (d.renegWanted p) ((d.renegWanted p).budEvt F.BUD_EVT_LATE) [F.BUD_EVT_LATE] :=
    (Keeps.refl _ _).event (by decide) (by decide)
  have hmiss : Keeps ((d.renegWanted p).budEvt F.BUD_EVT_LATE) (((d.renegWanted p).budEvt F.BUD_EVT_LATE).dlMiss 3 0) [] :=
    (Keeps.refl _ _).dlMiss 3 0
  have htick : ((d.renegWanted p).budEvt F.BUD_EVT_LATE).get H.dlmTick = d.get H.dlmTick := by
    have hput (e : Dev) {n : Nat} {w r : Nat} (v : Nat) (hn : n ≠ 18) : (e.put (Fld.mk (hkey n p 2) w r) v).get H.dlmTick = e.get H.dlmTick :=
      Dev.get_put_hidden_ofMiss (.inr rfl) e v hn (by omega)
    refine (Dev.event_ofMiss (.inr rfl) _ _ (by decide) (by decide)).trans ?_
    unfold Dev.renegWanted Dev.wantOwn Dev.arm Dev.putBit Dev.clr Dev.stop
    dsimp only
    rw [hput _ _ (by decide), hput _ _ (by decide)]
    split
    · rw [hput _ _ (by decide), hput _ _ (by decide), hput _ _ (by decide)]
    · rw [hput _ _ (by decide), hput _ _ (by decide)]
  refine ⟨hevt.trans hmiss.mono, (hmiss.read _ (by decide)).trans (Dev.event_self _ _ _ (by decide) (by decide) rfl), fun h => ?_⟩
  exact (Dev.dlMiss_shows _ (by decide) (by decide)).2 (by rw [htick, hevt.now, (d.renegWanted_keeps hp).now]; exact h)

end

example (d : Dev) : (d.renegWanted 3).get (H.await 3) = d.get (H.await 3) := (d.renegWanted_keeps (by decide)).get _

end Sys2Proof.Machine

/-!
Settles O60, the commands of R234, clause by clause.
-/
namespace Sys2Proof.Machine

/-- A command that changes the device part as an agent's access does, and then further. -/
theorem EndsDev.of_accessed {c : Instr} {s u : State} {a : Agent} {g : Dev → Dev} {P : Dev → Prop}
    (hu : u = s.onDev (fun d => d.touch a)) (h : exec c s = .next (u.onDev g)) (hp : P (g u.dev)) : EndsDev c s P := by
  subst hu
  exact ⟨_, h, rfl, rfl, rfl, hp⟩

section
variable {s u : State} {a : Agent} {p : Fin 24} {param : BitVec 16} {code : Nat} {c : Instr}

/-- A write of a command, no detach before it (R237). -/
theorem exec_command (hc : exec c s = cmdOp code a p param s) (hu : u = s.onDev (fun d => d.touch a)) (hkeep : s.keepsPort p.val = true) :
    exec c s = .next (u.onDev (fun d => d.cmdWrite a p.val code param.toNat)) := by
  rw [hc, cmdOp, State.detachFirst_keepsPort hkeep, hu]
  rfl

/-- A refused write shows its RESULT (R237). -/
theorem command_refused (hx : exec c s = .next (u.onDev (fun d => d.cmdWrite a p.val code param.toNat)))
    (hu : u = s.onDev (fun d => d.touch a)) (ha : a ≠ .tap) {r : Nat}
    (hr : r = u.dev.cmdResult a p.val code param.toNat (u.dev.get (F.PRT_CMD_ARG_ARG p.val a.copy))) (hne : r ≠ 0) :
    EndsDev c s (fun e => e.get (F.PRT_CMD_LAST_RESULT p.val a.copy) = r ∧ e.get (F.PRT_CMD_LAST_DL p.val a.copy) = 0 ∧
      e.get (F.PRT_PE_EVT_CMDREF p.val) = 1 ∧ e.cmdq = u.dev.cmdq ∧ e.txq = u.dev.txq) := by
  have hle : r ≤ 6 := hr ▸ Dev.cmdResult_le _ _ _ _ _ _
  obtain ⟨hres, hdl, href⟩ := u.dev.cmdRefuse_reads a p.isLt hle
  refine .of_accessed hu hx ?_
  rw [Dev.cmdWrite_refused ha hr hne]
  exact ⟨hres, hdl, href, u.dev.cmdRefuse_tables a p.val r⟩

/-- A write accepted while an exchange is in progress (R236, R238). -/
theorem command_queued (hx : exec c s = .next (u.onDev (fun d => d.cmdWrite a p.val code param.toNat)))
    (hu : u = s.onDev (fun d => d.touch a)) (ha : a ≠ .tap)
    (hr : u.dev.cmdResult a p.val code param.toNat (u.dev.get (F.PRT_CMD_ARG_ARG p.val a.copy)) = 0)
    (hon : u.dev.get (H.exOn p.val) = 1) (hheld : u.dev.get (H.reqHeld p.val) = 0)
    (hlate : ∀ x ∈ u.dev.unstarted p.val, u.dev.now ≤ u.dev.lastStart x) :
    EndsDev c s (fun e => e.get (F.PRT_CMD_LAST_RESULT p.val a.copy) = 0 ∧
      e.get (F.PRT_CMD_LAST_TICKET p.val a.copy) = u.dev.get (H.ticketNext p.val) ∧
      e.get (H.ticketNext p.val) = (u.dev.get (H.ticketNext p.val) + 1) % 4096 ∧
      e.cmds p.val = u.dev.cmds p.val ++ [u.dev.cmdNew a p.val code param.toNat] ∧
      OnlyRegs u.dev { e with cmdq := u.dev.cmdq } [F.PRT_CMD_LAST_RESULT p.val a.copy, F.PRT_CMD_LAST_TICKET p.val a.copy,
        F.PRT_CMD_LAST_DL p.val a.copy, H.ticketNext p.val, F.PRT_PE_STAT_QDEPTH p.val, T.cmdStart p.val]) := by
  have hcopy := Agent.copy_lt a
  obtain ⟨hk, honly⟩ := Dev.cmdAccept_queued (a := a) p.isLt code param.toNat hon hheld hlate
  obtain ⟨hres, htick, hnext⟩ := u.dev.cmdAccept_reads a p.isLt code param.toNat
  refine .of_accessed hu hx ?_
  rw [Dev.cmdWrite_accepted p.isLt ha hr]
  exact ⟨(hk.get _).trans hres, (hk.get _).trans htick, (hk.get _).trans hnext,
    (hk.cmds p.val).trans (u.dev.cmdAccept_cmds a p.isLt code param.toNat), honly⟩

/-- An accepted command starts as cmdStart says (R238). -/
theorem command_accepted (hx : exec c s = .next (u.onDev (fun d => d.cmdWrite a p.val code param.toNat))) (ha : a ≠ .tap)
    (hr : u.dev.cmdResult a p.val code param.toNat (u.dev.get (F.PRT_CMD_ARG_ARG p.val a.copy)) = 0) :
    exec c s = .next (u.onDev (fun d => (d.cmdQueue a p.val code param.toNat).startNext p.val)) := by
  rw [hx, State.onDev, Dev.cmdWrite_accepted p.isLt ha hr, State.onDev, u.dev.cmdQueue_accepted a p.isLt code param.toNat ha hr]

end

section
variable {s : State} {p : Fin 24} (hcalm : s.calm p.val = true)
include hcalm

theorem exec_cmdStart : exec (.cmdStart p) s = .next (s.onDev (fun d => d.startNext p.val)) :=
  (show exec (.cmdStart p) s = s.okAt p.val (·.startNext p.val) from rfl).trans (State.okAt_calm _ hcalm)

theorem EndsDev.of_cmdStart {P : Dev → Prop} (h : P (s.dev.startNext p.val)) : EndsDev (.cmdStart p) s P :=
  .of_okAt (f := (·.startNext p.val)) rfl hcalm rfl h

/-- The turn of a query (R201-R203, R238). -/
theorem cmdStart_query {c : Cmd} {l : List Cmd} {msg : Nat} (h : s.dev.Free p.val) (hl : ∀ x ∈ l, s.dev.now ≤ s.dev.lastStart x)
    (hcmds : s.dev.cmds p.val = c :: l) (hjoin : c.joined = false) (hq : (c.code, msg) ∈ queryRows) :
    (s.dev.now ≤ s.dev.lastStart c → s.dev.get (F.PRT_PE_STAT_REV p.val) ≠ 0 →
      (s.dev.isSnk p.val = true ∧ s.dev.lineWait p.val = 0 ∨ s.dev.pd3 p.val = false) → EndsDev (.cmdStart p) s (fun e =>
        e.get (H.cmdRun p.val) = 1 ∧ e.get (T.cmdMiss p.val) = (c.due + 1) % 2 ^ 64 ∧ e.get (H.exOn p.val) = 1 ∧
        e.cmds p.val = c :: l ∧ s.dev.sends e p.val ⟨0, msg, false, [], 17, 0⟩)) ∧
    (s.dev.now ≤ s.dev.lastStart c → s.dev.isSrc p.val = true → s.dev.pd3 p.val = true →
      EndsDev (.cmdStart p) s (fun e => e.get (H.cmdRun p.val) = 1 ∧ e.get (H.ownWait p.val) = 17 ∧
        e.get (F.PRT_PE_STAT_TXNG p.val) = 1 ∧ e.get (T.sinkTx p.val) = (s.dev.now + 1152001) % 2 ^ 64 ∧
        e.txs p.val = s.dev.txs p.val)) ∧
    (s.dev.isSnk p.val = true → s.dev.pd3 p.val = true → s.dev.lineWait p.val ≠ 0 → s.dev.now ≤ s.dev.lastStart c →
      EndsDev (.cmdStart p) s (fun e => e.get (H.cmdRun p.val) = 1 ∧ e.get (H.ownWait p.val) = 17 ∧
        e.get (T.sinkTx p.val) = (s.dev.now + s.dev.lineWait p.val + 1) % 2 ^ 64 ∧ e.txs p.val = s.dev.txs p.val)) ∧
    (s.dev.lastStart c < s.dev.now → l = [] → EndsDev (.cmdStart p) s (fun e => completed e p.val c l 5)) ∧
    (s.dev.now ≤ s.dev.lastStart c → s.dev.get (F.PRT_PE_STAT_REV p.val) = 0 →
      EndsDev (.cmdStart p) s (fun e => completed e p.val c l 6)) := by
  refine ⟨fun hc hrev hnow => ?_, fun hc hsrc hpd => ?_, fun hsnk hpd hw hc => ?_, fun hc hnil => ?_, fun hc hrev => ?_⟩
  · exact .of_cmdStart hcalm (Dev.startNext_query_sent p.isLt h hcmds hjoin hc hl hq hrev hnow)
  · exact .of_cmdStart hcalm (Dev.startNext_query_source p.isLt h hcmds hjoin hc hl hq hsrc hpd)
  · exact .of_cmdStart hcalm (Dev.startNext_query_sink p.isLt h hcmds hjoin hc hl hq hsnk hpd hw)
  · subst hnil
    exact .of_cmdStart hcalm (Dev.startNext_late p.isLt h hcmds hjoin hc)
  · exact .of_cmdStart hcalm (Dev.startNext_noPartner p.isLt h hcmds hjoin hc hl hq hrev)

/-- A renegotiation request of Contour (R223). -/
theorem contourRenegotiation_ends (hreneg : s.dev.get (H.reneg p.val) = 1) : EndsDev (.contourRenegotiation p) s (fun e =>
    e.get (H.reneg p.val) = 0 ∧ e.getBit (H.want p.val) 0 = true ∧ e.get (T.cmdStart p.val) = (s.dev.now + 1) % 2 ^ 64 ∧
    (s.dev.engaged p.val = true → e.get (H.renegUp p.val) = 0) ∧
    (s.dev.get (H.renegTin p.val) + 2 * s.dev.stretch * 64000 < s.dev.now → s.dev.get H.dlmTick ≠ s.dev.now + 1 →
      e.get F.FAB_DLM_KIND = 3 ∧ e.get F.FAB_DLM_INDEX = 0 ∧ e.get F.BUD_EVT_LATE = 1)) := by
  obtain ⟨hasked, hwant, hstart, hup⟩ := s.dev.renegWanted_shows p.isLt
  obtain ⟨hk, hevt, hmiss⟩ := s.dev.renegLate_shows p.isLt
  refine .of_okAt (f := (·.contourReneg p.val)) rfl hcalm (Dev.contourReneg_asked p.isLt hreneg) ?_
  by_cases hlate : s.dev.get (H.renegTin p.val) + 2 * s.dev.stretch * 64000 < s.dev.now
  · rw [if_pos hlate]
    have hbit : (((s.dev.renegWanted p.val).budEvt F.BUD_EVT_LATE).dlMiss 3 0).getBit (H.want p.val) 0 = true := by
      rw [Dev.getBit, hk.get (H.want p.val)]
      exact hwant
    exact ⟨(hk.get _).trans hasked, hbit, (hk.get _).trans hstart, fun heng => (hk.get _).trans (hup heng),
      fun _ htick => ⟨(hmiss htick).1, (hmiss htick).2, hevt⟩⟩
  · rw [if_neg hlate]
    exact ⟨hasked, hwant, hstart, hup, fun h => absurd h hlate⟩

end

/-- Settles O60: the write goes through the result of R237, and what follows through the scheduler's look at a free port. -/
theorem portCommandsComplete : Obligations.PortCommandsComplete := by
  unfold Obligations.PortCommandsComplete
  refine ⟨?_, ?_, ?_, ?_, fun s p hcalm hreneg => contourRenegotiation_ends hcalm hreneg⟩
  · intro s a p param k c code hmem u hu hkeep hcalm
    have hx := exec_command (exec_commands a p param k s (c, code) hmem) hu hkeep
    refine ⟨fun r ha hr => ⟨fun hne => command_refused hx hu ha hr hne, fun h0 hon hheld hlate => ?_, fun h0 => ?_⟩, fun ha => ?_,
      fun hcls ha h2 h3 h4 hbank => ?_⟩
    · exact command_queued hx hu ha (hr ▸ h0) hon hheld hlate
    · exact ⟨command_accepted hx ha (hr ▸ h0), exec_cmdStart hcalm⟩
    · subst ha
      rw [hx, State.onDev, Dev.cmdWrite_tap]
    · obtain ⟨t, ht, hpend, hmem, hbad, hres, -⟩ := command_refused hx hu ha rfl (by rw [Dev.cmdResult_unknown hcls h2 h3 h4 hbank]; decide)
      exact ⟨t, ht, hpend, hmem, hbad, hres.trans (Dev.cmdResult_unknown hcls h2 h3 h4 hbank)⟩
  · intro s p hcalm hatt hcmds
    refine .of_cmdStart hcalm ?_
    rw [Dev.startNext_unattached p.isLt hatt hcmds]
    exact ⟨Dev.get_put_self _ _ _, (OnlyRegs.refl _ _).put _ 0 (by simp)⟩
  · intro s p c l msg hcalm hfree hl hcmds hjoin hq
    exact cmdStart_query hcalm (Dev.free_of_turnFree hfree) hl hcmds hjoin hq
  · intro s p c l hcalm hcmds
    refine ⟨fun msg hq hon hw => ?_, fun hon hrun => ?_⟩
    · exact .of_okAt (f := fun d => d.onExpiry (T.sinkTx p.val) (·.sinkTxEnd p.val)) rfl hcalm rfl (Dev.sinkTxEnd_query p.isLt hcmds hq hon hw)
    · exact .of_okAt (f := fun d => d.onExpiry (T.cmdMiss p.val) (·.cmdMissed p.val)) rfl hcalm rfl (Dev.cmdMissed_shows p.isLt hcmds hon hrun)

end Sys2Proof.Machine

/-!
Frames of what ends a port's exchanges and contract: Soft_Reset, Hard_Reset and ErrorRecovery (R171, R218, R219).
-/
namespace Sys2Proof.Machine

/-- What the end of an ask writes. -/
def askEndFlds : List Fld := [F.PRT_PE_STAT_ASKPEND 0, T.ask 0]

/-- What the end of EPR mode writes. -/
def eprEndFlds : List Fld := [F.PRT_PE_STAT_EPR 0, T.snkKeep 0, T.srcKeep 0, H.eprArmed 0, F.PRT_PE_EVT_EPRCHG 0]

/-- What the HPM timers and the steps of its sequence write. -/
def hpmTimerFlds : List Fld := [T.hpmOffer 0, T.hpmTrans 0, T.hpmReady 0, T.hpmRpt 0, T.vdmMode 0, H.hpmVerd 0, H.hpmWaits 0, H.hpmRepeat 0]

/-- What the end of HPM writes. -/
def hpmLeaveFlds : List Fld := hpmTimerFlds ++ segFlds 0 ++ [T.tpoll 0, H.hpmCmd 0, H.hpmProf 0, H.hpmHeld 0, F.PRT_HPM_STAT_STATE 0,
  H.ceilCmdRun 0, T.ownCeil 0, T.ceilEop 0, H.ceilWait 0, H.enterAck 0, H.hpmOn 0, F.PRT_HPM_CEIL_PCEIL 0, F.PRT_HPM_CEIL_CEIL 0,
  F.PRT_HPM_EVT_EXIT 0, T.identity 0, H.idHash 0, H.idValid 0]

/-- What the end of a swap writes. -/
def swapOverFlds : List Fld := [F.PRT_SWAP_STAT_STEP 0, F.PRT_SWAP_STAT_LASTEND 0, H.swAcc 0, H.keepLim 0, H.swWaits 0, H.swBack 0,
  F.PRT_SWAP_STAT_FAIL 0]

/-- What the end of the protocol timers writes. -/
def protoFlds : List Fld := [frameMark, T.rx 0, H.firstKind 0, T.senderResp 0, T.sinkTx 0, T.capsReady 0, T.sendCaps 0, T.waitCap 0,
  T.srcTrans 0, T.pgto 0, T.psTrans 0, T.sinkReq 0, T.enterEpr 0, T.chunk 0, T.psHr 0, T.safe0v 0, T.srcRec 0, T.bist 0, T.prWait 0,
  T.backOff 0, T.swGates 0, T.psOff 0, T.psOn 0, T.swVbs 0, T.swStart 0, T.vdmBusy 0, T.vdmResp 0, T.discId 0, T.vdmMode 0, T.pilot 0,
  T.hpmOffer 0, T.hpmTrans 0, T.hpmReady 0, T.hpmRpt 0, H.await 0, H.exOn 0, H.exOwn 0, H.ownWait 0, H.want 0, H.waits 0, H.vdmWhat 0,
  H.hrPhase 0, H.offerDue 0, H.vs5req 0, H.bist 0, H.hpmVerd 0, H.hpmRepeat 0, H.xferOn 0, H.xferKind 0, H.settleOn 0, T.ramp 0,
  H.exAns 0, H.psDone 0, H.rampReq 0, H.reqHeld 0, H.bistData 0, H.swAns 0, T.hrDone 0]

/-- What the end of a resumption writes. -/
def resumeFlds : List Fld := contourFlds ++ [F.PRT_ATT_STAT_STATE 0, F.BUDP_STAT_PART 0, H.budNoCap 0, H.resume 0, T.pdDb 0]

section
variable (d : Dev) {p : Nat} (hp : p < 24)
include hp

theorem Dev.askCancel_keeps : Keeps d (d.askCancel p) askEndFlds := .puts (.refl d _)

theorem Dev.eprEnd_keeps : Keeps d (d.eprEnd p) eprEndFlds := .ite (.peEvt (.puts (.refl d _)) hp) (.refl d _)

theorem Dev.identityClear_keeps : Keeps d (d.identityClear p) (segFlds 0 ++ [T.identity 0, H.idHash 0, H.idValid 0]) := by
  have hrec : Keeps d { d with idrec := tput [] d.idrec p [] } (segFlds 0 ++ [T.identity 0, H.idHash 0, H.idValid 0]) :=
    ⟨rfl, rfl, fun _ => rfl, fun _ => rfl, fun _ _ => rfl⟩
  exact .ite (.andThen (.puts hrec.stop) (Dev.segClose_keeps _ hp 4 true)) hrec.stop

theorem Dev.hpmLeave_keeps : Keeps d (d.hpmLeave p) hpmLeaveFlds := by
  have hoff : Keeps d (d.puts [(T.hpmOffer p, 0), (T.hpmTrans p, 0), (T.hpmReady p, 0), (T.hpmRpt p, 0), (T.vdmMode p, 0),
    (T.tpoll p, 0), (H.hpmCmd p, 0), (H.hpmProf p, 0), (H.hpmHeld p, 0), (H.hpmRepeat p, 0), (H.hpmVerd p, 0),
    (F.PRT_HPM_STAT_STATE p, 0), (H.hpmWaits p, 0), (H.ceilCmdRun p, 0), (T.ownCeil p, 0), (T.ceilEop p, 0), (H.ceilWait p, 0),
    (H.enterAck p, 0)]) hpmLeaveFlds := .puts (.refl d _)
  unfold Dev.hpmLeave
  dsimp only
  refine .ite (.andThen ?_ (Dev.identityClear_keeps _ hp)) hoff
  exact hoff.puts.hpmEvt hp

theorem Dev.swapOver_keeps (last : Nat) : Keeps d (d.swapOver p last) swapOverFlds := by
  have hset : Keeps d (d.puts [(F.PRT_SWAP_STAT_STEP p, 0), (F.PRT_SWAP_STAT_LASTEND p, last), (H.swAcc p, 0), (H.keepLim p, 0),
    (H.swWaits p, 0), (H.swBack p, 0)]) swapOverFlds := .puts (.refl d _)
  exact .ite (hset.swapEvt hp) hset

example (d : Dev) : (d.hpmLeave 3).get (H.await 3) = d.get (H.await 3) := (d.hpmLeave_keeps (by decide)).get _

theorem Dev.protoOff_keeps : Keeps d (d.protoOff p) protoFlds := by
  have hclear : Keeps d (d.txClear p) protoFlds := .put (.put (d.setTxs_keeps []).mono 0) 0
  unfold Dev.protoOff
  exact hclear.puts

theorem Dev.vconnOff_keeps : Keeps d (d.vconnOff p) [F.PRT_ATT_STAT_VCONNON 0, F.PRT_PE_STAT_VCSRC 0, H.padVcon 0] := .puts (.refl d _)

theorem Dev.resumeEnd_keeps : Keeps d (d.resumeEnd p) resumeFlds := by
  have hset : Keeps d ((d.attSet p (if d.bit (H.grdSink p) then 3 else 8)).clr (H.resume p)) resumeFlds :=
    .put (d.attSet_keeps hp _).mono 0
  exact .ite (.ite (hset.put _) hset) (.put (.refl d _) 0)

end

/-! ### Hard_Reset (R219) -/

/-- What a Hard_Reset writes beside what its parts write. -/
def hardOwnFlds : List Fld := [H.firstCon 0, H.ptnDone 0, H.hpmNo 0, H.vsafe5 0, H.snkMask 0, H.maskEnd 0, F.PRT_PE_STAT_HRCNT 0,
  F.PRT_PE_EVT_HARDRST 0, F.PRT_PE_STAT_STATE 0]

/-- What a Hard_Reset writes. -/
def hardFlds : List Fld := hardOwnFlds ++ resumeFlds ++ askEndFlds ++ conFlds ++ voidFlds ++ eprEndFlds ++ hpmLeaveFlds ++ cmdFlds ++
  swapOverFlds ++ protoFlds ++ midFlds ++ schedFlds ++ exBeginFlds

section
variable (d : Dev) {p : Nat} (hp : p < 24)
include hp

/-- The modes and a swap that end with a Hard_Reset. -/
def Dev.hardModes (d : Dev) (p : Nat) : Dev :=
  let d := (d.eprEnd p).hpmLeave p
  if d.bit (F.PRT_SWAP_STAT_STEP p) then (d.cmdJoined p (some 6)).swapOver p 6 else d

/-- The contract that ends with it. -/
def Dev.hardVoid (d : Dev) (p : Nat) : Dev := (d.askCancel p).conVoid p false

/-- The protocol that ends with it, its count, and its start. -/
def Dev.hardOn (d : Dev) (p : Nat) : Dev :=
  (((((d.protoOff p).midReset p).puts [(H.firstCon p, 0), (H.ptnDone p, 0), (H.hpmNo p, 0), (H.vsafe5 p, 0),
    (H.snkMask p, 2 * b2n (d.isSnk p)), (H.maskEnd p, 0),
    (F.PRT_PE_STAT_HRCNT p, min 3 (d.get (F.PRT_PE_STAT_HRCNT p) + 1))]).setRp p false).exBegin p true 1800).setPe p 17

omit hp in
/-- The commands that end are those of the state before. -/
theorem Dev.hardResetCommon_eq : d.hardResetCommon p =
    ((if (d.resumeEnd p).bit (H.cmdRun p) && (((d.resumeEnd p).cmds p).map (·.code)).headD 0 == 0x1D then ((d.resumeEnd p).hardVoid p).hardModes p
      else ((((d.resumeEnd p).hardVoid p).hardModes p).cmdUnheld p).cmdEnd p 6).hardOn p).peEvt p (F.PRT_PE_EVT_HARDRST p) := by
  unfold Dev.hardResetCommon Dev.hardModes Dev.hardVoid Dev.hardOn
  rfl

theorem Dev.hardVoid_keeps : Keeps d (d.hardVoid p) (askEndFlds ++ conFlds ++ voidFlds) :=
  .andThen (d.askCancel_keeps hp).mono (Dev.conVoid_keeps _ hp false)

theorem Dev.hardModes_keeps : Keeps d (d.hardModes p) (eprEndFlds ++ hpmLeaveFlds ++ cmdFlds ++ swapOverFlds) := by
  have hleave : Keeps d ((d.eprEnd p).hpmLeave p) (eprEndFlds ++ hpmLeaveFlds ++ cmdFlds ++ swapOverFlds) :=
    .andThen (d.eprEnd_keeps hp).mono (Dev.hpmLeave_keeps _ hp)
  unfold Dev.hardModes
  dsimp only
  exact .ite (.andThen (.andThen hleave (Dev.cmdJoined_keeps _ hp 6)) (Dev.swapOver_keeps _ hp 6)) hleave

theorem Dev.hardOn_keeps : Keeps d (d.hardOn p) (hardOwnFlds ++ protoFlds ++ midFlds ++ schedFlds ++ exBeginFlds) := by
  have hoff : Keeps d ((d.protoOff p).midReset p) (hardOwnFlds ++ protoFlds ++ midFlds ++ schedFlds ++ exBeginFlds) :=
    .andThen (d.protoOff_keeps hp).mono (Dev.midReset_keeps _ hp)
  unfold Dev.hardOn
  exact .put (.andThen (.andThen hoff.puts (Dev.setRp_keeps _ hp false)) (Dev.exBegin_keeps _ hp true 1800)) 17

omit hp in
example (d : Dev) : (d.hardOn 3).get (H.pg 3) = d.get (H.pg 3) := (d.hardOn_keeps (by decide)).get _

/-- What follows the end of the contract in a Hard_Reset. -/
def hardRestFlds : List Fld := hardOwnFlds ++ eprEndFlds ++ hpmLeaveFlds ++ cmdFlds ++ swapOverFlds ++ protoFlds ++ midFlds ++ schedFlds ++
  exBeginFlds

theorem Dev.hardRest_keeps {e : Dev} (h : Keeps d e hardRestFlds) (c : Prop) [Decidable c] :
    Keeps d (if c then e.hardModes p else ((e.hardModes p).cmdUnheld p).cmdEnd p 6) hardRestFlds := by
  have hmodes : Keeps d (e.hardModes p) hardRestFlds := .andThen h (Dev.hardModes_keeps _ hp)
  exact .ite hmodes (.andThen (.andThen hmodes (Dev.cmdUnheld_keeps _ hp)) (Dev.cmdEnd_keeps _ hp 6))

theorem Dev.hardResetCommon_keeps : Keeps d (d.hardResetCommon p) hardFlds := by
  have hvoid : Keeps d ((d.resumeEnd p).hardVoid p) hardFlds := .andThen (d.resumeEnd_keeps hp).mono (Dev.hardVoid_keeps _ hp)
  rw [Dev.hardResetCommon_eq]
  exact .peEvt (.andThen (.andThen hvoid (Dev.hardRest_keeps _ hp (.refl _ _) _)) (Dev.hardOn_keeps _ hp)) hp

/-- What a Hard_Reset shows, sent or received. -/
theorem Dev.hardResetCommon_shows : (d.hardResetCommon p).pe p = 17 ∧ (d.hardResetCommon p).get (F.PRT_PE_EVT_HARDRST p) = 1 ∧
    (d.hardResetCommon p).get (F.PRT_CONTRACT_VALID p) = 0 ∧
    (d.hardResetCommon p).get (F.PRT_PE_STAT_HRCNT p) = min 3 (d.get (F.PRT_PE_STAT_HRCNT p) + 1) := by
  have hvoid : Keeps d ((d.resumeEnd p).hardVoid p) (resumeFlds ++ askEndFlds ++ conFlds ++ voidFlds) :=
    .andThen (d.resumeEnd_keeps hp).mono (Dev.hardVoid_keeps _ hp)
  have hrest (c : Prop) [Decidable c] := Dev.hardRest_keeps ((d.resumeEnd p).hardVoid p) hp (.refl _ _) c
  have hmod (c : Prop) [Decidable c] : Keeps ((d.resumeEnd p).hardVoid p) (if c then ((d.resumeEnd p).hardVoid p).hardModes p
      else ((((d.resumeEnd p).hardVoid p).hardModes p).cmdUnheld p).cmdEnd p 6)
      (eprEndFlds ++ hpmLeaveFlds ++ cmdFlds ++ swapOverFlds) :=
    .ite (Dev.hardModes_keeps _ hp) (.andThen (.andThen (Dev.hardModes_keeps _ hp).mono (Dev.cmdUnheld_keeps _ hp)) (Dev.cmdEnd_keeps _ hp 6))
  have hevt (e : Dev) : Keeps e (e.peEvt p (F.PRT_PE_EVT_HARDRST p)) [F.PRT_PE_EVT_HARDRST 0] := (Keeps.refl e _).peEvt hp
  have hcnt (e : Dev) : (e.hardOn p).get (F.PRT_PE_STAT_HRCNT p) = min 3 (e.get (F.PRT_PE_STAT_HRCNT p) + 1) := by
    have hset (g : Dev) : Keeps g (((g.setRp p false).exBegin p true 1800).setPe p 17)
        (schedFlds ++ exBeginFlds ++ [F.PRT_PE_STAT_STATE 0]) :=
      .put (.andThen (g.setRp_keeps hp false).mono (Dev.exBegin_keeps _ hp true 1800)) 17
    unfold Dev.hardOn
    refine ((hset _).get _).trans ?_
    simp (disch := (simp only [fkey, hkey]; omega)) only [Dev.puts_cons, Dev.puts_nil, Dev.get_put_self]
    omega
  rw [Dev.hardResetCommon_eq]
  refine ⟨?_, Dev.peEvt_self _ hp, ?_, ?_⟩
  · rw [Dev.pe, (hevt _).get (F.PRT_PE_STAT_STATE p)]
    exact Dev.get_put_self _ _ _
  · exact ((hevt _).get _).trans (((Dev.hardOn_keeps _ hp).get _).trans (((hrest _).get _).trans (Dev.conVoid_void _ hp false)))
  · exact ((hevt _).get _).trans ((hcnt _).trans (by rw [(hmod _).get (F.PRT_PE_STAT_HRCNT p), hvoid.get (F.PRT_PE_STAT_HRCNT p)]))

theorem Dev.hardReset_keeps : Keeps d (d.hardReset p) hardFlds :=
  .ite (.put (.put (d.hardResetCommon_keeps hp) 1) _) (.refl d _)

/-- A Hard_Reset begins at an attached port, and what came before it kept its count. -/
theorem Dev.hardReset_begun {e : Dev} {l : List Fld} (h : Keeps d e l) (hatt : e.attached p = true)
    (hc : clearOf l (F.PRT_PE_STAT_HRCNT 0).fam = true := by decide +kernel) : hardResetBegun d (e.hardReset p) p := by
  obtain ⟨hpe, hevt, hvoid, hcnt⟩ := e.hardResetCommon_shows hp
  have hend : Keeps (e.hardResetCommon p) (((e.hardResetCommon p).put (H.hrPhase p) 1).arm (T.hrDone p) 288000) [H.hrPhase 0, T.hrDone 0] :=
    ((Keeps.refl _ _).put 1).arm _
  rw [Dev.hardReset, if_pos hatt]
  refine ⟨?_, ?_, (hend.get _).trans hevt, (hend.get _).trans hvoid, (hend.get _).trans ?_, ?_⟩
  · rw [Dev.arm]
    simp (disch := (simp only [hkey]; omega)) only [Dev.get_put_ne, Dev.get_put_self]
    rfl
  · rw [Dev.pe, hend.get (F.PRT_PE_STAT_STATE p)]
    exact hpe
  · rw [hcnt, h.get (F.PRT_PE_STAT_HRCNT p) (by simpa (disch := omega) only [fam_port] using hc)]
  · rw [Dev.arm, Dev.get_put_self, Dev.put_now, (e.hardResetCommon_keeps hp).now, h.now]

end

example (d : Dev) : (d.hardReset 3).get (H.pg 3) = d.get (H.pg 3) := (d.hardReset_keeps (by decide)).get _

/-! ### ErrorRecovery (R171) -/

/-- What the last steps of the end of a port write. -/
def portOverFlds : List Fld := cmdFlds ++ protoFlds ++ [F.PRT_ATT_STAT_VCONNON 0, F.PRT_PE_STAT_VCSRC 0, H.padVcon 0, H.firstCon 0,
  H.ptnDone 0, H.cblDone 0, H.hpmNo 0, H.pilot 0, H.reneg 0, T.reneg 0, T.noResp 0, H.resume 0, F.PRT_PE_STAT_TXNG 0,
  F.PRT_ATT_STAT_RPOWN 0, H.vexp 0, H.snkMask 0, H.vcsOff 0, H.vcsTry 0, H.eprArmed 0, H.hpmPend 0, H.vsafe5 0, T.hpmCond 0,
  F.PRT_PE_STAT_STATE 0]

/-- What ErrorRecovery writes after the end of a swap. -/
def errFlds : List Fld := portOverFlds ++ stopFlds ++ xferFlds ++ isetFlds ++ contourFlds ++ [F.PRT_ATT_STAT_STATE 0, F.BUDP_STAT_PART 0,
  H.budNoCap 0, H.ccSettle 0, H.rpDue 0, T.toggle 0, T.rest 0, T.ccDb 0, T.pdDb 0, T.drpTry 0, T.tryDb 0, T.errRec 0,
  F.PRT_ATT_STAT_ORIENT 0, F.PRT_ATT_STAT_RAPRES 0, H.detaching 0]

/-- What it writes before. -/
def errVoidFlds : List Fld := midFlds ++ askEndFlds ++ conFlds ++ voidFlds ++ eprEndFlds ++ hpmLeaveFlds ++ cmdFlds

section
variable (d : Dev) {p : Nat} (hp : p < 24)
include hp

theorem Dev.portOver_keeps (swapCode : Nat) (acc : Bool) : Keeps d (d.portOver p swapCode acc) portOverFlds := by
  have hcmd : Keeps d (if acc && swapCode == 11 then d.cmdEnd p 7 else d) portOverFlds := .ite (d.cmdEnd_keeps hp 7).mono (.refl d _)
  have hoff : Keeps d ((((if acc && swapCode == 11 then d.cmdEnd p 7 else d).cmdAbortAll p).protoOff p).vconnOff p) portOverFlds :=
    .andThen (.andThen (.andThen hcmd (Dev.cmdAbortAll_keeps _ hp)) (Dev.protoOff_keeps _ hp)) (Dev.vconnOff_keeps _ hp)
  unfold Dev.portOver
  exact .put hoff.puts 0

theorem Dev.attTimersOff_keeps : Keeps d (d.attTimersOff p) errFlds := .puts (.refl d _)

/-- The end of the protocol's own parts, in an accepted swap with the swap's. -/
theorem Dev.portEnd_swap (swapCode : Nat) (hacc : d.bit (H.swAcc p) = true) :
    ∃ e, Keeps d e errVoidFlds ∧ d.portEnd p swapCode = (e.swapOver p swapCode).portOver p swapCode true := by
  have hmid : (d.midReset p).bit (H.swAcc p) = true := by rw [Dev.bit, (d.midReset_keeps hp).get (H.swAcc p)]; exact hacc
  have hcon : Keeps d (d.conEnd p) errVoidFlds :=
    .andThen (.andThen (d.midReset_keeps hp).mono (Dev.askCancel_keeps _ hp)) (Dev.conVoid_keeps _ hp false)
  refine ⟨_, .andThen (.andThen (.andThen hcon (Dev.eprEnd_keeps _ hp)) (Dev.hpmLeave_keeps _ hp))
    (Dev.cmdJoined_keeps _ hp (if swapCode = 11 then 7 else 6)), ?_⟩
  rw [Dev.portEnd_eq, hmid]
  rfl

/-- What the end of a swap shows (R268). -/
theorem Dev.swapOver_shows {last : Nat} (hl : last < 16) : (d.swapOver p last).get (F.PRT_SWAP_STAT_STEP p) = 0 ∧
    (d.swapOver p last).get (F.PRT_SWAP_STAT_LASTEND p) = last ∧ (7 ≤ last → (d.swapOver p last).get (F.PRT_SWAP_STAT_FAIL p) = 1) := by
  have hevt (e : Dev) : Keeps e (if last ≥ 7 then e.swapEvt p (F.PRT_SWAP_STAT_FAIL p) else e) [F.PRT_SWAP_STAT_FAIL 0] :=
    .ite ((Keeps.refl e _).swapEvt hp) (.refl e _)
  unfold Dev.swapOver
  dsimp only
  refine ⟨((hevt _).get _).trans ?_, ((hevt _).get _).trans ?_, fun h7 => ?_⟩
  · simp (disch := (simp only [fkey, hkey]; omega)) only [Dev.puts_cons, Dev.puts_nil, Dev.get_put_ne, Dev.get_put_self]
    rfl
  · simp (disch := (simp only [fkey, hkey]; omega)) only [Dev.puts_cons, Dev.puts_nil, Dev.get_put_ne, Dev.get_put_self]
    omega
  · rw [if_pos h7]
    exact Dev.event_self _ _ _ (by omega) (by simp only [Fld.quiet_iff, fkey]; omega) rfl

/-- An accepted swap that fails (R258): ErrorRecovery, with its code and FAIL, and no swap counted. -/
theorem Dev.errRecover_swap (why : Nat) {code : Nat} (hacc : d.bit (H.swAcc p) = true) (hatt : d.att p ≠ 0) (h7 : 7 ≤ code) (h16 : code < 16) :
    (d.errRecover p why code).att p = 9 ∧ (d.errRecover p why code).get (F.PRT_SWAP_STAT_LASTEND p) = code ∧
      (d.errRecover p why code).get (F.PRT_SWAP_STAT_STEP p) = 0 ∧ (d.errRecover p why code).get (F.PRT_SWAP_STAT_FAIL p) = 1 ∧
      (d.errRecover p why code).get (F.PRT_SWAP_STAT_SWCNT p) = d.get (F.PRT_SWAP_STAT_SWCNT p) := by
  obtain ⟨hleft, h9, -⟩ := d.errRecover_enters hp why code hatt
  obtain ⟨e, hvoid, hend⟩ := d.portEnd_swap hp code hacc
  have hrest : Keeps (e.swapOver p code) (d.errRecover p why code) errFlds := by
    have hstop : Keeps (e.swapOver p code) ((((((e.swapOver p code).portOver p code true).gateStop p why false).vsetOff p).attTimersOff p))
        errFlds :=
      .andThen (.andThen (.andThen (Dev.portOver_keeps _ hp code true).mono (Dev.gateStop_keeps _ hp why false)) (Dev.vsetOff_keeps _ hp))
        (Dev.attTimersOff_keeps _ hp)
    have hset := Keeps.puts hstop (ws := [(F.PRT_ATT_STAT_ORIENT p, 0), (F.PRT_ATT_STAT_RAPRES p, 0), (H.detaching p, 0)])
    unfold Dev.errRecover
    rw [if_neg hatt]
    dsimp only
    rw [hend]
    exact .put (.andThen hset (Dev.attSet_keeps _ hp 9)) _
  refine ⟨h9, ?_, ?_, ?_, ?_⟩
  · rw [hleft.lastend (by simpa [Dev.bit] using hacc)]
    exact Nat.mod_eq_of_lt h16
  · exact (hrest.get _).trans (e.swapOver_shows hp h16).1
  · exact (hrest.get _).trans ((e.swapOver_shows hp h16).2.2 h7)
  · exact (hrest.get _).trans (((e.swapOver_keeps hp code).get _).trans (hvoid.get _))

end

end Sys2Proof.Machine

/-!
Asks (R224-R231) and the start of a source (R204): what the posting of an ask writes, and what its own registers then read.
-/
namespace Sys2Proof.Machine

/-- What a posted ask shows. -/
def askSetFlds : List Fld := [H.askNext 0, F.PRT_PE_STAT_ASKSER 0, F.PRT_PE_STAT_ASKCODE 0, H.askTrig 0, H.askW2 0, H.askW3 0,
  F.PRT_PE_STAT_ASKPEND 0, T.ask 0]

/-- What its posting writes after that, or its default before its decision. -/
def askRestFlds : List Fld := [F.PRT_PE_STAT_ASKPEND 0, T.ask 0, F.PRT_PE_EVT_ASKDROP 0, F.PRT_PE_EVT_ASKDEF 0]

/-- An ask that is due shows what it asks. -/
def Dev.askSet (d : Dev) (p code w2 w3 : Nat) : Dev :=
  d.puts [(H.askNext p, d.get (H.askNext p) + 1), (F.PRT_PE_STAT_ASKSER p, d.get (H.askNext p)), (F.PRT_PE_STAT_ASKCODE p, code),
    (H.askTrig p, d.now), (H.askW2 p, w2), (H.askW3 p, w3), (F.PRT_PE_STAT_ASKPEND p, 0), (T.ask p, 0)]

section
variable (d : Dev) {p : Nat} (hp : p < 24) (code w2 w3 : Nat)
include hp

theorem Dev.askSet_keeps : Keeps d (d.askSet p code w2 w3) askSetFlds := .puts (.refl d _)

theorem Dev.askSet_code (hc : code < 16) : (d.askSet p code w2 w3).get (F.PRT_PE_STAT_ASKCODE p) = code := by
  unfold Dev.askSet
  simp (disch := (simp only [fkey, hkey]; omega)) only [Dev.puts_cons, Dev.puts_nil, Dev.get_put_ne, Dev.get_put_self]
  exact Nat.mod_eq_of_lt hc

/-- What holds after a decision holds after the default that makes it. -/
theorem Dev.askDefault_ends {P : Dev → Prop} (hdec : ∀ (e : Dev) (act arg : Nat), Keeps d e askRestFlds → P (e.decide_ p code act arg)) :
    P (d.askDefault p code) := by
  have hevt : Keeps d (d.peEvt p (F.PRT_PE_EVT_ASKDEF p)) askRestFlds := (Keeps.refl d _).peEvt hp
  unfold Dev.askDefault
  dsimp only
  split
  · exact hdec _ _ _ hevt
  · exact hdec _ _ _ hevt

/-- A posted ask awaits its answer, or its default has decided it. -/
theorem Dev.askPost_ends {P : Dev → Prop} (hwait : ∀ e, Keeps (d.askSet p code w2 w3) e askRestFlds → P e)
    (hdec : ∀ (e : Dev) (act arg : Nat), Keeps (d.askSet p code w2 w3) e askRestFlds → P (e.decide_ p code act arg)) :
    P (d.askPost p code w2 w3) := by
  have hdef (e : Dev) (h : Keeps (d.askSet p code w2 w3) e askRestFlds) : P (e.askDefault p code) :=
    e.askDefault_ends hp code fun g act arg hg => hdec g act arg (h.trans hg)
  have hsent (e : Dev) (ws : List Word) (n : Nat) (h : Keeps (d.askSet p code w2 w3) e askRestFlds) (ch : Nat) (hch : ch < 64) :
      P ((((e.hwEnqueue ch ws).set1 (F.PRT_PE_STAT_ASKPEND p)).raisePort p 2).arm (T.ask p) n) :=
    hwait _ (.arm (.raise (.set1 (h.hwEnqueue ws hch)) (by omega)) n)
  unfold Dev.askPost
  dsimp only
  split
  · exact hdef _ (.raise (.refl _ _) (by omega))
  · split
    · exact hdef _ (.refl _ _)
    · split
      · exact hdef _ ((Keeps.refl _ _).peEvt hp)
      · exact hsent _ _ _ (.refl _ _) _ (Dev.get_lt _ _)

variable {l : List Fld} (hdec : ∀ (e : Dev) (act arg : Nat), Keeps e (e.decide_ p code act arg) l)
include hdec

/-- The posting writes what its decisions write, beside what it shows. -/
theorem Dev.askPost_keepsSet (hl : ∀ g ∈ askRestFlds, g ∈ l) : Keeps (d.askSet p code w2 w3) (d.askPost p code w2 w3) l :=
  Dev.askPost_ends (P := fun e => Keeps (d.askSet p code w2 w3) e l) d hp code w2 w3 (fun _ h => h.mono hl) fun e act arg h =>
    (h.mono hl).trans (hdec e act arg)

theorem Dev.askPost_keeps (hl : ∀ g ∈ askRestFlds, g ∈ l) : Keeps d (d.askPost p code w2 w3) (askSetFlds ++ l) :=
  .trans ((d.askSet_keeps hp code w2 w3).mono fun _ h => List.mem_append_left _ h)
    ((d.askPost_keepsSet hp code w2 w3 hdec hl).mono fun _ h => List.mem_append_right _ h)

theorem Dev.askPost_code (hc : code < 16) (hl : ∀ g ∈ askRestFlds, g ∈ l)
    (hk : clearOf l (F.PRT_PE_STAT_ASKCODE 0).fam = true := by decide +kernel) :
    (d.askPost p code w2 w3).get (F.PRT_PE_STAT_ASKCODE p) = code :=
  ((d.askPost_keepsSet hp code w2 w3 hdec hl).get _ (by simpa (disch := omega) only [fam_port] using hk)).trans
    (d.askSet_code hp code w2 w3 hc)

end

/-! ### SRC_OFFER (R204, R229) -/

/-- What an offer's ask and its default write. -/
def offerFlds : List Fld := askRestFlds ++ [H.offerMask 0, H.offerOk 0, T.capsReady 0]

section
variable (d : Dev) {p : Nat} (hp : p < 24)
include hp

theorem Dev.decideOffer_keeps (act arg : Nat) : Keeps d (d.decide_ p 0 act arg) offerFlds := by
  have hset : Keeps d (d.puts [(H.offerMask p, if act = 1 then arg % 2048 ||| 1 else 2047), (H.offerOk p, 1)]) offerFlds := .puts (.refl d _)
  exact hset.arm (f := T.capsReady p) 0

theorem Dev.offerAsk_keeps (reason : Nat) (epr : Bool) : Keeps d (d.offerAsk p reason epr)
    (askSetFlds ++ offerFlds ++ [H.offerDue 0, H.offerOwn 0, H.offerEpr 0, H.capsCnt 0]) := by
  have hset : Keeps d (d.puts [(H.offerDue p, 1), (H.offerOk p, 0), (H.offerOwn p, 0), (H.offerEpr p, b2n epr), (H.capsCnt p, 0)])
      (askSetFlds ++ offerFlds ++ [H.offerDue 0, H.offerOwn 0, H.offerEpr 0, H.capsCnt 0]) := .puts (.refl d _)
  exact .andThen hset (Dev.askPost_keeps _ hp 0 _ reason (fun e => e.decideOffer_keeps hp) (by decide))

theorem Dev.offerAsk_shows (reason : Nat) (epr : Bool) : (d.offerAsk p reason epr).get (F.PRT_PE_STAT_ASKCODE p) = 0 ∧
    (d.offerAsk p reason epr).get (H.offerDue p) = 1 := by
  have hrest (e : Dev) (w2 : Nat) := e.askPost_keeps hp 0 w2 reason (fun e => e.decideOffer_keeps hp) (by decide)
  unfold Dev.offerAsk
  refine ⟨Dev.askPost_code _ hp 0 _ reason (fun e => e.decideOffer_keeps hp) (by decide) (by decide), ?_⟩
  refine ((hrest _ _).get _).trans ?_
  simp (disch := (simp only [hkey]; omega)) only [Dev.puts_cons, Dev.puts_nil, Dev.get_put_ne, Dev.get_put_self]
  rfl

end

example (d : Dev) : (d.offerAsk 3 3 false).get (H.await 3) = d.get (H.await 3) := (d.offerAsk_keeps (by decide) 3 false).get _

/-! ### The start of a source (R204) -/

/-- What VCONN's conditions write. -/
def vconnCheckFlds : List Fld := [F.PRT_ATT_STAT_VCONNON 0, F.PRT_PE_STAT_VCSRC 0, H.padVcon 0, H.want 0, T.cmdStart 0]

/-- What a VDM request writes. -/
def vdmFlds : List Fld := [H.vdmWhat 0, H.vdmTgt 0, H.vdmBusyN 0] ++ txFlds

/-- What the discovery of a source's start writes. -/
def srcDiscFlds : List Fld := vconnCheckFlds ++ schedFlds ++ exBeginFlds ++ vdmFlds ++ [H.discDone 0, H.ownWait 0, H.ownAt 0, T.sinkTx 0,
  H.vdmCnt 0, H.vdmIdOnly 0, H.vdmCmd 0]

section
variable (d : Dev) {p : Nat} (hp : p < 24)
include hp

theorem Dev.vconnCheck_writes : Keeps d (d.vconnCheck p) vconnCheckFlds := (d.vconnCheck_frame p).keeps

theorem Dev.vdmSend_keeps : Keeps d (d.vdmSend p) vdmFlds := (d.tx_keeps hp _).mono

theorem Dev.vdmBegin_keeps (what tgt : Nat) : Keeps d (d.vdmBegin p what tgt) vdmFlds := by
  have hset : Keeps d (d.puts [(H.vdmWhat p, what), (H.vdmTgt p, tgt), (H.vdmBusyN p, 0)]) vdmFlds := .puts (.refl d _)
  exact hset.trans (Dev.vdmSend_keeps _ hp)

/-- Discovery in the start of a source leaves its state. -/
theorem Dev.discBegin_keeps (tgt : Nat) (idOnly cmd : Bool) (hpe : d.pe p = 1) : Keeps d (d.discBegin p tgt idOnly cmd) srcDiscFlds := by
  have hex := d.exBegin_keeps hp true 100
  have hstart : (d.exBegin p true 100).pe p = 1 := (hex.get (F.PRT_PE_STAT_STATE p)).trans hpe
  have hset : Keeps d ((d.exBegin p true 100).puts [(H.vdmCnt p, 0), (H.vdmIdOnly p, b2n idOnly), (H.vdmCmd p, if cmd then tgt + 1 else 0)])
      srcDiscFlds := .puts hex.mono
  unfold Dev.discBegin
  dsimp only
  rw [if_pos hstart]
  exact .andThen hset (Dev.vdmBegin_keeps _ hp 1 tgt)

theorem Dev.srcDisc_keeps (hpe : d.pe p = 1) : Keeps d (d.srcDisc p) srcDiscFlds := by
  have hcheck : Keeps d (d.vconnCheck p) srcDiscFlds := (d.vconnCheck_writes hp).mono
  have hclr : Keeps d ((d.vconnCheck p).clr (H.discDone p)) srcDiscFlds := hcheck.clr
  have hpe' : ((d.vconnCheck p).clr (H.discDone p)).pe p = 1 := by
    have h : Keeps d ((d.vconnCheck p).clr (H.discDone p)) (vconnCheckFlds ++ [H.discDone 0]) := ((d.vconnCheck_writes hp).mono).clr
    exact (h.get (F.PRT_PE_STAT_STATE p)).trans hpe
  have hwait : Keeps d ((((d.vconnCheck p).clr (H.discDone p)).setRp p true).puts [(H.ownWait p, 7),
      (H.ownAt p, ((d.vconnCheck p).clr (H.discDone p)).now)]) srcDiscFlds := .puts (.andThen hclr (Dev.setRp_keeps _ hp true))
  exact .ite hcheck.set1 (.ite (.trans hclr (Dev.discBegin_keeps _ hp 1 false false hpe')) (hwait.arm (f := T.sinkTx p) _))

/-- The port as its start as a source leaves it before its discovery. -/
def Dev.srcReady (d : Dev) (p : Nat) : Dev :=
  ((Dev.forN 16 (fun i e => e.put (H.offer p i) 0)
    ((d.setPe p 1).puts [(H.grdSink p, 0), (H.vsafe5 p, 0), (H.swCapWait p, 0), (F.PRT_ATT_STAT_RPOWN p, 2)])).rampTo p 500).gateReq p

/-- What it writes. -/
def srcReadyFlds : List Fld := rampFlds ++ stopFlds ++ [F.PRT_PE_STAT_STATE 0, H.grdSink 0, H.vsafe5 0, H.swCapWait 0,
  F.PRT_ATT_STAT_RPOWN 0, H.offer 0 0]

theorem Dev.srcReady_keeps : Keeps d (d.srcReady p) srcReadyFlds := by
  have hset : Keeps d ((d.setPe p 1).puts [(H.grdSink p, 0), (H.vsafe5 p, 0), (H.swCapWait p, 0), (F.PRT_ATT_STAT_RPOWN p, 2)])
      srcReadyFlds := .puts (.put (.refl d _) 1)
  exact .andThen (.andThen (.forN hset fun i hi e => .put (.refl e _) 0) (Dev.rampTo_keeps _ hp 500)) (Dev.gateReq_keeps _ hp)

theorem Dev.srcReady_shows : (d.srcReady p).pe p = 1 ∧ (d.srcReady p).get (H.vset p) = 500 := by
  have hoffer (e : Dev) : Keeps e (Dev.forN 16 (fun i e => e.put (H.offer p i) 0) e) [H.offer 0 0] :=
    .forN (.refl e _) fun i hi e => .put (.refl e _) 0
  have hramp (e : Dev) := e.rampTo_keeps hp 500
  have hgate (e : Dev) := e.gateReq_keeps hp
  unfold Dev.srcReady
  constructor
  · refine ((hgate _).get _).trans (((hramp _).get _).trans (((hoffer _).get _).trans ?_))
    unfold Dev.setPe
    simp (disch := (simp only [fkey, hkey]; omega)) only [Dev.puts_cons, Dev.puts_nil, Dev.get_put_ne, Dev.get_put_self]
    rfl
  · refine ((hgate _).get _).trans ?_
    unfold Dev.rampTo
    rw [Dev.arm]
    simp (disch := (simp only [hkey]; omega)) only [Dev.puts_cons, Dev.puts_nil, Dev.get_put_ne, Dev.get_put_self]
    rfl

/-- A source starts with PD on. -/
theorem Dev.srcStart_on (reason : Nat) (hon : d.get (H.pdOn p) = 1) :
    d.srcStart p reason = ((d.srcReady p).srcDisc p).offerAsk p reason false := by
  have hpd : (d.srcReady p).bit (H.pdOn p) = true := by
    rw [Dev.bit, (d.srcReady_keeps hp).get (H.pdOn p), hon]
    rfl
  exact if_pos hpd

theorem Dev.srcStart_shows (reason : Nat) (hon : d.get (H.pdOn p) = 1) : (d.srcStart p reason).get (H.vset p) = 500 ∧
    (d.srcStart p reason).pe p = 1 ∧ (d.srcStart p reason).get (F.PRT_PE_STAT_ASKCODE p) = 0 ∧
    (d.srcStart p reason).get (H.offerDue p) = 1 ∧
    Keeps d (d.srcStart p reason) (srcReadyFlds ++ srcDiscFlds ++ askSetFlds ++ offerFlds ++ [H.offerDue 0, H.offerOwn 0, H.offerEpr 0, H.capsCnt 0]) := by
  obtain ⟨hpe, hset⟩ := d.srcReady_shows hp
  have hdisc := (d.srcReady p).srcDisc_keeps hp hpe
  have hask := ((d.srcReady p).srcDisc p).offerAsk_keeps hp reason false
  obtain ⟨hcode, hdue⟩ := ((d.srcReady p).srcDisc p).offerAsk_shows hp reason false
  rw [d.srcStart_on hp reason hon]
  exact ⟨(hask.get _).trans ((hdisc.get _).trans hset), (hask.get _).trans ((hdisc.get _).trans hpe), hcode, hdue,
    ((d.srcReady_keeps hp).mono.andThen hdisc).andThen hask⟩

end

example (d : Dev) : (d.srcReady 3).get (H.await 3) = d.get (H.await 3) := (d.srcReady_keeps (by decide)).get _

end Sys2Proof.Machine

/-!
What the reception of a message does before the message itself acts (R193, R203): a port that hears it notes it, and no more.
-/
namespace Sys2Proof.Machine

/-- A message that a port takes is noted, and its GoodCRC goes out. -/
def Dev.heard (d : Dev) (p hdr : Nat) : Dev := (d.rxSeen p (bits hdr 12 3)).rxNote p 0 hdr

section
variable (d : Dev) {p : Nat} (hp : p < 24) (hdr : Nat)
include hp

theorem Dev.heard_keeps : Keeps d (d.heard p hdr) rxFlds := .andThen (d.rxSeen_keeps hp _) (Dev.rxNote_keeps _ hp hdr)

/-- What a message means at a port that listens: no first message of its partner, no end of NO_PD, no swap that it fails. -/
theorem Dev.rxAny_listens (f : Dev → Dev) (hl : d.listens p = true) (hrep : d.rxRepeat p 0 hdr = false) (hbist : d.get (H.bistData p) = 0) :
    d.rxAny p hdr f = f (d.heard p hdr) := by
  simp only [Dev.listens, Dev.bit, Bool.and_eq_true, Bool.not_eq_true', bne_iff_ne, bne_eq_false_iff_eq] at hl
  obtain ⟨⟨⟨⟨hon, hacc⟩, hpe⟩, -⟩, hrev⟩ := hl
  have hk := d.heard_keeps hp hdr
  have hlearn : (d.heard p hdr).learnRev p hdr = d.heard p hdr := by rw [Dev.learnRev, hk.get (F.PRT_PE_STAT_REV p), if_neg hrev]
  have hpd : (d.heard p hdr).noPdEnd p = d.heard p hdr := by
    rw [Dev.noPdEnd, Dev.pe, hk.get (F.PRT_PE_STAT_STATE p)]
    exact if_neg hpe
  have hswap : (d.heard p hdr).bit (H.swAcc p) = false := by rw [Dev.bit, hk.get (H.swAcc p), hacc]; rfl
  unfold Dev.rxAny Dev.rxIn
  dsimp only
  rw [hon, hrep, Dev.bit, hbist, Bool.not_true, if_neg Bool.false_ne_true, Bool.false_or, if_neg (by decide)]
  change (if (((d.heard p hdr).learnRev p hdr).noPdEnd p).bit (H.swAcc p) then _ else f (((d.heard p hdr).learnRev p hdr).noPdEnd p)) = _
  rw [hlearn, hpd, hswap, if_neg Bool.false_ne_true]

/-- Nor is an exchange of its own withdrawn. -/
theorem Dev.heard_withdraw (hw : d.get (H.ownWait p) = 0) (hun : d.ownUnbegun p (bits hdr 12 3) = false) :
    (d.heard p hdr).withdraw p (bits hdr 12 3) = d.heard p hdr := by
  have hk := d.heard_keeps hp hdr
  have hun' : (d.heard p hdr).ownUnbegun p (bits hdr 12 3) = false := by
    rw [← hun]
    simp only [Dev.ownUnbegun, Dev.bit, Dev.pd2, hk.get (H.firstKind p), hk.get (H.txFrom p), hk.get (F.PRT_PE_STAT_REV p), hk.txs p, hk.now]
  unfold Dev.withdraw
  dsimp only
  rw [hk.get (H.ownWait p), hw, hun']
  simp

end

/-- A message that a port hears acts on what its note has left. -/
theorem State.rx_heard {s : State} {p : Nat} (hp : p < 24) {hdr : Nat} (f : Dev → Dev) (h : s.hears p hdr = true) :
    s.dev.rx p hdr f = f (s.dev.heard p hdr) := by
  simp only [State.hears, Bool.and_eq_true, Bool.not_eq_true'] at h
  obtain ⟨⟨⟨⟨-, hl⟩, hrep⟩, hbist⟩, hun⟩ := h
  have hw : s.dev.get (H.ownWait p) = 0 := by
    simp only [Dev.listens, Dev.bit, Bool.and_eq_true, Bool.not_eq_true', bne_eq_false_iff_eq] at hl
    exact hl.1.2
  rw [Dev.rx, Dev.rxAny_listens _ hp hdr _ hl hrep (by simpa [Dev.bit] using hbist), Dev.heard_withdraw _ hp hdr hw hun]

/-- A command of a port that hears its message. -/
theorem EndsDev.of_heard {c : Instr} {s : State} {p hdr : Nat} {f : Dev → Dev} {P : Dev → Prop} (hp : p < 24)
    (hc : exec c s = s.okAt p (fun d => d.rx p hdr f)) (h : s.hears p hdr = true) (hP : P (f (s.dev.heard p hdr))) : EndsDev c s P :=
  .of_okAt hc (State.calm_of_hears h) (State.rx_heard hp f h) hP

example (d : Dev) : (d.heard 3 0).get (H.await 3) = d.get (H.await 3) := (d.heard_keeps (by decide) 0).get _

end Sys2Proof.Machine

/-!
O58, the converter's transitions (R206, R208, R212, R213, R216, R217).
-/
namespace Sys2Proof.Machine

section
variable {d e : Dev} {l : List Fld} (h : Keeps d e l) {p : Nat} (hp : p < 24)
include h hp

/-- What the voltage setpoint's level goes by. -/
theorem Keeps.vLevel (hc : [H.vfrom 0, H.vnow 0, H.vDur 0, H.vStart 0].all (fun g => clearOf l g.fam) = true := by decide +kernel) :
    e.vLevel p = d.vLevel p := by
  have hr (f : Fld) (hf : amongOf [H.vfrom 0, H.vnow 0, H.vDur 0, H.vStart 0] f.fam = true := by
      simp (disch := omega) only [fam_hidden]; decide +kernel) : e.get f = d.get f := h.readOf hc f hf
  simp only [Dev.vLevel, hr (H.vfrom p), hr (H.vnow p), hr (H.vDur p), hr (H.vStart p), h.now]

end

/-! ### The source's ramps (R206, R255) -/

/-- Ticks of a ramp of the setpoint from its level to a target. -/
def Dev.rampTicks (d : Dev) (p target : Nat) : Nat :=
  cdiv ((max target (d.vLevel p) - min target (d.vLevel p)) * 640) (max 1 (d.get (F.PRT_XFER_SLEW p)))

theorem Dev.rampTo_shows (d : Dev) {p target : Nat} (ht : target < 2 ^ 13) : (d.rampTo p target).get (H.vset p) = target ∧
    (d.rampTo p target).get (T.ramp p) = (d.now + d.rampTicks p target + 1) % 2 ^ 64 := by
  have hdiff : (if d.vLevel p ≤ target then target - d.vLevel p else d.vLevel p - target) = max target (d.vLevel p) - min target (d.vLevel p) := by
    split <;> omega
  unfold Dev.rampTo
  dsimp only
  rw [hdiff]
  constructor
  · rw [Dev.arm]
    simp (disch := (simp only [hkey]; omega)) only [Dev.puts_cons, Dev.puts_nil, Dev.get_put_ne, Dev.get_put_self]
    exact Nat.mod_eq_of_lt ht
  · rw [Dev.arm, Dev.get_put_self, Dev.puts_now]
    rfl

/-- What a ramp to a target writes. -/
theorem Dev.rampTo_only (d : Dev) (p target : Nat) : OnlyRegs d (d.rampTo p target) [H.vfrom p, H.vset p, H.vnow p, H.vStart p, H.vDur p,
    H.imode p, H.settleOn p, H.pgtoLat p, T.ramp p] :=
  ((OnlyRegs.refl d _).puts _ (by simp)).put _ _ (by simp)

section
variable {d : Dev} {p : Nat} (hp : p < 24)
include hp

/-- The end of tSrcTransition begins the ramp of the contract. -/
theorem Dev.srcTransEnd_contract {v : Nat} (hon : d.get (T.srcTrans p) ≠ 0) (hv : v = bits (d.get (H.newCon p)) 14 13)
    (hacc : d.get (H.swAcc p) = 0) (hres : d.get (H.resume p) = 0) : (d.srcTransEnd p).get (H.xferOn p) = 1 ∧
      (d.srcTransEnd p).get (H.xferKind p) = 1 ∧ (d.srcTransEnd p).get (H.vset p) = v ∧
      (d.srcTransEnd p).get (H.vexp p) = max (d.get (H.vexp p)) v ∧
      (d.srcTransEnd p).get (T.ramp p) = (d.now + d.rampTicks p v + 1) % 2 ^ 64 ∧
      OnlyRegs d (d.srcTransEnd p) [T.srcTrans p, H.xferOn p, H.xferKind p, H.vexp p, H.vfrom p, H.vset p, H.vnow p, H.vStart p, H.vDur p,
        H.pgtoLat p, H.imode p, H.settleOn p, T.ramp p] := by
  have hstop : Keeps d (d.stop (T.srcTrans p)) [T.srcTrans 0] := (Keeps.refl d _).stop
  have hbegin : Keeps d ((d.stop (T.srcTrans p)).xferBegin p 1 v) [T.srcTrans 0, H.xferOn 0, H.xferKind 0, H.vexp 0] := hstop.mono.puts
  have heq : d.srcTransEnd p = ((d.stop (T.srcTrans p)).xferBegin p 1 v).rampTo p v := by
    have hbit (f : Fld) (h0 : d.get f = 0) (hf : (d.stop (T.srcTrans p)).get f = d.get f) : (d.stop (T.srcTrans p)).bit f = false := by
      rw [Dev.bit, hf, h0]; rfl
    unfold Dev.srcTransEnd Dev.srcXfer
    dsimp only
    rw [Dev.armed, if_pos (by simpa using hon), hbit _ hacc (hstop.get _), hbit _ hres (hstop.get _), hstop.get (H.newCon p), ← hv]
    rfl
  have hlt : v < 2 ^ 13 := hv ▸ bits_lt _ 14 13
  have hold : d.get (H.vexp p) < 2 ^ 13 := d.get_lt _
  obtain ⟨hset, hramp⟩ := ((d.stop (T.srcTrans p)).xferBegin p 1 v).rampTo_shows (p := p) hlt
  have hrest := ((d.stop (T.srcTrans p)).xferBegin p 1 v).rampTo_keeps hp v
  have hticks : ((d.stop (T.srcTrans p)).xferBegin p 1 v).rampTicks p v = d.rampTicks p v := by
    rw [Dev.rampTicks, hbegin.vLevel hp, hbegin.get (F.PRT_XFER_SLEW p)]
    rfl
  rw [heq]
  refine ⟨(hrest.get _).trans ?_, (hrest.get _).trans ?_, hset, (hrest.get _).trans ?_, ?_, ?_⟩
  · unfold Dev.xferBegin
    simp (disch := (simp only [hkey]; omega)) only [Dev.puts_cons, Dev.puts_nil, Dev.get_put_ne, Dev.get_put_self]
    rfl
  · unfold Dev.xferBegin
    simp (disch := (simp only [hkey]; omega)) only [Dev.puts_cons, Dev.puts_nil, Dev.get_put_ne, Dev.get_put_self]
    rfl
  · unfold Dev.xferBegin
    rw [hstop.get (H.vexp p), Dev.puts_cons, Dev.puts_cons, Dev.puts_cons, Dev.puts_nil, Dev.get_put_self]
    exact Nat.mod_eq_of_lt (max_lt hold hlt)
  · rw [hramp, hbegin.now, hticks]
  · have honly : OnlyRegs d ((d.stop (T.srcTrans p)).xferBegin p 1 v) [T.srcTrans p, H.xferOn p, H.xferKind p, H.vexp p] :=
      ((OnlyRegs.refl d _).put _ 0 (by simp)).puts _ (by simp)
    exact (honly.mono (by simp)).trans ((Dev.rampTo_only _ p v).mono (by simp))

/-- In an accepted swap it begins the ramp to 0 V. -/
theorem Dev.srcTransEnd_swap (hon : d.get (T.srcTrans p) ≠ 0) (hacc : d.get (H.swAcc p) = 1) :
    (d.srcTransEnd p).get (H.vset p) = 0 ∧ (d.srcTransEnd p).get (T.safe0v p) = (d.now + 41600001) % 2 ^ 64 := by
  have hstop : Keeps d (d.stop (T.srcTrans p)) [T.srcTrans 0] := (Keeps.refl d _).stop
  have heq : d.srcTransEnd p = ((d.stop (T.srcTrans p)).rampTo p 0).arm (T.safe0v p) (msTicks 650) := by
    unfold Dev.srcTransEnd
    dsimp only
    rw [Dev.armed, if_pos (by simpa using hon), Dev.bit, hstop.get (H.swAcc p), hacc]
    rfl
  have hramp := (d.stop (T.srcTrans p)).rampTo_keeps hp 0
  rw [heq]
  refine ⟨?_, ?_⟩
  · exact (((Keeps.refl _ [T.safe0v 0]).arm _).get _).trans (Dev.rampTo_shows _ (by decide)).1
  · rw [Dev.arm, Dev.get_put_self, hramp.now, hstop.now]
    rfl

end

example (d : Dev) : (d.rampTo 3 500).get (H.await 3) = d.get (H.await 3) := (d.rampTo_keeps (by decide) 500).get _

/-! ### The end of a ramp (R212, R217) -/

/-- The levels of VBS matter in a Hard_Reset and in an accepted swap alone. -/
theorem Dev.vbsReview_idle {d : Dev} {p : Nat} (hhr : d.get (H.hrPhase p) = 0) (hacc : d.get (H.swAcc p) = 0) : d.vbsReview p = d := by
  have hlow : (d.hardLow p).swapLow p = d := by simp [Dev.hardLow, Dev.swapLow, Dev.bit, hhr, hacc]
  simp [Dev.vbsReview, hlow, Dev.bit, hacc]

section
variable {d : Dev} {p : Nat} (hp : p < 24) (hon : d.get (T.ramp p) ≠ 0) (hhr : d.get (H.hrPhase p) = 0) (hacc : d.get (H.swAcc p) = 0)
include hp hon hhr hacc

/-- A transition settles within the PGTO of its start. -/
theorem Dev.rampEnd_settles (hreq : d.get (H.rampReq p) = 0) (hi : d.get (H.imode p) = 0) (hx : d.get (H.xferOn p) = 1) :
    ((d.rampEnd p).vbsReview p).get (H.settleOn p) = 1 ∧
      ((d.rampEnd p).vbsReview p).get (T.pgto p) = (d.now + d.get (H.pgtoLat p) * 64000 + 1) % 2 ^ 64 ∧
      OnlyRegs d ((d.rampEnd p).vbsReview p) [T.ramp p, H.settleOn p, T.pgto p] := by
  have hstop : Keeps d (d.stop (T.ramp p)) [T.ramp 0] := (Keeps.refl d _).stop
  have heq : d.rampEnd p = ((d.stop (T.ramp p)).set1 (H.settleOn p)).arm (T.pgto p) (msTicks (d.get (H.pgtoLat p))) := by
    unfold Dev.rampEnd
    dsimp only
    rw [Dev.armed, if_pos (by simpa using hon), hstop.get (H.pgtoLat p)]
    simp [Dev.bit, hstop.get (H.hrPhase p), hhr, hstop.get (H.swAcc p), hacc, hstop.get (H.rampReq p), hreq, hstop.get (H.xferOn p), hx,
      hstop.get (H.imode p), hi]
  have hk : Keeps d (d.rampEnd p) [T.ramp 0, H.settleOn 0, T.pgto 0] := by
    rw [heq]
    exact hstop.mono.set1.arm _
  rw [Dev.vbsReview_idle ((hk.get _).trans hhr) ((hk.get _).trans hacc), heq]
  refine ⟨?_, ?_, (((OnlyRegs.refl d _).put _ 0 (by simp)).put _ 1 (by simp)).put _ _ (by simp)⟩
  · rw [Dev.arm, Dev.set1]
    simp (disch := (simp only [hkey]; omega)) only [Dev.get_put_ne, Dev.get_put_self]
    rfl
  · rw [Dev.arm, Dev.get_put_self]
    rfl

/-- A Request that waited for the ramp goes out. -/
theorem Dev.rampEnd_request (hreq : d.get (H.rampReq p) = 1) (hepr : d.epr p = false) :
    d.sends ((d.rampEnd p).vbsReview p) p ⟨0, 34, false, [d.get (H.rdoNew p)], 4, 0⟩ ∧
      ((d.rampEnd p).vbsReview p).get (H.rampReq p) = 0 := by
  have hstop : Keeps d (d.stop (T.ramp p)) [T.ramp 0] := (Keeps.refl d _).stop
  have hput : Keeps d ((d.stop (T.ramp p)).put (H.rampReq p) 0) [T.ramp 0, H.rampReq 0] := hstop.mono.put 0
  have heq : d.rampEnd p = ((d.stop (T.ramp p)).put (H.rampReq p) 0).txSop p 34 [d.get (H.rdoNew p)] 4 := by
    have hnot : ((d.stop (T.ramp p)).put (H.rampReq p) 0).epr p = false := by
      rw [Dev.epr, Dev.bit, hput.get (F.PRT_PE_STAT_EPR p)]
      exact hepr
    unfold Dev.rampEnd Dev.requestGo
    dsimp only
    rw [Dev.armed, if_pos (by simpa using hon), hput.get (H.rdoNew p), hnot]
    simp [Dev.bit, hstop.get (H.hrPhase p), hhr, hstop.get (H.swAcc p), hacc, hstop.get (H.rampReq p), hreq]
  have htx := ((d.stop (T.ramp p)).put (H.rampReq p) 0).txSop_keeps hp 34 [d.get (H.rdoNew p)] 4
  have hsent := ((d.stop (T.ramp p)).put (H.rampReq p) 0).tx_sends hp ⟨0, 34, false, [d.get (H.rdoNew p)], 4, 0⟩
  have hk : Keeps d (d.rampEnd p) ([T.ramp 0, H.rampReq 0] ++ txFlds) := by
    rw [heq]
    exact hput.mono.andThen htx
  rw [Dev.vbsReview_idle ((hk.get _).trans hhr) ((hk.get _).trans hacc), heq]
  rw [Dev.sends, hput.txs p] at hsent
  exact ⟨hsent, (htx.get _).trans (Dev.get_put_self _ _ _)⟩

end

/-! ### The settled converter, PGTO and PnnPG (R213, R216, R217) -/

section
variable {d : Dev} {p : Nat} (hp : p < 24)
include hp

/-- The closing message of a contract's transition or of a swap's. -/
theorem Dev.settled_closes (hset : d.get (H.settleOn p) = 1) (hmask : d.get (H.snkMask p) ≠ 1)
    (hkind : d.get (H.xferKind p) = 1 ∨ d.get (H.xferKind p) = 3) :
    d.sends (d.settled p) p ⟨0, 6, false, [], if d.get (H.xferKind p) = 1 then 3 else 10, 0⟩ ∧ (d.settled p).get (T.pgto p) = 0 := by
  have hput : Keeps d (d.puts [(H.settleOn p, 0), (T.pgto p, 0)]) [H.settleOn 0, T.pgto 0] := .puts (.refl d _)
  have heq : d.settled p = (d.puts [(H.settleOn p, 0), (T.pgto p, 0)]).txSop p 6 [] (if d.get (H.xferKind p) = 1 then 3 else 10) := by
    unfold Dev.settled
    dsimp only
    rw [if_neg (by simp [hmask]), Dev.bit, hset, hput.get (H.xferKind p)]
    rcases hkind with hk | hk <;> simp [hk]
  have htx := (d.puts [(H.settleOn p, 0), (T.pgto p, 0)]).txSop_keeps hp 6 [] (if d.get (H.xferKind p) = 1 then 3 else 10)
  have hsent := (d.puts [(H.settleOn p, 0), (T.pgto p, 0)]).tx_sends hp ⟨0, 6, false, [], if d.get (H.xferKind p) = 1 then 3 else 10, 0⟩
  rw [heq]
  rw [Dev.sends, hput.txs p] at hsent
  refine ⟨hsent, (htx.get _).trans ?_⟩
  rw [Dev.puts_cons, Dev.puts_cons, Dev.puts_nil]
  exact Dev.get_put_self _ _ _

omit hp in
/-- A sink's mask ends. -/
theorem Dev.settled_mask (hsnk : d.isSnk p = true) (hmask : d.get (H.snkMask p) = 1) (hend : d.get (H.maskEnd p) ≠ 0) :
    (d.settled p).get (H.snkMask p) = 0 ∧ OnlyRegs d (d.settled p) [H.snkMask p] := by
  have heq : d.settled p = d.clr (H.snkMask p) := if_pos (by simp [hsnk, hmask, hend])
  rw [heq]
  exact ⟨Dev.get_put_self _ _ _, (OnlyRegs.refl d _).put _ 0 (by simp)⟩

/-- PGTO ends a transition with a Hard_Reset. -/
theorem Dev.pgtoEnd_fails (hon : d.get (T.pgto p) ≠ 0) (hacc : d.get (H.swAcc p) = 0) (hatt : d.attached p = true)
    (hkind : d.get (H.xferKind p) ≠ 2) : (d.pgtoEnd p).get (F.PRT_PE_EVT_XFERFAIL p) = 1 ∧ hardResetBegun d (d.pgtoEnd p) p := by
  have hevt : Keeps d ((d.stop (T.pgto p)).peEvt p (F.PRT_PE_EVT_XFERFAIL p)) [T.pgto 0, F.PRT_PE_EVT_XFERFAIL 0] :=
    .peEvt (.stop (.refl d _)) hp
  have hfin := ((d.stop (T.pgto p)).peEvt p (F.PRT_PE_EVT_XFERFAIL p)).cmdFin_keeps hp 7
  have hk : Keeps d (((d.stop (T.pgto p)).peEvt p (F.PRT_PE_EVT_XFERFAIL p)).cmdFin p 7) ([T.pgto 0, F.PRT_PE_EVT_XFERFAIL 0] ++ cmdFlds) :=
    hevt.mono.andThen hfin
  have heq : d.pgtoEnd p = (((d.stop (T.pgto p)).peEvt p (F.PRT_PE_EVT_XFERFAIL p)).cmdFin p 7).hardReset p := by
    unfold Dev.pgtoEnd
    dsimp only
    rw [Dev.armed, if_pos (by simpa using hon), Dev.bit, hevt.get (H.swAcc p), hacc, hevt.get (H.xferKind p), if_neg hkind]
    rfl
  rw [heq]
  refine ⟨?_, Dev.hardReset_begun d hp hk ((hk.attached hp).trans hatt)⟩
  exact ((Dev.hardReset_keeps _ hp).get _).trans ((hfin.get _).trans (Dev.peEvt_self _ hp))

/-- PnnPG has fallen: its mark, and the wake of a banked port. -/
def Dev.pgDown (d : Dev) (p : Nat) : Dev := if (d.clr (H.pg p)).bankedPort p then (d.clr (H.pg p)).wake 3 else d.clr (H.pg p)

theorem Dev.pgDown_keeps : Keeps d (d.pgDown p) [H.pg 0] := .ite (.wake (.clr (.refl d _)) 3) (.clr (.refl d _))

theorem Dev.pgDown_pg : (d.pgDown p).get (H.pg p) = 0 := by
  have hclr : (d.clr (H.pg p)).get (H.pg p) = 0 := Dev.get_put_self _ _ _
  unfold Dev.pgDown
  split
  · exact (((Keeps.refl _ []).wake 3).get _).trans hclr
  · exact hclr

omit hp in
theorem Dev.pgLost_eq : d.pgLost p = if (d.pgDown p).bit (H.swAcc p) then d.pgDown p
    else if (d.pgDown p).isSrc p && (d.pgDown p).bit (F.PRT_CONTRACT_VALID p) then
      (((d.pgDown p).peEvt p (F.PRT_PE_EVT_PGLOST p)).cmdFin p 7).hardReset p
    else if (d.pgDown p).isSnk p then ((d.pgDown p).peEvt p (F.PRT_PE_EVT_PGLOST p)).setIset p 0
    else d.pgDown p := rfl

/-- A source that loses PnnPG in a contract sends Hard_Reset. -/
theorem Dev.pgLost_source (hacc : d.get (H.swAcc p) = 0) (hsrc : d.isSrc p = true) (hval : d.get (F.PRT_CONTRACT_VALID p) = 1) :
    (d.pgLost p).get (H.pg p) = 0 ∧ (d.pgLost p).get (F.PRT_PE_EVT_PGLOST p) = 1 ∧ hardResetBegun d (d.pgLost p) p := by
  have hdown := d.pgDown_keeps hp
  have heq : d.pgLost p = (((d.pgDown p).peEvt p (F.PRT_PE_EVT_PGLOST p)).cmdFin p 7).hardReset p := by
    rw [Dev.pgLost_eq, Dev.bit, hdown.get (H.swAcc p), hacc, if_neg (by decide), hdown.isSrc hp, hsrc, Dev.bit, hdown.get (F.PRT_CONTRACT_VALID p), hval]
    rfl
  have hevt : Keeps d ((d.pgDown p).peEvt p (F.PRT_PE_EVT_PGLOST p)) [H.pg 0, F.PRT_PE_EVT_PGLOST 0] := .peEvt hdown.mono hp
  have hevt' : Keeps (d.pgDown p) ((d.pgDown p).peEvt p (F.PRT_PE_EVT_PGLOST p)) [F.PRT_PE_EVT_PGLOST 0] := .peEvt (.refl _ _) hp
  have hfin := ((d.pgDown p).peEvt p (F.PRT_PE_EVT_PGLOST p)).cmdFin_keeps hp 7
  have hk : Keeps d (((d.pgDown p).peEvt p (F.PRT_PE_EVT_PGLOST p)).cmdFin p 7) ([H.pg 0, F.PRT_PE_EVT_PGLOST 0] ++ cmdFlds) :=
    hevt.mono.andThen hfin
  have hatt : d.attached p = true := by simp [Dev.attached, hsrc]
  rw [heq]
  refine ⟨?_, ?_, Dev.hardReset_begun d hp hk ((hk.attached hp).trans hatt)⟩
  · exact ((Dev.hardReset_keeps _ hp).get _).trans ((hfin.get _).trans ((hevt'.get _).trans (d.pgDown_pg hp)))
  · exact ((Dev.hardReset_keeps _ hp).get _).trans ((hfin.get _).trans (Dev.peEvt_self _ hp))

/-- A sink that loses it draws nothing, and its contract stands. -/
theorem Dev.pgLost_sink (hacc : d.get (H.swAcc p) = 0) (hsnk : d.isSnk p = true) : (d.pgLost p).get (H.pg p) = 0 ∧
    (d.pgLost p).get (F.PRT_PE_EVT_PGLOST p) = 1 ∧ (d.pgLost p).get (H.iset p) = 0 ∧
    (d.pgLost p).get (F.PRT_CONTRACT_VALID p) = d.get (F.PRT_CONTRACT_VALID p) := by
  have hdown := d.pgDown_keeps hp
  have heq : d.pgLost p = ((d.pgDown p).peEvt p (F.PRT_PE_EVT_PGLOST p)).setIset p 0 := by
    rw [Dev.pgLost_eq, Dev.bit, hdown.get (H.swAcc p), hacc, if_neg (by decide), hdown.isSrc hp, Dev.isSrc_of_isSnk hsnk, hdown.isSnk hp, hsnk]
    rfl
  have hevt' : Keeps (d.pgDown p) ((d.pgDown p).peEvt p (F.PRT_PE_EVT_PGLOST p)) [F.PRT_PE_EVT_PGLOST 0] := .peEvt (.refl _ _) hp
  have hset := ((d.pgDown p).peEvt p (F.PRT_PE_EVT_PGLOST p)).setIset_keeps hp 0
  rw [heq]
  refine ⟨?_, ?_, ?_, ?_⟩
  · exact (hset.get _).trans ((hevt'.get _).trans (d.pgDown_pg hp))
  · exact (hset.get _).trans (Dev.peEvt_self _ hp)
  · unfold Dev.setIset
    simp (disch := (simp only [hkey]; omega)) only [Dev.puts_cons, Dev.puts_nil, Dev.get_put_ne, Dev.get_put_self]
    rfl
  · exact (hset.get _).trans ((hevt'.get _).trans (hdown.get _))

/-- The setpoint of a sink returns with PnnPG (R217). -/
theorem Dev.pgBack_sink (hpg : d.get (H.pg p) = 0) (hacc : d.get (H.swAcc p) = 0) (hsnk : d.isSnk p = true) (hon : d.gatesOn p = true)
    (hreq : d.get (H.rampReq p) = 0) : (d.pgBack p).get (H.pg p) = 1 ∧ (d.pgBack p).get (H.iset p) = d.sinkPoint p % 65536 ∧
      (d.pgBack p).get (T.ramp p) = (d.now + 64001) % 2 ^ 64 ∧
      OnlyRegs d (d.pgBack p) [H.pg p, H.iset p, H.imode p, H.ifrom p, H.iStart p, H.iDur p, T.ramp p] := by
  have hset : Keeps d (d.set1 (H.pg p)) [H.pg 0] := .set1 (.refl d _)
  have hpoint : (d.set1 (H.pg p)).sinkPoint p = d.sinkPoint p := by
    simp only [Dev.sinkPoint, Dev.bit, Dev.hpmCon, Dev.conKind, Dev.conCurr, Dev.pe, Dev.rpCurrent, hset.explicit hp,
      hset.get (H.snkInrush p), hset.get (F.PRT_CONTRACT_VALID p), hset.get (F.PRT_CONTRACT_KIND p), hset.get (F.PRT_HPM_CEIL_CEIL p),
      hset.get (F.PRT_CONTRACT_CURR p), hset.get (F.PRT_PE_STAT_STATE p), hset.get (H.rpLevel p)]
    rfl
  have heq : d.pgBack p = (d.set1 (H.pg p)).isetRamp p (d.sinkPoint p) := by
    have hgates : (d.set1 (H.pg p)).gatesOn p = true := by
      rw [Dev.gatesOn, Dev.gates, hset.get (F.GRD_STAT_GATES p)]
      exact hon
    unfold Dev.pgBack
    dsimp only
    rw [hpoint, hset.isSnk hp, hsnk, hgates]
    simp [Dev.bit, hpg, hset.get (H.swAcc p), hacc, hset.get (H.rampReq p), hreq]
  rw [heq]
  refine ⟨(((d.set1 (H.pg p)).isetRamp_keeps hp _).get _).trans (Dev.get_put_self _ _ _), ?_, ?_, ?_⟩
  · unfold Dev.isetRamp
    rw [Dev.arm]
    simp (disch := (simp only [hkey]; omega)) only [Dev.puts_cons, Dev.puts_nil, Dev.get_put_ne, Dev.get_put_self]
    rfl
  · unfold Dev.isetRamp
    rw [Dev.arm, Dev.get_put_self, Dev.puts_now, hset.now, Nat.add_assoc]
  · exact (((OnlyRegs.refl d _).put _ 1 (by simp)).puts _ (by simp)).put _ _ (by simp)

end

example (d : Dev) : (d.pgDown 3).get (H.await 3) = d.get (H.await 3) := (Dev.pgDown_keeps (by decide)).get _

/-! ### The current of a PPS source (R208) -/

theorem linear_le (a b dur t : Nat) : linear a b dur t ≤ max a b := by
  unfold linear
  split
  · omega
  · next h =>
    split
    · have hle : (b - a) * t / dur ≤ b - a := Nat.div_le_of_le_mul (by rw [Nat.mul_comm dur]; exact Nat.mul_le_mul_left _ (by omega))
      omega
    · exact (Nat.sub_le _ _).trans (le_max_left _ _)

section
variable (d : Dev) {p : Nat}

theorem Dev.vLevel_lt : d.vLevel p < 2 ^ 13 := by
  have hfrom : d.get (H.vfrom p) < 2 ^ 13 := d.get_lt _
  have hnow : d.get (H.vnow p) < 2 ^ 13 := d.get_lt _
  exact Nat.lt_of_le_of_lt (linear_le _ _ _ _) (max_lt hfrom hnow)

/-- A step of the setpoint is its level at once. -/
theorem Dev.vStep_vLevel {v : Nat} (hv : v < 2 ^ 13) : (d.vStep p v).vLevel p = v := by
  have hdur : (d.vStep p v).get (H.vDur p) = 0 := by
    unfold Dev.vStep
    rw [Dev.puts_cons, Dev.puts_cons, Dev.puts_nil]
    exact Dev.get_put_self _ _ _
  have hnow : (d.vStep p v).get (H.vnow p) = v := by
    unfold Dev.vStep
    simp (disch := (simp only [hkey]; omega)) only [Dev.puts_cons, Dev.puts_nil, Dev.get_put_ne, Dev.get_put_self]
    exact Nat.mod_eq_of_lt hv
  rw [Dev.vLevel, hdur, hnow, linear, if_pos (Nat.zero_le _)]

/-- The measured current of a PPS source moves its setpoint by 20 mV. -/
theorem Dev.ppsStep_shows (i : Nat) (hsrc : d.isSrc p = true) (hval : d.get (F.PRT_CONTRACT_VALID p) = 1) (hkind : d.conKind p = 3)
    (hx : d.get (H.xferOn p) = 0) :
    (d.conCurr p * 10 + 50 < i → apdoMin (d.offered p (d.get (H.rdo p))) + 2 ≤ d.vLevel p → (d.ppsStep p i).vLevel p + 2 = d.vLevel p) ∧
      (d.conCurr p * 10 ≤ i → i ≤ d.conCurr p * 10 + 50 → (d.ppsStep p i).vLevel p = d.vLevel p) ∧
      (i < d.conCurr p * 10 → (d.ppsStep p i).vLevel p = min (d.vLevel p + 2) (d.conVolt p)) ∧
      OnlyRegs d (d.ppsStep p i) [H.vnow p, H.vDur p] := by
  have heq : d.ppsStep p i = if i > d.conCurr p * 10 + 50 then
        d.vStep p (max (d.vLevel p - 2) (min (d.vLevel p) (apdoMin (d.offered p (d.get (H.rdo p))))))
      else if i < d.conCurr p * 10 then d.vStep p (min (d.vLevel p + 2) (d.conVolt p)) else d :=
    if_pos (by simp [hsrc, Dev.bit, hval, hkind, hx])
  have hlevel : d.vLevel p < 2 ^ 13 := d.vLevel_lt
  have hvolt : d.conVolt p < 2 ^ 13 := d.get_lt _
  have honly (v : Nat) : OnlyRegs d (d.vStep p v) [H.vnow p, H.vDur p] := (OnlyRegs.refl d _).puts _ (by simp)
  rw [heq]
  refine ⟨fun hi hmin => ?_, fun hlo hhi => ?_, fun hi => ?_, .ite (honly _) (.ite (honly _) (.refl d _))⟩
  · rw [if_pos hi, Dev.vStep_vLevel _ (by omega)]
    omega
  · rw [if_neg (by omega), if_neg (by omega)]
  · rw [if_neg (by omega), if_pos hi, Dev.vStep_vLevel _ (by omega)]

end

end Sys2Proof.Machine

/-!
O58, Hard_Reset and the power role swap (R219, R247-R261).
-/
namespace Sys2Proof.Machine

/-! ### The started command completes (R239) -/

/-- A started command that completes, and then a frame that leaves its completion. -/
theorem Dev.cmdEnd_completed {d e : Dev} {p : Nat} (hp : p < 24) {c : Cmd} {l : List Cmd} {outcome : Nat} (ho : outcome < 16)
    (hrun : d.get (H.cmdRun p) = 1) (hcmds : d.cmds p = c :: l) {m : List Fld} (hk : Keeps (d.cmdEnd p outcome) e m)
    (hm : [F.PRT_CMD_DONE_TICKET 0, F.PRT_CMD_DONE_OUTCOME 0, F.PRT_CMD_DONE_CODE 0, F.PRT_PE_EVT_CMDDONE 0,
      cmdMark].all (fun x => clearOf (T.cmdStart 0 :: m) x.fam) = true := by decide +kernel) : completed e p c l outcome := by
  have heq : d.cmdEnd p outcome = ((((d.setCmds p l).clr (H.cmdRun p)).stop (T.cmdMiss p)).cmdRecord p c outcome).arm (T.cmdStart p) 0 := by
    rw [Dev.cmdEnd, Dev.bit, hrun, hcmds]
    rfl
  have hrest (g : Dev) : Keeps g ((g.clr (H.cmdRun p)).stop (T.cmdMiss p)) [H.cmdRun 0, T.cmdMiss 0] := ((Keeps.refl g _).clr).stop
  have harm (g : Dev) : Keeps g (g.arm (T.cmdStart p) 0) (T.cmdStart 0 :: m) :=
    .mono (l := [T.cmdStart 0]) ((Keeps.refl g _).arm 0) (by simp)
  rw [heq] at hk
  exact completed_of_record hp ho rfl (((hrest _).cmds p).trans (Dev.setCmds_cmds _ _))
    ((harm _).trans (hk.mono fun g hg => List.mem_cons_of_mem _ hg)) hm

/-! ### Hard_Reset (R219) -/

/-- What the power recovery writes. -/
def recoverFlds : List Fld := isetFlds ++ stopFlds ++ [H.hrPhase 0, T.psHr 0]

section
variable {d : Dev} {p : Nat} (hp : p < 24)
include hp

theorem Dev.hardRecover_keeps (d : Dev) : Keeps d (d.hardRecover p) recoverFlds :=
  .ite (.put (.andThen (d.setIset_keeps hp 0).mono (Dev.gateStop_keeps _ hp 20 false)) _) (.put (.put (.refl d _) 2) _)

/-- The recovery of a sink. -/
theorem Dev.hardRecover_sink (hsnk : d.isSnk p = true) : (d.hardRecover p).get (H.iset p) = 0 ∧
    (d.hardRecover p).get (H.hrPhase p) = (if d.get (F.PRT_ATT_STAT_VBS0 p) = 1 then 6 else 5) ∧
    (d.gates p = 1 ∨ d.gates p = 2 → (d.hardRecover p).gates p = 3 ∧ (d.hardRecover p).get (F.GRD_STAT_STOPWHY p) = 20) := by
  have hset := d.setIset_keeps hp 0
  have hstop := (d.setIset p 0).gateStop_keeps hp 20 false
  have heq : d.hardRecover p = ((d.setIset p 0).gateStop p 20 false).put (H.hrPhase p)
      (if d.get (F.PRT_ATT_STAT_VBS0 p) = 1 then 6 else 5) := by
    rw [Dev.hardRecover, if_pos hsnk, Dev.bit_eq_decide _ rfl]
    by_cases hv : d.get (F.PRT_ATT_STAT_VBS0 p) = 1 <;> simp [hv]
  have hput (e : Dev) (v : Nat) : Keeps e (e.put (H.hrPhase p) v) [H.hrPhase 0] := (Keeps.refl e _).put v
  rw [heq]
  refine ⟨((hput _ _).get _).trans ((hstop.get _).trans ?_), ?_, fun hg => ?_⟩
  · unfold Dev.setIset
    simp (disch := (simp only [hkey]; omega)) only [Dev.puts_cons, Dev.puts_nil, Dev.get_put_ne, Dev.get_put_self]
    rfl
  · rw [Dev.get_put_self]
    split <;> rfl
  · have hgates : (d.setIset p 0).gates p = d.gates p := hset.get _
    obtain ⟨h3, hwhy⟩ := (d.setIset p 0).gateStop_stops hp 20 false (by rwa [hgates])
    exact ⟨((hput _ _).get _).trans h3, ((hput _ _).get _).trans hwhy⟩

omit hp in
/-- That of a source. -/
theorem Dev.hardRecover_source (hsnk : d.isSnk p = false) : (d.hardRecover p).get (H.hrPhase p) = 2 ∧
    (d.hardRecover p).get (T.psHr p) = (d.now + 1920001) % 2 ^ 64 ∧ OnlyRegs d (d.hardRecover p) [H.hrPhase p, T.psHr p] := by
  have heq : d.hardRecover p = (d.put (H.hrPhase p) 2).arm (T.psHr p) (msTicks 30) := if_neg (by simp [hsnk])
  rw [heq]
  refine ⟨?_, ?_, ((OnlyRegs.refl d _).put _ 2 (by simp)).put _ _ (by simp)⟩
  · rw [Dev.arm]
    simp (disch := (simp only [hkey]; omega)) only [Dev.get_put_ne, Dev.get_put_self]
    rfl
  · rw [Dev.arm, Dev.get_put_self, Dev.put_now]
    rfl

/-- The signalling has been sent: the recovery goes on. -/
theorem Dev.hardSent_recovers (hph : d.get (H.hrPhase p) = 1) :
    d.hardSent p = ((d.stop (T.hrDone p)).cmdEnd p 0).hardRecover p := by
  have hstop : Keeps d (d.stop (T.hrDone p)) [T.hrDone 0] := (Keeps.refl d _).stop
  unfold Dev.hardSent
  dsimp only
  rw [hstop.get (H.hrPhase p), if_pos hph]

theorem Dev.hardSent_source (hph : d.get (H.hrPhase p) = 1) (hsnk : d.isSnk p = false) (hrun : d.get (H.cmdRun p) = 0) :
    (d.hardSent p).get (H.hrPhase p) = 2 ∧ (d.hardSent p).get (T.psHr p) = (d.now + 1920001) % 2 ^ 64 ∧
      OnlyRegs d (d.hardSent p) [H.hrPhase p, T.psHr p, T.hrDone p] := by
  have hstop : Keeps d (d.stop (T.hrDone p)) [T.hrDone 0] := (Keeps.refl d _).stop
  have hnone : (d.stop (T.hrDone p)).cmdEnd p 0 = d.stop (T.hrDone p) := by
    rw [Dev.cmdEnd, Dev.bit, hstop.get (H.cmdRun p), hrun]
    rfl
  obtain ⟨hphase, htimer, honly⟩ := Dev.hardRecover_source (d := d.stop (T.hrDone p)) ((hstop.isSnk hp).trans hsnk)
  rw [Dev.hardSent_recovers hp hph, hnone]
  exact ⟨hphase, by rw [htimer, hstop.now], ((OnlyRegs.refl d _).put _ 0 (by simp)).trans (honly.mono (by simp))⟩

theorem Dev.hardSent_sink (hph : d.get (H.hrPhase p) = 1) (hsnk : d.isSnk p = true) : (d.hardSent p).get (H.iset p) = 0 ∧
    (d.hardSent p).get (H.hrPhase p) = (if d.get (F.PRT_ATT_STAT_VBS0 p) = 1 then 6 else 5) ∧
    (d.gates p = 1 ∨ d.gates p = 2 → (d.hardSent p).gates p = 3 ∧ (d.hardSent p).get (F.GRD_STAT_STOPWHY p) = 20) := by
  have hk : Keeps d ((d.stop (T.hrDone p)).cmdEnd p 0) (T.hrDone 0 :: cmdFlds) := ((Keeps.refl d _).stop).andThen (Dev.cmdEnd_keeps _ hp 0)
  have hgates : ((d.stop (T.hrDone p)).cmdEnd p 0).gates p = d.gates p := hk.get _
  obtain ⟨hi, hphase, hstop⟩ := Dev.hardRecover_sink hp ((hk.isSnk hp).trans hsnk)
  rw [Dev.hardSent_recovers hp hph]
  exact ⟨hi, by rw [hphase, hk.get (F.PRT_ATT_STAT_VBS0 p)], fun hg => hstop (by rwa [hgates])⟩

/-- A HARD_RESET command is DONE. -/
theorem Dev.hardSent_done {c : Cmd} {l : List Cmd} (hph : d.get (H.hrPhase p) = 1) (hrun : d.get (H.cmdRun p) = 1)
    (hcmds : d.cmds p = c :: l) : completed (d.hardSent p) p c l 0 := by
  have hstop : Keeps d (d.stop (T.hrDone p)) [T.hrDone 0] := (Keeps.refl d _).stop
  rw [Dev.hardSent_recovers hp hph]
  exact Dev.cmdEnd_completed hp (by decide) ((hstop.get _).trans hrun) ((hstop.cmds p).trans hcmds) (Dev.hardRecover_keeps hp _)

/-- tPSHardReset ends. -/
theorem Dev.psHardEnd_falls (hon : d.get (T.psHr p) ≠ 0) (hph : d.get (H.hrPhase p) = 2) : (d.psHardEnd p).get (H.hrPhase p) = 3 ∧
    (d.psHardEnd p).get (H.vset p) = 0 ∧ (d.psHardEnd p).get (F.GRD_STAT_DISON p) = 1 ∧
    (d.psHardEnd p).get (T.safe0v p) = (d.now + 41600001) % 2 ^ 64 := by
  have hstop : Keeps d (d.stop (T.psHr p)) [T.psHr 0] := (Keeps.refl d _).stop
  have heq : d.psHardEnd p = ((((d.stop (T.psHr p)).put (H.hrPhase p) 3).rampTo p 0).disOn p).arm (T.safe0v p) (msTicks 650) := by
    unfold Dev.psHardEnd
    dsimp only
    rw [Dev.armed, if_pos (by simpa using hon), hstop.get (H.hrPhase p), if_pos hph]
  have hput : Keeps (d.stop (T.psHr p)) ((d.stop (T.psHr p)).put (H.hrPhase p) 3) [H.hrPhase 0] := (Keeps.refl _ _).put 3
  have hramp := ((d.stop (T.psHr p)).put (H.hrPhase p) 3).rampTo_keeps hp 0
  have hdis := (((d.stop (T.psHr p)).put (H.hrPhase p) 3).rampTo p 0).disOn_keeps hp
  have harm (e : Dev) (n : Nat) : Keeps e (e.arm (T.safe0v p) n) [T.safe0v 0] := (Keeps.refl e _).arm n
  have hdison (e : Dev) : (e.disOn p).get (F.GRD_STAT_DISON p) = 1 := by
    have hlow (g : Dev) : Keeps g (if g.bit (F.PRT_ATT_STAT_VBS0 p) then g.arm (T.disLow p) 64000 else g) [T.disLow 0] :=
      .ite ((Keeps.refl g _).arm _) (.refl g _)
    unfold Dev.disOn
    split
    · exact Dev.get_of_bit rfl ‹_›
    · refine ((hlow _).get _).trans ?_
      rw [Dev.arm]
      simp (disch := (simp only [fkey, hkey]; omega)) only [Dev.puts_cons, Dev.puts_nil, Dev.get_put_ne, Dev.get_put_self]
      rfl
  rw [heq]
  refine ⟨?_, ?_, ((harm _ _).get _).trans (hdison _), ?_⟩
  · exact ((harm _ _).get _).trans ((hdis.get _).trans ((hramp.get _).trans (Dev.get_put_self _ _ _)))
  · refine ((harm _ _).get _).trans ((hdis.get _).trans ?_)
    unfold Dev.rampTo
    rw [Dev.arm]
    simp (disch := (simp only [hkey]; omega)) only [Dev.puts_cons, Dev.puts_nil, Dev.get_put_ne, Dev.get_put_self]
    rfl
  · rw [Dev.arm, Dev.get_put_self, hdis.now, hramp.now, hput.now, hstop.now]
    rfl

/-- tSafe0V ends above 0.8 V in a Hard_Reset: ErrorRecovery. -/
theorem Dev.safe0vEnd_hard (hon : d.get (T.safe0v p) ≠ 0) (hacc : d.get (H.swAcc p) = 0) (hph : d.get (H.hrPhase p) = 3)
    (hatt : d.att p ≠ 0) : (d.safe0vEnd p).att p = 9 := by
  have hstop : Keeps d (d.stop (T.safe0v p)) [T.safe0v 0] := (Keeps.refl d _).stop
  have heq : d.safe0vEnd p = (d.stop (T.safe0v p)).errRecover p 18 7 := by
    unfold Dev.safe0vEnd
    dsimp only
    rw [Dev.armed, if_pos (by simpa using hon), Dev.bit, hstop.get (H.swAcc p), hacc, hstop.get (H.hrPhase p), hph]
    rfl
  have hatt' : (d.stop (T.safe0v p)).att p = d.att p := hstop.get _
  rw [heq]
  exact (Dev.errRecover_enters _ hp 18 7 (by rwa [hatt'])).2.1

/-- tSrcRecover ends: the source starts again. -/
theorem Dev.srcRecEnd_starts (hon : d.get (T.srcRec p) ≠ 0) (hph : d.get (H.hrPhase p) = 4) (hpd : d.get (H.pdOn p) = 1) :
    (d.srcRecEnd p).get (H.hrPhase p) = 0 ∧ (d.srcRecEnd p).get (H.vset p) = 500 ∧ (d.srcRecEnd p).pe p = 1 ∧
      (d.srcRecEnd p).get (F.PRT_PE_STAT_ASKCODE p) = 0 ∧ (d.srcRecEnd p).get (H.offerDue p) = 1 := by
  have hstop : Keeps d (d.stop (T.srcRec p)) [T.srcRec 0] := (Keeps.refl d _).stop
  have hput : Keeps (d.stop (T.srcRec p)) ((d.stop (T.srcRec p)).puts [(H.hrPhase p, 0), (H.exOn p, 0), (H.exOwn p, 0)])
      [H.hrPhase 0, H.exOn 0, H.exOwn 0] := .puts (.refl _ _)
  have heq : d.srcRecEnd p = ((d.stop (T.srcRec p)).puts [(H.hrPhase p, 0), (H.exOn p, 0), (H.exOwn p, 0)]).srcStart p 3 := by
    unfold Dev.srcRecEnd
    dsimp only
    rw [Dev.armed, if_pos (by simpa using hon), hstop.get (H.hrPhase p), if_pos hph]
  obtain ⟨hset, hpe, hcode, hdue, hk⟩ := ((d.stop (T.srcRec p)).puts [(H.hrPhase p, 0), (H.exOn p, 0), (H.exOwn p, 0)]).srcStart_shows hp 3
    ((hput.get _).trans ((hstop.get _).trans hpd))
  rw [heq]
  refine ⟨(hk.get _).trans ?_, hset, hpe, hcode, hdue⟩
  simp (disch := (simp only [hkey]; omega)) only [Dev.puts_cons, Dev.puts_nil, Dev.get_put_ne, Dev.get_put_self]
  rfl

end

example (d : Dev) : (d.hardRecover 3).get (H.await 3) = d.get (H.await 3) := (Dev.hardRecover_keeps (by decide) d).get _

end Sys2Proof.Machine

/-!
O58, the power role swap (R247-R261).
-/
namespace Sys2Proof.Machine

/-! ### Waits before a retry, the gates of an old sink (R247, R254, R256) -/

section
variable {d : Dev} {p : Nat} (hp : p < 24)
include hp

/-- An exchange that ends without t_c. -/
theorem Dev.swapQuit_shows {last : Nat} (outcome : Nat) (hl : last < 16) : (d.swapQuit p last outcome).get (F.PRT_SWAP_STAT_STEP p) = 0 ∧
    (d.swapQuit p last outcome).get (F.PRT_SWAP_STAT_LASTEND p) = last := by
  obtain ⟨hstep, hlast, -⟩ := d.swapOver_shows hp hl
  have hcmd := (d.swapOver p last).cmdEnd_keeps hp outcome
  have hex := ((d.swapOver p last).cmdEnd p outcome).exEndIn_keeps hp (d.get (H.prevState p))
  exact ⟨(hex.get _).trans ((hcmd.get _).trans hstep), (hex.get _).trans ((hcmd.get _).trans hlast)⟩

variable {t : Fld} (ht : t = T.backOff p ∨ t = T.prWait p) (hon : d.get t ≠ 0) (hstep : d.get (F.PRT_SWAP_STAT_STEP p) = 3)
include ht hon

/-- A fifth back-off is none. -/
theorem Dev.swapAgain_quits (hb : 4 < d.get (H.swBack p)) : (d.swapAgain p t).get (F.PRT_SWAP_STAT_STEP p) = 0 ∧
    (d.swapAgain p t).get (F.PRT_SWAP_STAT_LASTEND p) = 4 := by
  have hback : (d.stop t).get (H.swBack p) = d.get (H.swBack p) :=
    Dev.get_put_ne _ _ (by rcases ht with rfl | rfl <;> simp only [hkey] <;> omega)
  have heq : d.swapAgain p t = (d.stop t).swapQuit p 4 3 := by
    unfold Dev.swapAgain
    dsimp only
    rw [Dev.armed, if_pos (by simpa using hon), hback, if_pos hb]
  rw [heq]
  exact Dev.swapQuit_shows hp 3 (by decide)

include hstep

/-- The wait ends: collision avoidance runs again. -/
theorem Dev.swapAgain_starts (hb : d.get (H.swBack p) ≤ 4) : (d.swapAgain p t).get (F.PRT_SWAP_STAT_STEP p) = 1 ∧
    (d.swapAgain p t).get (T.cmdStart p) = (d.now + 1) % 2 ^ 64 ∧
    OnlyRegs d (d.swapAgain p t) [F.PRT_SWAP_STAT_STEP p, T.cmdStart p, t] := by
  have hback : (d.stop t).get (H.swBack p) = d.get (H.swBack p) :=
    Dev.get_put_ne _ _ (by rcases ht with rfl | rfl <;> simp only [hkey] <;> omega)
  have hthree : (d.stop t).get (F.PRT_SWAP_STAT_STEP p) = d.get (F.PRT_SWAP_STAT_STEP p) :=
    Dev.get_put_ne _ _ (by rcases ht with rfl | rfl <;> simp only [fkey, hkey] <;> omega)
  have heq : d.swapAgain p t = ((d.stop t).put (F.PRT_SWAP_STAT_STEP p) 1).arm (T.cmdStart p) 0 := by
    unfold Dev.swapAgain
    dsimp only
    rw [Dev.armed, if_pos (by simpa using hon), hback, if_neg (by omega), hthree, if_pos hstep]
  rw [heq]
  refine ⟨?_, Dev.get_put_self _ _ _, (((OnlyRegs.refl d _).put _ 0 (by simp)).put _ 1 (by simp)).put _ _ (by simp)⟩
  rw [Dev.arm]
  simp (disch := (simp only [fkey, hkey]; omega)) only [Dev.get_put_ne, Dev.get_put_self]
  rfl

end

section
variable {d : Dev} {p : Nat} (hp : p < 24)
include hp

/-- The gates of an old sink stop, and its guard takes the limits of vSafe5V. -/
theorem Dev.swapGates_stops (hon : d.get (T.swGates p) ≠ 0) (hg : d.gates p = 1 ∨ d.gates p = 2) : (d.swapGates p).gates p = 3 ∧
    (d.swapGates p).get (F.GRD_STAT_STOPWHY p) = 21 ∧ (d.swapGates p).get (H.grdSink p) = 0 ∧ (d.swapGates p).get (H.vexp p) = 500 := by
  have hstop : Keeps d (d.stop (T.swGates p)) [T.swGates 0] := (Keeps.refl d _).stop
  have hgates : (d.stop (T.swGates p)).gates p = d.gates p := hstop.get _
  have heq : d.swapGates p = ((d.stop (T.swGates p)).gateStop p 21 false).swapLimits p false := if_pos (by simpa [Dev.armed] using hon)
  obtain ⟨h3, hwhy⟩ := (d.stop (T.swGates p)).gateStop_stops hp 21 false (by rwa [hgates])
  have hset (e : Dev) : Keeps e (e.puts [(H.grdSink p, b2n false), (H.vexp p, 500), (H.keepLim p, 0)]) [H.grdSink 0, H.vexp 0, H.keepLim 0] :=
    .puts (.refl e _)
  have heff (e : Dev) := e.effUpdate_keeps hp
  rw [heq, Dev.swapLimits]
  refine ⟨((heff _).get _).trans (((hset _).get _).trans h3), ((heff _).get _).trans (((hset _).get _).trans hwhy),
    ((heff _).get _).trans ?_, ((heff _).get _).trans ?_⟩
  · simp (disch := (simp only [hkey]; omega)) only [Dev.puts_cons, Dev.puts_nil, Dev.get_put_ne, Dev.get_put_self]
    rfl
  · simp (disch := (simp only [hkey]; omega)) only [Dev.puts_cons, Dev.puts_nil, Dev.get_put_ne, Dev.get_put_self]
    rfl

end

example (d : Dev) : (d.effUpdate 3).get (T.swGates 3) = d.get (T.swGates 3) := (d.effUpdate_keeps (by decide)).get _

/-! ### Failures (R258) -/

/-- What may be written before a swap fails. -/
def swapFailFlds : List Fld := [T.psOff 0, T.psOn 0, T.swVbs 0, T.safe0v 0, T.pgto 0, F.PRT_PE_EVT_XFERFAIL 0, F.PRT_PE_STAT_HRCNT 0,
  F.PRT_PE_EVT_HARDRST 0]

section
variable {d : Dev} {p : Nat} (hp : p < 24)
include hp

/-- A swap that fails: the event or timer, and then ErrorRecovery with its code. -/
theorem Dev.swapFails_shows {e g : Dev} {code : Nat} (hacc : d.get (H.swAcc p) = 1) (hatt : d.att p ≠ 0) (hk : Keeps d e swapFailFlds)
    (hg : g = e.errRecover p 18 code) (h7 : 7 ≤ code) (h16 : code < 16) : g.att p = 9 ∧ g.get (F.PRT_SWAP_STAT_LASTEND p) = code ∧
      g.get (F.PRT_SWAP_STAT_STEP p) = 0 ∧ g.get (F.PRT_SWAP_STAT_FAIL p) = 1 ∧
      g.get (F.PRT_SWAP_STAT_SWCNT p) = d.get (F.PRT_SWAP_STAT_SWCNT p) := by
  have hacc' : e.bit (H.swAcc p) = true := by rw [Dev.bit, hk.get (H.swAcc p), hacc]; rfl
  have hatt' : e.att p ≠ 0 := by rwa [Dev.att, hk.get (F.PRT_ATT_STAT_STATE p)]
  subst hg
  obtain ⟨h9, hlast, hstep, hfail, hcnt⟩ := e.errRecover_swap hp 18 hacc' hatt' h7 h16
  exact ⟨h9, hlast, hstep, hfail, hcnt.trans (hk.get _)⟩

variable (hacc : d.get (H.swAcc p) = 1)
include hacc

omit hacc in
theorem Dev.psOffEnd_fails (hon : d.get (T.psOff p) ≠ 0) : ∃ e, Keeps d e swapFailFlds ∧ d.psOffEnd p = e.errRecover p 18 8 :=
  ⟨_, (Keeps.refl d _).stop (f := T.psOff p), if_pos (by simpa [Dev.armed] using hon)⟩

omit hacc in
theorem Dev.psOnEnd_waits (hon : d.get (T.psOn p) ≠ 0) (hstep : d.get (F.PRT_SWAP_STAT_STEP p) = 7) :
    ∃ e, Keeps d e swapFailFlds ∧ d.psOnEnd p = e.errRecover p 18 9 := by
  have hstop : Keeps d (d.stop (T.psOn p)) swapFailFlds := (Keeps.refl d _).stop
  refine ⟨_, hstop, ?_⟩
  unfold Dev.psOnEnd
  dsimp only
  rw [Dev.armed, if_pos (by simpa using hon), hstop.get (F.PRT_SWAP_STAT_STEP p), if_pos hstep]

omit hacc in
theorem Dev.psOnEnd_unsettled (hon : d.get (T.psOn p) ≠ 0) (hstep : d.get (F.PRT_SWAP_STAT_STEP p) = 9) (htx : d.txs p = []) :
    ∃ e, Keeps d e swapFailFlds ∧ d.psOnEnd p = e.errRecover p 18 11 := by
  have hstop : Keeps d (d.stop (T.psOn p)) swapFailFlds := (Keeps.refl d _).stop
  refine ⟨_, hstop.peEvt hp (evt := F.PRT_PE_EVT_XFERFAIL p), ?_⟩
  unfold Dev.psOnEnd
  dsimp only
  rw [Dev.armed, if_pos (by simpa using hon), hstop.get (F.PRT_SWAP_STAT_STEP p), hstep, hstop.txs p, htx]
  rfl

omit hacc in
theorem Dev.swapVbsEnd_fails (hon : d.get (T.swVbs p) ≠ 0) : ∃ e, Keeps d e swapFailFlds ∧ d.swapVbsEnd p = e.errRecover p 18 10 :=
  ⟨_, (Keeps.refl d _).stop (f := T.swVbs p), if_pos (by simpa [Dev.armed] using hon)⟩

theorem Dev.safe0vEnd_fails (hon : d.get (T.safe0v p) ≠ 0) : ∃ e, Keeps d e swapFailFlds ∧ d.safe0vEnd p = e.errRecover p 18 10 := by
  have hstop : Keeps d (d.stop (T.safe0v p)) swapFailFlds := (Keeps.refl d _).stop
  refine ⟨_, hstop, ?_⟩
  unfold Dev.safe0vEnd
  dsimp only
  rw [Dev.armed, if_pos (by simpa using hon), Dev.bit, hstop.get (H.swAcc p), hacc]
  rfl

theorem Dev.pgtoEnd_swap (hon : d.get (T.pgto p) ≠ 0) : ∃ e, Keeps d e swapFailFlds ∧ d.pgtoEnd p = e.errRecover p 18 11 := by
  have hevt : Keeps d ((d.stop (T.pgto p)).peEvt p (F.PRT_PE_EVT_XFERFAIL p)) swapFailFlds := .peEvt (.stop (.refl d _)) hp
  refine ⟨_, hevt, ?_⟩
  unfold Dev.pgtoEnd
  dsimp only
  rw [Dev.armed, if_pos (by simpa using hon), Dev.bit, hevt.get (H.swAcc p), hacc]
  rfl

theorem Dev.rxHardReset_swap (hmode : d.mode ≠ 2) (hatt : d.attached p = true) (hpd : d.get (H.pdOn p) = 1) :
    ∃ e, Keeps d e swapFailFlds ∧ d.rxHardReset p = e.errRecover p 18 12 := by
  refine ⟨_, ((Keeps.refl d _).put (f := F.PRT_PE_STAT_HRCNT p) (min 3 (d.get (F.PRT_PE_STAT_HRCNT p) + 1))).peEvt hp
    (evt := F.PRT_PE_EVT_HARDRST p), ?_⟩
  unfold Dev.rxHardReset
  rw [if_neg (by simp [hmode, hatt, Dev.bit, hpd]), if_pos (by simp [Dev.bit, hacc])]

end

example (d : Dev) : (d.stop (T.psOff 3)).txs 3 = d.txs 3 := ((Keeps.refl d [T.psOff 0]).stop).txs 3

/-! ### The partner's PR_Swap (R249-R252) -/

/-- What the start of a swap's exchange keeps of its settings. -/
def latchFlds : List Fld := [H.swIe 0, H.swRetryMax 0]

/-- What an ask of the swap and its default write. -/
def swapAskFlds : List Fld := askRestFlds ++ txFlds ++ [F.PRT_SWAP_STAT_LASTEND 0, F.PRT_SWAP_STAT_STEP 0]

section
variable {d e : Dev} {p : Nat} (hp : p < 24)
include hp

theorem Dev.swapLatch_keeps (d : Dev) : Keeps d (d.swapLatch p) latchFlds := .ite (.refl d _) (.puts (.refl d _))

theorem Dev.decideSwap_keeps (d : Dev) (act arg : Nat) : Keeps d (d.decide_ p 5 act arg) swapAskFlds := by
  have hreply (v : Nat) : Keeps d (d.swapReply p v) swapAskFlds := by
    have hlast : Keeps d (if v = 1 then d.put (F.PRT_SWAP_STAT_LASTEND p) 2 else d) swapAskFlds := .ite (.put (.refl d _) 2) (.refl d _)
    exact .ite (d.txSop_keeps hp 3 [] 8).mono (.andThen (.put hlast 0) (Dev.txSop_keeps _ hp _ [] 31))
  exact hreply _

variable (hk : Keeps d e (rxFlds ++ latchFlds))
include hk

theorem Keeps.ownAwaits : e.ownAwaits p = d.ownAwaits p := by
  simp only [Dev.ownAwaits, Dev.bit, hk.get (H.exOn p), hk.get (H.exOwn p), hk.get (H.await p), hk.get (H.vdmWhat p), hk.txs p,
    hk.get (H.xferOn p)]

theorem Keeps.swapSent : e.swapSent p = d.swapSent p := by
  simp only [Dev.swapSent, hk.get (F.PRT_SWAP_STAT_STEP p)]

end

section
variable {d : Dev} {p : Nat} (hp : p < 24) (hdr : Nat)
include hp

/-- The port as the rows of R249 find it. -/
theorem Dev.heard_latch_keeps : Keeps d ((d.heard p hdr).swapLatch p) (rxFlds ++ latchFlds) :=
  .andThen (d.heard_keeps hp hdr).mono (Dev.swapLatch_keeps hp _)

/-- Row 2: the own PR_Swap has been sent. -/
theorem Dev.rxPrSwap_sent (hstep : d.get (F.PRT_SWAP_STAT_STEP p) = 2) : d.sends ((d.heard p hdr).rxPrSwap p) p ⟨0, 12, false, [], 0, 0⟩ ∧
    ((d.heard p hdr).rxPrSwap p).get (F.PRT_SWAP_STAT_COLL p) = 1 := by
  have hk := d.heard_latch_keeps hp hdr
  have heq : (d.heard p hdr).rxPrSwap p = (((d.heard p hdr).swapLatch p).txSop p 12 [] 0).swapEvt p (F.PRT_SWAP_STAT_COLL p) := by
    unfold Dev.rxPrSwap
    dsimp only
    rw [Keeps.swapSent hp hk, Dev.swapSent, hstep]
    rfl
  have hsent := ((d.heard p hdr).swapLatch p).tx_sends hp ⟨0, 12, false, [], 0, 0⟩
  have hevt (e : Dev) : Keeps e (e.swapEvt p (F.PRT_SWAP_STAT_COLL p)) [F.PRT_SWAP_STAT_COLL 0] := (Keeps.refl e _).swapEvt hp
  rw [heq]
  rw [Dev.sends, hk.txs p] at hsent
  exact ⟨((hevt _).txs p).trans hsent, Dev.event_self _ _ _ (by omega) (by simp only [Fld.quiet_iff, fkey]; omega) rfl⟩

/-- A PR_Swap that is to be asked for: the exchange begins. -/
def Dev.swapReceived (d : Dev) (p : Nat) : Dev :=
  (((d.askCancel p).exBegin p false 1600).puts [(F.PRT_SWAP_STAT_STEP p, 4), (F.PRT_SWAP_STAT_INIT p, 0)]).setPe p 12

variable (hstep : d.get (F.PRT_SWAP_STAT_STEP p) ≠ 2)
include hstep

/-- Row 3: another own exchange awaits its reply. -/
theorem Dev.rxPrSwap_awaits (haw : d.ownAwaits p = true) : d.sends ((d.heard p hdr).rxPrSwap p) p ⟨0, 12, false, [], 38, 0⟩ ∧
    ((d.heard p hdr).rxPrSwap p).get (H.swAns p) = 1 := by
  have hk := d.heard_latch_keeps hp hdr
  have heq : (d.heard p hdr).rxPrSwap p = (((d.heard p hdr).swapLatch p).set1 (H.swAns p)).txSop p 12 [] 38 := by
    unfold Dev.rxPrSwap
    dsimp only
    rw [Keeps.swapSent hp hk, Keeps.ownAwaits hp hk, haw, Dev.swapSent, if_neg (by simpa using hstep), if_pos rfl]
  have hset : Keeps ((d.heard p hdr).swapLatch p) (((d.heard p hdr).swapLatch p).set1 (H.swAns p)) [H.swAns 0] := (Keeps.refl _ _).set1
  have htx := (((d.heard p hdr).swapLatch p).set1 (H.swAns p)).txSop_keeps hp 12 [] 38
  have hsent := (((d.heard p hdr).swapLatch p).set1 (H.swAns p)).tx_sends hp ⟨0, 12, false, [], 38, 0⟩
  rw [heq]
  rw [Dev.sends, hset.txs p, hk.txs p] at hsent
  exact ⟨hsent, (htx.get _).trans (Dev.get_put_self _ _ _)⟩

omit hp hstep in
/-- With no exchange in progress none of its own awaits a reply. -/
theorem Dev.ownAwaits_none (hon : d.get (H.exOn p) = 0) : d.ownAwaits p = false := by simp [Dev.ownAwaits, Dev.bit, hon]

/-- What forbids the swap at the port (R251). -/
def Dev.swapBars (d : Dev) (p : Nat) : Bool :=
  !d.explicit p || d.epr p || !d.bit (F.PRT_SWAP_CTRL_RXEN p) || (d.get (F.PRT_CTRL_ROLE p) == 1 && d.isSrc p) ||
    (d.get (F.PRT_CTRL_ROLE p) == 2 && !d.isSrc p)

omit hstep in
/-- The reception leaves it. -/
theorem Dev.swapBars_heard : (!((d.heard p hdr).swapLatch p).explicit p || ((d.heard p hdr).swapLatch p).epr p ||
    !((d.heard p hdr).swapLatch p).bit (F.PRT_SWAP_CTRL_RXEN p) ||
    ((d.heard p hdr).get (F.PRT_CTRL_ROLE p) == 1 && (if (d.heard p hdr).isSrc p then 2 else 1) == 2) ||
    ((d.heard p hdr).get (F.PRT_CTRL_ROLE p) == 2 && (if (d.heard p hdr).isSrc p then 2 else 1) == 1)) = d.swapBars p := by
  have hh := d.heard_keeps hp hdr
  have hk := d.heard_latch_keeps hp hdr
  have hepr : ((d.heard p hdr).swapLatch p).epr p = d.epr p := by rw [Dev.epr, Dev.bit, hk.get (F.PRT_PE_STAT_EPR p)]; rfl
  have hrx : ((d.heard p hdr).swapLatch p).bit (F.PRT_SWAP_CTRL_RXEN p) = d.bit (F.PRT_SWAP_CTRL_RXEN p) := by
    rw [Dev.bit, hk.get (F.PRT_SWAP_CTRL_RXEN p)]; rfl
  rw [hk.explicit hp, hepr, hrx, hh.get (F.PRT_CTRL_ROLE p), hh.isSrc hp, Dev.swapBars]
  cases d.isSrc p <;> rfl

omit hstep in
/-- At a port with no exchange in progress the settings decide. -/
theorem Dev.rxPrSwap_free (hstep : d.get (F.PRT_SWAP_STAT_STEP p) ≠ 2) (hon : d.get (H.exOn p) = 0) :
    ((d.heard p hdr).swapLatch p).swapSent p = false ∧ ((d.heard p hdr).swapLatch p).ownAwaits p = false := by
  have hk := d.heard_latch_keeps hp hdr
  exact ⟨(Keeps.swapSent hp hk).trans (by simpa [Dev.swapSent] using hstep), (Keeps.ownAwaits hp hk).trans (Dev.ownAwaits_none hon)⟩

/-- Row 4: it is rejected. -/
theorem Dev.rxPrSwap_rejected (hon : d.get (H.exOn p) = 0) (hno : d.swapBars p = true) :
    d.sends ((d.heard p hdr).rxPrSwap p) p ⟨0, 4, false, [], 38, 0⟩ ∧ ((d.heard p hdr).rxPrSwap p).get (H.swAns p) = 1 ∧
      ((d.heard p hdr).rxPrSwap p).get (F.PRT_SWAP_STAT_LASTEND p) = 2 ∧ ((d.heard p hdr).rxPrSwap p).get (F.PRT_SWAP_STAT_INIT p) = 0 := by
  have hk := d.heard_latch_keeps hp hdr
  obtain ⟨hsent, hown⟩ := Dev.rxPrSwap_free hp hdr hstep hon
  have heq : (d.heard p hdr).rxPrSwap p = (((d.heard p hdr).swapLatch p).puts [(F.PRT_SWAP_STAT_LASTEND p, 2), (F.PRT_SWAP_STAT_INIT p, 0),
      (H.swAns p, 1)]).txSop p 4 [] 38 := by
    unfold Dev.rxPrSwap
    dsimp only
    rw [hsent, hown, if_neg Bool.false_ne_true, if_neg Bool.false_ne_true, Dev.swapBars_heard hp hdr, if_pos hno]
  have hset : Keeps d (((d.heard p hdr).swapLatch p).puts [(F.PRT_SWAP_STAT_LASTEND p, 2), (F.PRT_SWAP_STAT_INIT p, 0), (H.swAns p, 1)])
      (rxFlds ++ latchFlds ++ [F.PRT_SWAP_STAT_LASTEND 0, F.PRT_SWAP_STAT_INIT 0, H.swAns 0]) := .puts hk.mono
  have htx (e : Dev) := e.txSop_keeps hp 4 [] 38
  have hsends := (((d.heard p hdr).swapLatch p).puts [(F.PRT_SWAP_STAT_LASTEND p, 2), (F.PRT_SWAP_STAT_INIT p, 0),
    (H.swAns p, 1)]).tx_sends hp ⟨0, 4, false, [], 38, 0⟩
  rw [Dev.sends, hset.txs p] at hsends
  rw [heq]
  refine ⟨hsends, ((htx _).get _).trans ?_, ((htx _).get _).trans ?_, ((htx _).get _).trans ?_⟩ <;>
  · simp (disch := (simp only [fkey, hkey]; omega)) only [Dev.puts_cons, Dev.puts_nil, Dev.get_put_ne, Dev.get_put_self]
    rfl

/-- Rows 5 and 6: the swap is asked for. -/
theorem Dev.rxPrSwap_asks (hon : d.get (H.exOn p) = 0) (hno : d.swapBars p = false) (hcmds : d.cmds p = []) :
    ((d.heard p hdr).rxPrSwap p).get (F.PRT_PE_STAT_ASKCODE p) = 5 ∧ ((d.heard p hdr).rxPrSwap p).get (F.PRT_SWAP_STAT_INIT p) = 0 ∧
      ((d.heard p hdr).rxPrSwap p).get (H.exOn p) = 1 := by
  have hk := d.heard_latch_keeps hp hdr
  obtain ⟨hsent, hown⟩ := Dev.rxPrSwap_free hp hdr hstep hon
  have heq : (d.heard p hdr).rxPrSwap p = (((d.heard p hdr).swapLatch p).swapReceived p).askPost p 5
      ((((d.heard p hdr).swapLatch p).swapReceived p).get (F.PRT_HOLDSUM_SUM p) % 2 ^ 32) 0 := by
    unfold Dev.rxPrSwap
    dsimp only
    rw [hsent, hown, if_neg Bool.false_ne_true, if_neg Bool.false_ne_true, Dev.swapBars_heard hp hdr, if_neg (by simp [hno]),
      (d.heard_keeps hp hdr).cmds p, hcmds, if_neg (by split <;> simp)]
    rfl
  have hcancel := ((d.heard p hdr).swapLatch p).askCancel_keeps hp
  have hbegun : ((((d.heard p hdr).swapLatch p).askCancel p).exBegin p false 1600).get (H.exOn p) = 1 := by
    have hoff : (((d.heard p hdr).swapLatch p).askCancel p).bit (H.exOn p) = false := by
      rw [Dev.bit, hcancel.get (H.exOn p), hk.get (H.exOn p), hon]; rfl
    rw [Dev.exBegin, hoff, if_neg Bool.false_ne_true]
    simp (disch := (simp only [hkey]; omega)) only [Dev.puts_cons, Dev.puts_nil, Dev.get_put_ne, Dev.get_put_self]
    rfl
  have hput (e : Dev) : Keeps e ((e.puts [(F.PRT_SWAP_STAT_STEP p, 4), (F.PRT_SWAP_STAT_INIT p, 0)]).setPe p 12)
      [F.PRT_SWAP_STAT_STEP 0, F.PRT_SWAP_STAT_INIT 0, F.PRT_PE_STAT_STATE 0] := ((Keeps.refl e _).puts).put 12
  have hask (e : Dev) (w : Nat) := e.askPost_keeps hp 5 w 0 (fun e => Dev.decideSwap_keeps hp e) (by decide)
  rw [heq]
  refine ⟨Dev.askPost_code _ hp 5 _ 0 (fun e => Dev.decideSwap_keeps hp e) (by decide) (by decide), ((hask _ _).get _).trans ?_,
    ((hask _ _).get _).trans (((hput _).get _).trans hbegun)⟩
  unfold Dev.swapReceived Dev.setPe
  simp (disch := (simp only [fkey]; omega)) only [Dev.puts_cons, Dev.puts_nil, Dev.get_put_ne, Dev.get_put_self]
  rfl

end

example (d : Dev) : ((d.heard 3 0).swapLatch 3).get (H.await 3) = d.get (H.await 3) := (d.heard_latch_keeps (by decide) 0).get _

/-! ### The start of a swapped source (R257) -/

/-- tSwapSourceStart ends: Source_Capabilities may follow. -/
theorem Dev.swapStart_permits {d : Dev} {p : Nat} (hon : d.get (T.swStart p) ≠ 0) : (d.swapStart p).get (H.swCapWait p) = 0 ∧
    (d.swapStart p).get (T.capsReady p) = (d.now + 1) % 2 ^ 64 ∧ (d.swapStart p).get (T.swStart p) = 0 ∧
    OnlyRegs d (d.swapStart p) [H.swCapWait p, T.capsReady p, T.swStart p] := by
  have heq : d.swapStart p = ((d.stop (T.swStart p)).clr (H.swCapWait p)).arm (T.capsReady p) 0 :=
    if_pos (by simpa [Dev.armed] using hon)
  rw [heq]
  refine ⟨?_, Dev.get_put_self _ _ _, ?_, (((OnlyRegs.refl d _).put _ 0 (by simp)).put _ 0 (by simp)).put _ _ (by simp)⟩
  all_goals
    unfold Dev.arm Dev.clr Dev.stop
    simp (disch := (simp only [hkey]; omega)) only [Dev.get_put_ne, Dev.get_put_self]
    rfl

end Sys2Proof.Machine

/-!
O58, assembled from the lemmas about its commands.
-/
namespace Sys2Proof.Machine

section
variable {s : State} {p : Fin 24} (hcalm : s.calm p.val = true)
include hcalm

/-- Each failure of an accepted swap, with its code (R258). -/
theorem swapFails_ends {i : Instr} {code : Nat} (hacc : s.dev.get (H.swAcc p.val) = 1) (hatt : s.dev.att p.val ≠ 0)
    (hi : (i = .tpsSourceOffExpiry p ∧ s.dev.get (T.psOff p.val) ≠ 0 ∧ code = 8) ∨
      (i = .tpsSourceOnExpiry p ∧ s.dev.get (T.psOn p.val) ≠ 0 ∧ s.dev.get (F.PRT_SWAP_STAT_STEP p.val) = 7 ∧ code = 9) ∨
      (i = .tpsSourceOnExpiry p ∧ s.dev.get (T.psOn p.val) ≠ 0 ∧ s.dev.get (F.PRT_SWAP_STAT_STEP p.val) = 9 ∧
        s.dev.txs p.val = [] ∧ code = 11) ∨
      (i = .swapVbsTimeout p ∧ s.dev.get (T.swVbs p.val) ≠ 0 ∧ code = 10) ∨
      (i = .tsafe0vExpiry p ∧ s.dev.get (T.safe0v p.val) ≠ 0 ∧ code = 10) ∨
      (i = .pgtoExpiry p ∧ s.dev.get (T.pgto p.val) ≠ 0 ∧ code = 11) ∨ (i = .rxHardReset p ∧ s.dev.mode ≠ 2 ∧
        s.dev.attached p.val = true ∧ s.dev.get (H.pdOn p.val) = 1 ∧ code = 12)) :
    EndsDev i s (fun e => e.att p.val = 9 ∧ e.get (F.PRT_SWAP_STAT_LASTEND p.val) = code ∧
      e.get (F.PRT_SWAP_STAT_STEP p.val) = 0 ∧ e.get (F.PRT_SWAP_STAT_FAIL p.val) = 1 ∧
      e.get (F.PRT_SWAP_STAT_SWCNT p.val) = s.dev.get (F.PRT_SWAP_STAT_SWCNT p.val)) := by
  have hend {f : Dev → Dev} {code : Nat} (hx : exec i s = s.okAt p.val f)
      (hf : ∃ e, Keeps s.dev e swapFailFlds ∧ f s.dev = e.errRecover p.val 18 code) (h7 : 7 ≤ code) (h16 : code < 16) :
      EndsDev i s (fun e => e.att p.val = 9 ∧ e.get (F.PRT_SWAP_STAT_LASTEND p.val) = code ∧
        e.get (F.PRT_SWAP_STAT_STEP p.val) = 0 ∧ e.get (F.PRT_SWAP_STAT_FAIL p.val) = 1 ∧
        e.get (F.PRT_SWAP_STAT_SWCNT p.val) = s.dev.get (F.PRT_SWAP_STAT_SWCNT p.val)) := by
    obtain ⟨e, hk, heq⟩ := hf
    exact .of_okAt hx hcalm rfl (Dev.swapFails_shows p.isLt hacc hatt hk heq h7 h16)
  rcases hi with ⟨rfl, hon, rfl⟩ | ⟨rfl, hon, hstep, rfl⟩ | ⟨rfl, hon, hstep, htx, rfl⟩ | ⟨rfl, hon, rfl⟩ | ⟨rfl, hon, rfl⟩ | ⟨rfl, hon, rfl⟩ |
    ⟨rfl, hmode, hattd, hpd, rfl⟩
  · exact hend (f := (·.psOffEnd p.val)) rfl (Dev.psOffEnd_fails p.isLt hon) (by decide) (by decide)
  · exact hend (f := (·.psOnEnd p.val)) rfl (Dev.psOnEnd_waits p.isLt hon hstep) (by decide) (by decide)
  · exact hend (f := (·.psOnEnd p.val)) rfl (Dev.psOnEnd_unsettled p.isLt hon hstep htx) (by decide) (by decide)
  · exact hend (f := (·.swapVbsEnd p.val)) rfl (Dev.swapVbsEnd_fails p.isLt hon) (by decide) (by decide)
  · exact hend (f := (·.safe0vEnd p.val)) rfl (Dev.safe0vEnd_fails p.isLt hacc hon) (by decide) (by decide)
  · exact hend (f := (·.pgtoEnd p.val)) rfl (Dev.pgtoEnd_swap p.isLt hacc hon) (by decide) (by decide)
  · exact hend (f := (·.rxHardReset p.val)) rfl (Dev.rxHardReset_swap p.isLt hacc hmode hattd hpd) (by decide) (by decide)

end

section
variable {s : State} {p : Fin 24} {hdr : BitVec 16} (hh : s.hears p.val hdr.toNat = true)
include hh

/-- A PR_Swap that a port hears acts on what its note has left. -/
theorem EndsDev.of_rxPrSwap {P : Dev → Prop} (hP : P ((s.dev.heard p.val hdr.toNat).rxPrSwap p.val)) : EndsDev (.rxPrSwap p hdr) s P :=
  .of_heard (f := (·.rxPrSwap p.val)) p.isLt rfl hh hP

end

example (d : Dev) : (d.setIset 3 0).txs 3 = d.txs 3 := (d.setIset_keeps (by decide) 0).txs 3

/-- Settles O58: each timer, level and message goes through the lemma about the function it runs. -/
theorem transitionsRecoveriesAndSwapsComplete : Obligations.TransitionsRecoveriesAndSwapsComplete := by
  unfold Obligations.TransitionsRecoveriesAndSwapsComplete
  refine ⟨?_, ?_, ?_, ?_, ?_, ?_, ?_, ?_, fun s p i code hcalm hacc hatt hi => swapFails_ends hcalm hacc hatt hi, ?_, ?_⟩
  · intro s p v hcalm hon hv
    refine ⟨fun hacc hres => ?_, fun hacc => ?_⟩
    · exact .of_okAt (f := (·.srcTransEnd p.val)) rfl hcalm rfl (Dev.srcTransEnd_contract p.isLt hon hv hacc hres)
    · exact .of_okAt (f := (·.srcTransEnd p.val)) rfl hcalm rfl (Dev.srcTransEnd_swap p.isLt hon hacc)
  · intro s p hcalm hon hhr hacc
    refine ⟨fun hreq hi hx => ?_, fun hreq hepr => ?_⟩
    · exact .of_okAt (f := fun d => (d.rampEnd p.val).vbsReview p.val) rfl hcalm rfl (Dev.rampEnd_settles p.isLt hon hhr hacc hreq hi hx)
    · exact .of_okAt (f := fun d => (d.rampEnd p.val).vbsReview p.val) rfl hcalm rfl (Dev.rampEnd_request p.isLt hon hhr hacc hreq hepr)
  · intro s p hcalm
    refine ⟨fun hset hmask hkind => ?_, fun hsnk hmask hend => ?_, fun hon hacc hatt hkind => ?_, fun hacc hsrc hval => ?_, fun hacc hsnk => ?_,
      fun hpg hacc hsnk hon hreq => ?_⟩
    · exact .of_okAt (f := (·.settled p.val)) rfl hcalm rfl (Dev.settled_closes p.isLt hset hmask hkind)
    · exact .of_okAt (f := (·.settled p.val)) rfl hcalm rfl (Dev.settled_mask hsnk hmask hend)
    · exact .of_okAt (f := (·.pgtoEnd p.val)) rfl hcalm rfl (Dev.pgtoEnd_fails p.isLt hon hacc hatt hkind)
    · exact .of_okAt (f := (·.pgLost p.val)) rfl hcalm rfl (Dev.pgLost_source p.isLt hacc hsrc hval)
    · exact .of_okAt (f := (·.pgLost p.val)) rfl hcalm rfl (Dev.pgLost_sink p.isLt hacc hsnk)
    · exact .of_okAt (f := (·.pgBack p.val)) rfl hcalm rfl (Dev.pgBack_sink p.isLt hpg hacc hsnk hon hreq)
  · intro s p i hcalm hsrc hval hkind hx
    exact .of_okAt (f := (·.ppsStep p.val i)) rfl hcalm rfl (Dev.ppsStep_shows s.dev i hsrc hval hkind hx)
  · intro s p hcalm hph
    refine ⟨fun hsnk hrun => ?_, fun hsnk => ?_, fun c l hrun hcmds => ?_⟩
    · exact .of_okAt (f := (·.hardSent p.val)) rfl hcalm rfl (Dev.hardSent_source p.isLt hph hsnk hrun)
    · exact .of_okAt (f := (·.hardSent p.val)) rfl hcalm rfl (Dev.hardSent_sink p.isLt hph hsnk)
    · exact .of_okAt (f := (·.hardSent p.val)) rfl hcalm rfl (Dev.hardSent_done p.isLt hph hrun hcmds)
  · intro s p hcalm
    refine ⟨fun hon hph => ?_, fun hon hacc hph hatt => ?_, fun hon hph hpd => ?_⟩
    · exact .of_okAt (f := (·.psHardEnd p.val)) rfl hcalm rfl (Dev.psHardEnd_falls p.isLt hon hph)
    · exact .of_okAt (f := (·.safe0vEnd p.val)) rfl hcalm rfl (Dev.safe0vEnd_hard p.isLt hon hacc hph hatt)
    · exact .of_okAt (f := (·.srcRecEnd p.val)) rfl hcalm rfl (Dev.srcRecEnd_starts p.isLt hon hph hpd)
  · intro s p hcalm hstep
    refine ⟨fun hon hb => ?_, fun hon hb => ?_, fun hon hb => ?_⟩
    · exact .of_okAt (f := fun d => d.swapAgain p.val (T.backOff p.val)) rfl hcalm rfl (Dev.swapAgain_quits p.isLt (.inl rfl) hon hb)
    · exact .of_okAt (f := fun d => d.swapAgain p.val (T.prWait p.val)) rfl hcalm rfl (Dev.swapAgain_starts p.isLt (.inr rfl) hon hstep hb)
    · exact .of_okAt (f := fun d => d.swapAgain p.val (T.backOff p.val)) rfl hcalm rfl (Dev.swapAgain_starts p.isLt (.inl rfl) hon hstep hb)
  · intro s p hcalm hon hg
    exact .of_okAt (f := (·.swapGates p.val)) rfl hcalm rfl (Dev.swapGates_stops p.isLt hon hg)
  · intro s p hcalm hon
    exact .of_okAt (f := (·.swapStart p.val)) rfl hcalm rfl (Dev.swapStart_permits hon)
  · intro s p hdr hh
    refine ⟨fun hstep => ?_, fun hstep haw => ?_, fun hstep hon hno => ?_, fun hstep hon hexp hepr hrx hrole hcmds => ?_⟩
    · exact .of_rxPrSwap hh (Dev.rxPrSwap_sent p.isLt _ hstep)
    · exact .of_rxPrSwap hh (Dev.rxPrSwap_awaits p.isLt _ hstep haw)
    · have hbars : s.dev.swapBars p.val = true := by
        rcases hno with h | h | h | ⟨h, hs⟩ | ⟨h, hs⟩ <;> simp [Dev.swapBars, Dev.bit, *]
      exact .of_rxPrSwap hh (Dev.rxPrSwap_rejected p.isLt _ hstep hon hbars)
    · have hbars : s.dev.swapBars p.val = false := by simp [Dev.swapBars, Dev.bit, *]
      exact .of_rxPrSwap hh (Dev.rxPrSwap_asks p.isLt _ (by omega) hon hbars hcmds)

end Sys2Proof.Machine

/-!
O57, the frame on its way (R194, R195) and the capabilities of a source (R204).
-/
namespace Sys2Proof.Machine

/-! ### The GoodCRC -/

theorem Dev.awaitReply_keeps (d : Dev) {p : Nat} (hp : p < 24) (what : Nat) : Keeps d (d.awaitReply p what) [H.await 0, T.senderResp 0] :=
  ((Keeps.refl d _).put what).arm _

section
variable (d : Dev) {p : Nat} (hp : p < 24) (f : TxFrame) (l : List TxFrame)
include hp

/-- A frame done with has left the line. -/
theorem Dev.txDone_txs : (d.txDone p f l).txs p = l :=
  (Dev.txArm_keeps _ hp).txs p |>.trans (Dev.setTxs_txs d l)

theorem Dev.txDone_now : (d.txDone p f l).now = d.now := (Dev.txArm_keeps _ hp).now

/-- Its MessageID counter has moved on. -/
theorem Dev.txDone_mid (hf : f.sop ≤ 2) : (d.txDone p f l).get (H.txMid p f.sop) = (d.get (H.txMid p f.sop) + 1) % 8 := by
  have hset : Keeps d ((d.setTxs p l).clr (H.firstKind p)) [frameMark, H.firstKind 0] := (d.setTxs_keeps l).mono.put 0
  refine ((Dev.txArm_keeps _ hp).get _).trans ?_
  rw [Dev.inc, Dev.get_put_self, hset.get (H.txMid p f.sop)]
  rfl

/-- A field of an earlier key than the counters'. -/
theorem Dev.txDone_capsCnt : (d.txDone p f l).get (H.capsCnt p) = d.get (H.capsCnt p) := by
  have hset : Keeps d ((d.setTxs p l).clr (H.firstKind p)) [frameMark, H.firstKind 0] := (d.setTxs_keeps l).mono.put 0
  refine ((Dev.txArm_keeps _ hp).get _).trans ((Dev.get_put_ne _ _ ?_).trans (hset.get _))
  simp only [hkey]
  omega

/-- What follows the GoodCRC of a message that nothing awaits. -/
theorem Dev.acked_keeps (hk : f.kind = 0) : Keeps d (d.acked p f) exEndFlds := by
  have hidle : Keeps d (d.idleSched p) exEndFlds := .ite (.refl d _) (d.sched_keeps hp).mono
  unfold Dev.acked
  rw [hk]
  exact .ite (d.exEndIn_keeps hp _) hidle

variable (htx : d.txs p = f :: l)
include htx

theorem Dev.rxGoodCrc_plain (hk : f.kind = 0) : (d.rxGoodCrc p).txs p = l ∧
    (f.sop ≤ 2 → (d.rxGoodCrc p).get (H.txMid p f.sop) = (d.get (H.txMid p f.sop) + 1) % 8) := by
  have hack := d.lineAck_keeps hp
  have hrest := ((d.lineAck p).txDone p f l).acked_keeps hp f hk
  have heq : d.rxGoodCrc p = ((d.lineAck p).txDone p f l).acked p f := by rw [Dev.rxGoodCrc, htx]
  rw [heq]
  refine ⟨(hrest.txs p).trans ((d.lineAck p).txDone_txs hp f l), fun hf => (hrest.get _).trans ?_⟩
  rw [(d.lineAck p).txDone_mid hp f l hf, hack.get (H.txMid p f.sop)]

/-- A Request acknowledged awaits its reply. -/
theorem Dev.rxGoodCrc_request (hk : f.kind = 4) : (d.rxGoodCrc p).txs p = l ∧ (d.rxGoodCrc p).get (H.await p) = 2 ∧
    (d.rxGoodCrc p).get (T.senderResp p) = (d.now + 1920001) % 2 ^ 64 := by
  have hack := d.lineAck_keeps hp
  have heq : d.rxGoodCrc p = ((d.lineAck p).txDone p f l).awaitReply p 2 := by
    rw [Dev.rxGoodCrc, htx]
    dsimp only
    rw [Dev.acked, hk]
    rfl
  have hawait := ((d.lineAck p).txDone p f l).awaitReply_keeps hp 2
  rw [heq]
  refine ⟨(hawait.txs p).trans ((d.lineAck p).txDone_txs hp f l), ?_, ?_⟩ <;> unfold Dev.awaitReply
  · rw [Dev.arm]
    simp (disch := (simp only [hkey]; omega)) only [Dev.get_put_ne, Dev.get_put_self]
    rfl
  · rw [Dev.arm, Dev.get_put_self, Dev.put_now, Dev.txDone_now _ hp, hack.now]
    rfl

omit hp htx in
theorem Dev.lineUse_only (til : Nat) : OnlyRegs d (d.lineUse p til) (txFields p) := by
  have hset : OnlyRegs d (d.puts [(H.lineBusy p, 1), (T.lineFree p, til + 1), (H.blankTo p, til + 6400)]) (txFields p) :=
    .puts (.refl d _) _ (by simp [txFields])
  exact (OnlyRegs.ite (hset.put _ _ (by simp [txFields])) hset).trans ((Dev.ccRecount_frame _ p).mono (by simp [txFields]))

omit hp htx in
theorem Dev.txArm_only : OnlyRegs d (d.txArm p) (txFields p) := by
  unfold Dev.txArm
  split
  · exact .put (.refl d _) _ 0 (by simp [txFields])
  · have hrx (from_ til : Nat) : OnlyRegs d (((d.put (H.txFrom p) (from_ + 1)).lineUse p (til + 1024)).put (T.rx p) (til + 64000 + 1))
        (txFields p) := .put (.trans (.put (.refl d _) _ _ (by simp [txFields])) (Dev.lineUse_only _ _)) _ _ (by simp [txFields])
    exact .ite (.put (.refl d _) _ _ (by simp [txFields])) (.ite ((hrx _ _).put _ _ (by simp [txFields])) (hrx _ _))

omit hp htx in
/-- What writes only fields after a change of the frames to be sent. -/
theorem OnlyRegs.of_setTxs {q : List TxFrame} {e : Dev} {m : List Fld} (h : OnlyRegs (d.setTxs p q) e m) :
    OnlyRegs d { e with txq := d.txq } m := by
  obtain ⟨hget, hrest⟩ := h
  exact ⟨hget, congrArg (fun x : Dev => { x with txq := d.txq }) hrest⟩

/-! ### No GoodCRC -/

variable (hon : d.get (T.rx p) ≠ 0)
include hon

/-- tReceive repeats the message up to twice. -/
theorem Dev.rxTimeout_repeats (ht : f.tries < 2) (hv : f.sop = 0 ∨ d.get F.SYS_SUPPLY_VCONNLOW = 0) :
    (d.rxTimeout p).txs p = { f with tries := f.tries + 1 } :: l ∧ OnlyRegs d { d.rxTimeout p with txq := d.txq } (txFields p) := by
  have heq : d.rxTimeout p = (d.setTxs p ({ f with tries := f.tries + 1 } :: l)).txArm p := by
    have hagain : f.tries < 2 ∧ ¬(f.sop ≠ 0 ∧ d.bit F.SYS_SUPPLY_VCONNLOW = true) :=
      ⟨ht, by rcases hv with h | h <;> simp [Dev.bit, h]⟩
    unfold Dev.rxTimeout
    rw [Dev.armed, if_neg (by simpa using hon), htx]
    exact if_pos hagain
  rw [heq]
  exact ⟨((Dev.txArm_keeps _ hp).txs p).trans (Dev.setTxs_txs d _), (Dev.txArm_only _).of_setTxs⟩

/-- Capabilities without a GoodCRC go out again after tTypeCSendSourceCap. -/
theorem Dev.rxTimeout_caps (ht : 2 ≤ f.tries) (hk : f.kind = 1) (hcnt : d.get (H.capsCnt p) < 49) : (d.rxTimeout p).txs p = l ∧
    (d.rxTimeout p).get (H.capsCnt p) = d.get (H.capsCnt p) + 1 ∧ (d.rxTimeout p).get (T.sendCaps p) = (d.now + 9600001) % 2 ^ 64 := by
  have heq : d.rxTimeout p = (((d.txDone p f l).put (H.capsCnt p) (d.get (H.capsCnt p) + 1)).puts [(H.exOn p, 0), (H.exOwn p, 0)]).arm
      (T.sendCaps p) (msTicks 150) := by
    unfold Dev.rxTimeout
    rw [Dev.armed, if_neg (by simpa using hon), htx]
    refine (if_neg (by omega)).trans ?_
    unfold Dev.unacked
    rw [hk]
    change (d.txDone p f l).capsLost p = _
    unfold Dev.capsLost
    dsimp only
    rw [Dev.txDone_capsCnt _ hp, if_neg (by omega)]
  have hput : Keeps (d.txDone p f l) (((d.txDone p f l).put (H.capsCnt p) (d.get (H.capsCnt p) + 1)).puts [(H.exOn p, 0), (H.exOwn p, 0)])
      [H.capsCnt 0, H.exOn 0, H.exOwn 0] := ((Keeps.refl _ _).put _).puts
  have harm (e : Dev) (n : Nat) : Keeps e (e.arm (T.sendCaps p) n) [T.sendCaps 0] := (Keeps.refl e _).arm n
  rw [heq]
  refine ⟨?_, ?_, ?_⟩
  · exact ((harm _ _).txs p).trans ((hput.txs p).trans (d.txDone_txs hp f l))
  · rw [Dev.arm]
    simp (disch := (simp only [hkey]; omega)) only [Dev.puts_cons, Dev.puts_nil, Dev.get_put_ne, Dev.get_put_self]
    exact Nat.mod_eq_of_lt (by omega)
  · rw [Dev.arm, Dev.get_put_self, hput.now, Dev.txDone_now _ hp]
    rfl

end

example (d : Dev) : (d.lineAck 3).txs 3 = d.txs 3 := (d.lineAck_keeps (by decide)).txs 3

/-! ### Capabilities (R204) -/

/-- The message that the capabilities of a port go out in (R195). -/
def Dev.capsFrame (d : Dev) (p : Nat) : TxFrame :=
  if d.get (H.offerEpr p) = 0 then ⟨0, 33, false, (d.offerObjs p).1, 1, 0⟩
  else ⟨0, 81, true, extObjs 44 0 (padTo 11 (d.offerObjs p).1), 1, 0⟩

/-- What their sending writes before the message goes out. -/
def capsFlds : List Fld := exBeginFlds ++ [H.offer 0 0, H.offerCbl 0, H.offerBud 0, F.PRT_PE_EVT_CAPCLIP 0, F.PRT_PE_EVT_SLOTBAD 0,
  H.offerDue 0, H.offerOk 0, F.PRT_PE_STAT_STATE 0]

/-- The offer as it is kept by position, and what it shows. -/
def Dev.capsKept (d : Dev) (p : Nat) : Dev :=
  let r := d.offerObjs p
  let d := Dev.forN 11 (fun i e => e.put (H.offer p (i + 1)) (r.1.getD i 0)) d
  let d := d.puts [(H.offerCbl p, b2n (d.clippedBy p (fun _ => d.cableI p))),
    (H.offerBud p, b2n (d.clippedBy p (fun o => d.capAt p (topV o) 10 1023) ||
      (d.keptSlots p).any (fun i => isAvs (d.srcSlot p i) && d.clipped p (d.srcSlot p i) != d.srcSlot p i)))]
  let d := if r.2.1 then d.peEvt p (F.PRT_PE_EVT_CAPCLIP p) else d
  if r.2.2 then d.peEvt p (F.PRT_PE_EVT_SLOTBAD p) else d

/-- The exchange of the offer has begun. -/
def Dev.capsBegun (d : Dev) (p : Nat) : Dev :=
  (((d.capsKept p).exBegin p true 700).puts [(H.offerDue p, 0), (H.offerOk p, 0)]).setPe p 2

section
variable (d : Dev) {p : Nat} (hp : p < 24)
include hp

theorem Dev.capsKept_keeps : Keeps d (d.capsKept p) capsFlds := by
  have hkept : Keeps d ((Dev.forN 11 (fun i e => e.put (H.offer p (i + 1)) ((d.offerObjs p).1.getD i 0)) d)) capsFlds :=
    .forN (.refl d _) fun i hi e => .put (.refl e _) _
  have hflags (b c : Nat) : Keeps d ((Dev.forN 11 (fun i e => e.put (H.offer p (i + 1)) ((d.offerObjs p).1.getD i 0)) d).puts
      [(H.offerCbl p, b), (H.offerBud p, c)]) capsFlds := .puts hkept
  have hclip (b c : Nat) := Keeps.ite (c := (d.offerObjs p).2.1 = true) ((hflags b c).peEvt hp (evt := F.PRT_PE_EVT_CAPCLIP p)) (hflags b c)
  exact .ite ((hclip _ _).peEvt hp) (hclip _ _)

theorem Dev.capsBegun_keeps : Keeps d (d.capsBegun p) capsFlds :=
  .put (.puts (.andThen (d.capsKept_keeps hp) (Dev.exBegin_keeps _ hp true 700))) 2

theorem Dev.sendCaps_eq : d.sendCaps p = (d.capsBegun p).tx p (d.capsFrame p) := by
  have hepr : (d.capsBegun p).bit (H.offerEpr p) = decide (d.get (H.offerEpr p) ≠ 0) := by
    rw [Dev.bit, (d.capsBegun_keeps hp).get (H.offerEpr p)]
    simp [bne, Bool.beq_eq_decide_eq]
  have hsend : d.sendCaps p = if (d.capsBegun p).bit (H.offerEpr p) then (d.capsBegun p).txExt p 17 44 0 (padTo 11 (d.offerObjs p).1) 1
      else (d.capsBegun p).txSop p 33 (d.offerObjs p).1 1 := rfl
  rw [hsend, hepr, Dev.capsFrame]
  by_cases h : d.get (H.offerEpr p) = 0 <;> simp only [h, ne_eq, not_true_eq_false, not_false_eq_true, decide_true, decide_false, if_true,
    if_false, Bool.false_eq_true] <;> rfl

/-- Capabilities on their way. -/
theorem Dev.sendCaps_shows : (d.sendCaps p).pe p = 2 ∧ (d.sendCaps p).get (H.offerDue p) = 0 ∧ d.sends (d.sendCaps p) p (d.capsFrame p) := by
  have htx := (d.capsBegun p).tx_keeps hp (d.capsFrame p)
  have hsends := (d.capsBegun p).tx_sends hp (d.capsFrame p)
  rw [Dev.sends, (d.capsBegun_keeps hp).txs p] at hsends
  rw [d.sendCaps_eq hp]
  refine ⟨(htx.get (F.PRT_PE_STAT_STATE p)).trans (Dev.get_put_self _ _ _), (htx.get _).trans ?_, hsends⟩
  unfold Dev.capsBegun Dev.setPe
  simp (disch := (simp only [fkey, hkey]; omega)) only [Dev.puts_cons, Dev.puts_nil, Dev.get_put_ne, Dev.get_put_self]
  rfl

/-- The capabilities go out once every condition stands. -/
theorem Dev.capsReadyNow_sends (hsrc : d.isSrc p = true) (hdue : d.get (H.offerDue p) = 1) (hok : d.get (H.offerOk p) = 1)
    (hv : d.get (H.vsafe5 p) = 1) (hdisc : d.get (H.discDone p) = 1) (hcap : d.get (H.swCapWait p) = 0) (htx : d.txs p = [])
    (hawait : d.get (H.await p) = 0) (htimer : d.get (T.sinkTx p) = 0) (hown : d.get (H.offerOwn p) = 0) :
    (d.capsReadyNow p).pe p = 2 ∧ (d.capsReadyNow p).get (H.offerDue p) = 0 ∧
      d.sends (d.capsReadyNow p) p ((d.stop (T.capsReady p)).capsFrame p) := by
  have hk : Keeps d (d.stop (T.capsReady p)) [T.capsReady 0] := (Keeps.refl d _).stop
  have heq : d.capsReadyNow p = (d.stop (T.capsReady p)).sendCaps p := by
    unfold Dev.capsReadyNow
    dsimp only
    rw [hk.isSrc hp, hk.txs p, htx]
    simp only [Dev.bit, Dev.armed, hk.get (H.offerDue p), hk.get (H.offerOk p), hk.get (H.vsafe5 p), hk.get (H.discDone p),
      hk.get (H.swCapWait p), hk.get (H.await p), hk.get (T.sinkTx p), hk.get (H.offerOwn p), hsrc, hdue, hok, hv, hdisc, hcap, hawait, htimer, hown]
    rfl
  obtain ⟨hpe, hgone, hsends⟩ := (d.stop (T.capsReady p)).sendCaps_shows hp
  rw [Dev.sends, hk.txs p] at hsends
  rw [heq]
  exact ⟨hpe, hgone, hsends⟩

/-- They are repeated. -/
theorem Dev.capsAgain_sends (hsrc : d.isSrc p = true) (hon : d.get (T.sendCaps p) ≠ 0) :
    (d.onExpiry (T.sendCaps p) (·.capsAgain p)).pe p = 2 ∧
      d.sends (d.onExpiry (T.sendCaps p) (·.capsAgain p)) p ((d.stop (T.sendCaps p)).capsFrame p) := by
  have hk : Keeps d (d.stop (T.sendCaps p)) [T.sendCaps 0] := (Keeps.refl d _).stop
  have heq : d.onExpiry (T.sendCaps p) (·.capsAgain p) = (d.stop (T.sendCaps p)).sendCaps p :=
    (if_pos (by simpa [Dev.armed] using hon)).trans (if_pos ((hk.isSrc hp).trans hsrc))
  obtain ⟨hpe, -, hsends⟩ := (d.stop (T.sendCaps p)).sendCaps_shows hp
  rw [Dev.sends, hk.txs p] at hsends
  rw [heq]
  exact ⟨hpe, hsends⟩

end

example (d : Dev) : (d.capsBegun 3).txs 3 = d.txs 3 := (d.capsBegun_keeps (by decide)).txs 3

end Sys2Proof.Machine

/-!
O57, the capabilities that a sink receives (R194, R198, R211).
-/
namespace Sys2Proof.Machine

/-! ### The staging words of a port -/

section
variable (d : Dev) (p : Nat)

theorem Dev.pstg_pstgPut_same (off v : Nat) : (d.pstgPut p off v).pstg p off = v % 2 ^ 36 := by
  simp only [Dev.pstg, Dev.pstgPut, Dev.stgRead, Dev.stgWrite, tget_tput_same, BitVec.toNat_ofNat]

theorem Dev.pstg_pstgPut_ne {off o : Nat} (v : Nat) (h : o ≠ off) : (d.pstgPut p off v).pstg p o = d.pstg p o := by
  simp only [Dev.pstg, Dev.pstgPut, Dev.stgRead, Dev.stgWrite, portStg]
  rw [tget_tput_ne _ _ _ (by omega)]

theorem Dev.pstg_pstgPuts_out {o : Nat} (off : Nat) (ws : List Nat) (h : o < off ∨ off + ws.length ≤ o) :
    (d.pstgPuts p off ws).pstg p o = d.pstg p o := by
  induction ws generalizing d off with
  | nil => rfl
  | cons v ws ih =>
    simp only [List.length_cons] at h
    exact (ih (d.pstgPut p off v) (off + 1) (by omega)).trans (d.pstg_pstgPut_ne p v (by omega))

theorem Dev.pstg_pstgPuts_in {i : Nat} (off : Nat) (ws : List Nat) (h : i < ws.length) :
    (d.pstgPuts p off ws).pstg p (off + i) = ws[i] % 2 ^ 36 := by
  induction ws generalizing d off i with
  | nil => exact absurd h (by simp)
  | cons v ws ih =>
    cases i with
    | zero => exact ((d.pstgPut p off v).pstg_pstgPuts_out p (off + 1) ws (by omega)).trans (d.pstg_pstgPut_same p off v)
    | succ i =>
      rw [show off + (i + 1) = off + 1 + i by omega]
      exact ih (d.pstgPut p off v) (off + 1) (by simpa using h)

/-- Words staged change no field. -/
theorem Dev.pstgPut_regs (off v : Nat) : (d.pstgPut p off v).regs = d.regs := rfl

theorem Dev.pstgPuts_regs (off : Nat) (ws : List Nat) : (d.pstgPuts p off ws).regs = d.regs := by
  induction ws generalizing d off with
  | nil => rfl
  | cons v ws ih => exact ih (d.pstgPut p off v) (off + 1)

end

theorem Keeps.pstg {d e : Dev} {l : List Fld} (h : Keeps d e l) (p off : Nat) : e.pstg p off = d.pstg p off := by
  rw [Dev.pstg, Dev.stgRead, h.stg]
  rfl

theorem getElem_padTo {n i : Nat} {l : List Nat} (h : i < (padTo n l).length) : (padTo n l)[i] = l.getD i 0 := by
  have hi : i < n := by
    simp only [padTo, List.length_take] at h
    omega
  simp only [padTo, List.getElem_take, List.getElem_append, List.getElem_replicate, List.getD_eq_getElem?_getD]
  split
  · simp [*]
  · rw [List.getElem?_eq_none (by omega)]
    rfl

/-- The capabilities as they are stored. -/
def Dev.capsStored (d : Dev) (p hdr : Nat) (epr : Bool) (objs : List Nat) : Dev :=
  (d.pstgPuts p 0x20 (padTo 11 objs)).rxStore p hdr (if epr then 2 ^ 15 + 4 * objs.length else 0) objs

section
variable (d : Dev) (p hdr : Nat) (epr : Bool) (objs : List Nat)

theorem Dev.capsStored_get (f : Fld) : (d.capsStored p hdr epr objs).get f = d.get f :=
  Dev.get_of_regs ((Dev.pstgPuts_regs _ p 0x41 _).trans ((Dev.pstgPut_regs _ p 0x40 _).trans (d.pstgPuts_regs p 0x20 _)))

theorem Dev.capsStored_pstg : (d.capsStored p hdr epr objs).pstg p 0x40 = (bits (d.pstg p 0x40) 32 4 + 1) % 16 * 2 ^ 32 +
      hdr % 65536 * 65536 + (if epr then (2 ^ 15 + 4 * objs.length) % 65536 else 0) ∧
    ∀ i < 11, (d.capsStored p hdr epr objs).pstg p (0x20 + i) = objs.getD i 0 % 2 ^ 36 := by
  have hlen : (padTo 11 objs).length = 11 := by simp [padTo]
  have hold : (d.pstgPuts p 0x20 (padTo 11 objs)).pstg p 0x40 = d.pstg p 0x40 := d.pstg_pstgPuts_out p 0x20 _ (by omega)
  unfold Dev.capsStored Dev.rxStore
  dsimp only
  refine ⟨?_, fun i hi => ?_⟩
  · rw [Dev.pstg_pstgPuts_out _ _ _ _ (by omega), Dev.pstg_pstgPut_same, hold]
    split <;> omega
  · rw [Dev.pstg_pstgPuts_out _ _ _ _ (by omega), Dev.pstg_pstgPut_ne _ _ _ (by omega), Dev.pstg_pstgPuts_in _ _ _ _ (by omega),
      getElem_padTo]

end

/-! ### Requests and SNK_SELECT (R211, R212, R230) -/

/-- What a Request writes after its start. -/
def requestGoFlds : List Fld := isetFlds ++ txFlds ++ [H.rampReq 0]

/-- What a SNK_SELECT decision writes. -/
def selectFlds : List Fld := askRestFlds ++ requestGoFlds ++ exBeginFlds ++ [H.vs5req 0, H.rdoNew 0, H.newCon 0, T.waitCap 0, F.PRT_PE_STAT_STATE 0]

/-- A Request that is made. -/
def Dev.requestBegun (d : Dev) (p r : Nat) : Dev :=
  ((d.exBegin p true 700).puts [(H.rdoNew p, r), (H.newCon p, rdoCon true (d.rxObj p (rdoPos r)) r), (T.waitCap p, 0)]).setPe p 9

section
variable (d : Dev) {p : Nat} (hp : p < 24)
include hp

theorem Dev.requestBegun_keeps (r : Nat) : Keeps d (d.requestBegun p r) selectFlds :=
  .put (.puts (d.exBegin_keeps hp true 700).mono) 9

theorem Dev.requestGo_keeps : Keeps d (d.requestGo p) requestGoFlds := .ite (d.txSop_keeps hp _ _ _).mono (d.txSop_keeps hp _ _ _).mono

theorem Dev.sendRequest_keeps (r : Nat) : Keeps (d.requestBegun p r) (d.sendRequest p r) requestGoFlds :=
  .ite (.put ((Dev.isetRamp_keeps _ hp _).mono) 1) (Dev.requestGo_keeps _ hp)

/-- A decision ends the wait for capabilities. -/
theorem Dev.decideSelect_shows (act arg : Nat) : Keeps d (d.decide_ p 2 act arg) selectFlds ∧ (d.decide_ p 2 act arg).get (T.waitCap p) = 0 := by
  have hsend (v r : Nat) : Keeps d ((d.put (H.vs5req p) v).sendRequest p r) selectFlds ∧
      ((d.put (H.vs5req p) v).sendRequest p r).get (T.waitCap p) = 0 := by
    have hput : Keeps d (d.put (H.vs5req p) v) selectFlds := .put (.refl d _) v
    have hgo := (d.put (H.vs5req p) v).sendRequest_keeps hp r
    refine ⟨(hput.trans (Dev.requestBegun_keeps _ hp r)).andThen hgo, (hgo.get _).trans ?_⟩
    unfold Dev.requestBegun Dev.setPe
    simp (disch := (simp only [fkey, hkey]; omega)) only [Dev.puts_cons, Dev.puts_nil, Dev.get_put_ne, Dev.get_put_self]
    rfl
  change Keeps d (d.decideSelect p act arg) selectFlds ∧ (d.decideSelect p act arg).get (T.waitCap p) = 0
  unfold Dev.decideSelect
  dsimp only
  split
  · exact hsend 0 _
  · exact hsend 1 _

/-- SNK_SELECT is posted. -/
theorem Dev.selectAsk_shows (n : Nat) (epr : Bool) (hw : d.get (T.waitCap p) = 0) : (d.selectAsk p n epr).get (F.PRT_PE_STAT_ASKCODE p) = 2 ∧
    (d.selectAsk p n epr).get (T.waitCap p) = 0 ∧ (d.selectAsk p n epr).stg = d.stg := by
  have hdec (e : Dev) (act arg : Nat) := (e.decideSelect_shows hp act arg).1
  have hset (w2 w3 : Nat) : Keeps d ((d.setPe p 8).askSet p 2 w2 w3) (askSetFlds ++ [F.PRT_PE_STAT_STATE 0]) :=
    .andThen (.put (.refl d _) 8) (Dev.askSet_keeps _ hp 2 w2 w3)
  unfold Dev.selectAsk
  refine ⟨Dev.askPost_code _ hp 2 _ _ hdec (by decide) (by decide), ?_, ?_⟩
  · refine Dev.askPost_ends (P := fun e => e.get (T.waitCap p) = 0) _ hp 2 _ _ (fun e he => ?_) fun e act arg _ =>
      (e.decideSelect_shows hp act arg).2
    exact (he.get _).trans (((hset _ _).get _).trans hw)
  · exact ((Dev.askPost_keepsSet _ hp 2 _ _ hdec (by decide)).stg).trans (hset _ _).stg

end

example (d : Dev) : (d.requestBegun 3 0).get (H.await 3) = d.get (H.await 3) := (d.requestBegun_keeps (by decide) 0).get _

/-! ### Capabilities received -/

/-- The exchange of capabilities received. -/
def Dev.capsHeard (d : Dev) (p : Nat) : Dev :=
  ((d.awaitEnd p).puts [(T.waitCap p, 0), (T.sinkReq p, 0), (H.waits p, 0), (H.vs5req p, 0), (H.rampReq p, 0), (H.reqHeld p, 0)]).exBegin p false 700

section
variable (d : Dev) {p : Nat} (hp : p < 24)
include hp

theorem Dev.capsHeard_keeps : Keeps d (d.capsHeard p) (exBeginFlds ++ exEndFlds ++ [T.waitCap 0, T.sinkReq 0, H.vs5req 0, H.rampReq 0]) :=
  .andThen (.puts (d.awaitEnd_keeps hp).mono) (Dev.exBegin_keeps _ hp false 700)

/-- A sink in no transition stores capabilities and has SNK_SELECT posted. -/
theorem Dev.rxSourceCaps_asks (hdr : Nat) (epr : Bool) (objs : List Nat) (hsnk : d.isSnk p = true) (hx : d.get (H.xferOn p) = 0)
    (haw : d.get (H.await p) ≠ 6) (hres : d.get (H.resume p) = 0) :
    (d.rxSourceCaps p hdr epr objs).get (F.PRT_PE_STAT_ASKCODE p) = 2 ∧ (d.rxSourceCaps p hdr epr objs).get (T.waitCap p) = 0 ∧
      (d.rxSourceCaps p hdr epr objs).stg = (d.capsStored p hdr epr objs).stg := by
  have hheard := (d.capsStored p hdr epr objs).capsHeard_keeps hp
  have heq : d.rxSourceCaps p hdr epr objs = ((d.capsStored p hdr epr objs).capsHeard p).selectAsk p (min 11 objs.length) epr := by
    unfold Dev.rxSourceCaps
    dsimp only
    rw [Dev.isSrc_of_isSnk hsnk, if_neg Bool.false_ne_true, Dev.bit, hx, if_neg (by decide), if_neg (by simp [haw])]
    refine if_neg ?_
    rw [Dev.bit]
    change ¬(((d.capsStored p hdr epr objs).capsHeard p).get (H.resume p) != 0) = true
    rw [hheard.get (H.resume p), Dev.capsStored_get, hres]
    decide
  have hwait : ((d.capsStored p hdr epr objs).capsHeard p).get (T.waitCap p) = 0 := by
    refine ((Dev.exBegin_keeps _ hp false 700).get _).trans ?_
    simp (disch := (simp only [hkey]; omega)) only [Dev.puts_cons, Dev.puts_nil, Dev.get_put_ne, Dev.get_put_self]
    rfl
  obtain ⟨hcode, hw, hstg⟩ := ((d.capsStored p hdr epr objs).capsHeard p).selectAsk_shows hp (min 11 objs.length) epr hwait
  rw [heq]
  exact ⟨hcode, hw, hstg.trans hheard.stg⟩

end

example (d : Dev) : (d.capsHeard 3).txs 3 = d.txs 3 := (d.capsHeard_keeps (by decide)).txs 3

end Sys2Proof.Machine

/-!
O57, replies to a Request, the contract of a sink that takes effect, and the ends of a query (R207, R211, R239).
-/
namespace Sys2Proof.Machine

/-! ### Accept, Wait and PS_RDY -/

section
variable {d : Dev} {p : Nat} (hp : p < 24)
include hp

/-- An accepted Request begins its power transition. -/
theorem Dev.rxAccept_begins (haw : d.get (H.await p) = 2) : (d.rxAccept p).pe p = 10 ∧ (d.rxAccept p).get (H.await p) = 0 ∧
    (d.rxAccept p).get (H.snkMask p) = 1 ∧ (d.rxAccept p).get (H.xferOn p) = 1 ∧
    (d.rxAccept p).get (T.psTrans p) = (d.now + (if d.epr p then 925 else 500) * 64000 + 1) % 2 ^ 64 := by
  have hset : Keeps d (((d.awaitEnd p).setPe p 10).puts [(H.snkMask p, 1), (H.maskEnd p, 0), (H.psDone p, 0)])
      [H.await 0, T.senderResp 0, F.PRT_PE_STAT_STATE 0, H.snkMask 0, H.maskEnd 0, H.psDone 0] := .puts (.put (.puts (.refl d _)) 10)
  have hbegin (e : Dev) (v : Nat) := e.xferBegin_keeps hp 1 v
  have harm (e : Dev) (n : Nat) : Keeps e (e.arm (T.psTrans p) n) [T.psTrans 0] := (Keeps.refl e _).arm n
  have heq : d.rxAccept p = ((((d.awaitEnd p).setPe p 10).puts [(H.snkMask p, 1), (H.maskEnd p, 0), (H.psDone p, 0)]).xferBegin p 1
      (bits (d.get (H.newCon p)) 14 13)).arm (T.psTrans p) (msTicks (if d.epr p then 925 else 500)) := by
    unfold Dev.rxAccept
    rw [haw]
    dsimp only
    rw [hset.get (H.newCon p), Dev.epr, Dev.bit, hset.get (F.PRT_PE_STAT_EPR p)]
    rfl
  rw [heq]
  refine ⟨?_, ?_, ?_, ?_, ?_⟩
  · refine ((harm _ _).get (F.PRT_PE_STAT_STATE p)).trans (((hbegin _ _).get _).trans ?_)
    rw [Dev.setPe]
    simp (disch := (simp only [fkey, hkey]; omega)) only [Dev.puts_cons, Dev.puts_nil, Dev.get_put_ne, Dev.get_put_self]
    rfl
  · refine ((harm _ _).get _).trans (((hbegin _ _).get _).trans ?_)
    rw [Dev.setPe, Dev.awaitEnd]
    simp (disch := (simp only [fkey, hkey]; omega)) only [Dev.puts_cons, Dev.puts_nil, Dev.get_put_ne, Dev.get_put_self]
    rfl
  · refine ((harm _ _).get _).trans (((hbegin _ _).get _).trans ?_)
    simp (disch := (simp only [fkey, hkey]; omega)) only [Dev.puts_cons, Dev.puts_nil, Dev.get_put_ne, Dev.get_put_self]
    rfl
  · refine ((harm _ _).get _).trans ?_
    rw [Dev.xferBegin]
    simp (disch := (simp only [fkey, hkey]; omega)) only [Dev.puts_cons, Dev.puts_nil, Dev.get_put_ne, Dev.get_put_self]
    rfl
  · rw [Dev.arm, Dev.get_put_self, (hbegin _ _).now, hset.now]
    rfl

omit hp in
/-- A Wait gives tSinkRequest. -/
theorem Dev.rxWait_again (haw : d.get (H.await p) = 2) (hw : d.get (H.waits p) < 2) : (d.rxWait p).get (H.await p) = 0 ∧
    (d.rxWait p).get (H.waits p) = d.get (H.waits p) + 1 ∧ (d.rxWait p).get (T.sinkReq p) = (d.now + 7040001) % 2 ^ 64 := by
  have heq : d.rxWait p = ((d.awaitEnd p).inc (H.waits p)).arm (T.sinkReq p) (msTicks 110) := by
    unfold Dev.rxWait
    rw [haw]
    exact if_pos hw
  rw [heq, Dev.arm, Dev.inc, Dev.awaitEnd]
  refine ⟨?_, ?_, ?_⟩
  · simp (disch := (simp only [hkey]; omega)) only [Dev.puts_cons, Dev.puts_nil, Dev.get_put_ne, Dev.get_put_self]
    rfl
  · simp (disch := (simp only [hkey]; omega)) only [Dev.puts_cons, Dev.puts_nil, Dev.get_put_ne, Dev.get_put_self]
    exact Nat.mod_eq_of_lt (by omega)
  · rw [Dev.get_put_self, Dev.put_now, Dev.puts_now]
    rfl

/-- A sink's contract takes effect when the GoodCRC to PS_RDY has gone out. -/
theorem Dev.rxPsRdy_done (hsnk : d.isSnk p = true) (hon : d.get (T.psTrans p) ≠ 0) (hdone : d.get (H.psDone p) = 0) :
    (d.rxPsRdy p).get (H.psDone p) = 1 ∧ (d.rxPsRdy p).get (H.xferOn p) = 0 ∧ (d.rxPsRdy p).get (H.maskEnd p) = (d.now + 1280001) % 2 ^ 64 ∧
      (d.rxPsRdy p).get (T.psTrans p) = (d.now + goodCrcTicks + 1) % 2 ^ 64 ∧
      Keeps d (d.rxPsRdy p) [H.psDone 0, H.xferOn 0, H.maskEnd 0, T.psTrans 0] := by
  have hset : Keeps d (d.puts [(H.psDone p, 1), (H.xferOn p, 0), (H.maskEnd p, d.now + 1 + msTicks 20)])
      [H.psDone 0, H.xferOn 0, H.maskEnd 0, T.psTrans 0] := .puts (.refl d _)
  have heq : d.rxPsRdy p = (d.puts [(H.psDone p, 1), (H.xferOn p, 0), (H.maskEnd p, d.now + 1 + msTicks 20)]).arm (T.psTrans p) goodCrcTicks :=
    if_pos (by simp [hsnk, Dev.armed, Dev.bit, hdone, hon])
  have harm : Keeps d (d.rxPsRdy p) [H.psDone 0, H.xferOn 0, H.maskEnd 0, T.psTrans 0] := heq ▸ hset.arm _
  refine ⟨?_, ?_, ?_, ?_, harm⟩ <;> rw [heq, Dev.arm]
  · simp (disch := (simp only [hkey]; omega)) only [Dev.puts_cons, Dev.puts_nil, Dev.get_put_ne, Dev.get_put_self]
    rfl
  · simp (disch := (simp only [hkey]; omega)) only [Dev.puts_cons, Dev.puts_nil, Dev.get_put_ne, Dev.get_put_self]
    rfl
  · simp (disch := (simp only [hkey]; omega)) only [Dev.puts_cons, Dev.puts_nil, Dev.get_put_ne, Dev.get_put_self]
    rw [Nat.add_assoc, Nat.add_comm 1]
    rfl
  · rw [Dev.get_put_self, hset.now]

end

example (d : Dev) : (d.isetRamp 3 0).txs 3 = d.txs 3 := (d.isetRamp_keeps (by decide) 0).txs 3

/-! ### A contract that takes effect (R207) -/

/-- What follows the contract register when a PD contract takes effect. -/
def conRestFlds : List Fld := segFlds 0 ++ xferFlds ++ effFlds ++ isetFlds ++ cmdFlds ++ exEndFlds ++ [T.ppsReq 0, T.ppsTo 0, T.tpoll 0,
  T.ceilResp 0, H.want 0, F.PRT_HPM_STAT_STATE 0, T.hpmOffer 0, T.hpmCond 0, H.firstCon 0]

/-- The contract is written. -/
def Dev.conTaken (d : Dev) (p w : Nat) : Dev :=
  ((d.conWrite p w).peEvt p (F.PRT_PE_EVT_CONTRACT p)).puts [(H.rdo p, d.get (H.rdoNew p)), (H.vs5req p, 0), (H.hrTry p, 0)]

section
variable (d : Dev) {p : Nat} (hp : p < 24)
include hp

theorem Dev.conTaken_shows (w : Nat) (hw : w < 2 ^ 36) : (d.conTaken p w).get (F.PRT_HOLDSUM_SUM p) = w ∧
    (d.conTaken p w).get (F.PRT_CONTRACT_VALID p) = bits w 35 1 ∧ (d.conTaken p w).get (F.PRT_CONTRACT_KIND p) = bits w 31 3 ∧
    (d.conTaken p w).get (F.PRT_CONTRACT_POS p) = bits w 27 4 ∧ (d.conTaken p w).get (F.PRT_CONTRACT_VOLT p) = bits w 14 13 ∧
    (d.conTaken p w).get (F.PRT_CONTRACT_CURR p) = bits w 0 14 ∧ (d.conTaken p w).get (F.PRT_PE_EVT_CONTRACT p) = 1 := by
  have hset (e : Dev) (v : Nat) : Keeps e (e.puts [(H.rdo p, v), (H.vs5req p, 0), (H.hrTry p, 0)]) [H.rdo 0, H.vs5req 0, H.hrTry 0] :=
    .puts (.refl e _)
  have hevt (e : Dev) : Keeps e (e.peEvt p (F.PRT_PE_EVT_CONTRACT p)) [F.PRT_PE_EVT_CONTRACT 0] := (Keeps.refl e _).peEvt hp
  have hbits (lo n : Nat) : bits w lo n % 2 ^ n = bits w lo n := Nat.mod_eq_of_lt (Nat.mod_lt _ (Nat.two_pow_pos n))
  unfold Dev.conTaken
  refine ⟨?_, ?_, ?_, ?_, ?_, ?_, ((hset _ _).get _).trans (Dev.peEvt_self _ hp)⟩
  all_goals
    refine ((hset _ _).get _).trans (((hevt _).get _).trans ?_)
    rw [Dev.conWrite]
    simp (disch := (simp only [fkey]; omega)) only [Dev.puts_cons, Dev.puts_nil, Dev.get_put_ne, Dev.get_put_self]
  · exact Nat.mod_eq_of_lt hw
  all_goals exact hbits _ _

theorem Dev.conTimers_keeps : Keeps d (d.conTimers p) conRestFlds := by
  have hoff : Keeps d (d.conTimersOff p) conRestFlds := .puts (.refl d _)
  exact .ite (.ite (hoff.arm _) (.ite (hoff.arm _) hoff)) hoff

theorem Dev.conFollow_keeps : Keeps d (d.conFollow p) conRestFlds := by
  have hwant {e : Dev} (h : Keeps d e conRestFlds) (k : Nat) : Keeps d (e.wantOwn p k) conRestFlds := .andThen h (e.wantOwn_keeps hp k)
  have hswap (c : Prop) [Decidable c] : Keeps d (if c then d.wantOwn p 5 else d) conRestFlds := .ite (hwant (.refl d _) 5) (.refl d _)
  have hoffer {e : Dev} (h : Keeps d e conRestFlds) : Keeps d ((e.put (F.PRT_HPM_STAT_STATE p) 5).arm (T.hpmOffer p) (msTicks 100)) conRestFlds :=
    .arm (.put h 5) _
  have hhpm {e : Dev} (h : Keeps d e conRestFlds) (c c1 c2 : Prop) [Decidable c] [Decidable c1] [Decidable c2] :
      Keeps d (if c then if c1 then e.wantOwn p 9 else if c2 then e.wantOwn p 8 else
        (e.put (F.PRT_HPM_STAT_STATE p) 5).arm (T.hpmOffer p) (msTicks 100) else e) conRestFlds :=
    .ite (.ite (hwant h 9) (.ite (hwant h 8) (hoffer h))) h
  unfold Dev.conFollow
  exact .put (.ite (hwant (hhpm (hswap _) _ _ _) 4) (.arm (hhpm (hswap _) _ _ _) 0)) 1

/-- What follows a PD contract that has been written. -/
def Dev.conRest (d : Dev) (p volt : Nat) : Dev :=
  let d := (((d.segClose p 3 true).xferEnd p volt).effUpdate p).conTimers p
  let d := if !d.isSnk p then d else if d.iLevel p < d.sinkPoint p then d.isetRamp p (d.sinkPoint p) else d.setIset p (d.sinkPoint p)
  ((d.cmdFin p 0).exEnd p).conFollow p

theorem Dev.conRest_keeps (volt : Nat) : Keeps d (d.conRest p volt) conRestFlds := by
  have heff : Keeps d (((d.segClose p 3 true).xferEnd p volt).effUpdate p) conRestFlds :=
    .andThen (.andThen (d.segClose_keeps hp 3 true).mono (Dev.xferEnd_keeps _ hp volt)) (Dev.effUpdate_keeps _ hp)
  have htime := heff.trans (Dev.conTimers_keeps _ hp)
  have hdraw {e : Dev} (h : Keeps d e conRestFlds) (c c1 : Prop) [Decidable c] [Decidable c1] (v : Nat) :
      Keeps d (if c then e else if c1 then e.isetRamp p v else e.setIset p v) conRestFlds :=
    .ite h (.ite (.andThen h (e.isetRamp_keeps hp v)) (.andThen h (e.setIset_keeps hp v)))
  exact .trans (.andThen (.andThen (hdraw htime _ _ _) (Dev.cmdFin_keeps _ hp 0)) (Dev.exEnd_keeps _ hp)) (Dev.conFollow_keeps _ hp)

omit hp in
/-- A contract other than one of HPM takes effect. -/
theorem Dev.conEffect_pd (hk : bits (d.get (H.newCon p)) 31 3 ≠ 6) :
    d.conEffect p = ((d.resumeEnd p).conTaken p (d.get (H.newCon p))).conRest p (bits (d.get (H.newCon p)) 14 13) := by
  unfold Dev.conEffect
  dsimp only
  rw [if_neg hk, if_neg hk]
  rfl

/-- The end of tPSTransition after PS_RDY: the contract is in force. -/
theorem Dev.psTransEnd_effect (hdone : d.get (H.psDone p) = 1) (hacc : d.get (H.swAcc p) = 0) (hk : bits (d.get (H.newCon p)) 31 3 ≠ 6) :
    (d.psTransEnd p).get (F.PRT_HOLDSUM_SUM p) = d.get (H.newCon p) ∧
    (d.psTransEnd p).get (F.PRT_CONTRACT_VALID p) = bits (d.get (H.newCon p)) 35 1 ∧
    (d.psTransEnd p).get (F.PRT_CONTRACT_KIND p) = bits (d.get (H.newCon p)) 31 3 ∧
    (d.psTransEnd p).get (F.PRT_CONTRACT_POS p) = bits (d.get (H.newCon p)) 27 4 ∧
    (d.psTransEnd p).get (F.PRT_CONTRACT_VOLT p) = bits (d.get (H.newCon p)) 14 13 ∧
    (d.psTransEnd p).get (F.PRT_CONTRACT_CURR p) = bits (d.get (H.newCon p)) 0 14 ∧
    (d.psTransEnd p).get (F.PRT_PE_EVT_CONTRACT p) = 1 := by
  have hput : Keeps d (d.put (H.psDone p) 0) [H.psDone 0] := (Keeps.refl d _).put 0
  have hnew : (d.put (H.psDone p) 0).get (H.newCon p) = d.get (H.newCon p) := hput.get _
  have heq : d.psTransEnd p = (((d.put (H.psDone p) 0).resumeEnd p).conTaken p (d.get (H.newCon p))).conRest p (bits (d.get (H.newCon p)) 14 13) := by
    unfold Dev.psTransEnd
    dsimp only
    rw [Dev.bit, hdone, if_pos (by decide), Dev.bit, hput.get (H.swAcc p), hacc, if_neg (by decide), Dev.conEffect_pd _ (hnew ▸ hk), hnew]
  have hrest (e : Dev) := e.conRest_keeps hp (bits (d.get (H.newCon p)) 14 13)
  obtain ⟨hsum, hval, hkind, hpos, hvolt, hcurr, hevt⟩ := ((d.put (H.psDone p) 0).resumeEnd p).conTaken_shows hp (d.get (H.newCon p))
    (Dev.get_lt _ _)
  rw [heq]
  exact ⟨((hrest _).get _).trans hsum, ((hrest _).get _).trans hval, ((hrest _).get _).trans hkind, ((hrest _).get _).trans hpos,
    ((hrest _).get _).trans hvolt, ((hrest _).get _).trans hcurr, ((hrest _).get _).trans hevt⟩

end

example (d : Dev) : (d.conRest 3 0).get (H.pdOn 3) = d.get (H.pdOn 3) := (d.conRest_keeps (by decide) 0).get _

/-! ### Commands that end without effect (R239) -/

section
variable {d : Dev} {p : Nat} (hp : p < 24) {c : Cmd} {l : List Cmd}
include hp

/-- The started command completes, and its exchange ends. -/
theorem Dev.cmdFin_exEnd {outcome : Nat} (ho : outcome < 16) (hrun : d.get (H.cmdRun p) = 1) (hceil : d.get (H.ceilCmdRun p) = 0)
    (hcmds : d.cmds p = c :: l) : completed ((d.cmdFin p outcome).exEnd p) p c l outcome ∧ ((d.cmdFin p outcome).exEnd p).get (H.exOn p) = 0 ∧
      ((d.cmdFin p outcome).exEnd p).get (H.await p) = 0 := by
  have heq : d.cmdFin p outcome = d.cmdEnd p outcome := if_neg (by simp [Dev.bit, hceil])
  have hsched (e : Dev) := e.sched_keeps hp
  rw [heq]
  refine ⟨Dev.cmdEnd_completed hp ho hrun hcmds (Dev.exEnd_keeps _ hp), ((hsched _).get _).trans ?_, ((hsched _).get _).trans ?_⟩ <;> rw [Dev.setPe]
  all_goals
    simp (disch := (simp only [fkey, hkey]; omega)) only [Dev.puts_cons, Dev.puts_nil, Dev.get_put_ne, Dev.get_put_self]
    rfl

/-- A reply that ends a query, or its silence. -/
theorem Dev.exchangeRefused_shows {outcome : Nat} (ho : outcome < 16) (hrun : d.get (H.cmdRun p) = 1) (hceil : d.get (H.ceilCmdRun p) = 0)
    (hcmds : d.cmds p = c :: l) : completed (d.exchangeRefused p outcome) p c l outcome ∧ (d.exchangeRefused p outcome).get (H.exOn p) = 0 ∧
      (d.exchangeRefused p outcome).get (H.await p) = 0 := by
  have hawait : Keeps d (d.awaitEnd p) [H.await 0, T.senderResp 0] := .puts (.refl d _)
  exact Dev.cmdFin_exEnd hp ho ((hawait.get _).trans hrun) ((hawait.get _).trans hceil) ((hawait.cmds p).trans hcmds)

variable (haw : d.get (H.await p) = 6)
include haw

omit hp in
theorem Dev.rxReject_query : d.rxReject p = d.exchangeRefused p 1 := by
  unfold Dev.rxReject
  rw [haw]
  rfl

omit hp in
theorem Dev.rxNotSupported_query : d.rxNotSupported p = d.exchangeRefused p 2 := by
  unfold Dev.rxNotSupported
  rw [haw]
  rfl

omit hp in
theorem Dev.rxWait_query : d.rxWait p = d.exchangeRefused p 4 := by
  unfold Dev.rxWait
  rw [haw]
  rfl

omit hp in
theorem Dev.senderRespEnd_query : d.senderRespEnd p = d.exchangeRefused p 3 := by
  unfold Dev.senderRespEnd
  rw [haw]
  rfl

end

example (d : Dev) : (d.exEnd 3).get (H.swAcc 3) = d.get (H.swAcc 3) := (d.exEnd_keeps (by decide)).get _

end Sys2Proof.Machine

/-!
O57, Requests received (R205, R206) and EPR mode (R209).
-/
namespace Sys2Proof.Machine

/-! ### Requests -/

/-- What the check of a Request reads. -/
def requestReadFlds : List Fld := [H.offer 0 0, F.PRT_VDM_STAT_CBL5A 0, H.vconnOc 0, H.gzIrate 0, F.BUDP_STAT_NOCAP 0, F.BUDP_STAT_CAP 0,
  H.resume 0, F.PRT_HOLDSUM_SUM 0, F.PRT_PE_STAT_EPR 0]

theorem Keeps.requestOk {d e : Dev} {l : List Fld} (h : Keeps d e l) {p : Nat} (hp : p < 24) (epr : Bool) (r copy : Nat)
    (hc : requestReadFlds.all (fun g => clearOf l g.fam) = true := by decide +kernel) : e.requestOk p epr r copy = d.requestOk p epr r copy := by
  have hr (f : Fld) (hf : amongOf requestReadFlds f.fam = true := by simp (disch := omega) only [fam_hidden, fam_port]; decide +kernel) :
      e.get f = d.get f := h.readOf hc f hf
  have hoff : e.offered p r = d.offered p r := by
    unfold Dev.offered
    split
    · exact hr _
    · rfl
  have hcap : e.cap p = d.cap p := by rw [Dev.cap, Dev.bit, hr (F.BUDP_STAT_NOCAP p), hr (F.BUDP_STAT_CAP p)]; rfl
  have hrate : e.rating p = d.rating p := by rw [Dev.rating, hr (H.gzIrate (p / 4))]; rfl
  have hcable : e.cableI p = d.cableI p := by
    rw [Dev.cableI, Dev.bit, Dev.bit, hr (F.PRT_VDM_STAT_CBL5A p), hr (H.vconnOc p)]; rfl
  have hlim : e.capRdo p (d.offered p r) r = d.capRdo p (d.offered p r) r := by unfold Dev.capRdo; rw [hcap]
  have hoffer : e.offerLimit p (d.offered p r) r = d.offerLimit p (d.offered p r) r := by rw [Dev.offerLimit, hrate, hcable]; rfl
  have hfits : e.reqFits p (d.offered p r) r = d.reqFits p (d.offered p r) r := by rw [Dev.reqFits, hoffer]; rfl
  have hheld : e.heldRequest p r = d.heldRequest p r := by
    rw [Dev.heldRequest, Dev.heldWord, Dev.bit, hoff, hr (H.resume p), hr (F.PRT_HOLDSUM_SUM p)]; rfl
  have hepr : e.epr p = d.epr p := by rw [Dev.epr, Dev.bit, hr (F.PRT_PE_STAT_EPR p)]; rfl
  rw [Dev.requestOk, hoff, hlim, hfits, hheld, hepr]
  rfl

/-- The exchange of a Request has begun. -/
def Dev.requestHeard (d : Dev) (p r : Nat) : Dev :=
  let d := (((d.awaitEnd p).askCancel p).exBegin p false 700).put (H.rdoNew p) r
  if d.armed (T.ppsTo p) then d.arm (T.ppsTo p) (msTicks 13500) else d

/-- What that writes. -/
def requestHeardFlds : List Fld := exBeginFlds ++ askEndFlds ++ [H.await 0, T.senderResp 0, H.rdoNew 0, T.ppsTo 0]

section
variable {d : Dev} {p : Nat} (hp : p < 24) {r : Nat}
include hp

theorem Dev.requestHeard_keeps (d : Dev) (r : Nat) : Keeps d (d.requestHeard p r) requestHeardFlds := by
  have hawait : Keeps d (d.awaitEnd p) requestHeardFlds := .puts (.refl d _)
  have hput : Keeps d ((((d.awaitEnd p).askCancel p).exBegin p false 700).put (H.rdoNew p) r) requestHeardFlds :=
    .put (.andThen (.andThen hawait (Dev.askCancel_keeps _ hp)) (Dev.exBegin_keeps _ hp false 700)) r
  exact .ite (hput.arm _) hput

omit hp in
theorem Dev.requestHeard_rdo (d : Dev) (hr : r < 2 ^ 32) : (d.requestHeard p r).get (H.rdoNew p) = r := by
  have hput (e : Dev) : (e.put (H.rdoNew p) r).get (H.rdoNew p) = r := (Dev.get_put_self _ _ _).trans (Nat.mod_eq_of_lt hr)
  unfold Dev.requestHeard
  dsimp only
  split
  · exact (Dev.get_put_ne _ _ (by simp only [hkey]; omega)).trans (hput _)
  · exact hput _

/-- The answer to a Request. -/
def Dev.requestAnswer (d : Dev) (p : Nat) (epr : Bool) (r copy : Nat) : Dev :=
  if !d.requestOk p epr r copy then d.srcReply p 1
  else if d.explicit p && !d.hpmCon p && r == d.get (H.rdo p) then d.srcReply p 0
  else if d.bit (H.resume p) then
    if d.heldRequest p r then d.srcReply p 0
    else ((d.setPe p 3).resumeEnd p).askDefault p 1
  else (d.setPe p 3).askPost p 1 r (d.offered p r)

variable (hsrc : d.isSrc p = true) (hx : d.get (H.xferOn p) = 0) (hpe : d.pe p ≠ 4)
include hsrc hx hpe

omit hp in
theorem Dev.rxRequest_heard (epr : Bool) (copy : Nat) : d.rxRequest p epr r copy = (d.requestHeard p r).requestAnswer p epr r copy := by
  unfold Dev.rxRequest
  rw [Dev.isSnk_of_isSrc hsrc, Dev.bit, hx, if_neg (by simp [hpe])]
  rfl

/-- A Request for a position that does not exist is rejected. -/
theorem Dev.rxRequest_rejected (hpos : rdoPos r = 0 ∨ 12 ≤ rdoPos r) (epr : Bool) (copy : Nat) :
    d.sends (d.rxRequest p epr r copy) p ⟨0, 4, false, [], 39, 0⟩ := by
  have hbad : (d.requestHeard p r).requestOk p epr r copy = false := by
    have hnone : (d.requestHeard p r).offered p r = 0 := if_neg (by omega)
    simp [Dev.requestOk, Dev.reqFits, hnone]
  have heq : d.rxRequest p epr r copy = (d.requestHeard p r).tx p ⟨0, 4, false, [], 39, 0⟩ := by
    rw [Dev.rxRequest_heard hsrc hx hpe, Dev.requestAnswer, hbad]
    rfl
  have hsends := (d.requestHeard p r).tx_sends hp ⟨0, 4, false, [], 39, 0⟩
  rw [Dev.sends, (Dev.requestHeard_keeps hp d r).txs p] at hsends
  rw [heq]
  exact hsends

/-- SRC_REQUEST is posted for a valid one. -/
theorem Dev.rxRequest_asks {copy : Nat} (hr : r < 2 ^ 32) (hok : d.requestOk p false r copy = true) (hexp : d.explicit p = false)
    (hres : d.get (H.resume p) = 0) : (d.rxRequest p false r copy).get (H.rdoNew p) = r ∧
      (d.rxRequest p false r copy).get (F.PRT_PE_STAT_ASKCODE p) = 1 ∧ (d.rxRequest p false r copy).pe p = 3 := by
  have hk := Dev.requestHeard_keeps hp d r
  have hput (e : Dev) : Keeps e (e.setPe p 3) [F.PRT_PE_STAT_STATE 0] := (Keeps.refl e _).put 3
  have heq : d.rxRequest p false r copy = ((d.requestHeard p r).setPe p 3).askPost p 1 r ((d.requestHeard p r).offered p r) := by
    rw [Dev.rxRequest_heard hsrc hx hpe, Dev.requestAnswer, hk.requestOk hp, hok, hk.explicit hp, hexp, Dev.bit, hk.get (H.resume p), hres]
    rfl
  have hset (w : Nat) : Keeps ((d.requestHeard p r).setPe p 3) (((d.requestHeard p r).setPe p 3).askSet p 1 r w) askSetFlds :=
    Dev.askSet_keeps _ hp 1 r w
  have hreply (e : Dev) (v : Nat) (h : e.get (H.rdoNew p) = r ∧ e.get (F.PRT_PE_STAT_ASKCODE p) = 1 ∧ e.pe p = 3) :
      (e.srcReply p v).get (H.rdoNew p) = r ∧ (e.srcReply p v).get (F.PRT_PE_STAT_ASKCODE p) = 1 ∧ (e.srcReply p v).pe p = 3 := by
    have htx (e : Dev) (m k : Nat) := e.txSop_keeps hp m [] k
    have hcon (v : Nat) : Keeps e (e.put (H.newCon p) v) [H.newCon 0] := (Keeps.refl e _).put v
    obtain ⟨hrdo, hcode, hthree⟩ := h
    unfold Dev.srcReply
    dsimp only
    split
    · exact ⟨((htx _ _ _).get _).trans (((hput _).get _).trans (((hcon _).get _).trans hrdo)),
        ((htx _ _ _).get _).trans (((hput _).get _).trans (((hcon _).get _).trans hcode)),
        ((htx _ _ _).get (F.PRT_PE_STAT_STATE p)).trans (Dev.get_put_self _ _ _)⟩
    · exact ⟨((htx _ _ _).get _).trans hrdo, ((htx _ _ _).get _).trans hcode, ((htx _ _ _).get (F.PRT_PE_STAT_STATE p)).trans hthree⟩
  have hposted (w : Nat) (e : Dev) (he : Keeps (((d.requestHeard p r).setPe p 3).askSet p 1 r w) e askRestFlds) :
      e.get (H.rdoNew p) = r ∧ e.get (F.PRT_PE_STAT_ASKCODE p) = 1 ∧ e.pe p = 3 :=
    ⟨(he.get _).trans (((hset w).get _).trans (((hput _).get _).trans (d.requestHeard_rdo hr))),
      (he.get _).trans (Dev.askSet_code _ hp 1 r w (by decide)),
      (he.get (F.PRT_PE_STAT_STATE p)).trans (((hset w).get _).trans (Dev.get_put_self _ _ _))⟩
  rw [heq]
  exact Dev.askPost_ends (P := fun e => e.get (H.rdoNew p) = r ∧ e.get (F.PRT_PE_STAT_ASKCODE p) = 1 ∧ e.pe p = 3) _ hp 1 r _
    (hposted _) fun e act arg he => hreply e _ (hposted _ e he)

end

example (d : Dev) : (d.requestHeard 3 0).txs 3 = d.txs 3 := (Dev.requestHeard_keeps (by decide) d 0).txs 3

/-! ### EPR mode -/

section
variable {d : Dev} {p : Nat} (hp : p < 24) (hrev : d.pd2 p = false)
include hp hrev

/-- A source without EPREN fails the entry at once. -/
theorem Dev.rxEprMode_refused (hsrc : d.isSrc p = true) (hen : d.get (F.PRT_PE_CTRL_EPREN p) = 0) (data : Nat) :
    d.sends (d.rxEprMode p 1 data) p ⟨0, 42, false, eprMode 4 4, 34, 0⟩ ∧ (d.rxEprMode p 1 data).pe p = 13 := by
  have hk : Keeps d (((d.askCancel p).exBegin p false 1200).setPe p 13) (exBeginFlds ++ askEndFlds ++ [F.PRT_PE_STAT_STATE 0]) :=
    .put (.andThen (d.askCancel_keeps hp).mono (Dev.exBegin_keeps _ hp false 1200)) 13
  have hwhy : (((d.askCancel p).exBegin p false 1200).setPe p 13).eprRefusal p = 4 := by
    rw [Dev.eprRefusal, Dev.bit, hk.get (F.PRT_PE_CTRL_EPREN p), hen]
    rfl
  have heq : d.rxEprMode p 1 data = (((d.askCancel p).exBegin p false 1200).setPe p 13).tx p ⟨0, 42, false, eprMode 4 4, 34, 0⟩ := by
    unfold Dev.rxEprMode
    dsimp only
    rw [hrev, if_neg Bool.false_ne_true, if_pos ⟨rfl, hsrc⟩, hwhy]
    rfl
  have htx (e : Dev) := e.tx_keeps hp ⟨0, 42, false, eprMode 4 4, 34, 0⟩
  have hsends := (((d.askCancel p).exBegin p false 1200).setPe p 13).tx_sends hp ⟨0, 42, false, eprMode 4 4, 34, 0⟩
  rw [Dev.sends, hk.txs p] at hsends
  rw [heq]
  exact ⟨hsends, ((htx _).get (F.PRT_PE_STAT_STATE p)).trans (Dev.get_put_self _ _ _)⟩

/-- Enter Succeeded: EPR mode, and a wait for its capabilities. -/
theorem Dev.rxEprMode_entered (hon : d.get (T.enterEpr p) ≠ 0) (data : Nat) :
    (d.rxEprMode p 3 data).get (F.PRT_PE_STAT_EPR p) = 1 ∧ (d.rxEprMode p 3 data).get (F.PRT_PE_EVT_EPRCHG p) = 1 ∧
      (d.rxEprMode p 3 data).get (T.enterEpr p) = 0 ∧ (d.rxEprMode p 3 data).get (T.snkKeep p) = (d.now + 24000001) % 2 ^ 64 ∧
      (d.rxEprMode p 3 data).pe p = 7 := by
  have hset : Keeps d ((d.stop (T.enterEpr p)).set1 (F.PRT_PE_STAT_EPR p)) [T.enterEpr 0, F.PRT_PE_STAT_EPR 0] := ((Keeps.refl d _).stop).set1
  have hevt (e : Dev) : Keeps e (e.peEvt p (F.PRT_PE_EVT_EPRCHG p)) [F.PRT_PE_EVT_EPRCHG 0] := (Keeps.refl e _).peEvt hp
  have harm (e : Dev) (n : Nat) : Keeps e (e.arm (T.snkKeep p) n) [T.snkKeep 0] := (Keeps.refl e _).arm n
  have hwait (e : Dev) : Keeps e (((e.cmdFin p 0).exEnd p).snkWait p 7) (cmdFlds ++ exEndFlds ++ [T.waitCap 0]) :=
    .arm (.put (.andThen (e.cmdFin_keeps hp 0).mono (Dev.exEnd_keeps _ hp)) 7) _
  have heq : d.rxEprMode p 3 data = ((((((d.stop (T.enterEpr p)).set1 (F.PRT_PE_STAT_EPR p)).peEvt p (F.PRT_PE_EVT_EPRCHG p)).arm
      (T.snkKeep p) (msTicks 375)).cmdFin p 0).exEnd p).snkWait p 7 := by
    unfold Dev.rxEprMode
    rw [hrev, if_neg Bool.false_ne_true, if_neg (by simp), if_neg (by simp), Dev.armed, if_pos (by simpa using hon), if_neg (by decide),
      if_pos rfl]
  rw [heq]
  refine ⟨?_, ?_, ?_, ?_, ?_⟩
  · exact ((hwait _).get _).trans (((harm _ _).get _).trans (((hevt _).get _).trans (Dev.get_put_self _ _ _)))
  · exact ((hwait _).get _).trans (((harm _ _).get _).trans (Dev.peEvt_self _ hp))
  · refine ((hwait _).get _).trans (((harm _ _).get _).trans (((hevt _).get _).trans ?_))
    exact (Dev.get_put_ne _ _ (by simp only [fkey, hkey]; omega)).trans (Dev.get_put_self _ _ _)
  · refine ((hwait _).get _).trans ?_
    rw [Dev.arm, Dev.get_put_self, (hevt _).now, hset.now]
    rfl
  · rw [Dev.pe, Dev.snkWait, Dev.arm, Dev.setPe]
    exact (Dev.get_put_ne _ _ (by simp only [fkey, hkey]; omega)).trans (Dev.get_put_self _ _ _)

end

example (d : Dev) : (d.askCancel 3).txs 3 = d.txs 3 := (d.askCancel_keeps (by decide)).txs 3

end Sys2Proof.Machine

/-!
O57, the resets that the timers of the protocol layer and its messages begin (R195, R218-R220).
-/
namespace Sys2Proof.Machine

/-! ### Hard_Reset for a timer -/

section
variable {d : Dev} {p : Nat} (hp : p < 24) (hatt : d.attached p = true)
include hp hatt

/-- A timer that ends in a Hard_Reset, after the started command's end or the count of its tries. -/
theorem Dev.hardReset_timer {e : Dev} {t : Fld} (hon : d.get t ≠ 0) (f : Dev → Dev) (hf : f (d.stop t) = e.hardReset p)
    (hk : Keeps d e (cmdFlds ++ [T.senderResp 0, T.waitCap 0, T.psTrans 0, T.ppsTo 0, T.srcKeep 0, H.hrTry 0])) :
    hardResetBegun d (d.onExpiry t f) p := by
  have heq : d.onExpiry t f = f (d.stop t) := if_pos (by simpa [Dev.armed] using hon)
  rw [heq, hf]
  exact Dev.hardReset_begun _ hp hk ((hk.attached hp).trans hatt)

/-- No reply to a Request. -/
theorem Dev.senderResp_hard (hon : d.get (T.senderResp p) ≠ 0) (haw : d.get (H.await p) = 2) :
    hardResetBegun d (d.onExpiry (T.senderResp p) (·.senderRespEnd p)) p := by
  have hstop : Keeps d (d.stop (T.senderResp p)) [T.senderResp 0] := (Keeps.refl d _).stop
  refine Dev.hardReset_timer hp hatt (e := (d.stop (T.senderResp p)).cmdFin p 3) hon _ ?_ (.andThen hstop.mono (Dev.cmdFin_keeps _ hp 3))
  unfold Dev.senderRespEnd
  rw [hstop.get (H.await p), haw]
  rfl

/-- No capabilities for a sink. -/
theorem Dev.waitCap_hard (hon : d.get (T.waitCap p) ≠ 0) (htry : d.get (H.hrTry p) < 2) :
    hardResetBegun d (d.onExpiry (T.waitCap p) (·.hardOrNoPd p)) p := by
  have hstop : Keeps d (d.stop (T.waitCap p)) [T.waitCap 0] := (Keeps.refl d _).stop
  refine Dev.hardReset_timer hp hatt (e := (d.stop (T.waitCap p)).put (H.hrTry p) (d.get (H.hrTry p) + 1)) hon _ ?_ (hstop.mono.put _)
  unfold Dev.hardOrNoPd
  rw [hstop.get (H.hrTry p), if_neg (by omega)]

/-- No PS_RDY. -/
theorem Dev.psTrans_hard (hon : d.get (T.psTrans p) ≠ 0) (hdone : d.get (H.psDone p) = 0) :
    hardResetBegun d (d.onExpiry (T.psTrans p) (·.psTransEnd p)) p := by
  have hstop : Keeps d (d.stop (T.psTrans p)) [T.psTrans 0] := (Keeps.refl d _).stop
  refine Dev.hardReset_timer hp hatt (e := (d.stop (T.psTrans p)).cmdFin p 3) hon _ ?_ (.andThen hstop.mono (Dev.cmdFin_keeps _ hp 3))
  unfold Dev.psTransEnd
  rw [Dev.bit, hstop.get (H.psDone p), hdone]
  rfl

/-- No periodic Request, or no keep-alive. -/
theorem Dev.silence_hard {t : Fld} (ht : t = T.ppsTo p ∨ t = T.srcKeep p) (hon : d.get t ≠ 0) :
    hardResetBegun d (d.onExpiry t (·.hardReset p)) p := by
  refine Dev.hardReset_timer hp hatt hon _ rfl ?_
  rcases ht with rfl | rfl
  · exact (Keeps.refl d _).stop
  · exact (Keeps.refl d _).stop

end

example (d : Dev) : (d.cmdFin 3 3).get (H.await 3) = d.get (H.await 3) := (d.cmdFin_keeps (by decide) 3).get _

/-! ### Soft_Reset -/

/-- A message of a Soft_Reset exchange goes out. -/
def Dev.softSend (d : Dev) (p : Nat) (own : Bool) (msg kind : Nat) : Dev :=
  ((((d.exBegin p own 700).setPe p 16).awaitEnd p).txSop p msg [] kind).peEvt p (F.PRT_PE_EVT_SOFTRST p)

section
variable {d : Dev} {p : Nat} (hp : p < 24)
include hp

theorem Dev.softSend_shows (own : Bool) (msg kind : Nat) (htx : d.txs p = []) : (d.softSend p own msg kind).pe p = 16 ∧
    (d.softSend p own msg kind).txs p = [⟨0, msg, false, [], kind, 0⟩] ∧
    (d.softSend p own msg kind).get (F.PRT_PE_EVT_SOFTRST p) = 1 := by
  have hevt (e : Dev) : Keeps e (e.peEvt p (F.PRT_PE_EVT_SOFTRST p)) [F.PRT_PE_EVT_SOFTRST 0] := (Keeps.refl e _).peEvt hp
  have hsend (e : Dev) := e.txSop_keeps hp msg [] kind
  have hawait (e : Dev) : Keeps e (e.awaitEnd p) [H.await 0, T.senderResp 0] := .puts (.refl e _)
  have hbegin : Keeps d (((d.exBegin p own 700).setPe p 16).awaitEnd p) (exBeginFlds ++ [F.PRT_PE_STAT_STATE 0, H.await 0, T.senderResp 0]) :=
    .puts (.put (d.exBegin_keeps hp own 700).mono 16)
  have hsends := (((d.exBegin p own 700).setPe p 16).awaitEnd p).tx_sends hp ⟨0, msg, false, [], kind, 0⟩
  rw [Dev.sends, hbegin.txs p, htx] at hsends
  unfold Dev.softSend
  exact ⟨((hevt _).get (F.PRT_PE_STAT_STATE p)).trans (((hsend _).get _).trans (((hawait _).get _).trans (Dev.get_put_self _ _ _))),
    ((hevt _).txs p).trans hsends, Dev.peEvt_self _ hp⟩

omit hp in
theorem Dev.puts_txs (e : Dev) (ws : List (Fld × Nat)) : (e.puts ws).txs p = e.txs p := by
  induction ws generalizing e with
  | nil => rfl
  | cons w ws ih => exact ih (e.put w.1 w.2)

omit hp in
theorem Dev.txClear_txs (d : Dev) : (d.txClear p).txs p = [] := Dev.setTxs_txs d []

/-- A Soft_Reset of its own. -/
theorem Dev.softReset_shows (d : Dev) : (d.softReset p).pe p = 16 ∧ (d.softReset p).txs p = [⟨0, 13, false, [], 5, 0⟩] := by
  have habandon := ((d.askCancel p).txClear p).xferAbandon_keeps hp
  have hmid := (((d.askCancel p).txClear p).xferAbandon p).midReset_keeps hp
  have hset (e : Dev) (ws : List (Fld × Nat)) : (e.puts ws).txs p = e.txs p := Dev.puts_txs e ws
  unfold Dev.softReset
  obtain ⟨hpe, htx, -⟩ := Dev.softSend_shows hp true 13 5
    ((hset _ _).trans ((hmid.txs p).trans ((habandon.txs p).trans (Dev.txClear_txs (d.askCancel p)))))
  exact ⟨hpe, htx⟩

/-- A missing chunk is a protocol error. -/
theorem Dev.chunkEnd_soft (hon : d.get (T.chunk p) ≠ 0) (hacc : d.get (H.swAcc p) = 0) (hver : d.get (H.hpmVerd p) = 0) :
    (d.onExpiry (T.chunk p) (·.protFail p)).pe p = 16 ∧
      (d.onExpiry (T.chunk p) (·.protFail p)).txs p = [⟨0, 13, false, [], 5, 0⟩] ∧
      (d.onExpiry (T.chunk p) (·.protFail p)).get (F.PRT_PE_EVT_PROTERR p) = 1 := by
  have hstop : Keeps d (d.stop (T.chunk p)) [T.chunk 0] := (Keeps.refl d _).stop
  have hevt (e : Dev) : Keeps e (e.peEvt p (F.PRT_PE_EVT_PROTERR p)) [F.PRT_PE_EVT_PROTERR 0] := (Keeps.refl e _).peEvt hp
  have heq : d.onExpiry (T.chunk p) (·.protFail p) =
      (((d.stop (T.chunk p)).abandon p).softReset p).peEvt p (F.PRT_PE_EVT_PROTERR p) := by
    refine (if_pos (by simpa [Dev.armed] using hon)).trans ?_
    change (d.stop (T.chunk p)).protFail p = _
    rw [Dev.protFail, Dev.bit, hstop.get (H.swAcc p), hacc, if_neg (by decide), Dev.bit, hstop.get (H.hpmVerd p), hver, if_neg (by decide)]
    rfl
  obtain ⟨hpe, htx⟩ := Dev.softReset_shows hp ((d.stop (T.chunk p)).abandon p)
  rw [heq]
  exact ⟨((hevt _).get (F.PRT_PE_STAT_STATE p)).trans hpe, ((hevt _).txs p).trans htx, Dev.peEvt_self _ hp⟩

omit hp in
/-- What a Soft_Reset received ends. -/
def Dev.softHeard (d : Dev) (p hdr : Nat) : Dev :=
  let d := ((d.xferAbandon p).midReset p).rxNote p 0 hdr
  let d := if d.get (H.ownWait p) = 17 then
      (d.puts [(H.ownWait p, 0), (T.sinkTx p, 0)]).when (d.bit (F.PRT_SWAP_STAT_STEP p)) (·.swapEvt p (F.PRT_SWAP_STAT_COLL p))
    else d.withdraw p 0
  ((((d.setRp p false).abandon p).askCancel p).txClear p).puts [(H.vdmWhat p, 0), (T.vdmResp p, 0), (T.vdmBusy p, 0), (T.sendCaps p, 0),
    (T.waitCap p, 0), (T.sinkReq p, 0), (T.enterEpr p, 0), (H.offerDue p, 0), (T.discId p, 0), (T.chunk p, 0), (H.exOn p, 0), (H.exOwn p, 0),
    (H.exAns p, 0), (H.reqHeld p, 0), (H.swAns p, 0)]

omit hp in
theorem Dev.softHeard_txs (d : Dev) (hdr : Nat) : (d.softHeard p hdr).txs p = [] := by
  unfold Dev.softHeard
  dsimp only
  exact (Dev.puts_txs _ _).trans (Dev.txClear_txs _)

omit hp in
theorem Dev.rxSoftReset_eq (hdr : Nat) (hver : d.get (H.hpmVerd p) = 0) : d.rxSoftReset p hdr =
    let e := (d.softHeard p hdr).softSend p false 3 6
    if e.isSrc p && !e.hpmCon p && !e.bit (H.resume p) then e.offerAsk p 3 (e.epr p) else e := by
  unfold Dev.rxSoftReset
  rw [Dev.bit, hver]
  exact if_neg (by decide)

/-- A Soft_Reset received is accepted. -/
theorem Dev.rxSoftReset_shows (hdr : Nat) (hver : d.get (H.hpmVerd p) = 0) : (d.rxSoftReset p hdr).pe p = 16 ∧
    (d.rxSoftReset p hdr).txs p = [⟨0, 3, false, [], 6, 0⟩] ∧ (d.rxSoftReset p hdr).get (F.PRT_PE_EVT_SOFTRST p) = 1 := by
  obtain ⟨hpe, htx, hevt⟩ := Dev.softSend_shows hp false 3 6 (d.softHeard_txs hdr)
  have hask := ((d.softHeard p hdr).softSend p false 3 6).offerAsk_keeps hp 3 (((d.softHeard p hdr).softSend p false 3 6).epr p)
  rw [Dev.rxSoftReset_eq hdr hver]
  dsimp only
  split
  · exact ⟨(hask.get (F.PRT_PE_STAT_STATE p)).trans hpe, (hask.txs p).trans htx, (hask.get _).trans hevt⟩
  · exact ⟨hpe, htx, hevt⟩

end

example (d : Dev) : (d.xferAbandon 3).txs 3 = d.txs 3 := (d.xferAbandon_keeps (by decide)).txs 3

/-! ### A Hard_Reset received -/

section
variable {d : Dev} {p : Nat} (hp : p < 24)
include hp

/-- The end of a resumption leaves a sink a sink. -/
theorem Dev.resumeEnd_isSnk (d : Dev) : (d.resumeEnd p).isSnk p = d.isSnk p := by
  have hclr (e : Dev) : Keeps e (e.clr (H.resume p)) [H.resume 0] := (Keeps.refl e _).clr
  have hnone (e : Dev) : (e.clr (H.resume p)).resuming p = false := by
    rw [Dev.resuming, Dev.bit, Dev.clr, Dev.get_put_self]
    exact Bool.and_false _
  have hdue (e : Dev) (c : Prop) [Decidable c] (n : Nat) : Keeps e (if c then e.arm (T.pdDb p) n else e) [T.pdDb 0] :=
    .ite ((Keeps.refl e _).arm n) (.refl e _)
  unfold Dev.resumeEnd
  split
  · next h =>
    have hsnk : d.isSnk p = d.bit (H.grdSink p) := by
      have hatt : d.att p = 10 := by simpa [Dev.resuming] using (Bool.and_eq_true_iff.1 h).1
      simp [Dev.isSnk, h, hatt]
    have hatt : ((d.attSet p (if d.bit (H.grdSink p) then 3 else 8)).clr (H.resume p)).att p = if d.bit (H.grdSink p) then 3 else 8 := by
      refine ((hclr _).get (F.PRT_ATT_STAT_STATE p)).trans ((d.attSet_att hp _).trans ?_)
      split <;> rfl
    refine ((hdue _ _ _).isSnk hp).trans ?_
    rw [hsnk, Dev.isSnk, hnone, hatt]
    cases d.bit (H.grdSink p) <;> rfl
  · next h =>
    rw [Dev.isSnk, Dev.isSnk, hnone, Dev.att, (hclr d).get (F.PRT_ATT_STAT_STATE p)]
    simp [h, Dev.att]

/-- So does the rest of a Hard_Reset. -/
theorem Dev.hardResetCommon_isSnk (d : Dev) : (d.hardResetCommon p).isSnk p = d.isSnk p := by
  have hvoid : Keeps (d.resumeEnd p) ((d.resumeEnd p).hardVoid p) (hardRestFlds ++ askEndFlds ++ conFlds ++ voidFlds) :=
    (Dev.hardVoid_keeps _ hp).mono
  have hk : Keeps (d.resumeEnd p) (d.hardResetCommon p) (hardRestFlds ++ askEndFlds ++ conFlds ++ voidFlds) := by
    rw [Dev.hardResetCommon_eq]
    exact .peEvt (.andThen (.andThen hvoid (Dev.hardRest_keeps _ hp (.refl _ _) _)) (Dev.hardOn_keeps _ hp)) hp
  exact (hk.isSnk hp).trans (Dev.resumeEnd_isSnk hp d)

theorem Dev.rxHardReset_recovers (hmode : d.mode ≠ 2) (hatt : d.attached p = true) (hpd : d.get (H.pdOn p) = 1) (hacc : d.get (H.swAcc p) = 0) :
    (d.rxHardReset p).pe p = 17 ∧ (d.rxHardReset p).get (F.PRT_PE_EVT_HARDRST p) = 1 ∧ (d.rxHardReset p).get (F.PRT_CONTRACT_VALID p) = 0 ∧
      (d.isSrc p = true → (d.rxHardReset p).get (H.hrPhase p) = 2 ∧ (d.rxHardReset p).get (T.psHr p) = (d.now + 1920001) % 2 ^ 64) ∧
      (d.isSnk p = true → (d.rxHardReset p).get (H.iset p) = 0 ∧
        (d.rxHardReset p).get (H.hrPhase p) = (if d.get (F.PRT_ATT_STAT_VBS0 p) = 1 then 6 else 5)) := by
  have hput : Keeps (d.hardResetCommon p) ((d.hardResetCommon p).put (H.hrTry p) 0) [H.hrTry 0] := (Keeps.refl _ _).put 0
  have heq : d.rxHardReset p = ((d.hardResetCommon p).put (H.hrTry p) 0).hardRecover p := by
    unfold Dev.rxHardReset
    rw [if_neg (by simp [hmode, hatt, Dev.bit, hpd]), Dev.bit, hacc]
    rfl
  have hk : Keeps d ((d.hardResetCommon p).put (H.hrTry p) 0) (hardFlds ++ [H.hrTry 0]) := .put (d.hardResetCommon_keeps hp).mono 0
  have hsnk : ((d.hardResetCommon p).put (H.hrTry p) 0).isSnk p = d.isSnk p := (hput.isSnk hp).trans (Dev.hardResetCommon_isSnk hp d)
  have hrec := ((d.hardResetCommon p).put (H.hrTry p) 0).hardRecover_keeps hp
  obtain ⟨hpe, hevt, hval, -⟩ := d.hardResetCommon_shows hp
  rw [heq]
  refine ⟨(hrec.get (F.PRT_PE_STAT_STATE p)).trans ((hput.get _).trans hpe), (hrec.get _).trans ((hput.get _).trans hevt),
    (hrec.get _).trans ((hput.get _).trans hval), fun hs => ?_, fun hs => ?_⟩
  · obtain ⟨hph, ht, -⟩ := Dev.hardRecover_source (hsnk.trans (Dev.isSnk_of_isSrc hs))
    exact ⟨hph, by rw [ht, hk.now]⟩
  · obtain ⟨hi, hph, -⟩ := Dev.hardRecover_sink hp (hsnk.trans hs)
    exact ⟨hi, by rw [hph, hk.get (F.PRT_ATT_STAT_VBS0 p)]⟩

end

end Sys2Proof.Machine

/-!
O57, the periodic timers (R208, R211, R215), the line, and the deadline and the answer of an ask (R225-R231).
-/
namespace Sys2Proof.Machine

/-! ### Timers -/

/-- A timer that ends. -/
theorem Dev.onExpiry_ends {d : Dev} {t : Fld} (hon : d.get t ≠ 0) (f : Dev → Dev) : d.onExpiry t f = f (d.stop t) :=
  if_pos (by simpa [Dev.armed] using hon)

section
variable {d : Dev} {p : Nat} (hp : p < 24)
include hp

/-- R203 permits a start by what a stop of tSinkRequest leaves. -/
theorem Dev.permitted_sinkReq (d : Dev) : (d.stop (T.sinkReq p)).permitted p = d.permitted p := by
  have hk : Keeps d (d.stop (T.sinkReq p)) [T.sinkReq 0] := (Keeps.refl d _).stop
  rw [Dev.permitted, hk.isSnk hp, hk.pd3 hp, hk.get (H.rpLevel p)]
  rfl

theorem Dev.sinkReqEnd_held (hon : d.get (T.sinkReq p) ≠ 0) (hperm : d.permitted p = false) :
    (d.onExpiry (T.sinkReq p) (·.requestAgain p)).get (H.reqHeld p) = 1 ∧
      OnlyRegs d (d.onExpiry (T.sinkReq p) (·.requestAgain p)) [H.reqHeld p, T.sinkReq p] := by
  have heq : d.onExpiry (T.sinkReq p) (·.requestAgain p) = (d.stop (T.sinkReq p)).set1 (H.reqHeld p) :=
    (Dev.onExpiry_ends hon _).trans (if_pos (by rw [Dev.permitted_sinkReq hp, hperm]; rfl))
  rw [heq]
  exact ⟨Dev.get_put_self _ _ _, ((OnlyRegs.refl d _).put _ 0 (by simp)).put _ 1 (by simp)⟩

/-- A VCONN_Swap that waited is sent again. -/
theorem Dev.sinkReqEnd_vconn (hon : d.get (T.sinkReq p) ≠ 0) (hperm : d.permitted p = true) (hpe : d.pe p = 12) :
    d.sends (d.onExpiry (T.sinkReq p) (·.requestAgain p)) p ⟨0, 11, false, [], 11, 0⟩ := by
  have hk : Keeps d ((d.stop (T.sinkReq p)).clr (H.reqHeld p)) [T.sinkReq 0, H.reqHeld 0] := ((Keeps.refl d _).stop).clr
  have heq : d.onExpiry (T.sinkReq p) (·.requestAgain p) =
      ((d.stop (T.sinkReq p)).clr (H.reqHeld p)).tx p ⟨0, 11, false, [], 11, 0⟩ := by
    have hpe' : ((d.stop (T.sinkReq p)).clr (H.reqHeld p)).pe p = 12 := (hk.get (F.PRT_PE_STAT_STATE p)).trans hpe
    refine (Dev.onExpiry_ends hon _).trans ((if_neg (by rw [Dev.permitted_sinkReq hp, hperm]; decide)).trans ?_)
    dsimp only
    rw [hpe']
    rfl
  have hsends := ((d.stop (T.sinkReq p)).clr (H.reqHeld p)).tx_sends hp ⟨0, 11, false, [], 11, 0⟩
  rw [Dev.sends, hk.txs p] at hsends
  rw [heq]
  exact hsends

omit hp in
/-- A periodic message of its own is wanted, and its timer runs again. -/
theorem Dev.periodic_shows {t : Fld} {k n : Nat} (ht : t = T.ppsReq p ∨ t = T.snkKeep p) (hon : d.get t ≠ 0) (hk : k < 16) :
    (d.onExpiry t (fun e => (e.wantOwn p k).arm t n)).getBit (H.want p) k = true ∧
      (d.onExpiry t (fun e => (e.wantOwn p k).arm t n)).get t = (d.now + n + 1) % 2 ^ t.w ∧
      OnlyRegs d (d.onExpiry t (fun e => (e.wantOwn p k).arm t n)) [H.want p, T.cmdStart p, t] := by
  have hne : (H.want p).key ≠ t.key ∧ (H.want p).key ≠ (T.cmdStart p).key := by
    rcases ht with rfl | rfl <;> simp only [hkey] <;> omega
  rw [Dev.onExpiry_ends hon]
  refine ⟨?_, Dev.get_put_self _ _ _, ((((OnlyRegs.refl d _).put _ 0 (by simp)).put _ _ (by simp)).put _ _ (by simp)).put _ _ (by simp)⟩
  rw [Dev.getBit, Dev.arm, Dev.get_put_ne _ _ hne.1, Dev.wantOwn, Dev.arm, Dev.get_put_ne _ _ hne.2]
  exact Dev.putBit_getBit _ _ hk

/-- No Enter Succeeded within tEnterEPR. -/
theorem Dev.enterEprEnd_shows {c : Cmd} {l : List Cmd} (hon : d.get (T.enterEpr p) ≠ 0) (hrun : d.get (H.cmdRun p) = 1)
    (hceil : d.get (H.ceilCmdRun p) = 0) (hcmds : d.cmds p = c :: l) :
    completed (d.onExpiry (T.enterEpr p) (·.enterEprEnd p)) p c l 3 ∧ (d.onExpiry (T.enterEpr p) (·.enterEprEnd p)).get (T.enterEpr p) = 0 := by
  have hk : Keeps d (d.stop (T.enterEpr p)) [T.enterEpr 0] := (Keeps.refl d _).stop
  have hend : Keeps (d.stop (T.enterEpr p)) ((d.stop (T.enterEpr p)).enterEprEnd p) (cmdFlds ++ exEndFlds) :=
    .andThen (Dev.cmdFin_keeps _ hp 3).mono (Dev.exEnd_keeps _ hp)
  rw [Dev.onExpiry_ends hon]
  exact ⟨(Dev.cmdFin_exEnd hp (by decide) ((hk.get _).trans hrun) ((hk.get _).trans hceil) ((hk.cmds p).trans hcmds)).1,
    (hend.get _).trans (Dev.get_put_self _ _ _)⟩

omit hp in
theorem Dev.bistEnd_shows (hon : d.get (T.bist p) ≠ 0) : (d.onExpiry (T.bist p) (·.clr (H.bist p))).get (H.bist p) = 0 ∧
    (d.onExpiry (T.bist p) (·.clr (H.bist p))).get (T.bist p) = 0 ∧
    OnlyRegs d (d.onExpiry (T.bist p) (·.clr (H.bist p))) [H.bist p, T.bist p] := by
  rw [Dev.onExpiry_ends hon]
  exact ⟨Dev.get_put_self _ _ _, (Dev.get_put_ne _ _ (by simp only [hkey]; omega)).trans (Dev.get_put_self _ _ _),
    ((OnlyRegs.refl d _).put _ 0 (by simp)).put _ 0 (by simp)⟩

/-- The line becomes free. -/
theorem Dev.lineFreed_shows (d : Dev) : (d.lineFreed p).get (H.lineBusy p) = 0 ∧ (d.lineFreed p).get (T.lineFree p) = 0 ∧
    (d.get (H.hpmPend p) = 1 → (d.lineFreed p).get (T.hpmCond p) = (d.now + 1) % 2 ^ 64) ∧
    OnlyRegs d (d.lineFreed p) [H.lineBusy p, T.lineFree p, T.hpmCond p, H.ceilTick p, T.ownCeil p] := by
  have hset : Keeps d (d.puts [(H.lineBusy p, 0), (T.lineFree p, 0)]) [H.lineBusy 0, T.lineFree 0] := .puts (.refl d _)
  have hcond (e : Dev) (c : Prop) [Decidable c] : Keeps e (if c then e.arm (T.hpmCond p) 0 else e) [T.hpmCond 0] :=
    .ite ((Keeps.refl e _).arm 0) (.refl e _)
  have hceil (e : Dev) (c : Prop) [Decidable c] (v : Nat) : Keeps e (if c then (e.put (H.ceilTick p) v).arm (T.ownCeil p) 0 else e)
      [H.ceilTick 0, T.ownCeil 0] := .ite (((Keeps.refl e _).put v).arm 0) (.refl e _)
  have hputs : OnlyRegs d (d.puts [(H.lineBusy p, 0), (T.lineFree p, 0)]) [H.lineBusy p, T.lineFree p, T.hpmCond p, H.ceilTick p, T.ownCeil p] :=
    .puts (.refl d _) _ (by simp)
  have hmid := OnlyRegs.ite (c := (d.puts [(H.lineBusy p, 0), (T.lineFree p, 0)]).bit (H.hpmPend p) = true)
    (hputs.put (T.hpmCond p) ((d.puts [(H.lineBusy p, 0), (T.lineFree p, 0)]).now + 0 + 1) (by simp)) hputs
  unfold Dev.lineFreed
  refine ⟨((hceil _ _ _).get _).trans (((hcond _ _).get _).trans ?_), ((hceil _ _ _).get _).trans (((hcond _ _).get _).trans ?_), fun hpend =>
    ((hceil _ _ _).get _).trans ?_, .ite ((hmid.put _ _ (by simp)).put _ _ (by simp)) hmid⟩
  · simp (disch := (simp only [hkey]; omega)) only [Dev.puts_cons, Dev.puts_nil, Dev.get_put_ne, Dev.get_put_self]
    rfl
  · simp (disch := (simp only [hkey]; omega)) only [Dev.puts_cons, Dev.puts_nil, Dev.get_put_self]
    rfl
  · rw [Dev.bit, hset.get (H.hpmPend p), hpend, if_pos (by decide), Dev.arm, Dev.get_put_self, hset.now]

end

example (d : Dev) : (d.wantOwn 3 2).txs 3 = d.txs 3 := (d.wantOwn_keeps (by decide) 2).txs 3

/-! ### The deadline of SRC_OFFER -/

section
variable {d : Dev} {p : Nat} (hp : p < 24)
include hp

omit hp in
/-- The default of SRC_OFFER is the offer of every slot. -/
theorem Dev.askDefault_offer (hdef : (d.pstg p 0x30).testBit 31 = false) (hk : (d.peEvt p (F.PRT_PE_EVT_ASKDEF p)).stg = d.stg) :
    d.askDefault p 0 = ((d.peEvt p (F.PRT_PE_EVT_ASKDEF p)).puts [(H.offerMask p, 2047), (H.offerOk p, 1)]).arm (T.capsReady p) 0 := by
  have hentry : ((d.peEvt p (F.PRT_PE_EVT_ASKDEF p)).pstg p (0x30 + 0)).testBit 31 = false := by
    rw [Dev.pstg, Dev.stgRead, hk]
    exact hdef
  unfold Dev.askDefault
  dsimp only
  rw [hentry]
  rfl

/-- What it shows. -/
theorem Dev.askDefault_offer_shows (hdef : (d.pstg p 0x30).testBit 31 = false) :
    (d.askDefault p 0).get (F.PRT_PE_EVT_ASKDEF p) = 1 ∧ (d.askDefault p 0).get (H.offerOk p) = 1 ∧
      (d.askDefault p 0).get (H.offerMask p) = 2047 ∧ Keeps d (d.askDefault p 0) [F.PRT_PE_EVT_ASKDEF 0, H.offerMask 0, H.offerOk 0, T.capsReady 0] ∧
      ∀ f : Fld, f.ofMiss → (d.askDefault p 0).get f = d.get f := by
  have hevt : Keeps d (d.peEvt p (F.PRT_PE_EVT_ASKDEF p)) [F.PRT_PE_EVT_ASKDEF 0, H.offerMask 0, H.offerOk 0, T.capsReady 0] :=
    (Keeps.refl d _).peEvt hp
  have hset (e : Dev) : Keeps e ((e.puts [(H.offerMask p, 2047), (H.offerOk p, 1)]).arm (T.capsReady p) 0) [H.offerMask 0, H.offerOk 0, T.capsReady 0] :=
    .arm (.puts (.refl e _)) 0
  rw [Dev.askDefault_offer hdef hevt.stg]
  refine ⟨((hset _).get _).trans (Dev.peEvt_self _ hp), ?_, ?_,
    hevt.andThen (hset _), fun f hf => ?_⟩
  · rw [Dev.arm]
    simp (disch := (simp only [hkey]; omega)) only [Dev.puts_cons, Dev.puts_nil, Dev.get_put_ne, Dev.get_put_self]
    rfl
  · rw [Dev.arm]
    simp (disch := (simp only [hkey]; omega)) only [Dev.puts_cons, Dev.puts_nil, Dev.get_put_ne, Dev.get_put_self]
    rfl
  · rw [Dev.arm, Dev.puts_cons, Dev.puts_cons, Dev.puts_nil, Dev.get_put_hidden_ofMiss hf _ _ (by decide) (by omega),
      Dev.get_put_hidden_ofMiss hf _ _ (by decide) (by omega), Dev.get_put_hidden_ofMiss hf _ _ (by decide) (by omega)]
    exact Dev.event_ofMiss hf d _ (peSource_lt hp _) (by simp only [Fld.ofMiss, fkey, hkey] at hf ⊢; omega)

/-- The deadline of an ask whose code is SRC_OFFER. -/
theorem Dev.askExpire_offer (hon : d.get (T.ask p) ≠ 0) (hpend : d.get (F.PRT_PE_STAT_ASKPEND p) = 1)
    (hcode : d.get (F.PRT_PE_STAT_ASKCODE p) = 0) (hdef : (d.pstg p 0x30).testBit 31 = false) :
    (d.askExpire p).get (F.PRT_PE_STAT_ASKPEND p) = 0 ∧ (d.askExpire p).get (T.ask p) = 0 ∧
      (d.askExpire p).get (F.PRT_PE_EVT_ASKDEF p) = 1 ∧ (d.askExpire p).get (H.offerOk p) = 1 ∧ (d.askExpire p).get (H.offerMask p) = 2047 ∧
      (d.get (T.ask p) < d.now + 1 → d.get H.dlmTick ≠ d.now + 1 →
        (d.askExpire p).get F.FAB_DLM_KIND = 2 ∧ (d.askExpire p).get F.FAB_DLM_INDEX = p) := by
  have hcancel := d.askCancel_keeps hp
  have hmiss : Keeps d (if decide (d.now + 1 > d.get (T.ask p)) then (d.askCancel p).dlMiss 2 p else d.askCancel p) askEndFlds :=
    .ite (hcancel.dlMiss 2 p) hcancel
  have hgone : Keeps (d.askCancel p) (if decide (d.now + 1 > d.get (T.ask p)) then (d.askCancel p).dlMiss 2 p else d.askCancel p) [] :=
    .ite ((Keeps.refl _ _).dlMiss 2 p) (.refl _ _)
  have heq : d.askExpire p = (if decide (d.now + 1 > d.get (T.ask p)) then (d.askCancel p).dlMiss 2 p else d.askCancel p).askDefault p 0 := by
    unfold Dev.askExpire
    rw [Dev.armed, Dev.askOut, Dev.bit, hpend, if_pos (by simpa using hon)]
    dsimp only
    rw [hmiss.get (F.PRT_PE_STAT_ASKCODE p), hcode]
  obtain ⟨hevt, hok, hmask, hk, hdlm⟩ := Dev.askDefault_offer_shows hp
    (d := if decide (d.now + 1 > d.get (T.ask p)) then (d.askCancel p).dlMiss 2 p else d.askCancel p) (by rw [hmiss.pstg]; exact hdef)
  rw [heq]
  refine ⟨(hk.get _).trans ((hgone.get _).trans ?_), (hk.get _).trans ((hgone.get _).trans ?_), hevt, hok, hmask, fun hlate htick => ?_⟩
  · rw [Dev.askCancel]
    simp (disch := (simp only [fkey, hkey]; omega)) only [Dev.puts_cons, Dev.puts_nil, Dev.get_put_ne, Dev.get_put_self]
    rfl
  · exact Dev.get_put_self _ _ _
  · have htick' : (d.askCancel p).get H.dlmTick ≠ (d.askCancel p).now + 1 := by
      rw [hcancel.now]
      refine fun h => htick (Eq.trans ?_ h)
      rw [Dev.askCancel, Dev.puts_cons, Dev.puts_cons, Dev.puts_nil, Dev.get_put_hidden_ofMiss (.inr rfl) _ _ (by decide) (by omega),
        Dev.get_put_reg_ofMiss (.inr rfl) _ _ (by omega) (by omega) (by omega)]
    obtain ⟨hkind, hindex⟩ := ((d.askCancel p).dlMiss_shows (kind := 2) (index := p) (by decide) (by omega)).2 htick'
    rw [hdlm _ (.inl (by decide)), hdlm _ (.inl (by decide)), if_pos (by simpa using hlate)]
    exact ⟨hkind, hindex⟩

end

example (d : Dev) : (d.askCancel 3).txs 3 = d.txs 3 := (d.askCancel_keeps (by decide)).txs 3

/-! ### Answers -/

section
variable {d : Dev} {p : Nat} (hp : p < 24) {a : Agent} {late : Bool} {v : Nat}
include hp

omit hp in
/-- An answer to SRC_OFFER in time. -/
theorem Dev.askAnswer_offer (hl : late = false) (hpend : d.get (F.PRT_PE_STAT_ASKPEND p) = 1) (hser : bits v 24 12 = d.get (F.PRT_PE_STAT_ASKSER p))
    (hv : bits v 20 4 = 0) (hcode : d.get (F.PRT_PE_STAT_ASKCODE p) = 0) (htime : d.now + 1 < d.get (T.ask p)) (hact : bits v 16 3 ≤ 1) :
    d.askAnswer a late p v = ((d.askCancel p).puts [(H.offerMask p, if bits v 16 3 = 1 then d.get (F.PRT_ASK_ARG_ARG p a.copy) % 2048 ||| 1 else 2047),
      (H.offerOk p, 1)]).arm (T.capsReady p) 0 := by
  have hans : d.answers p v = true := by simp [Dev.answers, Dev.askOut, Dev.bit, hpend, hser, hv, hcode, htime]
  have hok : actAllowed 0 (bits v 16 3) = true := by simpa [actAllowed] using hact
  unfold Dev.askAnswer
  dsimp only
  rw [hans, hl, hv, if_pos (by decide), if_pos (by rw [hok]; rfl), if_neg (by simp)]
  change ((d.askCancel p).puts [(H.offerMask p, if bits v 16 3 = 1 then d.get (F.PRT_ASK_ARG_ARG p a.copy) % 2 ^ 28 % 2048 ||| 1 else 2047),
    (H.offerOk p, 1)]).arm (T.capsReady p) 0 = _
  rw [Nat.mod_mod_of_dvd _ (by decide)]

omit hp in
theorem Dev.askAnswer_offer_shows {m : Nat} (hm : m < 2048) {e : Dev}
    (he : e = ((d.askCancel p).puts [(H.offerMask p, m), (H.offerOk p, 1)]).arm (T.capsReady p) 0) :
    e.get (F.PRT_PE_STAT_ASKPEND p) = 0 ∧ e.get (H.offerOk p) = 1 ∧ e.get (H.offerMask p) = m ∧
      OnlyRegs d e [F.PRT_PE_STAT_ASKPEND p, T.ask p, H.offerOk p, H.offerMask p, T.capsReady p] := by
  subst he
  refine ⟨?_, ?_, ?_, .put (.puts (.puts (.refl d _) _ (by simp)) _ (by simp)) _ _ (by simp)⟩ <;> rw [Dev.arm, Dev.askCancel]
  · simp (disch := (simp only [fkey, hkey]; omega)) only [Dev.puts_cons, Dev.puts_nil, Dev.get_put_ne, Dev.get_put_self]
    rfl
  · simp (disch := (simp only [fkey, hkey]; omega)) only [Dev.puts_cons, Dev.puts_nil, Dev.get_put_ne, Dev.get_put_self]
    rfl
  · simp (disch := (simp only [fkey, hkey]; omega)) only [Dev.puts_cons, Dev.puts_nil, Dev.get_put_ne, Dev.get_put_self]
    exact Nat.mod_eq_of_lt hm

/-- An answer that comes late. -/
theorem Dev.askAnswer_late (hno : late = true ∨ d.get (F.PRT_PE_STAT_ASKPEND p) = 0 ∨ bits v 24 12 ≠ d.get (F.PRT_PE_STAT_ASKSER p) ∨
    d.get (T.ask p) ≤ d.now + 1) : (d.askAnswer a late p v).get (F.PRT_PE_EVT_ANSLATE p) = 1 ∧
      ∀ f : Fld, f.quiet = true → f.key ≠ (F.PRT_PE_EVT_ANSLATE p).key → (d.askAnswer a late p v).get f = d.get f := by
  have heq : d.askAnswer a late p v = d.peEvt p (F.PRT_PE_EVT_ANSLATE p) := by
    have hans : ¬(d.answers p v && !late) = true := by
      rcases hno with h | h | h | h
      · simp [h]
      · simp [Dev.answers, Dev.askOut, Dev.bit, h]
      · simp [Dev.answers, h]
      · simp [Dev.answers, show ¬ d.now + 1 < d.get (T.ask p) by omega]
    exact if_neg hans
  rw [heq]
  exact ⟨Dev.peEvt_self _ hp, fun f hf hne => Dev.event_get d _ _ (peSource_lt hp _) hf hne⟩

omit hp in
/-- A default table entry is stored from boot ROM code. -/
theorem Dev.ddtLoad_rom (hrom : d.isRom a = true) (hok : 8 < bits v 32 4 ∨ actAllowed (bits v 32 4) (bits v 28 3) = true) :
    (d.ddtLoad a p v).pstg p (0x30 + bits v 32 4) = v % 2 ^ 32 ∧ OnlyRegs d { d.ddtLoad a p v with stg := d.stg } [] := by
  have hact : bits (bits v 0 32) 28 3 = bits v 28 3 := by
    simp only [bits]
    omega
  have heq : d.ddtLoad a p v = d.pstgPut p (0x30 + bits v 32 4) (bits v 0 32) := by
    have hvalid : ¬(bits v 32 4 ≤ 8 ∧ (!actAllowed (bits v 32 4) (bits (bits v 0 32) 28 3)) = true) := by
      rw [hact]
      rintro ⟨hle, hno⟩
      rcases hok with h | h
      · omega
      · simp [h] at hno
    rw [Dev.ddtLoad, if_pos hrom, Dev.ddtPut, if_neg hvalid]
  rw [heq]
  refine ⟨(Dev.pstg_pstgPut_same _ _ _ _).trans ?_, fun _ _ => rfl, rfl⟩
  simp only [bits]
  omega

theorem Dev.ddtLoad_other (hrom : d.isRom a = false) : (d.ddtLoad a p v).get (F.PRT_PE_EVT_DDTWR p) = 1 ∧ (d.ddtLoad a p v).stg = d.stg := by
  have hevt : Keeps d (d.peEvt p (F.PRT_PE_EVT_DDTWR p)) [F.PRT_PE_EVT_DDTWR 0] := (Keeps.refl d _).peEvt hp
  have heq : d.ddtLoad a p v = d.peEvt p (F.PRT_PE_EVT_DDTWR p) := if_neg (by simp [hrom])
  rw [heq]
  exact ⟨Dev.peEvt_self _ hp, hevt.stg⟩

end

end Sys2Proof.Machine

/-!
O57, assembled from the lemmas about its commands.
-/
namespace Sys2Proof.Machine

/-! ### The commands of a port -/

section
variable {s : State} {p : Fin 24} (hcalm : s.calm p.val = true)
include hcalm

/-- A GoodCRC, and none (R194, R195). -/
theorem frame_ends {f : TxFrame} {l : List TxFrame} (htx : s.dev.txs p.val = f :: l) :
    (f.kind = 0 → EndsDev (.rxGoodcrc p) s (fun e => e.txs p.val = l ∧ (f.sop ≤ 2 →
      e.get (H.txMid p.val f.sop) = (s.dev.get (H.txMid p.val f.sop) + 1) % 8))) ∧
    (f.kind = 4 → EndsDev (.rxGoodcrc p) s (fun e => e.txs p.val = l ∧ e.get (H.await p.val) = 2 ∧
      e.get (T.senderResp p.val) = (s.dev.now + 1920001) % 2 ^ 64)) ∧
    (s.dev.get (T.rx p.val) ≠ 0 → f.tries < 2 → (f.sop = 0 ∨ s.dev.get F.SYS_SUPPLY_VCONNLOW = 0) →
      EndsDev (.treceiveExpiry p) s (fun e => e.txs p.val = { f with tries := f.tries + 1 } :: l ∧
        OnlyRegs s.dev { e with txq := s.dev.txq } (txFields p.val))) ∧
    (s.dev.get (T.rx p.val) ≠ 0 → 2 ≤ f.tries → f.kind = 1 → s.dev.get (H.capsCnt p.val) < 49 →
      EndsDev (.treceiveExpiry p) s (fun e => e.txs p.val = l ∧ e.get (H.capsCnt p.val) = s.dev.get (H.capsCnt p.val) + 1 ∧
        e.get (T.sendCaps p.val) = (s.dev.now + 9600001) % 2 ^ 64)) := by
  refine ⟨fun hk => ?_, fun hk => ?_, fun hon ht hv => ?_, fun hon ht hk hcnt => ?_⟩
  · exact .of_okAt (f := (·.rxGoodCrc p.val)) rfl hcalm rfl (Dev.rxGoodCrc_plain s.dev p.isLt f l htx hk)
  · exact .of_okAt (f := (·.rxGoodCrc p.val)) rfl hcalm rfl (Dev.rxGoodCrc_request s.dev p.isLt f l htx hk)
  · exact .of_okAt (f := (·.rxTimeout p.val)) rfl hcalm rfl (Dev.rxTimeout_repeats s.dev p.isLt f l htx hon ht hv)
  · exact .of_okAt (f := (·.rxTimeout p.val)) rfl hcalm rfl (Dev.rxTimeout_caps s.dev p.isLt f l htx hon ht hk hcnt)

/-- The timers that end in a Hard_Reset. -/
theorem timers_hardReset {i : Instr} (hatt : s.dev.attached p.val = true)
    (hi : (i = .tsenderResponseExpiry p ∧ s.dev.get (T.senderResp p.val) ≠ 0 ∧ s.dev.get (H.await p.val) = 2) ∨
      (i = .ttypecSinkWaitCapExpiry p ∧ s.dev.get (T.waitCap p.val) ≠ 0 ∧ s.dev.get (H.hrTry p.val) < 2) ∨
      (i = .tpsTransitionExpiry p ∧ s.dev.get (T.psTrans p.val) ≠ 0 ∧ s.dev.get (H.psDone p.val) = 0) ∨
      (i = .tppsTimeoutExpiry p ∧ s.dev.get (T.ppsTo p.val) ≠ 0) ∨
      (i = .tsourceEprKeepaliveExpiry p ∧ s.dev.get (T.srcKeep p.val) ≠ 0)) :
    EndsDev i s (fun e => hardResetBegun s.dev e p.val) := by
  rcases hi with ⟨rfl, hon, haw⟩ | ⟨rfl, hon, htry⟩ | ⟨rfl, hon, hdone⟩ | ⟨rfl, hon⟩ | ⟨rfl, hon⟩
  · exact .of_okAt (f := fun d => d.onExpiry (T.senderResp p.val) (·.senderRespEnd p.val)) rfl hcalm rfl
      (Dev.senderResp_hard p.isLt hatt hon haw)
  · exact .of_okAt (f := fun d => d.onExpiry (T.waitCap p.val) (·.hardOrNoPd p.val)) rfl hcalm rfl (Dev.waitCap_hard p.isLt hatt hon htry)
  · exact .of_okAt (f := fun d => d.onExpiry (T.psTrans p.val) (·.psTransEnd p.val)) rfl hcalm rfl (Dev.psTrans_hard p.isLt hatt hon hdone)
  · exact .of_okAt (f := fun d => d.onExpiry (T.ppsTo p.val) (·.hardReset p.val)) rfl hcalm rfl (Dev.silence_hard p.isLt hatt (.inl rfl) hon)
  · exact .of_okAt (f := fun d => d.onExpiry (T.srcKeep p.val) (·.hardReset p.val)) rfl hcalm rfl
      (Dev.silence_hard p.isLt hatt (.inr rfl) hon)

/-- The periodic timers, and the others of the protocol layer. -/
theorem timers_end :
    (s.dev.get (T.sinkReq p.val) ≠ 0 → s.dev.permitted p.val = false → EndsDev (.tsinkRequestExpiry p) s (fun e =>
      e.get (H.reqHeld p.val) = 1 ∧ OnlyRegs s.dev e [H.reqHeld p.val, T.sinkReq p.val])) ∧
    (s.dev.get (T.sinkReq p.val) ≠ 0 → s.dev.permitted p.val = true → s.dev.pe p.val = 12 → EndsDev (.tsinkRequestExpiry p) s (fun e =>
      s.dev.sends e p.val ⟨0, 11, false, [], 11, 0⟩)) ∧
    (s.dev.get (T.ppsReq p.val) ≠ 0 → EndsDev (.tppsRequestExpiry p) s (fun e => e.getBit (H.want p.val) 2 = true ∧
      e.get (T.ppsReq p.val) = (s.dev.now + 320000001) % 2 ^ 64 ∧
      OnlyRegs s.dev e [H.want p.val, T.cmdStart p.val, T.ppsReq p.val])) ∧
    (s.dev.get (T.snkKeep p.val) ≠ 0 → EndsDev (.tsinkEprKeepaliveExpiry p) s (fun e => e.getBit (H.want p.val) 1 = true ∧
      e.get (T.snkKeep p.val) = (s.dev.now + 24000001) % 2 ^ 64 ∧
      OnlyRegs s.dev e [H.want p.val, T.cmdStart p.val, T.snkKeep p.val])) ∧
    (∀ (c : Cmd) (l : List Cmd), s.dev.get (T.enterEpr p.val) ≠ 0 → s.dev.get (H.cmdRun p.val) = 1 →
      s.dev.get (H.ceilCmdRun p.val) = 0 → s.dev.cmds p.val = c :: l →
      EndsDev (.tenterEprExpiry p) s (fun e => completed e p.val c l 3 ∧ e.get (T.enterEpr p.val) = 0)) ∧
    EndsDev (.tnoResponseExpiry p) s (fun e => e.get (T.noResp p.val) = 0 ∧ OnlyRegs s.dev e [T.noResp p.val]) ∧
    (s.dev.get (T.bist p.val) ≠ 0 → EndsDev (.tbistContModeExpiry p) s (fun e => e.get (H.bist p.val) = 0 ∧
      e.get (T.bist p.val) = 0 ∧ OnlyRegs s.dev e [H.bist p.val, T.bist p.val])) ∧
    EndsDev (.lineFree p) s (fun e => e.get (H.lineBusy p.val) = 0 ∧ e.get (T.lineFree p.val) = 0 ∧
      (s.dev.get (H.hpmPend p.val) = 1 → e.get (T.hpmCond p.val) = (s.dev.now + 1) % 2 ^ 64) ∧
      OnlyRegs s.dev e [H.lineBusy p.val, T.lineFree p.val, T.hpmCond p.val, H.ceilTick p.val, T.ownCeil p.val]) := by
  refine ⟨fun hon hperm => ?_, fun hon hperm hpe => ?_, fun hon => ?_, fun hon => ?_, fun c l hon hrun hceil hcmds => ?_, ?_, fun hon => ?_, ?_⟩
  · exact .of_okAt (f := fun d => d.onExpiry (T.sinkReq p.val) (·.requestAgain p.val)) rfl hcalm rfl (Dev.sinkReqEnd_held p.isLt hon hperm)
  · exact .of_okAt (f := fun d => d.onExpiry (T.sinkReq p.val) (·.requestAgain p.val)) rfl hcalm rfl
      (Dev.sinkReqEnd_vconn p.isLt hon hperm hpe)
  · exact .of_okAt (f := fun d => d.onExpiry (T.ppsReq p.val) (·.ppsAgain p.val)) rfl hcalm rfl
      (Dev.periodic_shows (n := msTicks 5000) (.inl rfl) hon (by decide))
  · exact .of_okAt (f := fun d => d.onExpiry (T.snkKeep p.val) (·.keepAliveDue p.val)) rfl hcalm rfl
      (Dev.periodic_shows (n := msTicks 375) (.inr rfl) hon (by decide))
  · exact .of_okAt (f := fun d => d.onExpiry (T.enterEpr p.val) (·.enterEprEnd p.val)) rfl hcalm rfl
      (Dev.enterEprEnd_shows p.isLt hon hrun hceil hcmds)
  · exact .of_okAt (f := fun d => d.stop (T.noResp p.val)) rfl hcalm rfl
      ⟨Dev.get_put_self _ _ _, (OnlyRegs.refl _ _).put _ 0 (by simp)⟩
  · exact .of_okAt (f := fun d => d.onExpiry (T.bist p.val) (fun e => e.clr (H.bist p.val))) rfl hcalm rfl (Dev.bistEnd_shows hon)
  · exact .of_okAt (f := (·.lineFreed p.val)) rfl hcalm rfl (Dev.lineFreed_shows p.isLt s.dev)

end

example (d : Dev) : (d.exEnd 3).get (H.swAcc 3) = d.get (H.swAcc 3) := (d.exEnd_keeps (by decide)).get _

/-- What the end of a query command shows (R239). -/
theorem query_ends {s : State} {p : Fin 24} {hdr : BitVec 16} {c : Cmd} {l : List Cmd} {i : Instr} {o : Nat}
    (haw : s.dev.get (H.await p.val) = 6) (hrun : s.dev.get (H.cmdRun p.val) = 1) (hceil : s.dev.get (H.ceilCmdRun p.val) = 0)
    (hcmds : s.dev.cmds p.val = c :: l)
    (hi : (s.hears p.val hdr.toNat = true ∧ ((i = .rxReject p hdr ∧ o = 1) ∨ (i = .rxNotSupported p hdr ∧ o = 2) ∨
      (i = .rxWait p hdr ∧ o = 4))) ∨ (s.dev.get (T.senderResp p.val) ≠ 0 ∧ i = .tsenderResponseExpiry p ∧ o = 3 ∧ s.calm p.val = true)) :
    EndsDev i s (fun e => completed e p.val c l o ∧ e.get (H.exOn p.val) = 0 ∧ e.get (H.await p.val) = 0) := by
  have hk := s.dev.heard_keeps p.isLt hdr.toNat
  have haw' : (s.dev.heard p.val hdr.toNat).get (H.await p.val) = 6 := (hk.get _).trans haw
  have hend (o : Nat) (ho : o < 16) := Dev.exchangeRefused_shows (d := s.dev.heard p.val hdr.toNat) p.isLt ho ((hk.get _).trans hrun)
    ((hk.get _).trans hceil) ((hk.cmds p.val).trans hcmds)
  rcases hi with ⟨hh, ⟨rfl, rfl⟩ | ⟨rfl, rfl⟩ | ⟨rfl, rfl⟩⟩ | ⟨hon, rfl, rfl, hcalm⟩
  · exact .of_heard (f := (·.rxReject p.val)) p.isLt rfl hh (Dev.rxReject_query haw' ▸ hend 1 (by decide))
  · exact .of_heard (f := (·.rxNotSupported p.val)) p.isLt rfl hh (Dev.rxNotSupported_query haw' ▸ hend 2 (by decide))
  · exact .of_heard (f := (·.rxWait p.val)) p.isLt rfl hh (Dev.rxWait_query haw' ▸ hend 4 (by decide))
  · have hstop : Keeps s.dev (s.dev.stop (T.senderResp p.val)) [T.senderResp 0] := (Keeps.refl _ _).stop
    have hshow := Dev.exchangeRefused_shows (outcome := 3) (d := s.dev.stop (T.senderResp p.val)) p.isLt (by decide) ((hstop.get _).trans hrun)
      ((hstop.get _).trans hceil) ((hstop.cmds p.val).trans hcmds)
    refine .of_okAt (f := fun d => d.onExpiry (T.senderResp p.val) (·.senderRespEnd p.val)) rfl hcalm rfl ?_
    rw [Dev.onExpiry_ends hon, Dev.senderRespEnd_query ((hstop.get _).trans haw)]
    exact hshow

section
variable {s : State} {p : Fin 24} {hdr : BitVec 16} (hh : s.hears p.val hdr.toNat = true)
include hh

/-- Capabilities that a sink hears (R194, R198, R211). -/
theorem sourceCaps_ends {epr : Bool} {objs : List Obj} (hsnk : s.dev.isSnk p.val = true) (hx : s.dev.get (H.xferOn p.val) = 0)
    (haw : s.dev.get (H.await p.val) ≠ 6) (hres : s.dev.get (H.resume p.val) = 0) :
    EndsDev (.rxSourceCapabilities p hdr epr objs) s (fun e =>
      e.pstg p.val 0x40 = (bits (s.dev.pstg p.val 0x40) 32 4 + 1) % 16 * 2 ^ 32 + hdr.toNat * 65536 +
        (if epr then (2 ^ 15 + 4 * objs.length) % 65536 else 0) ∧
      (∀ i : Fin 11, e.pstg p.val (0x20 + i.val) = (match objs[i.val]? with | some w => w.toNat | none => 0)) ∧
      e.get (F.PRT_PE_STAT_ASKCODE p.val) = 2 ∧ e.get (T.waitCap p.val) = 0) := by
  have hk := s.dev.heard_keeps p.isLt hdr.toNat
  obtain ⟨hcode, hwait, hstg⟩ := (s.dev.heard p.val hdr.toNat).rxSourceCaps_asks p.isLt hdr.toNat epr (objNats objs) ((hk.isSnk p.isLt).trans hsnk)
    ((hk.get _).trans hx) (by rw [hk.get (H.await p.val)]; exact haw) ((hk.get _).trans hres)
  obtain ⟨hhead, hobjs⟩ := (s.dev.heard p.val hdr.toNat).capsStored_pstg p.val hdr.toNat epr (objNats objs)
  refine .of_heard (f := (·.rxSourceCaps p.val hdr.toNat epr (objNats objs))) p.isLt rfl hh ⟨?_, fun i => ?_, hcode, hwait⟩
  · rw [Dev.pstg, Dev.stgRead, hstg]
    refine hhead.trans ?_
    rw [hk.pstg, Nat.mod_eq_of_lt hdr.isLt, objNats, List.length_map]
  · rw [Dev.pstg, Dev.stgRead, hstg]
    refine (hobjs i.val i.isLt).trans ?_
    rw [objNats, List.getD_eq_getElem?_getD, List.getElem?_map]
    cases objs[i.val]? with
    | none => rfl
    | some w => exact Nat.mod_eq_of_lt (by have := w.isLt; simp only [Option.map_some, Option.getD_some]; omega)

/-- Accept, Wait and PS_RDY (R207, R211). -/
theorem replies_end :
    (s.dev.get (H.await p.val) = 2 → EndsDev (.rxAccept p hdr) s (fun e => e.pe p.val = 10 ∧
      e.get (H.await p.val) = 0 ∧ e.get (H.snkMask p.val) = 1 ∧ e.get (H.xferOn p.val) = 1 ∧
      e.get (T.psTrans p.val) = (s.dev.now + (if s.dev.epr p.val then 925 else 500) * 64000 + 1) % 2 ^ 64)) ∧
    (s.dev.get (H.await p.val) = 2 → s.dev.get (H.waits p.val) < 2 → EndsDev (.rxWait p hdr) s (fun e =>
      e.get (H.await p.val) = 0 ∧ e.get (H.waits p.val) = s.dev.get (H.waits p.val) + 1 ∧
      e.get (T.sinkReq p.val) = (s.dev.now + 7040001) % 2 ^ 64)) ∧
    (s.dev.isSnk p.val = true → s.dev.get (T.psTrans p.val) ≠ 0 → s.dev.get (H.psDone p.val) = 0 →
      EndsDev (.rxPsRdy p hdr) s (fun e => e.get (H.psDone p.val) = 1 ∧ e.get (H.xferOn p.val) = 0 ∧
        e.get (H.maskEnd p.val) = (s.dev.now + 1280001) % 2 ^ 64 ∧
        e.get (T.psTrans p.val) = (s.dev.now + goodCrcTicks + 1) % 2 ^ 64 ∧
        e.get (F.PRT_HOLDSUM_SUM p.val) = s.dev.get (F.PRT_HOLDSUM_SUM p.val))) := by
  have hk := s.dev.heard_keeps p.isLt hdr.toNat
  have hepr : (s.dev.heard p.val hdr.toNat).epr p.val = s.dev.epr p.val := by rw [Dev.epr, Dev.bit, hk.get (F.PRT_PE_STAT_EPR p.val)]; rfl
  refine ⟨fun haw => ?_, fun haw hw => ?_, fun hsnk hon hdone => ?_⟩
  · have hshow := Dev.rxAccept_begins p.isLt ((hk.get _).trans haw)
    rw [hk.now, hepr] at hshow
    exact .of_heard (f := (·.rxAccept p.val)) p.isLt rfl hh hshow
  · have hwaits := hk.get (H.waits p.val)
    have hshow := Dev.rxWait_again ((hk.get (H.await p.val)).trans haw) (by rwa [hwaits])
    rw [hk.now, hwaits] at hshow
    exact .of_heard (f := (·.rxWait p.val)) p.isLt rfl hh hshow
  · have hon' : (s.dev.heard p.val hdr.toNat).get (T.psTrans p.val) ≠ 0 := by rwa [hk.get (T.psTrans p.val)]
    obtain ⟨hd, hx, hmask, htrans, hrest⟩ := Dev.rxPsRdy_done p.isLt ((hk.isSnk p.isLt).trans hsnk) hon' ((hk.get _).trans hdone)
    have heq : s.dev.psRdy p.val hdr.toNat = (s.dev.heard p.val hdr.toNat).rxPsRdy p.val := by
      have hacc : s.dev.bit (H.swAcc p.val) = false := by
        simp only [State.hears, Dev.listens, Bool.and_eq_true, Bool.not_eq_true'] at hh
        exact hh.1.1.1.2.1.1.1.2
      rw [Dev.psRdy, hacc, Bool.and_false, if_neg Bool.false_ne_true]
      exact State.rx_heard p.isLt (·.rxPsRdy p.val) hh
    rw [hk.now] at hmask htrans
    exact .of_okAt (f := (·.psRdy p.val hdr.toNat)) rfl (State.calm_of_hears hh) heq ⟨hd, hx, hmask, htrans, (hrest.get _).trans (hk.get _)⟩

/-- Requests that a source hears (R205). -/
theorem request_ends {rdo copy : Obj} (hsrc : s.dev.isSrc p.val = true) (hx : s.dev.get (H.xferOn p.val) = 0) (hpe : s.dev.pe p.val ≠ 4) :
    ((rdoPos rdo.toNat = 0 ∨ 12 ≤ rdoPos rdo.toNat) → ∀ epr, EndsDev (.rxRequest p hdr epr rdo copy) s (fun e =>
      s.dev.sends e p.val ⟨0, 4, false, [], 39, 0⟩)) ∧
    (s.dev.requestOk p.val false rdo.toNat copy.toNat = true → s.dev.explicit p.val = false →
      s.dev.get (H.resume p.val) = 0 → EndsDev (.rxRequest p hdr false rdo copy) s (fun e =>
        e.get (H.rdoNew p.val) = rdo.toNat ∧ e.get (F.PRT_PE_STAT_ASKCODE p.val) = 1 ∧ e.pe p.val = 3)) := by
  have hk := s.dev.heard_keeps p.isLt hdr.toNat
  have hsrc' := (hk.isSrc p.isLt).trans hsrc
  have hx' := (hk.get (H.xferOn p.val)).trans hx
  have hpe' : (s.dev.heard p.val hdr.toNat).pe p.val ≠ 4 := by rwa [Dev.pe, hk.get (F.PRT_PE_STAT_STATE p.val)]
  refine ⟨fun hpos epr => ?_, fun hok hexp hres => ?_⟩
  · have hsends := Dev.rxRequest_rejected p.isLt hsrc' hx' hpe' hpos epr copy.toNat
    rw [Dev.sends, hk.txs p.val] at hsends
    exact .of_heard (f := (·.rxRequest p.val epr rdo.toNat copy.toNat)) p.isLt rfl hh hsends
  · exact .of_heard (f := (·.rxRequest p.val false rdo.toNat copy.toNat)) p.isLt rfl hh
      (Dev.rxRequest_asks p.isLt hsrc' hx' hpe' rdo.isLt ((hk.requestOk p.isLt _ _ _).trans hok) ((hk.explicit p.isLt).trans hexp)
        ((hk.get _).trans hres))

/-- EPR_Mode (R209). -/
theorem eprMode_ends {data : BitVec 8} (hrev : s.dev.pd2 p.val = false) :
    (s.dev.isSrc p.val = true → s.dev.get (F.PRT_PE_CTRL_EPREN p.val) = 0 →
      EndsDev (.rxEprMode p hdr 1 data) s (fun e => s.dev.sends e p.val ⟨0, 42, false, eprMode 4 4, 34, 0⟩ ∧ e.pe p.val = 13)) ∧
    (s.dev.get (T.enterEpr p.val) ≠ 0 → s.dev.isSnk p.val = true → EndsDev (.rxEprMode p hdr 3 data) s (fun e =>
      e.get (F.PRT_PE_STAT_EPR p.val) = 1 ∧ e.get (F.PRT_PE_EVT_EPRCHG p.val) = 1 ∧ e.get (T.enterEpr p.val) = 0 ∧
      e.get (T.snkKeep p.val) = (s.dev.now + 24000001) % 2 ^ 64 ∧ e.pe p.val = 7)) := by
  have hk := s.dev.heard_keeps p.isLt hdr.toNat
  have hrev' : (s.dev.heard p.val hdr.toNat).pd2 p.val = false := by
    rw [Dev.pd2, hk.get (F.PRT_PE_STAT_REV p.val)]
    exact hrev
  refine ⟨fun hsrc hen => ?_, fun hon _ => ?_⟩
  · obtain ⟨hsends, hpe⟩ := Dev.rxEprMode_refused p.isLt hrev' ((hk.isSrc p.isLt).trans hsrc) ((hk.get _).trans hen) data.toNat
    rw [Dev.sends, hk.txs p.val] at hsends
    exact .of_heard (f := (·.rxEprMode p.val 1 data.toNat)) p.isLt rfl hh ⟨hsends, hpe⟩
  · have hon' : (s.dev.heard p.val hdr.toNat).get (T.enterEpr p.val) ≠ 0 := by rwa [hk.get (T.enterEpr p.val)]
    have hshow := Dev.rxEprMode_entered p.isLt hrev' hon' data.toNat
    rw [hk.now] at hshow
    exact .of_heard (f := (·.rxEprMode p.val 3 data.toNat)) p.isLt rfl hh hshow

end

example (d : Dev) : (d.heard 3 0).get (H.await 3) = d.get (H.await 3) := (d.heard_keeps (by decide) 0).get _

/-- The answer to SRC_OFFER, and the load of a default (R227, R231). -/
theorem answers_end {s u : State} {a : Agent} {p : Fin 24} {v : Word} {act : Nat} (hact : act = bits v.toNat 16 3)
    (hu : u = s.onDev (fun d => d.touch a)) :
    (u.keepsPort p.val = true → u.answerLate a p.val = false → u.dev.get (F.PRT_PE_STAT_ASKPEND p.val) = 1 →
      bits v.toNat 24 12 = u.dev.get (F.PRT_PE_STAT_ASKSER p.val) →
      bits v.toNat 20 4 = 0 → u.dev.get (F.PRT_PE_STAT_ASKCODE p.val) = 0 → u.dev.now + 1 < u.dev.get (T.ask p.val) →
      act ≤ 1 → EndsDev (.askAnswer a p v) s (fun e => e.get (F.PRT_PE_STAT_ASKPEND p.val) = 0 ∧
        e.get (H.offerOk p.val) = 1 ∧ e.get (H.offerMask p.val) = (if act = 1 then
          u.dev.get (F.PRT_ASK_ARG_ARG p.val a.copy) % 2048 ||| 1 else 2047) ∧
        OnlyRegs u.dev e [F.PRT_PE_STAT_ASKPEND p.val, T.ask p.val, H.offerOk p.val, H.offerMask p.val,
          T.capsReady p.val])) ∧
    (u.keepsPort p.val = true → (u.answerLate a p.val = true ∨ u.dev.get (F.PRT_PE_STAT_ASKPEND p.val) = 0 ∨
      bits v.toNat 24 12 ≠ u.dev.get (F.PRT_PE_STAT_ASKSER p.val) ∨
      u.dev.get (T.ask p.val) ≤ u.dev.now + 1) → EndsDev (.askAnswer a p v) s (fun e =>
        e.get (F.PRT_PE_EVT_ANSLATE p.val) = 1 ∧
        ∀ f : Fld, f.quiet = true → f.key ≠ (F.PRT_PE_EVT_ANSLATE p.val).key → e.get f = u.dev.get f)) ∧
    (u.dev.isRom a = true → (8 < bits v.toNat 32 4 ∨ actAllowed (bits v.toNat 32 4) (bits v.toNat 28 3) = true) →
      EndsDev (.ddtLoad a p v) s (fun e => e.pstg p.val (0x30 + bits v.toNat 32 4) = v.toNat % 2 ^ 32 ∧
        OnlyRegs u.dev { e with stg := u.dev.stg } [])) ∧
    (u.dev.isRom a = false → EndsDev (.ddtLoad a p v) s (fun e => e.get (F.PRT_PE_EVT_DDTWR p.val) = 1 ∧
      e.stg = u.dev.stg)) := by
  have hans (hkeep : u.keepsPort p.val = true) : exec (.askAnswer a p v) s =
      .next (u.onDev (·.askAnswer a (u.answerLate a p.val) p.val v.toNat)) := by
    have hexec : exec (.askAnswer a p v) s = .next (u.askAnswer a p.val v.toNat) := by
      rw [hu]
      rfl
    rw [hexec, State.askAnswer, State.detachFirst_keepsPort hkeep]
  have hload : exec (.ddtLoad a p v) s = .next (u.onDev (·.ddtLoad a p.val v.toNat)) := by
    rw [hu]
    rfl
  subst hact
  refine ⟨fun hkeep hl hpend hser hcode0 hcode htime hle => ?_, fun hkeep hno => ?_, fun hrom hok => ?_, fun hrom => ?_⟩
  · refine .of_accessed hu (hans hkeep) (Dev.askAnswer_offer_shows ?_ (Dev.askAnswer_offer hl hpend hser hcode0 hcode htime hle))
    split
    · exact Nat.or_lt_two_pow (n := 11) (Nat.mod_lt _ (by decide)) (by decide)
    · decide
  · exact .of_accessed hu (hans hkeep) (Dev.askAnswer_late p.isLt hno)
  · exact .of_accessed hu hload (Dev.ddtLoad_rom hrom hok)
  · exact .of_accessed hu hload (Dev.ddtLoad_other p.isLt hrom)

/-- Settles O57: each message, timer and answer goes through the lemma about the function it runs. -/
theorem negotiationAndProtocolTimersComplete : Obligations.NegotiationAndProtocolTimersComplete := by
  unfold Obligations.NegotiationAndProtocolTimersComplete
  refine ⟨fun s p f l hcalm htx => frame_ends hcalm htx, ?_, fun s p hdr epr objs hh hsnk hx haw hres => sourceCaps_ends hh hsnk hx haw hres,
    fun s p hdr hh => replies_end hh, ?_, fun s p hdr c l i o haw hrun hceil hcmds hi => query_ends haw hrun hceil hcmds hi,
    fun s p hdr rdo copy hh hsrc hx hpe => request_ends hh hsrc hx hpe, fun s p hdr data hh hrev => eprMode_ends hh hrev,
    fun s p i hcalm hatt hi => timers_hardReset hcalm hatt hi, ?_, ?_, fun s p hcalm => timers_end hcalm, ?_,
    fun s a p v act u hact hu => answers_end hact hu⟩
  · intro s p g hcalm hsrc hg
    subst hg
    have hframe {t : Fld} (h : (s.dev.stop t).get (H.offerEpr p.val) = s.dev.get (H.offerEpr p.val)) : (s.dev.stop t).capsFrame p.val =
        if s.dev.get (H.offerEpr p.val) = 0 then ⟨0, 33, false, ((s.dev.stop t).offerObjs p.val).1, 1, 0⟩
        else ⟨0, 81, true, extObjs 44 0 (padTo 11 ((s.dev.stop t).offerObjs p.val).1), 1, 0⟩ := by rw [Dev.capsFrame, h]
    refine ⟨fun hdue hok hv hdisc hcap htx haw htimer hown => ?_, fun hon => ?_⟩
    · have hshow := s.dev.capsReadyNow_sends p.isLt hsrc hdue hok hv hdisc hcap htx haw htimer hown
      rw [hframe (Dev.get_put_ne _ _ (by simp only [hkey]; omega))] at hshow
      exact .of_okAt (f := (·.capsReadyNow p.val)) rfl hcalm rfl hshow
    · have hshow := s.dev.capsAgain_sends p.isLt hsrc hon
      rw [hframe (Dev.get_put_ne _ _ (by simp only [hkey]; omega))] at hshow
      exact .of_okAt (f := fun d => d.onExpiry (T.sendCaps p.val) (·.capsAgain p.val)) rfl hcalm rfl hshow
  · intro s p hcalm hon hdone hacc hk
    have hstop : Keeps s.dev (s.dev.stop (T.psTrans p.val)) [T.psTrans 0] := (Keeps.refl _ _).stop
    have hnew := hstop.get (H.newCon p.val)
    have hshow := Dev.psTransEnd_effect (s.dev.stop (T.psTrans p.val)) p.isLt ((hstop.get _).trans hdone) ((hstop.get _).trans hacc) (hnew ▸ hk)
    rw [hnew] at hshow
    exact .of_okAt (f := fun d => d.onExpiry (T.psTrans p.val) (·.psTransEnd p.val)) rfl hcalm (Dev.onExpiry_ends hon _) hshow
  · intro s p hdr hver
    refine ⟨fun hcalm hl hrep hbist => ?_, fun hcalm hacc hon => ?_⟩
    · have hk := s.dev.heard_keeps p.isLt hdr.toNat
      exact .of_okAt (f := fun d => d.rxAny p.val hdr.toNat (·.rxSoftReset p.val hdr.toNat)) rfl hcalm
        (s.dev.rxAny_listens p.isLt hdr.toNat _ hl hrep hbist) (Dev.rxSoftReset_shows p.isLt hdr.toNat ((hk.get _).trans hver))
    · exact .of_okAt (f := fun d => d.onExpiry (T.chunk p.val) (·.protFail p.val)) rfl hcalm rfl (Dev.chunkEnd_soft p.isLt hon hacc hver)
  · intro s p hcalm hmode hatt hpd hacc
    exact .of_okAt (f := (·.rxHardReset p.val)) rfl hcalm rfl (Dev.rxHardReset_recovers p.isLt hmode hatt hpd hacc)
  · intro s p hcalm hon hpend hcode hdef
    exact .of_okAt (f := (·.askExpire p.val)) rfl hcalm rfl (Dev.askExpire_offer p.isLt hon hpend hcode hdef)

end Sys2Proof.Machine
